-- ==== Sys2Proof/Word.lean ====
section
/-! DEFINITION. The word types of the PLV9600 model: what the spec treats as bits. Counts, sizes and measured
quantities are `Nat` or `Int`. -/

namespace Sys2Proof

/-- A byte of a packet, of flash or of a core's memory. -/
abbrev Byte := BitVec 8

/-- A half word: headers, addresses of a core, message headers. -/
abbrev Half := BitVec 16

/-- A 32-bit word: parameters (R397), data objects, queue words (R420). -/
abbrev Word := BitVec 32

/-- A beat stamp: the 48-bit beat counter (R8, R41). -/
abbrev Beat := BitVec 48

/-- Beats from `t0` to `t1`, modulo 2^48 (R42). -/
def Beat.since (t1 t0 : Beat) : Nat := (t1 - t0).toNat

/-- `t1` is later than `t0`: (t1 − t0) mod 2^48 lies in 1 to 2^47 − 1 (R42). -/
def Beat.later (t1 t0 : Beat) : Bool := 1 ≤ Beat.since t1 t0 && Beat.since t1 t0 < 2 ^ 47

end Sys2Proof
end

