-- ==== Sys2Proof/Syntax.lean ====
section
/-! DEFINITION. The commands of the PLV9600: one constructor of `Instr` for each row of spec/opcode_table.json.
A constructor's operands are what the outside gives the module in that step: which port, core, feed or stream it
concerns, and what was observed on a ball (voltages, currents, samples, bytes). -/

namespace Sys2Proof

/-- A port, P0–P95 (R15). -/
abbrev PortId := Fin 96

/-- A cluster, C0–C7 (R15). -/
abbrev ClusterId := Fin 8

/-- A Sorrel core, S0–S8 (R17). -/
abbrev CoreId := Fin 9

/-- A queue, Q0–Q127 (R424). -/
abbrev QueueId := Fin 128

/-- The stream a command came over (R255, R340, R379). -/
inductive Stream where
  | host       -- Q0 and Q1, replies in Q8, events in Q9
  | service    -- Q7, replies and events in Q15
  | forwarded  -- Q88, replies in Q89
  | ended      -- Q7 still, commands that an ended session of the service mode left there: their replies are discarded (R252)
  deriving DecidableEq, Repr

/-- S8 reserves cells for a command's answers (R445): those of a forwarded command go out as frames, those of an ended session are
discarded. -/
def Stream.reserves (st : Stream) : Bool := st == .host || st == .service

/-- A CC line of a port. -/
inductive Line where
  | cc1 | cc2
  deriving DecidableEq, Repr

/-- A trunk feed (R301). -/
inductive Feed where
  | a | b
  deriving DecidableEq, Repr

/-- A Yarrow port (R324). -/
inductive YPort where
  | ya | yb
  deriving DecidableEq, Repr

/-- A protocol target (R157). -/
inductive Tgt where
  | sop | sop1 | sop2
  deriving DecidableEq, Repr

/-- What a packet on a CC line begins with (R159). -/
inductive SopKind where
  | sop (t : Tgt)
  | debug        -- Debug SOP′ or SOP″ (R5)
  | cableReset   -- Cable Reset signalling, ignored (R159)
  deriving DecidableEq, Repr

/-- One slot of a CC line (R92, R129): V(CCx) − V(GSN) in µV, whether the slot holds a transition, and whether the moisture
excitation drives the line in it. -/
structure CcSample where
  uv : Int
  edge : Bool
  excited : Bool
  deriving DecidableEq, Repr

/-- The slots of a beat on the two CC lines. -/
structure CcSlots where
  line1 : List CcSample
  line2 : List CcSample
  deriving DecidableEq, Repr

/-- What a GoodCRC's header names (R159, R164): the MessageID and the Cable Plug bit. -/
structure CrcHead where
  id : BitVec 3
  plug : Bool
  deriving DecidableEq, Repr

/-- One slot sample of a window or gate monitor (R284, R285): the input in mV, and the ns since what opens the monitor's blanking
window: the last PWM edge of the port, or the start of the last changeover. -/
structure MonSample where
  mv : Int
  since : Nat
  deriving DecidableEq, Repr

/-- A monitor of a port (R282, R287). -/
inductive PortMon where
  | vbs | vbl | gate
  deriving DecidableEq, Repr

/-- A gate with a monitor: a port's pass switch, or a feed's FETs (R287, R302). -/
inductive Gate where
  | port (p : PortId)
  | feed (f : Feed)
  deriving DecidableEq, Repr

/-- A monitor that can be blanked (R285): a feed or the trunk monitor with the µs, on the die's own slots, in which it has counted no
sample. -/
inductive BlankedMon where
  | port (p : PortId) (m : PortMon)
  | feed (f : Feed) (us : Nat)
  | trunk (us : Nat)
  deriving DecidableEq, Repr

/-- What a calibration step measured (R93). -/
inductive CalObs where
  | offsets (vbs gsn : Int)          -- averaged offsets, 0.1 mV
  | conductor (without with10 : Int) -- GSN against module ground without and with 10.00 mA, µV
  | capacitance (v1 v2 : Nat)        -- V of CC1 and CC2 after 500 ns, µV
  | gain (vbh vbs : Int)             -- conversions of VBH and VBS−GSN, 0.1 mV, no load
  | drop (vbh vbs : Int)             -- the same with the bleeder on
  | release (beats : Nat)            -- beats until VBS < 0.10 V
  | termination                      -- a CC termination was seen during step 3 or 4 (R95)
  deriving DecidableEq, Repr

/-- A training window at its end, as the sampler gives it, with what decides its acceptance (R136, R137). Times in 125 ps units,
levels in mV, `m` in 1/1,024 UI. -/
inductive TrainObs where
  | tx (whole overlapped : Bool) (tR tF : Nat) (vH vL : Int)        -- sent to EOP; the partner's transitions overlapped
  | rx (sop wellFormed crcOk : Bool) (vH vL : Int) (m ui : Nat)     -- an SOP packet; well formed (R128); its CRC verifies
  deriving DecidableEq, Repr

/-- What a reading of a packet's cells finds (R437–R439). -/
inductive CellObs where
  | sound     -- parity and pool CRC verify
  | crc       -- the pool CRC fails, and no word fails parity
  | parity    -- a data or length word fails parity
  | link      -- a link word fails parity
  deriving DecidableEq, Repr

/-- A packet as it arrives on a CC line (R128, R159, R160): the 16-bit header and the bytes after it up to the CRC,
whether it was well formed and its CRC verified, and what a reading of its cells will find (log 91). -/
structure WirePacket where
  sop : SopKind
  header : Half
  body : List Byte
  wellFormed : Bool
  crcOk : Bool
  flaw : CellObs
  deriving DecidableEq, Repr

/-- A message whose pool check fails as it goes out (R168): its port, and what the reading of its cells has found. -/
structure TxCheck where
  port : PortId
  obs : CellObs
  deriving DecidableEq, Repr

/-- The packet bytes of a WRITE on the lines, trailer included (R365), and what a reading of their cells will find (log 91). -/
structure HostPacket where
  bytes : List Byte
  flaw : CellObs
  deriving DecidableEq, Repr

/-- What came with a Yarrow frame: the bits of its preamble, its CRC-32 on the pair (R326), and what a reading of its cells will find
(log 91). -/
structure YRecv where
  preamble : Nat
  crc : Word
  flaw : CellObs
  deriving DecidableEq, Repr

/-- What a Yarrow port meets as a transmission is due (R325, R328): a carrier, or a free pair and what the reading of the packet's
cells found. -/
inductive YLine where
  | carrier
  | clear (obs : CellObs)
  deriving DecidableEq, Repr

/-- A Yarrow frame's 80-bit header and payload (R326). -/
structure YFrame where
  dst : BitVec 12
  src : BitVec 12
  hops : BitVec 12
  type : Byte
  flags : BitVec 4
  seq : Half
  payload : List Byte
  deriving DecidableEq, Repr

/-! ## Sorrel operations (R465–R481) -/

/-- An operand specifier of R469. `ext` of `based` is the number of displacement bytes, 0 to 2; `size` of `imm` is 1, 2
or 4. -/
inductive Opnd where
  | reg (n : Fin 8)
  | based (n : Fin 8) (ext : Fin 3) (d : Half)
  | postInc (n : Fin 8)
  | preDec (n : Fin 8)
  | indexed (n m : Fin 8) (scale : Fin 4)
  | abs (a : Half)
  | imm (size : Fin 3) (v : Word)     -- size code 0: one byte, 1: two bytes, 2: four bytes
  | bit (b : BitVec 13)
  | bitInd (n : Fin 8)
  deriving DecidableEq, Repr

/-- A repeat prefix (R467): REP or REPN, immediate count or register. -/
structure RepPre where
  interruptible : Bool
  count : Half ⊕ Fin 8
  deriving DecidableEq, Repr

/-- Operation width (R467): 8, 16 or the unprefixed 32 bits. -/
inductive Width where
  | w8 | w16 | w32
  deriving DecidableEq, Repr

/-- The prefixes of one operation, in the order of R468, and its S bit (R465). -/
structure Pre where
  last : Bool
  rep : Option RepPre
  code : Bool
  width : Option Width
  nf : Bool
  deriving DecidableEq, Repr

/-- The two forms of an X operation with two sources (R473). -/
inductive XForm where
  | two (d s : Opnd)
  | three (d s1 s2 : Opnd)
  deriving DecidableEq, Repr

inductive XBin where
  | add | adc | sub | sbc | and | or | xor | andn | shl | shr | sar | rol | ror
  | mul | mulh | mulhu | div | divu | rem | remu | min | max
  deriving DecidableEq, Repr

inductive XUn where
  | neg | not | abs | clz
  deriving DecidableEq, Repr

/-- Conditions of R481. -/
inductive Cond where
  | always | z | nz | c | nc | n | nn | v | nv | slt | sge | sle | sgt | ule | ugt
  deriving DecidableEq, Repr

/-- One decoded Sorrel operation, less its prefixes. -/
inductive SOp where
  | xbin (o : XBin) (f : XForm)
  | xun (o : XUn) (d s : Opnd)
  | cmp (s1 s2 : Opnd)
  | tst (s1 s2 : Opnd)
  | set (b : Opnd) | clr (b : Opnd) | inv (b : Opnd) | tset (b : Opnd) | btst (b : Opnd) | bst (b : Opnd)
  | bmov (bd bs : Opnd)
  | mov (d s : Opnd) | movz (d s : Opnd) | movs (d s : Opnd) | lea (d s : Opnd)
  | push (s : Opnd) | pop (d : Opnd) | nop
  | qopen (q : Opnd) | qpush (q s : Opnd) | qend (q s n : Opnd) | qabort (q : Opnd) | qpop (d q : Opnd) (obs : CellObs)
  | branch (cond : Cond) (t : Opnd)
  | branchBit (v : Bool) (b t : Opnd)
  | loop (r t : Opnd)
  | call (t : Opnd) | ret | beatend
  deriving DecidableEq, Repr

/-- Why a bundle is illegal although no constructor of `SOp` spells it (R484). -/
inductive IllegalWhy where
  | undefinedOpcode | reservedPrefix | reservedOperand | tooLong
  deriving DecidableEq, Repr

/-- The commands of the module, in the order of spec/opcode_table.json. -/
inductive Instr where
  | serviceDomainPowerOn (vsvcHeld testen refEdges : Bool)
  | mainDomainRelease
  | mainLoss
  | feedGuardStart (va vb : Int) (s0 s1 s2 s3 : Fin 8)
  | feedGuardStop (samples : List Int)
  | resetNAssert
  | resetNRelease
  | bootRomStart
  | refLoss
  | refRestored
  | afeLink (d : Fin 4)
  | afeLinkRestore (d : Fin 4)
  | feedLinkLost
  | feedLinkUp
  | beat
  | beatEntry (k : CoreId)
  | beatOverrun (k : CoreId)
  | repeatPause (k : CoreId)
  | ccStateUpdate (p : PortId) (lines : CcSlots) (gsn : Int)
  | ccDebounceExpiry (p : PortId)
  | pdDebounceExpiry (p : PortId)
  | tryCcDebounceExpiry (p : PortId)
  | drpToggleExpiry (p : PortId)
  | drpTryExpiry (p : PortId)
  | tryWaitExpiry (p : PortId)
  | tryTimeoutExpiry (p : PortId)
  | errorRecoveryExpiry (p : PortId)
  | srcDisconnectExpiry (p : PortId)
  | sinkDetach (p : PortId)
  | rdCheckComplete (p : PortId) (l : Line) (uv1 uv2 : Int)
  | attachSrcEntry (p : PortId)
  | harnCalStep (p : PortId) (o : CalObs)
  | harnCalDeferredStart (p : PortId)
  | bleederOvervoltage (p : PortId)
  | harnDrift (p : PortId)
  | moistureSweepEnd (p : PortId) (z : List Nat) (o : List Int) (rd1 rd2 : Bool)
  | dryRecheckExpiry (p : PortId)
  | vbusLeak (p : PortId) (sbu2 : Bool) (mv1 mv2 : Int)
  | ccLeakTrip (p : PortId) (l : Line) (samples : List Int)
  | vconnOc (p : PortId) (limitEvent : Bool)
  | cnVconnMonitor (c : ClusterId) (samples : List Int)
  | clusterTrimComplete (c : ClusterId) (badRp badRd : List PortId) (zeros0 zeros1 : List Int)
  | adcTrimUpdate (c : ClusterId) (second : Bool) (zeros refs : List Int)
  | adcStale (c : ClusterId) (second : Bool)
  | trainingSample (p : PortId) (o : TrainObs)
  | shadowApply (p : PortId) (idle : Nat)
  | packetReceive (p : PortId) (w : WirePacket)
  | goodcrcTransmit (p : PortId) (idle : Nat)
  | hardResetReceived (p : PortId)
  | txAttemptStart (p : PortId) (idle : Nat)
  | goodcrcReceived (p : PortId) (t : Tgt) (h : CrcHead)
  | receiveTimeout (p : PortId)
  | txCollisionAbort (p : PortId)
  | txIntegrity (e : TxCheck)
  | hardResetSend (p : PortId) (idle : Nat)
  | hrTimeout (p : PortId)
  | request (p : PortId)
  | decisionDeadline (id : Nat)
  | sourceCapabilities (p : PortId)
  | accept (p : PortId)
  | reject (p : PortId)
  | wait (p : PortId)
  | psRdy (p : PortId)
  | prSwap (p : PortId)
  | drSwap (p : PortId)
  | vconnSwap (p : PortId)
  | softReset (p : PortId)
  | eprModeEnter (p : PortId)
  | eprModeExit (p : PortId)
  | chunkRequest (p : PortId)
  | extendedChunk (p : PortId)
  | getRevision (p : PortId)
  | unsupportedMessage (p : PortId)
  | unexpectedMessage (p : PortId)
  | structuredVdmRx (p : PortId)
  | unstructuredVdmRx (p : PortId)
  | attention (p : PortId)
  | serviceEnterMode (p : PortId)
  | serviceExitMode (p : PortId)
  | svcXfer (p : PortId)
  | svcSync (p : PortId)
  | capabilityBuild (p : PortId)
  | sinkAmsStart (p : PortId)
  | sinkFirstMessageWithdraw (p : PortId)
  | sinkTxExpiry (p : PortId)
  | senderResponseTimeout (p : PortId)
  | typecSendSourceCapExpiry (p : PortId)
  | srcTransitionExpiry (p : PortId)
  | srcTransitionComplete (p : PortId)
  | transFail (p : PortId)
  | psTransitionTimeout (p : PortId)
  | psSourceOffTimeout (p : PortId)
  | psSourceOnTimeout (p : PortId)
  | psHardResetExpiry (p : PortId)
  | safe0vReached (p : PortId)
  | safe0vTimeout (p : PortId)
  | srcRecoverExpiry (p : PortId)
  | sinkVbusReturn (p : PortId)
  | sinkRecoveryBound (p : PortId)
  | noResponseTimeout (p : PortId)
  | sinkWaitCapTimeout (p : PortId)
  | sinkRequestExpiry (p : PortId)
  | chunkSenderRequestTimeout (p : PortId) (t : Tgt)
  | chunkSenderResponseTimeout (p : PortId) (t : Tgt)
  | vdmSenderResponseTimeout (p : PortId) (t : Tgt)
  | vdmWaitModeTimeout (p : PortId)
  | vdmBusyRetry (p : PortId)
  | discoverIdentityExpiry (p : PortId)
  | sinkEprEnterTimeout (p : PortId)
  | sourceEprKeepaliveTimeout (p : PortId)
  | sinkEprKeepaliveExpiry (p : PortId)
  | ppsTimeout (p : PortId)
  | ppsRequestExpiry (p : PortId)
  | ppsUndervoltage (p : PortId)
  | dropExcess (p : PortId)
  | swapMessageSend (p : PortId)
  | swapRequestTimeout (p : PortId)
  | swapBackoffExpiry (p : PortId)
  | prSwapVbusOff (p : PortId)
  | swapFail (p : PortId)
  | prSwapIdleHeld (p : PortId)
  | prSwapSinkGateOn (p : PortId)
  | prSwapSourceRamp (p : PortId)
  | prSwapSourceReady (p : PortId)
  | swapSourceStartExpiry (p : PortId)
  | swapWindowExceeded (p : PortId)
  | vconnSourceTimeout (p : PortId)
  | vconnSwapOnConfirm (p : PortId)
  | vconnSwapOnTimeout (p : PortId)
  | loopUpdate (p : PortId) (vbs ibus aux : Int)
  | peakCurrentTrip (p : PortId) (mv : Int) (ns : Nat)
  | stageStart (p : PortId)
  | harnessDischargeEnd (p : PortId)
  | dischargeRunEnd (p : PortId)
  | dischargeFail (p : PortId)
  | senIdleTimeout (c : ClusterId)
  | trunkValueDelivery (mv : Nat)
  | trunkStale
  | stageUv (p : PortId)
  | stageUvRestart (p : PortId)
  | ilsFault (p : PortId)
  | stageHeadroom (p : PortId)
  | loopSat (p : PortId)
  | windowMonitorDecision (p : PortId) (m : PortMon) (samples : List MonSample)
  | monBlanked (m : BlankedMon)
  | gateFullyOn (g : Gate) (samples : List MonSample)
  | gateBelowOff (g : Gate) (samples : List MonSample)
  | fetGate (p : PortId)
  | currentLimitEnter (p : PortId) (ma : Int)
  | ilimTimeout (p : PortId)
  | faultTimerClear (p : PortId)
  | fastTrip (p : PortId) (ma : Int)
  | tripCountReset (p : PortId)
  | thermalModelUpdate (p : PortId)
  | tsnFault (p : PortId)
  | feedVinWindow (f : Feed) (samples : List MonSample)
  | insertionDelayExpiry (f : Feed) (us : Nat)
  | bbmExpiry (us : Nat)
  | changeoverGateTimeout (us : Nat)
  | feedRampTimeout (f : Feed) (us : Nat)
  | pgQualExpiry (f : Feed) (us : Nat)
  | feedLimitStart (f : Feed) (uv : Int)
  | feedFaultTimerExpiry (f : Feed) (us : Nat)
  | feedFaultTimerClear (f : Feed) (us : Nat)
  | feedFastTrip (f : Feed) (uv : Int)
  | feedOvertemp (f : Feed) (t1 t2 : Int)
  | feedCoolExpiry (f : Feed) (us : Nat)
  | noFeedOn (us : Nat)
  | brownoutEnter (samples : List MonSample)
  | brownoutExit (samples : List MonSample)
  | budgetAllocation
  | dieTemp (sensor : Fin 5) (temps : List Int)
  | snapshotWrite (ok : Bool)
  | write (mirrorDone : Bool) (packet : HostPacket)
  | read (mirrorDone : Bool) (clocked : Nat) (obs : CellObs)
  | status (mirrorDone : Bool)
  | unknownTypeByte (mirrorDone : Bool) (b : Byte)
  | echo (st : Stream)
  | identify (st : Stream)
  | readyMap (st : Stream)
  | paramGet (st : Stream)
  | paramSet (st : Stream)
  | keyRevokeBurn (st : Stream)
  | phyRetrain (st : Stream)
  | hostCfgWrite (st : Stream)
  | paramCommit (st : Stream)
  | paramCommitComplete (ok : Bool)
  | coldReq (st : Stream)
  | warm (st : Stream)
  | ports (st : Stream)
  | resetDeferredStart
  | timeGet (st : Stream)
  | portConfig (st : Stream)
  | portDisable (st : Stream)
  | portEnable (st : Stream)
  | portEnableRecalibrate (st : Stream)
  | portStatus (st : Stream)
  | portCalStatus (st : Stream)
  | portMoistureRead (st : Stream)
  | portMoistureRecheck (st : Stream)
  | portErrorRecovery (st : Stream)
  | policyWrite (st : Stream)
  | policyRead (st : Stream)
  | decide (st : Stream)
  | pdoTemplateWrite (st : Stream)
  | pdSend (st : Stream)
  | pdLastRx (st : Stream)
  | pdSoftReset (st : Stream)
  | pdHardReset (st : Stream)
  | pdCableReset (st : Stream)
  | swapRequestPr (st : Stream)
  | swapRequestDr (st : Stream)
  | swapRequestVconn (st : Stream)
  | vdmDiscoverIdentity (st : Stream)
  | vdmDiscoverSvids (st : Stream)
  | vdmDiscoverModes (st : Stream)
  | vdmSend (st : Stream)
  | modeEnter (st : Stream)
  | modeExit (st : Stream)
  | svidTableRead (st : Stream)
  | budgetSet (st : Stream)
  | budgetStatus (st : Stream)
  | budgetGroupConfig (st : Stream)
  | stageConfig (st : Stream)
  | stageStatus (st : Stream)
  | guardConfig (st : Stream)
  | feedConfigApply (st : Stream)
  | feedReleaseA (st : Stream)
  | feedReleaseB (st : Stream)
  | feedStatus (st : Stream)
  | faultStatus (st : Stream)
  | faultClearLatch (st : Stream)
  | faultClearRaised (st : Stream)
  | faultClearLog (st : Stream)
  | faultSeverityRead (st : Stream)
  | faultSeverityWrite (st : Stream)
  | faultForceSet (st : Stream)
  | faultForceClear (st : Stream)
  | logReadFault (st : Stream)
  | logReadStage (st : Stream)
  | logReadSnapshotList (st : Stream)
  | logReadSnapshot (st : Stream)
  | queueStatus (st : Stream)
  | queueFlush (st : Stream)
  | queueFlushAct (q : QueueId)
  | eventSubscribe (st : Stream)
  | imageBeginNew (st : Stream)
  | imageEraseComplete (ok : Bool)
  | imageBeginResume (st : Stream)
  | imageData (st : Stream)
  | imageVerify (st : Stream)
  | imageVerifyComplete
  | imageCommit (st : Stream)
  | imageStatus (st : Stream)
  | sorrelLoadExt (st : Stream)
  | sorrelCtrlStatus (st : Stream)
  | sorrelCtrlStop (st : Stream)
  | sorrelCtrlStart (st : Stream)
  | extensionCall (k : CoreId)
  | yarrowStatus (st : Stream)
  | yarrowNodeAssignSet (st : Stream)
  | yarrowNodeAssignChain (st : Stream)
  | yarrowForward (st : Stream)
  | unknownOpcode (st : Stream)
  | factoryCommand (st : Stream)
  | yarrowFrameReceive (y : YPort) (fr : YFrame) (recv : YRecv) (outBusy : Bool)
  | yarrowTransmitStart (y : YPort) (idleBits : Nat) (line : YLine)
  | link (y : YPort)
  | linkSend (y : YPort)
  | yarrowLink (y : YPort)
  | idAssign (y : YPort)
  | heartbeat (y : YPort)
  | heartbeatSend
  | heartbeatMissed
  | listenWindowEnd
  | elect (y : YPort)
  | electWindowEnd
  | report (y : YPort)
  | reportSend
  | ledgerScan
  | ledgerStale (node : Fin 4096)
  | grant (y : YPort)
  | fwdCmd (y : YPort)
  | fwdReply (y : YPort)
  | forwardTimeout (node : Fin 4096)
  | seqSourceExpiry (node : Fin 4096)
  | quarantineScanEnd (q : QueueId)
  | coalescingEnd
  | add (k : CoreId) (h : Pre) (f : XForm)
  | adc (k : CoreId) (h : Pre) (f : XForm)
  | sub (k : CoreId) (h : Pre) (f : XForm)
  | sbc (k : CoreId) (h : Pre) (f : XForm)
  | and (k : CoreId) (h : Pre) (f : XForm)
  | or (k : CoreId) (h : Pre) (f : XForm)
  | xor (k : CoreId) (h : Pre) (f : XForm)
  | andn (k : CoreId) (h : Pre) (f : XForm)
  | shl (k : CoreId) (h : Pre) (f : XForm)
  | shr (k : CoreId) (h : Pre) (f : XForm)
  | sar (k : CoreId) (h : Pre) (f : XForm)
  | rol (k : CoreId) (h : Pre) (f : XForm)
  | ror (k : CoreId) (h : Pre) (f : XForm)
  | mul (k : CoreId) (h : Pre) (f : XForm)
  | mulh (k : CoreId) (h : Pre) (f : XForm)
  | mulhu (k : CoreId) (h : Pre) (f : XForm)
  | div (k : CoreId) (h : Pre) (f : XForm)
  | divu (k : CoreId) (h : Pre) (f : XForm)
  | rem (k : CoreId) (h : Pre) (f : XForm)
  | remu (k : CoreId) (h : Pre) (f : XForm)
  | neg (k : CoreId) (h : Pre) (d s : Opnd)
  | not (k : CoreId) (h : Pre) (d s : Opnd)
  | cmp (k : CoreId) (h : Pre) (s1 s2 : Opnd)
  | tst (k : CoreId) (h : Pre) (s1 s2 : Opnd)
  | min (k : CoreId) (h : Pre) (d s1 s2 : Opnd)
  | max (k : CoreId) (h : Pre) (d s1 s2 : Opnd)
  | abs (k : CoreId) (h : Pre) (d s : Opnd)
  | clz (k : CoreId) (h : Pre) (d s : Opnd)
  | set (k : CoreId) (h : Pre) (b : Opnd)
  | clr (k : CoreId) (h : Pre) (b : Opnd)
  | inv (k : CoreId) (h : Pre) (b : Opnd)
  | tset (k : CoreId) (h : Pre) (b : Opnd)
  | btst (k : CoreId) (h : Pre) (b : Opnd)
  | bst (k : CoreId) (h : Pre) (b : Opnd)
  | bmov (k : CoreId) (h : Pre) (bd bs : Opnd)
  | mov (k : CoreId) (h : Pre) (d s : Opnd)
  | movz (k : CoreId) (h : Pre) (d s : Opnd)
  | movs (k : CoreId) (h : Pre) (d s : Opnd)
  | lea (k : CoreId) (h : Pre) (d s : Opnd)
  | push (k : CoreId) (h : Pre) (s : Opnd)
  | pop (k : CoreId) (h : Pre) (d : Opnd)
  | nop (k : CoreId) (h : Pre)
  | qopen (k : CoreId) (h : Pre) (q : Opnd)
  | qpush (k : CoreId) (h : Pre) (q s : Opnd)
  | qend (k : CoreId) (h : Pre) (q s n : Opnd)
  | qabort (k : CoreId) (h : Pre) (q : Opnd)
  | qpop (k : CoreId) (h : Pre) (d q : Opnd) (obs : CellObs)
  | br (k : CoreId) (h : Pre) (t : Opnd)
  | bz (k : CoreId) (h : Pre) (t : Opnd)
  | bnz (k : CoreId) (h : Pre) (t : Opnd)
  | bc (k : CoreId) (h : Pre) (t : Opnd)
  | bnc (k : CoreId) (h : Pre) (t : Opnd)
  | bn (k : CoreId) (h : Pre) (t : Opnd)
  | bnn (k : CoreId) (h : Pre) (t : Opnd)
  | bv (k : CoreId) (h : Pre) (t : Opnd)
  | bnv (k : CoreId) (h : Pre) (t : Opnd)
  | bslt (k : CoreId) (h : Pre) (t : Opnd)
  | bsge (k : CoreId) (h : Pre) (t : Opnd)
  | bsle (k : CoreId) (h : Pre) (t : Opnd)
  | bsgt (k : CoreId) (h : Pre) (t : Opnd)
  | bule (k : CoreId) (h : Pre) (t : Opnd)
  | bugt (k : CoreId) (h : Pre) (t : Opnd)
  | bb1 (k : CoreId) (h : Pre) (b t : Opnd)
  | bb0 (k : CoreId) (h : Pre) (b t : Opnd)
  | loop (k : CoreId) (h : Pre) (r t : Opnd)
  | call (k : CoreId) (h : Pre) (t : Opnd)
  | ret (k : CoreId) (h : Pre)
  | beatend (k : CoreId) (h : Pre)
  | serviceDomainPowerOff
  | illegalOperation (k : CoreId) (why : IllegalWhy)
  | imageDataReadBack (ok : Bool)
  | imageCommitProgrammed (ok : Bool)
  | feedTemperatureRelease (f : Feed) (t : Int)
  | vsafe5vReady (p : PortId)
  deriving DecidableEq, Repr

end Sys2Proof
end

