-- ==== Sys2Proof/Decode.lean ====
section
/-! DEFINITION. The command that a word of spec/opcode_table.json spells. No row of that table gives bits, so no word
spells a command (log 6). -/

namespace Sys2Proof

/-- The command an `nbits`-bit word spells by the table's bits: none, since no row gives any (log 6). -/
def decodeTableWord (_nbits _w : Nat) : Option Instr := none

end Sys2Proof
end

