-- ==== Sys2Proof/Config.lean ====
section
/-! DEFINITION. What an implementation fixes and what the manual leaves open: constants without a body, so that
nothing can be proved of their values (log entries 9, 13, 14, 15, 20, 22, 90). -/

namespace Sys2Proof.Config

/-- The internal random source of R105, R226 and R325: draw number `n` (log 9). A user takes it modulo its range. -/
opaque random : Nat → Nat

/-- A word the spec leaves open, the `n`-th that a run asks for (log 9). -/
opaque freeWord : Nat → Word

/-- Byte `i` of the `n`-th open byte string (contents the manual does not state, log 22). -/
opaque freeByte : Nat → Nat → Byte

/-! ### Factory constants (R59, R250, R404, R66; log 20) -/

opaque variant : Byte
opaque step : Half
opaque romRev : Word
opaque serial : Nat → Byte
/-- DEV.VDM_ID at the factory (R250). -/
opaque vdmId : Word
/-- DEV.SVC_SVID at the factory (R250). -/
opaque svcSvid : Half
/-- Public key `i` whose hash the fuses hold, and whether a key index names one (R66, R68). -/
opaque keyHash : Nat → List Byte → Bool

/-! ### Verification of images (R67; log 15) -/

opaque sha256 : List Byte → List Byte
/-- ECDSA P-256: key, digest, signature. -/
opaque ecdsaVerify : List Byte → List Byte → List Byte → Bool

/-! ### The running image's code and the port window (log 13, 14) -/

/-- Byte `a` of core `k`'s firmware region under the image with sequence number `seq` (R446). -/
opaque firmwareByte : Word → Nat → Nat → Byte
/-- A read of a word of a firmware interface block or of the system window whose layout the manual does not give
(R448, R449): core, address, draw number. -/
opaque windowWord : Nat → Nat → Nat → Word
/-- The 16-bit code the conversions block of a port window holds for a reading (R449, log 14): item, reading. -/
opaque convCode : Nat → Int → BitVec 16

/-- The number of a packet's cell (R420): the packet's serial number, the cell's place in it. The manual gives no rule by which the
free list hands cells out (log 90). -/
opaque cellNumber : Nat → Nat → BitVec 14

end Sys2Proof.Config
end

