-- ==== Sys2Proof/Machine/State.lean ====
section
/-! DEFINITION. The state of the PLV9600 as plain data: every register, queue, buffer, timer, mode and memory the spec
names, the firmware's own state where a rule describes what it holds, and the queue of waiting commands. Reset values:
INVENTORY.md and log entry 4. -/

namespace Sys2Proof.Machine

/-- Byte-addressed memory in canonical form: addresses strictly rising, no entry equal to what an unlisted address
reads as (log 13, 17). -/
abbrev Memory := List Host.Cell

/-! ## Packets and queues (chapter 17) -/

/-- Why a message waits in a TX message queue: what the Policy Engine does at its GoodCRC or its failure (log 18). -/
inductive Purpose where
  | plain            -- an answer with no follow-up
  | capsReply        -- the other mode's capabilities, on request (R202)
  | sourceCaps | request | accept | reject | wait | psRdy | softReset
  | swapRequest      -- the message of the running SWAP_REQUEST
  | vdmRequest       -- a VDM request of pd.vdm
  | hostSend         -- PD_SEND
  | chunk            -- a chunk of the context's outgoing extended message
  | chunkAsk         -- a Chunk Request
  | eprAck | eprSucceeded | eprFailed | eprExit
  | keepAlive        -- EPR_KeepAlive as Sink
  deriving DecidableEq, Repr

/-- What a packet carries beside its bytes, for the fields whose place in the packet the manual does not give
(R161, R205; log 18). -/
inductive Carried where
  | none
  | rx (p : PortId) (t : Tgt) (epoch : BitVec 4) (eop : Beat)
  | tx (p : PortId) (t : Tgt) (why : Purpose)
  | cmd (dup : Bool)            -- a command whose tag was outstanding or waiting when it closed (R381)
  | left                        -- a command that an ended session of the service mode left in Q7 (R252)
  | fwd (node : BitVec 12) (dup : Bool)      -- a forwarded command and its origin (R340)
  | ans (st : Stream) (opc : Nat)            -- a core's completion for S8, with the stream and the opcode of its command (R17)
  | hand (st : Stream) (node : BitVec 12) (reply done : Nat)
    -- a command handed to a cluster core (R17): stream, origin, cells reserved for its reply and its completion, 0 for none (R445)
  deriving DecidableEq, Repr

/-- A closed packet (R428–R430): its data bytes, what it carries, POISON of its length word, how many of its cells
come from the PD reserve, whether they come from the refusal reserve, whether every cell was taken while the pool
held only cells 0–4,095 (R422), what a reading of its cells finds (R437–R439, log 91), and its serial number, under which its
cells have their numbers (log 90). -/
structure Packet where
  data : List Byte
  carried : Carried
  poison : Bool
  res : Nat
  refusal : Bool
  low : Bool
  flaw : CellObs
  serial : Nat
  deriving DecidableEq, Repr

/-- Who holds a queue's open packet (R427). -/
inductive Producer where
  | core (k : CoreId)
  deriving DecidableEq, Repr

structure OpenPacket where
  owner : Producer
  packet : Packet
  deriving DecidableEq, Repr

/-- A flush that waits for the consumer (R440): the closed packets opened before the request, less the one being popped, and
the commands to answer when it has acted, each with its header. -/
structure Flush where
  count : Nat
  replies : List (Stream × List Byte)
  deriving DecidableEq, Repr

/-- One of the 128 queues (R424, R425, R427, R436, R439, R440). -/
structure Queue where
  closed : List Packet
  opened : Option OpenPacket
  waiting : List Packet         -- whole packets of other producers, which wait their turn behind the open one (R427, log 92)
  cfg : Word                    -- CRUCIBLE.Q_CFG
  popped : Nat                  -- pops made of the head packet (R432); 0: at a packet boundary
  refused : Bool                -- refusal flag of R415
  quarantine : Bool             -- R439
  scanAt : Beat                 -- beat in which its scan began
  flush : Option Flush          -- pending flush (R440)
  discardOpen : Bool            -- the open packet is discarded when it closes (R440 step 3)
  wordErr : Bool                -- a word of the packet being popped failed parity (R437)
  deriving DecidableEq, Repr

/-- Coalescing counters of one stream and one port for codes 0xC3 to 0xC9, and the beats of the first and the last event
counted (R443). -/
structure CoalEntry where
  service : Bool
  port : Byte
  counts : Vector Nat 7
  first : Beat
  last : Beat
  deriving DecidableEq, Repr

/-- The Crucible (R420–R445). -/
structure Pool where
  queues : Vector Queue 128
  cfg : Word                    -- CRUCIBLE.POOL
  capacity : Nat                -- general cells: 0 before initialisation, 15,856 or the service domain's number
  pdReserve : Nat               -- 512, or 32 in service-domain operation
  retired : Nat
  rxNoCell : Word
  lowDue : Bool                 -- POOL_LOW is to be raised (R442)
  exhDue : Bool                 -- POOL_EXHAUSTED is to be raised (R444)
  coalescing : Bool
  coal : List CoalEntry
  held : List (QueueId × Nat)   -- cells S8 has reserved for replies and completions still to come (R445)
  logLost : Vector Half 8       -- stage log records dropped since the last one written (R279)
  serials : Nat                 -- the serial number of the next packet (log 90)
  deriving DecidableEq, Repr

/-! ## Board, ready map and device parameters (chapters 02, 03, 04) -/

/-- A reset that waits under R79: COLD_REQ or WARM, the stream and tag of its command, the beat its reply was queued. -/
structure ResetReq where
  cold : Bool
  stream : Stream
  tag : Byte
  queued : Beat
  read : Bool                   -- the host has read the reply
  deriving DecidableEq, Repr

structure Board where
  svcOn : Bool
  mainOn : Bool
  vsvcGood : Bool
  resetLow : Bool
  mainLost : Bool               -- F18 is ACTIVE (R343)
  testen : Bool
  refExternal : Bool            -- reference input chosen at power-on (R29)
  holdover : Bool               -- R30
  afeLink : Vector Bool 4       -- R13
  beat : Beat                   -- R41
  passIdx : Nat                 -- R34, 0–8
  oddPass : Bool                -- R35
  bootPending : Bool
  cause : BitVec 3              -- DEV.RESET_CAUSE.CAUSE (R80)
  recovery : Bool
  runSlot : Option Bool         -- none; false A, true B
  runSeq : Word
  cfgGen : Word
  resetReq : Option ResetReq
  portsDue : Bool               -- RESET with KIND PORTS acts at the next slot 0 (R79)
  dieHot : Vector Bool 5        -- F5's sensors that have raised and read 125 °C or more since (R343)
  dieWarm : Vector Bool 5       -- F5's sensors that read 125 °C or more (R343)
  free : Nat                    -- the model's own counter of free values (log 9)
  deriving DecidableEq, Repr

structure Dev where
  ready0 : Word                 -- ready map word 0 (R73)
  notReadyAny : Bool            -- R74
  readyExpect : Word            -- 0x0010
  keyRevoked : BitVec 4         -- 0x0012, fuses
  svcCfg : Word                 -- 0x0022
  txWin : Word                  -- 0x7000
  swWin : Word                  -- 0x7001
  deriving DecidableEq, Repr

/-! ## A port (chapters 05 to 12) -/

/-- Connection states of R106, in the order of their codes. -/
inductive Tc where
  | disabled | calibrating | calFailed | errorRecovery | unattachedSrc | unattachedSnk | attachWaitSrc | attachWaitSnk
  | trySrc | trySnk | tryWaitSrc | tryWaitSnk | attachedSrc | attachedSnk | audioAcc | debugAccSrc | debugAccSnk
  | dryWait | lockout
  deriving DecidableEq, Repr

/-- Per-beat state of a CC line: as Source `ra`, `rd`, `opened`; as Sink `opened` and the three Rp levels (R91, R92). -/
inductive Cc where
  | opened | ra | rd | rpDefault | rp1A5 | rp3A0
  deriving DecidableEq, Repr

/-- What the port presents on a CC line (R106). `clamp` is the dead-battery Rd of P0–P3 (R116). -/
inductive Pres where
  | none | rd | clamp
  | rp (level : BitVec 2)       -- 0 Default, 1 1.5 A, 2 3.0 A
  deriving DecidableEq, Repr

/-- The interval a timer carries (R104, R182). -/
inductive Use where
  | idle
  | ccDebounce | pdDebounce | tryDebounce | drpToggle | drpTry | errorRecovery | srcDisconnect   -- CC timer
  | tryWait | tryTimeout | dryRecheck                                                            -- health timer
  | senderResponse | chunkRequest | chunkResponse | vdmResponse | vdmWaitMode | vdmBusy          -- response timers
  | srcTransition | psTransition | psSourceOff | psSourceOn | safe0v | safe5v | psHardReset | srcRecover | noResponse
  | sinkEprEnter | swapSourceStart | vconnSource                                                 -- POWER
  | sourceEprKeep | sinkEprKeep | ppsTimeout | ppsRequest                                        -- KEEP
  | sendSourceCap | sinkWaitCap | sinkRequest | sinkTx | swapBackoff                             -- CAPS
  | discover                                                                                     -- DISCOVER
  deriving DecidableEq, Repr

/-- One timer of the array (R38–R40) and the interval the firmware gave it. -/
structure Timer where
  count : Half
  prescale : Bool
  armed : Bool
  expired : Bool
  use : Use
  deriving DecidableEq, Repr

/-- Parameters of a port (R397), each a word under its ID. -/
structure PortCfg where
  roleCfg : Word                -- 0x1000
  enable : Word                 -- 0x1001
  tcDebounce : Word             -- 0x1002
  tcTry : Word                  -- 0x1003
  dryRecheck : Word             -- 0x1004
  moistCfg : Word               -- 0x1005
  phyCfg : Word                 -- 0x1020
  pdTmr0 : Word                 -- 0x1034
  pdTmr1 : Word                 -- 0x1035
  classSel : Word               -- 0x1040
  swapRetrySrc : Word           -- 0x1050
  swapRetrySnk : Word           -- 0x1051
  swapMargin : Word             -- 0x1052
  stage : Vector Word 7         -- 0x1060–0x1066
  coef : Vector Word 8          -- 0x1068–0x106F
  coefNext : Option (Vector Word 8)   -- a set that acts at the next slot 0 (R277)
  guard : Vector Word 8         -- 0x1070–0x1077
  guardNext : Option (Vector Word 8)  -- as R299 defers it
  deriving DecidableEq, Repr

/-- The two-current check of R109. -/
structure RdCheck where
  line1 : Option Bool           -- CC1: not needed, or whether it has passed
  line2 : Option Bool
  n1 : Nat                      -- conversions made of CC1: after the first the line stands at I2, after the second it waits to be judged
  n2 : Nat
  deriving DecidableEq, Repr

/-- The connection state machine (R104–R119). -/
structure TypeC where
  st : Tc
  orient : Bool                 -- false CC1, true CC2
  rpSeen : BitVec 2
  rpCand : BitVec 2             -- level whose stability is being counted, and for how many beats (R112)
  rpRun : Nat
  wet : Bool
  corroded : Bool
  role : BitVec 2               -- role in force (R101)
  tryMode : BitVec 2            -- TRY in force, taken with the role (R101, R115)
  tryHeld : Bool                -- TRY_SNK: Rp has held for tTryCCDebounce after tDRPTry (R108)
  cc1 : Cc
  cc2 : Cc
  ccChanged : Bool              -- the last update changed a line's state
  pres1 : Pres
  pres2 : Pres
  errFromCal : Bool             -- R108, ERROR_RECOVERY
  mute : Bool                   -- R125
  pHeld : Bool                  -- the P bit was set when a fault reaction cleared it (R349)
  rdCheck : Option RdCheck
  rdDone : Bool                 -- the check has passed on every line that shows Rd
  debounced : Bool              -- tCCDebounce has passed in an AttachWait state
  tripWait : Bool               -- the exit of ERROR_RECOVERY waits for temperature (R293)
  stBeat : Beat
  pReady : Bool
  vconnOn : Bool
  vconnOc : Bool
  vconnCut : Bool               -- CC_LEAK_TRIP has opened VCONN since attach (R124, log 93)
  vconnGiven : Bool             -- a VCONN_Swap has given VCONN to the partner since attach (R117, R235)
  trimFail : Option Bool        -- R153: some false Rp, some true Rd
  vconnBeat : Beat
  deriving DecidableEq, Repr

/-- Calibration steps of R93. -/
inductive CalStep where
  | s1 | s2 | s3 | s4a | s4b | s4c
  deriving DecidableEq, Repr

/-- Harness calibration (R93–R100). -/
structure Harness where
  status : BitVec 3
  cause : BitVec 4
  capHigh : Bool
  vbsOfs : Half
  gsnOfs : Half
  rCc : Half
  rDrop : Half
  cCc1 : Half
  cCc2 : Half
  gain : Nat                    -- step 4a's ratio in 1/65,536
  keep2 : Option Half
  keep3 : Option (Half × Half)
  keep4a : Option Nat
  keep4b : Option Half
  step : Option CalStep
  resume : CalStep              -- the step that the next run of steps 3 and 4 begins with (R95)
  bleeder : Bool                -- the internal 20.0 Ω bleeder is connected (R93, R94)
  deriving DecidableEq, Repr

/-- Why a port is in DRY_WAIT (R109, R123). -/
inductive DryWhy where
  | wet | corroded | rdImplausible
  deriving DecidableEq, Repr

/-- Moisture sweeps and leakage checks (R120–R125, R410). -/
structure Moisture where
  cls : BitVec 3
  rdImplausible : Bool
  running : Bool
  sweeps : Half
  z : Vector Half 7
  ofs : Vector Half 2
  beat : Beat
  prevWet : List Nat            -- indices below WET in the last classified sweep
  prevCorr : List Nat           -- indices above CORR_MV in it
  pass : Nat                    -- passes of the sweep under way, up to 32 (R43, R120)
  skipped : List Nat            -- indices whose measurement R120 has skipped in it
  term : Bool                   -- a per-beat CC state has shown a termination during it (R122)
  why : Option DryWhy
  leakRun : Vector Nat 2        -- conversions of SBU1, SBU2 in a row of 4.0 V or more, up to 2; 3 once raised (R124)
  leakLine : Bool               -- the line that the next even pass converts, false SBU1 (R124)
  deriving DecidableEq, Repr

/-- Calibration states of R141. HELD is shown while HOLD is set and the port is attached. -/
inductive PhyCal where
  | off | safe | training | converged | fallback
  deriving DecidableEq, Repr

/-- An accepted TX sample: t_R and t_F in 125 ps units, levels in mV (R136). -/
structure TxSample where
  tR : Nat
  tF : Nat
  vH : Int
  vL : Int
  deriving DecidableEq, Repr

/-- An accepted RX sample: levels in mV, m in 1/1,024 UI, UI in 125 ps units (R136). -/
structure RxSample where
  vH : Int
  vL : Int
  m : Nat
  ui : Nat
  deriving DecidableEq, Repr

/-- Planish of a port (R131–R151). The three sets have the layout of R131. -/
structure Phy where
  safe : Word                   -- PORT.PHY_SAFE 0x1021
  applied : Word                -- PORT.PHY_COEF 0x1022
  shadow : Word                 -- PORT.PHY_SHADOW 0x1023
  cal : PhyCal
  txs : List TxSample           -- newest first, at most four
  rxs : List RxSample
  lastField : Fin 5             -- field most recently stepped (R140)
  eqRun : Nat                   -- accepted samples in a row that left shadow and applied equal (R141)
  whole : Bool                  -- a whole-set application is due (R148, R149)
  outField : Option (Fin 5)     -- out-of-range field recorded (R151)
  txN : Half
  rxN : Half
  missed : Half
  discarded : Half
  steps : Half
  lastTx : Option TxSample
  lastRx : Option RxSample
  lastApply : Beat
  gsnClamp : Bool
  since1 : Nat                  -- slots since the last transition of CC1, up to 128 (R129, R130)
  since2 : Nat
  trainEn : Bool                -- TRAIN_EN as taken at attach (R149)
  deriving DecidableEq, Repr

/-- An extended message being received or sent in chunks (R174). -/
structure Assembly where
  sending : Bool
  header : Half
  size : Nat
  data : List Byte
  next : Nat                    -- chunk expected, or to be sent next
  why : Purpose
  deriving DecidableEq, Repr

/-- The last message delivered on a context (R412). -/
structure LastRx where
  epoch : BitVec 4
  header : Half
  ext : Half
  data : List Byte
  deriving DecidableEq, Repr

/-- A protocol context (R157). -/
structure Ctx where
  txId : BitVec 3
  rxId : BitVec 3
  rxValid : Bool
  rev : BitVec 2
  nRetry : BitVec 2
  chunking : Bool
  chunkNum : BitVec 4
  epoch : BitVec 4
  vconnOk : Bool
  hrCnt : Nat
  capsCnt : Nat
  discCnt : Nat
  busyCnt : Nat
  txFails : Half
  partnerRev : Word
  last : Option LastRx
  asm : Option Assembly
  deriving DecidableEq, Repr

/-- The message in flight of a port (R163–R167). -/
structure Flight where
  tgt : Tgt
  packet : Packet
  why : Purpose
  attempts : Nat
  onWire : Bool                 -- an attempt has started and awaits its GoodCRC
  begun : Beat                  -- beat in which the last attempt started (R185)
  stamp : Beat
  deriving DecidableEq, Repr

/-- Results of R167. -/
inductive TxResult where
  | ok | fail | discarded | integrity | reset
  deriving DecidableEq, Repr

inductive SwapKind where
  | pr | dr | vconn
  deriving DecidableEq, Repr

/-- A swap sequence after its Accept (R230, R231, R235): the step reached, whether the port was Source (of power, or of
VCONN) at the Accept, beat A, the beat of the first PS_RDY, and the run of beats in defined idle. -/
structure Swap where
  kind : SwapKind
  wasSource : Bool
  step : Nat
  beatA : Beat
  mark : Beat                   -- beat of R230 step 2
  windowFrom : Option Beat
  own : Bool                    -- it serves the running SWAP_REQUEST
  deriving DecidableEq, Repr

/-- A running SWAP_REQUEST (R223, R224). -/
structure SwapReq where
  kind : SwapKind
  retries : Nat
  attempts : Nat
  stream : Stream
  tag : Byte
  from_ : Beat
  sent : Bool
  crossed : Bool                -- the next back-off follows a crossing (R227)
  deriving DecidableEq, Repr

/-- A voltage transition from Accept to the PS_RDY GoodCRC (R208–R211). -/
structure Transition where
  source : Bool
  pos : BitVec 4
  type : BitVec 3
  v : Nat                       -- 20 mV
  i : Nat                       -- 10 mA
  oldV : Nat
  oldI : Nat
  mismatch : Bool
  epr : Bool                    -- the request had EPR Mode Capable set
  obj : Word
  moving : Option Beat          -- beat in which the setpoint begins to move
  accepted : Bool               -- from the GoodCRC of Accept
  sent : Bool                   -- PS_RDY is queued
  deriving DecidableEq, Repr

/-- What the Policy Engine awaits within an AMS it runs (R182, R186, R187). -/
inductive Await where
  | none
  | requestAfterCaps            -- Source: a Request after Source_Capabilities
  | answerToRequest             -- Sink: Accept, Reject or Wait
  | softAccept (t : Tgt)        -- Accept of a Soft_Reset
  | swapAnswer
  | hostResponse                -- PD_SEND's response
  | vdmAnswer
  | keepAck                     -- Sink: EPR_KeepAlive_Ack
  deriving DecidableEq, Repr

/-- Hard Reset recovery of R236. -/
inductive Recovery where
  | srcHold | srcFall | srcWait | srcRise
  | snkFall (from_ : Beat) | snkRise (from_ : Beat)
  deriving DecidableEq, Repr

/-- A VDM conversation of the module's own (R241–R249). -/
inductive VdmWhy where
  | discover                    -- the module's own Discover Identity on SOP′
  | hostDiscover (kind : BitVec 2) (svid : Half)
  | hostSend (structured : Bool)
  | modeEnter | modeExit
  deriving DecidableEq, Repr

structure VdmReq where
  why : VdmWhy
  tgt : Tgt
  message : List Byte           -- header and VDOs
  stream : Stream
  tag : Byte
  sent : Bool
  acked : Bool                  -- its GoodCRC has come: the response is awaited
  ams : Bool                    -- it holds the port's own AMS open (R169)
  busyAt : Option Beat          -- beat stamp of the last BUSY (R244)
  busy : Nat                    -- BUSY answers to it so far, kept while a discovery goes before it (R215, R244)
  got : List Byte               -- VDOs collected over chained responses
  deriving DecidableEq, Repr

/-- A PD_SEND or PD_SOFT_RESET that awaits its completion. -/
structure HostSend where
  message : List Byte
  expects : Bool
  stream : Stream
  tag : Byte
  tgt : Tgt
  queued : Bool
  done : Option TxResult
  deriving DecidableEq, Repr

/-- The contract (R220) and what goes with it. -/
structure Contract where
  pos : BitVec 4
  type : BitVec 3
  eprMode : Bool
  inTransition : Bool
  clActive : Bool
  dropLimit : Bool
  mismatch : Bool
  vSet : Nat
  iOp : Nat
  obj : Word                    -- the data object in force
  oldI : Nat                    -- the larger current served until `oldUntil` (R209)
  oldUntil : Beat
  oldV : Nat                    -- voltage before, which counts beside the new one until `oldUntil` as Sink, 20 mV (R211)
  eprCapable : Bool             -- the request had EPR Mode Capable set (R215)
  deriving DecidableEq, Repr

/-- PORT.CABLE_CAP (R220). -/
structure Cable where
  state : BitVec 2
  epr : Bool
  iCab : Byte
  vCab : Byte
  deriving DecidableEq, Repr

structure SvidEntry where
  tgt1 : Bool                   -- from SOP′
  svid : Half
  known : Bool                  -- modes discovered
  modes : List Word
  deriving DecidableEq, Repr

/-- A GoodCRC that is due (R160): its target and MessageID. -/
structure Owed where
  tgt : Tgt
  id : BitVec 3
  deriving DecidableEq, Repr

/-- The Policy Engine of a port and its PHY's transmit side (chapters 07 to 10). -/
structure Pd where
  flight : Option Flight
  owed : Option Owed            -- GoodCRC due (R160)
  hrOrder : Option Beat         -- Hard Reset ordered (R176)
  lastTx : Option TxResult
  lastOut : Option (Tgt × List Byte)   -- the packet the PHY last put on the line
  onLine : Option (Beat × Nat)  -- transmission of the port's own last begun: its first beat and its bits (R129)
  attachSource : Bool           -- role taken at attach (R222)
  powerSource : Bool
  dfp : Bool
  contract : Contract
  cable : Cable
  sentCaps : List Word          -- positions 1 to 11; 0 empty
  unsent : Option (List Word)   -- the capabilities last sent, while newer ones in `sentCaps` are queued and have not started (R202)
  rxCaps : List Word
  capsDue : Bool
  capsRaise : Bool
  capsBeat : Beat
  discovered : Bool             -- the first Discover Identity since attach has ended (R200)
  sinkNg : Bool                 -- Rp at SinkTxNG (R169)
  ownAms : Bool
  partnerAms : Bool
  await : Await
  trans : Option Transition
  swap : Option Swap
  swapReq : Option SwapReq
  swapMsg : Option SwapKind     -- partner's or own swap whose Accept is under way
  recov : Option Recovery
  lastReqBeat : Beat
  send : Option HostSend
  soft : Option HostSend
  vdm : Option VdmReq
  svids : List SvidEntry         -- in order of receipt (R246)
  svidOverflow : Nat
  mode : Option (Half × BitVec 3)
  eprStep : Nat                 -- entry under R215: 0 none, 1 acknowledged, 2 deciding, 3 cable check
  request : Word                -- data object of the request under way
  reqEop : Beat                 -- EOP of the message whose lookup is under way (R204)
  start : Option (Tgt × Purpose × List Byte)   -- first message of an AMS of the port's own that waits (R169, R170)
  first : Bool                  -- the message in flight opens the port's own AMS and has not started (R170)
  held : List Packet            -- messages refused a cell, queued again in a later beat (R444)
  accAck : Bool                 -- the GoodCRC of this port's Accept has arrived (R208)
  rejectHard : Bool             -- Hard Reset follows the Reject (R202)
  capsForce : Bool              -- capabilities are due although unchanged (R240)
  plugAt : Option Beat          -- last GoodCRC of a plug (R185)
  vbusWait : Bool               -- R230 step 7 is due
  recovSwap : Bool              -- the Hard Reset under recovery abandoned a swap (R236)
  svcDone : Bool                -- the debug attach has entered the service mode (R251)
  hrSent : Option Beat          -- Hard Reset signalling of the module's own began (R178)
  cableDue : Bool               -- Cable Reset signalling waits for the line gap (R130, R179)
  built : List Word             -- capabilities of the mode in force last built, which R201 compares
  capsWait : Option (Use × Beat)   -- an interval that tSinkTx has displaced from CAPS, and its end (R182)
  ended : List (Tgt × Purpose × TxResult)   -- results of R167 that the port's stopped core has still to act on (R20)
  hrDue : Option Bool           -- a Hard Reset, sent or received, that it has still to act on (R20, R177)
  backUntil : Option Beat       -- end of the swap back-off, also while CAPS carries another interval (R182, R226)
  vdmNext : Option VdmReq       -- a conversation that the discovery of an EPR entry has gone before (R215)
  deriving DecidableEq, Repr

/-- Regions of the stage (R260). -/
inductive Region where
  | buck | buckBoost | boost
  deriving DecidableEq, Repr

/-- What the stage does (R256, R271–R274). -/
inductive StageMode where
  | idle | forward | reverse
  deriving DecidableEq, Repr

/-- A command as the AFE die has it (R12, R259, R264): idle leaves both PWMs low. -/
structure StageCmd where
  mode : StageMode
  region : Region
  y : Int                       -- mA
  slope : Nat                   -- mV/µs
  deriving DecidableEq, Repr

/-- A switching period: when its charging phase was ended by the comparator, and when the bound of R261 ended its remaining
phases, in ns from its start. -/
structure Period where
  trip : Option Nat
  low : Option Nat
  deriving DecidableEq, Repr

/-- Latest conversions of a port (R34, R35, R449), mV, mA, 0.1 units as named. -/
structure Conv where
  vbs : Int                     -- VBS−GSN, 0.1 mV
  ibus : Int                    -- mA
  vbl : Int                     -- mV
  vbh : Int                     -- mV
  tsn : Int
  cc1 : Int
  cc2 : Int
  ccSecond : Bool               -- the last CC conversion was that of CC2
  ils : Int                     -- V(ILS) mean of the last ILS average item, mV
  sbu : Int
  beat : Beat
  stamps : Vector Beat 8        -- beats of the last conversions: VBS, IBUS, VBL, VBH, TSN, CC, SBU, ILS (R32, R449)
  deriving DecidableEq, Repr

/-- Runs of consecutive beats that rules count. -/
structure Runs where
  drift : Nat                   -- R99
  window : Nat                  -- R207
  sat : Nat
  uv : Nat
  uvOk : Nat
  ilsBad : Nat                  -- R280
  sinkLow : Nat                 -- R111, R211
  ppsLow : Nat                  -- R213
  dropLow : Nat                 -- R218
  disLow : Nat                  -- R273
  vconnOn : Nat                 -- R235
  limitFree : Nat               -- R291
  good : Nat                    -- R293
  idle : Nat                    -- defined idle (R229)
  upper : Nat                   -- charging phases at their bound (R280)
  deriving DecidableEq, Repr

/-- A port's stage and its loop (chapter 11). -/
structure Stage where
  mode : StageMode              -- in force
  want : StageMode              -- port window
  vTgt : Nat                    -- setpoint target, 20 mV
  iTgt : Nat                    -- operating current, 10 mA
  region : Region
  regionAt : Beat               -- beat in which the region was entered (R260)
  vRef : Nat                    -- 0.1 mV
  e : Vector Int 3
  y : Vector Int 3
  yI : Int
  slope : Nat
  slopeSat : Bool               -- a limit of the slope acts (R265)
  dacNext : Int                 -- command that takes effect at the next slot 0 (R12)
  clamped : Bool                -- no period has begun since the last start, or none runs: the clamped state (R257)
  cmd : StageCmd                     -- what reached the AFE die at the last slot 0 (R12)
  cur : StageCmd                     -- what the newest period start has latched, or latches in this beat (R263)
  last : StageCmd                    -- what the period start before it latched
  nowP : List Period            -- the periods begun under `cur`, one, or two at 500 kHz
  lastP : List Period
  clMode : Bool                 -- PPS current regulation (R213)
  headroomNow : Bool
  satNow : Bool
  startAt : Beat                -- beat of the first period start (R258, R272)
  dir : StageMode               -- direction of the last operation (R272)
  delta : Int                   -- Δ of R266, mV
  iT : Nat                      -- I_T of R274 before the trunk clamp and source protection, mA
  iProt : Nat                   -- reduction by source protection (R274), mA
  yLo : Int                     -- Y_LO and Y_HI of the last update (R268)
  yHi : Int
  winTgt : Nat                  -- target that runs.window is counted against (R207)
  disH : Bool                   -- harness-side sink (R273)
  disS : Bool                   -- stage-side part (R273)
  disRun : Bool                 -- its discharge run is under way
  disBeat : Beat
  gateHold : Bool               -- DISCHARGE_FAIL holds GATE off (R280)
  uvHold : Bool                 -- STAGE_UV holds the stage (R280)
  stopAt : Option Beat          -- beat in which a guard action stopped a stage that ran (R281)
  fsw : Nat                     -- STAGE.FSW as the last start took it (R262)
  dac : Int                     -- the last DAC code commanded, mA (R278)
  disBeatS : Beat               -- start of the stage-side part's own 12,500 beats (R273)
  disLate : Option (Beat × Bool × Bool)   -- a discharge that a guard action ended in this beat, with its parts (R281)
  conv : Conv
  runs : Runs
  deriving DecidableEq, Repr

/-- GSTATE of R288. -/
inductive Gst where
  | off | ramp | on | limit | tripped | locked
  deriving DecidableEq, Repr

inductive Side where
  | none | low | high
  deriving DecidableEq, Repr

/-- What a counted sample calls for (R283). -/
inductive Call where
  | stay | good | low | high
  deriving DecidableEq, Repr

/-- A window monitor (R282–R285): decision, side of the last NOT_GOOD, what the last five counted samples since the last
change call for (newest first), whether the samples last seen were all blanked, whether one counted since slot 0, and whether
MON_BLANKED has been raised since one counted (R285). -/
structure Monitor where
  good : Bool
  side : Side
  hist : List Call
  blanked : Bool
  counted : Bool
  raised : Bool
  deriving DecidableEq, Repr

/-- A port guard (chapter 12). -/
structure Guard where
  gst : Gst
  gateOn : Bool
  fullyOn : Bool
  belowOff : Bool
  gateBeat : Beat               -- beat in which the gate was last commanded
  beenFull : Bool               -- FULLY_ON has been reported since (R289)
  rise : Option Nat             -- beats counted toward RISE_MAX (R289); none: not counting
  gateWant : Bool               -- the port window commands the gate on
  timer : Option Nat            -- fault timer, slots run (R291)
  trips : Nat
  vbs : Monitor
  vbl : Monitor
  fullMon : List Bool           -- whether the counted samples of VGS since the last change of FULLY_ON call for a change, newest
                                -- first, at most five
  offMon : List Bool            -- likewise for BELOW_OFF
  gateBlanked : Bool            -- the samples of VGS last seen were all blanked
  gateCounted : Bool            -- a sample of VGS counted since slot 0
  iLim : Nat                    -- limit in force, 10 mA
  iBo : Option Nat              -- brownout limit (R313)
  vLo : Nat                     -- voltage bases of the lower and the upper bounds in force, 0.1 mV (R282)
  vHi : Nat
  vLoNext : Nat                 -- the bases of the last update, in force from the next slot 0
  vHiNext : Nat
  vHold : Nat                   -- V_REF held through a downward move, 0.1 mV (R282)
  vHoldUntil : Beat
  dT1 : Int                     -- 1/65,536 °C
  dT2 : Int
  tEst : Int                    -- 1/65,536 °C
  tSens : Int
  tsnBad : Nat
  tsnHot : Nat                  -- TSN conversions in a row at or above T_TRIP (R298)
  hotDue : Bool                 -- the trip of R298 acts at the next slot 0
  lastCause : Option (Nat × Nat)   -- CODE and DETAIL last raised (R344)
  limitSeen : Bool              -- a LIMIT sample in the present beat
  blankRun : Vector Nat 3       -- beats in a row with every sample blanked (R285): VBS, VBL, gate
  drop : Int                    -- DROP_MAX as the VBL window in force has it, mV, and as the next slot 0 brings it (R276, R282)
  dropNext : Int
  cut : Option (Beat × Bool × Option Nat)   -- gate on and fault timer as a fault reaction found them in this beat (R295)
  deriving DecidableEq, Repr

structure Port where
  cfg : PortCfg
  tc : TypeC
  timers : Vector Timer 12
  harn : Harness
  moist : Moisture
  phy : Phy
  ctx : Vector Ctx 3
  pd : Pd
  stage : Stage
  guard : Guard
  grant : Nat                   -- 0.5 W
  deriving DecidableEq, Repr

/-! ## Clusters -/

/-- One ADC of a cluster (R155, R156). -/
structure Adc where
  trim : Int
  trimNext : Int                -- in force from the next slot 0 (R155)
  odd : Bool                    -- the next idle position is odd-numbered (R155)
  zeros : List Int              -- zero conversions since the last step of the trim, 0.01 LSB, at most 16
  refBad : Bool
  atEnd : Bool
  stale : Bool
  lastZero : Beat
  refRun : Nat                  -- reference conversions in a row that deviate
  deriving DecidableEq, Repr

/-- What a trim of a cluster covers (R152, R154). -/
inductive TrimPart where
  | whole                       -- all of the cluster
  | service                     -- P0–P3 and ADC 0 of C0
  | join                        -- P4–P11 and ADC 1 of C0
  deriving DecidableEq, Repr

structure Cluster where
  cfg : Word                    -- 0x0040 + c
  senLow : Bool
  senBeat : Beat
  vconnGood : Bool
  vconnHist : List Int
  sampler : Option PortId
  adc : Vector Adc 2
  trimming : Bool
  trimBeat : Beat               -- beat in which it was begun; it runs from the next (R152)
  trimPart : TrimPart
  trimStart : Bool              -- its end starts the enabled ports (R72); not after a loss of beats (R13, R30)
  trimmed : Bool                -- the trim of its ports has completed since power-on (R81)
  deriving DecidableEq, Repr

/-! ## Sorrel cores (chapters 18, 19) -/

/-- A result that waits for its commit point (R456): of a queue port, `refused` false sets the sideband and true the bit of
STATUS that says whether the last push was refused (R480). -/
inductive Effect where
  | reg (n : Fin 8) (v : Half)
  | flags (z n c v : Option Bool)
  | bitv (b : Nat) (v : Bool)
  | mem (addr : Nat) (bytes : List Byte)
  | qport (q : QueueId) (refused : Bool) (v : Nat)
  deriving DecidableEq, Repr

/-- An operation in the open bundle with its prefixes. -/
structure BundleOp where
  pre : Pre
  op : SOp
  deriving DecidableEq, Repr

/-- What the C operation of a bundle decided at issue (R454, R458, R481). -/
inductive Ctl where
  | fall
  | jump (t : Half)
  | callTo (t : Half)
  | retTo (t : Half)
  | done
  deriving DecidableEq, Repr

/-- A bundle whose repeats still run (R459, R460, R482): the repeated operations with the iterations left, the results of the
bundle so far with the bundles left to their commit points, its C operation and its length. -/
structure RepState where
  reps : List (BundleOp × Nat)
  results : List (Nat × Effect)
  mine : List (Nat × Effect)    -- those of the iterations made of the first repeat
  ctl : Ctl
  len : Nat
  deriving DecidableEq, Repr

structure CoreSt where
  bundleMem : Memory            -- extension region bytes (R446)
  data : Memory
  a : Vector Half 8
  z : Bool
  n : Bool
  c : Bool
  v : Bool
  rstack : List Half
  bits : BitVec 256             -- local bits 0–255
  dzt : Bool
  trapAddr : Half
  extLeft : Nat
  cycles : Nat
  beatLat : Beat
  pc : Half
  bundle : List BundleOp
  inflight : List (Nat × Effect)
  delay : Option (Half × Bool)  -- branch target after the delay bundle, and whether a CALL pushes then (R458)
  rep : Option RepState
  waiting : Bool                -- the bundle is complete and its QOPEN waits (R479)
  running : Bool                -- the handler runs
  paused : Bool                 -- its repeat is paused until the next beat entry (R460)
  flagFirst : Bool
  flagOverrun : Bool
  flagTrap : Bool
  flagExt : Bool
  extState : BitVec 2
  extCfg : Word                 -- 0x6000 + k
  extStart : Bool
  extStop : Bool
  inExt : Bool                  -- an extension handler runs
  extDepth : Nat                -- return-stack entries below the extension's own (R462)
  extCalled : Bool              -- the extension has been called in this beat
  worst : Nat
  overruns : Word
  traps : Word
  lastTrap : Word
  side : Vector Byte 128        -- last pop sideband of each queue port
  deriving DecidableEq, Repr

/-! ## Host port and streams (chapter 15) -/

/-- The last transaction of the host port, by its type byte (R365, R366). -/
inductive Transfer where
  | none | write (bytes : Nat) | read | status | unknown
  deriving DecidableEq, Repr

structure HostPort where
  cfg : Word                    -- DEV.HOST_CFG
  quad : Bool                   -- mode of the wire
  quads : List (Stream × Byte × Bool)   -- writes of QUAD whose reply has not been delivered: stream, tag, value (R364)
  unitsUsed : Nat
  withheld : Nat
  hcrcErr : Bool
  inDrop : Bool
  outBad : Bool
  lastTag : Byte
  tagsHost : List Byte
  tagsSvc : List Byte
  tagsFwd : List Byte
  maskHost : Word
  maskSvc : Word
  driven : List Byte            -- bytes driven on the lines in the last transaction (R365)
  transfer : Transfer           -- the last transaction, which says with `transferQuad` what each line carried (R363, R366)
  transferQuad : Bool
  deriving DecidableEq, Repr

/-! ## Faults (chapter 14) -/

/-- A raise: source, CODE, DETAIL, EXTRA, forced, deferred (R311), beat. -/
structure Raise where
  src : Nat
  code : Nat
  detail : Nat
  extra : Nat
  forced : Bool
  deferred : Bool
  deriving DecidableEq, Repr

structure FaultRec where
  src : Nat
  flags : Byte
  cause : Word
  beat : Beat
  deriving DecidableEq, Repr

structure Latch where
  raise : Raise
  sev : Nat
  reaction : Nat
  beat : Beat
  overflow : Bool
  ovf : Nat
  snap : Bool                   -- a snapshot has been taken for this latch (R353)
  deriving DecidableEq, Repr

/-- What the next slot 0 still owes a quiesced port (R349 step 2, R350). -/
inductive Safe where
  | portSafe | deviceSafe
  deriving DecidableEq, Repr

structure Faults where
  latch : Option Latch
  window : Bool                 -- the reaction window is open (R352)
  hold : Bool                   -- DEVICE_HOLD
  raised : BitVec 256
  force : BitVec 256
  forceDue : List Raise         -- forced raises that act at the next slot 0 (R359)
  sev : Vector (BitVec 2) 256
  sevNext : Option (Vector (BitVec 2) 256)
  log : List FaultRec           -- oldest first, at most 1,024
  logFirst : Nat                -- number of the oldest record held
  safeNext : List (PortId × Safe)
  snap : List (List Byte)       -- bytes 8–4,087 of each capture not yet written, oldest first
  snapDue : Bool                -- a capture is due at the slot 0 that ends the window
  snapSeq : Word                -- SNAP_SEQ of the newest committed snapshot
  snapPos : Nat                 -- position the next snapshot takes
  deriving DecidableEq, Repr

/-! ## Feed guard die and its hub side (chapter 12) -/

/-- Feed states of R301, in the order of their codes. -/
inductive FeedSt where
  | off | delay | standby | ramp | qual | on | cool | latched | disabled
  deriving DecidableEq, Repr

structure FeedState where
  st : FeedSt
  mon : Monitor                 -- VIN window
  timer : Bool                  -- fault timer running
  limiting : Bool
  held : Bool                   -- held by temperature (R304)
  hot : Bool                    -- over temperature (R304, R310)
  stuck : Bool                  -- LATCHED for want of BELOW_OFF in a changeover (R307)
  vin : Int                     -- mV
  shunt : Int                   -- µV
  temp : Int                    -- 0.1 °C
  trips : Half
  gateOn : Bool
  full : Bool                   -- FULLY_ON
  belowOff : Bool
  fullMon : List Bool           -- as for a port's gate monitor (R302)
  offMon : List Bool
  deriving DecidableEq, Repr

/-- The feed parameters as one set (R308): 0x2000–0x2005, 0x2010–0x2015, 0x2020, 0x2021, 0x3010. -/
structure FeedCfg where
  a : Vector Word 6
  b : Vector Word 6
  pgQual : Word
  bbm : Word
  brownout : Word
  deriving DecidableEq, Repr

/-- A changeover in progress (R307): the outgoing feed, whether its gate has reported BELOW_OFF, whether T_BBM has
passed. -/
structure Changeover where
  out : Feed
  confirmed : Bool
  bbm : Bool
  deriving DecidableEq, Repr

structure FeedDie where
  on : Bool
  straps : Vector (Fin 8) 4
  strapInvalid : Bool
  fromHub : Bool
  linkUp : Bool
  deferred : List Raise         -- events held while the link is down (R311), at most 16
  inForce : FeedCfg
  work : FeedCfg                -- hub side working values
  workSet : Bool                -- the hub has taken its working values (R308)
  cfgDue : Option FeedCfg       -- the set committed or configured while the link was down, which waits for it (R65, R308)
  a : FeedState
  b : FeedState
  selected : Option Feed
  lastSel : Option Feed
  change : Option Changeover
  changeBlank : Bool            -- the CHG_BLANK window runs (R285)
  lastChange : Beat
  trunkMon : Monitor
  fpg : Bool
  noFeed : Bool                 -- F177's condition lasts
  brownout : Bool               -- last signalled to the hub (R312)
  vTrunk : Nat                  -- mV, last delivery (R275)
  trunkAge : Nat                -- beats since it; 0: valid in this beat
  trunkSeen : Bool              -- some value has been delivered since the hub reset
  deriving DecidableEq, Repr

/-! ## Budget, Yarrow, policy, store, service mode -/

/-- What a budget run leaves to be read (R319, R323): SHORT, FLOOR_SUM, POOL_P, LEVEL and BEAT. -/
structure BudgetRun where
  short : Bool
  floorSum : Nat
  poolP : Nat
  level : Nat
  beat : Beat
  deriving DecidableEq, Repr

structure Budget where
  device : Word                 -- 0x3000
  floor : Word                  -- 0x3001
  reserve : Word                -- 0x3002
  decay : Word                  -- 0x3003
  hostB : Option Nat            -- BUDGET_SET value (R322)
  grantG : Option Nat           -- group grant
  grantNext : Option Nat        -- a grant stored during brownout (R316, R338)
  decaying : Bool
  due : Bool                    -- an allocation is due (R321)
  dueAt : Beat                  -- beat of the trigger: the run is a later beat's (R321)
  prev : BudgetRun              -- results before the last run, to which a brownout of the same beat goes back (R316, R321)
  short : Bool
  floorSum : Nat
  poolP : Nat
  level : Nat
  beat : Beat
  deriving DecidableEq, Repr

/-- What a module last sent on a pair (R326, R327): the bits of alternating preamble, then the start delimiter, the header, the
payload and the CRC, least significant bit first; nothing follows the preamble of a frame that is not forwarded. -/
structure YWire where
  preamble : Nat
  body : List Byte
  deriving DecidableEq, Repr

structure YPortSt where
  linked : Bool
  valid : Nat                   -- valid frames in a row, up to 3
  been : Bool
  lastRx : Beat
  lastTx : Beat
  neigh : BitVec 12
  backoff : Nat                 -- beats drawn for the next attempt (R325)
  wire : YWire
  deriving DecidableEq, Repr

structure Seen where
  src : BitVec 12
  h : Half
  stamp : Beat
  deriving DecidableEq, Repr

/-- A ledger entry (R335). STATE: 1 member, 2 stale, 3 root; a free entry is not listed. -/
structure LedgerEntry where
  node : BitVec 12
  state : Nat
  group : Byte
  flags : Byte
  floorT : Nat
  wantT : Nat
  grant : Nat
  last : Beat
  deriving DecidableEq, Repr

/-- A forward of this module's (R340): its fragments so far and the command it answers. -/
structure FwdOut where
  node : BitVec 12
  stream : Stream
  header : List Byte            -- first 8 bytes of the YARROW_FORWARD command
  sent : Beat
  tag : Byte                    -- the inner command's, which its reply echoes (R340)
  frags : List (List Byte)
  deriving DecidableEq, Repr

inductive GroupSt where
  | none | listening | electing | member | root
  deriving DecidableEq, Repr

structure Yarrow where
  node : Word                   -- 0x3020
  group : Word                  -- 0x3021
  groupB : Word                 -- 0x3022
  link : Word                   -- 0x3023
  id : BitVec 12
  idSrc : BitVec 2
  pa : YPortSt
  pb : YPortSt
  ring : Bool
  head : Bool                   -- this module started chain assignment (R332)
  seq : Half
  sync : Bool
  sentN : Nat                   -- frames originated since the last SYNC, up to 1,024 (R333)
  seen : List Seen
  gstate : GroupSt
  groupNow : Byte               -- group in force (R339)
  root : BitVec 12
  term : Half
  termMax : Half
  listenFrom : Beat
  electFrom : Beat
  heard : List (BitVec 12)      -- IDs of ELECT and HEARTBEAT frames in the window
  lastHb : Beat                 -- beat that the counts of R334 and R338 run from
  hbBeat : Beat                 -- beat of the group's last heartbeat, adopted or not (R341)
  hbSrcs : List (BitVec 12)     -- the senders of heartbeats in that beat (R334)
  missed : Nat
  decays : Nat                  -- decay steps made since the last heartbeat
  ledger : List LedgerEntry     -- by node, rising
  scanPos : Option Nat          -- next 64-entry slice of the scan (R43, R337)
  scanBeat : Beat               -- beat of its last step
  scan : List (BitVec 12 × Nat) -- the division that the scan sends out
  lastFloor : Nat
  lastWant : Nat
  hbCount : Nat
  repTerm : Bool                -- first heartbeat of a new TERM not yet reported
  repDue : Option Beat
  rootLost : Bool               -- F50 is ACTIVE
  fwd : List FwdOut
  fwdFrom : List (Byte × BitVec 12)    -- tag of a served command and its origin
  crcErr : Word
  unknownType : Word
  seqDrop : Word
  transitAbort : Word
  heldN : Word
  deriving DecidableEq, Repr

structure Rule where
  point : Byte
  ctrl : Byte
  out : Byte
  cond : Byte
  deadline : Half
  pdoMask : Half
  vLo : Half
  vHi : Half
  iHi : Half
  pHi : Half
  deriving DecidableEq, Repr

structure Header where
  noMatch : Word
  cableImax : Byte
  flags : Byte
  floor : Half
  ceil : Half
  deriving DecidableEq, Repr

structure Tmpl where
  type : Byte
  vA : Half
  vB : Half
  lim : Half
  deriving DecidableEq, Repr

structure Class where
  header : Header
  rules : Vector Rule 32
  src : Vector Tmpl 11
  snk : Vector Tmpl 11
  deriving DecidableEq, Repr

/-- A stored write to the class tables that takes effect at the next slot 0 (R190, R196). -/
inductive PolicyWrite where
  | header (cls : Fin 16) (h : Header)
  | rules (cls : Fin 16) (first : Nat) (rs : List Rule)
  | template (cls : Fin 16) (sink : Bool) (es : Vector Tmpl 11)
  deriving DecidableEq, Repr

structure Decision where
  id : Nat
  port : PortId
  point : Nat
  rule : Nat
  asked : Rule                  -- the rule as the lookup found it (R206, R219)
  cls : Fin 16
  dflt : Nat
  deadline : Beat
  obj : Word
  pdo : Word
  deriving DecidableEq, Repr

structure Policy where
  classes : Vector Class 16
  writes : List PolicyWrite
  decisions : List Decision
  answers : List (Decision × Nat × Word)   -- host answers the cluster core takes in the next beat (R204)
  nextId : Nat
  deriving DecidableEq, Repr

/-- A committed configuration generation (R70, R401; log 16). -/
structure Generation where
  gen : Word
  valid : Bool
  ports : Vector PortCfg 96
  classes : Vector Class 16
  sev : Vector (BitVec 2) 256
  dev : Dev
  clusters : Vector Word 8
  qcfg : Vector Word 128
  poolCfg : Word
  extCfg : Vector Word 9
  feed : FeedCfg
  budget : Word × Word × Word × Word
  yarrow : Word × Word × Word × Word
  phySafe : Vector Word 96
  deriving DecidableEq, Repr

/-- A stepped operation on the image store (R394, R402, R417). -/
inductive StoreOp where
  | erase (tag : Byte) (st : Stream)
  | verify (tag : Byte) (st : Stream)
  | program (hdr : List Byte) (st : Stream) (offset : Nat) (data : List Byte)
  | commit (hdr : List Byte) (st : Stream) (activate : Bool)
  | params (tag : Byte) (st : Stream) (gen : Generation)
  deriving DecidableEq, Repr

structure Store where
  flash : Memory                -- 8 MiB
  genA : Option Generation
  genB : Option Generation
  journal : Option (Bool × Nat) -- slot and next offset (R84); none: no erase-complete record
  verified : Option Bool        -- slot whose IMAGE_VERIFY completed with CHECK 0 and nothing followed (R417)
  badA : Bool                   -- last full verification of the slot failed (R418)
  badB : Bool
  okA : Bool
  okB : Bool
  op : Option StoreOp
  deriving DecidableEq, Repr

structure Service where
  port : Option (Fin 4)
  lastSeq : Option Byte
  lastAck : List Byte
  part : List Byte
  hcrc : Bool
  tail : Option Packet          -- the packet that has left Q15 and whose trailer is still to go (R253, R434)
  deriving DecidableEq, Repr

/-! ## The state -/

structure State where
  board : Board
  dev : Dev
  ports : Vector Port 96
  clusters : Vector Cluster 8
  cores : Vector CoreSt 9
  shared : BitVec 1024          -- bits 256–1,023 of the bit space (R451); the low 256 are not used
  pool : Pool
  host : HostPort
  faults : Faults
  feed : FeedDie
  budget : Budget
  yarrow : Yarrow
  policy : Policy
  store : Store
  svc : Service
  pending : List Instr
  deriving DecidableEq, Repr

/-- Why a step stops with a fault. -/
inductive Fault where
  /-- No command raises it in this model: every meaning answers a next state or a refusal. Safe. -/
  | unreachable
  deriving DecidableEq, Repr

/-- Why a command has no meaning. -/
inductive Refusal where
  /-- Raised by the dispatcher for a command whose meaning is not written yet. Safe: the machine stops. -/
  | notModelled (mnemonic : String)
  /-- Raised by FACTORY_COMMAND with TESTEN high: the payloads of production test are not part of the manual (R392).
  Safe: the machine stops. -/
  | factoryTest
  deriving DecidableEq, Repr

/-! ## The state after reset (log 4) -/

/-- LIMIT and WMARK of a queue at reset (R424). -/
def qCfgReset (q : Nat) : Word :=
  let mk (l w : Nat) : Word := BitVec.ofNat 32 (l + w * 65536)
  if q < 2 then mk 640 480
  else if q = 7 then mk 128 96
  else if q = 8 then mk 1024 768
  else if q = 9 then mk 2048 1536
  else if q < 15 then 0
  else if q = 15 then mk 256 192
  else if q < 80 then
    (match q % 8 with
     | 0 => mk 192 144
     | 1 => mk 96 72
     | 2 => mk 128 96
     | 3 => mk 64 48
     | 4 => mk 256 192
     | _ => mk 64 48)
  else if q < 96 then (if q = 80 ∨ q = 81 ∨ q = 84 ∨ q = 85 then mk 256 192 else mk 128 96)
  else if q < 112 then mk 128 96
  else mk 64 48

/-- Default severity of a source (R343). -/
def sevReset (n : Nat) : BitVec 2 :=
  if n = 5 then 3
  else if 8 ≤ n ∧ n ≤ 15 then 2
  else if n = 176 ∨ n = 212 then 0
  else if n ≤ 4 ∨ (16 ≤ n ∧ n ≤ 18) ∨ (48 ≤ n ∧ n ≤ 52) ∨ (64 ≤ n ∧ n ≤ 165) ∨ (168 ≤ n ∧ n ≤ 173)
    ∨ (177 ≤ n ∧ n ≤ 181) ∨ (192 ≤ n ∧ n ≤ 211) ∨ n = 213 ∨ n = 214 then 1
  else 0

def Queue.reset (q : Nat) : Queue :=
  { closed := [], opened := none, waiting := [], cfg := qCfgReset q, popped := 0, refused := false, quarantine := false, scanAt := 0
    flush := none, discardOpen := false, wordErr := false }

/-- The Crucible before its pool is initialised: no cell is held by any queue and none is free (R423, log 4). -/
def Pool.reset : Pool :=
  { queues := Vector.ofFn (fun i => Queue.reset i.val), cfg := 0x01000400#32, capacity := 0, pdReserve := 0
    retired := 0, rxNoCell := 0, lowDue := false, exhDue := false, coalescing := false, coal := [], held := []
    logLost := Vector.replicate 8 0, serials := 0 }

def Board.reset : Board :=
  { svcOn := false, mainOn := false, vsvcGood := false, resetLow := false, mainLost := false, testen := false, refExternal := false
    holdover := false, afeLink := Vector.replicate 4 false, beat := 0, passIdx := 0, oddPass := false
    bootPending := false, cause := 0, recovery := false, runSlot := none, runSeq := 0, cfgGen := 0, resetReq := none, portsDue := false
    dieHot := Vector.replicate 5 false, dieWarm := Vector.replicate 5 false, free := 0 }

def Dev.reset : Dev :=
  { ready0 := 0, notReadyAny := false, readyExpect := 0x00FFFFFF#32, keyRevoked := 0, svcCfg := 0x0000000F#32
    txWin := 0x014A00F0#32, swWin := 0x04920438#32 }

/-- The parameters of a port at their reset values (R101, R102, R121, R149, R184, R188, R225, R276, R277, R299). -/
def PortCfg.reset : PortCfg :=
  { roleCfg := 0x0CCB3260#32, enable := 0, tcDebounce := 0x0A0F0F96#32, tcTry := 0x0C825864#32
    dryRecheck := 20, moistCfg := 0x03322814#32, phyCfg := 1, pdTmr0 := 0x121E961E#32, pdTmr1 := 0x000E75F4#32
    classSel := 0, swapRetrySrc := 25, swapRetrySnk := 0x00320096#32, swapMargin := 20
    stage := #v[300, 75, 0x04E20064#32, 0x064C2710#32, 0x07D01F40#32, 120, 0]
    coef := #v[0x00140000#32, 0xFFEC4000#32, 0, 0, 0xFFF00000#32, 0, 0, 0x00010000#32]
    coefNext := none
    guard := #v[0x08190258#32, 0x32030A14#32, 0x00640F05#32, 0x7D14BE02#32, 0x0D6B03E8#32, 0x0FA00064#32,
      0x00320096#32, 0x012C0FA0#32]
    guardNext := none }

def TypeC.reset : TypeC :=
  { st := .disabled, orient := false, rpSeen := 0, rpCand := 0, rpRun := 0, wet := false, corroded := false, role := 0, tryMode := 0, tryHeld := false
    cc1 := .opened, cc2 := .opened, ccChanged := false, pres1 := .none, pres2 := .none, errFromCal := false
    mute := false, pHeld := false, rdCheck := none, rdDone := false, debounced := false, tripWait := false, stBeat := 0
    pReady := false, vconnOn := false, vconnOc := false, vconnCut := false, vconnGiven := false, trimFail := none, vconnBeat := 0 }

def Harness.reset : Harness :=
  { status := 0, cause := 0, capHigh := false, vbsOfs := 0, gsnOfs := 0, rCc := 0, rDrop := 0, cCc1 := 0, cCc2 := 0
    gain := 65536, keep2 := none, keep3 := none, keep4a := none, keep4b := none, step := none, resume := .s3, bleeder := false }

def Moisture.reset : Moisture :=
  { cls := 0, rdImplausible := false, running := false, sweeps := 0, z := Vector.replicate 7 0
    ofs := Vector.replicate 2 0, beat := 0, prevWet := [], prevCorr := [], pass := 0, skipped := [], term := false, why := none
    leakRun := Vector.replicate 2 0, leakLine := false }

/-- The reset coefficient set: PROF 6, SWING 1, VTH_R 41, VTH_F 23, PHASE 8 (R131). -/
def coefSetReset : Word := 0x00217A56#32

def Phy.reset : Phy :=
  { safe := coefSetReset, applied := coefSetReset, shadow := coefSetReset, cal := .off, txs := [], rxs := []
    lastField := 4, eqRun := 0, whole := false, outField := none, txN := 0, rxN := 0, missed := 0, discarded := 0
    steps := 0, lastTx := none, lastRx := none, lastApply := 0, gsnClamp := false, since1 := 128, since2 := 128, trainEn := false }

/-- A context at reset: N_RETRY 2, every other field 0 (R157). -/
def Ctx.reset : Ctx :=
  { txId := 0, rxId := 0, rxValid := false, rev := 0, nRetry := 2, chunking := false, chunkNum := 0, epoch := 0
    vconnOk := false, hrCnt := 0, capsCnt := 0, discCnt := 0, busyCnt := 0, txFails := 0, partnerRev := 0
    last := none, asm := none }

def Contract.none : Contract :=
  { pos := 0, type := 0, eprMode := false, inTransition := false, clActive := false, dropLimit := false
    mismatch := false, vSet := 0, iOp := 0, obj := 0, oldI := 0, oldUntil := 0, oldV := 0, eprCapable := false }

def Pd.reset : Pd :=
  { flight := none, owed := none, hrOrder := none, lastTx := none, lastOut := none, onLine := none, attachSource := true
    powerSource := true, dfp := true, contract := .none, cable := ⟨0, false, 0, 0⟩, sentCaps := [], rxCaps := []
    capsDue := false, capsRaise := false, capsBeat := 0, discovered := false, sinkNg := false, ownAms := false
    partnerAms := false, await := .none, trans := none, swap := none, swapReq := none, swapMsg := none
    recov := none, lastReqBeat := 0, send := none, soft := none, vdm := none, svids := [], svidOverflow := 0
    mode := none, eprStep := 0, request := 0, reqEop := 0, start := none, first := false, held := [], accAck := false
    rejectHard := false, capsForce := false, plugAt := none, vbusWait := false, recovSwap := false, svcDone := false
    unsent := none, hrSent := none, cableDue := false, built := [], capsWait := none, ended := [], hrDue := none, backUntil := none, vdmNext := none }

def Conv.reset : Conv :=
  { vbs := 0, ibus := 0, vbl := 0, vbh := 0, tsn := 0, cc1 := 0, cc2 := 0, ccSecond := false, ils := 0, sbu := 0, beat := 0, stamps := Vector.replicate 8 0 }

def Runs.reset : Runs :=
  { drift := 0, window := 0, sat := 0, uv := 0, uvOk := 0, ilsBad := 0, sinkLow := 0, ppsLow := 0, dropLow := 0
    disLow := 0, vconnOn := 0, limitFree := 0, good := 0, idle := 0, upper := 0 }

/-- Both PWMs low (R257). -/
def StageCmd.off : StageCmd := ⟨.idle, .buck, 0, 0⟩

/-- A stage in defined idle, its command clamped (R257). -/
def Stage.reset : Stage :=
  { mode := .idle, want := .idle, vTgt := 0, iTgt := 0, region := .buck, regionAt := 0, vRef := 0
    e := Vector.replicate 3 0, y := Vector.replicate 3 0, yI := 0, slope := 0, slopeSat := false, dacNext := 0
    clamped := true, cmd := .off, cur := .off, last := .off, nowP := [], lastP := [], clMode := false, headroomNow := false, satNow := false, startAt := 0, dir := .idle, delta := 0, iT := 0
    iProt := 0, yLo := 0, yHi := 0, winTgt := 0, disH := false, disS := false, disRun := false, disBeat := 0, gateHold := false, uvHold := false, stopAt := none, fsw := 0, dac := 0, disBeatS := 0, disLate := none, conv := .reset, runs := .reset }

/-- A monitor starts NOT_GOOD with side NONE and an empty history (R283). -/
def Monitor.reset : Monitor := ⟨false, .none, [], false, false, false⟩

def Guard.reset : Guard :=
  { gst := .off, gateOn := false, fullyOn := false, belowOff := true, gateBeat := 0, beenFull := false, rise := none, gateWant := false
    timer := none, trips := 0, vbs := .reset, vbl := .reset, fullMon := [], offMon := [], gateBlanked := false, gateCounted := false, iLim := 0
    iBo := none, vLo := 0, vHi := 0, vLoNext := 0, vHiNext := 0, vHold := 0, vHoldUntil := 0, dT1 := 0, dT2 := 0, tEst := -2621440, tSens := -2621440, tsnBad := 0, tsnHot := 0, hotDue := false
    lastCause := none, limitSeen := false, blankRun := Vector.replicate 3 0, drop := 1500, dropNext := 1500, cut := none }

def Timer.reset : Timer := ⟨0, false, false, false, .idle⟩

def Port.reset : Port :=
  { cfg := .reset, tc := .reset, timers := Vector.replicate 12 .reset, harn := .reset, moist := .reset, phy := .reset
    ctx := Vector.replicate 3 .reset, pd := .reset, stage := .reset, guard := .reset, grant := 0 }

/-- A port as it comes up: P0–P3 show the dead-battery clamp of an AFE die without power (R116). -/
def Port.resetOf (p : PortId) : Port :=
  if p.val < 4 then { Port.reset with tc := { TypeC.reset with pres1 := .clamp, pres2 := .clamp } } else .reset

def Adc.reset : Adc := ⟨0, 0, false, [], false, false, false, 0, 0⟩

def Cluster.reset : Cluster :=
  { cfg := 1, senLow := false, senBeat := 0, vconnGood := false, vconnHist := [], sampler := none
    adc := Vector.replicate 2 .reset, trimming := false, trimBeat := 0, trimPart := .whole, trimStart := false, trimmed := false }

/-- A core at reset (R446, R450): A7 0x8000, everything else 0; the extension region is empty. -/
def CoreSt.reset : CoreSt :=
  { bundleMem := [], data := [], a := #v[0, 0, 0, 0, 0, 0, 0, 0x8000#16], z := false, n := false, c := false, v := false
    rstack := [], bits := 0, dzt := false, trapAddr := 0, extLeft := 0, cycles := 0, beatLat := 0, pc := 0
    bundle := [], inflight := [], delay := none, rep := none, waiting := false, running := false, paused := false
    flagFirst := false, flagOverrun := false, flagTrap := false, flagExt := false, extState := 0, extCfg := 0
    extStart := false, extStop := false, inExt := false, extDepth := 0, extCalled := false, worst := 0, overruns := 0
    traps := 0, lastTrap := 0, side := Vector.replicate 128 0 }

def HostPort.reset : HostPort :=
  { cfg := 0x00004000#32, quad := false, quads := [], unitsUsed := 0, withheld := 0, hcrcErr := false
    inDrop := false, outBad := false, lastTag := 0, tagsHost := [], tagsSvc := [], tagsFwd := []
    maskHost := 0xFFFFFFFF#32, maskSvc := 3, driven := [], transfer := .none, transferQuad := false }

def Faults.reset : Faults :=
  { latch := none, window := false, hold := false, raised := 0, force := 0, forceDue := []
    sev := Vector.ofFn (fun i => sevReset i.val), sevNext := none, log := [], logFirst := 0, safeNext := [], snap := []
    snapDue := false, snapSeq := 0, snapPos := 0 }

/-- Feed settings of a strap reading (R64): words of one feed. -/
def strapFeed (s : Vector (Fin 8) 4) : Vector Word 6 :=
  let uvov : Nat × Nat × Nat × Nat :=
    match s[0].val with
    | 0 => (160, 170, 340, 325)
    | 1 => (240, 255, 500, 480)
    | 2 => (320, 340, 670, 645)
    | 3 => (480, 510, 800, 770)
    | _ => (160, 170, 340, 325)
  let mv := [25, 30, 35, 40, 50, 60, 70, 75].getD s[1].val 25
  let ins := [100, 100, 500, 500, 20, 20, 2000, 2000].getD s[2].val 100
  let latch := s[2].val % 2
  let dvdt := [20, 10, 5, 2, 40, 100, 200, 400].getD s[3].val 20
  #v[BitVec.ofNat 32 (uvov.1 + uvov.2.1 * 65536), BitVec.ofNat 32 (uvov.2.2.1 + uvov.2.2.2 * 65536),
     BitVec.ofNat 32 (mv + 8 * 256), BitVec.ofNat 32 (ins + 10 * 65536),
     BitVec.ofNat 32 (dvdt + latch * 1024 + 10 * 65536), BitVec.ofNat 32 (165 + 15 * 256)]

/-- The feed set under strap configuration (R64, R308). -/
def strapSet (s : Vector (Fin 8) 4) : FeedCfg :=
  { a := strapFeed s, b := strapFeed s, pgQual := 10, bbm := 0x00320014#32, brownout := 0 }

def FeedState.reset : FeedState :=
  { st := .off, mon := .reset, timer := false, limiting := false, held := false, hot := false, stuck := false, vin := 0, shunt := 0, temp := 0
    trips := 0, gateOn := false, full := false, belowOff := true, fullMon := [], offMon := [] }

def FeedDie.reset : FeedDie :=
  { on := false, straps := Vector.replicate 4 0, strapInvalid := false, fromHub := false, linkUp := false, deferred := []
    inForce := strapSet (Vector.replicate 4 0), work := strapSet (Vector.replicate 4 0), workSet := false, cfgDue := none
    a := .reset, b := .reset, selected := none, lastSel := none, change := none, changeBlank := false, lastChange := 0
    trunkMon := .reset, fpg := false, noFeed := false, brownout := false, vTrunk := 0, trunkAge := 0
    trunkSeen := false }

def Budget.reset : Budget :=
  { device := 0, floor := 30, reserve := 40, decay := 20, hostB := none, grantG := none, grantNext := none
    decaying := false, due := false, dueAt := 0, prev := ⟨false, 0, 0, 0, 0⟩, short := false, floorSum := 0, poolP := 0, level := 0, beat := 0 }

def YPortSt.reset : YPortSt := ⟨false, 0, false, 0, 0, 0, 0, ⟨0, []⟩⟩

def Yarrow.reset : Yarrow :=
  { node := 0, group := 0, groupB := 0, link := 0x01F40001#32, id := 0, idSrc := 0, pa := .reset, pb := .reset
    ring := false, head := false, seq := 0, sync := true, sentN := 0, seen := [], gstate := .none, groupNow := 0, root := 0, term := 0
    termMax := 0, listenFrom := 0, electFrom := 0, heard := [], lastHb := 0, hbBeat := 0, hbSrcs := [], missed := 0, decays := 0, ledger := []
    scanPos := none, scanBeat := 0, scan := [], lastFloor := 0, lastWant := 0, hbCount := 0, repTerm := false, repDue := none, rootLost := false, fwd := []
    fwdFrom := [], crcErr := 0, unknownType := 0, seqDrop := 0, transitAbort := 0, heldN := 0 }

/-- The class header at reset (R191). -/
def Header.reset : Header := ⟨0x67511110#32, 60, 0, 0xFFFF#16, 480⟩

def Rule.empty : Rule := ⟨0, 0, 0, 0, 0, 0, 0, 0, 0, 0⟩

/-- Fixed 5.00 V at 3.00 A (R189). -/
def Tmpl.five : Tmpl := ⟨1, 100, 0, 300⟩
def Tmpl.empty : Tmpl := ⟨0, 0, 0, 0⟩

def Class.reset : Class :=
  { header := .reset, rules := Vector.replicate 32 .empty, src := (Vector.replicate 11 Tmpl.empty).set 0 .five
    snk := (Vector.replicate 11 Tmpl.empty).set 0 .five }

def Policy.reset : Policy :=
  { classes := Vector.replicate 16 .reset, writes := [], decisions := [], answers := [], nextId := 1 }

def Store.reset : Store :=
  { flash := [], genA := none, genB := none, journal := none, verified := none, badA := false, badB := false
    okA := false, okB := false, op := none }

def Service.reset : Service :=
  { port := none, lastSeq := none, lastAck := [], part := [], hcrc := false, tail := none }

/-- The module with no supply present, before any power-on: what SERVICE_DOMAIN_POWER_ON, FEED_GUARD_START and
MAIN_DOMAIN_RELEASE start from (log 4, 5). -/
def State.reset : State :=
  { board := .reset, dev := .reset, ports := Vector.ofFn Port.resetOf, clusters := Vector.replicate 8 .reset
    cores := Vector.replicate 9 .reset, shared := 0, pool := .reset, host := .reset, faults := .reset, feed := .reset
    budget := .reset, yarrow := .reset, policy := .reset, store := .reset, svc := .reset, pending := [] }

end Sys2Proof.Machine
end

