-- ==== Sys2Proof/Machine/Ops.lean ====
section
/-! DEFINITION. The named operations over bytes, memories, ports, timers and packets that every family uses. -/

namespace Sys2Proof.Machine

/-! ### Bits and bytes -/

/-- `len` bits of `w` from bit `lo`. -/
def fld (w : Word) (lo len : Nat) : Nat := (w.toNat >>> lo) % 2 ^ len

/-- One bit of `w`. -/
def bit1 (w : Word) (i : Nat) : Bool := w.getLsbD i

/-- `w` with `len` bits from `lo` set to `v`. -/
def setFld (w : Word) (lo len v : Nat) : Word :=
  BitVec.ofNat 32 (w.toNat - (fld w lo len) * 2 ^ lo + (v % 2 ^ len) * 2 ^ lo)

/-- A bit as a number. -/
def b2n (b : Bool) : Nat := if b then 1 else 0

/-- The low `n` bytes of `v`, least significant first (R66, R362). -/
def leBytes : Nat → Nat → List Byte
  | 0, _ => []
  | n + 1, v => BitVec.ofNat 8 v :: leBytes n (v / 256)

/-- A little-endian number. -/
def leNat : List Byte → Nat
  | [] => 0
  | b :: bs => b.toNat + 256 * leNat bs

/-- The `n`-byte number at offset `off`. -/
def rdNat (bs : List Byte) (off n : Nat) : Nat := leNat ((bs.drop off).take n)

/-- The byte at offset `off`, 0 past the end. -/
def rdByte (bs : List Byte) (off : Nat) : Nat := (bs.getD off 0).toNat

/-- The 32-bit word at offset `off`. -/
def rdWord (bs : List Byte) (off : Nat) : Word := BitVec.ofNat 32 (rdNat bs off 4)

def u16 (v : Nat) : List Byte := leBytes 2 v
def u32 (v : Nat) : List Byte := leBytes 4 v
def wordBytes (w : Word) : List Byte := u32 w.toNat
def beatBytes (b : Beat) : List Byte := leBytes 6 b.toNat
def zeros (n : Nat) : List Byte := List.replicate n 0

/-- Zero bytes up to a multiple of four (R373). -/
def padTo4 (bs : List Byte) : List Byte := bs ++ zeros ((4 - bs.length % 4) % 4)

/-- `v` limited to `lo`–`hi`. -/
def clampInt (lo hi v : Int) : Int := if v < lo then lo else if hi < v then hi else v

/-- A signed number as a 16-bit half. -/
def half (v : Int) : Half := BitVec.ofInt 16 v

/-- A count that saturates at `2^n - 1`. -/
def satIncr {n : Nat} (v : BitVec n) : BitVec n := if v = BitVec.allOnes n then v else v + 1

/-- One step of a reflected CRC over one byte: eight shifts against `poly`. -/
def crcShift (poly : Word) : Nat → Word → Word
  | 0, c => c
  | n + 1, c => crcShift poly n (if c.getLsbD 0 then (c >>> 1) ^^^ poly else c >>> 1)

/-- A reflected CRC with initial value and final XOR 0xFFFF_FFFF. -/
def crcRun (poly : Word) (bs : List Byte) : Word :=
  ~~~ (bs.foldl (fun c b => crcShift poly 8 (c ^^^ b.setWidth 32)) 0xFFFFFFFF#32)

/-- CRC-32 of IEEE 802.3 (R376). -/
def crc32 : List Byte → Word := crcRun 0xEDB88320#32

/-- CRC-32C (R428, R70, R361, R419). -/
def crc32c : List Byte → Word := crcRun 0x82F63B78#32

/-! ### Memories -/

/-- The byte at `a`; an unlisted address reads `dflt a`. -/
def Memory.read (dflt : Nat → Byte) (m : Memory) (a : Nat) : Byte :=
  match m.find? (fun c => c.1 == a) with
  | some c => c.2
  | none => dflt a

/-- `m` with byte `b` at `a`, in canonical form: writing what an unlisted address reads removes the entry. -/
def Memory.write (dflt : Nat → Byte) (a : Nat) (b : Byte) : Memory → Memory
  | [] => if b = dflt a then [] else [(a, b)]
  | c :: cs =>
    if c.1 < a then c :: Memory.write dflt a b cs
    else if c.1 = a then (if b = dflt a then cs else (a, b) :: cs)
    else if b = dflt a then c :: cs else (a, b) :: c :: cs

/-- The canonical form: addresses strictly rising, no entry equal to what an unlisted address reads. -/
def Memory.wf (dflt : Nat → Byte) (m : Memory) : Bool :=
  decide (m.Pairwise (fun x y => x.1 < y.1)) && m.all (fun c => c.2 != dflt c.1)

/-- Several bytes from `a` on. -/
def Memory.writeAll (dflt : Nat → Byte) : Nat → List Byte → Memory → Memory
  | _, [], m => m
  | a, b :: bs, m => Memory.writeAll dflt (a + 1) bs (Memory.write dflt a b m)

/-- `n` bytes from `a` on. -/
def Memory.readN (dflt : Nat → Byte) (m : Memory) (a n : Nat) : List Byte :=
  (List.range n).map (fun i => m.read dflt (a + i))

/-- The canonical memory with every byte from `lo` to before `hi` back at what an unlisted address reads. -/
def Memory.clear (lo hi : Nat) (m : Memory) : Memory := m.filter (fun c => c.1 < lo || hi ≤ c.1)

/-- Data memory reads 0 where nothing is listed (R446). -/
def zeroByte : Nat → Byte := fun _ => 0

/-- The image store reads 0xFF where nothing is listed: erased NOR (log 17). -/
def erased : Nat → Byte := fun _ => 0xFF#8

/-! ### Ports, clusters and cores -/

/-- The cluster of a port (R15): twelve ports each. -/
def clusterOf (p : PortId) : ClusterId := ⟨p.val / 12, by omega⟩

/-- Local index of a port within its cluster. -/
def localIdx (p : PortId) : Nat := p.val % 12

/-- The AFE die of a cluster: two clusters each (R15). -/
def dieOf (c : ClusterId) : Fin 4 := ⟨c.val / 2, by omega⟩

/-- Port `i` of cluster `c`. -/
def portOf (c : ClusterId) (i : Fin 12) : PortId := ⟨c.val * 12 + i.val, by omega⟩

/-- P0–P3, the service ports (R116). -/
def isService (p : PortId) : Bool := p.val < 4

/-- Every port, in order. -/
def allPorts : List PortId := List.finRange 96

def State.port (s : State) (p : PortId) : Port := s.ports[p]
def State.cluster (s : State) (c : ClusterId) : Cluster := s.clusters[c]
def State.core (s : State) (k : CoreId) : CoreSt := s.cores[k]

def State.modPort (s : State) (p : PortId) (f : Port → Port) : State :=
  { s with ports := s.ports.set p (f s.ports[p]) }

def State.modCluster (s : State) (c : ClusterId) (f : Cluster → Cluster) : State :=
  { s with clusters := s.clusters.set c (f s.clusters[c]) }

def State.modCore (s : State) (k : CoreId) (f : CoreSt → CoreSt) : State :=
  { s with cores := s.cores.set k (f s.cores[k]) }

/-- `f` on every port. -/
def State.mapPorts (s : State) (f : PortId → Port → Port) : State :=
  { s with ports := Vector.ofFn (fun p => f p s.ports[p]) }

def State.modBoard (s : State) (f : Board → Board) : State := { s with board := f s.board }
def State.modPool (s : State) (f : Pool → Pool) : State := { s with pool := f s.pool }
def State.modHost (s : State) (f : HostPort → HostPort) : State := { s with host := f s.host }
def State.modFaults (s : State) (f : Faults → Faults) : State := { s with faults := f s.faults }
def State.modFeed (s : State) (f : FeedDie → FeedDie) : State := { s with feed := f s.feed }
def State.modBudget (s : State) (f : Budget → Budget) : State := { s with budget := f s.budget }
def State.modYarrow (s : State) (f : Yarrow → Yarrow) : State := { s with yarrow := f s.yarrow }
def State.modPolicy (s : State) (f : Policy → Policy) : State := { s with policy := f s.policy }
def State.modStore (s : State) (f : Store → Store) : State := { s with store := f s.store }
def State.modSvc (s : State) (f : Service → Service) : State := { s with svc := f s.svc }
def State.modDev (s : State) (f : Dev → Dev) : State := { s with dev := f s.dev }

/-- The present beat. -/
def State.now (s : State) : Beat := s.board.beat

/-- Draw from the internal random source, uniform below `n` (R105, R226, R325; log 9). -/
def draw (s : State) (n : Nat) : Nat := Config.random s.board.free % n

/-- The source moves on after a draw. -/
def State.drawn (s : State) : State := s.modBoard fun b => { b with free := b.free + 1 }

/-! ### Timers (R38–R40, R103) -/

def Timer.idle : Timer := ⟨0, false, false, false, .idle⟩

/-- Arming for `t` beats: PRESCALE 0 with N = t up to 65,535, else PRESCALE 1 with N = ⌈(t−1)/256⌉ + 1 (R103). -/
def Timer.armed' (use : Use) (t : Nat) : Timer :=
  if t ≤ 65535 then ⟨BitVec.ofNat 16 t, false, true, false, use⟩
  else ⟨BitVec.ofNat 16 ((t - 1 + 255) / 256 + 1), true, true, false, use⟩

/-- One tick at slot 0: an armed timer counts down, with PRESCALE only where `fine` (beat bits [7:0] zero), and at zero
sets EXPIRED and clears ARMED (R39). -/
def Timer.tick (fine : Bool) (t : Timer) : Timer :=
  if t.armed && (!t.prescale || fine) then
    if t.count ≤ 1 then { t with count := 0, armed := false, expired := true } else { t with count := t.count - 1 }
  else t

/-- Names of the timers of R104 and R182. -/
def tResponse : Fin 12 := 0
def tPower : Fin 12 := 1
def tKeep : Fin 12 := 2
def tCaps : Fin 12 := 3
def tResponse1 : Fin 12 := 4
def tDiscover : Fin 12 := 5
def tResponse2 : Fin 12 := 8
def tCc : Fin 12 := 10
def tHealth : Fin 12 := 11

def Port.setTimer (x : Port) (i : Fin 12) (t : Timer) : Port := { x with timers := x.timers.set i t }
def Port.arm (x : Port) (i : Fin 12) (use : Use) (t : Nat) : Port := x.setTimer i (.armed' use t)
def Port.disarm (x : Port) (i : Fin 12) : Port := x.setTimer i .idle
def Port.use (x : Port) (i : Fin 12) : Use := (x.timers[i]).use

/-- Timer `i` has expired carrying `use` (R39): what the firmware acts on. -/
def Port.due (x : Port) (i : Fin 12) (use : Use) : Bool :=
  (x.timers[i]).expired && (x.timers[i]).use == use

/-- Timer `i` runs and carries `use`. -/
def Port.running (x : Port) (i : Fin 12) (use : Use) : Bool :=
  (x.timers[i]).armed && (x.timers[i]).use == use

/-- 250 beats a millisecond (R103). -/
def ms (m : Nat) : Nat := 250 * m

/-- The response timer of a target (R182). -/
def respTimer : Tgt → Fin 12
  | .sop => tResponse
  | .sop1 => tResponse1
  | .sop2 => tResponse2

def tgtIdx : Tgt → Fin 3
  | .sop => 0
  | .sop1 => 1
  | .sop2 => 2

def Port.ctxOf (x : Port) (t : Tgt) : Ctx := x.ctx[(tgtIdx t)]
def Port.modCtx (x : Port) (t : Tgt) (f : Ctx → Ctx) : Port := { x with ctx := x.ctx.set (tgtIdx t) (f x.ctx[(tgtIdx t)]) }

/-! ### Cells and queues (R423–R441) -/

/-- Cells of a packet of `n` bytes (R430). -/
def cellsFor (n : Nat) : Nat := if n ≤ 52 then 1 else 1 + (n - 52 + 59) / 60

def Packet.cells (k : Packet) : Nat := cellsFor k.data.length

def Queue.limit (q : Queue) : Nat := fld q.cfg 0 14
def Queue.wmark (q : Queue) : Nat := fld q.cfg 16 14

/-- Cells freed of the packet being popped (R434): one each time its last word was taken. -/
def freedCells (popped : Nat) : Nat := if popped < 14 then 0 else 1 + (popped - 14) / 15

/-- A reading of the packet's cells finds it poisoned, or leaves it so (R437–R439). -/
def Packet.bad (k : Packet) : Bool := k.poison || k.flaw != .sound

/-- Whole packets that hold or await cells of the queue. -/
def Queue.whole (q : Queue) : List Packet := q.closed ++ q.waiting

/-- CELLS of a queue, open packet included (R427). -/
def Queue.cells (q : Queue) : Nat :=
  (q.closed.map Packet.cells).sum + (match q.opened with | some o => o.packet.cells | none => 0)
    - freedCells q.popped

/-- The cells a queue holds of the general free list. -/
def Queue.general (q : Queue) : Nat :=
  (q.whole.map (fun k => if k.refusal then 0 else k.cells - k.res)).sum
    + (match q.opened with | some o => o.packet.cells - o.packet.res | none => 0) - freedCells q.popped

def Queue.counted (q : Queue) : Nat :=
  (q.whole.map (fun k => if k.refusal then 0 else k.cells)).sum
    + (match q.opened with | some o => o.packet.cells | none => 0) - freedCells q.popped

/-- Free cells of the general free list (R415). -/
def Pool.free (m : Pool) : Nat := m.capacity - m.retired - (m.queues.toList.map Queue.general).sum

/-- Refusal-reserve cells in use (R423). -/
def Pool.refusalUsed (m : Pool) : Nat :=
  (m.queues.toList.map (fun q => (q.whole.map (fun k => if k.refusal then k.cells else 0)).sum)).sum

/-- PD-reserve cells in use. -/
def Pool.resUsed (m : Pool) : Nat :=
  (m.queues.toList.map (fun q => (q.whole.map Packet.res).sum
    + (match q.opened with | some o => o.packet.res | none => 0))).sum

def Pool.resFree (m : Pool) : Nat := m.pdReserve - m.resUsed

def Pool.modQ (m : Pool) (q : QueueId) (f : Queue → Queue) : Pool := { m with queues := m.queues.set q (f m.queues[q]) }

/-- WMARK and HYST of CRUCIBLE.POOL (R426). -/
def Pool.wmark (m : Pool) : Nat := fld m.cfg 0 14
def Pool.hyst (m : Pool) : Nat := fld m.cfg 16 14

/-- The pool holds only cells 0–4,095 (R422). -/
def Pool.serviceOnly (m : Pool) : Bool := m.pdReserve == 32

/-- A packet as its producer closes it. -/
def mkPacket (m : Pool) (c : Carried) (data : List Byte) : Packet := ⟨data, c, false, 0, false, m.serviceOnly, .sound, m.serials⟩

/-- Cells reserved for packets to come, in all and in one queue (R445). -/
def Pool.heldAll (m : Pool) : Nat := (m.held.map (·.2)).sum
def Pool.heldOn (m : Pool) (q : QueueId) : Nat := (m.held.map fun e => if e.1 = q then e.2 else 0).sum

/-- Whether queue `q` takes `n` more cells: not quarantined, within LIMIT, and the free list has them beside those S8 has
reserved (R425, R439, R444, R445). -/
def Pool.room (m : Pool) (q : QueueId) (n : Nat) : Bool :=
  !(m.queues[q]).quarantine && decide ((m.queues[q]).counted + m.heldOn q + n ≤ (m.queues[q]).limit) && decide (n + m.heldAll ≤ m.free)

/-- The closed packet joins the tail; behind an open packet of another producer it waits its turn, each packet whole (R427, log 92). -/
def Queue.join (k : Packet) (x : Queue) : Queue :=
  if x.opened.isSome then { x with waiting := x.waiting ++ [k] } else { x with closed := x.closed ++ [k] }

/-- The open packet ends, closed as `k` or gone, and the packets that waited for it join the tail (R427, R429, R431). -/
def Queue.endOpen (k : Option Packet) (x : Queue) : Queue :=
  { x with opened := none, discardOpen := false, waiting := [], closed := x.closed ++ k.toList ++ x.waiting }

def Pool.append (m : Pool) (q : QueueId) (k : Packet) : Pool := { m.modQ q (Queue.join k) with serials := m.serials + 1 }

/-- A refused push sets the flag of R415 (R436). -/
def Pool.refuse (m : Pool) (q : QueueId) : Pool := m.modQ q fun x => { x with refused := true }

/-- After cells were taken from `before` free ones: below WMARK coalescing starts and POOL_LOW is due (R442). -/
def Pool.watch (before : Nat) (m : Pool) : Pool :=
  if decide (m.free < m.wmark) then { m with coalescing := true, lowDue := m.lowDue || decide (m.wmark ≤ before) } else m

/-- A refused cell for want of free cells makes POOL_EXHAUSTED due (R444). -/
def Pool.refuseFor (m : Pool) (q : QueueId) (n : Nat) : Pool :=
  { m.refuse q with exhDue := m.exhDue || decide (m.free < n) }

/-- Push of a whole packet (R428–R430, R444): a packet of no bytes is discarded, one of more than 4,104 bytes aborted. -/
def Pool.push (m : Pool) (q : QueueId) (k : Packet) : Pool :=
  if k.data.isEmpty || decide (4104 < k.data.length) then m
  else if m.room q k.cells then (m.append q k).watch m.free else m.refuseFor q k.cells

/-- S8 reserves `n` cells for a packet to come in `q` (R445). -/
def Pool.reserve (m : Pool) (q : QueueId) (n : Nat) : Pool := { m with held := m.held ++ [(q, n)] }

/-- Push of a packet for which `n` cells are reserved (R445): it is always taken; without a reservation it is a plain push. -/
def Pool.pushHeld (m : Pool) (q : QueueId) (n : Nat) (k : Packet) : Pool :=
  if m.held.contains (q, n) && !(m.queues[q]).quarantine && decide (k.data.length ≤ 4104) then (({ m with held := m.held.erase (q, n) }).append q k).watch m.free
  else ({ m with held := m.held.erase (q, n) }).push q k

/-- A reservation that is no longer needed. -/
def Pool.dropHeld (m : Pool) (q : QueueId) (n : Nat) : Pool := { m with held := m.held.erase (q, n) }

/-- Whether a push of `k` to `q` is taken. -/
def Pool.takes (m : Pool) (q : QueueId) (k : Packet) : Bool := m.room q k.cells

/-- The head packet leaves its queue. -/
def Queue.tail (x : Queue) : Queue := { x with closed := x.closed.tail, popped := 0, wordErr := false }

def Pool.pop (m : Pool) (q : QueueId) : Pool := m.modQ q Queue.tail

def Pool.head (m : Pool) (q : QueueId) : Option Packet :=
  if (m.queues[q]).quarantine then none else (m.queues[q]).closed.head?

/-! ### Queue numbers (R424) -/

def qUrgent : QueueId := 1
def qHost : QueueId := 0
def qSvc : QueueId := 7
def qReply : QueueId := 8
def qEvent : QueueId := 9
def qSvcOut : QueueId := 15
def qFwd : QueueId := 88
def qFwdOut : QueueId := 89
def qRx (c : ClusterId) : QueueId := ⟨16 + 8 * c.val, by omega⟩
def qTx (c : ClusterId) : QueueId := ⟨17 + 8 * c.val, by omega⟩
def qDec (c : ClusterId) : QueueId := ⟨19 + 8 * c.val, by omega⟩
/-- A cluster core's events for S8, and its requests for the host's decision. -/
def qEvt (c : ClusterId) : QueueId := ⟨18 + 8 * c.val, by omega⟩
def qLog (c : ClusterId) : QueueId := ⟨20 + 8 * c.val, by omega⟩
/-- Hand-off from S8 to a cluster core, and the core's answers (R17). -/
def qHand (c : ClusterId) : QueueId := ⟨96 + c.val, by omega⟩
def qAnswer (c : ClusterId) : QueueId := ⟨104 + c.val, by omega⟩

/-- Q2–Q6 and Q10–Q14 are reserved (R424). -/
def reservedQ (q : Nat) : Bool := (2 ≤ q && q ≤ 6) || (10 ≤ q && q ≤ 14)

/-! ### Codes -/

/-- Code of a connection state (R106). -/
def Tc.code : Tc → Nat
  | .disabled => 0 | .calibrating => 1 | .calFailed => 2 | .errorRecovery => 3 | .unattachedSrc => 4
  | .unattachedSnk => 5 | .attachWaitSrc => 6 | .attachWaitSnk => 7 | .trySrc => 8 | .trySnk => 9 | .tryWaitSrc => 10
  | .tryWaitSnk => 11 | .attachedSrc => 12 | .attachedSnk => 13 | .audioAcc => 14 | .debugAccSrc => 15
  | .debugAccSnk => 16 | .dryWait => 17 | .lockout => 18

/-- States of R159 in which a port carries PD traffic. -/
def Tc.pd (t : Tc) : Bool := t == .attachedSrc || t == .attachedSnk || t == .debugAccSrc || t == .debugAccSnk

/-- States 12–16. -/
def Tc.attached (t : Tc) : Bool := t.pd || t == .audioAcc

def Tc.unattached (t : Tc) : Bool := t == .unattachedSrc || t == .unattachedSnk

/-- States that PORT_ENABLE alone brings a port out of (R98, R114, R408). -/
def Tc.down (t : Tc) : Bool := t == .disabled || t == .calFailed || t == .lockout

def Tc.attachWait (t : Tc) : Bool := t == .attachWaitSrc || t == .attachWaitSnk

/-- States in which the port presents Rp. -/
def Tc.isSrc (t : Tc) : Bool :=
  t == .unattachedSrc || t == .attachWaitSrc || t == .trySrc || t == .tryWaitSrc || t == .attachedSrc
    || t == .audioAcc || t == .debugAccSrc

/-- States in which the port presents Rd. -/
def Tc.isSnk (t : Tc) : Bool :=
  t == .unattachedSnk || t == .attachWaitSnk || t == .trySnk || t == .tryWaitSnk || t == .attachedSnk
    || t == .debugAccSnk

def streamCode : Stream → Nat
  | .host => 0 | .service => 1 | .forwarded => 2 | .ended => 3

/-! ### Conditions that many rules name -/

/-- The hub die has its supply and is out of reset (R62, R78): it raises, reports and serves. -/
def State.hubRuns (s : State) : Bool := s.board.svcOn && !s.board.resetLow

/-- A core stopped by an overrun or a trap, up to its next beat entry (R18, R19, R37, R461). -/
def CoreSt.stopped (c : CoreSt) : Bool := !c.running && (c.flagOverrun || c.flagTrap)
def State.coreStopped (s : State) (k : CoreId) : Bool := (s.core k).stopped

/-- The core of a port's cluster. -/
def coreOf (p : PortId) : CoreId := ⟨p.val / 12, by omega⟩

/-- The port's firmware acts: its cluster's core is not stopped (R19, R20, R238). -/
def State.fw (s : State) (p : PortId) : Bool := !s.coreStopped (coreOf p)

/-- A PORT_SAFE or DEVICE_SAFE of the port that acts at the next slot 0 (R349, R350). -/
def State.safePending (s : State) (p : PortId) : Bool := s.faults.safeNext.any fun e => e.1 == p

/-- The port's firmware takes the next step of a sequence: its core runs, no Hard Reset is ordered and no fault reaction is pending
(R20, R238). -/
def State.pdRuns (s : State) (p : PortId) : Bool := s.fw p && (s.port p).pd.hrOrder.isNone && !s.safePending p

/-- Firmware acts on the expiry of timer `i` carrying `use`; one that falls while the core is stopped acts when it resumes (R238). -/
def State.due (s : State) (p : PortId) (i : Fin 12) (use : Use) : Bool := s.fw p && (s.port p).due i use

/-- FEEDA or FEEDB is set (R73). -/
def State.feedOn (s : State) : Bool := bit1 s.dev.ready0 20 || bit1 s.dev.ready0 21

/-- A ready bit of word 0. -/
def State.ready (s : State) (i : Nat) : Bool := bit1 s.dev.ready0 i

/-- Readiness of core `k` (bit 3 + k) and of cluster `c` (bit 12 + c). -/
def State.coreReady (s : State) (k : Nat) : Bool := s.ready (3 + k)
def State.clusterReady (s : State) (c : Nat) : Bool := s.ready (12 + c)

/-- Sets bits of word 0. -/
def State.setReady (s : State) (m : Word) : State := s.modDev fun d => { d with ready0 := d.ready0 ||| m }

/-- Clears bits of word 0; NOT_READY_ANY records that some bit has cleared (R74). -/
def State.clearReady (s : State) (m : Word) : State :=
  s.modDev fun d => { d with ready0 := d.ready0 &&& ~~~ m, notReadyAny := d.notReadyAny || (d.ready0 &&& m) != 0 }

/-- The module runs in service-domain operation: the main domain is absent (R26). -/
def State.serviceDomain (s : State) : Bool := s.board.svcOn && !s.board.mainOn

/-- PORT.ROLE_CFG fields (R101). -/
def Port.roleOf (x : Port) : BitVec 2 := BitVec.ofNat 2 (fld x.cfg.roleCfg 0 2)
def Port.tryOf (x : Port) : Nat := fld x.cfg.roleCfg 2 2
def Port.rpOf (x : Port) : BitVec 2 := BitVec.ofNat 2 (fld x.cfg.roleCfg 4 2)
def Port.vconnEn (x : Port) : Bool := bit1 x.cfg.roleCfg 6
def Port.duty (x : Port) : Nat := fld x.cfg.roleCfg 8 7
def Port.tDrp (x : Port) : Nat := ms (fld x.cfg.roleCfg 16 7)
def Port.tErr (x : Port) : Nat := ms (fld x.cfg.roleCfg 23 8)
def Port.enabled (x : Port) : Bool := bit1 x.cfg.enable 0

/-- The port sources VCONN exactly in state VCONN_ON (R107). -/
def Port.vbsMv (x : Port) : Int := x.stage.conv.vbs / 10

/-! ### Replies and events (R373, R374, R395) -/

/-- The header and payload of an event, padded (R374). The trailer is computed when it is read (R386). -/
def eventBytes (code : Nat) (port : Nat) (coalesced : Bool) (data : List Byte) : List Byte :=
  padTo4 (leBytes 1 code ++ [0, 0] ++ leBytes 1 (if coalesced then 4 else 0) ++ u16 port ++ u16 data.length ++ data)

/-- The header and payload of a reply (R374). `w1` is bytes 4 and 5 of the command: PORT and TGT, echoed. -/
def replyBytes (opc tag status : Nat) (urgent dup : Bool) (w1 : Nat) (data : List Byte) : List Byte :=
  padTo4 (leBytes 1 opc ++ leBytes 1 tag ++ leBytes 1 status ++ leBytes 1 (b2n urgent + 2 * b2n dup) ++ u16 w1
    ++ u16 data.length ++ data)

/-- Codes that coalesce (R442). -/
def coalesces (code : Nat) : Bool := 0xC3 ≤ code && code ≤ 0xC9

/-- One more event of `code` counted for a stream and port, saturating (R442, R443). -/
def countEvent (service : Bool) (beat : Beat) (port : Byte) (code : Nat) : List CoalEntry → List CoalEntry
  | [] => [⟨service, port, (Vector.replicate 7 0).set! (code - 0xC3) 1, beat, beat⟩]
  | e :: es =>
    if e.service == service && e.port == port then
      { e with counts := e.counts.set! (code - 0xC3) (min 0xFFFF (e.counts.getD (code - 0xC3) 0 + 1)), last := beat } :: es
    else e :: countEvent service beat port code es

def Pool.count (m : Pool) (service : Bool) (beat : Beat) (port : Nat) (code : Nat) : Pool :=
  { m with coal := countEvent service beat (BitVec.ofNat 8 port) code m.coal }

/-- An event to one stream: excluded by the mask, counted while coalescing or when refused a cell, else queued
(R396, R442). -/
def Pool.event (m : Pool) (service : Bool) (mask : Word) (beat : Beat) (code port : Nat) (data : List Byte) : Pool :=
  let q := if service then qSvcOut else qEvent
  let k := mkPacket m .none (eventBytes code port false data)
  if !bit1 mask (code - 0xC0) then m
  else if coalesces code && (m.coalescing || !m.takes q k) then
    (if m.coalescing then m.count service beat port code
     else (m.refuseFor q k.cells).count service beat port code)
  else m.push q k

/-- The service stream's events are on while a port holds the service mode (R255). -/
def State.svcOn (s : State) : Bool := s.svc.port.isSome

/-- An event from S8 to the host port and, while it is on, to the service stream. -/
def State.send (s : State) (code port : Nat) (data : List Byte) : State :=
  { s with pool :=
      let m := s.pool.event false s.host.maskHost s.board.beat code port data
      if s.svcOn then m.event true s.host.maskSvc s.board.beat code port data else m }

/-- Events that the core of a port's cluster makes: PORT_STATE, MOISTURE, VDM_RX, ATTENTION, CONTRACT (R20, R395). -/
def coreEvent (code port : Nat) : Bool := decide (port < 96) && decide (0xC5 ≤ code) && decide (code ≤ 0xC9)

/-- An event that one queue on its path refuses is counted for each stream whose mask admits it (R442). -/
def State.countLost (s : State) (code port : Nat) (m : Pool) : Pool :=
  let a := if bit1 s.host.maskHost (code - 0xC0) then m.count false s.board.beat port code else m
  if s.svcOn && bit1 s.host.maskSvc (code - 0xC0) then a.count true s.board.beat port code else a

/-- A cluster core's event waits on Q(18+8c) for S8 (R424, log 73). -/
def State.await (s : State) (code port : Nat) (data : List Byte) : State :=
  let q : QueueId := qEvt (clusterOf ⟨port % 96, Nat.mod_lt _ (by decide)⟩)
  let k := mkPacket s.pool .none (eventBytes code port false data)
  { s with pool := if s.pool.takes q k then s.pool.push q k else s.countLost code port (s.pool.refuseFor q k.cells) }

/-- An event. One of a cluster's core passes Q(18+8c) at once while S8 runs, and stands there while S8 is stopped (R19, R424, log 73). -/
def State.post (s : State) (code port : Nat) (data : List Byte) : State :=
  if coreEvent code port && s.coreStopped 8 then s.await code port data else s.send code port data

/-- Cells of the largest completion of a command (R394, R445). -/
def completionCells (opc : Nat) : Nat :=
  cellsFor (8 + 12 + (if opc = 0x30 then 272 else if opc = 0x38 then 12 else if opc = 0x40 then 1028 else if opc = 0x41 then 32 else 4))

/-- S8 queues a COMPLETION to the stream of its command, in the cells reserved for it (R394, R445): none for a forwarded command, nor
for one of a service stream that has ended (R252). -/
def State.completeNow (s : State) (st : Stream) (opc : Nat) (event : List Byte) : State :=
  { s with pool :=
      match st with
      | .host => s.pool.pushHeld qEvent (completionCells opc) (mkPacket s.pool .none event)
      | .service =>
        if s.svcOn then s.pool.pushHeld qSvcOut (completionCells opc) (mkPacket s.pool .none event)
        else s.pool.dropHeld qSvcOut (completionCells opc)
      | .forwarded | .ended => s.pool }

/-- The queue of a port's cluster core for its answers to S8 (R17, R424). -/
def answerQ (port : Nat) : QueueId := qAnswer (clusterOf ⟨port % 96, Nat.mod_lt _ (by decide)⟩)

/-- A cluster core's completion stands in its answer queue until S8 runs again (R17, R19); refused there, it keeps to the cells that
S8 has reserved for it (R445, log 89). -/
def State.answerLater (s : State) (st : Stream) (opc port : Nat) (event : List Byte) : State :=
  let k := mkPacket s.pool (.ans st opc) event
  if s.pool.takes (answerQ port) k then { s with pool := s.pool.push (answerQ port) k }
  else { s with pool := s.pool.refuseFor (answerQ port) k.cells }.completeNow st opc event

/-- A COMPLETION event (R394). A cluster core's passes Q(104+c) at once while S8 runs, and stands there while S8 is stopped (R17). -/
def State.complete (s : State) (st : Stream) (opc tag status tgt : Nat) (port : Nat) (result : List Byte) : State :=
  let event := eventBytes 0xC1 port false (leBytes 1 opc ++ leBytes 1 tag ++ leBytes 1 status ++ leBytes 1 tgt
    ++ beatBytes s.board.beat ++ [0, 0] ++ result)
  if decide (port < 96) && st.reserves && s.coreStopped 8 then s.answerLater st opc port event else s.completeNow st opc event

end Sys2Proof.Machine
end

