-- ==== Sys2Proof/Machine/Ports.lean ====
section
/-! DEFINITION. What befalls a port whatever command brings it: presentation, pass switch, stage stop, discharge,
the resets of R181, entry to a connection state, and the events that go with a change of state. -/

namespace Sys2Proof.Machine

/-! ### Words the host reads (R107, R100, R220, R299, R157) -/

def bw (b : Bool) (i : Nat) : Nat := if b then 2 ^ i else 0

/-- PORT.TC_STATE (R107). -/
def tcWord (x : Port) : Word :=
  BitVec.ofNat 32 (x.tc.st.code + bw x.tc.orient 5 + x.tc.rpSeen.toNat * 64 + bw x.tc.vconnOn 8 + bw x.tc.wet 9
    + bw x.tc.corroded 10)

/-- PORT.HARN_STAT, HARN_OFFS, HARN_RES and HARN_CAP (R100). -/
def harnStat (x : Port) : Word :=
  BitVec.ofNat 32 (x.harn.status.toNat + x.harn.cause.toNat * 8 + bw x.harn.capHigh 7)
def halves (lo hi : Half) : Word := hi ++ lo
def harnOffs (x : Port) : Word := halves x.harn.vbsOfs x.harn.gsnOfs
def harnRes (x : Port) : Word := halves x.harn.rCc x.harn.rDrop
def harnCap (x : Port) : Word := halves x.harn.cCc1 x.harn.cCc2

/-- PORT.CONTRACT (R220); ROLE follows the power-role bit (R233). -/
def contractWord (x : Port) : Word :=
  let c := x.pd.contract
  BitVec.ofNat 32 (c.pos.toNat + c.type.toNat * 16 + bw c.eprMode 7 + bw (!x.pd.powerSource) 8 + bw c.inTransition 9
    + bw c.clActive 10 + bw c.dropLimit 11 + bw c.mismatch 12)

/-- PORT.CONTRACT_VI (R220). -/
def contractVi (x : Port) : Word := BitVec.ofNat 32 (x.pd.contract.vSet % 65536 + x.pd.contract.iOp % 65536 * 65536)

/-- PORT.CABLE_CAP (R220). -/
def cableWord (x : Port) : Word :=
  let c := x.pd.cable
  BitVec.ofNat 32 (c.state.toNat + bw c.epr 2 + c.iCab.toNat * 256 + c.vCab.toNat * 65536)

/-- Codes of R288. -/
def gstCode : Gst → Nat
  | .off => 0 | .ramp => 1 | .on => 2 | .limit => 3 | .tripped => 4 | .locked => 5

/-- °C + 40, saturating to a byte (R299). -/
def tempByte (t : Int) : Nat := (clampInt 0 255 (t + 40)).toNat

/-- GUARD.STATUS (R299). -/
def guardStatus (x : Port) : Word :=
  let g := x.guard
  BitVec.ofNat 32 (gstCode g.gst + bw g.timer.isSome 3 + bw (!g.vbs.good && g.vbs.side == .low) 4
    + bw g.iBo.isSome 5 + tempByte (g.tEst / 65536) * 256 + tempByte (g.tSens / 65536) * 65536 + min g.trips 15 * 2 ^ 24)

/-- PORT.PD_CTX (R157). -/
def ctxWord (c : Ctx) : Word :=
  BitVec.ofNat 32 (c.txId.toNat + c.rxId.toNat * 8 + bw c.rxValid 6 + c.rev.toNat * 128 + c.nRetry.toNat * 512
    + bw c.chunking 11 + c.chunkNum.toNat * 4096 + c.epoch.toNat * 65536 + bw c.vconnOk 20)

/-- PORT.PD_CNT (R157). -/
def cntWord (c : Ctx) : Word :=
  BitVec.ofNat 32 (min c.hrCnt 3 + min c.capsCnt 63 * 4 + min c.discCnt 31 * 256 + min c.busyCnt 7 * 8192
    + c.txFails.toNat * 65536)

/-! ### Presentation (R106, R113, R169, R171) -/

/-- The level a grant supports at 5 V (R113): 3.0 A from 15 W, 1.5 A from 7.5 W. -/
def grantLevel (g : Nat) : BitVec 2 := if 30 ≤ g then 2 else if 15 ≤ g then 1 else 0

/-- The level a Source advertises: the lower of RP and what its grant supports (R113). -/
def Port.advLevel (x : Port) : BitVec 2 := if (grantLevel x.grant).toNat < x.rpOf.toNat then grantLevel x.grant else x.rpOf

/-- The Rp level the port presents as Source: R169 at REV 2, else R113. -/
def Port.rpLevel (x : Port) : BitVec 2 :=
  if x.tc.st.pd && (x.ctxOf .sop).rev == 2 then (if x.pd.sinkNg then 1 else 2) else x.advLevel

/-- What a state presents on CC1 and CC2 (R106). P0–P3 (`svc`) show their clamp in DISABLED and the core's Rd from boot
on (R81, R116). -/
def presOf (svc : Bool) (x : Port) : Pres × Pres :=
  let rp := Pres.rp x.rpLevel
  match x.tc.st with
  | .disabled => if svc then (.clamp, .clamp) else (.none, .none)
  | .calibrating => if svc then (.rd, .rd) else (.none, .none)
  | .calFailed | .errorRecovery | .dryWait | .lockout => (.none, .none)
  | .attachedSrc => if x.tc.orient then (.none, rp) else (rp, .none)
  | .unattachedSrc => if x.tc.mute then (.none, .none) else (rp, rp)
  | .unattachedSnk => if x.tc.mute then (.none, .none) else (.rd, .rd)
  | .attachWaitSrc | .trySrc | .tryWaitSrc | .audioAcc | .debugAccSrc => (rp, rp)
  | .attachedSnk =>
    if !x.tc.vconnOn then (.rd, .rd) else if x.tc.orient then (.none, .rd) else (.rd, .none)
  | .attachWaitSnk | .trySnk | .tryWaitSnk | .debugAccSnk => (.rd, .rd)

/-- The port presents what its state calls for. Where that is nothing, no line shows a termination (R123, R125; log 59). -/
def Port.present (svc : Bool) (x : Port) : Port :=
  let q := presOf svc x
  let bare := q.1 == .none && q.2 == .none
  { x with tc := { x.tc with pres1 := q.1, pres2 := q.2, cc1 := if bare then .opened else x.tc.cc1
                             cc2 := if bare then .opened else x.tc.cc2 } }

/-- A source's Rp level changes with REV, an AMS, RP or a grant: the line that shows Rp follows, but for one that stands at I2
(R109, R113, R169). -/
def Port.refreshRp (x : Port) : Port :=
  let i2 : BitVec 2 := if x.rpOf == 0 then 2 else 0
  let f (n : Nat) : Pres → Pres := fun q => match q with
    | .rp _ => .rp (if n = 1 then i2 else x.rpLevel)
    | other => other
  let k := x.tc.rdCheck.getD ⟨none, none, 0, 0⟩
  { x with tc := { x.tc with pres1 := f k.n1 x.tc.pres1, pres2 := f k.n2 x.tc.pres2 } }

/-! ### Pass switch, VCONN, stage, discharge -/

/-- The gate is commanded off: the sink turns on, power good is withdrawn, the fault timer clears. A tripped or locked
guard keeps its state (R287, R288). -/
def Port.gateOff (b : Beat) (x : Port) : Port :=
  { x with guard := { x.guard with
      gateOn := false, gateWant := false, fullyOn := false, beenFull := false, rise := none, timer := none, gateBeat := b, limitSeen := false
      gst := if x.guard.gst == .tripped || x.guard.gst == .locked then x.guard.gst else .off } }

/-- The charge pump turns on: RAMP, and RISE_MAX starts (R287–R289). -/
def Port.gateDrive (b : Beat) (x : Port) : Port :=
  { x with guard := { x.guard with gateOn := true, beenFull := false, rise := some 0, gateBeat := b, gst := .ramp } }

/-- The gate is commanded on (R287). Under the hold of DISCHARGE_FAIL the command is kept (R280); with a forward start
pending the port is in defined idle, and GATE turns on with the start (R272, log 28). -/
def Port.gateOnCmd (b : Beat) (x : Port) : Port :=
  if x.guard.gst == .tripped || x.guard.gst == .locked then x
  else
    let y : Port := { x with guard := { x.guard with gateWant := true } }
    if y.guard.gateOn || y.stage.gateHold || (y.stage.want == .forward && y.stage.mode == .idle) then y else y.gateDrive b

def Port.vconnOff (x : Port) : Port :=
  { x with tc := { x.tc with vconnOn := false }, stage := { x.stage with runs := { x.stage.runs with vconnOn := 0 } } }

def Port.vconnOnAt (b : Beat) (x : Port) : Port := { x with tc := { x.tc with vconnOn := true, vconnBeat := b } }

/-- A stop of the loop: its history is cleared, and the command goes to the AFE die at the next slot 0, where it brings both PWMs
low (R12, R267, R273). -/
def Stage.halt (g : Stage) : Stage :=
  { g with mode := .idle, want := .idle, dacNext := 0, clMode := false, disS := false, disRun := false
           slope := 0, slopeSat := false
           e := Vector.replicate 3 0, y := Vector.replicate 3 0, yI := 0, headroomNow := false, satNow := false
           runs := { g.runs with window := 0, drift := 0, ppsLow := 0, dropLow := 0 } }

/-- A protective stop: both PWMs low at once, the stage half of defined idle (R257, R273). -/
def Stage.stop (g : Stage) : Stage :=
  { g.halt with clamped := true, cmd := .off, cur := .off, last := .off, nowP := [], lastP := [] }

def Port.stageStop (x : Port) : Port := { x with stage := x.stage.stop }

/-- An ordinary stop, which reaches the AFE die at the next slot 0 (R12, R273). -/
def Port.stageHalt (x : Port) : Port := { x with stage := x.stage.halt }

/-- A stage condition takes the port to defined idle (R229, R275, R280): what the port window commands stays, so that the
stage restarts under R272 (log 28). -/
def Port.stageIdle (b : Beat) (x : Port) : Port :=
  let y := ({ x with stage := { x.stage.stop with want := x.stage.want, stopAt := none } }).gateOff b
  { y with guard := { y.guard with gateWant := x.guard.gateWant } }

/-- VBUS discharge starts (R273): the harness-side sink, and the stage-side run while a feed is set. -/
def Port.discharge (b : Beat) (feed : Bool) (x : Port) : Port :=
  { x with stage := { x.stage with disH := true, disS := feed, disRun := false, disBeat := b, disBeatS := b, runs := { x.stage.runs with disLow := 0 } } }

/-- Defined idle: PWMs low, gate off and the gate monitor below VGS_OFF (R229). -/
def Port.definedIdle (x : Port) : Bool :=
  x.stage.mode == .idle && !x.stage.disRun && x.stage.clamped && !x.guard.gateOn && x.guard.belowOff

/-- The stage runs, or a discharge run does (R256, R273). -/
def Stage.runs' (g : Stage) : Bool := g.mode != .idle || g.disRun

/-- Port power good (R207): the pass switch fully on, no fault timer running. -/
def Port.powerGood (x : Port) : Bool := x.guard.gateOn && x.guard.fullyOn && x.guard.timer.isNone && x.guard.gst == .on

/-! ### Resets of the contexts (R181) -/

/-- A reset advances the EPOCH and clears MessageIDs and chunk state. -/
def Ctx.restart (c : Ctx) : Ctx :=
  { c with txId := 0, rxId := 0, rxValid := false, chunking := false, chunkNum := 0, epoch := c.epoch + 1, asm := none }

def Ctx.soft (c : Ctx) : Ctx := { c.restart with busyCnt := 0 }
def Ctx.hard (c : Ctx) : Ctx := { c.restart with rev := 0, nRetry := 2, capsCnt := 0, busyCnt := 0, discCnt := 0 }
def Ctx.cable (c : Ctx) : Ctx := { c.restart with rev := 0, nRetry := 2, discCnt := 0 }
/-- Detach and the other unattached entries: every counter goes too (R181). What the partner stated of its revision goes with the
partner (DESIGN CHOICE, log 75: R181 does not name PORT.PD_PARTNER_REV). -/
def Ctx.unattached (c : Ctx) : Ctx :=
  { c.hard with hrCnt := 0, txFails := 0, partnerRev := 0, last := none, vconnOk := false }

def Port.mapCtx (x : Port) (f : Ctx → Ctx) : Port := { x with ctx := x.ctx.map f }

/-- The protocol timers of R182: not the CC and health timers, nor those left to extension handlers (R181). -/
def Port.disarmProtocol (x : Port) : Port :=
  (((((((x.disarm tResponse).disarm tPower).disarm tKeep).disarm tCaps).disarm tResponse1).disarm tDiscover).disarm
    tResponse2)

/-- The PHY stops: applied and shadow return to the safe set, the state is OFF (R145, R147). -/
def Phy.stop (f : Phy) : Phy :=
  { f with applied := f.safe, shadow := f.safe, cal := .off, txs := [], rxs := [], whole := false, eqRun := 0 }

/-- Detach, ERROR_RECOVERY, DISABLED and other unattached entries (R181, R147): contexts, protocol timers, Policy Engine
and Planish. A message in flight ends TX_RESET. -/
def Port.dropPd (x : Port) : Port :=
  let y := (x.mapCtx Ctx.unattached).disarmProtocol
  { y with pd := { Pd.reset with lastTx := if x.pd.flight.isSome then some .reset else x.pd.lastTx, lastOut := x.pd.lastOut }
           phy := x.phy.stop }

/-- Leading slots of beat `b` in which the port transmits: a bit lasts 40/3 slots, and an attempt is taken to start at slot 0 of its
beat (R129, DESIGN CHOICE, log 63). -/
def Port.txSlots (b : Beat) (x : Port) : Nat :=
  match x.pd.onLine with
  | some (b0, n) => min 16 ((40 * n - 48 * Beat.since b b0 + 2) / 3)
  | none => 0

/-- The port transmits in beat `b` (R129). -/
def Port.transmits (b : Beat) (x : Port) : Bool := decide (0 < x.txSlots b)

/-- Slots since the last transition of the active line, as counted (R129, R130). -/
def Port.sinceLine (x : Port) : Nat := if x.tc.orient then x.phy.since2 else x.phy.since1

/-- The gap of R130: `idle` is the count in the slot, which lies at most 16 slots past that of the last beat. -/
def Port.gapMet (idle : Nat) (x : Port) : Bool := decide (100 ≤ idle) && decide (84 ≤ x.sinceLine)

/-! ### Entry to connection states (R101, R104, R105, R108, R114) -/

/-- Source part of the toggle cycle (R105). -/
def Port.srcPart (x : Port) : Nat := x.tDrp * x.duty / 100

/-- A sweep begins with its first pass (R120). -/
def Moisture.restart (m : Moisture) : Moisture := { m with pass := 0, skipped := [], term := false }

/-- Entry to a state: code, presentation, CC and health timers idle, in DISABLED every timer (R16), guard state of R288, P bit of
R114, sweeps of R120; outside the attached states VCONN may turn on again (R118). -/
def Port.enter (svc : Bool) (b : Beat) (st : Tc) (x : Port) : Port :=
  let y : Port := { x with
    tc := { x.tc with st := st, stBeat := b, debounced := false, tryHeld := false, rdCheck := none, rdDone := false
                      pReady := x.tc.pReady && !st.down, pHeld := x.tc.pHeld && !st.down, tripWait := false
                      vconnOc := x.tc.vconnOc && st.attached, vconnGiven := x.tc.vconnGiven && st.attached, vconnCut := x.tc.vconnCut && st.attached
                      errFromCal := st == .errorRecovery && (x.tc.st == .calibrating || (x.tc.st == .errorRecovery && x.tc.errFromCal)) }
    guard := { x.guard with gst := if st == .lockout then .locked
                                   else if x.guard.gst == .tripped && st != .errorRecovery then .off
                                   else if x.guard.gst == .locked then .off else x.guard.gst }
    moist := { x.moist.restart with running := (st.unattached || st.attachWait) && bit1 x.cfg.moistCfg 24
                                    leakRun := Vector.replicate 2 0, leakLine := false } }
  (if st == .disabled then { y with timers := Vector.replicate 12 Timer.idle } else (y.disarm tCc).disarm tHealth).present svc

/-- The side of an unattached entry: the one its rule names, or that of a role that changes with it (R101, R111; log 57). -/
def Port.entrySide (snk : Bool) (x : Port) : Bool :=
  if x.roleOf == x.tc.role || x.roleOf == 2 then snk else x.roleOf == 1

/-- Entry to an unattached state: the role and TRY of ROLE_CFG take effect (R101), and a DRP port toggles after `left` beats of
the present part (R105). -/
def Port.toUnattached (svc : Bool) (b : Beat) (snk0 : Bool) (left : Option Nat) (x : Port) : Port :=
  let snk := x.entrySide snk0
  let y := Port.enter svc b (if snk then .unattachedSnk else .unattachedSrc) { x with tc := { x.tc with
    role := x.roleOf, tryMode := BitVec.ofNat 2 x.tryOf, orient := false, rpSeen := 0, rpCand := 0, rpRun := 0 } }
  if y.tc.role == 2 then y.arm tCc .drpToggle (left.getD (if snk then y.tDrp - y.srcPart else y.srcPart)) else y

/-- The unattached state of the configured role; a DRP port takes the one its random phase selects (R105, R108). -/
def Port.toRoleState (svc : Bool) (b : Beat) (phase : Nat) (x : Port) : Port :=
  if x.roleOf == 0 then x.toUnattached svc b false none
  else if x.roleOf == 1 then x.toUnattached svc b true none
  else
    let f := phase % max 1 x.tDrp
    if f < x.srcPart then x.toUnattached svc b false (some (x.srcPart - f))
    else x.toUnattached svc b true (some (x.tDrp - f))

/-- The power path falls: stage stopped, gate off, VCONN off, protocol dropped, discharge started. -/
def Port.powerDown (b : Beat) (feed : Bool) (x : Port) : Port :=
  ((((x.stageHalt).gateOff b).vconnOff).dropPd).discharge b feed

/-- A calibration step that ran is abandoned: steps 3 and 4 wait to be taken up again at that step; steps 1 and 2 start over
(R95, R100, R108, R349). -/
def Port.abandonCal (x : Port) : Port :=
  match x.harn.step with
  | some .s1 | some .s2 => { x with harn := { x.harn with step := none, status := 0 } }
  | some k => { x with harn := { x.harn with step := none, status := 3, resume := k, bleeder := false } }
  | none => x

/-- A fault reaction abandons a running step 3 or 4 alone (R349). -/
def Port.abandonRun (x : Port) : Port :=
  if x.harn.step == some .s1 || x.harn.step == some .s2 then x else x.abandonCal

/-- Entry to ERROR_RECOVERY (R239, R108): the CC timer runs for `wait` beats unless the exit is held (R350). -/
def Port.toErrorRecovery (svc : Bool) (b : Beat) (feed held : Bool) (wait : Nat) (x : Port) : Port :=
  let y := ((x.powerDown b feed).abandonCal).enter svc b .errorRecovery
  if held then y else y.arm tCc .errorRecovery wait

/-- Entry to LOCKOUT (R114, R289, R293). -/
def Port.toLockout (svc : Bool) (b : Beat) (feed : Bool) (x : Port) : Port :=
  ((x.powerDown b feed).abandonCal).enter svc b .lockout

/-- Detach of a Source, and of an accessory (R111): UNATTACHED_SRC, or UNATTACHED_SNK when it is DRP. -/
def Port.detachSrc (svc : Bool) (b : Beat) (feed : Bool) (x : Port) : Port :=
  (x.powerDown b feed).toUnattached svc b (x.roleOf == 2) none

/-- Detach of a Sink (R111): the pass switch opens, UNATTACHED_SNK. -/
def Port.detachSnk (svc : Bool) (b : Beat) (x : Port) : Port :=
  ((((x.stageHalt).gateOff b).vconnOff).dropPd).toUnattached svc b true none

/-- Attach starts Planish on the safe set, its counters cleared (R145, R149), and with them the out-of-range field recorded (DESIGN
CHOICE, log 61). -/
def Port.attachPhy (x : Port) : Port :=
  { x with phy := { x.phy with applied := x.phy.safe, shadow := x.phy.safe, cal := .safe, txs := [], rxs := [], eqRun := 0
                               lastField := 4, whole := false, outField := none, txN := 0, rxN := 0, missed := 0, discarded := 0, steps := 0
                               lastTx := none, lastRx := none, trainEn := bit1 x.cfg.phyCfg 0 } }

/-! ### Class, floor, decisions -/

/-- The number of the port's class, and the class (R188). -/
def Port.classIdx (x : Port) : Fin 16 := (BitVec.ofNat 4 (fld x.cfg.classSel 0 4)).toFin
def State.classOf (s : State) (x : Port) : Class := s.policy.classes[x.classIdx]

/-- The unscaled class floor, limited to CEIL (R191, R313, R318). -/
def classFloor (c : Class) (bud : Budget) : Nat :=
  let f := if c.header.floor = 0xFFFF#16 then fld bud.floor 0 10 else c.header.floor.toNat
  min f c.header.ceil.toNat

/-- The floor F_p (R318). -/
def floorOf (c : Class) (bud : Budget) (x : Port) : Nat :=
  if x.tc.st == .disabled || x.tc.st == .calFailed || x.tc.st == .lockout || x.roleOf == 1 || x.tc.st == .attachedSnk
    || x.tc.st == .debugAccSnk then 0 else classFloor c bud

/-! ### A port changes: the events that follow -/

/-- PORT_STATE is sent on entry to states 0–3 and 12–18 and on every exit from 12–16 (R395). -/
def stateEvent (old new : Tc) : Bool :=
  old != new && (new.code ≤ 3 || 12 ≤ new.code || (12 ≤ old.code && old.code ≤ 16))

/-- A record of the stage log (R279). -/
def stageRecord (p : PortId) (kind : Nat) (flags : Nat) (beat : Beat) (lost : Nat) (x : Port) : List Byte :=
  leBytes 1 p.val ++ leBytes 1 kind ++ leBytes 1 (match x.stage.region with | .buck => 0 | .buckBoost => 1 | .boost => 2)
    ++ leBytes 1 flags ++ u16 (x.stage.vRef / 10) ++ u16 lost ++ beatBytes beat ++ [0, 0]

/-- STAGE_STATUS FLAGS less the Cn_SEN_N bit (R278). -/
def stageFlags (senLow : Bool) (x : Port) : Nat :=
  bw x.pd.contract.clActive 0 + bw x.pd.contract.dropLimit 1 + bw x.stage.slopeSat 2 + bw x.stage.satNow 3
    + bw (x.stage.runs' && decide (x.stage.dacNext ≤ x.stage.yLo)) 4 + bw x.stage.headroomNow 5 + bw senLow 6

/-- Kinds of stage log records that a change of the port writes: start 0, stop 1, region 2, CL_ACTIVE 3, DROP_LIMIT 4,
discharge end 5 (R279). -/
def logKinds (old new : Port) : List Nat :=
  (if old.stage.mode == .idle && new.stage.mode != .idle then [0] else [])
    ++ (if old.stage.mode != .idle && new.stage.mode == .idle then [1] else [])
    ++ (if old.stage.region != new.stage.region then [2] else [])
    ++ (if old.pd.contract.clActive != new.pd.contract.clActive then [3] else [])
    ++ (if old.pd.contract.dropLimit != new.pd.contract.dropLimit then [4] else [])
    ++ (if (old.stage.disS || old.stage.disH) && !(new.stage.disS || new.stage.disH) then [5] else [])
    ++ (if !old.stage.slopeSat && new.stage.slopeSat then [6] else [])

/-- One stage log record to Q(20+8c); a full queue drops it and LOST counts (R279, R444). -/
def logStage (p : PortId) (senLow : Bool) (beat : Beat) (x : Port) (kind : Nat) (m : Pool) : Pool :=
  let c := clusterOf p
  let k := mkPacket m .none (stageRecord p kind (stageFlags senLow x) beat (m.logLost[c]).toNat x)
  if m.takes (qLog c) k then { m.push (qLog c) k with logLost := m.logLost.set c 0 }
  else { m.refuseFor (qLog c) k.cells with logLost := m.logLost.set c (satIncr m.logLost[c]) }

/-- The pool after the events that a port's change from `old` to `new` sends: PORT_STATE, the end of a contract, the
stage log. -/
def portEvents (p : PortId) (s : State) (old new : Port) : Pool :=
  let both (m : Pool) (code : Nat) (data : List Byte) : Pool := ({ s with pool := m }.post code p.val data).pool
  let m1 := if old.pd.contract.pos != 0 && new.pd.contract.pos == 0 then
      both s.pool 0xC9 (wordBytes (contractWord new) ++ wordBytes (contractVi new) ++ beatBytes s.board.beat ++ [0, 0])
    else s.pool
  let m2 := if stateEvent old.tc.st new.tc.st then
      both m1 0xC5 (wordBytes (tcWord new) ++ leBytes 1 old.tc.st.code ++ [0, 0, 0] ++ beatBytes s.board.beat ++ [0, 0])
    else m1
  (logKinds old new).foldl (fun m k => logStage p (s.clusters[clusterOf p]).senLow s.board.beat new k m) m2

/-- A budget is held from the configuration, the host or a group (R315): a grant counts in a group alone. -/
def State.groupGrant (s : State) : Option Nat := if s.yarrow.groupNow = 0 then none else s.budget.grantG
def State.budgetHeld (s : State) : Bool :=
  fld s.budget.device 0 16 != 0 || s.budget.hostB.isSome || s.groupGrant.isSome

/-- Grants come from a division (R315, R320): a member or root without a grant divides its own floors (R337). -/
def State.divides (s : State) : Bool := s.budgetHeld || s.yarrow.gstate == .member || s.yarrow.gstate == .root

/-- An allocation is due from beat `now` on (R321). -/
def Budget.want (now : Beat) (b : Budget) : Budget := if b.due then b else { b with due := true, dueAt := now }

/-- Triggers of R321 in a port's change: entry to or exit from an attached state, cable identity, EPR mode. -/
def budgetTrigger (old new : Port) : Bool :=
  ((old.tc.st.attached || new.tc.st.attached) && old.tc.st != new.tc.st) || old.pd.cable != new.pd.cable
    || old.pd.contract.eprMode != new.pd.contract.eprMode

/-- `f` on port `p`, with the events its change sends and the allocation it triggers. The port's grant becomes its floor at once in
brownout (R316), and where no budget is held and its floor changes (R315). A P bit that clears sets NOT_READY_ANY (R74). -/
def State.updPort (s : State) (p : PortId) (f : Port → Port) : State :=
  let old := s.ports[p]
  let new := f old
  let trig := budgetTrigger old new
  let fl := floorOf (s.classOf new) s.budget new
  let new' := if (trig && s.feed.brownout) || (!s.divides && floorOf (s.classOf old) s.budget old != fl) then
      { new with grant := fl }.refreshRp else new
  { s with ports := s.ports.set p new'
           pool := portEvents p s old new'
           budget := if trig then s.budget.want s.board.beat else s.budget
           dev := { s.dev with notReadyAny := s.dev.notReadyAny || (old.tc.pReady && !new'.tc.pReady) } }

/-- Payload of DECISION_CLOSED (R205). -/
def closedPayload (id point resolution outcome : Nat) (beat : Beat) : List Byte :=
  u16 id ++ leBytes 1 point ++ leBytes 1 resolution ++ leBytes 1 outcome ++ [0, 0, 0] ++ beatBytes beat ++ [0, 0]

/-- Outstanding decisions of a port are withdrawn (R206): one DECISION_CLOSED each, places freed. -/
def State.withdraw (s : State) (p : PortId) : State :=
  let s' := (s.policy.decisions.filter (fun d => d.port == p)).foldl
    (fun (t : State) d => t.post 0xC3 p.val (closedPayload d.id d.point 3 0xFF s.board.beat)) s
  { s' with policy := { s.policy with decisions := s.policy.decisions.filter (fun d => d.port != p)
                                      answers := s.policy.answers.filter (fun a => a.1.port != p) } }

/-- Result codes of R167. -/
def txCode : TxResult → Nat
  | .ok => 0 | .fail => 1 | .discarded => 2 | .integrity => 3 | .reset => 4

def swapCode : SwapKind → Nat
  | .pr => 0 | .dr => 1 | .vconn => 2

/-- The swap-complete result (R224). -/
def swapResult (r : SwapReq) (result : Nat) (beat : Beat) : List Byte :=
  leBytes 1 (swapCode r.kind) ++ leBytes 1 result ++ leBytes 1 (if result = 9 ∨ result = 7 then 0 else min 8 r.attempts)
    ++ [0] ++ beatBytes beat ++ [0, 0]

/-- A running SWAP_REQUEST ends with `result` (R224). -/
def State.endSwapReq (s : State) (p : PortId) (status result : Nat) : State :=
  match (s.port p).pd.swapReq with
  | none => s
  | some r =>
    (s.complete r.stream 0x38 r.tag.toNat status 0 p.val (swapResult r result s.board.beat)).modPort p
      fun x => { x with pd := { x.pd with swapReq := none, backUntil := none } }

/-- PD_SEND ends with TX result and RESP (R411). -/
def State.endSend (s : State) (p : PortId) (status tx resp : Nat) (data : List Byte) : State :=
  match (s.port p).pd.send with
  | none => s
  | some r =>
    (s.complete r.stream 0x30 r.tag.toNat status 0 p.val (leBytes 1 tx ++ leBytes 1 resp ++ [0, 0] ++ data)).modPort p
      fun x => { x with pd := { x.pd with send := none } }

/-- PD_SOFT_RESET ends with TX result and ACCEPT (R394). -/
def State.endSoft (s : State) (p : PortId) (status tx acc : Nat) : State :=
  match (s.port p).pd.soft with
  | none => s
  | some r =>
    (s.complete r.stream 0x32 r.tag.toNat status (tgtIdx r.tgt).val p.val (leBytes 1 tx ++ leBytes 1 acc ++ [0, 0])).modPort p
      fun x => { x with pd := { x.pd with soft := none } }

/-- A VDM conversation ends: RESULT of R394 and the VDOs returned, with the response header; one that an EPR entry's discovery had
gone before waits again, with its own count of BUSY answers (R215, R244). A MODE_ENTER or MODE_EXIT that a reset ends gets
NO_RESPONSE, as one that no answer came to (DESIGN CHOICE, log 82: R248 names no result for it). -/
def State.endVdm (s : State) (p : PortId) (status result : Nat) (reply : List Byte) : State :=
  match (s.port p).pd.vdm with
  | none => s
  | some r =>
    let vdm := leBytes 1 result ++ leBytes 1 (min 255 (reply.length / 4 - 1)) ++ [0, 0] ++ reply
    let s' := match r.why with
      | .discover => s
      | .hostDiscover _ _ => s.complete r.stream 0x40 r.tag.toNat status (tgtIdx r.tgt).val p.val vdm
      | .hostSend true => s.complete r.stream 0x41 r.tag.toNat status (tgtIdx r.tgt).val p.val vdm
      | .hostSend false => s.complete r.stream 0x41 r.tag.toNat status (tgtIdx r.tgt).val p.val (leBytes 1 result ++ [0, 0, 0])
      | .modeEnter => s.complete r.stream 0x42 r.tag.toNat status 0 p.val (leBytes 1 (min 3 result) ++ [0, 0, 0])
      | .modeExit => s.complete r.stream 0x43 r.tag.toNat status 0 p.val (leBytes 1 (min 3 result) ++ [0, 0, 0])
    s'.modPort p fun x =>
      let y : Port := { x with pd := { x.pd with vdm := x.pd.vdmNext, vdmNext := none
                                                 await := if x.pd.await == .vdmAnswer && r.tgt == .sop then .none else x.pd.await } }
      match x.pd.vdmNext with
      | some n => y.modCtx n.tgt fun c => { c with busyCnt := n.busy }
      | none => y

/-- Messages of port `p` leave its TX message queue (R181): they end TX_RESET. -/
def Pool.purgeTx (m : Pool) (p : PortId) (only : Tgt → Bool) : Pool :=
  m.modQ (qTx (clusterOf p)) fun q => { q with closed := q.closed.filter (fun k => match k.carried with
    | .tx p' t _ => !(p' == p && only t)
    | _ => true) }

/-- TX result of a PD_SEND or a PD_SOFT_RESET that a reset ends (R167): TX_RESET, unless its GoodCRC had arrived. -/
def HostSend.endCode (h : Option HostSend) : Nat := if (h.bind HostSend.done) == some .ok then 0 else 4

/-- What the host had under way on the port ends: decisions withdrawn, requests completed, messages purged. -/
def State.endWork (s : State) (p : PortId) (status swapRes : Nat) : State :=
  let s1 := s.withdraw p
  let s2 := s1.endSwapReq p status swapRes
  let s3 := s2.endSend p status (HostSend.endCode (s.port p).pd.send) 3 []
  let s4 := s3.endSoft p status (HostSend.endCode (s.port p).pd.soft) 0
  let s5 := (s4.endVdm p status 4 []).endVdm p status 4 []
  s5.modPool fun m => m.purgeTx p (fun _ => true)

/-- The service mode is permitted on the port (R250). -/
def State.svcEnabled (s : State) (p : PortId) : Bool := isService p && bit1 s.dev.svcCfg p.val

/-- Answers still due to the service stream belong to an ended session and are discarded (R252). -/
def endedStream (st : Stream) : Stream := if st == .service then .ended else st

/-- What a port has under way for the service stream answers it no more. -/
def Pd.orphan (d : Pd) : Pd :=
  { d with send := d.send.map fun h => { h with stream := endedStream h.stream }
           soft := d.soft.map fun h => { h with stream := endedStream h.stream }
           swapReq := d.swapReq.map fun r => { r with stream := endedStream r.stream }
           vdm := d.vdm.map fun r => { r with stream := endedStream r.stream }
           vdmNext := d.vdmNext.map fun r => { r with stream := endedStream r.stream } }

def StoreOp.orphan : StoreOp → StoreOp
  | .erase t st => .erase t (endedStream st)
  | .verify t st => .verify t (endedStream st)
  | .program h st o d => .program h (endedStream st) o d
  | .commit h st a => .commit h (endedStream st) a
  | .params t st g => .params t (endedStream st) g

/-- Every completion and reply that an earlier session left pending: a new session does not receive it (R252). -/
def State.orphan (s : State) : State :=
  { s with ports := s.ports.map fun x => { x with pd := x.pd.orphan }
           store := { s.store with op := s.store.op.map StoreOp.orphan }
           yarrow := { s.yarrow with fwd := s.yarrow.fwd.map fun o => { o with stream := endedStream o.stream } }
           board := { s.board with resetReq := s.board.resetReq.map fun r => { r with stream := endedStream r.stream } } }

/-- A command of the service stream that its session leaves in Q7, or handed to a stopped core (R252). -/
def Packet.leave (k : Packet) : Packet :=
  match k.carried with
  | .cmd _ => { k with carried := .left }
  | .hand .service n _ _ => { k with carried := .hand .ended n 0 0 }
  | .ans .service o => { k with carried := .ans .ended o }
  | _ => k

/-- The commands that an ending session leaves with S8 and with stopped cores, and the completions that wait for S8. -/
def Pool.leaveAll (m : Pool) : Pool :=
  (qSvc :: (List.finRange 8).map qHand ++ (List.finRange 8).map qAnswer).foldl
    (fun m q => m.modQ q fun x => { x with closed := x.closed.map Packet.leave, waiting := x.waiting.map Packet.leave }) m

/-- The pool without the session's queued answers, the cells reserved for them, and the replies its flushes owe (R252, R445). -/
def Pool.svcEnd (m : Pool) : Pool :=
  let n : Pool := { m with
    held := m.held.filter fun e => e.1 != qSvcOut
    queues := m.queues.map fun q => { q with flush := q.flush.map fun f => { f with replies := f.replies.filter fun r => r.1 != .service } } }
  n.leaveAll.modQ qSvcOut fun x => { x with closed := [], waiting := [], popped := 0, wordErr := false }

/-- A new QUAD takes effect once the reply to its write, `tag` of its stream, is delivered or discarded (R364). -/
def HostPort.quadBy (h : HostPort) (st : Stream) (tag : Byte) : HostPort :=
  match h.quads.find? fun e => e.1 == st && e.2.1 == tag with
  | some e => { h with quad := e.2.2, quads := h.quads.erase e }
  | none => h

/-- The QUAD values whose replies went with the service session take effect (R252, R364). -/
def HostPort.quadsEnd (h : HostPort) : HostPort :=
  { h with quad := ((h.quads.filter fun e => e.1 == .service).getLast?.map fun e => e.2.2).getD h.quad
           quads := h.quads.filter fun e => e.1 != .service }

/-- The service mode ends when its port leaves (R252): the partly received packet and the queued replies and events go; the
commands already in Q7 run, and their replies are discarded. -/
def State.svcLeave (s : State) (p : PortId) : State :=
  match s.svc.port with
  | some q => if q.val == p.val then
      { s with svc := Service.reset, host := { s.host with tagsSvc := [] }.quadsEnd, pool := s.pool.svcEnd }
    else s
  | none => s

/-- The port leaves what it was doing and `f` takes it to its next state (R181, R206, R252). -/
def State.dropPort (s : State) (p : PortId) (status swapRes : Nat) (f : Port → Port) : State :=
  ((s.endWork p status swapRes).svcLeave p).updPort p f

end Sys2Proof.Machine
end

