-- ==== Sys2Proof/Machine/Faults.lean ====
section
/-! DEFINITION. The fault collector (chapter 14): raising, the first-fault latch, reactions, guard trips. -/

namespace Sys2Proof.Machine

/-- Scope of a source (R343): no port for Device and Feed. -/
def scopePorts (n : Nat) : List PortId :=
  if 1 ≤ n ∧ n ≤ 4 then allPorts.filter (fun p => p.val / 24 + 1 == n)
  else if 8 ≤ n ∧ n ≤ 15 then allPorts.filter (fun p => p.val / 12 + 8 == n)
  else if 64 ≤ n ∧ n ≤ 159 then allPorts.filter (fun p => p.val + 64 == n)
  else if 192 ≤ n ∧ n ≤ 199 then allPorts.filter (fun p => p.val / 12 + 192 == n)
  else if 201 ≤ n ∧ n ≤ 208 then allPorts.filter (fun p => p.val / 12 + 201 == n)
  else []

/-- Sources whose scope is a set of ports; Device and Feed admit no PORT_SAFE (R343). -/
def scopeIsPorts (n : Nat) : Bool :=
  (1 ≤ n && n ≤ 4) || (8 ≤ n && n ≤ 15) || (64 ≤ n && n ≤ 159) || (192 ≤ n && n ≤ 199) || (201 ≤ n && n ≤ 208)

/-- Sources that R343 does not list. -/
def reservedSource (n : Nat) : Bool :=
  !(n ≤ 5 || (8 ≤ n && n ≤ 18) || (48 ≤ n && n ≤ 52) || (64 ≤ n && n ≤ 165) || (168 ≤ n && n ≤ 173)
    || (176 ≤ n && n ≤ 181) || (192 ≤ n && n ≤ 214))

/-- The port of a port source. -/
def sourcePort (n : Nat) : Option PortId := if h : 64 ≤ n ∧ n < 160 then some ⟨n - 64, by omega⟩ else none

/-- A plain raise of a source, and a cause of a port (R344). -/
def devRaise (n detail extra : Nat) : Raise := ⟨n, 0, detail, extra, false, false⟩
def portRaise (p : PortId) (code detail : Nat) : Raise := ⟨64 + p.val, code, detail, 0, false, false⟩

/-- Cause word (R360). -/
def causeWord (r : Raise) : Word := BitVec.ofNat 32 (r.code % 256 + r.detail % 256 * 256 + r.extra % 65536 * 65536)

/-- A fault log record (R360). -/
def faultRec (r : Raise) (sev reaction : Nat) (latched merged : Bool) (beat : Beat) : FaultRec :=
  { src := r.src
    flags := BitVec.ofNat 8 (sev % 4 + reaction % 4 * 4 + bw r.forced 4 + bw latched 5 + bw merged 6 + bw r.deferred 7)
    cause := causeWord r, beat := beat }

def recBytes (f : FaultRec) : List Byte :=
  leBytes 1 f.src ++ [f.flags, 0, 0] ++ wordBytes f.cause ++ beatBytes f.beat ++ [0, 0]

/-- The ring of 1,024 records: when full, the oldest is overwritten (R360). -/
def Faults.logRec (g : Faults) (f : FaultRec) : Faults :=
  if g.log.length < 1024 then { g with log := g.log ++ [f] }
  else { g with log := g.log.tail ++ [f], logFirst := g.logFirst + 1 }

def setBit256 (v : BitVec 256) (n : Nat) : BitVec 256 := v ||| BitVec.twoPow 256 n

/-- R351: a service port whose charger feeds VSVC keeps its Rd, its contexts and its contract. -/
def keepsCharger (feed : Bool) (p : PortId) (x : Port) : Bool :=
  isService p && !feed && (x.tc.st == .attachedSnk || x.tc.st == .debugAccSnk)

/-- Step 1 of R349: PWMs low, GATE sink on, VCONN off, terminations removed, the harness-side sink on, P bit clear; a
running step 3 or 4 of calibration is abandoned. A guard trip of the same slot still finds what the gate and the fault timer were
(R295). -/
def Port.quiesce (b : Beat) (x : Port) : Port :=
  let y := (((x.abandonRun).stageStop).gateOff b).vconnOff
  { y with tc := { y.tc with pres1 := .none, pres2 := .none, pReady := false, pHeld := x.tc.pHeld || x.tc.pReady, mute := true, rdCheck := none }
           stage := { y.stage with disH := true, disS := false, disRun := false, disBeat := b, runs := { y.stage.runs with disLow := 0 } }
           guard := { y.guard with cut := if x.guard.gateOn || x.guard.timer.isSome then some (b, x.guard.gateOn, x.guard.timer)
                                          else y.guard.cut } }

/-- What the next slot 0 owes a port after a further reaction of kind `kind`: a DEVICE_SAFE stands (R350, R353). -/
def Faults.owe (g : Faults) (kind : Safe) (p : PortId) : Faults :=
  if g.safeNext.contains (p, .deviceSafe) then g
  else { g with safeNext := g.safeNext.filter (fun e => e.1 != p) ++ [(p, kind)] }

/-- PORT_SAFE on one port, and its share of DEVICE_SAFE: step 1 now, the rest at the next slot 0 (R349, R350, R351). -/
def State.quiescePort (s : State) (kind : Safe) (p : PortId) : State :=
  if keepsCharger s.feedOn p (s.port p) then (s.svcLeave p).updPort p (Port.gateOff s.now)
  else
    (s.updPort p (Port.quiesce s.now)).modFaults fun g => g.owe kind p

/-- The AFE die of a cluster is powered and out of reset, so that it drives Cn_SEN_N (R61, R78, R258). -/
def State.senDriven (s : State) (c : ClusterId) : Bool := s.board.svcOn && !s.board.resetLow && (s.board.mainOn || c.val == 0)

/-- DEVICE_SAFE beside its ports: every Cn_SEN_N low and DEVICE_HOLD set (R350). -/
def State.holdDevice (s : State) : State :=
  { s with clusters := Vector.ofFn fun c => { s.clusters[c] with senLow := s.clusters[c].senLow || s.senDriven c }
           faults := { s.faults with hold := true } }

/-- The reaction of a severity on a source's scope (R348–R350). -/
def State.react (s : State) (sev src : Nat) : State :=
  if sev = 2 then (scopePorts src).foldl (fun t p => t.quiescePort .portSafe p) s
  else if sev = 3 then (allPorts.foldl (fun t p => t.quiescePort .deviceSafe p) s).holdDevice
  else s

/-- The raise is recorded as the cause last raised on its port (R344). -/
def State.noteCause (s : State) (r : Raise) : State :=
  match sourcePort r.src with
  | some p => s.modPort p fun x => { x with guard := { x.guard with lastCause := some (r.code, r.detail) } }
  | none => s

/-- RAISED is sticky (R345). -/
def Faults.mark (g : Faults) (r : Raise) : Faults := { g with raised := setBit256 g.raised r.src }

/-- A raise falls in the reaction window of the latch (R352). -/
def Faults.merges (g : Faults) : Bool := g.latch.isSome && g.window

/-- The reaction that a raise of severity `sev` brings (R346, R352). -/
def Faults.reactionTo (g : Faults) (sev : Nat) : Nat :=
  match g.latch with
  | none => sev
  | some l => if g.window then max l.reaction sev else sev

/-- The first-fault latch takes a raise: the first one with its window, a later one as overflow (R346, R352, R353). -/
def Faults.latchRaise (g : Faults) (r : Raise) (sev : Nat) (b : Beat) : Faults :=
  match g.latch with
  | none => { g with
      latch := some { raise := r, sev := sev, reaction := sev, beat := b, overflow := false, ovf := 0, snap := sev == 3 }
      window := true, snapDue := g.snapDue || sev == 3 }
  | some l => { g with
      latch := some { l with overflow := true, ovf := min 0xFFFF (l.ovf + 1), reaction := if g.window then max l.reaction sev else l.reaction
                             snap := l.snap || sev == 3 }
      snapDue := g.snapDue || (sev == 3 && !l.snap) }

/-- The latched source whose reaction a merged raise of severity `sev` strengthens (R352). -/
def Faults.regains (g : Faults) (sev : Nat) : Option Nat :=
  match g.latch with
  | some l => if g.window && decide (l.reaction < sev) then some l.raise.src else none
  | none => none

/-- A FAULT event, which no source of severity LOG sends (R346, R395). -/
def State.faultEvent (s : State) (r : Raise) (f : FaultRec) (sev : Nat) : State :=
  if 1 ≤ sev then s.post 0xC4 (match sourcePort r.src with | some p => p.val | none => 0x7F) (recBytes f) else s

/-- The merged raise's share of the latched source's reaction (R352). -/
def State.reactAgain (s : State) (sev : Nat) : Option Nat → State
  | some n => s.react sev n
  | none => s

/-- One raise (R346, R352, R353). `named` is false for a further cause of the same port source in the slot: it is only
logged (R347). -/
def State.raiseOne (s : State) (named : Bool) (r : Raise) : State :=
  if reservedSource r.src then s else
  let sev := (s.faults.sev[r.src % 256]'(Nat.mod_lt _ (by decide))).toNat
  if !named then s.modFaults fun g => (g.mark r).logRec (faultRec r sev sev false false s.now)
  else
    let f := faultRec r sev (s.faults.reactionTo sev) s.faults.latch.isNone s.faults.merges s.now
    let t := (s.noteCause r).modFaults fun g => ((g.mark r).latchRaise r sev s.now).logRec f
    ((t.faultEvent r f sev).reactAgain sev (s.faults.regains sev)).react sev r.src

/-- Severity in force of a source. -/
def State.sevOf (s : State) (n : Nat) : Nat := (s.faults.sev[n % 256]'(Nat.mod_lt _ (by decide))).toNat

/-- The order of R347: higher severity, then lower source number, then lower code. -/
def raiseBefore (s : State) (x y : Raise) : Bool :=
  let sx := s.sevOf x.src
  let sy := s.sevOf y.src
  decide (sy < sx) || (sx == sy && (decide (x.src < y.src) || (x.src == y.src && decide (x.code ≤ y.code))))

def insertRaise (s : State) (r : Raise) : List Raise → List Raise
  | [] => [r]
  | x :: xs => if raiseBefore s r x then r :: x :: xs else x :: insertRaise s r xs

/-- Raises of one slot in the order of R347; a forced raise beside a real one of its source is dropped. -/
def orderRaises (s : State) (rs : List Raise) : List Raise :=
  (rs.filter (fun r => !(r.forced && rs.any (fun q => q.src == r.src && !q.forced)))).foldr (insertRaise s) []

/-- The raises of one slot, each port source named once (R347). -/
def raiseList (s : State) : Option Nat → List Raise → State
  | _, [] => s
  | prev, r :: rs => raiseList (s.raiseOne (prev != some r.src || (sourcePort r.src).isNone) r) (some r.src) rs

/-- All raises of one slot (R345–R347). The window of a latch at LOG or NOTIFY is this slot alone; a longer one ends at the
next slot 0 (R352). -/
def State.raiseAll (s : State) (rs : List Raise) : State :=
  let t := raiseList s none (orderRaises s rs)
  t.modFaults fun g => { g with window := g.window && (match g.latch with | some l => decide (2 ≤ l.reaction) | none => false) }

def State.raise (s : State) (r : Raise) : State := s.raiseAll [r]

/-- A port cause raised (R344). -/
def State.raisePort (s : State) (p : PortId) (code detail : Nat) : State := s.raise (portRaise p code detail)

/-! ### What a reading of cells finds (R437–R439) -/

/-- A link word of queue `q` failed parity (R439): POOL_PARITY, no pops, no pushes, the open packet aborted. -/
def State.quarantine (s : State) (q : QueueId) : State :=
  (s.modPool fun m => m.modQ q fun x => { x.endOpen none with quarantine := true, scanAt := s.now, popped := 0 }).raise (devRaise 211 0 q.val)

/-- A consumer of queue `q` has read a packet whose cells show `o`: POOL_PARITY for a word that fails parity, with the quarantine where it
is a link word; a mismatch of the pool CRC alone raises nothing (R437–R439). -/
def State.found (s : State) (q : QueueId) (o : CellObs) : State :=
  match o with
  | .parity => s.raise (devRaise 211 0 q.val)
  | .link => s.quarantine q
  | .sound | .crc => s

/-! ### ACTIVE (R343, R344, R345) -/

/-- ACTIVE condition of the cause last raised on a port (R344). -/
def portActive (s : State) (x : Port) : Bool :=
  match x.guard.lastCause with
  | none => false
  | some (code, detail) =>
    if code ≤ 5 then x.guard.gst == .tripped || x.guard.gst == .locked
    else if code = 6 then x.tc.st == .lockout
    else if code = 7 then x.tc.mute
    else if code = 8 then decide (0 < x.guard.tsnBad)
    else if code = 9 then decide (2 ≤ x.stage.runs.ilsBad)
    else if code = 10 then x.stage.gateHold
    else if code = 11 then x.stage.uvHold
    else if code = 12 then decide (25 ≤ s.feed.trunkAge)
    else if code = 13 then x.tc.vconnOc
    else if code = 16 then x.tc.st == .calFailed
    else if code = 18 then x.tc.trimFail.isSome
    else if code = 19 then x.phy.cal == .fallback
    else if code = 20 then decide (2500 ≤ x.stage.runs.dropLow)
    else if code = 21 then decide (250 ≤ x.stage.runs.upper)
    else if code = 22 then decide (2500 ≤ x.stage.runs.sat)
    else if code = 23 then decide (4 ≤ x.guard.blankRun.getD detail 0) && !(if detail = 0 then x.guard.vbs.counted else if detail = 1 then x.guard.vbl.counted else x.guard.gateCounted)
    else false

/-- A source's present condition (R343). -/
def condActive (s : State) (n : Nat) : Bool :=
  if n = 0 then s.board.holdover
  else if n ≤ 4 then (s.board.mainOn || (n == 1 && s.board.svcOn)) && !(s.board.afeLink.getD (n - 1) true)
  else if n = 5 then s.board.dieWarm.toList.any id
  else if 8 ≤ n ∧ n ≤ 15 then
    (match s.clusters[n - 8]? with | some c => c.adc.toList.any (fun a => a.atEnd || a.refBad) | none => false)
  else if n = 18 then s.board.mainLost
  else if n = 48 then s.budget.short
  else if n = 49 then (s.yarrow.pa.been && !s.yarrow.pa.linked) || (s.yarrow.pb.been && !s.yarrow.pb.linked)
  else if n = 50 then s.yarrow.rootLost
  else if n = 52 then bit1 s.yarrow.link 1 && !(s.yarrow.pa.linked && s.yarrow.pb.linked)
  else if n = 160 then !s.feed.a.mon.good
  else if n = 168 then !s.feed.b.mon.good
  else if 161 ≤ n ∧ n ≤ 164 then s.feed.a.st == .cool || s.feed.a.st == .latched
  else if 169 ≤ n ∧ n ≤ 172 then s.feed.b.st == .cool || s.feed.b.st == .latched
  else if n = 165 then s.feed.a.mon.raised
  else if n = 173 then s.feed.b.mon.raised
  else if n = 177 then s.feed.noFeed
  else if n = 178 then s.feed.brownout
  else if n = 179 then s.feed.strapInvalid
  else if n = 180 then !s.feed.linkUp
  else if n = 181 then s.feed.trunkMon.raised
  else if 192 ≤ n ∧ n ≤ 200 then (match s.cores[n - 192]? with | some c => c.flagOverrun | none => false)
  else if n = 212 then decide (s.pool.free < s.pool.wmark)
  else if n = 213 then decide (s.pool.free = 0)
  else match sourcePort n with
    | some p => portActive s (s.port p)
    | none => false

/-- ACTIVE: the present condition or the force bit (R345). -/
def active (s : State) (n : Nat) : Bool := condActive s n || s.faults.force.getLsbD n

/-! ### Guard trips (R293) -/

/-- GUARD.FAULT fields (R299). -/
def Port.cool (x : Port) : Nat := 25000 * fld x.cfg.guard[1] 8 8
def Port.retryMax (x : Port) : Nat := fld x.cfg.guard[1] 16 4
def Port.latchTrip (x : Port) : Bool := bit1 x.cfg.guard[1] 20

/-- A trip of the port leads to LOCKOUT (R293). -/
def Port.tripLocks (x : Port) : Bool := x.latchTrip || decide (x.retryMax < x.guard.trips + 1)

/-- The trip's own action: TRIPPED and ERROR_RECOVERY, or LOCKED and LOCKOUT (R293). -/
def Port.trip (svc : Bool) (b : Beat) (feed held : Bool) (x : Port) : Port :=
  let y : Port := { x.stageStop with guard := { x.guard with trips := x.guard.trips + 1, gst := .tripped } }
  if x.tripLocks then y.toLockout svc b feed
  else
    let z := y.toErrorRecovery svc b feed held (max x.tErr x.cool)
    { z with tc := { z.tc with tripWait := true }, guard := { z.guard with gst := .tripped } }

/-- The parts of a discharge, harness side and stage side, that have run 12,500 beats at beat `b` (R273). -/
def Stage.disOver (b : Beat) (g : Stage) : Bool × Bool :=
  (g.disH && decide (12500 ≤ Beat.since b g.disBeat), g.disS && decide (12500 ≤ Beat.since b g.disBeatS))

/-- A guard action has stopped in this beat what `old` did: a stage that ran, or a discharge whose time was up (R281). -/
def Port.stopped (b : Beat) (old : Stage) (x : Port) : Port :=
  { x with stage := { x.stage with
      stopAt := if old.runs' then some b else x.stage.stopAt
      disLate := if (old.disOver b).1 || (old.disOver b).2 then some (b, old.disOver b) else x.stage.disLate } }

/-- What a guard trip of port `p` does before it is reported (R293, R354): the running work ends, with NOT_READY where the P bit clears
(R76). -/
def State.tripAct (s : State) (p : PortId) : State :=
  (s.dropPort p (if (s.port p).tripLocks then 0x85 else 0) 8 (Port.trip (isService p) s.now s.feedOn s.faults.hold)).modPort p
    (Port.stopped s.now (s.port p).stage)

/-- A guard trip of port `p`, with its cause. -/
def State.tripPort (s : State) (p : PortId) (code : Nat) : State := (s.tripAct p).raisePort p code 0

/-- FET_GATE: LOCKOUT and LOCKED, no retry (R289). -/
def State.gateFail (s : State) (p : PortId) : State :=
  ((s.dropPort p 0x85 8 (fun x => x.stageStop.toLockout (isService p) s.now s.feedOn)).modPort p
    (Port.stopped s.now (s.port p).stage)).raisePort p 6 0

/-- States from which R114 puts a port in ERROR_RECOVERY; a port already there stays as it is. -/
def Tc.recovers (t : Tc) : Bool := t != .disabled && t != .calFailed && t != .lockout && t != .errorRecovery

/-- Entry of port `p` to ERROR_RECOVERY by a rule of R239. -/
def State.errorRecovery (s : State) (p : PortId) (swapRes : Nat) : State :=
  s.dropPort p 0 swapRes (fun x => x.toErrorRecovery (isService p) s.now s.feedOn s.faults.hold x.tErr)

end Sys2Proof.Machine
end

