-- ==== Sys2Proof/Machine/Calib.lean ====
section
/-! DEFINITION. Harness calibration (R93–R100), its start and its steps. -/

namespace Sys2Proof.Machine

/-- A complete set of kept results (R97). -/
def Harness.complete (h : Harness) : Bool := h.keep2.isSome && h.keep3.isSome && h.keep4a.isSome && h.keep4b.isSome

/-- Calibration starts from step 1 (R93, R97): with a complete set step 1 only, else the full run. -/
def Port.startSteps (svc : Bool) (b : Beat) (x : Port) : Port :=
  let y := Port.enter svc b .calibrating x
  { y with harn := { y.harn with step := some .s1, status := 1, cause := 0, capHigh := false, resume := .s3 } }

/-- An enable (R95, R283, R410): calibration, its monitors from NOT_GOOD, its sweeps from 0. -/
def Port.startCal (svc : Bool) (b : Beat) (x : Port) : Port :=
  let y := x.startSteps svc b
  { y with guard := { y.guard with vbs := .reset, vbl := .reset, fullMon := [], offMon := [] }
           moist := { y.moist with sweeps := 0 } }

/-- Kept results are lost, and the values in force with them (R96, R97). Steps 3 and 4 that had passed wait to run again. -/
def Harness.forget (h : Harness) : Harness :=
  { h with keep2 := none, keep3 := none, keep4a := none, keep4b := none, rCc := 0, rDrop := 0, cCc1 := 0, cCc2 := 0, gain := 65536
           capHigh := false, resume := .s3, status := if h.status = 2 then 3 else h.status }

/-- A conductor's capacitance above 1.20 nF (R93), pF. -/
def highCap (c : Half × Half) : Bool := decide (1200 < c.1.toNat) || decide (1200 < c.2.toNat)

/-- The values a port uses until step 4 has run: the kept ones, or zero drop and unity gain (R96). -/
def Harness.useKept (h : Harness) : Harness :=
  { h with rCc := h.keep2.getD 0, rDrop := h.keep4b.getD 0, gain := h.keep4a.getD 65536, capHigh := (h.keep3.map highCap).getD false
           cCc1 := (h.keep3.map Prod.fst).getD 0, cCc2 := (h.keep3.map Prod.snd).getD 0 }

/-- A failed step: CAL_FAILED with its cause recorded; GATE off, PWMs low, P bit clear (R98). -/
def Port.calFail (svc : Bool) (b : Beat) (cause : BitVec 4) (x : Port) : Port :=
  let y := Port.enter svc b .calFailed ((x.stageHalt).gateOff b)
  { y with harn := { y.harn with step := none, status := 4, cause := cause, bleeder := false }, phy := y.phy.stop }

/-- Sets the P bit (R96). -/
def Port.setReady (x : Port) : Port := { x with tc := { x.tc with pReady := true } }

/-- The port shows Rp and VBUS (R116). -/
def Port.chargerSeen (x : Port) : Bool :=
  let rp : Cc → Bool := fun c => c == .rpDefault || c == .rp1A5 || c == .rp3A0
  (rp x.tc.cc1 || rp x.tc.cc2) && decide (40000 ≤ x.stage.conv.vbs)

/-- Roles and protocol at an attach (R222): data role DFP as Source, UFP as Sink. -/
def Port.attachRoles (source : Bool) (x : Port) : Port :=
  { x with pd := { x.pd with attachSource := source, powerSource := source, dfp := source } }

/-- Entry to ATTACHED_SNK: tSinkWaitCap runs, the PHY starts on the safe set, GATE on where the stage can run in reverse
(R108, R145, R183, R274). The active line is the one that shows Rp. -/
def Port.toAttachedSnk (svc : Bool) (b : Beat) (x : Port) : Port :=
  let line2 := x.tc.cc1 == .opened || x.tc.cc1 == .ra
  let y := Port.enter svc b .attachedSnk { x with tc := { x.tc with orient := line2 } }
  ((((y.attachPhy).attachRoles false).gateOnCmd b).arm tCaps .sinkWaitCap (ms 465))

/-- Where a port goes once steps 1 and 2 have passed (R95, R116): P0–P3 that find a charger attach as Sink, so that a Source role
takes effect at their next unattached entry (R83). -/
def Port.afterCal (svc : Bool) (b : Beat) (phase : Nat) (x : Port) : Port :=
  if svc && x.chargerSeen then
    Port.toAttachedSnk svc b { x with tc := { x.tc with role := if x.roleOf == 0 then 1 else x.roleOf, tryMode := BitVec.ofNat 2 x.tryOf } }
  else x.toRoleState svc b phase

/-- A VBS−GSN conversion less its offset of step 1 (R93), 0.1 mV. -/
def Port.lessOfs (x : Port) (raw : Int) : Int := raw - x.harn.vbsOfs.toInt

/-- VBS−GSN corrected by the offset of step 1 and the gain of step 4a (R93, R266), 0.1 mV. -/
def Port.corrected (x : Port) (raw : Int) : Int := (x.lessOfs raw * x.harn.gain + 32768) / 65536

/-- Step 4 drives VBL to 0.70 V with GATE on (R93). -/
def Port.driveCal (b : Beat) (x : Port) : Port := Port.gateOnCmd b { x with stage := { x.stage with want := .forward, vTgt := 35 } }

/-- A step of step 4 ends for a termination (R95): the port returns to the state machine, and the step waits to be taken up
again. -/
def Port.endCalRun (b : Beat) (x : Port) : Port := (x.abandonCal.gateOff b).stageHalt

/-- Steps 3 and 4 begin, with the step that a termination ended (R95). -/
def Port.resumeCal (b : Beat) (x : Port) : Port :=
  let k := x.harn.resume
  let y : Port := { x with harn := { x.harn with step := some k, status := 1, bleeder := k == .s4b || k == .s4c } }
  if k == .s4a || k == .s4b then y.driveCal b else y

/-- A step of R93 passes, and the port goes on; or it fails, with its cause code. The edges that the rule leaves open are those of
log 58: a negative conductor voltage, a negative drop, a bleeder that R94 opened. -/
def calOutcome (svc : Bool) (b : Beat) (feed : Bool) (phase : Nat) (o : CalObs) (x : Port) : Port ⊕ BitVec 4 :=
  match x.harn.step, o with
  | some .s1, .offsets v g =>
    if v.natAbs ≤ 500 ∧ g.natAbs ≤ 500 then
      let y : Port := { x with harn := { x.harn with vbsOfs := half v, gsnOfs := half g } }
      if x.harn.complete then
        .inl ((Port.afterCal svc b phase { y with harn := { y.harn.useKept with step := none, status := 2 } }).setReady)
      else .inl { y with harn := { y.harn with step := some .s2 } }
    else .inr 1
  | some .s2, .conductor v0 v10 =>
    -- each conversion less the GSN offset; ΔV ÷ 10.00 mA in mΩ
    let uv := (v10 - 100 * x.harn.gsnOfs.toInt) - (v0 - 100 * x.harn.gsnOfs.toInt)
    let mohm := uv * 1000 / 10000
    if mohm ≤ 20000 ∧ 0 ≤ mohm then
      let y : Port := { x with harn := { ({ x.harn with keep2 := some (half mohm) }).useKept with step := none, status := 3, bleeder := false } }
      let z := Port.afterCal svc b phase y
      .inl (if !feed || z.tc.st.attached then z.setReady else z)
    else .inr 2
  | some .s3, .capacitance v1 v2 =>
    let pf (v : Nat) : Nat := if v = 0 then 0xFFFF else min 0xFFFF ((330 * 500 * 1000 + v / 2) / v)
    if pf v1 ≤ 1500 ∧ pf v2 ≤ 1500 then
      let c : Half × Half := (BitVec.ofNat 16 (pf v1), BitVec.ofNat 16 (pf v2))
      .inl (Port.driveCal b { x with harn := { x.harn with cCc1 := c.1, cCc2 := c.2, keep3 := some c, capHigh := highCap c, step := some .s4a } })
    else .inr 3
  | some .s4a, .gain vbh raw =>
    let vbs := x.lessOfs raw
    if vbh < 3500 then .inr 5
    else if (vbs * 100 - vbh * 100).natAbs ≤ vbh.natAbs * 2 then
      let g := (if vbs ≤ 0 then 65536 else (vbh * 65536 / vbs).toNat)
      .inl { x with harn := { x.harn with gain := g, keep4a := some g, step := some .s4b, bleeder := true } }
    else .inr 4
  | some .s4b, .drop vbh raw =>
    -- I_T = V(VBS) ÷ 20.0 Ω; 0.1 mV ÷ 20 Ω = 5 µA
    let vbs := x.corrected raw
    if vbs * 5 < 5000 ∨ !x.harn.bleeder then .inr 5
    else
      let r := ((vbh - vbs) * 20 * 1000 + vbs / 2) / vbs
      if r ≤ 2000 then
        let rr := half (if r < 0 then 0 else r)
        let y : Port := { x with harn := { x.harn with rDrop := rr, keep4b := some rr, step := some .s4c } }
        .inl ((Port.gateOff b { y with stage := { y.stage with vTgt := 0 } }).stageHalt)
      else .inr 6
  | some .s4c, .release n =>
    if n ≤ 50 then .inl (Port.setReady { x with harn := { x.harn with step := none, status := 2, resume := .s3, bleeder := false } }) else .inr 5
  | some .s3, .termination => .inl x.abandonCal
  | some .s4a, .termination | some .s4b, .termination | some .s4c, .termination => .inl (x.endCalRun b)
  | _, _ => .inl x

/-- HARN_CAL_STEP (R93, R95–R98): the step that runs ends with what it measured. -/
def execHarnCalStep (p : PortId) (o : CalObs) (s : State) : Host.Outcome State Fault Refusal :=
  .next (if !s.fw p then s else match calOutcome (isService p) s.now s.feedOn (draw s (max 1 (s.port p).tDrp)) o (s.port p) with
    | .inl y =>
      let t := (s.updPort p (fun _ => y))
      if (s.port p).harn.step == some .s1 || (s.port p).harn.step == some .s2 then t.drawn else t
    | .inr c => (s.dropPort p 0x85 8 (Port.calFail (isService p) s.now c)).raisePort p 16 c.toNat)

/-- Conditions of R95 for steps 3 and 4. -/
def Port.calMayRun (feed : Bool) (x : Port) : Bool :=
  x.tc.st.unattached && x.harn.status == 3 && x.harn.step.isNone && x.tc.cc1 == .opened && x.tc.cc2 == .opened
    && decide (x.stage.conv.vbs < 8000) && feed

/-- HARN_CAL_DEFERRED_START (R95): the first run begins with step 3, a later one with the step that was ended. -/
def execHarnCalDeferredStart (p : PortId) (s : State) : Host.Outcome State Fault Refusal :=
  .next (if s.fw p && (s.port p).calMayRun s.feedOn then
      s.modPort p (Port.resumeCal s.now)
    else s)

/-- BLEEDER_OVERVOLTAGE (R94): the bleeder switch opens. -/
def execBleederOvervoltage (p : PortId) (s : State) : Host.Outcome State Fault Refusal :=
  .next (s.modPort p fun x => { x with harn := { x.harn with bleeder := false } })

/-- HARN_DRIFT (R99): eight consecutive beats above the bound, raised at the onset (R345). -/
def execHarnDrift (p : PortId) (s : State) : Host.Outcome State Fault Refusal :=
  .next (if (s.port p).pd.contract.pos != 0 && (s.port p).stage.runs.drift == 8 then
      (s.modPort p fun x => { x with stage := { x.stage with runs := { x.stage.runs with drift := 9 } } }).raisePort p 17 0
    else s)

end Sys2Proof.Machine
end

