-- ==== Sys2Proof/Machine/TypeC.lean ====
section
/-! DEFINITION. Attach and orientation: the per-beat CC states and the connection state machine (R90–R92, R101–R119). -/

namespace Sys2Proof.Machine

/-! ### CC states (R90–R92) -/

/-- Current of an Rp level in µA (R91). -/
def rpMicroamps (l : BitVec 2) : Int := if l = 0 then 80 else if l = 1 then 180 else 330

/-- Source side (R91): `v` is V_CC* in µV. -/
def ccAsSource (l : BitVec 2) (v : Int) : Cc :=
  let ra : Int := if l = 0 then 200000 else if l = 1 then 400000 else 800000
  let hi : Int := if l = 2 then 2600000 else 1600000
  if v < ra then .ra else if hi < v then .opened else .rd

/-- Sink side (R91). -/
def ccAsSink (v : Int) : Cc :=
  if v < 200000 then .opened else if v < 660000 then .rpDefault else if v < 1230000 then .rp1A5 else .rp3A0

/-- V_CC* of a line that presents `pres` (R90): `uv` = V(CCx) − V(GSN) in µV, `rCc` in mΩ. -/
def ccStar (pres : Pres) (rCc : Nat) (uv : Int) : Int :=
  match pres with
  | .none => uv
  | .rp l => uv - rpMicroamps l * rCc / 1000
  | .rd | .clamp => uv + uv * rCc / 5100000

/-- The classification of one sample (R91). A line that presents nothing has no class: it keeps its state (DESIGN CHOICE, log 59). -/
def ccClass (pres : Pres) (rCc : Nat) (uv : Int) : Option Cc :=
  match pres with
  | .none => none
  | .rp l => some (ccAsSource l (ccStar pres rCc uv))
  | .rd | .clamp => some (ccAsSink (ccStar pres rCc uv))

/-- Slots since the last transition after one more slot, counted up to 128 (R129). -/
def sinceNext (q : Nat) (x : CcSample) : Nat := if x.edge then 0 else min 128 (q + 1)

/-- The counts of a beat's slots: the line is active in every slot in which the port transmits on it, the first `tx` of the beat. -/
def sinceSlots : Nat → Nat → List CcSample → List Nat
  | _, _, [] => []
  | tx, q, x :: xs =>
    let q' := if 0 < tx then 0 else sinceNext q x
    q' :: sinceSlots (tx - 1) q' xs

/-- The count at the end of a beat's slots. -/
def sinceEnd (tx q : Nat) (xs : List CcSample) : Nat := (sinceSlots tx q xs).getLastD q

/-- The state each slot sample stands for: that of the previous beat in a slot in which the PHY reports the line active, up to 64
slots after a transition, or the moisture excitation drives it (R92, R129). -/
def ccSlots (prev : Cc) (pres : Pres) (rCc tx q : Nat) (xs : List CcSample) : List Cc :=
  (xs.zip (sinceSlots tx q xs)).map fun e =>
    if decide (e.2 ≤ 64) || e.1.excited then prev else (ccClass pres rCc e.1.uv).getD prev

/-- The per-beat state of a line: what at least 12 of the slot samples hold, else the previous state (R92). -/
def ccBeat (prev : Cc) (pres : Pres) (rCc tx q : Nat) (xs : List CcSample) : Cc :=
  let cs := ccSlots prev pres rCc tx q xs
  ([Cc.opened, .ra, .rd, .rpDefault, .rp1A5, .rp3A0].find? (fun c => decide (12 ≤ cs.count c))).getD prev

def Cc.isRp (c : Cc) : Bool := c == .rpDefault || c == .rp1A5 || c == .rp3A0
def Cc.level (c : Cc) : BitVec 2 :=
  match c with
  | .rpDefault => 1 | .rp1A5 => 2 | .rp3A0 => 3 | _ => 0

/-! ### Intervals (R102) -/

def Port.tCcDeb (x : Port) : Nat := ms (fld x.cfg.tcDebounce 0 8)
def Port.tPdDeb (x : Port) : Nat := ms (fld x.cfg.tcDebounce 8 8)
def Port.tTryDeb (x : Port) : Nat := ms (fld x.cfg.tcDebounce 16 8)
def Port.tSrcDisc (x : Port) : Nat := ms (fld x.cfg.tcDebounce 24 8)
def Port.tDrpTry (x : Port) : Nat := ms (fld x.cfg.tcTry 0 8)
def Port.tTryWait (x : Port) : Nat := ms (fld x.cfg.tcTry 8 10)
def Port.tTryTimeout (x : Port) : Nat := ms (fld x.cfg.tcTry 18 11)

/-- The rest of tDRPTry since the state was entered, at least one beat. -/
def Port.drpTryLeft (b : Beat) (x : Port) : Nat := max 1 (x.tDrpTry - Beat.since b x.tc.stBeat)

/-! ### Entries -/

/-- VBS−GSN of at least 4.00 V: VBUS present for a Sink (R108). -/
def Port.vbusPresent (x : Port) : Bool := decide (40000 ≤ x.stage.conv.vbs)
/-- VBS−GSN below 0.8 V: vSafe0V (R110). -/
def Port.vSafe0 (x : Port) : Bool := decide (x.stage.conv.vbs < 8000)

/-- The P bit of a port that attaches with steps 3 and 4 pending (R96). -/
def Port.readyIfPending (x : Port) : Port := if x.harn.status == 3 then x.setReady else x

/-- The cable assumed without an identity: CABLE_IMAX and 20 V (R200). -/
def Port.assumeCable (imax : Byte) (x : Port) : Port := { x with pd := { x.pd with cable := ⟨x.pd.cable.state, false, imax, 20⟩ } }

/-- VCONN permission in ATTACHED_SRC (R117): the non-active line shows Ra, VCONN_EN, the cluster's monitor good; neither R118 nor R124
has opened the switch since the attach (log 93). -/
def Port.vconnWanted (good : Bool) (x : Port) : Bool :=
  (if x.tc.orient then x.tc.cc1 == .ra else x.tc.cc2 == .ra) && x.vconnEn && good && !x.tc.vconnOc && !x.tc.vconnCut

/-- SOP′ and SOP″ may transmit while the port sources VCONN (R157). -/
def Port.syncVconn (x : Port) : Port :=
  ((x.modCtx .sop1 fun c => { c with vconnOk := x.tc.vconnOn }).modCtx .sop2 fun c => { c with vconnOk := x.tc.vconnOn })

/-- The module's own Discover Identity on SOP′ is due at once (R200, R241). -/
def Port.startDiscover (x : Port) : Port := { x.arm tDiscover .discover 1 with pd := { x.pd with discovered := false } }

/-- VCONN in ATTACHED_SRC turns on where its conditions come to hold (R117); not while a VCONN_Swap has given it away or a Hard Reset recovery runs (R235, R236). -/
def Port.followVconn (b : Beat) (good : Bool) (x : Port) : Port :=
  if x.tc.st != .attachedSrc || x.pd.recov.isSome || x.pd.swap.isSome then x
  else if !x.tc.vconnOn && x.vconnWanted good && !x.tc.vconnGiven then
    let y := ((x.vconnOnAt b).syncVconn).startDiscover
    { y with pd := { y.pd with discovered := x.pd.discovered && !x.pd.built.isEmpty } }
  else x

/-- Setpoint of vSafe5V, 20 mV units, and the current of an Rp level, 10 mA units (R110, R113, R290). -/
def five : Nat := 250
def rpAmps (l : BitVec 2) : Nat := if l = 0 then 50 else if l = 1 then 150 else 300

/-- The stage is told to drive VBUS to vSafe5V with GATE on (R110, R236, R271). -/
def Port.driveFive (b : Beat) (x : Port) : Port :=
  let y : Port := { x with stage := { x.stage with want := .forward, vTgt := five, iTgt := rpAmps x.advLevel } }
  y.gateOnCmd b

/-- Entry to ATTACHED_SRC (R110, R117, R145, R222): orientation, pass switch, vSafe5V, VCONN, protocol layer on SOP, whose
first Source_Capabilities follow discovery where VCONN is sourced (R200). -/
def Port.toAttachedSrc (svc : Bool) (b : Beat) (vconnGood : Bool) (imax : Byte) (x : Port) : Port :=
  let line2 := x.tc.cc1 != .rd
  let y := (Port.enter svc b .attachedSrc { x with tc := { x.tc with orient := line2 } }).readyIfPending
  let z := ((((y.attachPhy).attachRoles true).assumeCable imax).driveFive b)
  let v := if z.vconnWanted vconnGood then ((z.vconnOnAt b).syncVconn).startDiscover
           else { z with pd := { z.pd with discovered := true } }
  { v with pd := { v.pd with capsDue := true, capsRaise := false } }

/-- Entry to an accessory or debug state (R119): P0–P3 apply vSafe5V in DEBUG_ACC_SRC. Where both lines show a termination ORIENT
names CC1 (DESIGN CHOICE, log 59). -/
def Port.toAccessory (svc : Bool) (b : Beat) (st : Tc) (x : Port) : Port :=
  let line2 := x.tc.cc1 == .opened || x.tc.cc1 == .ra
  let y := (Port.enter svc b st { x with tc := { x.tc with orient := line2 } }).readyIfPending
  if st == .audioAcc then y
  else
    let z := (y.attachPhy).attachRoles (st == .debugAccSrc)
    if svc && st == .debugAccSrc then
      let w := z.driveFive b
      { w with pd := { w.pd with capsDue := true, capsRaise := false, discovered := true } }
    else if svc then z.arm tCaps .sinkWaitCap (ms 465)
    else z

/-- Entry to DRY_WAIT (R109, R123): nothing is presented and the health timer runs RECHECK. -/
def Port.toDryWait (svc : Bool) (b : Beat) (feed : Bool) (why : DryWhy) (x : Port) : Port :=
  let y := Port.enter svc b .dryWait (if x.tc.st.attached then x.powerDown b feed else { x with phy := x.phy.stop })
  { y.arm tHealth .dryRecheck (25000 * fld x.cfg.dryRecheck 0 16) with
    moist := { y.moist with why := some why, rdImplausible := y.moist.rdImplausible || why == .rdImplausible } }

/-- Entry to a Try or TryWait state with its timers (R108). -/
def Port.toTry (svc : Bool) (b : Beat) (st : Tc) (x : Port) : Port :=
  let y := Port.enter svc b st x
  match st with
  | .trySrc => (y.arm tCc .drpTry y.tDrpTry).arm tHealth .tryTimeout y.tTryTimeout
  | .trySnk => (y.arm tCc .drpTry y.tDrpTry).arm tHealth .tryWait y.tTryWait
  | .tryWaitSrc => y.arm tCc .drpTry y.tDrpTry
  | .tryWaitSnk => y.arm tCc .pdDebounce y.tPdDeb
  | _ => y

/-- The Sink attach after tCCDebounce of Rp with VBUS present (R108, R119). -/
def Port.snkAttach (svc : Bool) (b : Beat) (x : Port) : Port :=
  if x.tc.st == .attachWaitSnk && x.tc.cc1.isRp && x.tc.cc2.isRp then x.toAccessory svc b .debugAccSnk
  else if x.tc.st == .attachWaitSnk && x.tc.role == 2 && x.tc.tryMode == 1 then x.toTry svc b .trySrc
  else (x.toAttachedSnk svc b).readyIfPending

/-! ### The state machine on the per-beat CC states (R108, R111, R112) -/

/-- RP_SEEN follows the partner's Rp once it has been stable for tPDDebounce (R112). -/
def Port.followRp (x : Port) : Port :=
  let l := (if x.tc.cc1.isRp then x.tc.cc1.level else x.tc.cc2.level)
  let run := if l == x.tc.rpCand then x.tc.rpRun + 1 else 1
  { x with tc := { x.tc with rpCand := l, rpRun := run, rpSeen := if x.tPdDeb ≤ run then l else x.tc.rpSeen } }

/-- A PR_Swap runs after its Accept: the CC detach rules and the sink thresholds are not applied (R232). -/
def Port.srcHeld (x : Port) : Bool := match x.pd.swap with | some w => w.kind == .pr | none => false

/-- The sink thresholds rest during a PR_Swap and in Hard Reset recovery (R232, R236). -/
def Port.detachHeld (x : Port) : Bool := x.srcHeld || x.pd.recov.isSome

def Cc.termSrc (c : Cc) : Bool := c == .rd || c == .ra

/-- A change of the CC states ends the debounce and the two-current check; a line that stands at I2 shows the advertised level again
(R108, R109). -/
def Port.dropRdCheck (x : Port) : Port :=
  ({ x with tc := { x.tc with debounced := false, rdCheck := none, rdDone := false } }).refreshRp

/-- What the state machine does in the beat that sees the new CC states. `chg`: a line's state has changed. A muted port, which presents
nothing, leaves its unattached state on no reading (R125). -/
def ccAct (svc : Bool) (b : Beat) (chg : Bool) (x : Port) : Port :=
  let rd := x.tc.cc1 == .rd || x.tc.cc2 == .rd
  let term := x.tc.cc1.termSrc || x.tc.cc2.termSrc
  let rp := x.tc.cc1.isRp || x.tc.cc2.isRp
  let active := if x.tc.orient then x.tc.cc2 else x.tc.cc1
  match x.tc.st with
  | .unattachedSrc =>
    if term && !x.tc.mute then (Port.enter svc b .attachWaitSrc (x.endCalRun b)).arm tCc .ccDebounce x.tCcDeb else x
  | .unattachedSnk =>
    if rp && !x.tc.mute then (Port.enter svc b .attachWaitSnk (x.endCalRun b)).arm tCc .ccDebounce x.tCcDeb else x
  | .attachWaitSrc =>
    if !term then (if x.use tCc == .pdDebounce then x else x.dropRdCheck.arm tCc .pdDebounce x.tPdDeb)
    else if chg then x.dropRdCheck.arm tCc .ccDebounce x.tCcDeb
    else x
  | .attachWaitSnk =>
    let y := x.followRp
    if !rp then (if y.use tCc == .pdDebounce then y else ({ y with tc := { y.tc with debounced := false } }).arm tCc .pdDebounce y.tPdDeb)
    else if y.use tCc == .pdDebounce then y.arm tCc .ccDebounce y.tCcDeb
    else if y.tc.debounced && y.vbusPresent then y.snkAttach svc b
    else y
  | .tryWaitSnk =>
    let y := x.followRp
    if !rp then (if y.use tCc == .pdDebounce then y else ({ y with tc := { y.tc with debounced := false } }).arm tCc .pdDebounce y.tPdDeb)
    else if y.use tCc == .pdDebounce then y.arm tCc .ccDebounce y.tCcDeb
    else if y.tc.debounced && y.vbusPresent then y.snkAttach svc b
    else y
  | .trySrc =>
    if rd then (if x.use tCc == .drpTry then x.arm tCc .tryDebounce x.tTryDeb else x)
    else if x.use tCc == .tryDebounce || x.tc.debounced then
      ({ x with tc := { x.tc with debounced := false } }).arm tCc .drpTry (x.drpTryLeft b)
    else x
  | .tryWaitSrc =>
    if rd then (if x.use tCc == .drpTry then x.arm tCc .tryDebounce x.tTryDeb else x)
    else if x.use tCc == .tryDebounce || x.tc.debounced then
      ({ x with tc := { x.tc with debounced := false } }).arm tCc .drpTry (x.drpTryLeft b)
    else x
  | .trySnk =>
    let y := x.followRp
    if !y.tc.debounced then y
    else if rp then
      (if y.tc.tryHeld then (if y.vbusPresent then (y.toAttachedSnk svc b).readyIfPending else y)
       else if y.use tCc == .idle then y.arm tCc .tryDebounce y.tTryDeb else y)
    else { y.disarm tCc with tc := { y.tc with tryHeld := false } }
  | .attachedSrc =>
    if x.srcHeld then x
    else if active == .opened then (if x.use tCc == .srcDisconnect then x else x.arm tCc .srcDisconnect x.tSrcDisc)
    else if x.use tCc == .srcDisconnect then x.disarm tCc else x
  | .debugAccSrc | .audioAcc =>
    if x.srcHeld then x
    else if x.tc.cc1 == .opened || x.tc.cc2 == .opened then
      (if x.use tCc == .srcDisconnect then x else x.arm tCc .srcDisconnect x.tSrcDisc)
    else if x.use tCc == .srcDisconnect then x.disarm tCc else x
  | .attachedSnk | .debugAccSnk =>
    let y := x.followRp
    if y.pd.recov.isSome && !y.srcHeld && active == .opened then
      (if y.use tCc == .pdDebounce then y else y.arm tCc .pdDebounce y.tPdDeb)
    else if y.use tCc == .pdDebounce then y.disarm tCc else y
  | .disabled | .calibrating | .calFailed | .errorRecovery | .dryWait | .lockout => x

/-- The reference of levels and thresholds stands clamped while V(GSN) − V(GND), 0.1 mV less the offset of step 1, lies outside
−0.25 V to +0.50 V (R127, R93). -/
def Port.takeGsn (gsn : Int) (x : Port) : Port :=
  let v := gsn - x.harn.gsnOfs.toInt
  { x with phy := { x.phy with gsnClamp := decide (v < -2500) || decide (5000 < v) } }

/-- The CC states of the beat are formed; a termination in one spoils a moisture sweep under way (R92, R122, R129). -/
def Port.takeCc (b : Beat) (l1 l2 : List CcSample) (x : Port) : Port :=
  let t1 := if x.tc.orient then 0 else x.txSlots b
  let t2 := if x.tc.orient then x.txSlots b else 0
  let c1 := ccBeat x.tc.cc1 x.tc.pres1 x.harn.rCc.toNat t1 x.phy.since1 l1
  let c2 := ccBeat x.tc.cc2 x.tc.pres2 x.harn.rCc.toNat t2 x.phy.since2 l2
  { x with tc := { x.tc with cc1 := c1, cc2 := c2, ccChanged := x.tc.ccChanged || c1 != x.tc.cc1 || c2 != x.tc.cc2 }
           phy := { x.phy with since1 := sinceEnd t1 x.phy.since1 l1, since2 := sinceEnd t2 x.phy.since2 l2 }
           moist := { x.moist with term := x.moist.term || c1 != .opened || c2 != .opened } }

/-- CC_STATE_UPDATE (R92, R108, R111, R112, R127, R129): the beat's CC states are formed and the state machine acts on them; while the
port's core is stopped it does not, and a change waits for it (R19, R20). With the hub held in reset there is neither (R78). -/
def execCcStateUpdate (p : PortId) (lines : CcSlots) (gsn : Int) (s : State) : Host.Outcome State Fault Refusal :=
  .next (if !s.hubRuns then s else s.updPort p fun x =>
    let y := (x.takeGsn gsn).takeCc s.now lines.line1 lines.line2
    if s.fw p then ccAct (isService p) s.now y.tc.ccChanged { y with tc := { y.tc with ccChanged := false } } else y)

/-! ### Expiries of the CC and health timers -/

/-- The check of R109 is needed on the lines that show Rd. -/
def Port.startRdCheck (x : Port) : Port :=
  { x with tc := { x.tc with
      debounced := true
      rdCheck := some ⟨if x.tc.cc1 == .rd then some false else none, if x.tc.cc2 == .rd then some false else none, 0, 0⟩ } }

/-- A CC item of a line under the two-current check (R109 steps 1 to 3): after its first conversion the line stands at I2 from the
next beat on, at its second the advertised level is back. -/
def Port.rdConversion (second : Bool) (x : Port) : Port :=
  match x.tc.rdCheck with
  | none => x
  | some k =>
    if (if second then k.line2 else k.line1) != some false then x
    else
      let k' : RdCheck := if second then { k with n2 := min 2 (k.n2 + 1) } else { k with n1 := min 2 (k.n1 + 1) }
      let y : Port := { x with tc := { x.tc with rdCheck := some k' } }
      if (if second then k'.n2 else k'.n1) = 2 then y.refreshRp else y

/-- tCCDebounce has passed (R108, R119). -/
def Port.ccDebounced (svc : Bool) (b : Beat) (x0 : Port) : Port :=
  let x := x0.disarm tCc
  match x.tc.st with
  | .attachWaitSrc =>
    if x.tc.cc1 == .rd && x.tc.cc2 == .rd then
      (if svc then x.startRdCheck else x.toAccessory svc b .debugAccSrc)
    else if x.tc.cc1 == .rd || x.tc.cc2 == .rd then
      (if x.tc.role == 2 && x.tc.tryMode == 2 then x.toTry svc b .trySnk else x.startRdCheck)
    else if x.tc.cc1 == .ra && x.tc.cc2 == .ra then x.toAccessory svc b .audioAcc
    else { x with tc := { x.tc with debounced := true } }
  | .attachWaitSnk | .tryWaitSnk =>
    if x.vbusPresent then x.snkAttach svc b else { x with tc := { x.tc with debounced := true } }
  | _ => x

/-- CC_DEBOUNCE_EXPIRY (R108). -/
def execCcDebounceExpiry (p : PortId) (s : State) : Host.Outcome State Fault Refusal :=
  .next (if s.due p tCc .ccDebounce then s.updPort p (Port.ccDebounced (isService p) s.now) else s)

/-- PD_DEBOUNCE_EXPIRY (R108, R236): the termination has been lost for tPDDebounce. -/
def execPdDebounceExpiry (p : PortId) (s : State) : Host.Outcome State Fault Refusal :=
  .next (if s.due p tCc .pdDebounce then
      (match (s.port p).tc.st with
       | .attachWaitSrc => s.updPort p fun x => x.toUnattached (isService p) s.now false none
       | .attachWaitSnk | .tryWaitSnk => s.updPort p fun x => x.toUnattached (isService p) s.now true none
       | .attachedSnk | .debugAccSnk => if (s.port p).pd.recov.isSome && !(s.port p).srcHeld then s.dropPort p 0 8 (Port.detachSnk (isService p) s.now) else s
       | _ => s)
    else s)

/-- The attach of a Try or TryWait state after tTryCCDebounce (R108, R110). -/
def Port.tryDebounced (svc : Bool) (b : Beat) (good : Bool) (imax : Byte) (x0 : Port) : Port :=
  let x := x0.disarm tCc
  match x.tc.st with
  | .trySrc | .tryWaitSrc =>
    if x.vSafe0 then x.toAttachedSrc svc b good imax else { x with tc := { x.tc with debounced := true } }
  | .trySnk =>
    if x.vbusPresent then (x.toAttachedSnk svc b).readyIfPending else { x with tc := { x.tc with tryHeld := true } }
  | _ => x

/-- TRY_CC_DEBOUNCE_EXPIRY (R108). -/
def execTryCcDebounceExpiry (p : PortId) (s : State) : Host.Outcome State Fault Refusal :=
  .next (if s.due p tCc .tryDebounce then
      s.updPort p fun x => x.tryDebounced (isService p) s.now (s.cluster (clusterOf p)).vconnGood (s.classOf x).header.cableImax
    else s)

/-- DRP_TOGGLE_EXPIRY (R105): the port switches to the other unattached state; a role that is no longer DRP acts at this
entry (R101). -/
def execDrpToggleExpiry (p : PortId) (s : State) : Host.Outcome State Fault Refusal :=
  .next (if s.due p tCc .drpToggle && (s.port p).tc.st.unattached then
      s.updPort p fun x =>
        if x.roleOf == 2 then x.toUnattached (isService p) s.now (x.tc.st == .unattachedSrc) none
        else x.toRoleState (isService p) s.now 0
    else s)

/-- DRP_TRY_EXPIRY (R108): in TRY_SRC without Rd to TRYWAIT_SNK; in TRY_SNK the wait for Rp begins; in TRYWAIT_SRC without
Rd to UNATTACHED_SNK. -/
def execDrpTryExpiry (p : PortId) (s : State) : Host.Outcome State Fault Refusal :=
  .next (if s.due p tCc .drpTry then
      s.updPort p fun x =>
        match x.tc.st with
        | .trySrc => x.toTry (isService p) s.now .tryWaitSnk
        | .trySnk =>
          let y : Port := { x.disarm tCc with tc := { x.tc with debounced := true } }
          if x.tc.cc1.isRp || x.tc.cc2.isRp then y.arm tCc .tryDebounce y.tTryDeb else y
        | .tryWaitSrc => x.toUnattached (isService p) s.now true none
        | _ => x
    else s)

/-- TRY_WAIT_EXPIRY (R108): TRY_SNK ends in TRYWAIT_SRC. -/
def execTryWaitExpiry (p : PortId) (s : State) : Host.Outcome State Fault Refusal :=
  .next (if s.due p tHealth .tryWait && (s.port p).tc.st == .trySnk then
      s.updPort p fun x => x.toTry (isService p) s.now .tryWaitSrc
    else s)

/-- TRY_TIMEOUT_EXPIRY (R108): TRY_SRC ends in TRYWAIT_SNK in any case. -/
def execTryTimeoutExpiry (p : PortId) (s : State) : Host.Outcome State Fault Refusal :=
  .next (if s.due p tHealth .tryTimeout && (s.port p).tc.st == .trySrc then
      s.updPort p fun x => x.toTry (isService p) s.now .tryWaitSnk
    else s)

/-- The temperature that R293 waits for: T below T_TRIP − T_HYS. -/
def Port.coolEnough (x : Port) : Bool :=
  decide (x.guard.tEst < 65536 * ((fld x.cfg.guard[3] 8 8 : Int) - 40 - (fld x.cfg.guard[3] 16 8 : Int)))

/-- ERROR_RECOVERY_EXPIRY (R108, R293, R350). -/
def execErrorRecoveryExpiry (p : PortId) (s : State) : Host.Outcome State Fault Refusal :=
  .next (if s.due p tCc .errorRecovery && (s.port p).tc.st == .errorRecovery && !s.faults.hold
      && (!(s.port p).tc.tripWait || (s.port p).coolEnough) then
      (s.updPort p fun x =>
        if x.tc.errFromCal then x.startSteps (isService p) s.now
        else x.toRoleState (isService p) s.now (draw s (max 1 x.tDrp))).drawn
    else s)

/-- SRC_DISCONNECT_EXPIRY (R111): detach on the source side. -/
def execSrcDisconnectExpiry (p : PortId) (s : State) : Host.Outcome State Fault Refusal :=
  .next (if s.due p tCc .srcDisconnect && !(s.port p).srcHeld && ((s.port p).tc.st == .attachedSrc || (s.port p).tc.st == .debugAccSrc
      || (s.port p).tc.st == .audioAcc) then
      s.dropPort p 0 8 (Port.detachSrc (isService p) s.now s.feedOn)
    else s)

/-- SINK_DETACH (R111, R211): three consecutive beats below the sink threshold. -/
def execSinkDetach (p : PortId) (s : State) : Host.Outcome State Fault Refusal :=
  .next (if s.fw p && ((s.port p).tc.st == .attachedSnk || (s.port p).tc.st == .debugAccSnk) && !(s.port p).detachHeld
      && decide (3 ≤ (s.port p).stage.runs.sinkLow) then
      s.dropPort p 0 8 (Port.detachSnk (isService p) s.now)
    else s)

/-! ### The two-current check and the Source attach (R109, R110) -/

/-- I1 is the advertised Rp; I2 is 80 µA, or 330 µA when field RP is Default (R109). -/
def rdPass (l : BitVec 2) (dflt : Bool) (rCc : Nat) (uv1 uv2 : Int) : Bool :=
  let i1 := rpMicroamps l
  let i2 : Int := if dflt then 330 else 80
  let r1 := (uv1 - i1 * rCc / 1000) * 1000 / i1   -- mΩ × 1: µV·1000/µA = mΩ
  let r2 := (uv2 - i2 * rCc / 1000) * 1000 / i2
  decide (4500000 ≤ r1) && decide (r1 ≤ 5700000) && decide (4500000 ≤ r2) && decide (r2 ≤ 5700000)
    && decide ((r1 - r2).natAbs * 100 ≤ r1.natAbs * 4)

/-- RD_CHECK_COMPLETE (R109): a line passes, or the port enters DRY_WAIT with RD_IMPLAUSIBLE. -/
def execRdCheckComplete (p : PortId) (l : Line) (uv1 uv2 : Int) (s : State) : Host.Outcome State Fault Refusal :=
  .next (match s.fw p && (s.port p).tc.st == .attachWaitSrc, (s.port p).tc.rdCheck with
    | true, some k =>
      let due := match l with | .cc1 => k.line1 == some false && k.n1 == 2 | .cc2 => k.line2 == some false && k.n2 == 2
      if !due then s
      else if rdPass (s.port p).rpLevel ((s.port p).rpOf == 0) (s.port p).harn.rCc.toNat uv1 uv2 then
        s.updPort p fun x =>
          let k' : RdCheck := match l with | .cc1 => { k with line1 := some true } | .cc2 => { k with line2 := some true }
          if k'.line1 != some false && k'.line2 != some false then
            let y : Port := { x with tc := { x.tc with rdCheck := none, rdDone := true } }
            if y.tc.cc1 == .rd && y.tc.cc2 == .rd then y.toAccessory (isService p) s.now .debugAccSrc else y
          else { x with tc := { x.tc with rdCheck := some k' } }
      else s.dropPort p 0 8 (Port.toDryWait (isService p) s.now s.feedOn .rdImplausible)
    | _, _ => s)

/-- The entry to ATTACHED_SRC waits only for VBS−GSN below 0.8 V (R110). -/
def Port.srcEntryDue (x : Port) : Bool :=
  x.tc.debounced && ((x.tc.st == .attachWaitSrc && x.tc.rdDone) || x.tc.st == .trySrc || x.tc.st == .tryWaitSrc)

/-- ATTACH_SRC_ENTRY (R110, R117). -/
def execAttachSrcEntry (p : PortId) (s : State) : Host.Outcome State Fault Refusal :=
  .next (if s.fw p && (s.port p).srcEntryDue && (s.port p).vSafe0 then
      s.updPort p fun x => x.toAttachedSrc (isService p) s.now (s.cluster (clusterOf p)).vconnGood (s.classOf x).header.cableImax
    else s)

end Sys2Proof.Machine
end

