-- ==== Sys2Proof/Machine/Caps.lean ====
section
/-! DEFINITION. Class rules, capability objects and requests (R188–R204, R219, R511). The bit layouts of data objects
are the standard's (PRESUMED, log 21). -/

namespace Sys2Proof.Machine

/-! ### Words from fields -/

/-- A word from (value, lowest bit) pairs. -/
def mkWord (fs : List (Nat × Nat)) : Word := BitVec.ofNat 32 ((fs.map fun f => f.1 * 2 ^ f.2).sum)

/-! ### Rule lookup (R192–R195) -/

def Rule.enabled (r : Rule) : Bool := r.ctrl.getLsbD 0
def Rule.outcome (r : Rule) : Nat := r.out.toNat % 16
def Rule.dflt (r : Rule) : Nat := r.out.toNat / 16
def Rule.cableCond (r : Rule) : Nat := r.cond.toNat % 4
def Rule.roleSel (r : Rule) : Nat := r.cond.toNat / 4 % 4

/-- COND.CABLE (R192, R195): the identity held meets or exceeds the stated class. -/
def cableMeets (c : Cable) (cond : Nat) : Bool :=
  cond == 0 || (c.state == 2 && (cond == 1 || (decide (100 ≤ c.iCab.toNat) && (cond == 2 || (c.epr && decide (50 ≤ c.vCab.toNat))))))

/-- PDO_MASK admits position `n` (R192). -/
def maskAdmits (m : Half) (n : Nat) : Bool := m == 0 || m.getLsbD (n - 1)

/-- V_LO–V_HI, in 20 mV units, admits a voltage in 10 mV units. -/
def Rule.vAdmits (r : Rule) (v : Nat) : Bool := decide (2 * r.vLo.toNat ≤ v) && (r.vHi == 0 || decide (v ≤ 2 * r.vHi.toNat))

/-- The decision points of R193. -/
def ptSrcRequest : Nat := 0
def ptEprEnter : Nat := 1
def ptPrSwap : Nat := 2
def ptDrSwap : Nat := 3
def ptVconnSwap : Nat := 4
def ptSnkSelect : Nat := 5
def ptMoistWet : Nat := 6
def ptMoistCorr : Nat := 7

/-- Outcome codes of R194. -/
def ocAccept : Nat := 0
def ocReject : Nat := 1
def ocWait : Nat := 2
def ocAsk : Nat := 3
def ocMatch : Nat := 4
def ocFive : Nat := 5
def ocReport : Nat := 6
def ocDryWait : Nat := 7
def ocLockout : Nat := 8

/-- Outcomes permitted for a point (R193). -/
def permitted (point oc : Nat) : Bool :=
  if point = 1 then oc == 0 || oc == 1 || oc == 3
  else if point < 5 then decide (oc ≤ 3)
  else if point = 5 then oc == 3 || oc == 4 || oc == 5
  else if point = 6 then oc == 7 || oc == 8
  else if point = 7 then decide (6 ≤ oc ∧ oc ≤ 8)
  else false

/-- Deadline caps in beats (R193). -/
def deadlineCap (point : Nat) : Nat := if point = 1 then 50000 else 3000

/-- The class's NOMATCH outcome for a point (R191). -/
def Class.noMatch (c : Class) (point : Nat) : Nat := fld c.header.noMatch (4 * point) 4

/-- The first matching rule's index, or none (R195). -/
def Class.find (c : Class) (point : Nat) (matches_ : Rule → Bool) : Option (Fin 32) :=
  (List.finRange 32).find? fun i => (c.rules[i]).enabled && (c.rules[i]).point.toNat == point && matches_ c.rules[i]

/-- A lookup's answer: outcome, the rule that named it and its default. -/
structure Answer where
  outcome : Nat
  rule : Option (Fin 32)
  dflt : Nat
  deriving DecidableEq, Repr

def Class.lookup (c : Class) (point : Nat) (matches_ : Rule → Bool) : Answer :=
  match c.find point matches_ with
  | some i => ⟨(c.rules[i]).outcome, some i, (c.rules[i]).dflt⟩
  | none => ⟨c.noMatch point, none, 0⟩

/-! ### Building capabilities (R198–R200, R511) -/

/-- STAGE.IMAX, 10 mA units. -/
def Port.imax (x : Port) : Nat := fld x.cfg.stage[0] 0 10

/-- EPR Capable of the 5 V object (R198). -/
def Class.eprCapable (c : Class) : Bool :=
  c.header.flags.getLsbD 0 && ((c.src.toList.drop 7).any fun t => t.type != 0)
    && (c.noMatch ptEprEnter != ocReject
        || c.rules.toList.any (fun r => r.enabled && r.point == 1 && r.outcome != ocReject))

/-- Dual-Role Data (R511). -/
def Class.dualData (c : Class) : Bool :=
  c.noMatch ptDrSwap != ocReject || c.rules.toList.any (fun r => r.enabled && r.point == 3 && r.outcome != ocReject)

/-- The advertised object of template position `n`, 1 to 11, for a grant `g` in 0.5 W units, or none where R199 omits
it. `first` flags go into position 1. -/
def srcObject (c : Class) (drp : Bool) (imax : Nat) (cable : Cable) (g n : Nat) : Option Word :=
  let t := (c.src.toList.getD (n - 1) Tmpl.empty)
  let va := t.vA.toNat
  let vb := t.vB.toNat
  let lim := t.lim.toNat
  let ic := cable.iCab.toNat
  if t.type == 1 then
    let i0 := min (min lim (1000 * g / max 1 va)) (min (ic * 5) imax)
    let i := if n = 1 then max 50 i0 else i0
    if i < 50 || decide (20 * cable.vCab.toNat < va) then none
    else some (mkWord [(i, 0), (va, 10), (if n = 1 then b2n c.eprCapable else 0, 23),
      (if n = 1 then b2n c.dualData else 0, 25), (if n = 1 then b2n drp else 0, 29)])
  else if t.type == 2 then
    let i := min (min (lim / 5) (100 * g / max 1 vb)) (min ic (imax / 5))
    if i < 20 then none else some (mkWord [(i, 0), (va, 8), (vb, 17), (3, 30)])
  else if t.type == 3 then
    let pdp := min (min lim (g / 2)) (min ic (imax / 5))
    if pdp < 15 then none
    else some (mkWord [(min (pdp * 5) (min (ic * 5) imax), 0), (min (pdp * 100 / 15) (min (ic * 5) imax), 10), (2, 28), (3, 30)])
  else if t.type == 4 then
    let pdp := min (min lim (g / 2)) (min (ic * vb / 200) (imax * vb / 1000))
    if pdp < 15 || decide (10 * cable.vCab.toNat < vb) then none
    else some (mkWord [(pdp, 0), (va, 8), (vb, 17), (1, 28), (3, 30)])
  else none

def compact : List (Option Word) → List Word
  | [] => []
  | some w :: ws => w :: compact ws
  | none :: ws => compact ws

/-- The SPR objects, and the EPR objects, that survive clipping (R198, R199). -/
def sprObjects (c : Class) (drp : Bool) (imax : Nat) (cable : Cable) (g : Nat) : List Word :=
  compact ((List.range 7).map fun i => srcObject c drp imax cable g (i + 1))
def eprObjects (c : Class) (drp : Bool) (imax : Nat) (cable : Cable) (g : Nat) : List Word :=
  compact ((List.range 4).map fun i => srcObject c drp imax cable g (i + 8))

/-- EPR mode's conditions still hold at a Source (R215, R216). -/
def Port.eprHolds (c : Class) (x : Port) : Bool :=
  c.eprCapable && x.tc.vconnOn && decide (100 ≤ x.pd.cable.iCab.toNat) && decide (50 ≤ x.pd.cable.vCab.toNat) && x.pd.cable.epr

/-- The objects of Source_Capabilities, or in EPR mode of EPR_Source_Capabilities, by position; empty SPR positions of
the latter are zero objects (R198), and EPR objects go once EPR mode's conditions have stopped holding (R216). -/
def buildCaps (c : Class) (x : Port) (epr : Bool) : List Word :=
  let drp := x.tc.role == 2
  let spr := sprObjects c drp x.imax x.pd.cable x.grant
  if epr then
    spr ++ List.replicate (7 - spr.length) 0 ++ (if c.eprCapable && (!x.pd.contract.eprMode || x.eprHolds c) then eprObjects c drp x.imax x.pd.cable x.grant else [])
  else spr

/-- Power of a template entry with the grant unlimited, 0.5 W units (R319). -/
def wantOf (c : Class) (x : Port) (n : Nat) : Nat :=
  match srcObject c false x.imax x.pd.cable 1000000 n with
  | none => 0
  | some w =>
    let t := (c.src.toList.getD (n - 1) Tmpl.empty).type
    if t == 1 then fld w 10 10 * fld w 0 10 / 1000
    else if t == 2 then fld w 17 8 * fld w 0 7 / 100
    else if t == 3 then max (fld w 0 10 * 40 / 100) (fld w 10 10 * 30 / 100)
    else fld w 0 8 * 2

/-- The want W_p (R319). -/
def wantPower (c : Class) (bud : Budget) (x : Port) : Nat :=
  if x.tc.st == .attachedSrc || x.tc.st == .debugAccSrc then
    let n := if x.pd.contract.eprMode then 11 else 7
    max (floorOf c bud x)
      (min c.header.ceil.toNat (((List.range n).map fun i => wantOf c x (i + 1)).foldl max 0))
  else floorOf c bud x

/-- The sink template's objects (R511): Fixed 5 V first, with its flags. -/
def sinkObjects (c : Class) (drp : Bool) : List Word :=
  let higher := (c.snk.toList.drop 1).any fun t => t.type != 0
  compact ((List.range 7).map fun i =>
    let t := c.snk.toList.getD i Tmpl.empty
    if t.type == 1 then
      some (mkWord [(t.lim.toNat, 0), (t.vA.toNat, 10), (if i = 0 then b2n c.dualData else 0, 25),
        (if i = 0 then b2n higher else 0, 28), (if i = 0 then b2n drp else 0, 29)])
    else if t.type == 2 then some (mkWord [(t.lim.toNat / 5, 0), (t.vA.toNat, 8), (t.vB.toNat, 17), (3, 30)])
    else if t.type == 3 then
      some (mkWord [(t.lim.toNat * 5, 0), (t.lim.toNat * 100 / 15, 10), (2, 28), (3, 30)])
    else none)

/-! ### Reading objects -/

/-- Kind of an object in the codes of R220; 0 for a zero object. -/
def objType (w : Word) : Nat :=
  if w == 0 then 0
  else if fld w 30 2 = 0 then 1
  else if fld w 30 2 = 3 then (if fld w 28 2 = 0 then 2 else if fld w 28 2 = 2 then 3 else if fld w 28 2 = 1 then 4 else 0)
  else 0

/-- Voltage range of an object, 20 mV units. An SPR AVS object spans 9.0–20.0 V. -/
def objRange (w : Word) : Nat × Nat :=
  match objType w with
  | 1 => (fld w 10 10 * 5 / 2, fld w 10 10 * 5 / 2)
  | 2 => (fld w 8 8 * 5, fld w 17 8 * 5)
  | 3 => (450, 1000)
  | 4 => (fld w 8 8 * 5, fld w 17 9 * 5)
  | _ => (0, 0)

/-- Current advertised for a voltage, 10 mA units (R202). An EPR AVS object bounds the product instead. -/
def objCurrent (w : Word) (v : Nat) : Nat :=
  match objType w with
  | 1 => fld w 0 10
  | 2 => fld w 0 7 * 5
  | 3 => if v ≤ 750 then fld w 10 10 else fld w 0 10
  | 4 => fld w 0 8 * 5000 / max 1 v
  | _ => 0

/-- Step of an object's output voltage, 20 mV units (R202, R212). -/
def objGrid (t : Nat) : Nat := if 3 ≤ t then 5 else 1

/-- What a request asks for (R202). -/
structure Req where
  pos : Nat
  type : Nat
  v : Nat           -- 20 mV
  v10 : Nat         -- the same voltage, 10 mV: exact for a Fixed object too
  i : Nat           -- 10 mA
  mismatch : Bool
  epr : Bool        -- EPR Mode Capable
  valid : Bool
  deriving DecidableEq, Repr

/-- A request object read by the kind of the object at its position and checked against the capabilities last sent
(R202). `copy` is the PDO copy of an EPR_Request. -/
def readRequest (caps : List Word) (eprMode : Bool) (rdo : Word) (copy : Option Word) : Req :=
  let pos := fld rdo 28 4
  let obj := if pos = 0 then 0 else caps.getD (pos - 1) 0
  let t := objType obj
  let v := if t = 1 then fld obj 10 10 * 5 / 2
    else if t = 2 then fld rdo 9 12
    else if t = 0 then 0 else fld rdo 9 12 * 5 / 4
  let onGrid := t = 1 || t = 2 || decide (fld rdo 9 12 % 4 = 0)
  let i := if t = 1 then fld rdo 10 10 else if t = 0 then 0 else fld rdo 0 7 * 5
  let r := objRange obj
  let ok := t != 0 && (decide (pos ≤ 7) || eprMode) && (match copy with | some c => c == obj | none => true)
    && (if t = 4 then decide (v * i ≤ fld obj 0 8 * 5000) else decide (i ≤ objCurrent obj v))
    && (t = 1 || (decide (r.1 ≤ v) && decide (v ≤ r.2) && onGrid))
  ⟨pos, t, v, if t = 1 then 5 * fld obj 10 10 else 2 * v, i, bit1 rdo 26, bit1 rdo 22, ok⟩

/-- A request object of this module as Sink (R511): No USB Suspend 1, the other flags 0. -/
def mkRequest (pos type v i : Nat) (mismatch : Bool) : Word :=
  if type = 1 then mkWord [(i, 0), (i, 10), (1, 24), (b2n mismatch, 26), (pos, 28)]
  else mkWord [(i / 5, 0), (if type = 2 then v else v * 4 / 5, 9), (1, 24), (b2n mismatch, 26), (pos, 28)]

/-! ### Sink selection (R219) -/

/-- The template voltage range of a sink entry, 20 mV units. -/
def Tmpl.range (t : Tmpl) : Nat × Nat :=
  if t.type == 1 then (t.vA.toNat * 5 / 2, t.vA.toNat * 5 / 2) else (t.vA.toNat * 5, t.vB.toNat * 5)

/-- Voltage range of an object in 10 mV units, which every object's field gives exactly. -/
def objRange10 (w : Word) : Nat × Nat := if objType w = 1 then (5 * fld w 10 10, 5 * fld w 10 10) else (2 * (objRange w).1, 2 * (objRange w).2)

/-- A sink-template entry covers an object (R219): a Fixed entry of the same voltage, an entry of the same APDO type whose range
overlaps the object's. -/
def Tmpl.covers (t : Tmpl) (w : Word) : Bool :=
  t.type != 0 && t.type.toNat == objType w
    && (if objType w = 1 then t.vA.toNat == fld w 10 10
        else decide (max (objRange w).1 t.range.1 ≤ min (objRange w).2 t.range.2))

/-- The highest voltage at which object `w` qualifies under the window `lo`–`hi` and sink entry `t`, 20 mV units, or none. -/
def coverVolt (w : Word) (lo hi : Nat) (t : Tmpl) : Option Nat :=
  if !t.covers w then none
  else if objType w = 1 then
    (if decide (2 * lo ≤ 5 * fld w 10 10) && decide (5 * fld w 10 10 ≤ 2 * hi) then some (objRange w).1 else none)
  else
    let r := objRange w
    let q := t.range
    let top := min (min r.2 q.2) hi
    let g := objGrid (objType w)
    let v := top / g * g
    if max (max r.1 q.1) lo ≤ v then some v else none

/-- The qualifying voltage of the object over the whole sink template. -/
def qualifyVolt (c : Class) (w : Word) (lo hi : Nat) : Option Nat :=
  (c.snk.toList.map (coverVolt w lo hi)).foldl
    (fun a b => match a, b with
      | some x, some y => some (max x y)
      | none, y => y
      | x, none => x) none

/-- Highest voltage in service-domain operation, 20 mV units, and otherwise no bound (R219). -/
def vCeil (svc : Bool) : Nat := if svc then 1000 else 65535

/-- The best qualifying object: position and voltage, highest voltage, lowest position on a tie. -/
def bestObject (c : Class) (r : Option Rule) (svc : Bool) : Nat → List Word → Option (Nat × Nat)
  | _, [] => none
  | n, w :: ws =>
    let rest := bestObject c r svc (n + 1) ws
    let lo := match r with | some q => q.vLo.toNat | none => 0
    let hi := match r with | some q => (if q.vHi == 0 then vCeil svc else min q.vHi.toNat (vCeil svc)) | none => vCeil svc
    let adm := match r with | some q => maskAdmits q.pdoMask n | none => true
    match (if adm && w != 0 then qualifyVolt c w lo hi else none), rest with
    | some v, some (m, u) => if u ≤ v then some (n, v) else some (m, u)
    | some v, none => some (n, v)
    | none, x => x

/-- A rule's window and mask admit object `w` at position `n` (R195): some voltage of its range lies within V_LO–V_HI. -/
def Rule.offers (r : Rule) (n : Nat) (w : Word) : Bool :=
  maskAdmits r.pdoMask n && w != 0 && decide (2 * r.vLo.toNat ≤ (objRange10 w).2)
    && (r.vHi == 0 || decide ((objRange10 w).1 ≤ 2 * r.vHi.toNat))

/-- Whether a SNK_SELECT rule matches the received objects (R195): one is offered that the sink template covers. -/
def snkRuleMatches (c : Class) (objs : List Word) (r : Rule) : Bool :=
  (objs.zipIdx 1).any fun e => r.offers e.2 e.1 && c.snk.toList.any fun t => t.covers e.1

/-- RP_SEEN level, 10 mA units; Default while 0 (R219). -/
def rpSeenAmps (l : BitVec 2) : Nat := if l = 2 then 150 else if l = 3 then 300 else 50

/-- REQUEST_5V (R219). -/
def requestFive (objs : List Word) (x : Port) (svc mismatch : Bool) : Word :=
  let obj := objs.headD 0
  let i0 := min (objCurrent obj 250) (rpSeenAmps x.tc.rpSeen)
  mkRequest 1 1 250 (if svc then min i0 300 else i0) mismatch

/-- REQUEST_MATCH (R219); `r` is the matched rule, none for NOMATCH. -/
def requestMatch (c : Class) (r : Option Rule) (objs : List Word) (x : Port) (svc : Bool) : Word :=
  match bestObject c r svc 1 objs with
  | none => requestFive objs x svc true
  | some (n, v) =>
    let obj := objs.getD (n - 1) 0
    let adv := objCurrent obj v
    let iHi := match r with | some q => q.iHi.toNat | none => 0
    let pHi := match r with | some q => q.pHi.toNat | none => 0
    let a := if iHi = 0 then adv else min adv iHi
    let v10 := if objType obj = 1 then 5 * fld obj 10 10 else 2 * v
    let b := if pHi = 0 then a else min a (pHi * 5000 / max 1 v10)
    let i := if svc then min b 300 else b
    mkRequest n (objType obj) v (if objType obj = 1 then i else i / 5 * 5) (decide (adv < iHi))

/-! ### Decisions (R23, R24, R204, R205) -/

/-- OBJECT and PDO of a request and the event's payload (R205). -/
def decisionPayload (d : Decision) : List Byte :=
  u16 d.id ++ leBytes 1 d.point ++ leBytes 1 d.rule ++ leBytes 1 d.cls.val ++ leBytes 1 d.dflt ++ [0, 0]
    ++ beatBytes d.deadline ++ [0, 0] ++ wordBytes d.obj ++ wordBytes d.pdo

/-- DEC_ID runs from 1 to 65,535 and wraps to 1 (R205). -/
def nextDecId (n : Nat) : Nat := if 65535 ≤ n then 1 else n + 1

/-- The DECISION_REQUEST event finds no cell in the queue of a stream that admits it (R444). -/
def State.askRefused (s : State) (payload : List Byte) : Bool :=
  (bit1 s.host.maskHost 2 && !s.pool.takes qEvent (mkPacket s.pool .none (eventBytes 0xC2 0 false payload)))
    || (s.svcOn && bit1 s.host.maskSvc 2 && !s.pool.takes qSvcOut (mkPacket s.pool .none (eventBytes 0xC2 0 false payload)))

/-- An ASK resolves to its default without a request, or with one that could not be queued: DECISION_CLOSED with RESOLUTION 2 and
the DEC_ID `id`, 0 for none (R24, R205, R444). -/
def State.closeDefault (s : State) (p : PortId) (id point dflt : Nat) : State :=
  s.post 0xC3 p.val (closedPayload id point 2 dflt s.now)

/-- An ASK outcome of port `p` raises a request on its cluster's decision queue, which S8 delivers in the next beat (R23, R205);
while 64 are outstanding, while events coalesce, or where the request finds no cell, it resolves to its default at once (R24, R442,
R444): the state and the outcome to act on now, if any. -/
def State.ask (s : State) (p : PortId) (point : Nat) (i : Fin 32) (eop : Beat) (obj pdo : Word) : State × Option Nat :=
  let cls : Fin 16 := (s.port p).classIdx
  let r := (s.policy.classes[cls]).rules[i]
  if 64 ≤ s.policy.decisions.length || s.pool.coalescing then (s.closeDefault p 0 point r.dflt, some r.dflt)
  else
    let d : Decision := { id := s.policy.nextId, port := p, point := point, rule := i.val, asked := r, cls := cls, dflt := r.dflt
                          deadline := eop + BitVec.ofNat 48 (min r.deadline.toNat (deadlineCap point)), obj := obj, pdo := pdo }
    let k := mkPacket s.pool .none (decisionPayload d)
    let t := s.modPolicy fun q => { q with nextId := nextDecId q.nextId }
    if t.pool.takes (qDec (clusterOf p)) k then
      ((t.modPolicy fun q => { q with decisions := q.decisions ++ [d] }).modPool fun m => m.push (qDec (clusterOf p)) k, none)
    else
      ((t.modPool fun m => m.refuseFor (qDec (clusterOf p)) k.cells).closeDefault p d.id point r.dflt, some r.dflt)

/-- A lookup's answer turned into an outcome now, or into a request to the host. -/
def State.resolve (s : State) (p : PortId) (point : Nat) (a : Answer) (eop : Beat) (obj pdo : Word) : State × Option Nat :=
  if a.outcome = ocAsk then
    match a.rule with
    | some i => s.ask p point i eop obj pdo
    | none => (s, some ocReject)
  else (s, some a.outcome)

/-- A decision is outstanding for the port. -/
def State.deciding (s : State) (p : PortId) : Bool := s.policy.decisions.any (fun d => d.port == p)

/-! ### Capability changes (R201) -/

/-- `n` offers at least what `o` does: same kind and voltages, no lower current. -/
def objCovers (o n : Word) : Bool :=
  objType o == objType n && objRange10 o == objRange10 n && decide (objCurrent o (objRange o).1 ≤ objCurrent n (objRange n).1)
    && decide (objCurrent o (objRange o).2 ≤ objCurrent n (objRange n).2)

/-- The new objects only raise what was sent (R201): nothing sent is lowered or gone, and something is raised or new. A change of
flags alone raises nothing. -/
def onlyRaises (old new : List Word) : Bool :=
  old.all (fun o => o == 0 || new.any (objCovers o)) && new.any (fun n => n != 0 && !(old.any fun o => objCovers n o))

/-- Without an identity the cable in force is that of CABLE_IMAX and 20 V, also after a new CABLE_IMAX or class (R200). While no partner
is attached PORT.CABLE_CAP shows its reset value (DESIGN CHOICE, log 77: R220 gives 0, R200 CABLE_IMAX and 20 V in every other case). -/
def Port.refreshCable (imax : Byte) (x : Port) : Port :=
  if x.tc.st.attached && x.pd.cable.state != 2 then x.assumeCable imax else x

/-- A capability change of an attached Source port becomes due when it alters the objects built (R201). -/
def Port.capChange (c : Class) (x0 : Port) : Port :=
  let x := x0.refreshCable c.header.cableImax
  if (x.tc.st == .attachedSrc || x.tc.st == .debugAccSrc) && x.pd.powerSource && !x.pd.built.isEmpty then
    let new := buildCaps c x x.pd.contract.eprMode
    if x.pd.capsForce then x
    else if new = x.pd.built then { x with pd := { x.pd with capsDue := false, capsRaise := false } }
    else { x with pd := { x.pd with capsDue := true, capsRaise := onlyRaises x.pd.built new } }
  else x

/-- The change of R201 looked for on every port; the presented Rp follows the grant too (R113). -/
def State.capsChanged (s : State) : State :=
  s.mapPorts fun _ x => (Port.capChange (s.classOf x) x).refreshRp

/-- STAGE_STATUS's current of a source contract, and without one the advertised current of R113, 10 mA units (R290). -/
def Port.iSet (x : Port) : Nat := if x.pd.contract.pos = 0 then rpAmps x.advLevel else x.pd.contract.iOp

end Sys2Proof.Machine
end

