-- ==== Sys2Proof/Machine/Moisture.lean ====
section
/-! DEFINITION. Moisture sweeps, rechecks and leakage checks (R120–R125). -/

namespace Sys2Proof.Machine

/-- WET and DRY in kΩ, CORR_MV in mV (R121). -/
def Port.wetK (x : Port) : Nat := 10 * fld x.cfg.moistCfg 0 8
def Port.dryK (x : Port) : Nat := 10 * fld x.cfg.moistCfg 8 8
def Port.corrMv (x : Port) : Nat := fld x.cfg.moistCfg 16 8
def Port.sweepEn (x : Port) : Bool := bit1 x.cfg.moistCfg 24
def Port.leakEn (x : Port) : Bool := bit1 x.cfg.moistCfg 25

/-- A CC–GND reading of `z` Ω that is a partner's Rd: within 4.50–5.70 kΩ on a line that passes the two-current check (R122). -/
def isRdReading (rd1 rd2 : Bool) (i z : Nat) : Bool :=
  ((i == 5 && rd1) || (i == 6 && rd2)) && decide (4500 ≤ z) && decide (z ≤ 5700)

/-- The reading of an index of R120 in Ω; none where it was skipped (R122). -/
def reading (skipped z : List Nat) (i : Nat) : Option Nat := if skipped.contains i then none else z[i]?

/-- Indices of R120 that read below WET, in kΩ. A verified Rd is the partner's termination and no water (DESIGN CHOICE, log 60). -/
def wetIdx (wet : Nat) (rd1 rd2 : Bool) (skipped z : List Nat) : List Nat :=
  (List.range 7).filter fun i =>
    match reading skipped z i with
    | some v => decide (v < 1000 * wet) && !isRdReading rd1 rd2 i v
    | none => false

/-- Indices 7 and 8 whose offset exceeds CORR_MV in magnitude. -/
def corrIdx (mv : Nat) (skipped : List Nat) (o : List Int) : List Nat :=
  (List.range 2).filterMap fun i => if !skipped.contains (7 + i) && decide (mv < (o.getD i 0).natAbs) then some (7 + i) else none

/-- The dry condition of R122. -/
def dryAll (dry : Nat) (rd1 rd2 : Bool) (skipped z : List Nat) : Bool :=
  (List.range 7).all fun i =>
    match reading skipped z i with
    | some v => decide (1000 * dry < v) || isRdReading rd1 rd2 i v
    | none => decide (3 ≤ i)

/-- What a classified sweep found (R122): the first index that is wet and that is corroded in two sweeps running, dry, and no
reading below WET. -/
structure Verdict where
  wet : Option Nat
  corr : Option Nat
  dry : Bool
  clear : Bool
  deriving DecidableEq, Repr

/-- The classification of a sweep (R122). -/
def Port.judgeSweep (rd1 rd2 : Bool) (z : List Nat) (o : List Int) (x : Port) : Verdict :=
  let k := x.moist.skipped
  let w := wetIdx x.wetK rd1 rd2 k z
  { wet := (w.filter fun i => x.moist.prevWet.contains i).head?
    corr := ((corrIdx x.corrMv k o).filter fun i => x.moist.prevCorr.contains i).head?
    dry := dryAll x.dryK rd1 rd2 k z, clear := w.isEmpty }

/-- Class code of a sweep (R410): 1 dry, 2 between, 3 wet, 4 corroded. Wet comes before corroded (log 27). -/
def Verdict.code (v : Verdict) : Nat := if v.wet.isSome then 3 else if v.corr.isSome then 4 else if v.dry then 1 else 2

/-- A reading as PORT_MOISTURE gives it, in kΩ (R119, R410): 0xFFFF above 2 MΩ, 0xFFFE where it was skipped. -/
def zReport (skipped z : List Nat) (i : Nat) : Nat :=
  match reading skipped z i with
  | some v => if 2000000 < v then 0xFFFF else v / 1000
  | none => 0xFFFE

/-- The record of a sweep that ended. -/
def Moisture.record (m : Moisture) (cls : Nat) (b : Beat) (z : List Nat) (o : List Int) : Moisture :=
  { m with cls := BitVec.ofNat 3 cls, z := Vector.ofFn (fun i => BitVec.ofNat 16 (zReport m.skipped z i.val))
           ofs := Vector.ofFn (fun i => half (o.getD i.val 0)), beat := b }

/-- Payload of MOISTURE (R395). -/
def moistPayload (cls action idx value : Nat) (b : Beat) : List Byte :=
  leBytes 1 cls ++ leBytes 1 action ++ leBytes 1 idx ++ [0] ++ u16 value ++ [0, 0] ++ beatBytes b ++ [0, 0]

/-- The health timer runs RECHECK again (R123). -/
def Port.recheckAgain (x : Port) : Port :=
  { x.arm tHealth .dryRecheck (25000 * fld x.cfg.dryRecheck 0 16) with moist := { x.moist with running := false } }

/-- The class's outcome for a moisture point (R123, R193). -/
def State.moistOutcome (s : State) (p : PortId) (point : Nat) : Nat :=
  ((s.classOf (s.port p)).lookup point (fun _ => true)).outcome

/-- One MOISTURE event for each of wet and corroded (R123). -/
def State.moistEvents (s : State) (p : PortId) (v : Verdict) (skipped z : List Nat) (o : List Int) : State :=
  let t := match v.wet with
    | some i => s.post 0xC6 p.val (moistPayload 3 (s.moistOutcome p ptMoistWet) i (zReport skipped z i) s.now)
    | none => s
  match v.corr with
  | some i => t.post 0xC6 p.val (moistPayload 4 (s.moistOutcome p ptMoistCorr) i (half (o.getD (i - 7) 0)).toNat s.now)
  | none => t

/-- The mute of R125 ends; a P bit that a fault reaction had cleared sets again (R349 step 3). -/
def Port.unmute (svc : Bool) (x : Port) : Port :=
  if x.tc.mute then ({ x with tc := { x.tc with mute := false, pReady := x.tc.pReady || x.tc.pHeld, pHeld := false } }).present svc else x

/-- The end of a recheck of DRY_WAIT (R123): out of it where the sweep is dry, and for a corrosion-triggered entry free of
corrosion. -/
def State.recheckEnd (s : State) (p : PortId) (v : Verdict) (corroded : Bool) : State :=
  let x := s.port p
  if v.dry && (x.moist.why != some .corroded || !corroded) then
    (s.updPort p fun y =>
      let q := y.toRoleState (isService p) s.now (draw s (max 1 y.tDrp))
      Port.unmute (isService p) { q with moist := { q.moist with why := none, rdImplausible := false } }).drawn
  else s.modPort p Port.recheckAgain

/-- What follows a classified sweep (R123, R125): the events, then the stronger of the actions that the class names. -/
def State.afterSweep (s : State) (p : PortId) (v : Verdict) (skipped z : List Nat) (o : List Int) : State :=
  let corroded := !(corrIdx (s.port p).corrMv skipped o).isEmpty
  let wetOc := if v.wet.isSome then s.moistOutcome p ptMoistWet else ocReport
  let corrOc := if v.corr.isSome then s.moistOutcome p ptMoistCorr else ocReport
  let t := s.moistEvents p v skipped z o
  if wetOc = ocLockout ∨ corrOc = ocLockout then t.dropPort p 0x85 8 (Port.toLockout (isService p) s.now s.feedOn)
  else if (s.port p).tc.st = .dryWait then t.recheckEnd p v corroded
  else if wetOc = ocDryWait then t.dropPort p 0 8 (Port.toDryWait (isService p) s.now s.feedOn .wet)
  else if corrOc = ocDryWait then t.dropPort p 0 8 (Port.toDryWait (isService p) s.now s.feedOn .corroded)
  else if v.wet.isNone && (v.dry || v.clear) then t.updPort p (Port.unmute (isService p))
  else t

/-- A sweep of 32 passes has ended (R120). -/
def Port.sweepOver (x : Port) : Bool := x.moist.running && decide (32 ≤ x.moist.pass)

/-- MOISTURE_SWEEP_END (R120, R122): `z` in Ω and `o` in mV, the readings of the sweep's measurements; `rd1` and `rd2` say whether CC1
and CC2 pass the two-current check. A sweep that saw a termination is discarded unclassified; outside DRY_WAIT the next one begins
at once. -/
def execMoistureSweepEnd (p : PortId) (z : List Nat) (o : List Int) (rd1 rd2 : Bool) (s : State) : Host.Outcome State Fault Refusal :=
  .next (let x := s.port p
    if !(s.fw p && x.sweepOver) then s
    else if x.moist.term then
      s.modPort p fun y =>
        let q := { y with moist := (y.moist.record 5 s.now z o).restart }
        if y.tc.st == .dryWait then q.recheckAgain else q
    else
      let v := x.judgeSweep rd1 rd2 z o
      let k := x.moist.skipped
      let t := s.modPort p fun y => { y with
        moist := ({ y.moist.record v.code s.now z o with
          sweeps := satIncr y.moist.sweeps, prevWet := wetIdx y.wetK rd1 rd2 k z, prevCorr := corrIdx y.corrMv k o }).restart
        tc := { y.tc with wet := v.wet.isSome, corroded := v.corr.isSome } }
      t.afterSweep p v k z o)

/-- DRY_RECHECK_EXPIRY (R123): one full sweep starts. -/
def execDryRecheckExpiry (p : PortId) (s : State) : Host.Outcome State Fault Refusal :=
  .next (if s.due p tHealth .dryRecheck && (s.port p).tc.st == .dryWait then
      s.modPort p fun x => { x.disarm tHealth with moist := { x.moist.restart with running := true } }
    else s)

/-- VBUS_LEAK (R124): the last two conversions of an SBU line read 4.0 V or more; raised at the onset. The operands are what those
two conversions read, in mV. -/
def execVbusLeak (p : PortId) (sbu2 : Bool) (mv1 mv2 : Int) (s : State) : Host.Outcome State Fault Refusal :=
  .next (if (s.port p).leakEn && (s.port p).tc.st.pd && (s.port p).moist.leakRun.get (if sbu2 then 1 else 0) == 2
      && decide (4000 ≤ mv1) && decide (4000 ≤ mv2) then
      (s.modPort p fun x => { x with moist := { x.moist with
        leakRun := x.moist.leakRun.set (if sbu2 then 1 else 0) 3 (by split <;> decide) } }).raisePort p 7 (if sbu2 then 3 else 2)
    else s)

end Sys2Proof.Machine
end

