-- ==== Sys2Proof/Machine/Budget.lean ====
section
/-! DEFINITION. The budget service (R315–R323). All values in 0.5 W units. -/

namespace Sys2Proof.Machine

/-- BUDGET of the ready map follows what is held (R73, R315). -/
def State.budgetReady (s : State) : State :=
  if s.budgetHeld then s.setReady 0x00800000#32 else s.clearReady 0x00800000#32

/-- Unscaled floors of all ports and their sum (R318). -/
def State.floors (s : State) : List Nat := s.ports.toList.map fun x => floorOf (s.classOf x) s.budget x
def State.floorTotal (s : State) : Nat := s.floors.sum
def State.wants (s : State) : List Nat := s.ports.toList.map fun x => wantPower (s.classOf x) s.budget x
def State.reserve (s : State) : Nat := fld s.budget.reserve 0 16

/-- B_DEV (R315, R322). -/
def State.bDev (s : State) : Nat := s.budget.hostB.getD (fld s.budget.device 0 16)

/-- The module's budget in force (R315, R337): a member or root without a grant uses its own FLOOR_T. -/
def State.bEff (s : State) : Nat :=
  if s.feed.brownout then s.floorTotal
  else match s.groupGrant with
    | some g => (match s.budget.hostB with | some h => min g h | none => g)
    | none => if s.yarrow.gstate == .member || s.yarrow.gstate == .root then s.floorTotal + s.reserve else s.bDev

/-! ### The division of R320 -/

/-- Σ min(W − F, L). -/
def atLevel (ds : List Nat) (l : Nat) : Nat := (ds.map fun d => min d l).sum

/-- The largest level not above `l` whose total stays within the pool. -/
def levelUnder (ds : List Nat) (pool : Nat) : Nat → Nat
  | 0 => 0
  | l + 1 => if atLevel ds (l + 1) ≤ pool then l + 1 else levelUnder ds pool l

/-- L of R320: the largest W − F where the pool covers every want. -/
def levelOf (ds : List Nat) (pool : Nat) : Nat := levelUnder ds pool (ds.foldl max 0)

/-- The units left over go one each in ascending order to those that want more. -/
def spread : Nat → List (Nat × Nat) → List Nat
  | _, [] => []
  | left, (w, g) :: r => if 0 < left ∧ g < w then (g + 1) :: spread (left - 1) r else g :: spread left r

structure Division where
  grants : List Nat
  floorSum : Nat
  pool : Nat
  level : Nat
  short : Bool
  deriving DecidableEq, Repr

/-- The division of `avail` by floors and wants (R320, and R337 for members). -/
def divide (avail : Nat) (fs ws : List Nat) : Division :=
  let fsum := fs.sum
  let short := decide (avail < fsum)
  let fs' := if short then fs.map fun f => f * avail / max 1 fsum else fs
  let pool := if short then 0 else avail - fsum
  let ds := (ws.zip fs').map fun e => e.1 - e.2
  let l := levelOf ds pool
  let g := (fs'.zip ds).map fun e => e.1 + min e.2 l
  let left := pool - atLevel ds l
  ⟨spread left (ws.zip g), fs'.sum, pool, l, short⟩

/-- Every port's grant set from a list in port order. -/
def State.setGrants (s : State) (gs : List Nat) : State :=
  { s with ports := Vector.ofFn (fun p => { s.ports[p] with grant := gs.getD p.val 0 }) }

/-- One allocation: the grants, their effect on presented Rp and capabilities, BUDGET_SHORT at its onset (R320, R345). With
no budget held every grant is its floor (R315). -/
def State.allocate (s : State) : State :=
  let d := if s.divides then divide (s.bEff - s.reserve) s.floors s.wants
    else ⟨s.floors, s.floorTotal, 0, 0, false⟩
  let t := (s.setGrants d.grants).capsChanged
  let u := t.modBudget fun b => { b with
    prev := ⟨b.short, b.floorSum, b.poolP, b.level, b.beat⟩
    due := false, short := d.short, floorSum := d.floorSum, poolP := d.pool, level := d.level, beat := s.now }
  if d.short && !s.budget.short then u.raise (devRaise 48 0 0) else u

/-- BUDGET_ALLOCATION (R320, R321): in the beat after a trigger; brownout holds it (R316). -/
def execBudgetAllocation (s : State) : Host.Outcome State Fault Refusal :=
  .next (if s.hubRuns && !s.coreStopped 8 && s.budget.due && s.budget.dueAt != s.now && !s.feed.brownout then s.allocate else s)

/-- An allocation is due (R321). -/
def State.wantAllocation (s : State) : State := s.modBudget (Budget.want s.now)

/-- The results of a run of beat `b` are discarded (R321). -/
def Budget.back (now : Beat) (b : Budget) : Budget :=
  if b.beat = now then { b with short := b.prev.short, floorSum := b.prev.floorSum, poolP := b.prev.poolP, level := b.prev.level
                                beat := b.prev.beat } else b

/-- In the beat in which brownout is signalled every grant becomes its floor, and a run of that beat is discarded (R316, R321). -/
def State.brownoutGrants (s : State) : State := ((s.modBudget (Budget.back s.now)).setGrants s.floors).capsChanged

/-- SOURCE of BUDGET_STATUS (R323): a member without a grant shows the host value or the configuration that it holds, or none (DESIGN
CHOICE, log 85: the table has no code for its own FLOOR_T). -/
def State.budgetSource (s : State) : Nat :=
  if s.groupGrant.isSome then (if s.budget.decaying then 4 else 3)
  else if s.budget.hostB.isSome then 2
  else if fld s.budget.device 0 16 != 0 then 1 else 0

/-- BUDGET_STATUS's payload (R323); in brownout the floors are unscaled and no pool is left over them (R316; DEDUCED, log 68). -/
def State.budgetStatusBytes (s : State) : List Byte :=
  leBytes 1 s.budgetSource
    ++ leBytes 1 (bw s.feed.brownout 0 + bw s.budget.short 1 + bw (s.yarrow.gstate == .root) 2
        + bw (match s.groupGrant, s.budget.hostB with | some g, some h => decide (h < g) | _, _ => false) 3)
    ++ [0, 0] ++ u32 s.bEff ++ u32 (if s.feed.brownout || !s.budget.short then s.floorTotal else s.budget.floorSum)
    ++ u32 (if s.feed.brownout then 0 else s.budget.poolP) ++ u32 s.budget.level ++ beatBytes s.budget.beat
    ++ [0, 0] ++ (s.ports.toList.flatMap fun x => u16 x.grant)

end Sys2Proof.Machine
end

