-- ==== Sys2Proof/Machine/Planish.lean ====
section
/-! DEFINITION. The Planish engines: training, application and fallback of coefficient sets, and the trims (R131–R156). -/

namespace Sys2Proof.Machine

/-! ### Coefficient sets (R131, R134) -/

/-- Lowest bit and width of field `i`: PROF, SWING, VTH_R, VTH_F, PHASE. -/
def coefLo (i : Fin 5) : Nat := [0, 4, 6, 12, 18].getD i.val 0
def coefLen (i : Fin 5) : Nat := [4, 2, 6, 6, 4].getD i.val 0
def coefGet (w : Word) (i : Fin 5) : Nat := fld w (coefLo i) (coefLen i)
def coefSet (w : Word) (i : Fin 5) (v : Nat) : Word := setFld w (coefLo i) (coefLen i) v

/-- The permitted range of a field, given the set it belongs to (R134). -/
def coefOk (w : Word) (i : Fin 5) (v : Int) : Bool :=
  match i.val with
  | 0 => decide (0 ≤ v ∧ v ≤ 15)
  | 1 => decide (0 ≤ v ∧ v ≤ 3)
  | 2 => decide (28 ≤ v ∧ v ≤ 56)
  | 3 => decide (10 ≤ v ∧ v ≤ 36 ∧ v + 8 ≤ coefGet w 2)
  | _ => decide (4 ≤ v ∧ v ≤ 12)

/-- A whole set within R134 (R135). -/
def coefSetOk (w : Word) : Bool := (List.finRange 5).all fun i => coefOk w i (coefGet w i)

/-! ### Targets (R139) -/

/-- a ÷ b rounded to nearest, halves up (R139; the direction of a tie is a DESIGN CHOICE, log 61). -/
def roundDiv (a b : Int) : Int := (2 * a + b) / (2 * b)

/-- The target of a field from its estimate; none without a sample of its kind. -/
def coefTarget (d : Dev) (f : Phy) (i : Fin 5) : Option Int :=
  let n : Int := if i.val < 2 then f.txs.length else f.rxs.length
  if n = 0 then none else
  let a : Int := coefGet f.applied i
  match i.val with
  | 0 =>
    let t : Int := ((f.txs.map fun x => x.tR + x.tF).sum : Nat)
    some (if (fld d.txWin 16 9 : Int) * 16 * n < t then a + 1 else if t < (fld d.txWin 0 9 : Int) * 16 * n then a - 1 else a)
  | 1 =>
    let t : Int := (f.txs.map fun x => x.vH - x.vL).sum
    some (if t < (fld d.swWin 0 11 : Int) * n then a + 1 else if (fld d.swWin 16 11 : Int) * n < t then a - 1 else a)
  | 2 => some (roundDiv (4 * (f.rxs.map RxSample.vL).sum + 6 * (f.rxs.map RxSample.vH).sum - 1500 * n) (125 * n))
  | 3 => some (roundDiv (6 * (f.rxs.map RxSample.vL).sum + 4 * (f.rxs.map RxSample.vH).sum - 1500 * n) (125 * n))
  | _ => some (roundDiv (((f.rxs.map RxSample.m).sum : Nat) - 256 * n) (32 * n))

/-- Field `k` places after the one most recently stepped (R140). -/
def fieldAfter (l : Fin 5) (k : Nat) : Fin 5 := ⟨(l.val + 1 + k) % 5, by omega⟩

/-- The field to step: the first, round-robin, whose target differs from its applied value and is permitted (R140). -/
def stepField (d : Dev) (f : Phy) : Option (Fin 5) :=
  ((List.range 5).map (fieldAfter f.lastField)).find? fun i =>
    match coefTarget d f i with
    | some t => t != coefGet f.applied i && coefOk f.applied i t
    | none => false

/-- The shadow set rebuilt from the applied set (R140). -/
def Phy.rebuild (d : Dev) (f : Phy) : Phy :=
  match stepField d f with
  | none => { f with shadow := f.applied }
  | some i =>
    let a := coefGet f.applied i
    let up := match coefTarget d f i with | some t => decide ((a : Int) < t) | none => false
    { f with shadow := coefSet f.applied i (if up then a + 1 else a - 1) }

/-- The first out-of-range field: four samples at least, target outside R134 (R148). -/
def outOfRange (d : Dev) (f : Phy) : Option (Fin 5) :=
  (List.finRange 5).find? fun i =>
    decide (4 ≤ (if i.val < 2 then f.txs.length else f.rxs.length))
      && (match coefTarget d f i with | some t => !coefOk f.applied i t | none => false)

/-- The safe set is due (R148): nothing is due where it is already applied. -/
def Phy.toSafe (f : Phy) : Phy := { f with shadow := f.safe, whole := f.applied != f.safe, eqRun := 0 }

/-- A field is judged out of range (R148): FALLBACK, the safe set due, and the field named. -/
def Phy.rangeCheck (d : Dev) (f : Phy) (within : Phy) : Phy × Option (Fin 5) :=
  match outOfRange d f with
  | some i => ({ f.toSafe with cal := .fallback, outField := some i }, some i)
  | none => (within, none)

/-- After an accepted sample (R140, R141, R148): the new state, and the field that became out of range. While the safe set of a
RETRAIN is still due the shadow set keeps it (DESIGN CHOICE, log 61). -/
def Phy.afterSample (d : Dev) (f : Phy) : Phy × Option (Fin 5) :=
  if f.cal = .fallback then (f, none)
  else
    let g := if f.whole then f else f.rebuild d
    let n := if g.shadow = g.applied then f.eqRun + 1 else 0
    f.rangeCheck d { g with eqRun := n, cal := if 16 ≤ n then .converged else g.cal }

/-- What becomes of a window's sample (R137): accepted, discarded and counted, or no sample at all. -/
inductive Verdict137 where
  | accepted | discarded | noSample
  deriving DecidableEq, Repr

/-- R137: a TX sample of a packet sent to EOP without overlap; an RX sample of an SOP packet whose CRC verifies. -/
def judgeSample : TrainObs → Verdict137
  | .tx whole overlapped _ _ _ _ => if whole && !overlapped then .accepted else .discarded
  | .rx sop wellFormed crcOk _ _ _ _ => if !wellFormed then .discarded else if sop && crcOk then .accepted else .noSample

/-- An accepted sample (R136, R139, R151). -/
def Phy.accept (f : Phy) (o : TrainObs) : Phy :=
  match o with
  | .tx _ _ tR tF vH vL => { f with txs := (⟨tR, tF, vH, vL⟩ :: f.txs).take 4, txN := satIncr f.txN, lastTx := some ⟨tR, tF, vH, vL⟩ }
  | .rx _ _ _ vH vL m ui => { f with rxs := (⟨vH, vL, m, ui⟩ :: f.rxs).take 4, rxN := satIncr f.rxN, lastRx := some ⟨vH, vL, m, ui⟩ }

/-- A discarded sample counts (R137). -/
def Phy.discard (f : Phy) : Phy := { f with discarded := satIncr f.discarded }

/-- The engine takes samples of the port (R137, R149). -/
def Phy.trains (f : Phy) : Bool := f.cal != .off && f.trainEn

/-- The window of the port that holds the sampler is lost with its packet: an abort before EOP, a collision, a malformed packet
(R137). -/
def State.discardWindow (s : State) (p : PortId) : State :=
  if (s.cluster (clusterOf p)).sampler != some p then s
  else
    let t := s.modCluster (clusterOf p) fun c => { c with sampler := none }
    if (s.port p).phy.trains then t.modPort p fun x => { x with phy := x.phy.discard } else t

/-- The claim of the cluster's sampler for port `p` (R138): a lower-numbered port keeps it; a higher-numbered one loses its
window. -/
def State.claimSampler (s : State) (p : PortId) : State :=
  if (s.port p).phy.cal = .off || !(s.port p).phy.trainEn then s else
  let miss (t : State) (q : PortId) : State := t.modPort q fun x => { x with phy := { x.phy with missed := satIncr x.phy.missed } }
  let take (t : State) : State := t.modCluster (clusterOf p) fun c => { c with sampler := some p }
  match (s.cluster (clusterOf p)).sampler with
  | none => take s
  | some q => if q.val < p.val then miss s p else if p.val < q.val then take (miss s q) else s

/-- The new calibration state of a port, and CAL_RANGE where a field became out of range (R148). -/
def State.takePhy (s : State) (p : PortId) (r : Phy × Option (Fin 5)) : State :=
  let t := s.modPort p fun x => { x with phy := r.1 }
  match r.2 with
  | some i => t.raisePort p 19 i.val
  | none => t

/-- TRAINING_SAMPLE (R137–R141, R148): the window of the port that holds the sampler ends, and its sample is judged. -/
def execTrainingSample (p : PortId) (o : TrainObs) (s : State) : Host.Outcome State Fault Refusal :=
  .next (if (s.cluster (clusterOf p)).sampler != some p then s else
    let t := s.modCluster (clusterOf p) fun c => { c with sampler := none }
    let f := (s.port p).phy
    if !f.trains then t
    else match judgeSample o with
      | .accepted => t.takePhy p ((f.accept o).afterSample s.dev)
      | .discarded => t.modPort p fun x => { x with phy := f.discard }
      | .noSample => t)

/-- HOLD of PORT.PHY_CFG (R149). -/
def Port.phyHold (x : Port) : Bool := bit1 x.cfg.phyCfg 1

/-- Conditions 2 and 3 of R142: no message in its attempts, no GoodCRC awaited or owed. -/
def Port.phyQuiet (x : Port) : Bool :=
  x.pd.owed.isNone && (match x.pd.flight with | some f => f.attempts == 0 && !f.onWire | none => true)

/-- The application (R143, R144): one field by one code, or the whole safe set; the targets move with the applied set, and a field
may become out of range by that (R148). -/
def Phy.apply (d : Dev) (b : Beat) (f : Phy) : Phy × Option (Fin 5) :=
  let i := ((List.finRange 5).find? fun i => coefGet f.applied i != coefGet f.shadow i).getD f.lastField
  let g : Phy := { f with applied := f.shadow, steps := satIncr f.steps, lastApply := b, whole := false
                          lastField := if f.whole then f.lastField else i
                          cal := if f.cal = .fallback then .fallback else if f.whole then .safe else .training }
  if g.cal = .fallback then (g, none) else g.rangeCheck d (g.rebuild d)

/-- SHADOW_APPLY (R142, R148): `idle` is the number of slots since the last transition. -/
def execShadowApply (p : PortId) (idle : Nat) (s : State) : Host.Outcome State Fault Refusal :=
  .next (let x := s.port p
    if decide (100 ≤ idle) && x.phyQuiet && x.phy.cal != .off && x.phy.shadow != x.phy.applied && (!x.phyHold || x.phy.whole) then
      s.takePhy p (x.phy.apply s.dev s.now)
    else s)

/-- RETRAIN (R149): estimates cleared, the safe set due; the state is SAFE once it is applied. Out of FALLBACK the state until then is
TRAINING (DESIGN CHOICE, log 61). -/
def Phy.retrain (f : Phy) : Phy :=
  if f.cal = .off then f
  else { f.toSafe with txs := [], rxs := [], cal := if f.applied = f.safe then .safe else if f.cal = .fallback then .training else f.cal }

/-- State shown by PORT_CAL_STATUS (R141): FALLBACK shows through HOLD (DESIGN CHOICE, log 61). -/
def Port.calCode (x : Port) : Nat :=
  match x.phy.cal with
  | .off => 0
  | .fallback => 5
  | c => if x.phyHold then 4 else match c with | .safe => 1 | .training => 2 | _ => 3

/-- The ADC that serves a port (R15). -/
def adcOf (p : PortId) : Fin 2 := if localIdx p < 6 then 0 else 1

/-- PORT_CAL_STATUS's payload (R151). -/
def calStatusBytes (k : Cluster) (p : PortId) (x : Port) : List Byte :=
  let f := x.phy
  leBytes 1 x.calCode ++ leBytes 1 (bw f.gsnClamp 0 + bw f.outField.isSome 1 + (match f.outField with | some i => i.val * 4 | none => 0))
    ++ [0, 0] ++ wordBytes f.applied ++ wordBytes f.shadow ++ wordBytes f.safe ++ u16 f.txN.toNat ++ u16 f.rxN.toNat ++ u16 f.missed.toNat
    ++ u16 f.discarded.toNat ++ u16 f.steps.toNat ++ [0, 0]
    ++ (match f.lastTx with | some t => u16 t.tR ++ u16 t.tF | none => zeros 4)
    ++ (match f.lastRx with
        | some r => u16 (half r.vH).toNat ++ u16 (half r.vL).toNat ++ u16 r.m ++ u16 r.ui
        | none => zeros 8)
    ++ beatBytes f.lastApply ++ [0, 0]
    ++ u32 ((BitVec.ofInt 8 (k.adc[adcOf p]).trim).toNat + bw (k.adc[adcOf p]).stale 8)

/-! ### Trims (R152–R156) -/

/-- The port's front end is powered (R26, R82). -/
def State.portPowered (s : State) (p : PortId) : Bool := s.hubRuns && (s.board.mainOn || isService p)

/-- The ADC's supply is on: in service-domain operation ADC 0 alone (R154). -/
def State.adcPowered (s : State) (c : ClusterId) (second : Bool) : Bool :=
  s.hubRuns && (s.board.mainOn || (c.val == 0 && !second))

/-- The initial trim has covered the port (R152): of C0 trimmed in service-domain operation, P0–P3 alone (R154). -/
def State.portTrimmed (s : State) (p : PortId) : Bool :=
  (s.cluster (clusterOf p)).trimmed && ((s.cluster (clusterOf p)).trimPart == .whole || isService p)

/-- A trimmed, enabled port in DISABLED starts its calibration (R72). -/
def State.startEnabled (s : State) (p : PortId) : State :=
  if s.portPowered p && s.portTrimmed p && (s.port p).enabled && (s.port p).tc.st == .disabled && (s.port p).tc.trimFail.isNone && !s.faults.hold then
    s.updPort p (Port.startCal (isService p) s.now)
  else s

def Cluster.modAdc (k : Cluster) (second : Bool) (f : Adc → Adc) : Cluster :=
  { k with adc := k.adc.set (if second then 1 else 0) (f (k.adc.get (if second then 1 else 0))) (by split <;> decide) }

def Cluster.adcAt (k : Cluster) (second : Bool) : Adc := k.adc.get (if second then 1 else 0)

/-- The cluster's die hears the hub, which has its reference (R13, R30): a trim can run. -/
def State.clusterLinked (s : State) (c : ClusterId) : Bool :=
  s.hubRuns && (s.board.mainOn || c.val == 0) && s.board.afeLink[dieOf c] && !s.board.holdover

/-- The part of a cluster's trim under way is begun in beat `b`; with `start` the enabled ports it covers start after it (R72, R152). -/
def Cluster.beginTrim (part : TrimPart) (start : Bool) (b : Beat) (k : Cluster) : Cluster :=
  { k with trimming := true, trimPart := part, trimStart := start, trimBeat := b }

/-- A trim under way is given up: P0–P3 and ADC 0 of C0 keep theirs (R13, R30, R154). -/
def Cluster.abandonTrim (k : Cluster) : Cluster :=
  { k with trimming := false, trimPart := if k.trimPart == .join then .service else k.trimPart }

/-- P4–P11 and ADC 1 of C0, not yet trimmed, are trimmed once the main domain has joined (R154). -/
def State.joinTrim (s : State) (start : Bool) : State :=
  let k := s.cluster 0
  if s.board.mainOn && s.clusterLinked 0 && k.trimmed && !k.trimming && k.trimPart == .service then
    s.modCluster 0 (Cluster.beginTrim .join start s.now)
  else s

/-- Ports and ADCs that a trim of a cluster covers (R152, R154). -/
def TrimPart.covers (t : TrimPart) (p : PortId) : Bool :=
  match t with
  | .whole => true
  | .service => isService p
  | .join => !isService p
def TrimPart.coversAdc (t : TrimPart) (second : Bool) : Bool :=
  match t with
  | .whole => true
  | .service => !second
  | .join => second

/-- The offset-trim code that cancels the mean of zero conversions in 0.01 LSB: codes of 0.25 LSB (R152, R155). -/
def trimCode (zeros : List Int) : Int := roundDiv (-zeros.sum) (25 * (max 1 zeros.length : Nat))

/-- An ADC after its initial trim (R152, R156): the code within ±127. -/
def Adc.trimmedTo (b : Beat) (zeros : List Int) (a : Adc) : Adc :=
  let n := clampInt (-127) 127 (trimCode zeros)
  { a with trim := n, trimNext := n, zeros := [], stale := false, lastZero := b, atEnd := decide (127 ≤ n.natAbs) }

/-- The offset cannot be brought within the range of the trim (R153). -/
def trimBad (zeros : List Int) : Bool := decide (127 < (trimCode zeros).natAbs)

/-- ADC_CHECK of an ADC whose condition has come (R153, R156). -/
def adcRaise (c : ClusterId) (second : Bool) (old new : Adc) : List Raise :=
  if (new.atEnd || new.refBad) && !(old.atEnd || old.refBad) then [devRaise (8 + c.val) (if second then 1 else 0) 0] else []

/-- CLUSTER_TRIM_COMPLETE (R152–R154, R72): the trim has run for 1,250 beats. `zeros0` and `zeros1` are the zero conversions of
ADC 0 and ADC 1. -/
def execClusterTrimComplete (c : ClusterId) (badRp badRd : List PortId) (zeros0 zeros1 : List Int) (s : State) :
    Host.Outcome State Fault Refusal :=
  .next (if (s.cluster c).trimming && s.clusterLinked c && decide (1250 ≤ Beat.since s.now (s.cluster c).trimBeat) then
      let k := s.cluster c
      let part := k.trimPart
      let bad0 := part.coversAdc false && trimBad zeros0
      let bad1 := part.coversAdc true && trimBad zeros1
      let k0 := if part.coversAdc false then k.modAdc false (Adc.trimmedTo s.now zeros0) else k
      let k1 := if part.coversAdc true then k0.modAdc true (Adc.trimmedTo s.now zeros1) else k0
      let t := s.modCluster c fun _ => k1.abandonTrim
      let ports := ((List.finRange 12).map (portOf c)).filter fun p => part.covers p && (s.port p).tc.st == .disabled
      let rp := ports.filter fun p => badRp.contains p
      let rd := ports.filter fun p => badRd.contains p && !badRp.contains p
      let u := (rp.foldl (fun (t : State) p => t.modPort p fun x => { x with tc := { x.tc with trimFail := some false } }) t)
      let v := (rd.foldl (fun (t : State) p => t.modPort p fun x => { x with tc := { x.tc with trimFail := some true } }) u)
      let w := v.raiseAll ((rp.map fun p => portRaise p 18 0) ++ (rd.map fun p => portRaise p 18 1)
        ++ adcRaise c false (k.adcAt false) (k1.adcAt false) ++ adcRaise c true (k.adcAt true) (k1.adcAt true))
      if bad0 || bad1 then w
      else
        let z := (w.modCluster c fun k => { k with trimmed := true, trimPart := if part == .service then .service else .whole }).setReady
          (BitVec.ofNat 32 (2 ^ (12 + c.val)))
        (if k.trimStart then ports.foldl (fun (t : State) p => t.startEnabled p) z else z).joinTrim k.trimStart
    else s)

/-- Conversions of an ADC's idle positions (R155): zero conversions in 0.01 LSB, and conversions of the 1.2000 V reference in 0.1 mV
corrected for offset, judged against 0.5 % (R156); the counter of positions moves by one for each. -/
def Adc.idles (b : Beat) (zeros refs : List Int) (a : Adc) : Adc :=
  { a with
    odd := a.odd ^^ decide ((zeros.length + refs.length) % 2 = 1)
    zeros := (a.zeros ++ zeros).take 16
    lastZero := if zeros.isEmpty then a.lastZero else b
    refRun := refs.foldl (fun n v => if 60 < (v - 12000).natAbs then min 4 (n + 1) else 0) a.refRun }

/-- An idle position of an ADC (R155): even-numbered, a zero conversion; odd-numbered, the reference. -/
def Adc.idlePosition (b : Beat) (v : Int) (a : Adc) : Adc :=
  if a.odd then a.idles b [] [v] else a.idles b [v] []

/-- The trim after 16 zero conversions in 0.01 LSB (R155): one code toward zero where the mean lies outside ±0.5 LSB. -/
def trimStep (t : Int) (zeros : List Int) : Int :=
  let sum := zeros.sum
  let n : Int := zeros.length
  if 50 * n < sum then max (-127) (t - 1) else if sum < -50 * n then min 127 (t + 1) else t

/-- What the engine makes of the idle conversions so far (R155, R156): after 16 zero conversions the next trim, from the next slot 0
on, and the verdict on the reference. -/
def Adc.update (a : Adc) : Adc :=
  let b := { a with refBad := decide (4 ≤ a.refRun) }
  if a.zeros.length < 16 then b
  else { b with trimNext := trimStep a.trim a.zeros, zeros := [], stale := false, atEnd := decide (127 ≤ (trimStep a.trim a.zeros).natAbs) }

/-- ADC_TRIM_UPDATE (R155, R156), with the conversions of the ADC's idle positions that no other command has brought. -/
def execAdcTrimUpdate (c : ClusterId) (second : Bool) (zeros refs : List Int) (s : State) : Host.Outcome State Fault Refusal :=
  .next (if s.adcPowered c second then
      let a := (s.cluster c).adcAt second
      let a' := (a.idles s.now zeros refs).update
      let t := s.modCluster c fun k => k.modAdc second fun _ => a'
      (if (adcRaise c second a a').isEmpty then t else t.raiseAll (adcRaise c second a a'))
    else s)

/-- ADC_STALE (R156). -/
def execAdcStale (c : ClusterId) (second : Bool) (s : State) : Host.Outcome State Fault Refusal :=
  .next (if s.adcPowered c second && decide (250000 ≤ Beat.since s.now ((s.cluster c).adcAt second).lastZero) then
      s.modCluster c fun k => k.modAdc second fun a => { a with stale := true }
    else s)

end Sys2Proof.Machine
end

