-- ==== Sys2Proof/Machine/Phy.lean ====
section
/-! DEFINITION. The protocol layer: messages, the TX and RX message queues, atomic message sequences and chunking
(R157–R175). Message codes and header fields are the standard's (PRESUMED, log 21). -/

namespace Sys2Proof.Machine

/-! ### Messages -/

/-- A control message and a data message as firmware queues them: the header fields the PHY does not fill, then data. -/
def ctlMsg (m : Nat) : List Byte := u16 m
def datMsg (m : Nat) (ws : List Word) : List Byte := u16 (m + 4096 * ws.length) ++ ws.flatMap wordBytes

def hType (h : Half) : Nat := h.toNat % 32
def hObjs (h : Half) : Nat := h.toNat / 4096 % 8
def hExt (h : Half) : Bool := h.getLsbD 15
def hRev (h : Half) : Nat := h.toNat / 64 % 4
def hId (h : Half) : BitVec 3 := BitVec.ofNat 3 (h.toNat / 512)

/-- Chunk `n` of an extended message: header, extended header with Chunked set, up to 26 bytes (R174). -/
def chunkMsg (type size n : Nat) (request : Bool) (piece : List Byte) : List Byte :=
  let body := u16 (size % 512 + bw request 10 + n % 16 * 2048 + 32768) ++ piece
  let padded := padTo4 body
  u16 (type % 32 + padded.length / 4 % 8 * 4096 + 32768) ++ padded

/-- A received message as firmware takes it from the RX queue (R161). -/
structure RxMsg where
  tgt : Tgt
  epoch : BitVec 4
  eop : Beat
  header : Half
  ext : Half
  body : List Byte
  deriving DecidableEq, Repr

def RxMsg.type (m : RxMsg) : Nat := hType m.header
def RxMsg.objs (m : RxMsg) : Nat := hObjs m.header
def RxMsg.word (m : RxMsg) (i : Nat) : Word := rdWord m.body (4 * i)
def RxMsg.words (m : RxMsg) : List Word := (List.range m.objs).map m.word
def RxMsg.isExt (m : RxMsg) : Bool := hExt m.header

def msgOf (k : Packet) : Option RxMsg :=
  match k.carried with
  | .rx _ t e b =>
    let h := BitVec.ofNat 16 (rdNat k.data 0 2)
    if hExt h then some ⟨t, e, b, h, BitVec.ofNat 16 (rdNat k.data 2 2), k.data.drop 4⟩ else some ⟨t, e, b, h, 0, k.data.drop 2⟩
  | _ => none

/-! ### The message queues (R160, R163, R423) -/

def carriesTx (p : PortId) (k : Packet) : Bool := match k.carried with | .tx q _ _ => q == p | _ => false
def carriesRx (p : PortId) (k : Packet) : Bool := match k.carried with | .rx q _ _ _ => q == p | _ => false

def dropFirst (f : Packet → Bool) : List Packet → List Packet
  | [] => []
  | k :: ks => if f k then ks else k :: dropFirst f ks

/-- PD-reserve cells a port holds over both its queues (R423). -/
def Pool.portRes (m : Pool) (p : PortId) : Nat :=
  (((m.queues[(qRx (clusterOf p))]).closed.filter (carriesRx p)).map Packet.res).sum
    + (((m.queues[(qTx (clusterOf p))]).closed.filter (carriesTx p)).map Packet.res).sum

/-- A push into a message queue: general cells first, then up to five reserve cells of the port (R423, R444); none
while another producer's packet is open there (R427). -/
def Pool.pushPd (m : Pool) (q : QueueId) (p : PortId) (k : Packet) : Option Pool :=
  let r := k.cells - min k.cells (m.free - m.heldAll)
  if (m.queues[q]).quarantine || (m.queues[q]).opened.isSome || decide ((m.queues[q]).limit < (m.queues[q]).counted + k.cells) then none
  else if r = 0 then some ((m.append q k).watch m.free)
  else if r ≤ m.resFree ∧ m.portRes p + r ≤ 5 then some { (m.append q { k with res := r }).watch m.free with exhDue := true }
  else none

/-- The PHY takes the port's next message (R163). -/
def State.loadFlight (s : State) (p : PortId) : State :=
  if (s.port p).pd.flight.isSome then s else
  match (s.pool.queues[(qTx (clusterOf p))]).closed.find? (carriesTx p) with
  | some k =>
    (match k.carried with
     | .tx _ t why => s.modPort p fun x => { x with pd := { x.pd with flight := some ⟨t, k, why, 0, false, s.now, s.now⟩ } }
     | _ => s)
  | none => s

/-- A message is queued (R163): with VCONN_OK 0 one for a plug ends at once as TX_RESET; one refused a cell is tried again
in a later beat (R444). -/
def State.queueTx (s : State) (p : PortId) (t : Tgt) (why : Purpose) (bytes : List Byte) : State :=
  if t != .sop && !((s.port p).ctxOf t).vconnOk then
    s.modPort p fun x => { x with pd := { x.pd with lastTx := some .reset } }
  else
    let k := mkPacket s.pool (.tx p t why) bytes
    match s.pool.pushPd (qTx (clusterOf p)) p k with
    | some m => ({ s with pool := m }).loadFlight p
    | none => (s.modPool fun m => if (m.queues[(qTx (clusterOf p))]).opened.isSome then m else m.refuseFor (qTx (clusterOf p)) k.cells).modPort p
        fun x => { x with pd := { x.pd with held := x.pd.held ++ [k] } }

/-- Messages that were refused a cell are tried again (R444); one refused again sets the flag of R415 (R436). -/
def State.retryHeld (s : State) (p : PortId) : State :=
  match (s.port p).pd.held with
  | [] => s
  | k :: ks =>
    match s.pool.pushPd (qTx (clusterOf p)) p k with
    | some m => (({ s with pool := m }).modPort p fun x => { x with pd := { x.pd with held := ks } }).loadFlight p
    | none => if (s.pool.queues[(qTx (clusterOf p))]).opened.isSome then s else s.modPool fun m => m.refuse (qTx (clusterOf p))

/-- TX_ID advances when a message whose first attempt started ends (R164). -/
def Ctx.sent (c : Ctx) : Ctx := { c with txId := c.txId + 1 }

/-- The message in flight ends (R164, R167, R434). -/
def State.txEnd (s : State) (p : PortId) (r : TxResult) : State :=
  match (s.port p).pd.flight with
  | none => s
  | some f =>
    let t := s.modPool fun m => m.modQ (qTx (clusterOf p)) fun q => { q with closed := dropFirst (carriesTx p) q.closed }
    (t.modPort p fun x =>
      let y := if 0 < f.attempts then x.modCtx f.tgt Ctx.sent else x
      let z := if r == .fail then y.modCtx f.tgt (fun c => { c with txFails := satIncr c.txFails }) else y
      { z with pd := { z.pd with flight := none, first := false, lastTx := some r } }).loadFlight p

/-- What waits or is in flight on the targets `only`. -/
def State.txPending (s : State) (p : PortId) (only : Tgt → Bool) : List (Tgt × Purpose) :=
  (((s.pool.queues[(qTx (clusterOf p))]).closed ++ (s.port p).pd.held).filterMap fun k => match k.carried with
    | .tx q t why => if q == p && only t then some (t, why) else none
    | _ => none)

/-- Every message of the port on the targets `only` ends with `r` (R165, R181). -/
def State.killTx (s : State) (p : PortId) (only : Tgt → Bool) (r : TxResult) : State :=
  let s1 := match (s.port p).pd.flight with
    | some f =>
      if only f.tgt then s.modPort p fun x =>
        let y := if 0 < f.attempts then x.modCtx f.tgt Ctx.sent else x
        { y with pd := { y.pd with flight := none, first := false, lastTx := some r } }
      else s
    | none => s
  let s2 := s1.modPool fun m => m.purgeTx p only
  (s2.modPort p fun x => { x with pd := { x.pd with held := x.pd.held.filter fun k => match k.carried with
      | .tx _ t _ => !only t
      | _ => true } }).loadFlight p

/-- A received message that firmware acts on: sound and of the context's present EPOCH (R25, R161, R488). -/
def State.rxFresh (s : State) (p : PortId) (k : Packet) : Bool :=
  match msgOf k with
  | some m => !k.bad && m.epoch == ((s.port p).ctxOf m.tgt).epoch && decide (Beat.since s.now m.eop ≤ 2500)
  | none => false

/-- Packets leave a queue, of which `ks` stay: a head that is being popped goes with its pops (R434). -/
def Queue.keep (ks : List Packet) (x : Queue) : Queue :=
  if ks.head? == x.closed.head? then { x with closed := ks } else { x with closed := ks, popped := 0, wordErr := false }

/-- The port's received messages on which its firmware does not act: stale, or unsound. -/
def State.rxStale (s : State) (p : PortId) (k : Packet) : Bool := carriesRx p k && !s.rxFresh p k

/-- The firmware of the port drops them (R25, R161): the unsound ones report what their reading found (R437–R439). -/
def State.dropStale (s : State) (p : PortId) : State :=
  let x := s.pool.queues[(qRx (clusterOf p))]
  if !s.fw p || x.quarantine then s
  else (x.closed.filter (s.rxStale p)).foldl (fun (t : State) k => t.found (qRx (clusterOf p)) k.flaw)
    (s.modPool fun m => m.modQ (qRx (clusterOf p)) fun y => y.keep (y.closed.filter fun k => !s.rxStale p k))

/-- The first received message of the port that its cluster's core can take: none while the core is stopped (R19), or while the queue
is quarantined. -/
def State.rxHead (s : State) (p : PortId) : Option RxMsg :=
  if !s.fw p || (s.pool.queues[(qRx (clusterOf p))]).quarantine then none
  else ((s.pool.queues[(qRx (clusterOf p))]).closed.find? fun k => carriesRx p k && s.rxFresh p k).bind msgOf

/-- The port's first message leaves the queue and is the last one delivered on its context (R412). -/
def State.rxTake (s : State) (p : PortId) (m : RxMsg) : State :=
  (s.modPool fun k => k.modQ (qRx (clusterOf p)) fun q => q.keep (dropFirst (fun k => carriesRx p k && s.rxFresh p k) q.closed)).modPort p
    fun x => if m.isExt then x else x.modCtx m.tgt fun c => { c with last := some ⟨m.epoch, m.header, m.ext, m.body⟩ }

/-! ### Revision (R172) -/

def revOf (h : Half) : BitVec 2 := if hRev h ≤ 1 then 1 else 2

/-- REV settles once; N_RETRY is 3 at Revision 2.0 (R172). -/
def Ctx.settle (c : Ctx) (r : BitVec 2) : Ctx := if c.rev = 0 then { c with rev := r, nRetry := if r = 1 then 3 else 2 } else c

/-- REV of the SOP context settles; the cable contexts are held to it. -/
def Port.settleSop (r : BitVec 2) (x : Port) : Port :=
  let y := x.modCtx .sop fun c => c.settle r
  let lim : Ctx → Ctx := fun c => if c.rev = 2 ∧ (y.ctxOf .sop).rev = 1 then { c with rev := 1, nRetry := 3 } else c
  ((y.modCtx .sop1 lim).modCtx .sop2 lim).refreshRp

/-- A cable context takes its plug's revision, no higher than the SOP context's. -/
def Port.settlePlug (t : Tgt) (r : BitVec 2) (x : Port) : Port :=
  x.modCtx t fun c => c.settle (if (x.ctxOf .sop).rev = 1 then 1 else r)

def Port.rev (x : Port) : BitVec 2 := (x.ctxOf .sop).rev

/-! ### Atomic message sequences (R169–R171) -/

/-- tSenderResponse and the other intervals of R184. -/
def Port.tSender (x : Port) : Nat := ms (fld x.cfg.pdTmr0 0 8)
def Port.tSrcCap (x : Port) : Nat := ms (fld x.cfg.pdTmr0 8 8)
def Port.tSrcTrans (x : Port) : Nat := ms (fld x.cfg.pdTmr0 16 8)
def Port.tSinkTx (x : Port) : Nat := ms (fld x.cfg.pdTmr0 24 8)
def Port.tPsTrans (x : Port) : Nat := if x.pd.contract.eprMode then ms (fld x.cfg.pdTmr1 10 11) else ms (fld x.cfg.pdTmr1 0 10)

/-- A swap sequence or a voltage transition runs, from the Accept that opens it (R228, R187, R413). -/
def Port.inPower (x : Port) : Bool := x.pd.accAck || x.pd.swap.isSome || (match x.pd.trans with | some t => t.accepted | none => false)

/-- An AMS is open on SOP, or about to open (R201, R223). -/
def State.amsOpen (s : State) (p : PortId) : Bool :=
  let d := (s.port p).pd
  d.ownAms || d.partnerAms || d.start.isSome || d.recov.isSome || d.hrOrder.isSome || d.accAck || d.await != .none
    || (s.port p).inPower || (s.rxHead p).isSome || d.flight.isSome || decide (0 < d.eprStep)

/-- Firmware may open an AMS of the port's own: PD state, none open, no decision outstanding. -/
def State.free (s : State) (p : PortId) : Bool := s.fw p && (s.port p).tc.st.pd && !s.amsOpen p && !s.deciding p

/-- The active line shows Rp at 3.0 A in this beat (R170). -/
def Port.sinkTxOk (x : Port) : Bool := (if x.tc.orient then x.tc.cc2 else x.tc.cc1) == .rp3A0

/-- The port's own AMS ends: back to SinkTxOK in the same beat, but for a Source whose next AMS waits already (R169). -/
def Port.endOwn (x : Port) : Port :=
  ({ x with pd := { x.pd with ownAms := false, await := .none, first := false
                              sinkNg := x.pd.sinkNg && x.pd.powerSource && x.pd.start.isSome } }).refreshRp

/-- An interval takes CAPS. tSinkTx alone displaces another one, tTypeCSendSourceCap or the swap back-off, which goes on from its end
stamp when CAPS is free again (R182, DESIGN CHOICE, log 87). -/
def Port.armSinkTx (b : Beat) (x : Port) : Port :=
  let t := x.timers[tCaps]
  let y := x.arm tCaps .sinkTx x.tSinkTx
  if x.use tCaps == .sendSourceCap then
    { y with pd := { y.pd with capsWait := some (.sendSourceCap, b + BitVec.ofNat 48 (if t.prescale then 256 * t.count.toNat else t.count.toNat)) } }
  else y

/-- An answer within an AMS, the partner's unless the port's own is open. -/
def State.reply (s : State) (p : PortId) (why : Purpose) (bytes : List Byte) : State :=
  (s.modPort p fun x => { x with pd := { x.pd with partnerAms := x.pd.partnerAms || !x.pd.ownAms } }).queueTx p .sop why bytes

/-- An extended message goes out in chunks, chunk 0 first (R174). -/
def State.sendExt (s : State) (p : PortId) (t : Tgt) (why : Purpose) (type : Nat) (data : List Byte) : State :=
  (s.modPort p fun x => x.modCtx t fun c => { c with chunking := true, chunkNum := 0
                                                     asm := some ⟨true, BitVec.ofNat 16 type, data.length, data, 1, why⟩ }).queueTx p t
    .chunk (chunkMsg type data.length 0 false (data.take 26))

/-- The capabilities last sent to the partner: not those of a message that is queued and has not started (R202). -/
def Port.lastCaps (x : Port) : List Word := x.pd.unsent.getD x.pd.sentCaps

/-- The queued capabilities have gone out, or have ended unsent. -/
def Pd.capsOut (d : Pd) : Pd := { d with unsent := none }
def Pd.capsBack (d : Pd) : Pd := { d with sentCaps := d.unsent.getD d.sentCaps, unsent := none }

/-- Capabilities are built from the values in force and queued (R198, R201). -/
def State.sendCaps (s : State) (p : PortId) : State :=
  let x := s.port p
  let objs := buildCaps (s.classOf x) x x.pd.contract.eprMode
  let s1 := s.modPort p fun x => { x with pd := { x.pd with
    unsent := some (x.pd.unsent.getD x.pd.sentCaps), sentCaps := objs, built := objs
    capsDue := false, capsRaise := false, capsForce := false, capsBeat := s.now } }
  if x.pd.contract.eprMode then s1.sendExt p .sop .sourceCaps 17 (objs.flatMap wordBytes) else s1.queueTx p .sop .sourceCaps (datMsg 1 objs)

/-- The first message of the port's own AMS is queued. -/
def State.launch (s : State) (p : PortId) : State :=
  match (s.port p).pd.start with
  | none => s
  | some (t, why, bytes) =>
    let s1 := s.modPort p fun x => { x with pd := { x.pd with start := none, ownAms := true, first := true } }
    match why with
    | .sourceCaps => s1.sendCaps p
    | .swapRequest =>
      (s1.modPort p fun x => { x with pd := { x.pd with
        swapReq := x.pd.swapReq.map fun r => { r with sent := true, attempts := r.attempts + 1 } } }).queueTx p t why bytes
    | .chunk => s1.sendExt p t .hostSend (rdNat bytes 0 2 % 32) (bytes.drop 2)
    | _ => s1.queueTx p t why bytes

/-- The port opens an AMS (R169–R171): a Source at REV 2 goes to SinkTxNG and waits tSinkTx, a Sink at REV 2 needs
SinkTxOK, and at REV 0 or 1 nothing is awaited. -/
def State.beginAms (s : State) (p : PortId) (t : Tgt) (why : Purpose) (bytes : List Byte) : State :=
  let s1 := s.modPort p fun x => { x with pd := { x.pd with start := some (t, why, bytes) } }
  if (s.port p).rev = 2 then
    if (s.port p).pd.powerSource then
      s1.modPort p fun x => (({ x with pd := { x.pd with sinkNg := true } }).refreshRp).armSinkTx s.now
    else if (s.port p).sinkTxOk then s1.launch p else s1
  else s1.launch p

/-- CAPS is free again: an interval that another had displaced goes on, and after it a swap back-off (R182, R226). -/
def Port.freeCaps (b : Beat) (x : Port) : Port :=
  let y := x.disarm tCaps
  let left (u : Beat) : Nat := if u.later b then Beat.since u b else 1
  match x.pd.capsWait, x.pd.backUntil with
  | some (k, u), _ => { y.arm tCaps k (left u) with pd := { y.pd with capsWait := none } }
  | none, some u => y.arm tCaps .swapBackoff (left u)
  | none, none => y

/-- The wait of tSinkTx is over. -/
def Port.endSinkTx (b : Beat) (x : Port) : Port := if x.use tCaps == .sinkTx then x.freeCaps b else x

/-- Discovery goes on while no identity is held, VCONN_OK is 1 and attempts are left (R241). -/
def Port.discoverAgain (x : Port) : Port :=
  if x.pd.cable.state != 2 && (x.ctxOf .sop1).vconnOk && decide ((x.ctxOf .sop1).discCnt < 20) then x.arm tDiscover .discover 11250 else x

/-- The AMS that a VDM conversation holds open, or waits to open, is over. -/
def Port.endVdmAms (b : Beat) (r : VdmReq) (x : Port) : Port :=
  match x.pd.start with
  | some (_, .vdmRequest, _) => (({ x with pd := { x.pd with start := none } }).endOwn).endSinkTx b
  | _ => if r.ams then x.endOwn else x

/-- A VDM conversation on one of the targets `only` that is under way ends TX_RESET (R181, R249); the module's own discovery is
tried again under R241. -/
def State.endVdmOn (s : State) (p : PortId) (only : Tgt → Bool) : State :=
  match (s.port p).pd.vdm with
  | some r =>
    if !only r.tgt then s
    else (s.endVdm p 0 4 []).modPort p fun x =>
      let y : Port := { x with pd := { x.pd with discovered := x.pd.discovered || r.why == .discover } }
      (if r.why == .discover then y.discoverAgain else y).endVdmAms s.now r
  | none => s

/-- The plugs' contexts are lost, by Cable Reset or with VCONN: messages, a Soft_Reset and a VDM conversation for a plug end
TX_RESET (R163, R181). -/
def State.dropPlug (s : State) (p : PortId) : State :=
  let s1 := s.killTx p (fun t => t != .sop) .reset
  let s2 : State := match (s1.port p).pd.soft with
    | some h => if h.tgt != .sop then s1.endSoft p 0 (HostSend.endCode (some h)) 0 else s1
    | none => s1
  s2.endVdmOn p (fun t => t != .sop)

/-- A VDM conversation that waits begins when the line is free (R241, R243), the discovery of an EPR entry within that entry (R215);
one for a plug whose VCONN_OK has fallen ends TX_RESET at once (R163). -/
def State.kick (s : State) (p : PortId) : State :=
  match (s.port p).pd.vdm with
  | some r =>
    if !r.sent && r.tgt != .sop && !((s.port p).ctxOf r.tgt).vconnOk then s.dropPlug p
    else if !r.sent && r.busyAt.isNone then
      let go (own : Bool) : State := s.modPort p fun x => { x with pd := { x.pd with vdm := some { r with sent := true, acked := false, ams := own } } }
      let bytes := u16 (15 + r.message.length / 4 * 4096) ++ r.message
      if (s.port p).pd.eprStep = 3 && r.why == .discover then (go false).queueTx p r.tgt .vdmRequest bytes
      else if s.free p then (go true).beginAms p r.tgt .vdmRequest bytes
      else s
    else s
  | none => s

def State.ownDone (s : State) (p : PortId) : State := (s.modPort p Port.endOwn).kick p

/-- The partner's AMS ends (R169): an AMS of the port's own that waited starts with no further wait. -/
def State.partnerDone (s : State) (p : PortId) : State :=
  let s1 := s.modPort p fun x => { x with pd := { x.pd with partnerAms := false } }
  if (s.port p).pd.start.isSome && (s.port p).pd.powerSource then (s1.modPort p (Port.endSinkTx s.now)).launch p
  else s1.kick p

/-- A Source's own AMS that a sink's held up starts once that one's last GoodCRC has gone by, also where the sink's AMS asked for no
answer (R169). -/
def State.resumeAms (s : State) (p : PortId) : State :=
  let x := s.port p
  if s.fw p && x.pd.start.isSome && x.pd.powerSource && x.use tCaps != .sinkTx && !x.pd.partnerAms && !x.pd.ownAms && x.pd.owed.isNone
      && (s.rxHead p).isNone && x.pd.await == .none && !x.inPower && !s.deciding p && (x.ctxOf .sop).asm.isNone then s.launch p
  else s

/-- Whichever AMS was open ends. -/
def State.amsDone (s : State) (p : PortId) : State := (s.modPort p Port.endOwn).partnerDone p

/-- Not_Supported at REV 2; at REV 1 the message is ignored (R6, R173, R186). -/
def State.notSupported (s : State) (p : PortId) : State :=
  if (s.port p).rev = 1 then s else s.reply p .plain (ctlMsg 16)

/-- The same for a message on any target, by that context's REV (R175, R186). -/
def State.notSupportedOn (s : State) (p : PortId) (t : Tgt) : State :=
  if t == .sop then s.notSupported p
  else if ((s.port p).ctxOf t).rev = 1 then s else s.queueTx p t .plain (ctlMsg 16)

/-! ### EPR entry: the cable check (R215) -/

def eprWord (action cause : Nat) : Word := mkWord [(cause, 16), (action, 24)]

def State.eprFail (s : State) (p : PortId) (cause : Nat) : State :=
  (s.modPort p fun x => { x with pd := { x.pd with eprStep := 0 } }).reply p .eprFailed (datMsg 10 [eprWord 4 cause])

/-- Step 3 of R215: VCONN and the cable, then Enter Succeeded. -/
def State.eprCheck (s : State) (p : PortId) : State :=
  let x := s.port p
  if !x.tc.vconnOn then s.eprFail p 2
  else if !(decide (100 ≤ x.pd.cable.iCab.toNat) && decide (50 ≤ x.pd.cable.vCab.toNat) && x.pd.cable.epr) then s.eprFail p 1
  else s.reply p .eprSucceeded (datMsg 10 [eprWord 3 0])

/-- An entry whose discovery has ended goes on to its check. -/
def State.eprGo (s : State) (p : PortId) : State := if (s.port p).pd.eprStep = 3 then s.eprCheck p else s

/-! ### Resets (R176–R181, R236, R237) -/

/-- Bits of an attempt on the line, preamble to EOP (R174's example: 429 for header and 28 bytes); a bit is 5/6 beat. -/
def Flight.bits (f : Flight) : Nat := 89 + 10 * (f.packet.data.length + 4)

/-- An attempt of the module's own that ends before its EOP takes its sampler window with it (R137, R176, R177). -/
def State.abortAttempt (s : State) (p : PortId) : State :=
  match (s.port p).pd.flight with
  | some f => if f.onWire && decide (6 * Beat.since s.now f.begun < 5 * f.bits) then s.discardWindow p else s
  | none => s

/-- tReceive, 1.0 ms after the EOP of the attempt, has passed with no GoodCRC (R164, R185). -/
def Flight.receiveOver (b : Beat) (f : Flight) : Bool := decide (6 * 250 + 5 * f.bits ≤ 6 * Beat.since b f.begun)

/-- A Hard Reset is ordered: the PHY aborts its own attempt and accepts no packet (R176). -/
def State.orderHr (s : State) (p : PortId) : State :=
  if (s.port p).tc.st.pd && (s.port p).pd.hrOrder.isNone then
    (s.abortAttempt p).modPort p fun x => { x with pd := { x.pd with
      hrOrder := some s.now, flight := x.pd.flight.map fun f => { f with onWire := false }
      onLine := if x.pd.flight.any Flight.onWire then none else x.pd.onLine } }
  else s

/-- VCONN turns off: VCONN_OK falls, SOP′ entries of the SVID table go, the cable limits fall back (R200, R246). -/
def Port.loseVconn (imax : Byte) (x : Port) : Port :=
  let y := (x.vconnOff).syncVconn
  { y with pd := { y.pd with cable := ⟨0, false, imax, 20⟩, svids := y.pd.svids.filter (fun e => !e.tgt1) } }

/-- VBUS is off within a PR_Swap (R237): R230 step 3 or R231 step 2 has passed. -/
def Port.swapVbusOff (x : Port) : Bool :=
  (match x.pd.swap with
   | some w => w.kind == .pr && (if w.wasSource then decide (3 ≤ w.step) else decide (2 ≤ w.step))
   | none => false) && x.vSafe0

/-- The contexts under a Hard Reset (R181), at once whatever the firmware does (R177). `sent`: HR_CNT advances. -/
def Port.hrContexts (sent : Bool) (x : Port) : Port :=
  (x.mapCtx Ctx.hard).modCtx .sop fun c => { c with hrCnt := if sent then min 2 (c.hrCnt + 1) else c.hrCnt }

/-- A Hard Reset's effect on the port (R181, R222, R236, R237); the contexts of one that a stopped core has left due are cleared
already (R20). OVERFLOW of the SVID table stays until the port is unattached (DESIGN CHOICE, log 80: R246 names nothing that clears
it). -/
def Port.hardReset (svc : Bool) (b : Beat) (sent : Bool) (imax : Byte) (x : Port) : Port :=
  let off := x.swapVbusOff
  let src := x.pd.attachSource
  let y := ((((if x.pd.hrDue.isSome then x else x.hrContexts sent).disarmProtocol).stageHalt).gateOff b)
  let z : Port := { y with
    pd := { Pd.reset with attachSource := src, powerSource := src, dfp := src, cable := x.pd.cable
                          svids := x.pd.svids.filter (fun e => e.tgt1), svidOverflow := x.pd.svidOverflow
                          lastTx := if x.pd.flight.isSome then some .reset else x.pd.lastTx, lastOut := x.pd.lastOut
                          plugAt := x.pd.plugAt, discovered := true, hrSent := if sent then some b else none
                          recovSwap := x.pd.swap.isSome || x.pd.recovSwap
                          recov := some (if src then (if off then .srcWait else .srcHold) else if off then .snkRise b else .snkFall b) }
    tc := { y.tc with vconnGiven := false, st := if x.tc.st == .debugAccSrc || x.tc.st == .debugAccSnk then x.tc.st
                            else if src then .attachedSrc else .attachedSnk }
    stage := { y.stage with runs := { y.stage.runs with sinkLow := 0 } } }
  let w := z.present svc
  if src then (if off then w.arm tPower .srcRecover (ms 800) else w.arm tPower .psHardReset (ms 30)) else w.loseVconn imax

/-- A Hard Reset, sent or received: what was under way ends and recovery begins. While the port's core is stopped the PHY clears the
contexts and their messages, and the rest waits for the core (R20, R177). -/
def State.hardReset (s : State) (p : PortId) (sent : Bool) : State :=
  let res := if (s.port p).pd.swap.isSome then 6 else 8
  if s.fw p then (s.abortAttempt p).dropPort p 0 res fun x => x.hardReset (isService p) s.now sent (s.classOf x).header.cableImax
  else ((s.abortAttempt p).killTx p (fun _ => true) .reset).modPort p fun x =>
    let y := x.hrContexts sent
    { y with pd := { y.pd with hrOrder := none, onLine := none, owed := none, hrDue := some (sent || y.pd.hrDue == some true)
                               hrSent := if sent then some s.now else none } }

/-- What a Soft_Reset, sent or received on SOP, ends (R181, R206, R240): a swap that awaited its answer backs off under
R227. -/
def State.softQuiet (s : State) (p : PortId) : State :=
  let s1 := s.withdraw p
  let s2 := s1.endSend p 0 (HostSend.endCode (s.port p).pd.send) 3 []
  let s3 : State := match (s2.port p).pd.vdm with
    | some r => if r.tgt == Tgt.sop && r.sent then s2.endVdm p 0 4 [] else s2
    | none => s2
  let s4 : State := match (s3.port p).pd.soft with
    | some h => if h.tgt == .sop then s3.endSoft p 0 (HostSend.endCode (some h)) 0 else s3
    | none => s3
  s4.modPort p fun x =>
    let waits := match x.pd.start with | some (_, .vdmRequest, _) => true | _ => false
    let y := (({ x with pd := { x.pd with start := none } }).endOwn).disarm tResponse
    let z := y.endSinkTx s.now
    { z with pd := { z.pd.capsBack with
        partnerAms := false, eprStep := 0, trans := none, swapMsg := none, rejectHard := false, accAck := false
        vdm := z.pd.vdm.map fun r => if waits then { r with sent := false, ams := false } else { r with ams := false }
        swapReq := z.pd.swapReq.map fun r => if r.sent then { r with crossed := true } else r } }

/-- The module sends Soft_Reset on a target (R180). A PD_SOFT_RESET on SOP that is under way ends with what it had (R394). -/
def State.sendSoft (s : State) (p : PortId) (t : Tgt) : State :=
  let s1 := s.killTx p (fun u => u == t) .reset
  let s2 := if t == .sop then s1.softQuiet p else s1.endVdmOn p (fun u => u == t)
  let s3 := s2.modPort p fun x =>
    let y := (x.modCtx t Ctx.soft).disarm (respTimer t)
    if t == .sop then { y with pd := { y.pd with ownAms := true } } else y
  let s4 := s3.queueTx p t .softReset (ctlMsg 13)
  if t == .sop then s4 else s4.eprGo p

/-- A transmission error (R168, R228): Hard Reset within a power sequence, else Soft Reset on SOP. -/
def State.txError (s : State) (p : PortId) (t : Tgt) : State :=
  if (s.port p).inPower then s.orderHr p
  else if t == .sop then s.sendSoft p .sop else s

/-- A message that the present state does not expect (R187). -/
def State.unexpected (s : State) (p : PortId) : State :=
  let x := s.port p
  if x.inPower then s.orderHr p
  else if x.pd.ownAms || x.pd.partnerAms || x.pd.await != .none then s.sendSoft p .sop
  else s.notSupported p

/-- The back-off of R226 for the role in force; a Sink adds a random part. It waits its turn where CAPS carries another interval
(R182, DESIGN CHOICE, log 87). -/
def State.armBackoff (s : State) (p : PortId) : State :=
  let x := s.port p
  let n := if x.pd.powerSource then 1000 * fld x.cfg.swapRetrySrc 0 8
    else 250 * fld x.cfg.swapRetrySnk 0 10 + draw s (250 * fld x.cfg.swapRetrySnk 16 7 + 1)
  (s.modPort p fun x =>
    let y : Port := { x with pd := { x.pd with backUntil := some (s.now + BitVec.ofNat 48 n) } }
    if x.use tCaps == .idle || x.use tCaps == .swapBackoff then y.arm tCaps .swapBackoff n else y).drawn

/-- After a Soft_Reset's Accept (R227, R240): the swap back-off, then capabilities of a Source, or a Sink's wait for
them. -/
def State.afterSoft (s : State) (p : PortId) : State :=
  let x := s.port p
  let back := match x.pd.swapReq with | some r => r.crossed && r.sent | none => false
  let s1 := if x.pd.powerSource then s else s.modPort p fun x => x.arm tCaps .sinkWaitCap (ms 465)
  let s2 := if back then s1.armBackoff p else s1
  (s2.modPort p fun x => if x.pd.powerSource then { x with pd := { x.pd with capsDue := true, capsRaise := false, capsForce := true } } else x).amsDone p

/-! ### VCONN lost (R118, R124, R163, R200, R497) -/

/-- VCONN turns off: VCONN_OK falls, the plugs' messages and conversations end TX_RESET, the cable limits fall back, which may change
the capabilities and end an EPR entry (R163, R200, R201, R215, R246). `oc`: until detach (R118). -/
def State.vconnLost (s : State) (p : PortId) (oc : Bool) : State :=
  let c := s.classOf (s.port p)
  ((s.dropPlug p).updPort p fun x =>
    let y := x.loseVconn c.header.cableImax
    ({ y with tc := { y.tc with vconnOc := y.tc.vconnOc || oc } }).capChange c).eprGo p

/-- VCONN_OC (R118): the operand says which of the two was observed, a current-limit event or more than 220 mA for 250
beats; both do the same. -/
def execVconnOc (p : PortId) (_limitEvent : Bool) (s : State) : Host.Outcome State Fault Refusal :=
  .next (if (s.port p).tc.vconnOn then (s.vconnLost p true).raisePort p 13 0 else s)

/-- Cn_VCONN thresholds (R497), mV. -/
def vconnGoodSample (v : Int) : Bool := decide (4750 < v) && decide (v < 5550)
def vconnBadSample (v : Int) : Bool := decide (v < 4600) || decide (5700 < v)

/-- CN_VCONN_MONITOR (R497): eight consecutive slots change the decision; a VCONN that is on opens when it becomes
not-good and raises VCONN_OC. -/
def execCnVconnMonitor (c : ClusterId) (samples : List Int) (s : State) : Host.Outcome State Fault Refusal :=
  let k := s.cluster c
  let hist := (k.vconnHist ++ samples).reverse.take 8 |>.reverse
  let s' := s.modCluster c fun k => { k with vconnHist := hist }
  .next (if !s.senDriven c then s
    else if hist.length = 8 ∧ !k.vconnGood ∧ hist.all vconnGoodSample then
      s'.modCluster c fun k => { k with vconnGood := true }
    else if hist.length = 8 ∧ k.vconnGood ∧ hist.all vconnBadSample then
      let on := (List.finRange 12).map (portOf c) |>.filter (fun p => (s.port p).tc.vconnOn)
      let t := s'.modCluster c fun k => { k with vconnGood := false }
      (on.foldl (fun t p => t.vconnLost p true) t).raiseAll (on.map fun p => portRaise p 13 0)
    else s')

/-- VCONN in ATTACHED_SRC follows its conditions in each beat (R117). -/
def State.vconnBeat (s : State) (p : PortId) : State :=
  let x := s.port p
  let good := (s.cluster (clusterOf p)).vconnGood
  if x.tc.st == .attachedSrc && x.tc.vconnOn && !x.vconnEn && x.pd.recov.isNone && x.pd.swap.isNone then s.vconnLost p false
  else s.modPort p (Port.followVconn s.now good)

/-- The Rp source of a line opens (R124). -/
def Port.openRp (l : Line) (x : Port) : Port :=
  let isRp : Pres → Bool := fun q => match q with | .rp _ => true | _ => false
  { x with tc := { x.tc with pres1 := if l == .cc1 && isRp x.tc.pres1 then .none else x.tc.pres1
                             pres2 := if l == .cc2 && isRp x.tc.pres2 then .none else x.tc.pres2 } }

/-- VCONN is on line `l`: the one that is not active (R117). -/
def Port.vconnOnLine (l : Line) (x : Port) : Bool := x.tc.vconnOn && x.tc.orient != (l == .cc2)

/-- CC_LEAK_TRIP (R124): three of five consecutive samples above 6.0 V open the VCONN switch and the Rp source of the line; VCONN
stays off while the attach lasts (log 93). -/
def execCcLeakTrip (p : PortId) (l : Line) (samples : List Int) (s : State) : Host.Outcome State Fault Refusal :=
  .next (if (s.port p).leakEn && (s.port p).tc.st.pd
      && decide (3 ≤ ((samples.reverse.take 5).filter fun v => decide (6000 < v)).length) then
      let t := if (s.port p).vconnOnLine l then (s.vconnLost p false).modPort p fun x => { x with tc := { x.tc with vconnCut := true } } else s
      (t.updPort p (Port.openRp l)).raisePort p 7 (if l = .cc1 then 0 else 1)
    else s)

/-! ### Cable Reset (R130, R179, R181, R246) -/

/-- The signalling goes out: the plugs' contexts clear, with RESPONSE′, DISCOVER and RESPONSE″. -/
def State.cableReset (s : State) (p : PortId) : State :=
  let t := (s.dropPlug p).modPort p fun x =>
    let y := ((((x.modCtx .sop1 Ctx.cable).modCtx .sop2 Ctx.cable).disarm tResponse1).disarm tDiscover).disarm tResponse2
    { y with pd := { y.pd with svids := y.pd.svids.filter (fun e => !e.tgt1), cableDue := false } }
  if (t.port p).pd.eprStep = 3 then t.eprCheck p else t.kick p

/-- The active line has seen no transition for 100 slots (R130). -/
def Port.lineIdle (x : Port) : Bool := decide (100 ≤ x.sinceLine)

/-- An ordered Cable Reset goes out once the line gap is met, while R179 permits it and no packet of the port's own is on the line. -/
def State.cableGap (s : State) (p : PortId) : State :=
  let x := s.port p
  if !x.pd.cableDue then s
  else if !((x.ctxOf .sop1).vconnOk && x.pd.dfp) then s.modPort p fun y => { y with pd := { y.pd with cableDue := false } }
  else if x.lineIdle && !x.transmits s.now && !(x.pd.flight.any Flight.onWire) then
    (s.cableReset p).modPort p fun y => { y with pd := { y.pd with onLine := some (s.now, 84) } }
  else s

end Sys2Proof.Machine
end

