-- ==== Sys2Proof/Machine/Pe.lean ====
section
/-! DEFINITION. The Policy Engine: what follows the end of a transmission, contracts, swaps, EPR mode, discovery
(R200–R243). -/

namespace Sys2Proof.Machine

/-! ### KEEP (R214, R216) -/

/-- KEEP as a Source contract or EPR mode leaves it. -/
def Port.keepSource (x : Port) : Port :=
  if x.pd.contract.eprMode then x.arm tKeep .sourceEprKeep (ms 875)
  else if x.pd.contract.type = 2 then (if x.running tKeep .ppsTimeout then x else x.arm tKeep .ppsTimeout (ms 13500))
  else x.disarm tKeep

def Port.keepSink (x : Port) : Port :=
  if x.pd.contract.eprMode then x.arm tKeep .sinkEprKeep (ms 375)
  else if x.pd.contract.type = 2 then x.arm tKeep .ppsRequest (ms 8000) else x.disarm tKeep

/-! ### Contracts (R208–R211, R220) -/

/-- The contract a completed transition establishes (R220, R209); a PPS contract renewed in current-limit mode stays in it (R213). -/
def Transition.contract (b : Beat) (old : Contract) (t : Transition) : Contract :=
  { pos := t.pos, type := t.type, eprMode := old.eprMode, inTransition := false, clActive := old.clActive && old.type == 2 && t.type == 2
    dropLimit := old.dropLimit, mismatch := t.mismatch, vSet := t.v, iOp := t.i, obj := t.obj
    oldI := if t.source then max t.oldI t.i else t.i, oldUntil := b + (if t.source then 64 else 250), oldV := t.oldV
    eprCapable := t.epr }

/-- PS_RDY establishes the contract: HR_CNT back to 0, KEEP, the CONTRACT event, the AMS over (R181, R214, R395). -/
def State.contractMade (s : State) (p : PortId) (t : Transition) : State :=
  let s1 := s.updPort p fun x =>
    let y : Port := { (x.modCtx .sop fun c => { c with hrCnt := 0 }).disarm tPower with
      pd := { x.pd with contract := t.contract s.now x.pd.contract, trans := none }
      stage := { x.stage with clMode := x.stage.clMode && t.type == 2, iTgt := if t.source then x.stage.iTgt else t.i } }
    if t.source then y.keepSource else y.keepSink
  let x := s1.port p
  ((s1.post 0xC9 p.val (wordBytes (contractWord x) ++ wordBytes (contractVi x) ++ beatBytes s.now ++ [0, 0])).amsDone p)

/-- Whether the contract in force lies within the capabilities last sent (R202). -/
def Port.contractValid (x : Port) : Bool :=
  let c := x.pd.contract
  let obj := if c.pos = 0 then 0 else x.lastCaps.getD (c.pos.toNat - 1) 0
  let r := objRange obj
  c.pos != 0 && objType obj == c.type.toNat && decide (r.1 ≤ c.vSet) && decide (c.vSet ≤ r.2)
    && (if c.type = 4 then decide (c.vSet * c.iOp ≤ fld obj 0 8 * 5000) else decide (c.iOp ≤ objCurrent obj c.vSet))

/-- The first contract's old values: vSafe5V at the implicit current. -/
def Port.oldVI (x : Port) : Nat × Nat :=
  if x.pd.contract.pos = 0 then (250, if x.pd.powerSource then rpAmps x.advLevel else rpSeenAmps x.tc.rpSeen)
  else (x.pd.contract.vSet, x.pd.contract.iOp)

/-- The accepted request starts (R208, R209): tSrcTransition, or the next beat where the APDO or the object and its voltage
stay. An APDO is taken as the one already in force by its position and kind (DESIGN CHOICE, log 79: the text does not say whether one
that new capabilities have changed at that position still is). -/
def Port.beginTransition (b : Beat) (x : Port) : Port :=
  match x.pd.trans with
  | none => x
  | some t =>
    let same := x.pd.contract.pos == t.pos && x.pd.contract.type == t.type && (t.type != 1 || x.pd.contract.vSet == t.v)
    let y : Port := { x with pd := { x.pd with
      trans := some { t with accepted := true, moving := if same then some (b + 1) else none }
      contract := { x.pd.contract with inTransition := true, oldI := max t.oldI t.i, oldUntil := b } } }
    if same then { y with stage := { y.stage with vTgt := t.v, iTgt := t.i } } else y.arm tPower .srcTransition y.tSrcTrans

/-! ### EPR entry (R215) -/

/-- Discover Identity on SOP′: the VDM header and the request (R241). -/
def discoverHeader : Word := mkWord [(1, 0), (1, 13), (1, 15), (0xFF00, 16)]

def discoverReq : VdmReq :=
  { why := .discover, tgt := .sop1, message := wordBytes discoverHeader, stream := .host, tag := 0, sent := false, acked := false, ams := false
    busyAt := none, busy := 0, got := [] }

/-- One more attempt, as a VDM of its own (R158, R244). -/
def Port.countDiscover (x : Port) : Port := x.modCtx .sop1 fun c => { c with discCnt := min 20 (c.discCnt + 1), busyCnt := 0 }

/-- The discovery of an EPR entry goes before a conversation that waits (R215), which keeps its own count of BUSY answers, `n` (R244). -/
def Pd.discoverFirst (n : Nat) (d : Pd) : Pd :=
  { d with eprStep := 3, vdm := some discoverReq
           vdmNext := match d.vdm with
             | some r => if r.why == .discover then none else some { r with sent := false, acked := false, ams := false, busy := n }
             | none => none
           start := match d.start with | some (_, .vdmRequest, _) => none | q => q }

/-- EPR_ENTER's outcome: REJECT fails the entry; ACCEPT goes on, discovery first where no identity is held. -/
def State.eprOutcome (s : State) (p : PortId) (oc : Nat) : State :=
  let x := s.port p
  if oc != ocAccept then s.eprFail p 4
  else if x.tc.vconnOn && x.pd.cable.state != 2 then
    (s.modPort p fun x => { x.countDiscover with pd := x.pd.discoverFirst ((x.pd.vdm.map fun r => (x.ctxOf r.tgt).busyCnt).getD 0) }).kick p
  else s.eprCheck p

/-! ### Swaps after their Accept (R230, R231, R234, R235) -/

/-- The running SWAP_REQUEST ends DONE where the sequence serves it. -/
def State.swapDone (s : State) (p : PortId) (own : Bool) : State := if own then s.endSwapReq p 0 0 else s

/-- Beat A of a swap. Detach suspension ends the count of a CC detach (R232). -/
def State.beginSwap (s : State) (p : PortId) (k : SwapKind) (own : Bool) : State :=
  match k with
  | .dr => ((s.modPort p fun x => { x with pd := { x.pd with dfp := !x.pd.dfp } }).swapDone p own).amsDone p
  | .vconn =>
    s.modPort p fun x =>
      let w : Swap := ⟨.vconn, x.tc.vconnOn, 1, s.now, s.now, none, own⟩
      let y : Port := { x.endOwn with pd := { (x.endOwn).pd with swap := some w, ownAms := true } }
      if x.tc.vconnOn then y.arm tPower .vconnSource (ms 150) else y.vconnOnAt (s.now + 1)
  | .pr =>
    (s.withdraw p).updPort p fun x0 =>
      let x := if x0.use tCc == .srcDisconnect || x0.use tCc == .pdDebounce then x0.disarm tCc else x0
      let w : Swap := ⟨.pr, x.pd.powerSource, 1, s.now, s.now, none, own⟩
      let y : Port := { (x.endOwn).disarm tKeep with pd := { (x.endOwn).pd with
        swap := some w, ownAms := true, contract := { Contract.none with eprMode := false }, trans := none, capsDue := false, sentCaps := [], built := [] } }
      if x.pd.powerSource then y.arm tPower .srcTransition y.tSrcTrans
      else
        let z := if x.stage.mode == .reverse then { y with stage := { y.stage with iTgt := 0 } } else (y.stageHalt).gateOff s.now
        z.arm tPower .psSourceOff (ms 835)

/-- The GoodCRC of the module's PS_RDY within a swap. -/
def State.swapPsRdySent (s : State) (p : PortId) (w : Swap) : State :=
  match w.kind with
  | .pr =>
    if w.wasSource then
      s.modPort p fun x => ({ x with pd := { x.pd with swap := some { w with step := 5, windowFrom := some s.now } }
                                     stage := { x.stage with want := .idle } }).arm tPower .psSourceOn (ms 435)
    else
      ((s.updPort p fun x =>
        let y : Port := { x with pd := { x.pd with swap := none }, tc := { x.tc with st := .attachedSrc } }
        (if x.tc.vconnOn && !x.pd.discovered then y.startDiscover else { y with pd := { y.pd with discovered := true } }).arm tPower
          .swapSourceStart (ms 25)).swapDone p w.own).amsDone p
  | _ =>
    ((s.modPort p fun x =>
      let y : Port := { x with pd := { x.pd with swap := none } }
      if x.pd.powerSource then y.startDiscover else y).swapDone p w.own).amsDone p

/-! ### The end of a transmission -/

/-- The identity in a Discover Identity ACK, header and VDOs (R242): of a passive or an active cable, none for any other product. -/
def cableIdentity (reply : List Byte) : Option Cable :=
  let idh := rdWord reply 4
  let vdo := rdWord reply 16
  if (fld idh 27 3 == 3 || fld idh 27 3 == 4) && decide (20 ≤ reply.length) then
    some ⟨2, bit1 vdo 17, if fld vdo 5 2 = 2 then 100 else 60, if bit1 vdo 17 then BitVec.ofNat 8 (20 + 10 * fld vdo 9 2) else 20⟩
  else none

/-- The cable in force after an ACK of its plug (R200, R242): CABLE_IMAX and 20 V without an identity. -/
def Port.readIdentity (imax : Byte) (reply : List Byte) (x : Port) : Port :=
  { x with pd := { x.pd with cable := (cableIdentity reply).getD ⟨1, false, imax, 20⟩ } }

/-- Discovery has ended: the identity, a repeat, and what waited for it (R200, R241, R242). `result`: 0 ACK, 1 NAK, 2 BUSY
exhausted, 3 no response, 5 a failure without GoodCRC. A NAK alone ends it for good. -/
def State.discoverOver (s : State) (p : PortId) (result : Nat) (reply : List Byte) : State :=
  let c := s.classOf (s.port p)
  (s.updPort p fun x =>
    let y : Port := if result = 0 then (x.readIdentity c.header.cableImax reply).discoverAgain
      else if result = 1 then { x with pd := { x.pd with cable := ⟨1, false, c.header.cableImax, 20⟩ } }
      else x.discoverAgain
    let z : Port := { y with pd := { y.pd with
      discovered := y.pd.discovered || decide (result ≤ 1) || result == 5 || decide (20 ≤ (x.ctxOf .sop1).discCnt) } }
    z.capChange c).eprGo p

/-- A cable identity that a host's Discover Identity on SOP′ returns is read likewise, as a capability change (R241, R242). -/
def State.identityGot (s : State) (p : PortId) (reply : List Byte) : State :=
  let c := s.classOf (s.port p)
  s.updPort p fun x => if (cableIdentity reply).isSome then (x.readIdentity c.header.cableImax reply).capChange c else x

/-- A VDM conversation ends with a result of R394. -/
def State.vdmOver (s : State) (p : PortId) (result : Nat) (reply : List Byte) : State :=
  match (s.port p).pd.vdm with
  | none => s
  | some r =>
    let s1 := (s.endVdm p 0 (if result = 5 then 3 else result) reply).modPort p fun x => if r.ams then x.endOwn else x
    match r.why with
    | .discover => (s1.discoverOver p result reply).kick p
    | _ => s1.kick p

/-- The response of a conversation is awaited: a plug's within its own target, which a reset on SOP does not touch (R181). -/
def Port.awaitVdm (r : VdmReq) (x : Port) : Port :=
  { x with pd := { x.pd with vdm := some { r with acked := true }, await := if r.tgt == .sop then .vdmAnswer else x.pd.await } }

/-- The VDM's GoodCRC: an unstructured VDM or Attention is complete; otherwise the response timer runs (R244, R248). -/
def State.vdmSent (s : State) (p : PortId) : State :=
  match (s.port p).pd.vdm with
  | none => s
  | some r =>
    match r.why with
    | .hostSend false => s.vdmOver p 0 []
    | .modeEnter | .modeExit => s.modPort p fun x => (x.awaitVdm r).arm tResponse .vdmWaitMode 11250
    | .discover | .hostDiscover _ _ | .hostSend true => s.modPort p fun x => (x.awaitVdm r).arm (respTimer r.tgt) .vdmResponse 6750

/-- The VDM ended without GoodCRC. -/
def State.vdmFailed (s : State) (p : PortId) (r : TxResult) : State :=
  match (s.port p).pd.vdm with
  | none => s
  | some v =>
    match v.why with
    | .hostSend false => s.vdmOver p (txCode r) []
    | _ =>
      if r == .discarded then s.modPort p fun x =>
        let y := if v.ams then x.endOwn else x
        { y with pd := { y.pd with vdm := some { v with sent := false, ams := false } } }
      else s.vdmOver p 5 []

/-- Waiting for an answer on RESPONSE with tSenderResponse. -/
def Port.awaitOn (a : Await) (x : Port) : Port :=
  ({ x with pd := { x.pd with await := a } }).arm tResponse .senderResponse x.tSender

/-- EPR_ENTER is looked up once Enter Acknowledged has its GoodCRC (R215). -/
def State.eprLookup (s : State) (p : PortId) : State :=
  let x := s.port p
  let a := (s.classOf x).lookup ptEprEnter fun r => cableMeets x.pd.cable r.cableCond
  let s1 := s.modPort p fun x => { x with pd := { x.pd with eprStep := 2 } }
  match s1.resolve p ptEprEnter a x.pd.reqEop x.pd.request 0 with
  | (t, some oc) => t.eprOutcome p oc
  | (t, none) => t

/-- What follows the end of a message, by what it was for. The Accept of a Soft_Reset sent to a plug is timed by tSenderResponse on that
plug's response timer, and PD_SOFT_RESET ends when none comes (DESIGN CHOICE, log 76: R182 lists no interval for it there). -/
def State.afterMsg (s : State) (p : PortId) (t : Tgt) (why : Purpose) (r : TxResult) : State :=
  let x := s.port p
  let good := r == .ok
  let bad := r == .fail || r == .integrity
  match why with
  | .plain | .eprFailed =>
    if t != .sop then s
    else if good then s.partnerDone p else if bad then s.txError p t else s.modPort p fun x => { x with pd := { x.pd with partnerAms := false } }
  | .capsReply =>
    if good then s.partnerDone p else if bad then s.txError p t
    else s.modPort p fun x => { x with pd := { x.pd.capsBack with partnerAms := false } }
  | .wait =>
    if good then s.amsDone p else if bad then s.txError p t
    else s.modPort p fun x => { x.endOwn with pd := { (x.endOwn).pd with partnerAms := false } }
  | .reject =>
    if good then (if x.pd.rejectHard then s.orderHr p else s.amsDone p)
    else if bad then s.txError p t
    else s.modPort p fun x => { x.endOwn with pd := { (x.endOwn).pd with partnerAms := false, rejectHard := false } }
  | .chunkAsk => if bad then s.txError p t else s
  | .sourceCaps =>
    if good then s.modPort p fun x =>
      let y := (x.modCtx .sop fun c => { c with capsCnt := 0 })
      let z := if y.use tPower == .noResponse then y.disarm tPower else y
      let w : Port := { z with pd := { z.pd with capsBeat := s.now, capsWait := none } }
      (if w.use tCaps == .sendSourceCap then w.freeCaps s.now else w).awaitOn .requestAfterCaps
    else if bad then
      (if x.pd.contract.pos != 0 then s.sendSoft p .sop
       else s.modPort p fun x =>
         let y := ({ x.endOwn with pd := { (x.endOwn).pd with partnerAms := false } }).modCtx .sop fun c => { c with capsCnt := min 50 (c.capsCnt + 1) }
         if (y.ctxOf .sop).capsCnt < 50 then y.arm tCaps .sendSourceCap y.tSrcCap else y)
    else s.modPort p fun x => { x.endOwn with pd := { (x.endOwn).pd.capsBack with capsDue := true, capsForce := true, partnerAms := false } }
  | .request =>
    if good then s.modPort p fun x => x.awaitOn .answerToRequest
    else if bad then s.sendSoft p .sop
    else s.modPort p fun x => { x.endOwn with pd := { (x.endOwn).pd with partnerAms := false } }
  | .accept =>
    if good then
      (if x.pd.swapMsg.isNone && x.pd.trans.isNone then s.afterSoft p
       else s.modPort p fun x => { x with pd := { x.pd with accAck := true } })
    else if bad then s.txError p t
    else s.modPort p fun x => { x with pd := { x.pd with partnerAms := false, swapMsg := none, trans := none } }
  | .psRdy =>
    if good then
      (match x.pd.swap, x.pd.trans with
       | some w, _ => s.swapPsRdySent p w
       | none, some tr => s.contractMade p tr
       | none, none => s)
    else s.orderHr p
  | .softReset =>
    if good then s.modPort p fun x =>
      let y : Port := { x with pd := { x.pd with soft := x.pd.soft.map fun h => if h.tgt == t then { h with done := some .ok } else h } }
      (if t == .sop then { y with pd := { y.pd with await := .softAccept t } } else y).arm (respTimer t) .senderResponse x.tSender
    else
      let s1 := s.endSoft p 0 (txCode r) 0
      if t != .sop then s1 else if bad then s1.orderHr p else s1.ownDone p
  | .swapRequest =>
    if good then s.modPort p fun x => x.awaitOn .swapAnswer
    else if bad then (s.endSwapReq p 0 4).sendSoft p .sop
    else (s.endSwapReq p 0 7).modPort p Port.endOwn
  | .vdmRequest =>
    if good then s.vdmSent p
    else
      let s1 := s.vdmFailed p r
      if bad && t == .sop then s1.sendSoft p .sop else if r == .discarded then s1.kick p else s1
  | .hostSend =>
    if good then
      (match x.pd.send with
       | some h => if h.expects then s.modPort p fun x => { x with pd := { x.pd with send := some { h with done := some .ok } } }.awaitOn .hostResponse else (s.endSend p 0 0 0 []).ownDone p
       | none => s.ownDone p)
    else
      let s1 := s.endSend p 0 (txCode r) (if bad then 0 else 3) []
      if bad then s1.txError p t else s1.modPort p Port.endOwn
  | .eprAck => if good then s.eprLookup p else if bad then s.sendSoft p .sop else s.modPort p fun x => { x with pd := { x.pd with partnerAms := false, eprStep := 0 } }
  | .eprSucceeded =>
    if good then
      (s.updPort p fun x => Port.keepSource { x with pd := { x.pd with eprStep := 0, contract := { x.pd.contract with eprMode := true } } }).sendCaps p
    else if bad then s.sendSoft p .sop
    else s.modPort p fun x => { x with pd := { x.pd with partnerAms := false, eprStep := 0 } }
  | .eprExit =>
    if good then
      ((s.updPort p fun x => Port.keepSource { x with pd := { x.pd with
        contract := { x.pd.contract with eprMode := false }, capsDue := true, capsRaise := false, capsForce := true } })).ownDone p
    else if bad then s.sendSoft p .sop else s.modPort p Port.endOwn
  | .keepAlive =>
    if good then s.modPort p fun x => x.awaitOn .keepAck else if bad then s.txError p t else s.modPort p Port.endOwn
  | .chunk => s

/-- The chunked message of a context is over (R174). -/
def State.chunkOver (s : State) (p : PortId) (t : Tgt) (r : TxResult) : State :=
  match ((s.port p).ctxOf t).asm with
  | none => s
  | some a =>
    let s1 := s.modPort p fun x =>
      let y := x.modCtx t fun c => { c with asm := none, chunking := false }
      if y.use (respTimer t) == .chunkRequest || y.use (respTimer t) == .chunkResponse then y.disarm (respTimer t) else y
    if a.sending then s1.afterMsg p t a.why r else s1

/-- A transfer is abandoned or interrupted (R167, R174): a message that was going out ends with `r`, an abandoned one counting in
TX_FAILS (R157), and what was coming in is discarded. -/
def State.chunkDrop (s : State) (p : PortId) (t : Tgt) (r : TxResult) : State :=
  match ((s.port p).ctxOf t).asm with
  | some a =>
    let s1 := if a.sending then s.modPort p fun x =>
        let y := if r == .fail then x.modCtx t fun c => { c with txFails := satIncr c.txFails } else x
        { y with pd := { y.pd with lastTx := some r } }
      else s
    s1.chunkOver p t r
  | none => s

/-- The end of a message: a chunk that is not the last waits for the next Chunk Request (R174). -/
def State.afterTx (s : State) (p : PortId) (t : Tgt) (why : Purpose) (r : TxResult) : State :=
  if why == .chunk then
    match ((s.port p).ctxOf t).asm with
    | some a =>
      if r == .ok && decide (26 * a.next < a.size) then s.modPort p fun x => x.arm (respTimer t) .chunkRequest 6750
      else s.chunkOver p t r
    | none => s
  else s.afterMsg p t why r

/-- The port's firmware sees the result of a message; while its core is stopped the result waits for it (R19, R20, R167). -/
def State.txDone (s : State) (p : PortId) (t : Tgt) (why : Purpose) (r : TxResult) : State :=
  if s.fw p then s.afterTx p t why r else s.modPort p fun x => { x with pd := { x.pd with ended := x.pd.ended ++ [(t, why, r)] } }

/-- The port's core has resumed: what ended meanwhile is acted on in its order, then a Hard Reset (R19, R20). -/
def State.resumePort (s : State) (p : PortId) : State :=
  let ends := (s.port p).pd.ended
  let t := ends.foldl (fun (z : State) e => z.afterTx p e.1 e.2.1 e.2.2) (s.modPort p fun x => { x with pd := { x.pd with ended := [] } })
  match (t.port p).pd.hrDue with
  | some sent => t.hardReset p sent
  | none => t

/-- All pending messages of a target end TX_DISCARDED (R165). -/
def State.discardTx (s : State) (p : PortId) (t : Tgt) : State :=
  let ends := s.txPending p (fun u => u == t)
  ends.foldl (fun (z : State) e => z.txDone p e.1 e.2 .discarded) (s.killTx p (fun u => u == t) .discarded)

/-! ### Decision outcomes (R203) -/

def State.requestOutcome (s : State) (p : PortId) (oc : Nat) : State :=
  if oc = ocAccept then s.reply p .accept (ctlMsg 3)
  else
    let s1 := s.modPort p fun x => { x with pd := { x.pd with trans := none, rejectHard := false } }
    if oc = ocWait then s1.reply p .wait (ctlMsg 12) else s1.reply p .reject (ctlMsg 4)

def State.swapOutcome (s : State) (p : PortId) (k : SwapKind) (oc : Nat) : State :=
  if oc = ocAccept then
    (s.modPort p fun x => { x with pd := { x.pd with swapMsg := some k, trans := none } }).reply p .accept (ctlMsg 3)
  else
    let s1 := s.modPort p fun x => { x with pd := { x.pd with rejectHard := false } }
    if oc = ocWait then s1.reply p .wait (ctlMsg 12) else s1.reply p .reject (ctlMsg 4)

/-- The Request of a Sink (R219): the module's selection by the class and the rule that the lookup named (R188, R206), or the data
object the host sent, as it is, its request flags too (DESIGN CHOICE, log 78: R204 does not say that the module sets them). -/
def State.selectOutcome (s : State) (p : PortId) (cls : Fin 16) (oc : Nat) (r : Option Rule) (value : Word) : State :=
  let x := s.port p
  let c := s.policy.classes[cls]
  let w := if value != 0 then value
    else if oc = ocMatch then requestMatch c r x.pd.rxCaps x s.serviceDomain
    else requestFive x.pd.rxCaps x s.serviceDomain false
  (s.modPort p fun x => { x with pd := { x.pd with request := w } }).reply p .request (datMsg 2 [w])

/-- The outcome of a decision point, looked up in class `cls`. -/
def State.act (s : State) (p : PortId) (cls : Fin 16) (point oc : Nat) (rule : Option Rule) (value : Word) : State :=
  if point = 0 then s.requestOutcome p oc
  else if point = 1 then s.eprOutcome p oc
  else if point = 2 then s.swapOutcome p .pr oc
  else if point = 3 then s.swapOutcome p .dr oc
  else if point = 4 then s.swapOutcome p .vconn oc
  else if point = 5 then s.selectOutcome p cls oc rule value
  else s

/-- A lookup, its ASK, and what its outcome does (R195, R204). -/
def State.atPoint (s : State) (p : PortId) (point : Nat) (m : Rule → Bool) (eop : Beat) (obj pdo : Word) : State :=
  let a := (s.classOf (s.port p)).lookup point m
  match s.resolve p point a eop obj pdo with
  | (t, some oc) => t.act p (s.port p).classIdx point oc (a.rule.map fun i => (s.classOf (s.port p)).rules[i]) 0
  | (t, none) => t

/-- A decision request that is discarded, or that finds no cell on its way to the host, resolves to its default (R441, R444). -/
def State.decisionDefault (s : State) (id : Nat) : State :=
  match s.policy.decisions.find? (fun d => d.id == id) with
  | none => s
  | some d =>
    ((s.modPolicy fun q => { q with decisions := q.decisions.filter fun e => e.id != d.id }).closeDefault d.port d.id d.point d.dflt).act
      d.port d.cls d.point d.dflt (some d.asked) 0

/-- DECISION_DEADLINE (R20, R23, R204, R205): the default applies at slot 0 of beat D, or when the port's stopped core resumes. -/
def execDecisionDeadline (id : Nat) (s : State) : Host.Outcome State Fault Refusal :=
  .next (match s.policy.decisions.find? (fun d => d.id == id && !(d.deadline.later s.now) && s.fw d.port) with
    | none => s
    | some d =>
      let t := (s.modPolicy fun q => { q with decisions := q.decisions.filter fun e => e.id != d.id }).post 0xC3 d.port.val
        (closedPayload d.id d.point 1 d.dflt s.now)
      t.act d.port d.cls d.point d.dflt (some d.asked) 0)

end Sys2Proof.Machine
end

