-- ==== Sys2Proof/Machine/PdRx.lean ====
section
/-! DEFINITION. PHY commands and the messages firmware takes from the RX message queue (R159–R187, R202–R235). -/

namespace Sys2Proof.Machine

/-! ### Transmitting (R130, R160, R163–R168) -/

/-- The header the PHY completes: data role, revision (3.x while unsettled), power role, MessageID; a packet for a plug
has Cable Plug 0 (R160, R163). -/
def wireHeader (x : Port) (t : Tgt) (id : BitVec 3) (h : Nat) : List Byte :=
  let r := (x.ctxOf t).rev
  u16 (h + (if t == .sop then bw x.pd.dfp 5 + bw x.pd.powerSource 8 else 0) + (if r = 1 then 1 else 2) * 64 + id.toNat * 512)

/-- GOODCRC_TRANSMIT (R160, R169): the GoodCRC that is due, 149 bits, goes out after the line gap; the port's own AMS may have waited for it. -/
def execGoodcrcTransmit (p : PortId) (idle : Nat) (s : State) : Host.Outcome State Fault Refusal :=
  .next (match (s.port p).pd.owed with
    | some o =>
      if (s.port p).gapMet idle && !(s.port p).transmits s.now then
        ((s.claimSampler p).modPort p fun x => { x with pd := { x.pd with
          owed := none, onLine := some (s.now, 149), lastOut := some (o.tgt, wireHeader x o.tgt o.id 1) } }).resumeAms p
      else s
    | none => s)

/-- tCableMessage has passed since the last GoodCRC of a plug (R185). -/
def Port.plugGap (b : Beat) (x : Port) : Bool := match x.pd.plugAt with | some a => decide (200 ≤ Beat.since b a) | none => true

/-- The attempt of the message in flight may start (R130, R163, R164, R176), for a plug only with VCONN_OK. -/
def Port.mayTransmit (b : Beat) (idle : Nat) (x : Port) : Bool :=
  match x.pd.flight with
  | some f => !f.onWire && x.pd.owed.isNone && x.pd.hrOrder.isNone && x.gapMet idle && !x.transmits b && x.tc.st.pd
      && (f.tgt == .sop || (x.plugGap b && (x.ctxOf f.tgt).vconnOk))
  | none => false

/-- TX_ATTEMPT_START (R164): capabilities that go out are the ones last sent (R202). -/
def execTxAttemptStart (p : PortId) (idle : Nat) (s : State) : Host.Outcome State Fault Refusal :=
  .next (if (s.port p).mayTransmit s.now idle then
      (s.claimSampler p).modPort p fun x => { x with pd := { x.pd with
        first := false, onLine := x.pd.flight.map fun f => (s.now, f.bits)
        unsent := match x.pd.flight with
          | some f => if f.tgt == .sop && (f.why == .sourceCaps || f.why == .capsReply || f.why == .chunk) then none else x.pd.unsent
          | none => x.pd.unsent
        flight := x.pd.flight.map fun f => { f with attempts := f.attempts + 1, onWire := true, begun := s.now }
        lastOut := match x.pd.flight with
          | some f => some (f.tgt, wireHeader x f.tgt (x.ctxOf f.tgt).txId (rdNat f.packet.data 0 2) ++ f.packet.data.drop 2)
          | none => x.pd.lastOut } }
    else s)

/-- A GoodCRC arrives after the EOP of the attempt (R162, R164): one that matches nothing is discarded. -/
def State.gotGoodCrc (s : State) (p : PortId) (t : Tgt) (id : BitVec 3) : State :=
  match (s.port p).pd.flight with
  | some f =>
    if f.tgt == t && f.onWire && !(s.port p).transmits s.now && id == ((s.port p).ctxOf t).txId then
      let s1 := s.txEnd p .ok
      let s2 := if t == .sop then s1 else s1.modPort p fun x => { x with pd := { x.pd with plugAt := some s.now } }
      s2.txDone p t f.why .ok
    else s
  | none => s

/-- GOODCRC_RECEIVED (R159, R164, R224, R231): one on a plug's target needs VCONN_OK and its Cable Plug bit. -/
def execGoodcrcReceived (p : PortId) (t : Tgt) (h : CrcHead) (s : State) : Host.Outcome State Fault Refusal :=
  .next (if t == .sop || (((s.port p).ctxOf t).vconnOk && h.plug) then s.gotGoodCrc p t h.id else s)

/-- An attempt has failed: the next one follows, or after N_RETRY retries the message ends TX_FAIL (R164, R166). -/
def State.attemptFailed (s : State) (p : PortId) : State :=
  match (s.port p).pd.flight with
  | some f =>
    if !f.onWire then s
    else if f.attempts ≤ ((s.port p).ctxOf f.tgt).nRetry.toNat then
      s.modPort p fun x => { x with pd := { x.pd with flight := some { f with onWire := false } } }
    else (s.txEnd p .fail).txDone p f.tgt f.why .fail
  | none => s

/-- RECEIVE_TIMEOUT (R164, R185): tReceive has passed since the EOP of the attempt. -/
def execReceiveTimeout (p : PortId) (s : State) : Host.Outcome State Fault Refusal :=
  .next (match (s.port p).pd.flight with
    | some f => if f.receiveOver s.now then s.attemptFailed p else s
    | none => s)

/-- The port's own transmission ends before its EOP: the line is no longer driven (R129, R137). -/
def State.cutOff (s : State) (p : PortId) : State :=
  (s.discardWindow p).modPort p fun x => { x with pd := { x.pd with onLine := none } }

/-- The attempt is within its preamble of 64 bits (R166). -/
def Flight.inPreamble (b : Beat) (f : Flight) : Bool := decide (6 * Beat.since b f.begun < 5 * 64)

/-- TX_COLLISION_ABORT (R137, R166): an abort within the preamble counts as one attempt; past it the attempt runs to EOP. -/
def execTxCollisionAbort (p : PortId) (s : State) : Host.Outcome State Fault Refusal :=
  .next (match (s.port p).pd.flight with
    | some f => if f.onWire && f.inPreamble s.now then (s.cutOff p).attemptFailed p else s
    | none => s)

/-- TX_INTEGRITY (R137, R167, R168, R343, R437–R439): the message in flight ends without a retry, and F210 names its context; a word that
fails parity raises POOL_PARITY beside it. -/
def execTxIntegrity (e : TxCheck) (s : State) : Host.Outcome State Fault Refusal :=
  let p := e.port
  .next (match (s.port p).pd.flight with
    | some f =>
      if f.onWire && e.obs != .sound then
        ((((s.cutOff p).txEnd p .integrity).raise (devRaise 210 0 (3 * p.val + (tgtIdx f.tgt).val))).found (qTx (clusterOf p)) e.obs).txDone p
          f.tgt f.why .integrity
      else s
    | none => s)

/-! ### Hard Reset (R176–R178) -/

/-- HARD_RESET_SEND (R176): the ordered signalling, 84 bits, goes out after the line gap. -/
def execHardResetSend (p : PortId) (idle : Nat) (s : State) : Host.Outcome State Fault Refusal :=
  .next (if (s.port p).pd.hrOrder.isSome && (s.port p).gapMet idle && !(s.port p).transmits s.now then
      (s.hardReset p true).modPort p fun x => { x with pd := { x.pd with onLine := some (s.now, 84) } }
    else s)

/-- HR_TIMEOUT (R176, R185): 18,000 slots after the order firmware proceeds as if it had been sent; no signalling is on the line. -/
def execHrTimeout (p : PortId) (s : State) : Host.Outcome State Fault Refusal :=
  .next (match (s.port p).pd.hrOrder with
    | some b =>
      if s.fw p ∧ 1125 ≤ Beat.since s.now b then
        (s.hardReset p true).modPort p fun x => { x with pd := { x.pd with hrSent := none } }
      else s
    | none => s)

/-- Hard Reset signalling of the module's own is on the line: 84 bits, 70 beats (DEDUCED, log 63). -/
def Port.hrSending (b : Beat) (x : Port) : Bool := match x.pd.hrSent with | some h => decide (Beat.since b h < 70) | none => false

/-- HARD_RESET_RECEIVED (R177, R178): an order of the module's own that still waits is dropped; one received while the module's own
signalling is on the line is that one. -/
def execHardResetReceived (p : PortId) (s : State) : Host.Outcome State Fault Refusal :=
  .next (if (s.port p).tc.st.pd && !(s.port p).hrSending s.now then s.hardReset p false else s)

/-! ### Receiving (R159–R162, R165) -/

/-- The partner's PS_RDY that the running sequence awaits (R228). -/
def Port.expectsPsRdy (x : Port) : Bool :=
  match x.pd.swap with
  | some w => (match w.kind with
      | .pr => if w.wasSource then w.step == 5 else w.step == 1
      | .vconn => w.wasSource && w.step == 1
      | .dr => false)
  | none => match x.pd.trans with | some t => t.accepted && !t.source | none => false

/-- A packet the PHY accepts (R159, R176): none that its own transmission overlaps (R166). -/
def Port.accepts (b : Beat) (x : Port) (w : WirePacket) (t : Tgt) : Bool :=
  x.tc.st.pd && !x.transmits b && w.wellFormed && w.crcOk && x.pd.hrOrder.isNone
    && (t == .sop || ((x.ctxOf t).vconnOk && w.header.getLsbD 8))

/-- A message goes to the RX queue, its GoodCRC is due, and the messages pending on its context end (R160–R162, R165); while the port's
core runs, a Source that was about to open an AMS no longer waits tSinkTx (R169), and within a power sequence any message but the
awaited PS_RDY leads to Hard Reset (R228). A Soft_Reset clears the context (R181) and then sets RX_ID and RX_VALID like any other
message (DESIGN CHOICE, log 64: R162's second bullet and R181's table differ). -/
def State.deliver (s : State) (p : PortId) (t : Tgt) (w : WirePacket) (m : Pool) : State :=
  let soft := !hExt w.header && hObjs w.header = 0 && hType w.header = 13
  let id := hId w.header
  let s0 : State := { s with pool := m }
  let s1 := if soft then (s0.killTx p (fun u => u == t) .reset).modPort p fun x => (x.modCtx t Ctx.soft).disarm (respTimer t)
    else s0.discardTx p t
  let s2 := s1.modPort p fun x =>
    let y : Port := { x.modCtx t (fun c => { c with rxId := id, rxValid := true }) with pd := { x.pd with owed := some ⟨t, id⟩ } }
    if t == .sop && s.fw p && y.pd.powerSource then y.endSinkTx s.now else y
  if t == .sop && s.fw p && (s.port p).inPower
      && !(!hExt w.header && hObjs w.header = 0 && hType w.header = 6 && (s.port p).expectsPsRdy) then s2.orderHr p else s2

/-- PACKET_RECEIVE (R159–R162). -/
def State.receive (s : State) (p : PortId) (w : WirePacket) (t : Tgt) : State :=
  let x := s.port p
  let c := x.ctxOf t
  let soft := !hExt w.header && hObjs w.header = 0 && hType w.header = 13
  let epoch := if soft then c.epoch + 1 else c.epoch
  let keep := fun (z : State) => z.modPort p fun x =>
    if t == .sop && x.pd.contract.eprMode && x.pd.powerSource then x.arm tKeep .sourceEprKeep (ms 875) else x
  if hType w.header = 1 && hObjs w.header = 0 && !hExt w.header then s.gotGoodCrc p t (hId w.header)
  else if !soft && c.rxValid && hId w.header == c.rxId then
    keep (s.modPort p fun x => { x with pd := { x.pd with owed := some ⟨t, hId w.header⟩ } })
  else
    match s.pool.pushPd (qRx (clusterOf p)) p
        { mkPacket s.pool (.rx p t epoch s.now) (u16 w.header.toNat ++ w.body) with flaw := w.flaw } with
    | none => s.modPool fun m => { m.refuseFor (qRx (clusterOf p)) 1 with rxNoCell := satIncr m.rxNoCell }
    | some m => keep (s.deliver p t w m)

/-! ### Kinds of message (R186) -/

inductive MsgKind where
  | request | sourceCaps | accept | reject | wait | psRdy | prSwap | drSwap | vconnSwap | softReset | eprEnter | eprExit
  | chunkRequest | chunk | getRevision | svdm | uvdm | attention | svcEnter | svcExit | svcXfer | svcSync | unsupported
  | plain          -- a supported message without a command of its own
  deriving DecidableEq, Repr

def vdmStructured (w : Word) : Bool := bit1 w 15
def vdmSvid (w : Word) : Nat := fld w 16 16
def vdmCmd (w : Word) : Nat := fld w 0 5
def vdmType (w : Word) : Nat := fld w 6 2      -- 0 REQ, 1 ACK, 2 NAK, 3 BUSY
def vdmPos (w : Word) : Nat := fld w 8 3

/-- The service SVID (R250). -/
def svcSvidNat : Nat := Config.svcSvid.toNat

def vdmKind (w : Word) : MsgKind :=
  if !vdmStructured w then .uvdm
  else if vdmCmd w = 6 then .attention
  else if vdmType w = 0 && vdmSvid w == svcSvidNat then
    (if vdmCmd w = 4 then .svcEnter else if vdmCmd w = 5 then .svcExit else if vdmCmd w = 16 then .svcXfer
     else if vdmCmd w = 17 then .svcSync else .svdm)
  else .svdm

/-- Control messages (R186, R3, R4). -/
def ctlKind (rev : BitVec 2) (n : Nat) : MsgKind :=
  if rev = 1 ∧ 16 ≤ n then .unsupported
  else match n with
  | 3 => .accept | 4 => .reject | 6 => .psRdy | 7 => .plain | 8 => .plain | 9 => .drSwap | 10 => .prSwap | 11 => .vconnSwap
  | 12 => .wait | 13 => .softReset | 16 => .plain | 18 => .plain | 20 => .plain | 23 => .plain | 24 => .getRevision
  | _ => .unsupported

/-- Data messages, with the number of data objects each permits (R186). -/
def dataKind (rev : BitVec 2) (n k : Nat) (w0 : Word) : MsgKind :=
  if rev = 1 ∧ n ≠ 15 ∧ 5 ≤ n then .unsupported
  else match n with
  | 1 => .sourceCaps
  | 2 => if k = 1 then .request else .unsupported
  | 4 => .plain
  | 6 => if k = 1 then .plain else .unsupported
  | 9 => if k = 2 then .request else .unsupported
  | 10 => if k = 1 then (if fld w0 24 8 = 1 then .eprEnter else if fld w0 24 8 = 5 then .eprExit else .plain) else .unsupported
  | 11 => if k = 1 then .plain else .unsupported
  | 12 => if k = 1 then .plain else .unsupported
  | 15 => vdmKind w0
  | _ => .unsupported

/-- Extended types the module takes part in; every other type is reserved or unsupported (R3, R186). -/
def extSupported (n : Nat) : Bool := n = 1 || n = 2 || n = 6 || n = 7 || n = 12 || n = 16 || n = 17

/-- The kind of a message, by the revision of its context (R173, R175, R186). -/
def kindOf (x : Port) (m : RxMsg) : MsgKind :=
  let rev := (x.ctxOf m.tgt).rev
  if m.isExt then
    let chunked := m.ext.getLsbD 15
    let size := m.ext.toNat % 512
    let n := m.ext.toNat / 2048 % 16
    if rev = 1 || !chunked then .unsupported
    else if m.ext.getLsbD 10 then .chunkRequest
    else if n = 0 && (decide (260 < size) || !extSupported m.type) then .unsupported
    else .chunk
  else if m.objs = 0 then ctlKind rev m.type
  else dataKind rev m.type m.objs (m.word 0)

/-! ### Taking a message -/

/-- A message on SOP while a decision is outstanding opens a new AMS of the partner's (R206). -/
def State.newAms (s : State) (p : PortId) : State :=
  if s.deciding p then
    (s.withdraw p).modPort p fun x => { x with pd := { x.pd with trans := none, eprStep := 0, swapMsg := none, partnerAms := false } }
  else s

/-- A non-extended message ends the chunked transfer of its context and is processed (R174). A PD_SEND whose response was coming in gets
none (R411), unless the message answers it. -/
def State.interrupt (s : State) (p : PortId) (m : RxMsg) : State :=
  match ((s.port p).ctxOf m.tgt).asm with
  | some a =>
    if m.isExt then s
    else
      let s1 := s.chunkDrop p m.tgt .discarded
      if !a.sending && m.tgt == .sop && (s.port p).pd.await == .hostResponse && !(m.objs = 0 && (m.type = 16 || m.type = 4)) then
        (s1.endSend p 0 0 2 []).modPort p Port.endOwn
      else s1
  | none => s

/-- An extended message that is not served is delivered as it came (R175, R412). -/
def State.noteUnserved (s : State) (p : PortId) (m : RxMsg) : State :=
  if m.isExt && kindOf (s.port p) m == .unsupported then
    s.modPort p fun x => x.modCtx m.tgt fun c => { c with last := some ⟨m.epoch, m.header, m.ext, m.body⟩ }
  else s

/-- Firmware takes a message: it ends the wait of a Source's own AMS (R169), a chunked transfer (R174), and a decision (R206). -/
def State.takeMsg (s : State) (p : PortId) (m : RxMsg) : State :=
  let s0 := ((s.rxTake p m).noteUnserved p m).interrupt p m
  let s1 := if m.tgt == .sop && (s0.port p).pd.powerSource then s0.modPort p (Port.endSinkTx s.now) else s0
  if m.tgt == .sop then s1.newAms p else s1.modPort p fun x => x.settlePlug m.tgt (revOf m.header)

/-- Open bytes of a reply whose contents the manual does not state (log 22). -/
def State.freeBytes (s : State) (n : Nat) : List Byte := (List.range n).map (Config.freeByte s.board.free)

/-- The message type of the response to a message that PD_SEND may send: extended, data, or none (R411). -/
def responseOf (ext : Bool) (n : Nat) : Option (Bool × Nat) :=
  if ext then (if n = 6 then some (true, 7) else none)
  else match n with
  | 7 => some (false, 1) | 8 => some (false, 4) | 17 => some (true, 1) | 18 => some (true, 2) | 20 => some (true, 12)
  | 24 => some (false, 12) | 23 => some (false, 11) | _ => none

/-- The message answers the PD_SEND under way; Not_Supported and Reject answer any. -/
def Port.answersSend (x : Port) (m : RxMsg) : Bool :=
  x.pd.await == .hostResponse && (match x.pd.send with
    | some h =>
      let hd := BitVec.ofNat 16 (rdNat h.message 0 2)
      (!m.isExt && m.objs = 0 && (m.type = 16 || m.type = 4))
        || responseOf (hExt hd || hType hd = 6 && hExt hd) (hType hd) == some (m.isExt, m.type)
    | none => false)

/-- The response in the layout of R412 from its offset 8. -/
def responseBytes (m : RxMsg) : List Byte := u16 m.header.toNat ++ u16 m.ext.toNat ++ zeros 4 ++ padTo4 m.body

def State.sendAnswered (s : State) (p : PortId) (m : RxMsg) : State :=
  ((s.endSend p 0 0 1 (responseBytes m)).modPort p fun x => (x.disarm tResponse).endOwn)

/-- Source_Capabilities on request (Get_Source_Cap, EPR_Get_Source_Cap); those of the other mode too are then the ones last sent
(R202). -/
def State.giveCaps (s : State) (p : PortId) (epr : Bool) : State :=
  let x := s.port p
  let drp := x.tc.role == 2
  if x.pd.powerSource && x.pd.contract.eprMode == epr then
    (s.modPort p fun x => { x with pd := { x.pd with partnerAms := true } }).sendCaps p
  else if !x.pd.powerSource && (epr || !drp) then s.notSupported p
  else
    let objs := buildCaps (s.classOf x) x epr
    let s1 := s.modPort p fun x =>
      let d : Pd := { x.pd with partnerAms := true }
      { x with pd := if d.powerSource then { d with unsent := some (d.unsent.getD d.sentCaps), sentCaps := objs } else d }
    let why : Purpose := if x.pd.powerSource then .capsReply else .plain
    if epr then s1.sendExt p .sop why 17 (objs.flatMap wordBytes) else s1.queueTx p .sop why (datMsg 1 objs)

def State.replyExt (s : State) (p : PortId) (type : Nat) (data : List Byte) : State :=
  (s.modPort p fun x => { x with pd := { x.pd with partnerAms := true } }).sendExt p .sop .plain type data

/-- PPS_Status with the Operating Mode Flag that follows CL_ACTIVE (R213); the rest is open (log 22). -/
def State.ppsStatusBytes (s : State) (x : Port) : List Byte :=
  s.freeBytes 3 ++ [((Config.freeByte s.board.free 3) &&& 0xF7#8) ||| (if x.pd.contract.clActive then 8 else 0)]

/-- A supported message without a command of its own (R3, R186, R187). Not_Supported in place of a VDM's response on SOP ends the VDM as
NAK without VDOs (DESIGN CHOICE, log 81: R243 names no result for it). -/
def State.servePlain (s : State) (p : PortId) (m : RxMsg) : State :=
  let x := s.port p
  let busy := x.inPower || x.pd.ownAms || x.pd.await != .none
  if m.tgt != .sop then s
  else if x.answersSend m then (s.sendAnswered p m).kick p
  else if !m.isExt && m.objs = 0 && m.type = 16 then
    (match x.pd.await with
     | .none => s
     | .swapAnswer => ((s.modPort p fun x => x.disarm tResponse).endSwapReq p 0 3).ownDone p
     | .vdmAnswer => (s.modPort p fun x => x.disarm tResponse).vdmOver p 1 []
     | _ => s.unexpected p)
  else if m.isExt && m.type = 16 && rdByte m.body 0 = 4 && x.pd.await == .keepAck then
    (s.modPort p fun x => (x.disarm tResponse).arm tKeep .sinkEprKeep (ms 375)).ownDone p
  else if busy then s.unexpected p
  else if m.isExt then
    (if m.type = 6 then (s.replyExt p 7 (wordBytes Config.vdmId ++ s.freeBytes 22)).drawn
     else if m.type = 16 && rdByte m.body 0 = 1 then s.giveCaps p true
     else if m.type = 16 && rdByte m.body 0 = 2 then s.notSupported p
     else if m.type = 16 && rdByte m.body 0 = 3 && x.pd.contract.eprMode && x.pd.powerSource then s.replyExt p 16 [4, 0]
     else s.unexpected p)
  else if m.objs = 0 then
    (match m.type with
     | 7 => s.giveCaps p false
     | 8 => if x.tc.role == 0 then s.notSupported p else s.reply p .plain (datMsg 4 (sinkObjects (s.classOf x) (x.tc.role == 2)))
     | 18 => (s.replyExt p 2 (s.freeBytes 7)).drawn
     | 20 => (s.replyExt p 12 (s.ppsStatusBytes x)).drawn
     | 23 => (s.reply p .plain (datMsg 11 [Config.freeWord s.board.free])).drawn
     | _ => s.unexpected p)
  else if m.type = 6 then s
  else s.unexpected p

/-- The Revision a partner states is kept whatever the message answers (R157). -/
def State.noteRevision (s : State) (p : PortId) (m : RxMsg) : State :=
  if m.tgt == .sop && !m.isExt && m.type = 12 && m.objs = 1 then
    s.modPort p fun x => x.modCtx .sop fun c => { c with partnerRev := m.word 0 &&& 0xFFFF0000#32 }
  else s

/-- Messages without a command of their own are served as soon as they are first in line (log 11). -/
def State.serveRows (s : State) (p : PortId) : Nat → State
  | 0 => s
  | n + 1 =>
    match s.rxHead p with
    | some m =>
      if kindOf (s.port p) m == .plain then (((s.takeMsg p m).noteRevision p m).servePlain p m).serveRows p n else s
    | none => s

/-- At most this many messages wait for a port. -/
def State.rxCount (s : State) (p : PortId) : Nat := ((s.pool.queues[(qRx (clusterOf p))]).closed.filter (carriesRx p)).length

/-- The firmware drops what it does not act on, and serves what needs no command. -/
def State.served (s : State) (p : PortId) : State := (s.dropStale p).serveRows p (s.rxCount p)

/-- PACKET_RECEIVE (R137, R138, R159, R160): one that the port's own transmission overlaps is not decoded and has no sample (R166). -/
def execPacketReceive (p : PortId) (w : WirePacket) (s : State) : Host.Outcome State Fault Refusal :=
  .next (let t0 := if s.portPowered p && !(s.port p).transmits s.now then s.claimSampler p else s
    match w.sop with
    | .sop t =>
      if (s.port p).accepts s.now w t then (t0.receive p w t).served p else if w.wellFormed || (s.port p).transmits s.now then t0 else t0.discardWindow p
    | .debug => s
    | .cableReset => s)

/-- What a message command does: it acts on the first message of the port when that is of its kind. -/
def State.onMsg (s : State) (p : PortId) (k : MsgKind) (act : State → RxMsg → State) : State :=
  match s.rxHead p with
  | some m => if kindOf (s.port p) m == k then ((act (s.takeMsg p m) m).served p).resumeAms p else s
  | none => s.dropStale p

/-! ### Requests and capabilities (R202, R219) -/

/-- A rule of SRC_REQUEST matches (R192, R195). -/
def srcRuleMatches (x : Port) (q : Req) (r : Rule) : Bool :=
  cableMeets x.pd.cable r.cableCond && maskAdmits r.pdoMask q.pos && r.vAdmits q.v10
    && (r.iHi == 0 || decide (q.i ≤ r.iHi.toNat)) && (r.pHi == 0 || decide (q.v10 * q.i ≤ r.pHi.toNat * 5000))

/-- REQUEST (R202, R172, R214). -/
def execRequest (p : PortId) (s : State) : Host.Outcome State Fault Refusal :=
  .next (s.onMsg p .request fun s m =>
    let x := s.port p
    if !(m.tgt == .sop && x.pd.powerSource && !x.inPower
        && (x.pd.await == .requestAfterCaps || (x.pd.await == .none && !x.pd.ownAms))) then s.unexpected p
    else
      let s1 := s.modPort p fun x =>
        let y := (if x.use tResponse == .senderResponse then x.disarm tResponse else x).settleSop (revOf m.header)
        { y with pd := { y.pd with await := .none, partnerAms := y.pd.partnerAms || !y.pd.ownAms } }
      let x1 := s1.port p
      let q := readRequest x1.lastCaps x1.pd.contract.eprMode (m.word 0) (if m.type = 9 then some (m.word 1) else none)
      if !q.valid then
        (s1.modPort p fun x => { x with pd := { x.pd with trans := none, rejectHard := !x.contractValid } }).reply p .reject (ctlMsg 4)
      else
        let obj := x1.lastCaps.getD (q.pos - 1) 0
        let s2 := s1.modPort p fun x =>
          let old := x.oldVI
          let tr : Transition := { source := true, pos := BitVec.ofNat 4 q.pos, type := BitVec.ofNat 3 q.type, v := q.v, i := q.i
                                   oldV := old.1, oldI := old.2, mismatch := q.mismatch, epr := q.epr, obj := obj
                                   moving := none, accepted := false, sent := false }
          let y : Port := { x with pd := { x.pd with trans := some tr, lastReqBeat := s.now, request := m.word 0 } }
          if !y.pd.contract.eprMode && y.pd.contract.type == 2 then y.arm tKeep .ppsTimeout (ms 13500) else y
        s2.atPoint p ptSrcRequest (srcRuleMatches x1 q) m.eop (m.word 0) obj)

/-- SOURCE_CAPABILITIES (R219, R172). -/
def execSourceCapabilities (p : PortId) (s : State) : Host.Outcome State Fault Refusal :=
  .next (s.onMsg p .sourceCaps fun s m =>
    let x := s.port p
    if m.tgt != .sop then s
    else if x.pd.powerSource && x.answersSend m then (s.sendAnswered p m).kick p
    else if x.pd.powerSource || x.inPower || (x.pd.await != .none && !x.answersSend m) then s.unexpected p
    else
      let s0 := if x.answersSend m then s.sendAnswered p m else s
      let s1 := s0.modPort p fun x =>
        let y := (if x.use tCaps == .sinkWaitCap || x.use tCaps == .sinkRequest then x.freeCaps s.now else x).settleSop (revOf m.header)
        { y with pd := { y.pd with rxCaps := m.words, partnerAms := true } }
      let c := s1.classOf (s1.port p)
      s1.atPoint p ptSnkSelect (snkRuleMatches c m.words) m.eop 0 0)

/-- The reverse input-current limit while a Sink transition runs is the lower current (R211). -/
def Port.sinkAccept (x : Port) : Port :=
  let q := readRequest x.pd.rxCaps false x.pd.request none
  let old := x.oldVI
  let tr : Transition := { source := false, pos := BitVec.ofNat 4 q.pos, type := BitVec.ofNat 3 q.type, v := q.v, i := q.i
                           oldV := old.1, oldI := old.2, mismatch := q.mismatch, epr := q.epr
                           obj := x.pd.rxCaps.getD (q.pos - 1) 0, moving := none, accepted := true, sent := false }
  ({ x with pd := { x.pd with trans := some tr, await := .none
                              contract := { x.pd.contract with inTransition := true } }
            stage := { x.stage with iTgt := min old.2 q.i } }).arm tPower .psTransition x.tPsTrans

/-- ACCEPT (R208, R211, R230–R235): the GoodCRC of Accept, the module's own or the one sent for the partner's, starts a
transition or a swap. -/
def execAccept (p : PortId) (s : State) : Host.Outcome State Fault Refusal :=
  .next (
    let x := s.port p
    if x.pd.accAck then
     if !s.pdRuns p then s else
      let s1 := s.modPort p fun x => { x with pd := { x.pd with accAck := false, swapMsg := none } }
      match x.pd.swapMsg with
      | some k => s1.beginSwap p k false
      | none => s1.modPort p fun x => x.beginTransition s.now
    else if x.pd.owed.isSome then s
    else s.onMsg p .accept fun s m =>
      let x := s.port p
      if m.tgt != .sop then
        (match x.pd.soft with
         | some h => if h.tgt == m.tgt then (s.endSoft p 0 0 1).modPort p (fun x => x.disarm (respTimer m.tgt)) else s
         | none => s)
      else match x.pd.await with
      | .softAccept _ => (((s.modPort p fun x => x.disarm tResponse).endSoft p 0 0 1)).afterSoft p
      | .swapAnswer =>
        (match x.pd.swapReq with
         | some r => (s.modPort p fun x => x.disarm tResponse).beginSwap p r.kind true
         | none => s.unexpected p)
      | .answerToRequest => s.modPort p fun x => (x.disarm tResponse).sinkAccept
      | _ => s.unexpected p)

/-- REJECT (R203, R224). -/
def execReject (p : PortId) (s : State) : Host.Outcome State Fault Refusal :=
  .next (s.onMsg p .reject fun s m =>
    let x := s.port p
    if m.tgt != .sop then s
    else if x.answersSend m then (s.sendAnswered p m).kick p
    else match x.pd.await with
    | .swapAnswer => ((s.modPort p fun x => x.disarm tResponse).endSwapReq p 0 1).ownDone p
    | .answerToRequest =>
      (s.modPort p fun x =>
        let y := x.disarm tResponse
        let z : Port := { y with pd := { y.pd with trans := none } }
        if z.pd.contract.pos = 0 then z.arm tCaps .sinkWaitCap (ms 465) else z).amsDone p
    | _ => s.unexpected p)

/-- WAIT (R203, R226). -/
def execWait (p : PortId) (s : State) : Host.Outcome State Fault Refusal :=
  .next (s.onMsg p .wait fun s m =>
    let x := s.port p
    if m.tgt != .sop then s
    else match x.pd.await with
    | .swapAnswer => (((s.modPort p fun x => x.disarm tResponse).armBackoff p).modPort p fun x =>
        { x with pd := { x.pd with swapReq := x.pd.swapReq.map fun r => { r with crossed := false } } }).ownDone p
    | .answerToRequest => (s.modPort p fun x => (x.disarm tResponse).arm tCaps .sinkRequest (ms 100)).amsDone p
    | _ => s.unexpected p)

/-- PS_RDY (R211, R230, R231, R235, R238), once its GoodCRC has been sent. -/
def execPsRdy (p : PortId) (s : State) : Host.Outcome State Fault Refusal :=
  .next (if (s.port p).pd.owed.isSome || !s.pdRuns p then s else s.onMsg p .psRdy fun s m =>
    let x := s.port p
    if !(m.tgt == .sop && x.expectsPsRdy) then s.unexpected p
    else match x.pd.swap, x.pd.trans with
    | some w, _ =>
      (match w.kind with
       | .pr =>
         if w.wasSource then
           ((s.updPort p fun x =>
             let y := x.disarm tPower
             let z : Port := { y with pd := { y.pd with swap := none, vbusWait := true }, tc := { y.tc with st := .attachedSnk }
                                      stage := { y.stage with runs := { y.stage.runs with sinkLow := 0 } } }
             (z.present (isService p)).arm tCaps .sinkWaitCap (ms 465)).swapDone p w.own).amsDone p
         else
           s.modPort p fun x =>
             let y := x.disarm tPower
             let z : Port := { y with pd := { y.pd with swap := some { w with step := 2, windowFrom := some s.now }, powerSource := true }
                                      stage := { y.stage with runs := { y.stage.runs with idle := 0 } } }
             { z with tc := { z.tc with pres1 := if z.tc.orient then .none else .rp z.rpLevel
                                        pres2 := if z.tc.orient then .rp z.rpLevel else .none } }
       | _ =>
         (((((s.modPort p fun x => x.disarm tPower).vconnLost p false).modPort p fun x =>
           { x with pd := { x.pd with swap := none }, tc := { x.tc with vconnGiven := true } }).swapDone p w.own).amsDone p))
    | none, some t => s.contractMade p t
    | none, none => s)

/-! ### Swaps received (R221, R222) -/

/-- The answer of R221 without a lookup: control type, or Hard Reset as 0. A PR_Swap at REV 1 on a port whose role in force is not DRP
gets Reject, by R221's table, though R6 ignores at REV 1 what it answers Not_Supported at REV 2 (DESIGN CHOICE, log 65). -/
def State.swapPrecheck (s : State) (p : PortId) (k : SwapKind) : Option Nat :=
  let x := s.port p
  let svc := match s.svc.port with | some q => q.val == p.val | none => false
  match k with
  | .pr =>
    if x.tc.role != 2 then some (if x.rev = 1 then 4 else 16)
    else if x.pd.contract.eprMode || (!x.pd.powerSource && !s.feedOn) || svc then some 4 else none
  | .dr => if x.pd.mode.isSome || (svc && !(x.tc.st == .debugAccSrc || x.tc.st == .debugAccSnk)) then some 0 else none
  | .vconn =>
    if !x.tc.vconnOn && (!x.vconnEn || !(s.cluster (clusterOf p)).vconnGood || x.tc.vconnOc) then some 4 else none

/-- Whether the port holds the role a swap concerns (R192). -/
def Port.holdsRole (x : Port) (k : SwapKind) : Bool :=
  match k with
  | .pr => x.pd.powerSource
  | .dr => x.pd.dfp
  | .vconn => x.tc.vconnOn

def swapPoint : SwapKind → Nat
  | .pr => 2 | .dr => 3 | .vconn => 4

/-- A received swap message (R221, R227). -/
def State.swapRx (s : State) (p : PortId) (k : SwapKind) (m : RxMsg) : State :=
  let x := s.port p
  if m.tgt != .sop then s
  else if x.inPower || x.pd.await != .none || x.pd.ownAms || x.pd.contract.pos = 0 then s.unexpected p
  else match s.swapPrecheck p k with
  | some 0 => s.orderHr p
  | some 16 => s.notSupported p
  | some n => (s.modPort p fun x => { x with pd := { x.pd with rejectHard := false } }).reply p .reject (ctlMsg n)
  | none =>
    (s.modPort p fun x => { x with pd := { x.pd with partnerAms := true } }).atPoint p (swapPoint k)
      (fun r => r.roleSel = 0 || (r.roleSel = 1 && x.holdsRole k) || (r.roleSel = 2 && !x.holdsRole k)) m.eop 0 0

/-- PR_SWAP (R221). -/
def execPrSwap (p : PortId) (s : State) : Host.Outcome State Fault Refusal := .next (s.onMsg p .prSwap fun s m => s.swapRx p .pr m)
/-- DR_SWAP (R221, R234). -/
def execDrSwap (p : PortId) (s : State) : Host.Outcome State Fault Refusal := .next (s.onMsg p .drSwap fun s m => s.swapRx p .dr m)
/-- VCONN_SWAP (R221, R235). -/
def execVconnSwap (p : PortId) (s : State) : Host.Outcome State Fault Refusal := .next (s.onMsg p .vconnSwap fun s m => s.swapRx p .vconn m)

/-- SOFT_RESET (R181, R206, R228, R240): the PHY has cleared the context; firmware ends what was under way and answers
Accept, unless a Hard Reset is ordered; from a plug it ends the conversation with that plug. -/
def execSoftReset (p : PortId) (s : State) : Host.Outcome State Fault Refusal :=
  .next (s.onMsg p .softReset fun s m =>
    if m.tgt != .sop then (s.endVdmOn p (fun u => u == m.tgt)).eprGo p
    else if (s.port p).pd.hrOrder.isSome then s
    else (s.softQuiet p).reply p .accept (ctlMsg 3))

/-! ### EPR (R215, R216) -/

/-- The cause of Enter Failed, or none (R215); a port in EPR mode holds no SPR contract. -/
def Port.eprCause (x : Port) : Option Nat :=
  let c := x.pd.contract
  if c.eprMode || c.pos = 0 || 8 ≤ c.pos.toNat then some 0
  else if !c.eprCapable then some 3
  else if !bit1 (x.lastCaps.headD 0) 23 then some 5 else none

/-- EPR_MODE_ENTER (R215). -/
def execEprModeEnter (p : PortId) (s : State) : Host.Outcome State Fault Refusal :=
  .next (s.onMsg p .eprEnter fun s m =>
    let x := s.port p
    if !(m.tgt == .sop && x.pd.powerSource && !x.inPower && x.pd.await == .none && !x.pd.ownAms) then s.unexpected p
    else match x.eprCause with
    | some c => s.eprFail p c
    | none => (s.modPort p fun x => { x with pd := { x.pd with eprStep := 1, reqEop := m.eop, request := m.word 0 } }).reply p .eprAck
        (datMsg 10 [eprWord 2 0]))

/-- EPR_MODE_EXIT (R216). -/
def execEprModeExit (p : PortId) (s : State) : Host.Outcome State Fault Refusal :=
  .next (s.onMsg p .eprExit fun s m =>
    let x := s.port p
    if !(m.tgt == .sop && x.pd.powerSource && x.pd.contract.eprMode && !x.inPower && x.pd.await == .none && !x.pd.ownAms) then s.unexpected p
    else if x.pd.contract.pos != 0 && decide (x.pd.contract.pos.toNat < 8) then
      ((s.updPort p fun x => Port.keepSource { x with pd := { x.pd with
        contract := { x.pd.contract with eprMode := false }, capsDue := true, capsRaise := false, capsForce := true } }).amsDone p)
    else s.sendSoft p .sop)

/-! ### Chunks (R174, R175) -/

/-- CHUNK_REQUEST (R174): the next chunk, or the transfer is abandoned. -/
def execChunkRequest (p : PortId) (s : State) : Host.Outcome State Fault Refusal :=
  .next (s.onMsg p .chunkRequest fun s m =>
    match ((s.port p).ctxOf m.tgt).asm with
    | some a =>
      let n := m.ext.toNat / 2048 % 16
      if !a.sending then s
      else if n == a.next && decide (26 * n < a.size) then
        (s.modPort p fun x => (x.modCtx m.tgt fun c => { c with chunkNum := BitVec.ofNat 4 n, asm := some { a with next := n + 1 } }).disarm
          (respTimer m.tgt)).queueTx p m.tgt .chunk (chunkMsg a.header.toNat a.size n false ((a.data.drop (26 * n)).take 26))
      else
        s.chunkDrop p m.tgt .fail
    | none => if m.tgt == .sop then s.unexpected p else s)

/-- A response awaited with tSenderResponse did not come. -/
def State.noAnswer (s : State) (p : PortId) : State :=
  match (s.port p).pd.await with
  | .requestAfterCaps | .answerToRequest | .keepAck => s.orderHr p
  | .softAccept _ => (s.endSoft p 0 0 0).orderHr p
  | .swapAnswer => (s.endSwapReq p 0 4).ownDone p
  | .hostResponse => (s.endSend p 0 0 2 []).ownDone p
  | .vdmAnswer | .none => s

/-- An assembly is discarded (R174): a PD_SEND that awaited the message has no response. -/
def State.chunkLost (s : State) (p : PortId) (t : Tgt) : State :=
  let s1 := s.chunkDrop p t .fail
  if t == .sop && (s.port p).pd.await == .hostResponse then s1.noAnswer p else s1

/-- A complete extended message is delivered (R412) and served. -/
def State.extDone (s : State) (p : PortId) (m : RxMsg) (size : Nat) (data : List Byte) : State :=
  let full : RxMsg := { m with body := data, ext := BitVec.ofNat 16 size }
  let s1 := s.modPort p fun x => x.modCtx m.tgt fun c => { c with
    asm := none, chunking := false, chunkNum := BitVec.ofNat 4 (m.ext.toNat / 2048), last := some ⟨m.epoch, m.header, BitVec.ofNat 16 size, data⟩ }
  s1.servePlain p full

/-- A message of several chunks may begin: its context's response timer carries no interval but one that the message itself ends
(R182, R187). -/
def Port.expectsChunks (x : Port) (m : RxMsg) : Bool :=
  if m.tgt == .sop then x.answersSend m || x.pd.await == .none && !x.pd.ownAms && !x.inPower else x.use (respTimer m.tgt) == .idle

/-- EXTENDED_CHUNK (R174, R187). -/
def execExtendedChunk (p : PortId) (s : State) : Host.Outcome State Fault Refusal :=
  .next (s.onMsg p .chunk fun s m =>
    let n := m.ext.toNat / 2048 % 16
    let size := m.ext.toNat % 512
    let next (z : State) (a : Assembly) : State :=
      (z.modPort p fun x => (x.modCtx m.tgt fun c => { c with chunking := true, chunkNum := BitVec.ofNat 4 n, asm := some a }).arm
        (respTimer m.tgt) .chunkResponse 6750).queueTx p m.tgt .chunkAsk (chunkMsg m.type 0 (n + 1) true [])
    if n = 0 then
      let s0 := s.chunkDrop p m.tgt .discarded
      if decide (26 < size) && !(s0.port p).expectsChunks m then (if m.tgt == .sop then s0.unexpected p else s0)
      else if size ≤ 26 then s0.extDone p m size (m.body.take size)
      else next s0 ⟨false, m.header, size, m.body.take 26, 1, .plain⟩
    else match ((s.port p).ctxOf m.tgt).asm with
    | some a =>
      if a.sending || a.next != n || hType a.header != m.type then
        s.chunkLost p m.tgt
      else
        let got := a.data ++ m.body.take (min 26 (a.size - a.data.length))
        if a.size ≤ got.length then (s.modPort p fun x => x.disarm (respTimer m.tgt)).extDone p m a.size got
        else next s { a with data := got, next := n + 1 }
    | none => s)

/-- GET_REVISION (R158): Revision 3.2, Version 1.1. -/
def execGetRevision (p : PortId) (s : State) : Host.Outcome State Fault Refusal :=
  .next (s.onMsg p .getRevision fun s m =>
    let x := s.port p
    if m.tgt != .sop then s
    else if x.inPower || x.pd.await != .none || x.pd.ownAms then s.unexpected p
    else s.reply p .plain (datMsg 12 [0x32110000#32]))

/-- UNSUPPORTED_MESSAGE (R186, R173, R175): the answer goes to the target of the message (DEDUCED, log 66). -/
def execUnsupportedMessage (p : PortId) (s : State) : Host.Outcome State Fault Refusal :=
  .next (s.onMsg p .unsupported fun s m => s.notSupportedOn p m.tgt)

/-- A message the present state does not expect (R187): what each message command itself refuses. -/
def Port.surprises (x : Port) (k : MsgKind) : Bool :=
  let idle := x.pd.await == .none && !x.pd.ownAms && !x.inPower
  match k with
  | .request => !(x.pd.powerSource && !x.inPower && (x.pd.await == .requestAfterCaps || idle))
  | .sourceCaps => x.inPower || x.pd.await != .none && x.pd.await != .hostResponse || (x.pd.powerSource && x.pd.await != .hostResponse)
  | .accept => (match x.pd.await with | .softAccept _ => false | .swapAnswer => false | .answerToRequest => false | _ => !x.pd.accAck)
  | .reject => x.pd.await != .swapAnswer && x.pd.await != .answerToRequest && x.pd.await != .hostResponse
  | .wait => x.pd.await != .swapAnswer && x.pd.await != .answerToRequest
  | .psRdy => !x.expectsPsRdy
  | .prSwap | .drSwap | .vconnSwap => !idle || x.pd.contract.pos == 0
  | .eprEnter => !idle || !x.pd.powerSource
  | .eprExit => !idle || !x.pd.powerSource || !x.pd.contract.eprMode
  | .getRevision => !idle
  | .softReset | .chunkRequest | .chunk | .svdm | .uvdm | .attention | .svcEnter | .svcExit | .svcXfer | .svcSync | .unsupported
  | .plain => false

/-- UNEXPECTED_MESSAGE (R187). -/
def execUnexpectedMessage (p : PortId) (s : State) : Host.Outcome State Fault Refusal :=
  .next (match s.rxHead p with
    | some m =>
      if m.tgt == .sop && (s.port p).surprises (kindOf (s.port p) m) then ((s.takeMsg p m).unexpected p).served p else s
    | none => s)

end Sys2Proof.Machine
end

