-- ==== Sys2Proof/Machine/PdTimers.lean ====
section
/-! DEFINITION. The Policy Engine's timers and the steps of its sequences (R169, R170, R182, R201–R240). -/

namespace Sys2Proof.Machine

/-! ### Opening an AMS (R169, R170, R201, R223) -/

/-- The first capabilities wait for power good, the window and discovery (R200, R236). -/
def Port.capsReady (x : Port) : Bool :=
  x.pd.discovered && (!x.pd.sentCaps.isEmpty || x.pd.contract.pos != 0 || (x.powerGood && decide (16 ≤ x.stage.runs.window)))

/-- A rise waits 25,000 beats after the last capabilities; a cut never does (R201). -/
def Port.capsHeld (b : Beat) (x : Port) : Bool := x.pd.capsRaise && decide (Beat.since b x.pd.capsBeat < 25000)

/-- CAPABILITY_BUILD (R198–R201, R216, R251): capabilities that are due, or the exit from EPR mode. -/
def execCapabilityBuild (p : PortId) (s : State) : Host.Outcome State Fault Refusal :=
  .next (
    let x := s.port p
    let c := s.classOf x
    if !(s.free p && x.pd.powerSource && (x.tc.st == .attachedSrc || (x.tc.st == .debugAccSrc && s.svcEnabled p)) && x.use tPower != .swapSourceStart) then s
    else if x.pd.contract.eprMode && !x.eprHolds c && decide (x.pd.contract.pos.toNat < 8) then
      s.beginAms p .sop .eprExit (datMsg 10 [eprWord 5 0])
    else if x.pd.capsDue && x.capsReady && !x.capsHeld s.now then s.beginAms p .sop .sourceCaps []
    else s)

/-- SINK_AMS_START (R170): the check passes in this beat. -/
def execSinkAmsStart (p : PortId) (s : State) : Host.Outcome State Fault Refusal :=
  .next (let x := s.port p
    if s.fw p && x.pd.start.isSome && !x.pd.powerSource && x.rev = 2 && x.sinkTxOk && !x.pd.partnerAms && !x.pd.ownAms && (s.rxHead p).isNone then
      s.launch p
    else s)

/-- SINK_FIRST_MESSAGE_WITHDRAW (R170): 1,000 beats after it was queued the message is withdrawn as TX_DISCARDED, and waits
for a fresh check. -/
def execSinkFirstMessageWithdraw (p : PortId) (s : State) : Host.Outcome State Fault Refusal :=
  .next (match (s.port p).pd.flight with
    | some f =>
      let x := s.port p
      if s.fw p && x.pd.first && !x.pd.powerSource && x.rev = 2 && f.attempts = 0 && decide (1000 ≤ Beat.since s.now f.stamp) then
        (s.txEnd p .discarded).modPort p fun x =>
          let y : Port := { x with pd := { x.pd with start := some (f.tgt, f.why, f.packet.data), ownAms := false } }
          if f.why == .swapRequest then
            { y with pd := { y.pd with swapReq := y.pd.swapReq.map fun r => { r with sent := false, attempts := r.attempts - 1 } } }
          else if f.why == .chunk then
            { y.modCtx f.tgt (fun c => { c with asm := none, chunking := false }) with pd := { y.pd with
                start := match (x.ctxOf f.tgt).asm with
                  | some a => some (f.tgt, .chunk, u16 a.header.toNat ++ a.data)
                  | none => none } }
          else y
      else s
    | none => s)

/-- SINK_TX_EXPIRY (R169): the Source's own AMS starts, unless the sink's has; a back-off that it displaced goes on (R182, R226). -/
def execSinkTxExpiry (p : PortId) (s : State) : Host.Outcome State Fault Refusal :=
  .next (if s.due p tCaps .sinkTx then
      let s1 := s.modPort p fun x => x.freeCaps s.now
      if (s.port p).pd.partnerAms || (s.rxHead p).isSome then s1 else s1.launch p
    else s)

/-- SWAP_MESSAGE_SEND (R223). -/
def execSwapMessageSend (p : PortId) (s : State) : Host.Outcome State Fault Refusal :=
  .next (match (s.port p).pd.swapReq with
    | some r =>
      if !r.sent && s.free p && (s.port p).use tCaps != .swapBackoff && (s.port p).pd.backUntil.isNone then
        s.beginAms p .sop .swapRequest (ctlMsg (match r.kind with | .pr => 10 | .dr => 9 | .vconn => 11))
      else s
    | none => s)

/-- SWAP_REQUEST_TIMEOUT (R223): 25,000 beats after acceptance nothing has been queued. -/
def execSwapRequestTimeout (p : PortId) (s : State) : Host.Outcome State Fault Refusal :=
  .next (match (s.port p).pd.swapReq with
    | some r =>
      if s.fw p && !r.sent && r.attempts = 0 && (s.port p).use tCaps != .swapBackoff && decide (25000 ≤ Beat.since s.now r.from_) then
        let mine := match (s.port p).pd.start with | some (_, .swapRequest, _) => true | _ => false
        let s1 := s.endSwapReq p 0 9
        if mine then (s1.modPort p fun x =>
          (Port.endOwn { x with pd := { x.pd with start := none } }).endSinkTx s.now).kick p
        else s1
      else s
    | none => s)

/-- SWAP_BACKOFF_EXPIRY (R226, R224). -/
def execSwapBackoffExpiry (p : PortId) (s : State) : Host.Outcome State Fault Refusal :=
  .next (if s.due p tCaps .swapBackoff then
      let s1 := s.modPort p fun x => { x.disarm tCaps with pd := { x.pd with backUntil := none } }
      match (s.port p).pd.swapReq with
      | some r =>
        if 0 < r.retries then s1.modPort p fun x => { x with pd := { x.pd with
            swapReq := some { r with retries := r.retries - 1, sent := false, crossed := false } } }
        else s1.endSwapReq p 0 (if r.crossed then 5 else 2)
      | none => s1
    else s)

/-! ### Response timers (R182, R244, R248) -/

/-- SENDER_RESPONSE_TIMEOUT (R182, R413). -/
def execSenderResponseTimeout (p : PortId) (s : State) : Host.Outcome State Fault Refusal :=
  .next (if s.due p tResponse .senderResponse then (s.modPort p fun x => x.disarm tResponse).noAnswer p
    else
      let plug (i : Fin 12) : State := (s.modPort p fun x => x.disarm i).endSoft p 0 0 0
      if s.due p tResponse1 .senderResponse then plug tResponse1
      else if s.due p tResponse2 .senderResponse then plug tResponse2 else s)

/-- CHUNK_SENDER_REQUEST_TIMEOUT (R174): the transfer is abandoned as TX_FAIL. -/
def execChunkSenderRequestTimeout (p : PortId) (t : Tgt) (s : State) : Host.Outcome State Fault Refusal :=
  .next (if s.due p (respTimer t) .chunkRequest then
      s.chunkDrop p t .fail
    else s)

/-- CHUNK_SENDER_RESPONSE_TIMEOUT (R174): the assembly is discarded, and with it the response of a PD_SEND. -/
def execChunkSenderResponseTimeout (p : PortId) (t : Tgt) (s : State) : Host.Outcome State Fault Refusal :=
  .next (if s.due p (respTimer t) .chunkResponse then s.chunkLost p t else s)

/-- VDM_SENDER_RESPONSE_TIMEOUT (R244): NO_RESPONSE. -/
def execVdmSenderResponseTimeout (p : PortId) (t : Tgt) (s : State) : Host.Outcome State Fault Refusal :=
  .next (if s.due p (respTimer t) .vdmResponse then
      (s.modPort p fun x => x.disarm (respTimer t)).vdmOver p 3 []
    else s)

/-- VDM_WAIT_MODE_TIMEOUT (R248). -/
def execVdmWaitModeTimeout (p : PortId) (s : State) : Host.Outcome State Fault Refusal :=
  .next (if s.due p tResponse .vdmWaitMode then (s.modPort p fun x => x.disarm tResponse).vdmOver p 3 [] else s)

/-- VDM_BUSY_RETRY (R244): 12,500 beats after the BUSY. -/
def execVdmBusyRetry (p : PortId) (s : State) : Host.Outcome State Fault Refusal :=
  .next (match (s.port p).pd.vdm with
    | some r =>
      (match r.busyAt with
       | some b =>
         if s.fw p ∧ 12500 ≤ Beat.since s.now b then
           (s.modPort p fun x => { x with pd := { x.pd with vdm := some { r with busyAt := none, sent := false, acked := false, ams := false } } }).kick p
         else s
       | none => s)
    | none => s)

/-- DISCOVER_IDENTITY_EXPIRY (R241): the next attempt goes out in the first beat with no AMS open. -/
def execDiscoverIdentityExpiry (p : PortId) (s : State) : Host.Outcome State Fault Refusal :=
  .next (let x := s.port p
    if s.due p tDiscover .discover then
      if x.pd.cable.state = 2 || !(x.ctxOf .sop1).vconnOk || decide (20 ≤ (x.ctxOf .sop1).discCnt) then
        s.modPort p fun x => x.disarm tDiscover
      else if x.pd.vdm.isNone && s.free p then
        (s.modPort p fun x =>
          let y := (x.disarm tDiscover).countDiscover
          { y with pd := { y.pd with vdm := some discoverReq } }).kick p
      else s
    else s)

/-! ### Capabilities and requests (R183, R203, R214) -/

/-- TYPEC_SEND_SOURCE_CAP_EXPIRY (R183, R158): Source_Capabilities again. -/
def execTypecSendSourceCapExpiry (p : PortId) (s : State) : Host.Outcome State Fault Refusal :=
  .next (if s.due p tCaps .sendSourceCap && s.free p && (s.port p).pd.powerSource then
      (s.modPort p fun x => x.disarm tCaps).beginAms p .sop .sourceCaps []
    else s)

/-- SINK_WAIT_CAP_TIMEOUT (R158, R183): Hard Reset; after nHardResetCount of them the Source is taken as non-responsive, and none
follows (DEDUCED, log 67). -/
def execSinkWaitCapTimeout (p : PortId) (s : State) : Host.Outcome State Fault Refusal :=
  .next (if s.due p tCaps .sinkWaitCap then
      let s1 := s.modPort p fun x => x.freeCaps s.now
      if 2 ≤ ((s.port p).ctxOf .sop).hrCnt then s1 else s1.orderHr p
    else s)

/-- The Request is sent again as an AMS of the Sink's own. -/
def State.requestAgain (s : State) (p : PortId) : State := s.beginAms p .sop .request (datMsg 2 [(s.port p).pd.request])

/-- SINK_REQUEST_EXPIRY (R203). -/
def execSinkRequestExpiry (p : PortId) (s : State) : Host.Outcome State Fault Refusal :=
  .next (if s.due p tCaps .sinkRequest && s.free p && !(s.port p).pd.powerSource && !(s.port p).pd.rxCaps.isEmpty then
      (s.modPort p fun x => x.freeCaps s.now).requestAgain p
    else s)

/-- PPS_REQUEST_EXPIRY (R214): the Request again at each expiry. -/
def execPpsRequestExpiry (p : PortId) (s : State) : Host.Outcome State Fault Refusal :=
  .next (if s.due p tKeep .ppsRequest && s.free p && !(s.port p).pd.powerSource then
      (s.modPort p fun x => x.arm tKeep .ppsRequest (ms 8000)).requestAgain p
    else s)

/-- PPS_TIMEOUT (R214): KEEP, or in EPR mode the beat stamp of the last valid Request. -/
def execPpsTimeout (p : PortId) (s : State) : Host.Outcome State Fault Refusal :=
  .next (let x := s.port p
    if s.due p tKeep .ppsTimeout then (s.modPort p fun x => x.disarm tKeep).orderHr p
    else if s.fw p && x.pd.contract.eprMode && x.pd.powerSource && x.pd.contract.type = 2 && decide (3375000 ≤ Beat.since s.now x.pd.lastReqBeat) then s.orderHr p
    else s)

/-- PPS_UNDERVOLTAGE (R213): 250 beats below the APDO's minimum in current-limit mode. -/
def execPpsUndervoltage (p : PortId) (s : State) : Host.Outcome State Fault Refusal :=
  .next (let x := s.port p
    if s.fw p && x.pd.powerSource && x.pd.contract.type = 2 && x.pd.contract.clActive && decide (250 ≤ x.stage.runs.ppsLow) then s.orderHr p else s)

/-- DROP_EXCESS (R218): raised at the onset. -/
def execDropExcess (p : PortId) (s : State) : Host.Outcome State Fault Refusal :=
  .next (let x := s.port p
    if s.fw p && x.pd.contract.pos != 0 && x.pd.powerSource && x.pd.contract.type != 2 && x.pd.contract.dropLimit && x.stage.runs.dropLow = 2500 then
      (s.modPort p fun x => { x with stage := { x.stage with runs := { x.stage.runs with dropLow := 2501 } } }).raisePort p 20 0
    else s)

/-- SOURCE_EPR_KEEPALIVE_TIMEOUT (R216). -/
def execSourceEprKeepaliveTimeout (p : PortId) (s : State) : Host.Outcome State Fault Refusal :=
  .next (if s.due p tKeep .sourceEprKeep then (s.modPort p fun x => x.disarm tKeep).orderHr p else s)

/-- SINK_EPR_KEEPALIVE_EXPIRY (R183): the Sink sends EPR_KeepAlive. -/
def execSinkEprKeepaliveExpiry (p : PortId) (s : State) : Host.Outcome State Fault Refusal :=
  .next (if s.due p tKeep .sinkEprKeep && s.free p then
      (s.modPort p fun x => x.disarm tKeep).beginAms p .sop .keepAlive (chunkMsg 16 2 0 false [3, 0])
    else s)

/-- SINK_EPR_ENTER_TIMEOUT (R183): the entry is abandoned with Soft Reset. -/
def execSinkEprEnterTimeout (p : PortId) (s : State) : Host.Outcome State Fault Refusal :=
  .next (if s.due p tPower .sinkEprEnter then (s.modPort p fun x => x.disarm tPower).sendSoft p .sop else s)

/-! ### Voltage transitions (R208–R211) -/

/-- SRC_TRANSITION_EXPIRY (R208, R230, R238): the setpoint begins to move at the next slot 0, or in a PR_Swap ramps to 0 V with
discharge. -/
def execSrcTransitionExpiry (p : PortId) (s : State) : Host.Outcome State Fault Refusal :=
  .next (if s.due p tPower .srcTransition && s.pdRuns p then
      s.modPort p fun x0 =>
        let x := x0.disarm tPower
        match x.pd.swap, x.pd.trans with
        | some w, _ =>
          let y : Port := { x with stage := { x.stage with vTgt := 0 }, pd := { x.pd with swap := some { w with step := 2, mark := s.now } } }
          y.discharge s.now s.feedOn
        | none, some t => { x with stage := { x.stage with vTgt := t.v, iTgt := t.i }
                                   pd := { x.pd with trans := some { t with moving := some (s.now + 1) } } }
        | none, none => x
    else s)

/-- The setpoint has reached its target (R208). -/
def Port.atTarget (x : Port) : Bool := x.stage.vRef == x.stage.vTgt * 200

/-- What PS_RDY waits for (R208): port power good alone where the voltage stays, and in PPS current-limit mode. -/
def Port.transitionDone (b : Beat) (x : Port) : Bool :=
  match x.pd.trans with
  | some t => t.accepted && t.source && !t.sent
      && (match t.moving with | some m => decide (Beat.since b m < 140737488355328) | none => false)
      && x.powerGood
      && (t.v == t.oldV || (t.type == 2 && x.pd.contract.clActive) || (x.atTarget && decide (16 ≤ x.stage.runs.window)))
  | none => false

/-- SRC_TRANSITION_COMPLETE (R208 step 3): PS_RDY is queued. -/
def execSrcTransitionComplete (p : PortId) (s : State) : Host.Outcome State Fault Refusal :=
  .next (if s.pdRuns p && (s.port p).transitionDone s.now then
      (s.modPort p fun x => { x with pd := { x.pd with trans := x.pd.trans.map fun t => { t with sent := true } } }).queueTx p .sop .psRdy (ctlMsg 6)
    else s)

/-- TRANS_FAIL (R210). -/
def execTransFail (p : PortId) (s : State) : Host.Outcome State Fault Refusal :=
  .next (match (s.port p).pd.trans with
    | some t =>
      (match t.moving with
       | some m =>
         if s.pdRuns p && t.accepted && t.source && !t.sent && decide (12500 ≤ Beat.since s.now m)
             && decide (Beat.since s.now m < 140737488355328) then
           (s.raisePort p 14 0).orderHr p
         else s
       | none => s)
    | none => s)

/-- PS_TRANSITION_TIMEOUT (R183): Hard Reset. -/
def execPsTransitionTimeout (p : PortId) (s : State) : Host.Outcome State Fault Refusal :=
  .next (if s.due p tPower .psTransition then (s.modPort p fun x => x.disarm tPower).orderHr p else s)

/-! ### PR_Swap (R229–R232) -/

/-- The running PR_Swap at a step, by the role held at its Accept. -/
def Port.prStep (x : Port) (wasSource : Bool) (n : Nat) : Bool :=
  match x.pd.swap with | some w => w.kind == .pr && w.wasSource == wasSource && w.step == n | none => false

/-- Firmware takes the PR_Swap's next step from step `n`: not once a Hard Reset is ordered or a fault reaction is pending (R238). -/
def State.prNext (s : State) (p : PortId) (wasSource : Bool) (n : Nat) : Bool :=
  s.pdRuns p && (s.port p).prStep wasSource n

def Port.setStep (n : Nat) (x : Port) : Port := { x with pd := { x.pd with swap := x.pd.swap.map fun w => { w with step := n } } }

/-- PR_SWAP_VBUS_OFF (R230 step 3). -/
def execPrSwapVbusOff (p : PortId) (s : State) : Host.Outcome State Fault Refusal :=
  .next (if s.prNext p true 2 && (s.port p).stage.vRef = 0 && (s.port p).vSafe0 then
      s.updPort p fun x =>
        let y := ((x.stageHalt).gateOff s.now).setStep 3
        { y with stage := { y.stage with disS := false, runs := { y.stage.runs with idle := 0 } } }
    else s)

/-- SWAP_FAIL (R230): step 3 has not followed within 150,000 beats of step 2. -/
def execSwapFail (p : PortId) (s : State) : Host.Outcome State Fault Refusal :=
  .next (match (s.port p).pd.swap with
    | some w =>
      if s.prNext p true 2 && decide (150000 ≤ Beat.since s.now w.mark) then
        (s.raisePort p 15 0).orderHr p
      else s
    | none => s)

/-- PR_SWAP_IDLE_HELD (R229, R230 step 4): on the active line Rp gives way to Rd, the role changes, PS_RDY is queued. -/
def execPrSwapIdleHeld (p : PortId) (s : State) : Host.Outcome State Fault Refusal :=
  .next (if s.prNext p true 3 && (s.port p).definedIdle && decide (4 ≤ (s.port p).stage.runs.idle) then
      (s.modPort p fun x =>
        let y := x.setStep 4
        { y with pd := { y.pd with powerSource := false, sinkNg := false }, tc := { y.tc with
          pres1 := if y.tc.orient then .none else .rd, pres2 := if y.tc.orient then .rd else .none } }).queueTx p .sop .psRdy (ctlMsg 6)
    else s)

/-- PS_SOURCE_ON_TIMEOUT (R230, R238, R239). -/
def execPsSourceOnTimeout (p : PortId) (s : State) : Host.Outcome State Fault Refusal :=
  .next (if s.due p tPower .psSourceOn && s.pdRuns p then s.errorRecovery p 8 else s)

/-- PR_SWAP_SINK_GATE_ON (R230 step 7): GATE on, reverse operation at the RP_SEEN level. -/
def execPrSwapSinkGateOn (p : PortId) (s : State) : Host.Outcome State Fault Refusal :=
  .next (if s.pdRuns p && (s.port p).pd.vbusWait && (s.port p).vbusPresent then
      s.modPort p fun x =>
        ({ x with pd := { x.pd with vbusWait := false }
                  stage := { x.stage with iTgt := rpSeenAmps x.tc.rpSeen } }).gateOnCmd s.now
    else s)

/-- PS_SOURCE_OFF_TIMEOUT (R231, R238). -/
def execPsSourceOffTimeout (p : PortId) (s : State) : Host.Outcome State Fault Refusal :=
  .next (if s.due p tPower .psSourceOff && s.pdRuns p then (s.modPort p fun x => x.disarm tPower).orderHr p else s)

/-- PR_SWAP_SOURCE_RAMP (R231 step 3). -/
def execPrSwapSourceRamp (p : PortId) (s : State) : Host.Outcome State Fault Refusal :=
  .next (if s.prNext p false 2 && (s.port p).definedIdle && decide (4 ≤ (s.port p).stage.runs.idle) && (s.port p).vSafe0 then
      s.modPort p fun x => (x.driveFive s.now).setStep 3
    else s)

/-- PR_SWAP_SOURCE_READY (R231 step 4). -/
def execPrSwapSourceReady (p : PortId) (s : State) : Host.Outcome State Fault Refusal :=
  .next (if s.prNext p false 3 && (s.port p).atTarget && (s.port p).powerGood && decide (16 ≤ (s.port p).stage.runs.window) then
      (s.modPort p fun x => x.setStep 4).queueTx p .sop .psRdy (ctlMsg 6)
    else s)

/-- SWAP_SOURCE_START_EXPIRY (R231 step 6): capabilities follow, after discovery where VCONN is sourced (R200). -/
def execSwapSourceStartExpiry (p : PortId) (s : State) : Host.Outcome State Fault Refusal :=
  .next (if s.due p tPower .swapSourceStart then
      let s1 := s.modPort p fun x =>
        let y := x.disarm tPower
        { y with pd := { y.pd with capsDue := true, capsRaise := false, capsForce := true } }
      if s1.free p && (s1.port p).pd.discovered then s1.beginAms p .sop .sourceCaps [] else s1
    else s)

/-- SWAP_WINDOW_EXCEEDED (R232, R238). -/
def execSwapWindowExceeded (p : PortId) (s : State) : Host.Outcome State Fault Refusal :=
  .next (match (s.port p).pd.swap with
    | some w =>
      (match w.windowFrom with
       | some b => if s.pdRuns p ∧ 120000 + 250 * fld (s.port p).cfg.swapMargin 0 8 < Beat.since s.now b then s.errorRecovery p 8 else s
       | none => s)
    | none => s)

/-! ### VCONN_Swap (R235) -/

/-- VCONN_SOURCE_TIMEOUT (R235, R238): VCONN stays on, Hard Reset. -/
def execVconnSourceTimeout (p : PortId) (s : State) : Host.Outcome State Fault Refusal :=
  .next (if s.due p tPower .vconnSource && s.pdRuns p then (s.modPort p fun x => x.disarm tPower).orderHr p else s)

/-- The running VCONN_Swap turns VCONN on and waits for it. -/
def Port.vconnTurning (x : Port) : Bool :=
  match x.pd.swap with | some w => w.kind == .vconn && !w.wasSource && w.step == 1 | none => false

/-- VCONN_SWAP_ON_CONFIRM (R235): 64 beats fully on. -/
def execVconnSwapOnConfirm (p : PortId) (s : State) : Host.Outcome State Fault Refusal :=
  .next (if s.pdRuns p && (s.port p).vconnTurning && (s.port p).tc.vconnOn && decide (64 ≤ (s.port p).stage.runs.vconnOn) then
      (s.modPort p fun x =>
        let y := ((((x.modCtx .sop1 Ctx.cable).modCtx .sop2 Ctx.cable).disarm tResponse1).disarm tResponse2).disarm tDiscover
        ({ y.syncVconn with tc := { y.tc with vconnGiven := false } }.setStep 2)).queueTx p .sop .psRdy (ctlMsg 6)
    else s)

/-- VCONN_SWAP_ON_TIMEOUT (R235): a switch that is not fully on by then: VCONN off, VCONN_OC, Hard Reset. -/
def execVconnSwapOnTimeout (p : PortId) (s : State) : Host.Outcome State Fault Refusal :=
  .next (match (s.port p).pd.swap with
    | some w =>
      if s.pdRuns p && (s.port p).vconnTurning && (s.port p).stage.runs.vconnOn = 0 && decide (2500 ≤ Beat.since s.now w.beatA) then
        ((s.vconnLost p true).raisePort p 13 0).orderHr p
      else s
    | none => s)

/-! ### Hard Reset recovery (R236, R237) -/

def Port.recovering (x : Port) (r : Recovery) : Bool := x.pd.recov == some r

/-- PS_HARD_RESET_EXPIRY (R236 step 2): the stage drives forward to 0 V with discharge, VCONN off, tSafe0V runs. -/
def execPsHardResetExpiry (p : PortId) (s : State) : Host.Outcome State Fault Refusal :=
  .next (if s.due p tPower .psHardReset && (s.port p).recovering .srcHold then
      (s.vconnLost p false).updPort p fun x =>
        let y := (x.discharge s.now s.feedOn).arm tPower .safe0v (ms 600)
        { y with pd := { y.pd with recov := some .srcFall }, stage := { y.stage with want := .forward, vTgt := 0 } }
    else s)

/-- SAFE0V_REACHED (R236 step 3). -/
def execSafe0vReached (p : PortId) (s : State) : Host.Outcome State Fault Refusal :=
  .next (if s.fw p && (s.port p).recovering .srcFall && (s.port p).vSafe0 then
      s.modPort p fun x => ({ x with pd := { x.pd with recov := some .srcWait } }).arm tPower .srcRecover (ms 800)
    else s)

/-- A recovery that cannot go on: TRANS_FAIL or SWAP_FAIL and ERROR_RECOVERY (R236). -/
def State.recoveryFail (s : State) (p : PortId) : State :=
  let code := if (s.port p).pd.recovSwap then 15 else 14
  (s.errorRecovery p 8).raisePort p code 0

/-- SAFE0V_TIMEOUT (R236): the tSafe0V limit at a Source, or at a Sink counted from tPSHardReset after the Hard Reset; the
tSafe5V limit ends the recovery likewise (log 24). -/
def execSafe0vTimeout (p : PortId) (s : State) : Host.Outcome State Fault Refusal :=
  .next (let x := s.port p
    if s.due p tPower .safe0v && x.recovering .srcFall then s.recoveryFail p
    else if s.due p tPower .safe5v && x.recovering .srcRise then s.recoveryFail p
    else match x.pd.recov with
      | some (.snkFall b) => if s.fw p ∧ ms 630 ≤ Beat.since s.now b ∧ !x.vSafe0 then s.recoveryFail p else s
      | _ => s)

/-- SRC_RECOVER_EXPIRY (R236 step 4): 5.00 V with GATE on, VCONN restored under R117. -/
def execSrcRecoverExpiry (p : PortId) (s : State) : Host.Outcome State Fault Refusal :=
  .next (if s.due p tPower .srcRecover && (s.port p).recovering .srcWait then
      s.updPort p fun x =>
        let y := ((x.driveFive s.now).arm tPower .safe5v (ms 250))
        let z : Port := { y with pd := { y.pd with recov := some .srcRise } }
        if z.vconnWanted (s.cluster (clusterOf p)).vconnGood && !z.tc.vconnOn then (z.vconnOnAt s.now).syncVconn else z
    else s)

/-- VSAFE5V_READY (R236 step 5): tNoResponse runs, and capabilities follow under R200. -/
def execVsafe5vReady (p : PortId) (s : State) : Host.Outcome State Fault Refusal :=
  .next (if s.fw p && (s.port p).recovering .srcRise && (s.port p).atTarget && (s.port p).powerGood && decide (16 ≤ (s.port p).stage.runs.window) then
      s.modPort p fun x =>
        let y := x.arm tPower .noResponse (ms 5000)
        let z : Port := { y with pd := { y.pd with recov := none, recovSwap := false, capsDue := true, capsRaise := false, discovered := true } }
        if z.tc.vconnOn && z.pd.cable.state != 2 then z.startDiscover else z
    else s)

/-- SINK_VBUS_RETURN (R236): VBUS has fallen and is back. -/
def execSinkVbusReturn (p : PortId) (s : State) : Host.Outcome State Fault Refusal :=
  .next (match (s.port p).pd.recov with
    | some (.snkRise _) =>
      if s.fw p && (s.port p).vbusPresent then
        s.modPort p fun x =>
          let y : Port := { x with pd := { x.pd with recov := none, recovSwap := false }
                                   stage := { x.stage with iTgt := rpSeenAmps x.tc.rpSeen } }
          (if y.tc.st == .debugAccSnk then y else y.gateOnCmd s.now).arm tCaps .sinkWaitCap (ms 465)
      else s
    | _ => s)

/-- SINK_RECOVERY_BOUND (R236): 481,250 beats without VBUS. -/
def execSinkRecoveryBound (p : PortId) (s : State) : Host.Outcome State Fault Refusal :=
  .next (let late (b : Beat) : State := if s.fw p ∧ 481250 ≤ Beat.since s.now b then s.dropPort p 0 8 (Port.detachSnk (isService p) s.now) else s
    match (s.port p).pd.recov with
    | some (.snkFall b) => late b
    | some (.snkRise b) => late b
    | _ => s)

/-- NO_RESPONSE_TIMEOUT (R239). -/
def execNoResponseTimeout (p : PortId) (s : State) : Host.Outcome State Fault Refusal :=
  .next (if s.due p tPower .noResponse then
      if 2 ≤ ((s.port p).ctxOf .sop).hrCnt then s.errorRecovery p 8 else (s.modPort p fun x => x.disarm tPower).orderHr p
    else s)

end Sys2Proof.Machine
end

