-- ==== Sys2Proof/Machine/Yarrow.lean ====
section
/-! DEFINITION. The Yarrow link: frames, node IDs, groups and forwarding (R324–R342). -/

namespace Sys2Proof.Machine

/-! ### Ports, queues, frames -/

def Yarrow.port (w : Yarrow) (y : YPort) : YPortSt := match y with | .ya => w.pa | .yb => w.pb
def Yarrow.modY (w : Yarrow) (y : YPort) (f : YPortSt → YPortSt) : Yarrow :=
  match y with | .ya => { w with pa := f w.pa } | .yb => { w with pb := f w.pb }
def yOther (y : YPort) : YPort := match y with | .ya => .yb | .yb => .ya
def yCode (y : YPort) : Nat := match y with | .ya => 0 | .yb => 1

/-- Q80–Q82 YA receive, transmit, transit; Q84–Q86 YB (R328). -/
def yRx (y : YPort) : QueueId := match y with | .ya => 80 | .yb => 84
def yTx (y : YPort) : QueueId := match y with | .ya => 81 | .yb => 85
def yTransit (y : YPort) : QueueId := match y with | .ya => 82 | .yb => 86

/-- The link has its supply with the main domain (R27), and the hub die is out of reset (R78). -/
def State.yarrowPowered (s : State) : Bool := s.hubRuns && s.board.mainOn

/-- The firmware of the link acts: S8 runs and is not stopped (R20, R27). -/
def State.yarrowOn (s : State) : Bool := s.yarrowPowered && s.coreReady 8 && !s.coreStopped 8

/-- A frame's header and payload (R326). -/
def frameBytes (f : YFrame) : List Byte :=
  leBytes 10 (f.dst.toNat + f.src.toNat * 2 ^ 12 + f.hops.toNat * 2 ^ 24 + f.type.toNat * 2 ^ 36 + f.flags.toNat * 2 ^ 44
    + f.seq.toNat * 2 ^ 48 + f.payload.length * 2 ^ 64) ++ f.payload

/-- A frame read back from its packet. -/
def parseFrame (bs : List Byte) : YFrame :=
  let h := rdNat bs 0 10
  { dst := BitVec.ofNat 12 h, src := BitVec.ofNat 12 (h / 2 ^ 12), hops := BitVec.ofNat 12 (h / 2 ^ 24)
    type := BitVec.ofNat 8 (h / 2 ^ 36), flags := BitVec.ofNat 4 (h / 2 ^ 44), seq := BitVec.ofNat 16 (h / 2 ^ 48)
    payload := (bs.drop 10).take (h / 2 ^ 64) }

/-- YARROW of the ready map: a port linked and a node ID held (R73, R324). -/
def State.yarrowReady (s : State) : State :=
  if (s.yarrow.pa.linked || s.yarrow.pb.linked) && s.yarrow.id != 0 then s.setReady 0x00400000#32
  else s.clearReady 0x00400000#32

/-- A frame of the module's own: SEQ, SYNC and SRC filled, on the ports `ys` (R327, R330). A module with ID 0 originates
only LINK and ID_ASSIGN (R332). -/
def State.originate (s : State) (ys : List YPort) (dst : BitVec 12) (type : Nat) (payload : List Byte) : State :=
  if s.yarrow.id == 0 && type != 1 && type != 2 then s else
  let f : YFrame := { dst := dst, src := s.yarrow.id, hops := 4000, type := BitVec.ofNat 8 type
                      flags := if s.yarrow.sync then 1 else 0, seq := s.yarrow.seq, payload := payload }
  let m := ys.foldl (fun (m : Pool) y => m.push (yTx y) (mkPacket m .none (frameBytes f))) s.pool
  { s with pool := m, yarrow := { s.yarrow with seq := s.yarrow.seq + 1, sync := false, sentN := min 1024 (s.yarrow.sentN + 1) } }

/-- On both linked ports (R327). -/
def State.originateAll (s : State) (dst : BitVec 12) (type : Nat) (payload : List Byte) : State :=
  s.originate ([YPort.ya, YPort.yb].filter fun y => (s.yarrow.port y).linked) dst type payload

/-- A new ID: SEQ restarts at 0 with SYNC (R330). -/
def Yarrow.setId (w : Yarrow) (id : BitVec 12) (src : BitVec 2) : Yarrow :=
  if w.id = id then { w with idSrc := src }
  else { w with id := id, idSrc := src, seq := 0, sync := true, sentN := 0 }

/-- The frame at the head of a port's receive queue. -/
def State.frameAt (s : State) (y : YPort) : Option YFrame :=
  if (s.pool.queues[(yRx y)]).quarantine then none
  else (s.pool.head (yRx y)).bind fun k => if k.bad then none else some (parseFrame k.data)

/-- A frame at the head of a port's receive queue that its cells show unsound is dropped (R25, R437–R439). -/
def State.dropPoisoned (s : State) (y : YPort) : State :=
  match s.pool.head (yRx y) with
  | some k => if k.bad then (s.modPool fun m => m.pop (yRx y)).found (yRx y) k.flaw else s
  | none => s

/-- The firmware takes the head frame of a port when it has type `t`, and acts by `f`. -/
def State.takeFrame (s : State) (y : YPort) (t : Nat) (f : YFrame → State → State) : State :=
  if !s.yarrowOn then s else
  match s.frameAt y with
  | some fr => if fr.type.toNat = t then f fr (s.modPool fun m => m.pop (yRx y)) else s
  | none => s.dropPoisoned y

/-! ### Groups and ledger (R334–R339) -/

/-- The group of the parameter, ROOT_EL and GROUP_BUDGET (R331). -/
def Yarrow.groupCfg (w : Yarrow) : Byte := BitVec.ofNat 8 (fld w.group 0 8)
def Yarrow.rootEl (w : Yarrow) : Bool := bit1 w.group 8
def Yarrow.budgetCfg (w : Yarrow) : Nat := fld w.groupB 0 24

/-- TERM t1 is newer than t0 (R487). -/
def termNewer (t1 t0 : Half) : Bool := 1 ≤ (t1 - t0).toNat && (t1 - t0).toNat ≤ 32767

/-- A ledger kept by rising node number. -/
def ledgerPut (e : LedgerEntry) : List LedgerEntry → List LedgerEntry
  | [] => [e]
  | x :: xs => if x.node.toNat < e.node.toNat then x :: ledgerPut e xs else if x.node = e.node then e :: xs else e :: x :: xs

def ledgerGet (l : List LedgerEntry) (n : BitVec 12) : Option LedgerEntry := l.find? fun e => e.node == n

def LedgerEntry.blank (n : BitVec 12) (g : Byte) : LedgerEntry := ⟨n, 1, g, 0, 0, 0, 0, 0⟩

/-- Beside root `id` no other entry is the root's. -/
def LedgerEntry.demote (id : BitVec 12) (e : LedgerEntry) : LedgerEntry := if e.state = 3 && e.node != id then { e with state := 1 } else e

/-- FLOOR_T and WANT_T of this module (R336), 0.5 W units. -/
def State.floorT (s : State) : Nat := s.floorTotal + s.reserve
def State.wantT (s : State) : Nat :=
  let w := if s.feed.brownout then s.floorT else s.wants.sum + s.reserve
  match s.budget.hostB with | some h => min w h | none => w

/-- Measured Source output power (R336), 0.5 W units: 0.1 mV × mA. -/
def State.usedPower (s : State) : Nat :=
  ((s.ports.toList.map fun x => if x.tc.st.isSrc && x.tc.st.attached then (x.stage.conv.vbs * x.stage.conv.ibus).toNat else 0).sum) / 5000000

/-- A REPORT of the group updates the ledger (R335, R336). -/
def Yarrow.noteReport (w : Yarrow) (now : Beat) (f : YFrame) : Yarrow :=
  if w.groupNow == 0 || (f.payload.getD 0 0) != w.groupNow then w else
  let e := (ledgerGet w.ledger f.src).getD (.blank f.src w.groupNow)
  { w with ledger := ledgerPut { e with state := if e.state = 3 then 3 else 1, flags := f.payload.getD 1 0, floorT := rdNat f.payload 4 4
                                        wantT := rdNat f.payload 8 4, last := now } w.ledger }

/-- The entries of a GRANT frame (R329). -/
def grantEntries (f : YFrame) : List (BitVec 12 × Nat) :=
  (List.range (rdByte f.payload 1)).map fun i =>
    (BitVec.ofNat 12 (rdNat f.payload (4 + 4 * i) 4), rdNat f.payload (4 + 4 * i) 4 / 4096)

/-- A GRANT of the group updates the ledger (R335). -/
def Yarrow.noteGrant (w : Yarrow) (f : YFrame) : Yarrow :=
  if w.groupNow == 0 || (f.payload.getD 0 0) != w.groupNow then w else
  { w with ledger := (grantEntries f).foldl (fun l e => ledgerPut { (ledgerGet l e.1).getD (.blank e.1 w.groupNow) with grant := e.2 } l) w.ledger }

/-- A HEARTBEAT of the group marks its sender as root (R335). -/
def Yarrow.noteHeartbeat (w : Yarrow) (f : YFrame) : Yarrow :=
  if w.groupNow == 0 || (f.payload.getD 0 0) != w.groupNow then w else
  { w with ledger := ledgerPut { (ledgerGet w.ledger f.src).getD (.blank f.src w.groupNow) with state := 3 }
             (w.ledger.map fun e => if e.state = 3 then { e with state := 1 } else e) }

/-- Listening starts, or no group is joined (R334). -/
def Yarrow.listen (w : Yarrow) (now : Beat) : Yarrow :=
  { w with gstate := if w.groupNow = 0 then .none else .listening, listenFrom := now, heard := [], root := 0, repDue := none
           scanPos := none, scan := [] }

/-- A change of GROUP at a heartbeat boundary: the old group is left, the new one joined (R339), where no TERM has been seen (DESIGN CHOICE,
log 86). -/
def Yarrow.moveGroup (w : Yarrow) (now : Beat) : Yarrow :=
  if w.groupCfg = w.groupNow then w else { { w with groupNow := w.groupCfg, ledger := [] }.listen now with termMax := 0 }

/-- A write of the group parameters: without a group there is no heartbeat, and the change acts at once (R339). -/
def Yarrow.groupWritten (w : Yarrow) (now : Beat) : Yarrow := if w.gstate = .none then w.moveGroup now else w

/-- This module becomes root with `term` (R334): its first heartbeat is due. -/
def Yarrow.claim (w : Yarrow) (now : Beat) (term : Half) : Yarrow :=
  { w with gstate := .root, root := w.id, term := term, termMax := if termNewer term w.termMax then term else w.termMax
           lastHb := now - 25000, missed := 0, decays := 0, rootLost := false, repDue := none, heard := []
           ledger := w.ledger.map (LedgerEntry.demote w.id) }

/-- A heartbeat of the group, whoever adopts it (R334, R341): its beat, and the senders of that beat. -/
def Yarrow.noteBeat (now : Beat) (src : BitVec 12) (w : Yarrow) : Yarrow :=
  { w with hbBeat := now, hbSrcs := if w.hbBeat = now then w.hbSrcs ++ [src] else [src] }

/-- The term of a heartbeat, and whether it is the present or a newer one. -/
def hbTerm (f : YFrame) : Half := BitVec.ofNat 16 (rdNat f.payload 2 2)
def Yarrow.current (w : Yarrow) (f : YFrame) : Bool := hbTerm f == w.term || termNewer (hbTerm f) w.term

/-- A heartbeat of the group that is not adopted: none has been missed up to here, and a decay under way stops where its TERM is the
present or a newer one (R334, R338). -/
def State.heardBeat (s : State) (f : YFrame) : State :=
  let stops := s.yarrow.current f
  { s with yarrow := if stops || s.yarrow.missed = 0 then { s.yarrow with lastHb := s.now, missed := 0, decays := 0 } else s.yarrow
           budget := { s.budget with decaying := s.budget.decaying && !stops } }

/-- A heartbeat adopted (R334, R336, R338): one of the present or a newer TERM stops the decay; a report may become due. -/
def State.adopt (s : State) (f : YFrame) : State :=
  let term := hbTerm f
  let w := s.yarrow
  let first := w.gstate != .member || w.root != f.src || w.term != term
  let n := if first then 1 else w.hbCount + 1
  let due := first || n % 10 == 0 || decide (4 ≤ ((s.floorT : Int) - w.lastFloor).natAbs) || decide (4 ≤ ((s.wantT : Int) - w.lastWant).natAbs)
  { s with
    yarrow := { w with gstate := .member, root := f.src, term := term, lastHb := s.now, missed := 0, decays := 0
                       rootLost := false, hbCount := n, repTerm := first
                       repDue := if due then some (s.now + BitVec.ofNat 48 (16 * (w.id.toNat % 256))) else w.repDue }
    budget := { s.budget with decaying := s.budget.decaying && !w.current f } }

/-- A member adopts a heartbeat of the present or a newer TERM: the root's, one of a newer TERM, or, of those that arrive in one beat, the
one with the lower ID (R334). -/
def Yarrow.follows (w : Yarrow) (now : Beat) (f : YFrame) : Bool :=
  let others := if w.hbBeat = now then w.hbSrcs else []
  w.current f && others.all (fun n => decide (f.src.toNat ≤ n.toNat))
    && (f.src == w.root || termNewer (hbTerm f) w.term || others.any (fun n => decide (f.src.toNat < n.toNat)))

/-- HEARTBEAT received (R334, R335, R338, R339). -/
def State.heartbeat (s : State) (f : YFrame) : State :=
  let w := s.yarrow
  let term := hbTerm f
  if w.groupNow == 0 || (f.payload.getD 0 0) != w.groupNow then s else
  let w1 := { (w.noteHeartbeat f).noteBeat s.now f.src with termMax := if termNewer term w.termMax then term else w.termMax }
  let s1 := { s with yarrow := w1 }
  if w.groupCfg != w.groupNow then (s1.heardBeat f).modYarrow fun x => x.moveGroup s.now
  else match w.gstate with
  | .listening => s1.adopt f
  | .electing => (s1.heardBeat f).modYarrow fun x => { x with heard := x.heard ++ [f.src] }
  | .root => if f.src.toNat < w.id.toNat then s1.adopt f else s1
  | .member =>
    if w.current f && w.rootEl && w.id != 0 && decide (w.id.toNat < w.root.toNat) then s1.modYarrow fun x => x.claim s.now (term + 1)
    else if w.follows s.now f then s1.adopt f
    else s1.heardBeat f
  | .none => s1

def execHeartbeat (y : YPort) (s : State) : Host.Outcome State Fault Refusal :=
  .next (s.takeFrame y 0x10 fun f t => t.heartbeat f)

/-- HEARTBEAT_SEND (R334, R337, R339): a root that has cleared its ROOT_EL yields at the boundary. FLAGS is 0. -/
def execHeartbeatSend (s : State) : Host.Outcome State Fault Refusal :=
  .next (if s.yarrowOn && s.yarrow.gstate == .root && decide (25000 ≤ Beat.since s.now s.yarrow.lastHb) then
      (if s.yarrow.groupCfg != s.yarrow.groupNow then s.modYarrow fun w => w.moveGroup s.now
       else if !s.yarrow.rootEl then s.modYarrow fun w => w.listen s.now
       else
        let granted := (s.yarrow.ledger.map LedgerEntry.grant).sum / 2
        let t := s.originateAll 4095 0x10 ([s.yarrow.groupNow, 0] ++ u16 s.yarrow.term.toNat ++ u32 s.yarrow.budgetCfg ++ u32 granted)
        t.modYarrow fun w => { w.noteBeat s.now w.id with lastHb := s.now, scanPos := some 0, scanBeat := s.now })
    else s)

/-- A decay step (R338): the grant falls by DECAY, not below FLOOR_T, and an allocation follows. -/
def State.decayStep (s : State) : State :=
  match s.budget.grantG with
  | none => s
  | some g =>
    { s with budget := Budget.want s.now { s.budget with
                grantG := some (if s.floorT < g then max s.floorT (g - fld s.budget.decay 0 16) else g), decaying := true }
             yarrow := { s.yarrow with decays := s.yarrow.decays + 1 } }

/-- HEARTBEAT_MISSED (R334, R338, R339): misses fall 31,250 beats after the last heartbeat and every 25,000 beats from there;
each is a decay step, and the third loses the root. A grant kept on leaving a group decays likewise. -/
def execHeartbeatMissed (s : State) : Host.Outcome State Fault Refusal :=
  .next (if s.yarrowOn && (s.yarrow.gstate == .member
        || (s.budget.grantG.isSome && s.yarrow.gstate != .root))
      && decide (31250 + 25000 * s.yarrow.missed ≤ Beat.since s.now s.yarrow.lastHb) then
      let t := (s.modYarrow fun w => { w with missed := w.missed + 1 }).decayStep
      if s.yarrow.gstate == .member && s.yarrow.groupCfg != s.yarrow.groupNow then t.modYarrow fun w => w.moveGroup s.now
      else if s.yarrow.gstate == .member && decide (3 ≤ s.yarrow.missed + 1) then
        (t.modYarrow fun w => { w.listen s.now with rootLost := true }).raise (devRaise 50 0 0)
      else t
    else s)

/-- LISTEN_WINDOW_END (R334, R339): a new GROUP is joined here where no heartbeat has brought its boundary; else ELECT with the newest TERM seen plus 1, or another listening window. -/
def execListenWindowEnd (s : State) : Host.Outcome State Fault Refusal :=
  .next (if s.yarrowOn && s.yarrow.gstate == .listening && decide (75000 ≤ Beat.since s.now s.yarrow.listenFrom) then
      (if s.yarrow.groupCfg != s.yarrow.groupNow then s.modYarrow fun w => w.moveGroup s.now
       else if s.yarrow.rootEl && s.yarrow.id != 0 then
        let term := s.yarrow.termMax + 1
        (s.originateAll 4095 0x11 ([s.yarrow.groupNow, 0] ++ u16 term.toNat)).modYarrow fun w =>
          { w with gstate := .electing, electFrom := s.now, heard := [], term := term }
       else s.modYarrow fun w => { w with listenFrom := s.now })
    else s)

/-- ELECT received (R334). -/
def execElect (y : YPort) (s : State) : Host.Outcome State Fault Refusal :=
  .next (s.takeFrame y 0x11 fun f t =>
    if t.yarrow.groupNow == 0 || (f.payload.getD 0 0) != t.yarrow.groupNow then t else
    let term : Half := BitVec.ofNat 16 (rdNat f.payload 2 2)
    t.modYarrow fun w => { w with termMax := if termNewer term w.termMax then term else w.termMax
                                  heard := if w.gstate == .electing then w.heard ++ [f.src] else w.heard })

/-- ELECT_WINDOW_END (R334): the lowest ID becomes root with the TERM of its ELECT. -/
def execElectWindowEnd (s : State) : Host.Outcome State Fault Refusal :=
  .next (if s.yarrowOn && s.yarrow.gstate == .electing && decide (50000 ≤ Beat.since s.now s.yarrow.electFrom) then
      (if s.yarrow.heard.all (fun n => decide (s.yarrow.id.toNat < n.toNat)) then s.modYarrow fun w => w.claim s.now w.term
       else s.modYarrow fun w => w.listen s.now)
    else s)

/-- REPORT received (R335, R336). -/
def execReport (y : YPort) (s : State) : Host.Outcome State Fault Refusal :=
  .next (s.takeFrame y 0x12 fun f t => t.modYarrow fun w => w.noteReport s.now f)

/-- REPORT_SEND (R336). -/
def execReportSend (s : State) : Host.Outcome State Fault Refusal :=
  .next (match s.yarrow.repDue with
    | none => s
    | some d =>
      if s.yarrowOn && s.yarrow.gstate == .member && (s.now == d || Beat.later s.now d) then
        (s.originateAll s.yarrow.root 0x12 ([s.yarrow.groupNow, BitVec.ofNat 8 (bw s.feed.brownout 0 + bw s.budget.short 1), 0, 0]
          ++ u32 s.floorT ++ u32 s.wantT ++ u32 s.usedPower)).modYarrow fun w =>
            { w with repDue := none, lastFloor := s.floorT, lastWant := s.wantT, repTerm := false }
      else s)

/-- A group grant takes effect, or is stored during brownout (R316, R337, R338). -/
def State.takeGrant (s : State) (g : Nat) : State :=
  if s.feed.brownout then s.modBudget fun b => { b with grantNext := some g }
  else (s.modBudget fun b => { b with grantG := some g, grantNext := none, decaying := false }.want s.now).budgetReady

/-- The grants of one GRANT frame: the entries of slice `k`, the root's own among them. -/
def sliceEntries (k : Nat) (es : List (BitVec 12 × Nat)) : List (BitVec 12 × Nat) := es.filter fun e => e.1.toNat / 64 == k

def grantPayload (group : Byte) (term : Half) (es : List (BitVec 12 × Nat)) : List Byte :=
  [group] ++ leBytes 1 es.length ++ u16 term.toNat ++ es.flatMap fun e => u32 (e.1.toNat + e.2 * 4096)

/-- The division of the group budget that a scan sends out (R337, R320), and the ledger with the root's own entry: FLOOR_T as the
floor, WANT_T as the want, a stale entry's want its floor. -/
def State.startScan (s : State) : State :=
  let own : LedgerEntry := { (ledgerGet s.yarrow.ledger s.yarrow.id).getD (.blank s.yarrow.id s.yarrow.groupNow) with
    state := 3, floorT := s.floorT, wantT := s.wantT }
  let l := ledgerPut own (s.yarrow.ledger.map (LedgerEntry.demote s.yarrow.id))
  let m := l.filter fun e => e.group == s.yarrow.groupNow
  let d := divide (2 * s.yarrow.budgetCfg) (m.map LedgerEntry.floorT) (m.map fun e => if e.state = 2 then e.floorT else max e.floorT e.wantT)
  s.modYarrow fun w => { w with ledger := l, scan := (m.map LedgerEntry.node).zip d.grants }

/-- The grants of a slice enter the ledger (R335). -/
def ledgerGrants (es : List (BitVec 12 × Nat)) (l : List LedgerEntry) : List LedgerEntry :=
  l.map fun e => match es.find? (fun g => g.1 == e.node) with | some g => { e with grant := g.2 } | none => e

/-- One step of the scan (R337): a GRANT frame where the slice holds members; the root's own grant applies directly. -/
def State.scanSlice (s : State) (k : Nat) : State :=
  let es := sliceEntries k s.yarrow.scan
  let t := if es.isEmpty then s else s.originateAll 4095 0x13 (grantPayload s.yarrow.groupNow s.yarrow.term es)
  let u := t.modYarrow fun w => { w with scanPos := if k < 63 then some (k + 1) else none, scanBeat := s.now
                                         ledger := ledgerGrants es w.ledger }
  match es.find? (fun e => e.1 == s.yarrow.id) with
  | some e => u.takeGrant e.2
  | none => u

/-- LEDGER_SCAN (R43, R337): the next 64 entries of the scan that follows a heartbeat, one step a beat; the group budget is divided at
its first. -/
def execLedgerScan (s : State) : Host.Outcome State Fault Refusal :=
  .next (match s.yarrow.scanPos with
    | none => s
    | some k =>
      if s.yarrowOn && s.yarrow.gstate == .root && s.now != s.yarrow.scanBeat then (if k = 0 then s.startScan else s).scanSlice k else s)

/-- LEDGER_STALE (R336): 750,000 beats without a report make an entry stale, 2,500,000 free it. -/
def execLedgerStale (node : Fin 4096) (s : State) : Host.Outcome State Fault Refusal :=
  .next (if s.yarrowOn && s.yarrow.gstate == .root then
      s.modYarrow fun w =>
        match ledgerGet w.ledger (BitVec.ofFin node) with
        | none => w
        | some e =>
          if e.node = w.id then w
          else if 2500000 ≤ Beat.since s.now e.last then { w with ledger := w.ledger.filter fun x => x.node != e.node }
          else if 750000 ≤ Beat.since s.now e.last then { w with ledger := ledgerPut { e with state := 2 } w.ledger }
          else w
    else s)

/-- GRANT received (R335, R337): applied with the present TERM. -/
def execGrant (y : YPort) (s : State) : Host.Outcome State Fault Refusal :=
  .next (s.takeFrame y 0x13 fun f t =>
    let u := t.modYarrow fun w => w.noteGrant f
    if u.yarrow.groupNow != 0 && (f.payload.getD 0 0) == u.yarrow.groupNow && rdNat f.payload 2 2 == u.yarrow.term.toNat
      && u.yarrow.gstate == .member then
      match (grantEntries f).find? (fun e => e.1 == u.yarrow.id) with
      | some e => u.takeGrant e.2
      | none => u
    else u)

/-! ### Reception (R324, R327–R330, R333) -/

/-- The frame counts toward its port's link (R324). -/
def YPortSt.heardFrame (now : Beat) (p : YPortSt) : YPortSt :=
  let v := min 3 (p.valid + 1)
  { p with valid := v, lastRx := now, linked := p.linked || v == 3, been := p.been || p.linked || v == 3 }

def knownType (t : Nat) : Bool := t == 1 || t == 2 || (0x10 ≤ t && t ≤ 0x13) || t == 0x20 || t == 0x21

/-- The SEQ rule of a consumed frame (R330, R489): accepted, and the record of its source. -/
def Yarrow.seqCheck (w : Yarrow) (now : Beat) (f : YFrame) : Bool × Yarrow :=
  let put (l : List Seen) : List Seen := l.filter (fun e => e.src != f.src) ++ [⟨f.src, f.seq, now⟩]
  let ok := f.flags.getLsbD 0 || (match w.seen.find? (fun e => e.src == f.src) with
    | none => true
    | some e => let d := (f.seq - e.h).toNat; 1 ≤ d && d ≤ 1024)
  (ok, if ok then { w with seen := put w.seen } else { w with seqDrop := satIncr w.seqDrop })

/-- A frame on the wire (R326, R328): the delimiter 0xA7, header and payload, and their CRC-32, its complement where the frame
must not be taken. -/
def frameWire (sound : Bool) (bs : List Byte) : List Byte :=
  0xA7 :: bs ++ wordBytes (if sound then crc32 bs else ~~~(crc32 bs))

/-- The module sends on the pair of `y` (R326). -/
def Yarrow.send (w : Yarrow) (y : YPort) (preamble : Nat) (body : List Byte) : Yarrow :=
  w.modY y fun p => { p with wire := ⟨preamble, body⟩ }

/-- An arriving frame on the other pair (R327, R328): on an idle one a preamble of 36 bits, and the frame with HOPS reduced by 1
where it is forwarded; on a busy one nothing yet. -/
def State.repeatOut (s : State) (y : YPort) (busy sound fwd : Bool) (f : YFrame) : State :=
  if busy then s
  else s.modYarrow fun w => w.send (yOther y) 36 (if fwd then frameWire sound (frameBytes { f with hops := f.hops - 1 }) else [])

/-- A frame to be forwarded that finds the other pair busy is held in the transit queue (R327). -/
def State.forward (s : State) (y : YPort) (busy : Bool) (f : YFrame) (flaw : CellObs) : State :=
  if f.hops == 0 || !busy then s
  else
    let t := s.modPool fun m => m.push (yTransit (yOther y)) { mkPacket m .none (frameBytes { f with hops := f.hops - 1 }) with flaw := flaw }
    t.modYarrow fun w => { w with heldN := satIncr w.heldN }

/-- The frame is closed into the port's receive queue for S8 (R328). -/
def State.consume (s : State) (y : YPort) (f : YFrame) (flaw : CellObs) : State :=
  let store : Pool → Pool := fun m => m.push (yRx y) { mkPacket m .none (frameBytes f) with flaw := flaw }
  if !knownType f.type.toNat || f.flags.toNat / 2 != 0 then s.modYarrow fun w => { w with unknownType := satIncr w.unknownType }
  else if f.dst == 0 then s.modPool store
  else
    let r := s.yarrow.seqCheck s.now f
    let t := { s with yarrow := r.2 }
    if r.1 then t.modPool store else t

/-- The frame's SEQ is one of the last 1,024 that this module has sent (R333). -/
def Yarrow.sentSeq (w : Yarrow) (f : YFrame) : Bool := decide ((w.seq - 1 - f.seq).toNat < w.sentN)

/-- ID_CONFLICT (R333): an ID taken by chain position is given up. -/
def State.idConflict (s : State) : State :=
  (if s.yarrow.idSrc = 2 then (s.modYarrow fun w => w.setId 0 0).yarrowReady else s).raise (devRaise 51 0 0)

/-- A frame with the module's own ID (R327, R333): stripped off the ring, or a conflict. -/
def State.ownFrame (s : State) (f : YFrame) : State :=
  if s.yarrow.sentSeq f then s.modYarrow fun w => { w with ring := true } else s.idConflict

/-- YARROW_FRAME_RECEIVE (R324, R326–R330, R333): a preamble of fewer than 24 bits begins no frame; the CRC-32 that came with the frame is
held against that of its header and payload. -/
def execYarrowFrameReceive (y : YPort) (fr : YFrame) (recv : YRecv) (outBusy : Bool) (s : State) : Host.Outcome State Fault Refusal :=
  .next (if !s.yarrowPowered || decide (recv.preamble < 24) then s else
    let crcOk := crc32 (frameBytes fr) == recv.crc
    let own := s.yarrow.id != 0 && fr.src == s.yarrow.id
    let transit := fr.dst != 0 && !own && (fr.dst == 4095 || fr.dst != s.yarrow.id)
    let s := s.repeatOut y outBusy crcOk (transit && fr.hops != 0) fr
    if !crcOk then
      s.modYarrow fun w => { (w.modY y fun p => { p with valid := if p.linked then p.valid else 0 }) with
        crcErr := satIncr w.crcErr, transitAbort := if transit && !outBusy && fr.hops != 0 then satIncr w.transitAbort else w.transitAbort }
    else
      let t := (s.modYarrow fun w => w.modY y (YPortSt.heardFrame s.now)).yarrowReady
      if fr.dst == 0 then (if own && !s.yarrow.sentSeq fr then t.idConflict else t).consume y fr recv.flaw
      else if own then t.ownFrame fr
      else if fr.dst == 4095 then (t.consume y fr recv.flaw).forward y outBusy fr recv.flaw
      else if s.yarrow.id != 0 && fr.dst == s.yarrow.id then t.consume y fr recv.flaw
      else
        let u := if !knownType fr.type.toNat || fr.flags.toNat / 2 != 0 then t.modYarrow fun w => { w with unknownType := satIncr w.unknownType }
                 else if fr.type == 0x12 then t.modYarrow fun w => w.noteReport s.now fr else t
        u.forward y outBusy fr recv.flaw)

/-- YARROW_TRANSMIT_START (R325, R328): after 32 idle bit times and the back-off, the head of the transit queue, else of the
transmit queue, goes out; carrier draws a new back-off. A frame whose pool check fails ends in the complement of its
CRC and raises TX_INTEGRITY, and POOL_PARITY where a word fails parity (R437–R439). -/
def execYarrowTransmitStart (y : YPort) (idleBits : Nat) (line : YLine) (s : State) : Host.Outcome State Fault Refusal :=
  .next (if !s.yarrowPowered || decide (idleBits < 32) || decide (0 < (s.yarrow.port y).backoff) then s else
    let transit := (s.pool.head (yTransit y)).isSome
    let q := if transit then yTransit y else yTx y
    match s.pool.head q with
    | none => s
    | some k =>
      match line with
      | .carrier =>
        let n := if transit then 1 + draw s 4 else 4 + draw s 61
        (s.modYarrow fun w => w.modY y fun p => { p with backoff := n }).drawn
      | .clear obs =>
        let o := if obs == .sound then k.flaw else obs
        let bad := k.poison || o != .sound
        let t := (s.modPool fun m => m.pop q).modYarrow fun w =>
          (w.send y (if transit then 36 else 32) (frameWire (!bad) k.data)).modY y fun p => if transit then p else { p with lastTx := s.now }
        if bad then (t.raise (devRaise 210 1 (yCode y))).found q o else t)

/-- LINK received (R324): the neighbour's ID. -/
def execLink (y : YPort) (s : State) : Host.Outcome State Fault Refusal :=
  .next (s.takeFrame y 0x01 fun f t => t.modYarrow fun w => w.modY y fun p => { p with neigh := BitVec.ofNat 12 (rdNat f.payload 0 2) })

/-- LINK_SEND (R324): 2,500 beats without a frame of the module's own on the pair. -/
def execLinkSend (y : YPort) (s : State) : Host.Outcome State Fault Refusal :=
  .next (if s.yarrowOn && decide (2500 ≤ Beat.since s.now (s.yarrow.port y).lastTx) then
      (s.originate [y] 0 0x01 (u16 s.yarrow.id.toNat ++ [0, 0])).modYarrow fun w => w.modY y fun p => { p with lastTx := s.now }
    else s)

/-- RING_BREAK's condition (R331, R342). -/
def Yarrow.ringBroken (w : Yarrow) : Bool := bit1 w.link 1 && !(w.pa.linked && w.pb.linked)

/-- YARROW_LINK (R324, R342): 7,500 beats without a valid frame. -/
def execYarrowLink (y : YPort) (s : State) : Host.Outcome State Fault Refusal :=
  .next (if s.yarrowOn && (s.yarrow.port y).linked && decide (7500 ≤ Beat.since s.now (s.yarrow.port y).lastRx) then
      let t := (s.modYarrow fun w => w.modY y fun p => { p with linked := false, valid := 0 }).yarrowReady
      t.raiseAll ([devRaise 49 (yCode y) 0] ++ (if t.yarrow.ringBroken && !s.yarrow.ringBroken then [devRaise 52 0 0] else []))
    else s)

/-! ### Node IDs (R332) -/

/-- The module starts chain assignment from `id` (R332): it takes the ID and offers the next on YB. -/
def State.startChain (s : State) (id : BitVec 12) (src : BitVec 2) : State :=
  let t := (s.modYarrow fun w => { w.setId id src with head := true }).yarrowReady
  t.originate [.yb] 0 0x02 (u16 (id.toNat + 1) ++ [0, 0])

/-- ID_ASSIGN received (R332). In a ring the frame stops at the head: the first offer that comes in on YA after a module has started a
chain is taken as its own, come round (DESIGN CHOICE, log 97). -/
def execIdAssign (y : YPort) (s : State) : Host.Outcome State Fault Refusal :=
  .next (s.takeFrame y 0x02 fun f t =>
    let offer := rdNat f.payload 0 2
    if t.yarrow.head && y == .ya then t.modYarrow fun w => { w with head := false }
    else if 4000 < offer then t else
    let u := if fld t.yarrow.node 0 12 = 0 then (t.modYarrow fun w => w.setId (BitVec.ofNat 12 offer) 2).yarrowReady else t
    u.originate [(yOther y)] 0 0x02 (u16 (offer + 1) ++ [0, 0]))

/-- RING_BREAK is raised where its condition comes to hold (R331, R342); `was`: it held before. -/
def State.ringCheck (was : Bool) (s : State) : State := if s.yarrow.ringBroken && !was then s.raise (devRaise 52 0 0) else s

/-- Yarrow at boot from its parameters (R331, R332, R334); a ring expected while no port is linked is broken (R331). -/
def State.yarrowBoot (s : State) : State :=
  let id : BitVec 12 := BitVec.ofNat 12 (fld s.yarrow.node 0 12)
  let t := if id != 0 then s.modYarrow fun w => w.setId id 1 else s
  let u := if bit1 s.yarrow.node 12 then t.startChain (if id = 0 then 1 else id) (if id = 0 then 2 else 1) else t
  ((u.modYarrow fun w => w.moveGroup s.now).yarrowReady).ringCheck false

/-- SEQ_SOURCE_EXPIRY (R489). -/
def execSeqSourceExpiry (node : Fin 4096) (s : State) : Host.Outcome State Fault Refusal :=
  .next (if !s.hubRuns || s.coreStopped 8 then s else
    s.modYarrow fun w => { w with seen := w.seen.filter fun e => !(e.src == BitVec.ofFin node && decide (750000 ≤ Beat.since s.now e.stamp)) })

/-! ### Forwarding (R340) -/

/-- A reply packet cut into FWD_REPLY frames of 1,036 bytes (R340). -/
def fragments (pkt : List Byte) : List (List Byte) :=
  let n := max 1 ((pkt.length + 1035) / 1036)
  (List.range n).map fun i => leBytes 1 (i + n * 16) ++ [0] ++ u16 pkt.length ++ (pkt.drop (1036 * i)).take 1036

/-- S8 takes one reply off Q89 and sends its frames (R328, R340); one that its cells show unsound is dropped (R25). -/
def State.sendFragments (s : State) (k : Packet) : State :=
  match k.carried with
  | .fwd node _ =>
    if k.bad then s.found qFwdOut k.flaw else (fragments k.data).foldl (fun (t : State) p => t.originateAll node 0x21 p) s
  | _ => s

/-- S8 sends what stands in Q89, while it runs (R328). -/
def State.drainFwd (s : State) : State :=
  let x := s.pool.queues[qFwdOut]
  if !s.yarrowOn || x.quarantine then s
  else x.closed.foldl State.sendFragments (s.modPool fun m => m.modQ qFwdOut fun y => { y with closed := [], popped := 0, wordErr := false })

/-- The reply to a forwarded command goes back to its origin (R340), through Q89 (R328); an empty one is a frame without a packet. -/
def State.sendFwdReply (s : State) (node : BitVec 12) (pkt : List Byte) : State :=
  if pkt.isEmpty then (fragments []).foldl (fun (t : State) p => t.originateAll node 0x21 p) s
  else (s.modPool fun m => m.push qFwdOut (mkPacket m (.fwd node false) pkt)).drainFwd

/-- The reply packet of a forwarded command, less its trailer, goes to the node whose command carried `tag`; the tag is free
again (R340). -/
def State.replyFwd (s : State) (tag : Byte) (pkt : List Byte) : State :=
  match s.yarrow.fwdFrom.find? (fun e => e.1 == tag) with
  | none => s
  | some e =>
    ((s.modYarrow fun w => { w with fwdFrom := w.fwdFrom.erase e }).modHost fun h => { h with tagsFwd := h.tagsFwd.erase tag }.quadBy .forwarded tag).sendFwdReply
      e.2 (pkt ++ wordBytes (crc32 pkt))

/-- FWD_CMD received (R340): with FWD_EN the inner packet, its CRC verified, enters Q88; else an empty reply packet says
DENIED (log 26). An inner packet that is no command packet, or whose CRC fails, is dropped without a reply (DESIGN CHOICE, log 84). -/
def execFwdCmd (y : YPort) (s : State) : Host.Outcome State Fault Refusal :=
  .next (s.takeFrame y 0x20 fun f t =>
    if !bit1 t.yarrow.link 0 then t.sendFwdReply f.src []
    else
      let n := f.payload.length
      if n < 12 ∨ 1024 < n ∨ n % 4 ≠ 0 then t
      else if crc32 (f.payload.take (n - 4)) != rdWord f.payload (n - 4) then t
      else
        let tag := f.payload.getD 1 0
        let dup := t.host.tagsFwd.contains tag || (t.pool.queues[qFwd]).closed.any (fun k => k.data.getD 1 0 == tag)
        let k := mkPacket t.pool (.fwd f.src dup) (f.payload.take (n - 4))
        let u := t.modPool fun m => m.push qFwd k
        if t.pool.takes qFwd k && !dup then u.modHost fun h => { h with tagsFwd := h.tagsFwd ++ [tag] } else u)

/-- Cells of the largest reply to YARROW_FORWARD (R340, R445). -/
def forwardCells : Nat := cellsFor (8 + 4096)

/-- The reply to YARROW_FORWARD (R340): its header echoes the command. -/
def State.fwdAnswer (s : State) (o : FwdOut) (status : Nat) (data : List Byte) : State :=
  let tag := o.header.getD 1 0
  let pkt := replyBytes 0x92 tag.toNat status ((o.header.getD 2 0).getLsbD 0) false (rdNat o.header 4 2 % 512) data
  match o.stream with
  | .host => s.modPool fun m => m.pushHeld qReply forwardCells (mkPacket m .none pkt)
  | .service => s.modPool fun m =>
      if s.svcOn then m.pushHeld qSvcOut forwardCells (mkPacket m .none pkt) else m.dropHeld qSvcOut forwardCells
  | .ended => s
  | .forwarded => s.replyFwd tag (if 4084 < data.length then replyBytes 0x92 tag.toNat 0x83 false false (rdNat o.header 4 2 % 512) [] else pkt)

/-- The forward that an FWD_REPLY frame answers (R340): the first fragment shows the inner TAG; a later one goes on from its predecessor,
with the same count and total; an empty reply names none of those its target owes. -/
def FwdOut.answeredBy (f : YFrame) (o : FwdOut) : Bool :=
  let i := rdByte f.payload 0 % 16
  o.node == f.src && (rdNat f.payload 2 2 == 0 || (if i = 0 then o.tag == f.payload.getD 5 0
    else o.frags.length == i && (match o.frags with
      | h :: _ => rdByte h 0 / 16 == rdByte f.payload 0 / 16 && rdNat h 2 2 == rdNat f.payload 2 2
      | [] => false)))

/-- FWD_REPLY received (R340): fragments are joined and the inner CRC verified. -/
def execFwdReply (y : YPort) (s : State) : Host.Outcome State Fault Refusal :=
  .next (s.takeFrame y 0x21 fun f t =>
    match t.yarrow.fwd.find? (FwdOut.answeredBy f) with
    | none => t
    | some o =>
      let rest := t.yarrow.fwd.erase o
      let i := rdByte f.payload 0 % 16
      let n := rdByte f.payload 0 / 16
      let total := rdNat f.payload 2 2
      if total = 0 then (t.modYarrow fun w => { w with fwd := rest }).fwdAnswer o 0x87 []
      else
        let frs := if i = 0 then [f.payload] else o.frags ++ [f.payload]
        if frs.length < n then t.modYarrow fun w => { w with fwd := w.fwd.map fun x => if x = o then { o with frags := frs } else x }
        else
          let pkt := (frs.map fun x => x.drop 4).flatten
          if pkt.length = total ∧ 4 ≤ total ∧ crc32 (pkt.take (total - 4)) = rdWord pkt (total - 4) then
            (t.modYarrow fun w => { w with fwd := rest }).fwdAnswer o 0 pkt
          else t.modYarrow fun w => { w with fwd := w.fwd.map fun x => if x = o then { o with frags := [] } else x })

/-- FORWARD_TIMEOUT (R340): no reply within FWD_TO. -/
def execForwardTimeout (node : Fin 4096) (s : State) : Host.Outcome State Fault Refusal :=
  .next (if !s.hubRuns || s.coreStopped 8 then s else
    match s.yarrow.fwd.find? (fun o => o.node == BitVec.ofFin node && decide (ms (fld s.yarrow.link 16 16) ≤ Beat.since s.now o.sent)) with
    | none => s
    | some o => (s.modYarrow fun w => { w with fwd := w.fwd.erase o }).fwdAnswer o 0x8A [])

/-- GSTATE of YARROW_STATUS (R341). -/
def State.gstateCode (s : State) : Nat :=
  match s.yarrow.gstate with
  | .none => 0
  | .listening => if s.budget.decaying then 5 else 1
  | .electing => 2
  | .member => if s.budget.decaying then 5 else 3
  | .root => 4

/-- YARROW_STATUS's payload (R341). -/
def State.yarrowStatusBytes (s : State) : List Byte :=
  let w := s.yarrow
  u16 w.id.toNat ++ leBytes 1 w.idSrc.toNat ++ leBytes 1 (bw w.pa.linked 0 + bw w.pb.linked 1 + bw w.ring 2)
    ++ [w.groupNow] ++ leBytes 1 s.gstateCode ++ u16 w.root.toNat ++ u16 w.term.toNat ++ u16 w.pa.neigh.toNat ++ u16 w.pb.neigh.toNat
    ++ [0, 0] ++ beatBytes w.hbBeat ++ [0, 0] ++ wordBytes w.crcErr ++ wordBytes w.unknownType ++ wordBytes w.seqDrop
    ++ wordBytes w.transitAbort ++ wordBytes w.heldN

end Sys2Proof.Machine
end

