-- ==== Sys2Proof/Machine/Crucible.lean ====
section
/-! DEFINITION. Replies to commands, and what befalls the Crucible's queues as a whole: accounting of discarded packets,
flushes, quarantine, coalescing, the change of pool with the main domain (R373–R381, R416, R422, R439–R443). -/

namespace Sys2Proof.Machine

/-! ### Replies (R374, R378, R380, R340) -/

/-- A reply for which `n` cells were reserved when the command was taken (R445). -/
def State.replyHeld (s : State) (st : Stream) (n : Nat) (hdr : List Byte) (status : Nat) (data : List Byte) : State :=
  let tag := hdr.getD 1 0
  let pkt := replyBytes (hdr.getD 0 0).toNat tag.toNat status ((hdr.getD 2 0).getLsbD 0) false (rdNat hdr 4 2 % 512) data
  match st with
  | .host => s.modPool fun m => m.pushHeld qReply n (mkPacket m .none pkt)
  | .service => s.modPool fun m => if s.svcOn then m.pushHeld qSvcOut n (mkPacket m .none pkt) else m.dropHeld qSvcOut n
  | .forwarded => s.replyFwd tag pkt
  | .ended => s

/-! ### Cells (R420, R421, R427–R429)

The cells are a view of the packets: each packet's serial number and the place of a cell in it give the cell's number (log 90). -/

/-- The 33rd bit of a stored word: even parity over all 33 (R420). -/
def parityBit (w : Word) : Bool := (List.range 32).foldl (fun a i => a != w.getLsbD i) false

/-- A word as a cell stores it. -/
def storedWord (w : Word) : BitVec 33 := BitVec.cons (parityBit w) w

/-- The length word of a packet (R429). -/
def lengthWord (k : Packet) : Nat := k.data.length + k.data.length % 4 * 2 ^ 13 + bw k.poison 16

/-- The pool CRC of a packet (R428). -/
def Packet.poolCrc (k : Packet) : Word := crc32c k.data

/-- The number of cell `i` of a packet: below 4,096 where the pool held no other cells (R420, R422, log 90). -/
def Packet.cellNo (k : Packet) (i : Nat) : Nat :=
  if k.low then (Config.cellNumber k.serial i).toNat % 4096 else (Config.cellNumber k.serial i).toNat

/-- The packet holds a cell numbered 4,096 or higher (R422). -/
def Packet.high (k : Packet) : Bool := (List.range k.cells).any fun i => decide (4096 ≤ k.cellNo i)

/-- The link word of cell `i` of a packet of queue `q` (R421). NEXT of the last cell is not valid: it is open. -/
def Packet.linkWord (q : QueueId) (k : Packet) (i : Nat) : Word :=
  BitVec.ofNat 32 (k.cellNo (i + 1) + bw (i + 1 == k.cells) 14 + bw (i == 0) 15 + bw (decide (k.cells ≤ i + k.res)) 16 + q.val * 2 ^ 24)

/-- The sixteen words of cell `i` of a closed packet (R420, R428, R429): the link word; in the first cell the length word and the pool CRC;
data, zeros after the last byte. -/
def Packet.cellWords (q : QueueId) (k : Packet) (i : Nat) : List Word :=
  let slot := if i = 0 then [BitVec.ofNat 32 (lengthWord k), k.poolCrc] else []
  let from_ := if i = 0 then 0 else 52 + 60 * (i - 1)
  k.linkWord q i :: slot ++ (List.range (15 - slot.length)).map fun j => rdWord k.data (from_ + 4 * j)

/-- The cells of a closed packet as the pool stores them, each with its number (R420). -/
def Packet.store (q : QueueId) (k : Packet) : List (Nat × List (BitVec 33)) :=
  (List.range k.cells).map fun i => (k.cellNo i, (k.cellWords q i).map storedWord)

/-- The head cell and the tail cell of a queue (R427): the first cell not yet freed, and the last one, that of an open packet
included. -/
def Queue.headCell (x : Queue) : Option Nat :=
  (x.closed.head?.map fun k => k.cellNo (freedCells x.popped)).or (x.opened.map fun o => o.packet.cellNo 0)
def Queue.tailCell (x : Queue) : Option Nat :=
  (x.opened.map fun o => o.packet.cellNo (o.packet.cells - 1)).or (x.closed.getLast?.map fun k => k.cellNo (k.cells - 1))

/-- OWNER of cell `n`: the queue that holds it, 0x7F while the cell is free (R421). -/
def Pool.owner (m : Pool) (n : Nat) : Nat :=
  ((List.finRange 128).find? fun q =>
    (m.queues[q].whole ++ (m.queues[q].opened.map OpenPacket.packet).toList).any fun k => (List.range k.cells).any fun i => k.cellNo i == n).elim
    0x7F Fin.val

/-! ### Accounting of discarded packets (R364, R381, R383, R441) -/

/-- Inbound units of a stored packet: its trailer counts (R383). -/
def unitsOf (k : Packet) : Nat := (k.data.length + 4 + 255) / 256

/-- The tag that a reply frees: none for a DUP_TAG reply (R381). -/
def replyTag (k : Packet) : Option Byte := if (k.data.getD 3 0).getLsbD 1 then none else some (k.data.getD 1 0)

/-- A reply leaves Q8 or Q15, delivered or discarded: its tag is free (R381). -/
def HostPort.freeReply (h : HostPort) (q : QueueId) (k : Packet) : HostPort :=
  match replyTag k with
  | none => h
  | some t =>
    if q = qReply then { h with tagsHost := h.tagsHost.erase t }.quadBy .host t
    else if q = qSvcOut then { h with tagsSvc := h.tagsSvc.erase t }.quadBy .service t
    else h

/-- A packet is an event rather than a reply (R373). -/
def Packet.isEvent (k : Packet) : Bool := k.data.getD 1 0 == 0

/-- A command's own tag: none where another command holds it (R381), or its session of the service mode has ended (R252). -/
def cmdTag (k : Packet) : Option Byte :=
  match k.carried with
  | .cmd true => none
  | .fwd _ true => none
  | .left => none
  | _ => some (k.data.getD 1 0)

/-- A discarded command frees its tag, and its units return (R441). -/
def HostPort.freeCommand (h : HostPort) (q : QueueId) (k : Packet) : HostPort :=
  let g := if q = qSvc || q = qFwd then h else { h with unitsUsed := h.unitsUsed - unitsOf k }
  match cmdTag k with
  | none => g
  | some t =>
    if q = qSvc then { g with tagsSvc := g.tagsSvc.erase t }
    else if q = qFwd then { g with tagsFwd := g.tagsFwd.erase t }
    else { g with tagsHost := g.tagsHost.erase t }

/-- A command handed to a cluster core and discarded from its hand-off queue is lost: its tag is free (log 70). -/
def HostPort.freeTag (h : HostPort) (st : Stream) (tag : Byte) : HostPort :=
  match st with
  | .host => { h with tagsHost := h.tagsHost.erase tag }
  | .service => { h with tagsSvc := h.tagsSvc.erase tag }
  | .forwarded => { h with tagsFwd := h.tagsFwd.erase tag }
  | .ended => h

/-- What one discarded packet of queue `q` leaves behind (R441). -/
def HostPort.discard (h : HostPort) (q : QueueId) (k : Packet) : HostPort :=
  if q = qHost || q = qUrgent || q = qSvc || q = qFwd then h.freeCommand q k
  else if q = qReply then h.freeReply q k
  else if q = qSvcOut && !k.isEvent then h.freeReply q k
  else match k.carried with | .hand st _ _ _ => h.freeTag st (k.data.getD 1 0) | _ => h

/-- A cluster's decision queue Q(19+8c). -/
def isDecQ (q : QueueId) : Bool := (List.finRange 8).any fun c => qDec c == q

/-- The cells reserved for the answers of a handed command, or for a completion on its way, that is discarded are free again. -/
def Pool.dropHand (m : Pool) (k : Packet) : Pool :=
  match k.carried with
  | .hand .host _ n d => (m.dropHeld qReply n).dropHeld qEvent d
  | .hand .service _ n d => (m.dropHeld qSvcOut n).dropHeld qSvcOut d
  | .ans .host o => m.dropHeld qEvent (completionCells o)
  | .ans .service o => m.dropHeld qSvcOut (completionCells o)
  | _ => m

/-- The first `n` closed packets of queue `q` are discarded; a decision request among them resolves to its default (R441). -/
def State.discardQ (s : State) (q : QueueId) (n : Nat) : State :=
  let ks := ((s.pool.queues[q]).closed.take n)
  let t : State := { s with host := ks.foldl (fun h k => h.discard q k) s.host
                            pool := s.pool.modQ q fun x => { x with closed := x.closed.drop n } }
  if isDecQ q then ks.foldl (fun (t : State) k => t.decisionDefault (rdNat k.data 0 2)) t
  else t.modPool fun m => ks.foldl Pool.dropHand m

/-- HCRC_ERR of the stream of a command queue (R253, R387). -/
def State.noteHcrc (s : State) (q : QueueId) (k : Packet) : State :=
  if q = qHost || q = qUrgent then s.modHost fun h => { h with hcrcErr := true }
  else if q = qSvc && k.carried != .left then s.modSvc fun v => { v with hcrc := true }
  else s

/-- A command that S8 finds poisoned is lost without a reply (R387): its units return, its tag is free, and HCRC_ERR of its stream is
set. -/
def State.loseCommand (s : State) (q : QueueId) (k : Packet) : State := (s.modHost fun h => h.discard q k).noteHcrc q k

/-! ### Flush (R416, R440) -/

/-- A command's reply after its flush: the number of closed packets discarded (R416). -/
def State.flushReply (n : Nat) (t : State) (r : Stream × List Byte) : State :=
  t.replyHeld r.1 (cellsFor 12) r.2 0 (u16 n ++ [0, 0])

/-- The flush of a queue acts: at a packet boundary of its consumer the packets opened before the request go, and the
commands that asked are answered, the first with the count and the others with 0 (R440). -/
def State.flushAct (s : State) (q : QueueId) : State :=
  match (s.pool.queues[q]).flush with
  | none => s
  | some f =>
    let n := min f.count (s.pool.queues[q]).closed.length
    let t := (s.discardQ q n).modPool fun m => m.modQ q fun x => { x with flush := none }
    match f.replies with
    | [] => t
    | r :: rs => rs.foldl (State.flushReply 0) (t.flushReply n r)

/-- A flush of `q` is requested by the command with header `hdr`: a second one while it pends is served by it; a packet held
open falls when it closes; with the consumer at a boundary it acts at once (R440). -/
def State.flushAsk (s : State) (q : QueueId) (st : Stream) (hdr : List Byte) : State :=
  let x := s.pool.queues[q]
  let t := s.modPool fun m => m.modQ q fun x => { x with
    flush := some (match x.flush with
      | some f => { f with replies := f.replies ++ [(st, hdr)] }
      | none => ⟨x.closed.length - (if 0 < x.popped then 1 else 0), [(st, hdr)]⟩)
    discardOpen := x.discardOpen || (x.opened.isSome && x.flush.isNone) }
  if 0 < x.popped then t else t.flushAct q

/-- QUEUE_FLUSH_ACT (R440). -/
def execQueueFlushAct (q : QueueId) (s : State) : Host.Outcome State Fault Refusal :=
  .next (if (s.pool.queues[q]).popped = 0 then s.flushAct q else s)

/-! ### Quarantine (R439) -/

/-- QUARANTINE_SCAN_END (R439): 64 beats after the failure the queue restarts empty; the cell whose link word failed is
retired. -/
def execQuarantineScanEnd (q : QueueId) (s : State) : Host.Outcome State Fault Refusal :=
  .next (if (s.pool.queues[q]).quarantine && decide (64 ≤ Beat.since s.now (s.pool.queues[q]).scanAt) then
      let t := s.discardQ q (s.pool.queues[q]).closed.length
      let u := t.modPool fun m => { (m.modQ q fun x => { x with quarantine := false, wordErr := false }) with retired := m.retired + 1 }
      if (u.pool.queues[q]).flush.isSome then u.flushAct q else u
    else s)

/-! ### Coalescing (R442, R443) -/

/-- The entries of one stream in port order, the device-level entry last. -/
def coalEntries (es : List CoalEntry) (service : Bool) : List CoalEntry :=
  (List.range 128).flatMap fun p => es.filter fun e => e.service == service && e.port.toNat == p

/-- The first and the last of beats that lie within half the counter's range of one another (R42). -/
def minBeat (bs : List Beat) : Beat := bs.foldl (fun a b => if a.later b then b else a) (bs.getD 0 0)
def maxBeat (bs : List Beat) : Beat := bs.foldl (fun a b => if b.later a then b else a) (bs.getD 0 0)

/-- Payload of COALESCED_COUNTS (R443). -/
def coalPayload (es : List CoalEntry) : List Byte :=
  u16 es.length ++ [0, 0] ++ beatBytes (minBeat (es.map (·.first))) ++ [0, 0] ++ beatBytes (maxBeat (es.map (·.last))) ++ [0, 0]
    ++ es.flatMap fun e => [e.port, 0] ++ e.counts.toList.flatMap u16

/-- COALESCED_COUNTS of one stream, if it holds a counter and its mask admits the code (R396, R442). -/
def Pool.sendCounts (service : Bool) (mask : Word) (m : Pool) : Pool :=
  let es := coalEntries m.coal service
  if es.isEmpty || !bit1 mask 10 then m
  else m.push (if service then qSvcOut else qEvent) (mkPacket m .none (eventBytes 0xCA 0x7F true (coalPayload es)))

/-- COALESCING_END (R442): free cells have reached WMARK + HYST. -/
def execCoalescingEnd (s : State) : Host.Outcome State Fault Refusal :=
  .next (if s.hubRuns && !s.coreStopped 8 && s.pool.coalescing && decide (s.pool.wmark + s.pool.hyst ≤ s.pool.free) then
      s.modPool fun m =>
        let n : Pool := { m with coalescing := false }
        let a := n.sendCounts false s.host.maskHost
        let b := if s.svcOn then a.sendCounts true s.host.maskSvc else a
        { b with coal := [] }
    else s)

/-! ### The pool with and without the main domain (R422, R423) -/

/-- The main domain's cells join (R422). -/
def Pool.joinMain (m : Pool) : Pool := if m.capacity = 0 then m else { m with capacity := 15856, pdReserve := 512 }

/-- The pool at a boot (R73, R422). -/
def Pool.atBoot (main : Bool) (m : Pool) : Pool :=
  if main then { m with capacity := 15856, pdReserve := 512 } else { m with capacity := 4048, pdReserve := 32 }

/-- The queue holds a cell numbered 4,096 or higher, its open packet included (R422). -/
def Queue.high (x : Queue) : Bool := (x.whole ++ (x.opened.map OpenPacket.packet).toList).any Packet.high

/-- What one queue loses with the main rails (R422): everything, its open packet included, where it holds a high cell. `room` is what the cells
0–4,095 still hold of general cells and of the PD reserve. -/
def State.loseHigh (acc : State × Nat × Nat) (q : QueueId) : State × Nat × Nat :=
  let x := acc.1.pool.queues[q]
  let g := x.general
  let r := (x.whole.map Packet.res).sum + ((x.opened.map fun o => o.packet.res).getD 0)
  if x.high || decide (acc.2.1 < g) || decide (acc.2.2 < r) then
    let t := acc.1.modPool fun m => m.modQ q (Queue.endOpen none)
    ((t.discardQ q x.whole.length).modPool fun m => m.modQ q fun y => { y with popped := 0, wordErr := false }, acc.2.1, acc.2.2)
  else (acc.1, acc.2.1 - g, acc.2.2 - r)

/-- The main rails fail: queues with high cells are discarded and cells 4,096–16,383 leave the pool (R422). -/
def State.poolLoss (s : State) : State :=
  if s.pool.capacity = 0 then s
  else
    let t := ((List.finRange 128).foldl State.loseHigh (s, 4048, 32)).1
    t.modPool fun m => { m with capacity := 4048, pdReserve := 32 }

end Sys2Proof.Machine
end

