-- ==== Sys2Proof/Machine/Stage.lean ====
section
/-! DEFINITION. The port power stages and the Loop array (chapter 11): conversions, the voltage and current loops,
regions, starts, stops, discharge, the trunk value and the stage conditions. Voltages in mV, currents in mA. -/

namespace Sys2Proof.Machine

/-! ### Parameters (R276, R277) -/

def Port.dropMax (x : Port) : Int := 20 * fld x.cfg.stage[1] 0 8
def Port.gIls (x : Port) : Int := fld x.cfg.stage[2] 0 10
def Port.vIls0 (x : Port) : Int := fld x.cfg.stage[2] 16 12
def Port.lNh (x : Port) : Nat := fld x.cfg.stage[3] 0 16
def Port.slopeFrac (x : Port) : Nat := fld x.cfg.stage[3] 16 4
def Port.leb (x : Port) : Nat := fld x.cfg.stage[3] 20 9
def Port.ilMax (x : Port) : Int := fld x.cfg.stage[4] 0 16
def Port.ilNeg (x : Port) : Int := fld x.cfg.stage[4] 16 16
def Port.slewRate (x : Port) : Nat := fld x.cfg.stage[5] 0 7
def Port.revMode (x : Port) : Bool := bit1 x.cfg.stage[6] 0
def Port.revVmax (x : Port) : Int := 500 * fld x.cfg.stage[6] 8 8
def Port.coefAt (x : Port) (i : Fin 8) : Int := (x.cfg.coef[i]).toInt

/-- The output shunt, 0.1 mΩ, and the current of a shunt conversion in µV, mA (R299; rounded to the nearest, log 19). -/
def Port.rSns (x : Port) : Nat := fld x.cfg.guard[2] 16 9
def Port.shuntMa (x : Port) (uv : Int) : Int := (20 * uv + x.rSns) / (2 * max 1 x.rSns : Nat)

/-- FSW of a cluster (R262) and its period in ns. -/
def Cluster.fsw (c : Cluster) : Nat := fld c.cfg 0 2
def periodNs (fsw : Nat) : Nat := if fsw = 0 then 8000 else if fsw = 2 then 2000 else 4000

/-! ### Conversions (R31, R32, R34, R35) -/

/-- The auxiliary item that the ADC converts for local port `a` in pass index `b`: item and position within the beat
(R34). -/
def auxItem (a b : Nat) : Option (Nat × Nat) :=
  ((List.range 4).find? fun j => (4 * b + j) % 6 == a).map fun j => ((4 * b + j) / 6, j)

/-- The update slot of a port (R31). -/
def updateSlot (p : PortId) : Nat := 12 + localIdx p / 4

/-- V_MEAS (R266). -/
def Port.vMeas (x : Port) : Int := (x.stage.conv.vbs + 5) / 10

/-- The line that the CC item converts; none in an idle position (R35). -/
def ccItem (odd : Bool) (x : Port) : Option Bool :=
  match x.tc.st with
  | .disabled | .calFailed | .errorRecovery | .lockout => none
  | .attachedSrc | .attachedSnk | .debugAccSrc | .debugAccSnk => some x.tc.orient
  | _ => some odd

/-- The hold of DISCHARGE_FAIL ends, and a gate-on still commanded is carried out (R280). -/
def Port.endGateHold (b : Beat) (x : Port) : Port :=
  let y : Port := { x with stage := { x.stage with gateHold := false } }
  if y.guard.gateWant then y.gateOnCmd b else y

/-- T_TRIP of GUARD.THERM, °C (R299). -/
def Port.tTrip (x : Port) : Int := (fld x.cfg.guard[3] 8 8 : Int) - 40

/-! ### Temperature of a thermistor (R296) -/

/-- ln 2 in 2^−40. -/
def ln2 : Nat := 762123384786

/-- ln(1 + f) for f below 1, `m` being 1 + f in 2^−40: twice the series of artanh at f ÷ (2 + f), sixteen terms. -/
def lnMant (m : Nat) : Nat :=
  let t := (m - 2 ^ 40) * 2 ^ 40 / (m + 2 ^ 40)
  let t2 := t * t / 2 ^ 40
  2 * ((List.range 16).foldl (fun (a : Nat × Nat) i => (a.1 * t2 / 2 ^ 40, a.2 + a.1 / (2 * i + 1))) (t, 0)).2

/-- ln(`num` ÷ `den`) in 2^−40, for positive numbers. -/
def lnRatio (num den : Nat) : Int :=
  let x := num * 2 ^ 40 / max 1 den
  let k := x.log2
  let m : Nat := if 40 ≤ k then x / 2 ^ (k - 40) else x * 2 ^ (40 - k)
  ((k : Int) - 40) * (ln2 : Int) + (lnMant m : Int)

/-- T of R296 in 1/65,536 °C: R_NOM in 10 Ω, B in K, the conversion in 0.1 mV, which at 100 µA is R_T in Ω. Where the formula has no
temperature, R_T being too small for its B, 1,000 °C stands (the rounding and this end: log 19). -/
def ntcTemp (rNom b : Nat) (v : Int) : Int :=
  let den : Int := 100 * (b : Int) * 2 ^ 40 + 29815 * lnRatio (max 1 v.toNat) (10 * rNom)
  if den ≤ 0 then 65536000 else 29815 * (b : Int) * 2 ^ 40 * 65536 / den - 17901158

/-- A TSN conversion in 0.1 mV (R296, R298): out of range above 2.40 V or below 10 mV. -/
def Port.takeTsn (v : Int) (x : Port) : Port :=
  let bad := decide (24000 < v) || decide (v < 100)
  let t := ntcTemp (fld x.cfg.guard[4] 0 16) (fld x.cfg.guard[4] 16 16) v
  { x with stage := { x.stage with conv := { x.stage.conv with tsn := v } }
           guard := { x.guard with
             tSens := t
             tsnBad := if !bad then 0 else if x.guard.tsnBad < 2 then x.guard.tsnBad + 1 else x.guard.tsnBad
             tsnHot := if !bad && decide (65536 * x.tTrip ≤ t) then min 2 (x.guard.tsnHot + 1) else 0 } }

/-- V(ILS) judged for ILS_FAULT (R280): outside 50–2,450 mV in two conversions while running, or more than 100 mV from
V_ILS0 in defined idle held for 4 beats. The count rests at 2 until the cause is raised. -/
def Port.takeIls (v : Int) (x : Port) : Port :=
  let running := x.stage.runs'
  let n := x.stage.runs.ilsBad
  let n' :=
    if running then (if v < 50 ∨ 2450 < v then (if n < 2 then n + 1 else n) else 0)
    else if x.definedIdle && decide (4 ≤ x.stage.runs.idle) then (if 100 < (v - x.vIls0).natAbs then max 2 n else 0)
    else n
  { x with stage := { x.stage with conv := { x.stage.conv with ils := v }, runs := { x.stage.runs with ilsBad := n' } } }

/-- Stamps of R32: VBS 0, IBUS 1, VBL 2, VBH 3, TSN 4, CC 5, SBU 6, ILS 7. -/
def Port.stamp (b : Beat) (i : Fin 8) (x : Port) : Port :=
  { x with stage := { x.stage with conv := { x.stage.conv with stamps := x.stage.conv.stamps.set i b } } }

/-- A CC item on V_CC* of its line (R35, R90), mV, and the check of R109 that it serves. -/
def Port.takeCcItem (second : Bool) (v : Int) (x : Port) : Port :=
  let c := x.stage.conv
  let w := ccStar (if second then x.tc.pres2 else x.tc.pres1) x.harn.rCc.toNat (1000 * v) / 1000
  Port.rdConversion second { x with stage := { x.stage with conv := if second then { c with cc2 := w, ccSecond := true } else { c with cc1 := w, ccSecond := false } } }

/-- States of R120 in which the sweep runs without end while SWEEP_EN is set. -/
def Tc.sweeps (t : Tc) : Bool := t.unattached || t.attachWait

/-- The sweep's present step (R120): four passes for each of indices 0 to 6, two for 7 and 8. -/
def sweepIdx (pass : Nat) : Nat := if pass < 28 then pass / 4 else 7 + (pass - 28) / 2

/-- A step that R120 skips: CC–GND while the port presents Rd, every one while R109 is in progress. -/
def Port.stepSkipped (x : Port) : Bool :=
  x.tc.rdCheck.isSome || ((sweepIdx x.moist.pass == 5 || sweepIdx x.moist.pass == 6) && (x.tc.pres1 == .rd || x.tc.pres2 == .rd))

/-- What the SBU item converts (R35). -/
inductive SbuUse where
  | idle | sweep | leak
  deriving DecidableEq, Repr

/-- A sweep runs and is not over. -/
def Port.sweeping (x : Port) : Bool := x.moist.running && decide (x.moist.pass < 32) && (x.tc.st.sweeps || x.tc.st == .dryWait)

def sbuUse (odd : Bool) (x : Port) : SbuUse :=
  if x.sweeping then (if x.stepSkipped then .idle else .sweep)
  else if x.tc.st.pd && !odd then .leak
  else .idle

/-- A pass of the sweep has gone by: its step measured, or skipped (R120). -/
def Port.sweepPass (x : Port) : Port :=
  if !x.sweeping then x
  else
    let i := sweepIdx x.moist.pass
    { x with moist := { x.moist with pass := x.moist.pass + 1
                                     skipped := if x.stepSkipped && !x.moist.skipped.contains i then x.moist.skipped ++ [i] else x.moist.skipped } }

/-- A leakage conversion of an SBU line, mV (R124): each line every other even pass. -/
def Port.takeLeak (v : Int) (x : Port) : Port :=
  let second := x.moist.leakLine
  let n := x.moist.leakRun.get (if second then 1 else 0)
  { x with stage := { x.stage with conv := { x.stage.conv with sbu := v } }
           moist := { x.moist with
             leakLine := !second
             leakRun := x.moist.leakRun.set (if second then 1 else 0) (if !x.leakEn || v < 4000 then 0 else if n < 2 then n + 1 else n)
               (by split <;> decide) } }

/-- The SBU item (R35, R120, R124). -/
def Port.takeSbu (odd : Bool) (v : Int) (x : Port) : Port :=
  match sbuUse odd x with
  | .sweep => Port.sweepPass { x with stage := { x.stage with conv := { x.stage.conv with sbu := v } } }
  | .leak => x.takeLeak v
  | .idle => x.sweepPass

/-- The item's position is an idle one, which the Planish engine uses (R35, R155). -/
def auxIdle (odd : Bool) (item : Nat) (x : Port) : Bool :=
  (item == 3 && (ccItem odd x).isNone) || (item == 4 && sbuUse odd x == .idle)

/-- One auxiliary conversion (R34, R35, R266): VBL, VBH, TSN, CC, SBU, ILS average, with its beat stamp (R32). -/
def Port.takeAux (b : Beat) (odd : Bool) (item : Nat) (v : Int) (x : Port) : Port :=
  let c := x.stage.conv
  match item with
  | 0 =>
    let y : Port := Port.stamp b 2 { x with stage := { x.stage with conv := { c with vbl := v }, delta := v - x.vMeas } }
    if y.stage.gateHold && decide (v < 800) then y.endGateHold b else y
  | 1 => Port.stamp b 3 { x with stage := { x.stage with conv := { c with vbh := v } } }
  | 2 => (x.takeTsn v).stamp b 4
  | 3 => (match ccItem odd x with | some second => (x.takeCcItem second v).stamp b 5 | none => x)
  | 4 => if auxIdle odd 4 x then x.takeSbu odd v else (x.takeSbu odd v).stamp b 6
  | _ => (x.takeIls v).stamp b 7

/-- The ADC that converts for a port uses an idle position of the port (R155). -/
def State.idleAdc (s : State) (p : PortId) (v : Int) : State :=
  s.modCluster (clusterOf p) fun k => k.modAdc (localIdx p ≥ 6) (Adc.idlePosition s.now v)

/-! ### What the stage is told to do (R270, R274) -/

/-- Reverse operation runs only so (R274): as Sink in ATTACHED_SNK, a feed set, MODE 1, GATE commanded on and free to be on. -/
def Port.reverseWanted (feed : Bool) (x : Port) : Bool :=
  x.tc.st == .attachedSnk && x.guard.gateWant && !x.stage.gateHold && x.guard.gst != .tripped && x.guard.gst != .locked && feed && x.revMode
    && !x.pd.powerSource

/-- MODE as latched. -/
def Port.wants (feed : Bool) (x : Port) : StageMode :=
  if x.reverseWanted feed then .reverse else if x.stage.want == .forward then .forward else .idle

/-- A start that waits (R272, R278). -/
def Port.startPending (feed : Bool) (x : Port) : Bool := x.stage.mode == .idle && x.wants feed != .idle

/-- A discharge run has begun its first period (R273). -/
def Port.disBegun (b : Beat) (x : Port) : Bool := x.stage.disRun && !(x.stage.startAt.later b)

/-- The trunk value is valid: delivered within the last four beats (R275). -/
def FeedDie.trunkValid (f : FeedDie) : Bool := f.trunkSeen && decide (f.trunkAge < 4)

/-! ### The loops (R265–R269, R274) -/

/-- 48-bit saturation (R267). -/
def sat48 (v : Int) : Int := clampInt (-(2 ^ 47)) (2 ^ 47 - 1) v

/-- Rounding of the accumulator (R267). -/
def q20 (acc : Int) : Int := sat48 (acc + 524288) / 1048576

/-- The recursion of R267 before its clamp; `e` is the new error. -/
def Port.compensate (x : Port) (e : Int) : Int :=
  let g := x.stage
  let terms := [x.coefAt 0 * e, x.coefAt 1 * g.e[0], x.coefAt 2 * g.e[1], x.coefAt 3 * g.e[2],
    -(x.coefAt 4 * g.y[0]), -(x.coefAt 5 * g.y[1]), -(x.coefAt 6 * g.y[2])]
  q20 (terms.foldl (fun acc t => sat48 (acc + t)) 0)

/-- V_REF moves toward the target by at most RATE (R271); 0.1 mV. -/
def slewRef (rate tgt ref : Nat) : Nat :=
  if ref < tgt then min tgt (ref + 10 * rate) else max tgt (ref - 10 * rate)

/-- V_REF and the hold of the window basis through a downward move and 12,500 beats after it (R271, R282). -/
def Port.slew (b : Beat) (x : Port) : Port :=
  let new := slewRef x.slewRate (x.stage.vTgt * 200) x.stage.vRef
  let held := x.guard.vHoldUntil.later b
  let y : Port := { x with stage := { x.stage with vRef := new } }
  if new < x.stage.vRef then
    { y with guard := { y.guard with vHold := if held then max x.guard.vHold x.stage.vRef else x.stage.vRef
                                     vHoldUntil := b + 12500 } }
  else y

/-- VBL_est (R266). -/
def Port.vblEst (x : Port) : Int := x.vMeas + x.stage.delta

/-- A PPS contract as Source: the current-limit mode is open (R213). -/
def Port.ppsSource (x : Port) : Bool := x.pd.contract.type == 2 && x.pd.contract.pos != 0 && x.pd.powerSource

/-- What the forward loop regulates (R266): V_MEAS; VBL while step 4 of the harness calibration runs (R93). -/
def Port.regulated (x : Port) : Int := if x.harn.step.isSome then x.stage.conv.vbl else x.vMeas

/-- The forward update (R266–R269): the clamps, the drop clamp, the current-limit mode and the command. With the trunk value
missing the clamps stay as they were (R275). -/
def Port.forwardLoop (stale : Bool) (x : Port) : Port :=
  let g := x.stage
  let ref : Int := g.vRef / 10
  let e := clampInt (-32768) 32767 (ref - x.regulated)
  let above := decide (ref + x.dropMax < x.vblEst)
  let under := decide (x.vblEst ≤ ref + x.dropMax - 100)
  let drop := if stale then x.pd.contract.dropLimit else above || (x.pd.contract.dropLimit && !under)
  let lo := if stale then g.yLo else -x.ilNeg
  let hi := if stale then g.yHi else if above then min x.ilMax g.y[0] else x.ilMax
  let iop : Int := 10 * g.iTgt
  let enter := x.ppsSource && !x.pd.contract.clActive && decide (iop + 50 < g.conv.ibus)
  let cl := x.ppsSource && (x.pd.contract.clActive || enter)
  let seed := if enter then g.y[0] else g.yI
  let yI := if cl then clampInt lo hi (seed + q20 (sat48 (x.coefAt 7 * (iop - g.conv.ibus)))) else g.yI
  let hiV := if cl then min hi yI else hi
  let y := clampInt lo hiV (x.compensate e)
  let exit := cl && decide (y * iop < yI * (iop - 100))
  let cmd := if cl && !exit then yI else y
  { x with
    stage := { g with e := #v[e, g.e[0], g.e[1]], y := #v[y, g.y[0], g.y[1]], yI := yI, yLo := lo, yHi := hi, dacNext := cmd, dac := cmd
                      clMode := cl && !exit, satNow := decide (hiV ≤ cmd) }
    pd := { x.pd with contract := { x.pd.contract with clActive := cl && !exit, dropLimit := drop } } }

/-- The reverse input-current limit (R112, R211), mA. -/
def Port.revLimit (x : Port) : Nat :=
  if x.pd.contract.pos != 0 || x.pd.trans.isSome || x.pd.swap.isSome then 10 * x.stage.iTgt else 10 * rpSeenAmps x.tc.rpSeen

/-- The reverse command regulates −IBUS to I_T (R274): the limit, source protection, the trunk clamp. A lower limit acts at once, and in
the ramp of R231 by 500 mA a beat; a limit that R211 raises comes by 500 mA a beat, and one of R112 at once (R274 names R211 and R231
alone). -/
def Port.reverseLoop (vt : Int) (x : Port) : Port :=
  let g := x.stage
  let lim := x.revLimit
  let iT := if lim < g.iT then (if x.pd.swap.isSome then max lim (g.iT - 500) else lim)
            else if x.pd.contract.pos != 0 || x.pd.trans.isSome then min lim (g.iT + 500) else lim
  let v : Int := if x.pd.contract.pos != 0 then 20 * x.pd.contract.vSet else 5000
  let prot := if x.vMeas * 100 < 95 * v then min iT (g.iProt + 500) else min iT (g.iProt - 500)
  let net : Int := (iT : Int) - prot
  let i := if vt ≤ x.revVmax then net else if x.revVmax + 1000 ≤ vt then 0 else net * (x.revVmax + 1000 - vt) / 1000
  let yI := clampInt (-x.ilMax) x.ilNeg (g.y[0] + q20 (sat48 (x.coefAt 7 * (-i - g.conv.ibus))))
  { x with stage := { g with y := #v[yI, g.y[0], g.y[1]], yI := yI, iT := iT, iProt := prot, dacNext := yI, dac := yI
                             yLo := -x.ilMax, yHi := x.ilNeg, satNow := decide (x.ilNeg ≤ yI) } }

/-- M of R258's section as numerator and denominator. -/
def Port.ratio (vt : Int) (x : Port) : Int × Int := if x.stage.mode == .reverse then (vt, x.vblEst) else (x.vblEst, vt)

/-- The region at a start, without hysteresis (R260). -/
def startRegion (num den : Int) : Region :=
  if num * 1000 < 825 * den then .buck else if num * 1000 < 1175 * den then .buckBoost else .boost

/-- The region decision of a beat (R260): hysteresis, and a dwell of 16 beats after the region was entered but for a change upward
while every charging phase ends at its bound. -/
def Port.regionStep (b : Beat) (stale : Bool) (vt : Int) (x : Port) : Port :=
  let g := x.stage
  let m := x.ratio vt
  let next : Region := match g.region with
    | .buck => if 85 * m.2 ≤ m.1 * 100 then .buckBoost else .buck
    | .buckBoost => if m.1 * 100 ≤ 80 * m.2 then .buck else if 120 * m.2 ≤ m.1 * 100 then .boost else .buckBoost
    | .boost => if m.1 * 100 ≤ 115 * m.2 then .buckBoost else .boost
  let up := next == .boost || (next == .buckBoost && g.region == .buck)
  if !stale && next != g.region && (decide (16 ≤ Beat.since b g.regionAt) || (up && g.headroomNow)) then
    { x with stage := { g with region := next, regionAt := b } }
  else x

/-- S_e before its limits, rounded up (R265). -/
def Port.slopeRaw (vt : Int) (x : Port) : Int :=
  let out := if x.stage.mode == .reverse then vt else x.vblEst
  let inp := if x.stage.mode == .reverse then x.vblEst else vt
  let off := if x.stage.region == .boost then out - inp else out
  0 - (-((x.slopeFrac : Int) * x.gIls * off) / (16 * max 1 x.lNh : Nat))

/-- S_e (R265), limited to 0–4,095; SLOPE_SAT while a limit acts. -/
def Port.slopeStep (vt : Int) (x : Port) : Port :=
  let raw := x.slopeRaw vt
  { x with stage := { x.stage with slope := (clampInt 0 4095 raw).toNat, slopeSat := decide (raw < 0) || decide (4095 < raw) } }

/-- DAC code of a command (R264). -/
def Port.dacCode (x : Port) (y : Int) : Nat :=
  (clampInt 0 1023 ((20 * (1000 * x.vIls0 + x.gIls * y) + 24414) / 48828)).toNat

/-! ### The window, the drift check and the other per-beat counts -/

/-- A count of beats: one more while `on`, resting at `stop` until the event that raises it moves it past. -/
def runTo (on : Bool) (stop n : Nat) : Nat := if !on then 0 else if n < stop then n + 1 else n

/-- V_DISC of a Sink (R111, R211), in mV. -/
def Port.vDisc (b : Beat) (x : Port) : Int :=
  let v : Nat := match x.pd.trans with
    | some t => min t.oldV t.v
    | none => if x.pd.contract.pos = 0 then 250 else if x.pd.contract.oldUntil.later b then min x.pd.contract.oldV x.pd.contract.vSet else x.pd.contract.vSet
  max 2400 ((734 * v * 20 / 1000 : Nat) : Int)

/-- The drift check runs (R99, R209, R230). -/
def Port.driftChecked (b : Beat) (x : Port) : Bool :=
  x.pd.contract.pos != 0 && !x.pd.contract.inTransition && !(x.pd.contract.oldUntil.later b) && !x.pd.contract.clActive
    && !(match x.pd.swap with | some w => w.kind == .pr | none => false)

/-- Counts of consecutive beats after the update (R99, R111, R207, R213, R218, R273, R280). -/
def Port.countRuns (b : Beat) (vt : Option Int) (x : Port) : Port :=
  let g := x.stage
  let r := g.runs
  let vm := x.vMeas
  let tgt : Int := 200 * g.vTgt
  let tol := max (tgt * 3 / 100) 1000
  let inside := decide ((g.conv.vbs - tgt).natAbs ≤ tol.natAbs)
  let running := g.mode != .idle
  let c := x.pd.contract
  let drift := x.driftChecked b
    && decide (3 * g.conv.ibus * x.harn.rDrop.toNat + 60000 < 2000 * (g.conv.vbh - vm))
  { x with stage := { g with
      winTgt := g.vTgt
      runs := { r with
        window := if inside then (if g.winTgt = g.vTgt then min 16 (r.window + 1) else 1) else 0
        drift := runTo drift 8 r.drift
        sat := runTo (running && g.satNow && !c.clActive && !c.dropLimit) 2500 r.sat
        ppsLow := runTo (x.ppsSource && c.clActive && decide (vm < 20 * ((objRange c.obj).1 : Int))) 250 r.ppsLow
        dropLow := runTo (c.pos != 0 && x.pd.powerSource && c.type != 2 && c.dropLimit && decide (vm * 100 < 95 * 20 * (c.vSet : Int)))
          2500 r.dropLow
        sinkLow := runTo ((x.tc.st == .attachedSnk || x.tc.st == .debugAccSnk) && !(x.pd.recov.isSome)
          && !(match x.pd.swap with | some w => w.kind == .pr | none => false) && decide (vm < x.vDisc b)) 3 r.sinkLow
        disLow := runTo (g.disH && decide (g.conv.vbs < 6000)) 16 r.disLow
        uv := runTo (match vt with | some v => decide (v < 14000) | none => false) 4 r.uv
        uvOk := runTo (g.uvHold && (match vt with | some v => decide (15000 ≤ v) | none => false)) 250 r.uvOk } } }

/-! ### The window bases (R282) -/

/-- The port acts as Sink for its window and its limit. -/
def Port.sinkRole (x : Port) : Bool := if x.tc.st.attached then !x.pd.powerSource else x.tc.st.isSnk

/-- V_H for the lower and the upper bound, 0.1 mV (R282). -/
def Port.windowBasis (b : Beat) (x : Port) : Nat × Nat :=
  if x.harn.step.isSome then (50000, 50000)
  else if x.sinkRole then
    match x.pd.trans with
    | some t => (200 * min t.oldV t.v, 200 * max t.oldV t.v)
    | none =>
      if x.pd.contract.pos = 0 then (50000, 50000)
      else if x.pd.contract.oldUntil.later b then (200 * min x.pd.contract.oldV x.pd.contract.vSet, 200 * max x.pd.contract.oldV x.pd.contract.vSet)
      else (200 * x.pd.contract.vSet, 200 * x.pd.contract.vSet)
  else
    let v := if x.guard.vHoldUntil.later b then max x.guard.vHold x.stage.vRef else x.stage.vRef
    (v, v)

/-! ### Starting, stopping, discharging (R258, R272, R273) -/

/-- Units of 1/48 µs: 192 a beat. The port's first period start after the release or after the next slot 0 (R258, R263,
R272): the beat in which it lies. A release falls in the latch slot 12 (R270, log 29). -/
def firstPeriod (fsw : Nat) (p : PortId) (b : Beat) (fresh : Bool) : Beat :=
  let k := 8 * localIdx p + (clusterOf p).val
  let off := if fsw = 0 then 4 * k else if fsw = 2 then k else 2 * k
  let per := if fsw = 0 then 384 else if fsw = 2 then 96 else 192
  let earliest := if fresh then 144 + 4 * 192 else 192
  -- time of this beat's boundary within the 125 kHz grid
  let base := if fsw = 0 then b.toNat % 2 * 192 else 0
  let n := (earliest + base + per - 1 - off % per) / per
  let t := n * per + off - base
  b + BitVec.ofNat 48 (t / 192)

/-- Cn_SEN_N goes to high impedance (R258). -/
def State.releaseSen (s : State) (c : ClusterId) : State :=
  if (s.cluster c).senLow then s.modCluster c fun k => { k with senLow := false, senBeat := s.now } else s

/-- The stage begins a discharge run (R273): forward BUCK, y = −IL_NEG, no voltage loop, at the frequency in force (R262). -/
def Port.beginRun (fsw : Nat) (first : Beat) (x : Port) : Port :=
  { x with stage := { x.stage with disRun := true, startAt := first, region := .buck, dacNext := -x.ilNeg, dac := -x.ilNeg
                                   yLo := -x.ilNeg, fsw := fsw, headroomNow := false } }

/-- The discharge run ends in defined idle, with the command of the next slot 0 (R12, R273). -/
def Port.endRun (x : Port) : Port :=
  { x with stage := { x.stage with disS := false, disRun := false, dacNext := 0, slope := 0, slopeSat := false } }

/-- The port starts in a direction (R272 steps 3 and 4) at the frequency in force (R262). The harness-side sink ends (R273). -/
def Port.start (fsw : Nat) (b first : Beat) (vt : Int) (m : StageMode) (x : Port) : Port :=
  let est := x.vMeas
  let vm : Nat := est.toNat
  let ref := min (10 * vm) (200 * x.stage.vTgt)
  let g := { x.stage with
    mode := m, dir := m, startAt := first, delta := 0, vRef := ref
    e := Vector.replicate 3 0, y := Vector.replicate 3 0, yI := 0, iT := if m == .reverse then x.revLimit else 0, iProt := 0, regionAt := b, fsw := fsw
    yLo := if m == .reverse then -x.ilMax else -x.ilNeg, yHi := if m == .reverse then x.ilNeg else x.ilMax
    region := if m == .reverse then startRegion vt est else startRegion est vt
    disH := false, disS := false, disRun := false, satNow := false, headroomNow := false, stopAt := none }
  let y : Port := { x with stage := g, guard := { x.guard with vHoldUntil := b } }
  if y.guard.gateWant && !y.guard.gateOn then y.gateOnCmd b else y

/-- Preconditions of R272 and the holds of R280, for either direction. -/
def State.startReady (s : State) (p : PortId) : Bool :=
  let x := s.port p
  s.board.mainOn && s.clusterReady (clusterOf p).val && x.startPending s.feedOn && s.feed.trunkValid
    && decide (15000 ≤ s.feed.vTrunk) && !x.stage.uvHold && decide (x.stage.runs.ilsBad < 2)
    && decide (x.stage.conv.vbl < 800) && !x.disBegun s.now
    && (x.stage.dir == .idle || x.stage.dir == x.wants s.feedOn || decide (4 ≤ x.stage.runs.idle)) && !s.faults.hold

/-- STAGE_START (R272): a pending start whose preconditions hold. -/
def execStageStart (p : PortId) (s : State) : Host.Outcome State Fault Refusal :=
  .next (if s.startReady p then
      let k := s.cluster (clusterOf p)
      let first := firstPeriod k.fsw p s.now k.senLow
      (s.releaseSen (clusterOf p)).updPort p fun x => x.start k.fsw s.now first s.feed.vTrunk (x.wants s.feedOn)
    else s)

/-- The port whose start must wait is held in defined idle, its gate command kept (R272). -/
def Port.holdPending (b : Beat) (x : Port) : Port :=
  if x.guard.gateOn then
    let y := x.gateOff b
    { y with guard := { y.guard with gateWant := x.guard.gateWant } }
  else x

/-- A start that waits because of the charge on VBL needs a discharge run first (R272). -/
def Port.needsRun (feed : Bool) (x : Port) : Bool := x.startPending feed && decide (800 ≤ x.stage.conv.vbl)

/-- The stage side of a discharge in this update (R273): no feed ends it; after a beat of defined idle the run begins. A start held
pending by VBL of 0.80 V or more calls for a run first (R272). -/
def State.dischargeStep (s : State) (p : PortId) : State :=
  let x := s.port p
  if x.stage.disS && !s.feedOn then s.updPort p Port.endRun
  else if x.startPending s.feedOn && x.guard.gateOn && !s.startReady p then s.updPort p (Port.holdPending s.now)
  else if !s.faults.hold && (x.stage.disS || x.needsRun s.feedOn) && !x.stage.disRun && s.feedOn && s.board.mainOn && x.definedIdle
      && decide (1 ≤ x.stage.runs.idle) then
    let k := s.cluster (clusterOf p)
    let first := firstPeriod k.fsw p s.now k.senLow
    (s.releaseSen (clusterOf p)).updPort p fun y =>
      (if y.stage.disS then y else { y with stage := { y.stage with disS := true, disBeatS := s.now } }).beginRun k.fsw first
  else s

/-- The loop part of an update: a stop whose command has gone, or the loops, the region and the ramp (R260, R265–R274). -/
def Port.loopStep (b : Beat) (feed stale : Bool) (vt : Int) (x : Port) : Port :=
  let ramping := (match x.pd.swap with | some w => w.kind == .pr && !w.wasSource && w.step == 1 | none => false)
  match x.stage.mode with
  | .idle => if x.stage.disRun then x.slopeStep vt else x
  | .forward =>
    if x.stage.want != .forward then x.stageHalt
    else
      let moved := if x.stage.startAt.later (b + 1) then x else x.slew b
      ((moved.forwardLoop stale).regionStep b stale vt).slopeStep vt
  | .reverse =>
    if ramping && (x.stage.iT == 0 || !x.revMode || !feed) then (x.stageHalt).gateOff b
    else if (!ramping && !x.reverseWanted feed) || !feed || !x.guard.gateOn then x.stageHalt
    else ((x.reverseLoop vt).regionStep b stale vt).slopeStep vt

/-- A recovering Sink has seen VBUS fall (R236 step 2). -/
def Port.noteFall (x : Port) : Port :=
  match x.pd.recov with
  | some (.snkFall b) => if x.vSafe0 then { x with pd := { x.pd with recov := some (.snkRise b) } } else x
  | _ => x

/-- The two conversions of the beat, the raw VBS−GSN in 0.1 mV and the shunt in µV (R31, R32, R299); step 1 of the harness calibration
shorts the inputs, and step 3 takes the conversions for its own (R93). -/
def Port.takePair (b : Beat) (vbs uv : Int) (x : Port) : Port :=
  match x.harn.step with
  | some .s1 | some .s3 => x
  | _ => Port.noteFall <| Port.stamp b 0 <| Port.stamp b 1
      { x with stage := { x.stage with conv := { x.stage.conv with vbs := x.corrected vbs, ibus := x.shuntMa uv, beat := b } } }

/-- A port's IBUS and VBUS in a snapshot captured in beat `b` (R361): they are the conversions of that beat, which fall after its slot 0.
`body` begins at byte 8 of the snapshot. -/
def patchSnap (p : PortId) (b : Beat) (c : Conv) (body : List Byte) : List Byte :=
  if body.take 6 == beatBytes b then
    body.take (154 + 4 * p.val) ++ u16 (half c.ibus).toNat ++ (body.drop (156 + 4 * p.val)).take (380 - 2 * p.val)
      ++ u16 (half (c.vbs / 100)).toNat ++ body.drop (538 + 2 * p.val)
  else body

/-- The captures of the present beat show the port's conversions (R361). -/
def State.snapPort (p : PortId) (s : State) : State :=
  s.modFaults fun g => { g with snap := g.snap.map (patchSnap p s.now (s.port p).stage.conv) }

/-- LOOP_UPDATE (R32, R266–R274): the port's conversions of the beat, then its update. `vbs` is the raw VBS−GSN conversion in 0.1 mV,
`ibus` the shunt conversion in µV, `aux` the auxiliary item of the beat, where the port has one, in mV (TSN in 0.1 mV; in an idle position what its
injection gives, R155). An auxiliary conversion made before the update slot acts in it (R32). -/
def execLoopUpdate (p : PortId) (vbs ibus aux : Int) (s : State) : Host.Outcome State Fault Refusal :=
  .next (if s.hubRuns && (s.board.mainOn || isService p) && s.clusterReady (clusterOf p).val then
      let item := auxItem (localIdx p % 6) s.board.passIdx
      let early := match item with | some (_, j) => decide (12 + j < updateSlot p) | none => false
      let idle := match item with | some (n, _) => auxIdle s.board.oddPass n (s.port p) | none => false
      let vt : Int := s.feed.vTrunk
      let seen : Option Int := if s.board.mainOn && s.feed.trunkSeen then some vt else none
      let stale := decide (4 ≤ s.feed.trunkAge)
      let addAux (x : Port) : Port := match item with | some (n, _) => x.takeAux s.now s.board.oddPass n aux | none => x
      let s1 := (if idle then s.idleAdc p aux else s).updPort p fun x =>
        let y : Port := x.takePair s.now vbs ibus
        if early then addAux y else y
      let s2 := s1.dischargeStep p
      State.snapPort p <| s2.updPort p fun x =>
        let y := (if s.board.mainOn then x.loopStep s.now s.feedOn stale vt else x).countRuns s.now seen
        let w := y.windowBasis s.now
        let z : Port := { y with guard := { y.guard with vLoNext := w.1, vHiNext := w.2, dropNext := y.dropMax } }
        if early then z else addAux z
    else if s.hubRuns && (s.board.mainOn || isService p) && !(s.cluster (clusterOf p)).trimming then s.modPort p (Port.takePair s.now vbs ibus)
    else s)

/-! ### The switching period (R259, R261, R263, R264) -/

/-- Phase offset of a port's periods within the period, rounded to the grid of 125 ps and in its units (R263). -/
def phaseOffset (fsw : Nat) (p : PortId) : Nat := ((8 * localIdx p + (clusterOf p).val) * (8 * periodNs fsw) + 48) / 96

/-- Time of the port's first period start in a beat that holds one, 125 ps units: a beat has 32,000. -/
def startAt (fsw : Nat) (p : PortId) : Nat := phaseOffset fsw p % 32000

/-- A period of the port starts in beat `b`: every beat, at 125 kHz in the beats of one parity (R263). -/
def startsIn (fsw : Nat) (p : PortId) (b : Beat) : Bool := fsw != 0 || b.toNat % 2 == phaseOffset fsw p / 32000

/-- Bounds of the charging phase in ns (R259), with blanking (R264). -/
def blankNs (t leb : Nat) (r : Region) : Nat := match r with | .buckBoost => t / 5 + leb | _ => leb
def boundNs (t : Nat) (r : Region) : Nat := match r with | .buck => t * 90 / 100 | .buckBoost => t * 96 / 100 | .boost => t * 75 / 100

/-- When a period's charging phase ended, or ends at its bound. -/
def Period.chargeEnd (t : Nat) (c : StageCmd) (q : Period) : Nat := q.trip.getD (boundNs t c.region)

/-- Pn_PWMA and Pn_PWMB `ns` into a period under command `c` (R257, R259, R261). -/
def Period.pwm (t : Nat) (c : StageCmd) (q : Period) (ns : Nat) : Bool × Bool :=
  let e := q.chargeEnd t c
  if c.mode == .idle || (match q.low with | some l => decide (l ≤ ns) | none => false) then (false, false)
  else match c.mode == .reverse, c.region with
    | false, .buck => (decide (ns < e), true)
    | false, .buckBoost => (decide (ns < e), decide (t / 5 ≤ ns))
    | false, .boost => (true, decide (e ≤ ns))
    | true, .buck => (true, decide (ns < e))
    | true, .buckBoost => (decide (t / 5 ≤ ns), decide (ns < e))
    | true, .boost => (decide (e ≤ ns), true)

/-- The comparator's trip (R264): V(ILS) of `mv` mV against V_DAC ∓ V_RAMP, in 0.1 µV, `ns` after the charging phase began. -/
def Port.comparator (x : Port) (c : StageCmd) (mv : Int) (ns : Nat) : Bool :=
  let dac : Int := 24414 * (x.dacCode c.y : Int)
  let ramp : Int := 10 * (c.slope * ns : Nat)
  if c.mode == .reverse then decide (mv * 10000 ≤ dac + ramp) else decide (dac - ramp ≤ mv * 10000)

/-- The bound of the negative excursion (R261): V(ILS) past V_ILS0 ∓ G_ILS × IL_NEG. -/
def Port.tooNegative (x : Port) (c : StageCmd) (mv : Int) : Bool :=
  let d := x.gIls * x.ilNeg
  if c.mode == .reverse then decide (1000 * x.vIls0 + d < 1000 * mv) else decide (1000 * mv < 1000 * x.vIls0 - d)

/-- What V(ILS) at `ns` does to a period: it ends the charging phase, past blanking and within the bound (R259, R264); after that
phase it ends the rest (R261). -/
def Port.sample (x : Port) (t : Nat) (c : StageCmd) (mv : Int) (ns : Nat) (q : Period) : Period :=
  if c.mode == .idle || q.low.isSome then q
  else if q.trip.isNone && decide (ns ≤ boundNs t c.region) then
    (if decide (blankNs t x.leb c.region ≤ ns) && x.comparator c mv ns then { q with trip := some ns } else q)
  else if x.tooNegative c mv then { q with low := some ns } else q

/-- The first period of the list that the sample changes. -/
def sampleFirst (f : Period → Period) : List Period → List Period
  | [] => []
  | q :: qs => if f q = q then q :: sampleFirst f qs else f q :: qs

/-- The sample falls in the period before those begun in this beat: `ns` into a period that began earlier reaches past the beat. -/
def beforeBeat (fsw : Nat) (p : PortId) (b : Beat) (ns : Nat) : Bool :=
  startsIn fsw p b && decide ((if fsw = 0 then 64000 else 32000) ≤ startAt fsw p + (if fsw = 2 then 16000 else 0) + 8 * ns)

/-- PEAK_CURRENT_TRIP (R259, R261, R264): V(ILS) reads `mv` mV at `ns` ns into a switching period, whose charging phase the comparator
ends, or whose remaining phases the bound on negative current ends. The period is the earliest one under way that it changes. -/
def execPeakCurrentTrip (p : PortId) (mv : Int) (ns : Nat) (s : State) : Host.Outcome State Fault Refusal :=
  .next (
    let x := s.port p
    let fsw := x.stage.fsw
    let t := periodNs fsw
    let old := sampleFirst (x.sample t x.stage.last mv ns) x.stage.lastP
    if beforeBeat fsw p s.now ns && old != x.stage.lastP then s.modPort p fun y => { y with stage := { y.stage with lastP := old } }
    else s.modPort p fun y => { y with stage := { y.stage with nowP := sampleFirst (x.sample t x.stage.cur mv ns) x.stage.nowP } })

/-- HARNESS_DISCHARGE_END (R273): 16 beats below 0.60 V. -/
def execHarnessDischargeEnd (p : PortId) (s : State) : Host.Outcome State Fault Refusal :=
  .next (if (s.port p).stage.disH && decide (16 ≤ (s.port p).stage.runs.disLow) then
      s.updPort p fun x => { x with stage := { x.stage with disH := false } }
    else s)

/-- DISCHARGE_RUN_END (R273): a VBL conversion below 0.60 V. -/
def execDischargeRunEnd (p : PortId) (s : State) : Host.Outcome State Fault Refusal :=
  .next (if (s.port p).stage.disRun && decide ((s.port p).stage.conv.vbl < 600) then s.updPort p Port.endRun else s)

/-- The raises of DISCHARGE_FAIL: DETAIL 0 harness side, 1 stage side (R344). -/
def disRaises (p : PortId) (parts : Bool × Bool) : List Raise :=
  (if parts.1 then [portRaise p 10 0] else []) ++ (if parts.2 then [portRaise p 10 1] else [])

/-- A discharge whose time was up when a guard action of beat `b` ended it (R281). -/
def Stage.lateParts (b : Beat) (g : Stage) : Bool × Bool :=
  match g.disLate with
  | some (b0, parts) => if b0 = b then parts else (false, false)
  | none => (false, false)

/-- The parts of a discharge that are over stop, and GATE is held off, its command kept (R280). -/
def Port.dischargeOver (b : Beat) (parts : Bool × Bool) (x : Port) : Port :=
  let y := if !parts.2 then x else if x.stage.disRun then x.endRun else { x with stage := { x.stage with disS := false } }
  let z := ({ y with stage := { y.stage with disH := y.stage.disH && !parts.1, gateHold := true, disLate := none } }).gateOff b
  { z with guard := { z.guard with gateWant := x.guard.gateWant } }

/-- DISCHARGE_FAIL (R273, R280): the parts that have not ended stop, GATE is held off. One that a guard action of the same beat came
before is recorded too (R281). -/
def execDischargeFail (p : PortId) (s : State) : Host.Outcome State Fault Refusal :=
  .next (
    let ends := (s.port p).stage.disOver s.now
    let late := (s.port p).stage.lateParts s.now
    if ends.1 || ends.2 then (s.updPort p (Port.dischargeOver s.now ends)).raiseAll (disRaises p ends)
    else if late.1 || late.2 then (s.updPort p (Port.dischargeOver s.now (false, false))).raiseAll (disRaises p late)
    else s)

/-- SEN_IDLE_TIMEOUT (R258): 250 beats of defined idle of every port of the cluster. -/
def execSenIdleTimeout (c : ClusterId) (s : State) : Host.Outcome State Fault Refusal :=
  .next (if s.senDriven c && (List.finRange 12).all (fun i => (s.port (portOf c i)).definedIdle && decide (250 ≤ (s.port (portOf c i)).stage.runs.idle)) then
      s.modCluster c fun k => { k with senLow := true }
    else s)

/-! ### The trunk value and the stage conditions (R275, R280, R281) -/

/-- TRUNK_VALUE_DELIVERY (R275). -/
def execTrunkValueDelivery (mv : Nat) (s : State) : Host.Outcome State Fault Refusal :=
  .next (if s.hubRuns && s.feed.on && s.feed.linkUp then
      s.modFeed fun f => { f with vTrunk := mv, trunkAge := 0, trunkSeen := true }
    else s)

/-- A gate command kept through a stage condition is carried out when the hold ends, unless a start brings it (R272, R280). -/
def Port.freeGate (b : Beat) (x : Port) : Port :=
  if x.guard.gateWant && !x.guard.gateOn then x.gateOnCmd b else x

/-- The stage runs, or a guard action has stopped it in this beat (R281). -/
def Port.ranNow (b : Beat) (x : Port) : Bool := x.stage.runs' || x.stage.stopAt == some b

/-- TRUNK_STALE (R275): 25 beats without a value stop every running stage, discharge runs among them. -/
def execTrunkStale (s : State) : Host.Outcome State Fault Refusal :=
  .next (if 25 ≤ s.feed.trunkAge then
      let on := allPorts.filter fun p => (s.port p).ranNow s.now
      (on.foldl (fun t p => t.updPort p (Port.stageIdle s.now)) s).raiseAll (on.map fun p => portRaise p 12 0)
    else s)

/-- STAGE_UV (R280): V_TRUNK below 14.0 V in four beats, whatever the stage does; raised at the onset. -/
def execStageUv (p : PortId) (s : State) : Host.Outcome State Fault Refusal :=
  .next (if (s.port p).stage.runs.uv == 4 then
      (s.updPort p fun x =>
        let y := x.stageIdle s.now
        { y with stage := { y.stage with uvHold := true, runs := { y.stage.runs with uv := 5, uvOk := 0 } } }).raisePort p 11 0
    else s)

/-- STAGE_UV_RESTART (R280). -/
def execStageUvRestart (p : PortId) (s : State) : Host.Outcome State Fault Refusal :=
  .next (if (s.port p).stage.uvHold && decide (250 ≤ (s.port p).stage.runs.uvOk) then
      s.modPort p fun x => Port.freeGate s.now { x with stage := { x.stage with uvHold := false } }
    else s)

/-- ILS_FAULT (R280): defined idle, starts held pending while the reading stays out of its bounds; raised at the onset. -/
def execIlsFault (p : PortId) (s : State) : Host.Outcome State Fault Refusal :=
  .next (if (s.port p).stage.runs.ilsBad = 2 then
      (s.updPort p fun x =>
        let y := if x.stage.runs' then x.stageIdle s.now else x
        { y with stage := { y.stage with runs := { y.stage.runs with ilsBad := 3 } } }).raisePort p 9 0
    else s)

/-- STAGE_HEADROOM (R280), raised at the onset. -/
def execStageHeadroom (p : PortId) (s : State) : Host.Outcome State Fault Refusal :=
  .next (if (s.port p).stage.runs.upper = 250 then
      (s.modPort p fun x => { x with stage := { x.stage with runs := { x.stage.runs with upper := 251 } } }).raisePort p 21 0
    else s)

/-- LOOP_SAT (R280), raised at the onset. -/
def execLoopSat (p : PortId) (s : State) : Host.Outcome State Fault Refusal :=
  .next (if (s.port p).stage.runs.sat = 2500 then
      (s.modPort p fun x => { x with stage := { x.stage with runs := { x.stage.runs with sat := 2501 } } }).raisePort p 22 0
    else s)

/-- STATE of STAGE_STATUS (R278): a start that waits for a discharge run shows start pending (R273). -/
def stageCode (feed : Bool) (x : Port) : Nat :=
  if x.stage.mode == .forward then 1 else if x.stage.mode == .reverse then 2 else if x.startPending feed then 4
  else if x.stage.disRun then 3 else 0

/-- STAGE_STATUS's payload (R278). -/
def State.stageStatusBytes (s : State) (p : PortId) : List Byte :=
  let x := s.port p
  let g := x.stage
  let n16 (v : Int) : List Byte := u16 (half v).toNat
  let ils := (g.conv.ils - x.vIls0) * 1000 / max 1 x.gIls
  leBytes 1 (stageCode s.feedOn x) ++ leBytes 1 (match g.region with | .buck => 0 | .buckBoost => 1 | .boost => 2)
    ++ leBytes 1 (stageFlags (s.cluster (clusterOf p)).senLow x) ++ [0] ++ u16 (g.vRef / 10) ++ n16 x.vMeas ++ n16 x.vblEst
    ++ u16 (s.feed.vTrunk / 10) ++ n16 g.conv.ibus ++ n16 g.dacNext ++ n16 ils ++ u16 g.slope
    ++ u16 (x.dacCode g.dac) ++ [0, 0] ++ beatBytes g.conv.beat ++ [0, 0]

end Sys2Proof.Machine
end

