-- ==== Sys2Proof/Machine/Guards.lean ====
section
/-! DEFINITION. The power path guards of the ports (R282–R299): window monitors, gate monitor, current limit, fault timer,
trips and the thermal model. -/

namespace Sys2Proof.Machine

/-! ### Window monitors (R282–R286) -/

/-- Thresholds of a monitor in 0.1 mV: lower bound fall and rise, upper bound rise and fall; `none` where it has no such
bound. -/
structure Window where
  low : Option (Int × Int)
  high : Option (Int × Int)
  deriving DecidableEq, Repr

/-- What a sample calls for under the present decision (R283). -/
def Window.call (w : Window) (good : Bool) (v : Int) : Call :=
  if good then
    if (match w.low with | some l => decide (v < l.1) | none => false) then .low
    else if (match w.high with | some h => decide (h.1 < v) | none => false) then .high
    else .stay
  else if (match w.low with | some l => decide (l.2 ≤ v) | none => true) && (match w.high with | some h => decide (v ≤ h.2) | none => true)
    then .good
  else .stay

/-- One slot sample (R284, R285): a blanked one is not counted; three of the last five counted ones change the decision. -/
def Monitor.sample (w : Window) (m : Monitor) (v : Int) (blanked : Bool) : Monitor :=
  if blanked then m
  else
    let h := (w.call m.good v :: m.hist).take 5
    let calls := h.filter (· != .stay)
    if 3 ≤ calls.length then
      if m.good then { m with good := false, side := if calls.contains .high then .high else .low, hist := [], blanked := false, counted := true }
      else { m with good := true, side := .none, hist := [], blanked := false, counted := true }
    else { m with hist := h, blanked := false, counted := true }

/-- The sample falls inside the blanking window of `bl` ns (R285). -/
def inBlank (bl : Nat) (x : MonSample) : Bool := decide (x.since < bl)

/-- The samples of a step, in slot order, with a blanking window of `bl` ns. A step whose samples are all blanked is noted; a counted
one ends what MON_BLANKED has raised (R343). -/
def Monitor.run (w : Window) (bl : Nat) (m : Monitor) (xs : List MonSample) : Monitor :=
  let m' := xs.foldl (fun k x => k.sample w (10 * x.mv) (inBlank bl x)) m
  { m' with blanked := if xs.isEmpty then m.blanked else xs.all (inBlank bl), raised := m.raised && xs.all (inBlank bl) }

/-- Whether a NOT_GOOD decision with side HIGH was taken within the samples of a step. -/
def Monitor.sawHigh (w : Window) (bl : Nat) : Monitor → List MonSample → Bool
  | _, [] => false
  | m, x :: xs =>
    let k := m.sample w (10 * x.mv) (inBlank bl x)
    (m.good && !k.good && k.side == .high) || Monitor.sawHigh w bl k xs

/-- MON_BLANK of GUARD.GATE, ns (R285, R299). -/
def Port.monBlank (x : Port) : Nat := 10 * fld x.cfg.guard[2] 8 8

/-- The port VBS window (R282). -/
def Port.vbsWindow (x : Port) : Window :=
  let f := max 0 (85 * (x.guard.vLo : Int) / 100 - 2500)
  let r := 110 * (x.guard.vHi : Int) / 100 + 5000
  ⟨some (f, f + 2500), some (r, r - 2500)⟩

/-- The port VBL window (R282). -/
def Port.vblWindow (x : Port) : Window :=
  let r := (x.guard.vHi : Int) + 10 * x.guard.drop + 15000
  ⟨none, some (r, r - 2500)⟩

/-! ### Guard trips (R293) -/

/-- States in which a trip finds nothing to take to ERROR_RECOVERY: the port is down, or the guard has tripped. -/
def Port.tripIdle (x : Port) : Bool :=
  x.tc.st == .disabled || x.tc.st == .calFailed || x.tc.st == .lockout || x.guard.gst == .tripped || x.guard.gst == .locked

/-- What a guard does at once (R286, R293, R354): the trip, or the stage and GATE off alone where the port is already down. -/
def State.guardAct (s : State) (p : PortId) : State :=
  if (s.port p).tripIdle then s.updPort p fun x => ((x.stageStop).gateOff s.now).stopped s.now x.stage else s.tripAct p

/-- A cause of R293: the guard's action, then its report (R354). -/
def State.guardTrip (s : State) (p : PortId) (code : Nat) : State := (s.guardAct p).raisePort p code 0

/-! ### The gate monitor (R287–R289) -/

/-- Three of the last five counted samples call for a change. -/
def threeOfFive (h : List Bool) : Bool := decide (3 ≤ h.count true)

/-- One sample of VGS, mV. -/
def Port.gateSample (v : Int) (blanked : Bool) (x : Port) : Port :=
  if blanked then x
  else
    let g := x.guard
    let fh := ((if g.fullyOn then decide (v < 6500) else decide (7000 ≤ v)) :: g.fullMon).take 5
    let oh := ((if g.belowOff then decide (2000 ≤ v) else decide (v < 1500)) :: g.offMon).take 5
    let flipF := threeOfFive fh && (g.fullyOn || g.gateOn)
    let flipO := threeOfFive oh
    { x with guard := { g with
        fullMon := if flipF then [] else fh
        offMon := if flipO then [] else oh
        fullyOn := g.fullyOn != flipF
        belowOff := g.belowOff != flipO
        beenFull := g.beenFull || (flipF && !g.fullyOn)
        rise := if flipF && !g.fullyOn then none else g.rise
        gst := if flipF && !g.fullyOn && (g.gst == .ramp || g.gst == .limit) then .on
               else if flipF && g.fullyOn && g.gst == .on then .ramp else g.gst } }

/-- The samples of a step; whether all of them were blanked (R285). -/
def Port.gateSamples (xs : List MonSample) (x : Port) : Port :=
  let bl := x.monBlank
  let y := xs.foldl (fun k e => k.gateSample e.mv (inBlank bl e)) x
  { y with guard := { y.guard with
      gateBlanked := if xs.isEmpty then x.guard.gateBlanked else xs.all (inBlank bl)
      gateCounted := x.guard.gateCounted || xs.any (fun e => !inBlank bl e) } }

/-- WINDOW_MONITOR_DECISION (R284–R286). -/
def execWindowMonitorDecision (p : PortId) (m : PortMon) (samples : List MonSample) (s : State) :
    Host.Outcome State Fault Refusal :=
  .next (
    let x := s.port p
    if !s.portPowered p then s
    else match m with
    | .vbs =>
      let t := s.modPort p fun y => { y with guard := { y.guard with vbs := y.guard.vbs.run y.vbsWindow y.monBlank samples } }
      if x.guard.vbs.sawHigh x.vbsWindow x.monBlank samples then t.guardTrip p 3 else t
    | .vbl =>
      let t := s.modPort p fun y => { y with guard := { y.guard with vbl := y.guard.vbl.run y.vblWindow y.monBlank samples } }
      if x.guard.vbl.sawHigh x.vblWindow x.monBlank samples then t.guardTrip p 4 else t
    | .gate => s.modPort p (Port.gateSamples samples))

/-- FET_GATE (R289): no FULLY_ON within RISE_MAX, or BELOW_OFF while commanded on after FULLY_ON without limiting. -/
def execFetGate (p : PortId) (s : State) : Host.Outcome State Fault Refusal :=
  .next (
    let g := (s.port p).guard
    let late := match g.rise with
      | some n => decide (250 * fld (s.port p).cfg.guard[2] 0 8 ≤ n) && !g.fullyOn
      | none => false
    if g.gateOn && (late || (g.belowOff && g.beenFull && g.gst != .limit)) then s.gateFail p else s)

/-! ### Current limit and fault timer (R290–R294) -/

/-- The served current I_S, 10 mA (R209, R290). -/
def Port.served (b : Beat) (x : Port) : Nat :=
  if x.harn.step == some .s4a || x.harn.step == some .s4b || x.harn.step == some .s4c then 50
  else if x.sinkRole then x.revLimit / 10
  else match x.pd.trans with
    | some t => if t.accepted then max t.oldI t.i else x.iSet
    | none => if x.pd.contract.pos != 0 && x.pd.contract.oldUntil.later b then max x.pd.contract.oldI x.pd.contract.iOp else x.iSet

/-- I_LIM, 10 mA (R290). -/
def Port.limitOf (b : Beat) (x : Port) : Nat :=
  let i := min (max (x.served b * (100 + fld x.cfg.guard[0] 16 8) / 100) 50) (fld x.cfg.guard[0] 0 10)
  match x.guard.iBo with
  | some n => min i n
  | none => i

/-- I_BO, 10 mA (R313): `f` is the class floor in 0.5 W. -/
def Port.brownoutLimit (f : Nat) (x : Port) : Nat :=
  let v := if x.pd.contract.pos = 0 then 250 else x.pd.contract.vSet
  max 50 (f * 25 * (100 + fld x.cfg.guard[0] 16 8) / max 1 v)

/-- CURRENT_LIMIT_ENTER (R291): the shunt current reaches I_LIM in either direction. -/
def execCurrentLimitEnter (p : PortId) (ma : Int) (s : State) : Host.Outcome State Fault Refusal :=
  .next (
    let g := (s.port p).guard
    if g.gateOn && (g.gst == .ramp || g.gst == .on || g.gst == .limit) && decide (10 * g.iLim ≤ ma.natAbs) then
      s.modPort p fun x => { x with
        guard := { x.guard with gst := .limit, fullyOn := false, fullMon := [], limitSeen := true
                                timer := some (x.guard.timer.getD 0) }
        stage := { x.stage with runs := { x.stage.runs with limitFree := 0, good := 0 } } }
    else s)

/-- The bound of the fault timer, slots (R291). -/
def Port.faultBound (brownout : Bool) (x : Port) : Nat :=
  let f := 4000 * fld x.cfg.guard[1] 0 8
  if brownout then max f (16000 * fld x.cfg.guard[1] 24 8) else f

/-- The gate and the fault timer as a guard finds them in beat `b`, a fault reaction of the beat notwithstanding (R295). -/
def Guard.gateWas (b : Beat) (g : Guard) : Bool :=
  g.gateOn || (match g.cut with | some (b0, on, _) => b0 == b && on | none => false)
def Guard.timerWas (b : Beat) (g : Guard) : Option Nat :=
  g.timer.orElse fun _ => match g.cut with | some (b0, _, t) => if b0 = b then t else none | none => none

/-- ILIM_TIMEOUT (R291, R293, R295, R314). -/
def execIlimTimeout (p : PortId) (s : State) : Host.Outcome State Fault Refusal :=
  .next (match (s.port p).guard.timerWas s.now with
    | some n => if (s.port p).faultBound s.feed.brownout ≤ n then s.guardTrip p 2 else s
    | none => s)

/-- FAULT_TIMER_CLEAR (R289, R291): 16 beats without LIMIT; RISE_MAX counts again where FULLY_ON is still to come. -/
def execFaultTimerClear (p : PortId) (s : State) : Host.Outcome State Fault Refusal :=
  .next (if (s.port p).guard.timer.isSome && decide (16 ≤ (s.port p).stage.runs.limitFree) then
      s.modPort p fun x => { x with guard := { x.guard with timer := none, rise := if x.guard.fullyOn then none else some 0 } }
    else s)

/-- FAST_TRIP (R292–R295): FT × 25 % of I_LIM. -/
def execFastTrip (p : PortId) (ma : Int) (s : State) : Host.Outcome State Fault Refusal :=
  .next (
    let x := s.port p
    if x.guard.gateWas s.now && decide (25 * fld x.cfg.guard[0] 24 8 * (10 * x.guard.iLim) < 100 * ma.natAbs) then s.guardTrip p 1 else s)

/-- TRIP_COUNT_RESET (R293): 15,000,000 beats of power good. -/
def execTripCountReset (p : PortId) (s : State) : Host.Outcome State Fault Refusal :=
  .next (if 15000000 ≤ (s.port p).stage.runs.good then
      s.modPort p fun x => { x with guard := { x.guard with trips := 0 } }
    else s)

/-! ### Temperature (R296–R298) -/

def Port.tMode (x : Port) : Nat := fld x.cfg.guard[3] 0 2

/-- T_MODEL in 1/65,536 °C. -/
def Port.tModel (x : Port) : Int := ((fld x.cfg.guard[3] 24 8 : Int) - 40) * 65536 + x.guard.dT1 + x.guard.dT2

/-- The estimate of R298, 1/65,536 °C. In BOTH mode a reading out of range leaves the model alone (R296). -/
def Port.estimate (x : Port) : Int :=
  let m := x.tModel
  if x.tMode = 0 then x.guard.tSens
  else if x.tMode = 1 ∨ 2 ≤ x.guard.tsnBad then m
  else max m x.guard.tSens

/-- 1 − e^(−1 ÷ n) in 2^−32 (R297): sixteen terms of the series in 2^−64 (rounding: log 19). -/
def decayFactor (n : Nat) : Nat :=
  let y := 2 ^ 64 / max 1 n
  let r := (List.range 16).foldl (fun (a : Nat × Int) i =>
    (a.1 * y / (2 ^ 64 * (i + 2)), if i % 2 = 0 then a.2 + a.1 else a.2 - a.1)) (y, 0)
  r.2.toNat / 2 ^ 32

/-- One pole of R297: target P × ZTH with P in 0.1 nW, ZTH in 0.01 K/W; temperatures in 1/65,536 K (log 19). -/
def poleStep (dt p : Int) (zth n : Nat) : Int :=
  dt + (p * zth * 65536 / 1000000000000 - dt) * (decayFactor n : Int) / 4294967296

/-- The model update of a beat (R297). V_DS in 0.1 µV, RDS in 0.1 mΩ. -/
def Port.thermalStep (x : Port) : Port :=
  let i : Int := x.stage.conv.ibus.natAbs
  let r25 : Int := fld x.cfg.guard[5] 0 16
  let rds := r25 + r25 * fld x.cfg.guard[5] 16 16 * (x.guard.tEst - 1638400) / 65536000000
  let ohmic := i * rds
  let vds := if !x.guard.fullyOn || x.guard.gst == .limit then max ohmic ((x.stage.conv.vbl - x.stage.conv.vbh) * 10000) else ohmic
  let p := i * vds
  let y : Port := { x with guard := { x.guard with
    dT1 := poleStep x.guard.dT1 p (fld x.cfg.guard[6] 0 16) (25 * fld x.cfg.guard[6] 16 16)
    dT2 := poleStep x.guard.dT2 p (fld x.cfg.guard[7] 0 16) (2500 * fld x.cfg.guard[7] 16 16) } }
  { y with guard := { y.guard with tEst := y.estimate } }

/-- The trip condition of R298. -/
def Port.tooHot (x : Port) : Bool :=
  (x.tMode != 0 && decide (x.tTrip * 65536 ≤ x.tModel)) || (x.tMode != 1 && x.guard.tsnHot == 2)

/-- The update of an enabled port; a trip of R298 waits for the next slot 0. -/
def Port.thermalBeat (x : Port) : Port :=
  let y := x.thermalStep
  { y with guard := { y.guard with hotDue := y.guard.hotDue || (y.tooHot && !y.tripIdle) } }

/-- THERMAL_MODEL_UPDATE (R297, R298) of an enabled port; OVERTEMP trips it at the next slot 0. -/
def execThermalModelUpdate (p : PortId) (s : State) : Host.Outcome State Fault Refusal :=
  .next (if s.portPowered p && (s.port p).enabled then s.modPort p Port.thermalBeat else s)

/-- OVERTEMP acts on the ports it is due for (R298); the slot's raises go to the collector together (R347). -/
def State.hotTrips (s : State) : State × List Raise :=
  allPorts.foldl (fun (t : State × List Raise) p =>
    if !(t.1.port p).guard.hotDue then t
    else
      let u := t.1.modPort p fun x => { x with guard := { x.guard with hotDue := false } }
      if (u.port p).tripIdle then (u, t.2) else (u.guardAct p, t.2 ++ [portRaise p 5 0])) (s, [])

/-- TSN_FAULT (R296), raised at the onset; in SENSOR mode it trips the port. -/
def execTsnFault (p : PortId) (s : State) : Host.Outcome State Fault Refusal :=
  .next (if (s.port p).guard.tsnBad = 2 then
      let t := s.modPort p fun x => { x with guard := { x.guard with tsnBad := 3 } }
      if (s.port p).tMode = 0 then t.guardTrip p 8 else t.raisePort p 8 0
    else s)

/-! ### What slot 0 brings to a guard (R12, R282, R289–R293, R313) -/

/-- Beats in a row in which every sample of a monitor was blanked, at slot 0: a beat with a counted sample restarts the count (R285). -/
def blankCount (counted blanked : Bool) (n : Nat) : Nat := if counted then 0 else if blanked then (if n < 4 then n + 1 else n) else n

/-- The guard at slot 0: the fault timer by 16 slots, LIMIT left where the past beat sampled none, the counts of R289, R291,
R293 and R285, then I_BO, I_LIM and the window bases of the last update. `bo` is the floor of R313 while brownout is
signalled. -/
def Port.guardBeat (b : Beat) (bo : Option Nat) (x : Port) : Port :=
  let g := x.guard
  let leave := g.gst == .limit && !g.limitSeen
  let good := x.powerGood
  let counting := g.gateOn && !g.fullyOn && g.timer.isNone && g.gst != .limit
  let y : Port := { x with
    guard := { g with
      timer := g.timer.map (· + 16)
      gst := if leave then (if g.fullyOn then .on else .ramp) else g.gst
      limitSeen := false
      rise := g.rise.map fun n => if counting then n + 1 else n
      blankRun := #v[blankCount g.vbs.counted g.vbs.blanked g.blankRun[0], blankCount g.vbl.counted g.vbl.blanked g.blankRun[1],
                     blankCount g.gateCounted g.gateBlanked g.blankRun[2]]
      vbs := { g.vbs with counted := false, blanked := false }
      vbl := { g.vbl with counted := false, blanked := false }
      gateCounted := false, gateBlanked := false
      iBo := match bo with
        | some f => if !x.sinkRole && g.gateOn then some (x.brownoutLimit f) else none
        | none => none
      vLo := g.vLoNext, vHi := g.vHiNext, drop := g.dropNext, cut := none }
    stage := { x.stage with runs := { x.stage.runs with
      limitFree := if g.limitSeen then 0 else min 16 (x.stage.runs.limitFree + 1)
      good := if good then min 15000000 (x.stage.runs.good + 1) else 0 } } }
  { y with guard := { y.guard with iLim := y.limitOf b } }

end Sys2Proof.Machine
end

