-- ==== Sys2Proof/Machine/Feeds.lean ====
section
/-! DEFINITION. The feed guard die (R60–R65, R300–R314): the feeds' states, selection, changeover, limits, the trunk monitor
and brownout, the die's link to the hub. Times of the die's own oscillator come as operands, in µs since the interval
began (R300, log 7). -/

namespace Sys2Proof.Machine

/-! ### Parameters in force (R308) -/

def FeedDie.words (d : FeedDie) : Feed → Vector Word 6
  | .a => d.inForce.a
  | .b => d.inForce.b

def FeedDie.feed (d : FeedDie) : Feed → FeedState
  | .a => d.a
  | .b => d.b

def FeedDie.modFeedSt (d : FeedDie) (f : Feed) (g : FeedState → FeedState) : FeedDie :=
  match f with
  | .a => { d with a := g d.a }
  | .b => { d with b := g d.b }

def otherFeed : Feed → Feed
  | .a => .b
  | .b => .a

def FeedDie.uvRise (d : FeedDie) (f : Feed) : Nat := fld (d.words f)[0] 16 10
def FeedDie.ilimMv (d : FeedDie) (f : Feed) : Nat := fld (d.words f)[2] 0 7
def FeedDie.ft (d : FeedDie) (f : Feed) : Nat := fld (d.words f)[2] 8 4
def FeedDie.insDelay (d : FeedDie) (f : Feed) : Nat := 1000 * fld (d.words f)[3] 0 13
def FeedDie.faultT (d : FeedDie) (f : Feed) : Nat := 1000 * fld (d.words f)[3] 16 8
def FeedDie.dvdt (d : FeedDie) (f : Feed) : Nat := fld (d.words f)[4] 0 10
def FeedDie.latchOff (d : FeedDie) (f : Feed) : Bool := bit1 (d.words f)[4] 10
def FeedDie.coolUs (d : FeedDie) (f : Feed) : Nat := 1000000 * fld (d.words f)[4] 16 10
/-- TMP_TRIP and TMP_TRIP − TMP_HYS in 0.1 °C. -/
def FeedDie.tmpTrip (d : FeedDie) (f : Feed) : Int := 10 * ((fld (d.words f)[5] 0 8 : Int) - 40)
def FeedDie.tmpBack (d : FeedDie) (f : Feed) : Int := d.tmpTrip f - 10 * (fld (d.words f)[5] 8 8 : Int)

/-- CHG_BLANK of GUARD.BBM, ns (R285, R308). -/
def FeedDie.chgBlank (d : FeedDie) : Nat := 1000 * fld d.inForce.bbm 16 9

/-- The VIN window of a feed (R282), 0.1 mV. -/
def FeedDie.vinWindow (d : FeedDie) (f : Feed) : Window :=
  let uv := (d.words f)[0]
  let ov := (d.words f)[1]
  ⟨some (1000 * (fld uv 0 10 : Int), 1000 * (fld uv 16 10 : Int)), some (1000 * (fld ov 0 10 : Int), 1000 * (fld ov 16 10 : Int))⟩

/-- The trunk monitor's thresholds (R308, R315), 0.1 mV: ENTER 0 stands for UV_RISE + 2.0 V of the feed selected, of the one
last selected, or of feed A; EXIT 0 for ENTER + 1.0 V. -/
def FeedDie.trunkWindow (d : FeedDie) : Window :=
  let f := (d.selected.orElse fun _ => d.lastSel).getD .a
  let e := fld d.inForce.brownout 0 10
  let enter := if e = 0 then d.uvRise f + 20 else e
  let x := fld d.inForce.brownout 16 10
  let exit := if x = 0 then enter + 10 else x
  ⟨some (1000 * (enter : Int), 1000 * (exit : Int)), none⟩

/-! ### States, selection and changeover (R301–R307) -/

/-- The gate is on. -/
def FeedSt.driven (t : FeedSt) : Bool := t == .ramp || t == .qual || t == .on

/-- STANDBY or later, not tripped. -/
def FeedSt.standing (t : FeedSt) : Bool := t == .standby || t.driven

/-- The gate sink turns on and the feed takes state `t`. -/
def FeedState.quit (t : FeedSt) (g : FeedState) : FeedState :=
  { g with st := t, gateOn := false, full := false, fullMon := [], timer := false, limiting := false }

/-- The feed is selected and its gate ramps (R301, R302). -/
def FeedState.ramp (g : FeedState) : FeedState :=
  { g with st := .ramp, gateOn := true, full := false, belowOff := false, fullMon := [], offMon := [] }

/-- The selected feed (R306). -/
def FeedDie.pick (d : FeedDie) : Option Feed :=
  if d.a.st.standing && !d.a.held then some .a
  else if d.b.st.standing && !d.b.held then some .b
  else none

/-- A changeover starts (R307 step 1). -/
def FeedDie.startChange (now : Beat) (out : Feed) (d : FeedDie) : FeedDie :=
  { d with change := some ⟨out, false, false⟩, changeBlank := true, lastChange := now }

/-- FPG is high while the selected feed is ON with its fault timer idle (R303). -/
def FeedDie.power (d : FeedDie) : Bool :=
  match d.selected with
  | some f => (d.feed f).st == .on && !(d.feed f).timer
  | none => false

/-- Selection after a change (R306, R307): A takes over from a driven B by changeover; with no changeover in progress and the
other gate reported off, a selected feed in STANDBY ramps, unless the other feed has latched without reporting its gate off in time. The
sources raised go with it. -/
def FeedDie.settle (now : Beat) (d0 : FeedDie) : FeedDie × List Nat :=
  let sel := d0.pick
  let d := { d0 with selected := sel, lastSel := sel.orElse fun _ => d0.lastSel }
  let r : FeedDie × List Nat :=
    match sel with
    | none => (d, [])
    | some f =>
      if (d.feed (otherFeed f)).st.driven && d.change.isNone then
        ((d.modFeedSt (otherFeed f) (FeedState.quit .standby)).startChange now (otherFeed f), [176])
      else if d.change.isNone && (d.feed f).st == .standby && !(d.feed (otherFeed f)).gateOn && (d.feed (otherFeed f)).belowOff
          && !(d.feed (otherFeed f)).stuck then
        (d.modFeedSt f FeedState.ramp, [])
      else (d, [])
  ({ r.1 with fpg := r.1.power, noFeed := r.1.noFeed && !(r.1.a.st == .on || r.1.b.st == .on) && (r.1.a.mon.good || r.1.b.mon.good) }, r.2)

/-- Feed `f` leaves what it was doing for state `t`; from RAMP, QUAL or ON a changeover starts (R307). -/
def FeedDie.leave (now : Beat) (f : Feed) (t : FeedSt) (d : FeedDie) : FeedDie × List Nat :=
  let was := (d.feed f).st.driven
  let e := d.modFeedSt f (FeedState.quit t)
  if was && d.change.isNone then
    let r := ({ e with lastSel := some f }.startChange now f).settle now
    (r.1, 176 :: r.2)
  else e.settle now

/-- A trip (R304): counted, and COOL or LATCHED. -/
def FeedDie.trip (now : Beat) (f : Feed) (d : FeedDie) : FeedDie × List Nat :=
  (d.modFeedSt f fun g => { g with trips := satIncr g.trips, held := false }).leave now f (if d.latchOff f then .latched else .cool)

/-- FEED_GATE (R302, R307): LATCHED, counted as a trip. -/
def FeedDie.gateFault (now : Beat) (f : Feed) (d : FeedDie) : FeedDie × List Nat :=
  (d.modFeedSt f fun g => { g with trips := satIncr g.trips }).leave now f .latched

/-- A changeover's step 3 once both conditions hold (R307). -/
def FeedDie.changeStep (now : Beat) (d : FeedDie) : FeedDie × List Nat :=
  match d.change with
  | some c => if c.confirmed && c.bbm then { d with change := none }.settle now else (d, [])
  | none => (d, [])

/-! ### Reports to the hub (R303, R311) -/

/-- FEEDA and FEEDB follow the die while the link is up (R303) and the image runs (R58, R69, R72, R78). -/
def State.feedBits (s : State) : State :=
  if !(s.feed.linkUp && s.hubRuns && !s.board.testen && s.coreReady 8) then s
  else
    let on (f : Feed) : Bool := s.feed.power && s.feed.selected == some f
    let m (f : Feed) : Word := match f with | .a => 0x00100000#32 | .b => 0x00200000#32
    let put (t : State) (f : Feed) : State :=
      if on f then t.setReady (m f) else if (t.dev.ready0 &&& m f) != 0 then t.clearReady (m f) else t
    put (put s .a) .b

/-- A source of the feed guard die: raised over the link, or held in the die, up to 16 (R311). -/
def State.feedReport (s : State) (src : Nat) : State :=
  if s.feed.linkUp && s.hubRuns then s.raise (devRaise src 0 0)
  else s.modFeed fun d => if d.deferred.length < 16 then { d with deferred := d.deferred ++ [{ devRaise src 0 0 with deferred := true }] } else d

/-- The die's sources of one slot: raised together over the link (R347), or held. -/
def State.feedReports (s : State) (srcs : List Nat) : State :=
  if srcs.isEmpty then s
  else if s.feed.linkUp && s.hubRuns then s.raiseAll (srcs.map fun n => devRaise n 0 0)
  else srcs.foldl State.feedReport s

/-- A step of the die: its new state, the ready bits, its reports. -/
def State.feedStep (s : State) (srcs : List Nat) (r : FeedDie × List Nat) : State :=
  ((s.modFeed fun _ => r.1).feedReports (srcs ++ r.2)).feedBits

/-- Number of a feed's source (R311): F160 for A, F168 for B, plus `k`. -/
def feedSrc (f : Feed) (k : Nat) : Nat := (match f with | .a => 160 | .b => 168) + k

/-! ### Brownout (R312–R316) -/

/-- The hub takes the signal of brownout (R312, R316). -/
def State.brownoutSet (s : State) : State :=
  if s.feed.brownout then s else (s.modFeed fun d => { d with brownout := true }).brownoutGrants

/-- Brownout is signalled to the hub (R312, R316). -/
def State.brownoutOn (s : State) : State :=
  if s.feed.brownout then s else s.brownoutSet.raise (devRaise 178 0 0)

/-- Brownout ends: a stored grant takes effect and one allocation runs (R314, R316, R338). -/
def State.brownoutOff (s : State) : State :=
  if !s.feed.brownout then s
  else
    let t := s.modFeed fun d => { d with brownout := false }
    let u := match t.budget.grantNext with
      | some g => t.takeGrant g
      | none => t
    u.allocate

/-- Samples of TRUNK_S (R282, R312): a change of the trunk monitor's decision reaches the hub while the link is up; the event of a
brownout entered while it is down is held (R311). -/
def State.trunkSamples (s : State) (xs : List MonSample) : State :=
  if !s.feed.on then s
  else
    let m := s.feed.trunkMon
    let m' := m.run s.feed.trunkWindow s.feed.chgBlank xs
    let t := s.modFeed fun d => { d with trunkMon := m', changeBlank := d.changeBlank && m'.blanked }
    if m'.good = m.good then t
    else if !(s.feed.linkUp && s.hubRuns) then (if m'.good then t else t.feedReport 178)
    else if m'.good then t.brownoutOff else t.brownoutOn

/-- BROWNOUT_ENTER (R312, R313, R316). -/
def execBrownoutEnter (samples : List MonSample) (s : State) : Host.Outcome State Fault Refusal := .next (s.trunkSamples samples)

/-- BROWNOUT_EXIT (R314, R316). -/
def execBrownoutExit (samples : List MonSample) (s : State) : Host.Outcome State Fault Refusal := .next (s.trunkSamples samples)

/-! ### Start, stop and link (R14, R60, R63–R65, R311, R312) -/

/-- FEED_GUARD_START (R60, R64): the straps are read; a reserved FCFG0 code keeps both gates off. -/
def execFeedGuardStart (va vb : Int) (s0 s1 s2 s3 : Fin 8) (s : State) : Host.Outcome State Fault Refusal :=
  .next (if !s.feed.on && decide (12000 < max va vb) then
      let straps : Vector (Fin 8) 4 := #v[s0, s1, s2, s3]
      let bad := decide (4 ≤ s0.val)
      let st : FeedSt := if bad then .disabled else .off
      let t := s.modFeed fun d => { d with
        on := true, straps := straps, strapInvalid := bad, fromHub := false, linkUp := false, deferred := []
        inForce := strapSet straps
        a := { FeedState.reset with st := st, vin := va }, b := { FeedState.reset with st := st, vin := vb }
        selected := none, lastSel := none, change := none, changeBlank := false, lastChange := 0, trunkMon := .reset
        fpg := false, noFeed := false }
      if bad then t.feedReport 179 else t
    else s)

/-- The link to the die goes down (R14, R311): F180; the hub keeps the last brownout state and trunk value it has. -/
def State.feedLinkDown (s : State) : State :=
  if s.feed.linkUp then
    let t := s.modFeed fun d => { d with linkUp := false }
    if s.hubRuns then t.raise (devRaise 180 0 0) else t
  else s

/-- FEED_GUARD_STOP (R60): both inputs below 10.0 V for 8 slots; both gates off, FPG low, the hub's configuration lost. -/
def execFeedGuardStop (samples : List Int) (s : State) : Host.Outcome State Fault Refusal :=
  .next (if s.feed.on && decide (8 ≤ samples.length) && samples.all (fun v => decide (v < 10000)) then
      let t := s.feedLinkDown
      let u := t.modFeed fun d => { d with
        on := false, fromHub := false, fpg := false, noFeed := false, deferred := [], inForce := strapSet d.straps
        a := { FeedState.reset with vin := d.a.vin }, b := { FeedState.reset with vin := d.b.vin }
        selected := none, change := none, changeBlank := false, trunkMon := .reset, strapInvalid := false }
      if (u.dev.ready0 &&& 0x00300000#32) != 0 then u.clearReady 0x00300000#32 else u
    else s)

/-- FEED_LINK_LOST (R14, R311). -/
def execFeedLinkLost (s : State) : Host.Outcome State Fault Refusal := .next s.feedLinkDown

/-- The working set goes to the die in one transfer, which it takes as a whole (R65, R308); with the link down it waits as it is. -/
def State.sendFeedSet (s : State) : State :=
  s.modFeed fun d => if d.on && d.linkUp then { d with inForce := d.work, fromHub := true, cfgDue := none } else { d with cfgDue := some d.work }

/-- The link to the die comes up: the hub reads the strap values where it has no working set (R308), and a set that waits goes to the die
(R65). -/
def FeedDie.join (d : FeedDie) : FeedDie :=
  { d with linkUp := true, deferred := [], work := if d.workSet then d.work else strapSet d.straps, workSet := true
           inForce := d.cfgDue.getD d.inForce, fromHub := d.fromHub || d.cfgDue.isSome, cfgDue := none }

/-- FEED_LINK_UP (R65, R308, R311, R312): the working values on the first link of a boot, the trunk monitor's decision, the events
held in the die stamped with this beat, and the state of the feeds. A brownout whose event the die held is raised by that event. -/
def execFeedLinkUp (s : State) : Host.Outcome State Fault Refusal :=
  .next (if s.feed.on && s.hubRuns && !s.feed.linkUp then
      let held := s.feed.deferred
      let t := s.modFeed FeedDie.join
      let low := !t.feed.trunkMon.good
      let fresh := low && !t.feed.brownout && held.all fun r => r.src != 178
      let u := if low then t.brownoutSet else t.brownoutOff
      ((u.raiseAll ((if fresh then [devRaise 178 0 0] else []) ++ held)).modFeed fun d => { d with fpg := d.power }).feedBits
    else s)

/-! ### The feeds (R301–R307) -/

/-- FEED_VIN_WINDOW (R282–R284, R301): GOOD starts the insertion delay; NOT_GOOD takes the feed to OFF from every state but
LATCHED and DISABLED. A feed in OFF whose window is GOOD enters DELAY. -/
def execFeedVinWindow (f : Feed) (samples : List MonSample) (s : State) : Host.Outcome State Fault Refusal :=
  .next (if !s.feed.on then s
    else
      let g := s.feed.feed f
      let m := g.mon.run (s.feed.vinWindow f) s.feed.chgBlank samples
      let vin := match samples.getLast? with | some x => x.mv | none => g.vin
      let d := { s.feed.modFeedSt f fun g => { g with mon := m, vin := vin } with
        changeBlank := s.feed.changeBlank && (samples.isEmpty || m.blanked) }
      let d := d.modFeedSt f fun g => { g with hot := m.good && g.hot }
      if g.mon.good && !m.good then
        let srcs := if s.feed.selected = some f then [feedSrc f 0] else []
        if g.st == .latched || g.st == .disabled then s.feedStep srcs (d.settle s.now)
        else s.feedStep srcs ((d.modFeedSt f fun g => { g with held := false }).leave s.now f .off)
      else if m.good && g.st == .off then s.feedStep [] ((d.modFeedSt f fun g => { g with st := .delay }).settle s.now)
      else s.feedStep [] (d.settle s.now))

/-- INSERTION_DELAY_EXPIRY (R301): STANDBY. -/
def execInsertionDelayExpiry (f : Feed) (us : Nat) (s : State) : Host.Outcome State Fault Refusal :=
  .next (if s.feed.on && (s.feed.feed f).st == .delay && (s.feed.feed f).mon.good && decide (s.feed.insDelay f ≤ us) then
      s.feedStep [] ((s.feed.modFeedSt f fun g => { g with st := .standby }).settle s.now)
    else s)

/-- BBM_EXPIRY (R307 step 3). -/
def execBbmExpiry (us : Nat) (s : State) : Host.Outcome State Fault Refusal :=
  .next (match s.feed.change with
    | some c =>
      if s.feed.on && decide (fld s.feed.inForce.bbm 0 10 ≤ us) then
        s.feedStep [] ({ s.feed with change := some { c with bbm := true } }.changeStep s.now)
      else s
    | none => s)

/-- CHANGEOVER_GATE_TIMEOUT (R307): no BELOW_OFF within 1 ms; no gate is turned on until the outgoing feed is released or the die
starts again. -/
def execChangeoverGateTimeout (us : Nat) (s : State) : Host.Outcome State Fault Refusal :=
  .next (match s.feed.change with
    | some c =>
      if s.feed.on && !c.confirmed && decide (1000 ≤ us) then
        s.feedStep [feedSrc c.out 4] (({ s.feed with change := none }.modFeedSt c.out fun g => { g with stuck := true }).gateFault s.now c.out)
      else s
    | none => s)

/-- FEED_RAMP_TIMEOUT (R302): 2 × V(VIN) ÷ DVDT + 10 ms. -/
def execFeedRampTimeout (f : Feed) (us : Nat) (s : State) : Host.Outcome State Fault Refusal :=
  .next (
    let g := s.feed.feed f
    let bound : Nat := 2 * (g.vin.toNat * 20 / max 1 (s.feed.dvdt f)) + 10000
    if s.feed.on && g.st == .ramp && !g.full && decide (bound ≤ us) then s.feedStep [feedSrc f 4] (s.feed.gateFault s.now f) else s)

/-- PG_QUAL_EXPIRY (R301, R303): ON; FPG and the ready bit. -/
def execPgQualExpiry (f : Feed) (us : Nat) (s : State) : Host.Outcome State Fault Refusal :=
  .next (if s.feed.on && (s.feed.feed f).st == .qual && !(s.feed.feed f).timer && decide (1000 * fld s.feed.inForce.pgQual 0 8 ≤ us) then
      s.feedStep [] ((s.feed.modFeedSt f fun g => { g with st := .on }).settle s.now)
    else s)

/-- FEED_LIMIT_START (R303, R304): the shunt voltage in µV reaches ILIM_MV. -/
def execFeedLimitStart (f : Feed) (uv : Int) (s : State) : Host.Outcome State Fault Refusal :=
  .next (if s.feed.on && (s.feed.feed f).st.driven && decide (1000 * (s.feed.ilimMv f : Int) ≤ uv) then
      s.feedStep [] ((s.feed.modFeedSt f fun g => { g with limiting := true, timer := true, full := false, fullMon := [], shunt := uv }).settle s.now)
    else s)

/-- FEED_FAULT_TIMER_EXPIRY (R304). -/
def execFeedFaultTimerExpiry (f : Feed) (us : Nat) (s : State) : Host.Outcome State Fault Refusal :=
  .next (if s.feed.on && (s.feed.feed f).timer && decide (s.feed.faultT f ≤ us) then
      s.feedStep [feedSrc f 1] (s.feed.trip s.now f)
    else s)

/-- FEED_FAULT_TIMER_CLEAR (R303, R304): 64 µs without limiting; the feed qualifies again. -/
def execFeedFaultTimerClear (f : Feed) (us : Nat) (s : State) : Host.Outcome State Fault Refusal :=
  .next (if s.feed.on && (s.feed.feed f).timer && !(s.feed.feed f).limiting && decide (64 ≤ us) then
      s.feedStep [] ((s.feed.modFeedSt f fun g => { g with timer := false, st := if g.st == .on then .qual else g.st }).settle s.now)
    else s)

/-- FEED_FAST_TRIP (R304): FT × 0.25 × ILIM_MV. -/
def execFeedFastTrip (f : Feed) (uv : Int) (s : State) : Host.Outcome State Fault Refusal :=
  .next (if s.feed.on && (s.feed.feed f).st.driven && decide (1000 * (s.feed.ft f * s.feed.ilimMv f : Int) ≤ 4 * uv) then
      s.feedStep [feedSrc f 2] ((s.feed.modFeedSt f fun g => { g with shunt := uv }).trip s.now f)
    else s)

/-- The temperature that a conversion of FA_TMP or FB_TMP in 0.1 mV gives, 0.1 °C: an NTC of 10 kΩ and 3,435 K, read as in R296. -/
def feedTemp (v : Int) : Int := ntcTemp 1000 3435 v * 10 / 65536

/-- FEED_OVERTEMP (R304): two conversions, 0.1 mV, at or above TMP_TRIP trip a driven feed, and hold one in DELAY or STANDBY.
The input counts only while the VIN window is GOOD. -/
def execFeedOvertemp (f : Feed) (v1 v2 : Int) (s : State) : Host.Outcome State Fault Refusal :=
  .next (if s.feed.on && (s.feed.feed f).mon.good then
      let t1 := feedTemp v1
      let t2 := feedTemp v2
      let hot := decide (s.feed.tmpTrip f ≤ t1) && decide (s.feed.tmpTrip f ≤ t2)
      let d := s.feed.modFeedSt f fun g => { g with temp := t2, hot := hot || (g.hot && decide (s.feed.tmpBack f ≤ t2)) }
      let st := (s.feed.feed f).st
      if hot && st.driven then s.feedStep [feedSrc f 3] (d.trip s.now f)
      else if hot && (st == .delay || st == .standby) then
        s.feedStep [] ((d.modFeedSt f fun g => { g with held := true }).settle s.now)
      else s.modFeed fun _ => d
    else s)

/-- FEED_COOL_EXPIRY (R305): to OFF once COOL has passed and the temperature is back; else the feed waits for it. -/
def execFeedCoolExpiry (f : Feed) (us : Nat) (s : State) : Host.Outcome State Fault Refusal :=
  .next (if s.feed.on && (s.feed.feed f).st == .cool && decide (s.feed.coolUs f ≤ us) then
      if (s.feed.feed f).temp < s.feed.tmpBack f then s.feedStep [] ((s.feed.modFeedSt f fun g => { g with st := .off }).settle s.now)
      else s.feedStep [] ((s.feed.modFeedSt f fun g => { g with held := true }).settle s.now)
    else s)

/-- FEED_TEMPERATURE_RELEASE (R304, R305): a conversion in 0.1 mV. -/
def execFeedTemperatureRelease (f : Feed) (v : Int) (s : State) : Host.Outcome State Fault Refusal :=
  .next (if s.feed.on && (s.feed.feed f).mon.good then
      let t := feedTemp v
      let d := s.feed.modFeedSt f fun g => { g with temp := t, hot := g.hot && decide (s.feed.tmpBack f ≤ t) }
      if (s.feed.feed f).held && decide (t < s.feed.tmpBack f) then
        s.feedStep [] ((d.modFeedSt f fun g => { g with held := false, st := if g.st == .cool then .off else g.st }).settle s.now)
      else s.modFeed fun _ => d
    else s)

/-- NO_FEED_ON (R311): 10 ms without a feed in ON while a VIN window is GOOD; raised at the onset. -/
def execNoFeedOn (us : Nat) (s : State) : Host.Outcome State Fault Refusal :=
  .next (if s.feed.on && !s.feed.noFeed && decide (10000 ≤ us) && s.feed.a.st != .on && s.feed.b.st != .on
      && (s.feed.a.mon.good || s.feed.b.mon.good) then
      (s.modFeed fun d => { d with noFeed := true }).feedReport 177
    else s)

/-! ### The feed gates' monitors (R287, R302, R307) and MON_BLANKED (R285) -/

/-- One sample of a feed's VGS, mV: FULLY_ON and BELOW_OFF with the thresholds of R287. CHG_BLANK blanks the VIN and trunk monitors and
not this one, whose BELOW_OFF ends step 2 of the changeover that opens the window (R285, R307). -/
def FeedState.gateSample (v : Int) (g : FeedState) : FeedState :=
    let fh := ((if g.full then decide (v < 6500) else decide (7000 ≤ v)) :: g.fullMon).take 5
    let oh := ((if g.belowOff then decide (2000 ≤ v) else decide (v < 1500)) :: g.offMon).take 5
    let flipF := threeOfFive fh && (g.full || g.gateOn)
    let flipO := threeOfFive oh
    { g with fullMon := if flipF then [] else fh, offMon := if flipO then [] else oh, full := g.full != flipF
             belowOff := g.belowOff != flipO, limiting := g.limiting && !(flipF && !g.full)
             st := if flipF && !g.full && g.st == .ramp then .qual else g.st }

/-- Samples of a feed's gate: FULLY_ON ends a ramp in QUAL; BELOW_OFF of the outgoing feed confirms a changeover (R302, R304,
R307). -/
def State.feedGate (s : State) (f : Feed) (xs : List MonSample) : State :=
  if !s.feed.on then s
  else
    let d := s.feed.modFeedSt f fun g => xs.foldl (fun k e => k.gateSample e.mv) g
    let off := (d.feed f).belowOff
    let c := d.change.map fun c => if c.out = f ∧ off then { c with confirmed := true } else c
    s.feedStep [] (let r := ({ d with change := c }).changeStep s.now
      if r.1.change.isSome then (({ r.1 with fpg := r.1.power }), r.2) else r.1.settle s.now)

/-- GATE_FULLY_ON (R287, R288, R302): the samples that bring the report. -/
def execGateFullyOn (g : Gate) (samples : List MonSample) (s : State) : Host.Outcome State Fault Refusal :=
  .next (match g with
    | .port p => if s.portPowered p then s.modPort p (Port.gateSamples samples) else s
    | .feed f => s.feedGate f samples)

/-- GATE_BELOW_OFF (R229, R287, R307): the samples that bring the report. -/
def execGateBelowOff (g : Gate) (samples : List MonSample) (s : State) : Host.Outcome State Fault Refusal :=
  .next (match g with
    | .port p => if s.portPowered p then s.modPort p (Port.gateSamples samples) else s
    | .feed f => s.feedGate f samples)

/-- The place of a port monitor in DETAIL (R344). -/
def monDetail : PortMon → Fin 3
  | .vbs => 0
  | .vbl => 1
  | .gate => 2

/-- A feed or trunk monitor that has counted no sample for CHG_BLANK + 16 µs raises MON_BLANKED, once until it counts one (R285,
R345). -/
def Monitor.blankedFor (d : FeedDie) (us : Nat) (m : Monitor) : Bool := m.blanked && !m.raised && decide (d.chgBlank + 16000 ≤ 1000 * us)

/-- MON_BLANKED (R285): four beats of a port monitor without a counted sample, at the onset; a feed or trunk monitor that has
counted none for CHG_BLANK + 16 µs. -/
def execMonBlanked (m : BlankedMon) (s : State) : Host.Outcome State Fault Refusal :=
  .next (match m with
    | .port p k =>
      if (s.port p).guard.blankRun[monDetail k] = 4 then
        (s.modPort p fun x => { x with guard := { x.guard with blankRun := x.guard.blankRun.set (monDetail k) 5 } }).raisePort p 23 (monDetail k).val
      else s
    | .feed f us =>
      if s.feed.on && (s.feed.feed f).mon.blankedFor s.feed us then
        (s.modFeed fun d => d.modFeedSt f fun g => { g with mon := { g.mon with raised := true } }).feedReport (feedSrc f 5)
      else s
    | .trunk us =>
      if s.feed.on && s.feed.trunkMon.blankedFor s.feed us then
        (s.modFeed fun d => { d with trunkMon := { d.trunkMon with raised := true } }).feedReport 181
      else s)

/-- DIE_TEMP (R343): a sensor's readings of consecutive beats, 0.1 °C. Four at 140 °C or more raise F5, once until it reads below
125 °C; a sensor at 125 °C or more is ACTIVE. -/
def execDieTemp (sensor : Fin 5) (temps : List Int) (s : State) : Host.Outcome State Fault Refusal :=
  .next (
    let last4 := temps.reverse.take 4
    let hot := decide (last4.length = 4) && last4.all (fun t => decide (1400 ≤ t))
    let was := s.board.dieHot[sensor]
    match temps.getLast? with
    | none => s
    | some v =>
      if !s.hubRuns then s
      else
        let warm := decide (1250 ≤ v)
        let t := s.modBoard fun b => { b with dieHot := b.dieHot.set sensor ((was || hot) && warm), dieWarm := b.dieWarm.set sensor warm }
        if hot && !was then t.raise (devRaise 5 sensor.val 0) else t)

/-- FEED_STATUS's payload (R310). -/
def feedBlock (g : FeedState) : List Byte :=
  leBytes 1 (match g.st with
      | .off => 0 | .delay => 1 | .standby => 2 | .ramp => 3 | .qual => 4 | .on => 5 | .cool => 6 | .latched => 7 | .disabled => 8)
    ++ leBytes 1 (bw g.mon.good 0 + bw g.limiting 1 + bw g.timer 2 + bw (g.held || g.hot) 3) ++ u16 (g.vin / 10).toNat
    ++ u16 (half (g.shunt / 10)).toNat ++ leBytes 1 (tempByte (g.temp / 10)) ++ [0] ++ u16 g.trips.toNat ++ [0, 0]

def FeedDie.statusBytes (d : FeedDie) : List Byte :=
  leBytes 1 (match d.selected with | none => 0 | some .a => 1 | some .b => 2)
    ++ leBytes 1 (bw d.fpg 0 + bw d.brownout 1 + bw d.strapInvalid 2 + bw d.fromHub 3 + bw d.change.isSome 4)
    ++ u16 (d.straps[0].val + 8 * d.straps[1].val + 64 * d.straps[2].val + 512 * d.straps[3].val)
    ++ u16 (d.vTrunk / 10) ++ [0, 0] ++ feedBlock d.a ++ feedBlock d.b ++ beatBytes d.lastChange ++ [0, 0]

end Sys2Proof.Machine
end

