-- ==== Sys2Proof/Machine/Images.lean ====
section
/-! DEFINITION. The image store: slots and their verification (R66, R67), interrupted operations (R87), the configuration
generations (R70, R401) and the working set they are copied from and applied to. -/

namespace Sys2Proof.Machine

/-! ### Slots (R10, R66, R67) -/

def slotBase (b : Bool) : Nat := if b then 0x300000 else 0
def slotSize : Nat := 0x300000

/-- `n` bytes of a slot from offset `off`. -/
def Store.slot (t : Store) (b : Bool) (off n : Nat) : List Byte := t.flash.readN erased (slotBase b + off) n
def Store.slotWord (t : Store) (b : Bool) (off : Nat) : Nat := leNat (t.slot b off 4)
def Store.slotSeq (t : Store) (b : Bool) : Nat := t.slotWord b 0x00C
def Store.slotLen (t : Store) (b : Bool) : Nat := t.slotWord b 0x008
def Store.slotCommit (t : Store) (b : Bool) : Nat := t.slotWord b 0xFFC

/-- A SEQ within its range (R66). -/
def seqValid (n : Nat) : Bool := decide (1 ≤ n) && decide (n ≤ 0xFFFFFFFE)

/-- The first condition of R67 that a slot fails, 1–7 in the order of its list; none where it is valid. With `commit` false
COMMIT counts as equal to SEQ, as IMAGE_VERIFY takes it. -/
def Store.slotCheck (t : Store) (revoked : BitVec 4) (commit b : Bool) : Option Nat :=
  let key := leNat (t.slot b 0x006 2)
  let len := t.slotLen b
  let pub := t.slot b 0x040 64
  if !(t.slotWord b 0 == 0xD7A09600 && leNat (t.slot b 4 2) == 1 && (t.slot b 0x014 12).all (· == 0)
      && (t.slot b 0x0C0 3900).all (· == 0xFF#8)) then some 1
  else if !(decide (key ≤ 3) && Config.keyHash key (Config.sha256 pub) && !revoked.getLsbD key) then some 2
  else if !(len % 256 == 0 && decide (len ≤ 0x2FF000) && seqValid (t.slotSeq b)) then some 3
  else if commit && t.slotCommit b != t.slotSeq b then some 4
  else if Config.romRev.toNat < t.slotWord b 0x010 then some 5
  else if !(Config.ecdsaVerify pub (Config.sha256 (t.slot b 0 0x80)) (t.slot b 0x080 64)) then some 6
  else if Config.sha256 (t.slot b 0x1000 len) != t.slot b 0x020 32 then some 7
  else none

/-- The slot the ROM verifies first (R67): the one with the higher SEQ; A where they are equal or either is invalid. -/
def Store.firstSlot (t : Store) : Bool :=
  seqValid (t.slotSeq false) && seqValid (t.slotSeq true) && decide (t.slotSeq false < t.slotSeq true)

/-- A full verification of a slot and its result (R418). -/
def Store.setVerdict (t : Store) (b ok : Bool) : Store :=
  if b then { t with okB := ok, badB := !ok } else { t with okA := ok, badA := !ok }

/-- What the ROM finds (R67, R88): the slot it runs, the store with the verdicts, and whether the slot with the higher SEQ
failed. -/
def Store.choose (t : Store) (revoked : BitVec 4) : Option Bool × Store × Bool :=
  let f := t.firstSlot
  let ranked := seqValid (t.slotSeq false) && seqValid (t.slotSeq true) && t.slotSeq false != t.slotSeq true
  if (t.slotCheck revoked true f).isNone then (some f, t.setVerdict f true, false)
  else if (t.slotCheck revoked true (!f)).isNone then (some (!f), (t.setVerdict f false).setVerdict (!f) true, ranked)
  else (none, (t.setVerdict f false).setVerdict (!f) false, ranked)

/-! ### Programming and interruption (R43, R84, R87) -/

/-- Programming NOR only clears bits. -/
def nor (old new : List Byte) : List Byte := old.zipWith (· &&& ·) new

/-- `data` programmed at `a`. -/
def Memory.program (a : Nat) (data : List Byte) (m : Memory) : Memory :=
  m.writeAll erased a (nor (m.readN erased a data.length) data)

/-- `data` programmed at `a` but torn: of the bits to be cleared some have been, which ones the spec leaves open (log 9). -/
def Memory.tear (n a : Nat) (data : List Byte) (m : Memory) : Memory :=
  m.program a ((List.range data.length).map fun i => data.getD i 0xFF#8 ||| Config.freeByte n i)

/-- COMMIT programmed but torn: a subset of the bits that SEQ clears is cleared, never all of them (R87). -/
def Memory.tearCommit (n a : Nat) (seq : List Byte) (m : Memory) : Memory :=
  let t := m.tear n a seq
  if t.readN erased a seq.length == seq then m else t

/-- The 48 sectors of a slot, of which the first is erased and the others are as far as the erase went (R87, log 9). -/
def Memory.tornErase (n : Nat) (b : Bool) (m : Memory) : Memory :=
  (List.range 47).foldl
    (fun (m : Memory) i => if (Config.freeByte n i).getLsbD 0 then m.clear (slotBase b + 0x10000 * (i + 1)) (slotBase b + 0x10000 * (i + 2)) else m)
    (m.clear (slotBase b) (slotBase b + 0x10000))

/-- The slot that is not running (R84, R393). -/
def State.idleSlot (s : State) : Bool := match s.board.runSlot with | some b => !b | none => false

/-- The generation number after `g`: modulo 2^32, skipping 0 (R487). -/
def nextGen (g : Word) : Word := if g + 1 = 0 then 1 else g + 1

/-- Generation `b` is newer than `a`: its number is the other's plus 1 (R487). -/
def genNewer (a b : Word) : Bool := b == nextGen a

/-- The generation PARAM_COMMIT writes: the older of the two, the first where neither is held (R70). -/
def Store.olderIsB (t : Store) : Bool :=
  match t.genA, t.genB with
  | some a, some b => genNewer b.gen a.gen
  | some _, none => true
  | none, _ => false

/-! ### The working set (R190, R196, R277, R299, R401) -/

def setClass (cs : Vector Class 16) (c : Fin 16) (f : Class → Class) : Vector Class 16 := cs.set c (f cs[c])

/-- Rules `rs` from index `first` on. -/
def putRules : Vector Rule 32 → Nat → List Rule → Vector Rule 32
  | v, _, [] => v
  | v, i, r :: rs => putRules (v.setIfInBounds i r) (i + 1) rs

def PolicyWrite.apply (cs : Vector Class 16) : PolicyWrite → Vector Class 16
  | .header c h => setClass cs c fun k => { k with header := h }
  | .rules c first rs => setClass cs c fun k => { k with rules := putRules k.rules first rs }
  | .template c sink es => setClass cs c fun k => if sink then { k with snk := es } else { k with src := es }

/-- The tables with every stored write in force. -/
def Policy.written (p : Policy) : Vector Class 16 := p.writes.foldl PolicyWrite.apply p.classes

/-- A port's parameters with the sets that wait for slot 0 in force. -/
def PortCfg.written (c : PortCfg) : PortCfg :=
  { c with coef := c.coefNext.getD c.coef, guard := c.guardNext.getD c.guard, coefNext := none, guardNext := none }

/-- The working set as PARAM_COMMIT copies it (R401). -/
def State.capture (s : State) (gen : Word) : Generation :=
  { gen := gen, valid := true
    ports := s.ports.map fun x => x.cfg.written
    classes := s.policy.written
    sev := s.faults.sevNext.getD s.faults.sev
    dev := { s.dev with ready0 := 0, notReadyAny := false, keyRevoked := 0 }
    clusters := s.clusters.map (·.cfg)
    qcfg := s.pool.queues.map (·.cfg)
    poolCfg := s.pool.cfg
    extCfg := s.cores.map (·.extCfg)
    feed := s.feed.work
    budget := (s.budget.device, s.budget.floor, s.budget.reserve, s.budget.decay)
    yarrow := (s.yarrow.node, s.yarrow.group, s.yarrow.groupB, s.yarrow.link)
    phySafe := s.ports.map (·.phy.safe) }

/-- The newest generation whose CRC verifies (R70). -/
def Store.newest (t : Store) : Option Generation :=
  match t.genA.filter (·.valid), t.genB.filter (·.valid) with
  | some a, some b => some (if genNewer b.gen a.gen then a else b)
  | some a, none => some a
  | none, g => g

/-- A generation applied to a hub whose parameters stand at their reset values (R70). -/
def State.applyGen (s : State) (g : Generation) : State :=
  { s with
    ports := Vector.ofFn fun p =>
      let x := s.ports[p]
      { x with cfg := g.ports[p], phy := { x.phy with safe := g.phySafe[p], applied := g.phySafe[p], shadow := g.phySafe[p] } }
    policy := { s.policy with classes := g.classes }
    faults := { s.faults with sev := g.sev }
    dev := { s.dev with readyExpect := g.dev.readyExpect, svcCfg := g.dev.svcCfg, txWin := g.dev.txWin, swWin := g.dev.swWin }
    clusters := Vector.ofFn fun c => { s.clusters[c] with cfg := g.clusters[c] }
    pool := { s.pool with queues := Vector.ofFn fun q => { s.pool.queues[q] with cfg := g.qcfg[q] }, cfg := g.poolCfg }
    cores := Vector.ofFn fun k => { s.cores[k] with extCfg := g.extCfg[k] }
    feed := { s.feed with work := g.feed, workSet := true }
    budget := { s.budget with device := g.budget.1, floor := g.budget.2.1, reserve := g.budget.2.2.1, decay := g.budget.2.2.2 }
    yarrow := { s.yarrow with node := g.yarrow.1, group := g.yarrow.2.1, groupB := g.yarrow.2.2.1, link := g.yarrow.2.2.2 }
    board := { s.board with cfgGen := g.gen } }

/-! ### Snapshots (R361) -/

def snapBase : Nat := 0x700000

/-- SNAP_SEQ of the snapshot at a position, if it is committed. -/
def Store.snapAt (t : Store) (pos : Nat) : Option Nat :=
  let b := t.flash.readN erased (snapBase + 4096 * pos) 4096
  let seq := rdNat b 4 4
  if rdNat b 0 4 == 0xD7A0FA17 && seqValid seq && rdNat b 4092 4 == seq && crc32c (b.take 4088) == rdWord b 4088 then some seq else none

/-- Committed snapshots by position. -/
def Store.snaps (t : Store) : List (Nat × Nat) :=
  (List.range 256).filterMap fun i => (t.snapAt i).map fun q => (q, i)

/-- The newest committed snapshot: highest SNAP_SEQ, with its position. -/
def Store.newestSnap (t : Store) : Option (Nat × Nat) :=
  t.snaps.foldl (fun a e => match a with
    | none => some e
    | some b => if b.1 < e.1 then some e else a) none

/-- The image store with the sector erased where position `pos` starts one. -/
def snapErase (pos : Nat) (m : Memory) : Memory :=
  if pos % 16 = 0 then m.clear (snapBase + 0x10000 * (pos / 16)) (snapBase + 0x10000 * (pos / 16 + 1)) else m

/-- A snapshot with its number: bytes 0–4,087 and their CRC. `body` is what was captured, from byte 8 on. -/
def snapBytes (seq : Nat) (body : List Byte) : List Byte :=
  let b := u32 0xD7A0FA17 ++ u32 seq ++ body
  b ++ wordBytes (crc32c b)

/-- The stepped operation that waits or runs, cut short (R43, R70, R87). -/
def State.cutOp (s : State) : State :=
  let n := s.board.free
  let b := s.idleSlot
  match s.store.op with
  | none => s
  | some (.erase _ _) => (s.modStore fun t => { t with flash := t.flash.tornErase n b, op := none }).drawn
  | some (.verify _ _) => s.modStore fun t => { t with op := none }
  | some (.program _ _ off data) => (s.modStore fun t => { t with flash := t.flash.tear n (slotBase b + off) data, op := none }).drawn
  | some (.commit _ _ _) =>
    (s.modStore fun t => { t with flash := t.flash.tearCommit n (slotBase b + 0xFFC) (u32 (t.slotSeq b)), op := none }).drawn
  | some (.params _ _ _) =>
    s.modStore fun t => if t.olderIsB then { t with genB := none, op := none } else { t with genA := none, op := none }

/-- The flash with the write of the oldest capture cut short (R361, log 9): its position is erased or in part programmed, its COMMIT
is not. -/
def State.cutSnap (s : State) : State :=
  match s.faults.snap with
  | [] => s
  | body :: _ =>
    if !s.ready 2 then s
    else
      let pos := s.faults.snapPos
      (s.modStore fun r => { r with
        flash := (snapErase pos r.flash).tear s.board.free (snapBase + 4096 * pos) (snapBytes (s.faults.snapSeq.toNat + 1) body) }).drawn

/-- A reset cuts short what the store does (R43, R70, R87, R361). -/
def State.cutStore (s : State) : State := s.cutSnap.cutOp

/-- S8 takes the next step of an image or configuration operation: it is not stopped, and no snapshot has the flash (R20, R361). -/
def State.storeRuns (s : State) : Bool := !s.coreStopped 8 && (s.faults.snap.isEmpty || !s.ready 2)

/-- SNAPSHOT_WRITE (R20, R361): the oldest capture reaches its position under the number after the newest committed one, or its
write fails and it is abandoned. SNAP_SEQ does not wrap: after 0xFFFF_FFFE no snapshot is written (R487). -/
def execSnapshotWrite (ok : Bool) (s : State) : Host.Outcome State Fault Refusal :=
  .next (match s.faults.snap with
    | [] => s
    | body :: more =>
      if !s.ready 2 || s.coreStopped 8 then s
      else if s.faults.snapSeq = 0xFFFFFFFE#32 then (s.modFaults fun g => { g with snap := more }).raise (devRaise 214 0 0)
      else
        let pos := s.faults.snapPos
        let seq := s.faults.snapSeq.toNat + 1
        let bytes := snapBytes seq body
        let t := s.modFaults fun g => { g with snap := more, snapPos := (pos + 1) % 256 }
        if ok then
          (t.modFaults fun g => { g with snapSeq := BitVec.ofNat 32 seq }).modStore fun r =>
            { r with flash := (snapErase pos r.flash).program (snapBase + 4096 * pos) (bytes ++ u32 seq) }
        else
          ((t.modStore fun r => { r with flash := (snapErase pos r.flash).tear s.board.free (snapBase + 4096 * pos) bytes }).drawn).raise
            (devRaise 214 0 0))

end Sys2Proof.Machine
end

