-- ==== Sys2Proof/Machine/Power.lean ====
section
/-! DEFINITION. Power, resets, boot and the links of the dies (R13, R26, R29, R30, R58, R61, R62, R67–R72, R77–R83, R116,
R497). -/

namespace Sys2Proof.Machine

/-! ### Ports that lose their die or their markers -/

/-- What a port does on its own without beat markers (R13): PWMs and both sinks off, gate off, Rp, Rd and VCONN removed but for the
clamps of P0–P3. A port in CAL_FAILED or LOCKOUT stays there (R98, R114); any other goes to DISABLED. -/
def Port.quiet (svc : Bool) (b : Beat) (x : Port) : Port :=
  let y := ((x.stageStop).gateOff b).vconnOff
  let z := if x.tc.st.down then y else ((y.dropPd).abandonCal).enter svc b .disabled
  { z with tc := { z.tc with pReady := false }, stage := { z.stage with disH := false, disS := false, disRun := false } }

/-- The ports of a list go quiet and wait for the host (R13, R30); what was under way on them ends with NOT_READY (R76). -/
def State.quietPorts (s : State) (ps : List PortId) : State :=
  ps.foldl (fun (t : State) p => t.dropPort p 0x85 8 (Port.quiet (isService p) t.now)) s

/-- Ready bit of a cluster. -/
def clusterBit (c : ClusterId) : Word := BitVec.ofNat 32 (2 ^ (12 + c.val))

/-- The C bit of a linked cluster: at once where its trim has completed, else a trim begins (R73, R81, R152), in service-domain operation
of P0–P3 and ADC 0 alone (R154). -/
def bringCluster (start : Bool) (s : State) (c : ClusterId) : State :=
  if !s.clusterLinked c || !s.coreReady 8 then s
  else if (s.cluster c).trimmed then
    let t := s.setReady (clusterBit c)
    let u := if start then (List.finRange 12).foldl (fun (t : State) i => t.startEnabled (portOf c i)) t else t
    if c.val = 0 then u.joinTrim start else u
  else if (s.cluster c).trimming then s
  else s.modCluster c (Cluster.beginTrim (if s.board.mainOn then .whole else .service) start s.now)

/-! ### Reset of the hub die (R77) -/

/-- The state that a port keeps where its die or the hub loses the rest: CAL_FAILED and LOCKOUT, which it leaves as R98, R114 and
R153 say (log 95). -/
def Tc.kept (st : Tc) : Tc := if st == .calFailed || st == .lockout then st else .disabled

/-- What a port keeps of its connection state: CAL_FAILED or LOCKOUT, and the verdict of the trim (R98, R114, R153). -/
def TypeC.keep (b : Beat) (t : TypeC) : TypeC := { TypeC.reset with st := t.st.kept, trimFail := t.trimFail, stBeat := b }

/-- The cause last raised is kept with the condition that keeps it ACTIVE (R344). -/
def Port.keptCause (x : Port) : Option (Nat × Nat) :=
  if x.tc.st.kept != .disabled || (x.tc.trimFail.isSome && (x.guard.lastCause.map Prod.fst) == some 18) then x.guard.lastCause else none

/-- The harness results after a reset that keeps them (R97, R100): the kept values in force, no step, no offsets; a failed step stays
to be read while the port is in CAL_FAILED (R98). -/
def Harness.atReset (st : Tc) (h : Harness) : Harness :=
  if st == .calFailed then { h with step := none, bleeder := false }
  else { h.useKept with status := 0, cause := 0, vbsOfs := 0, gsnOfs := 0, step := none, resume := .s3, bleeder := false }

/-- The harness results where main-domain power goes: the kept ones are lost too (R97). -/
def Harness.lost (st : Tc) (h : Harness) : Harness :=
  { Harness.reset with status := if st == .calFailed then h.status else 0, cause := if st == .calFailed then h.cause else 0 }

/-- The dead-battery clamp alone shows on P0–P3 while the hub die is held in reset (R77, R116). -/
def Port.presentHeld (svc held : Bool) (x : Port) : Port :=
  if svc && held then { x with tc := { x.tc with pres1 := .clamp, pres2 := .clamp } } else x.present svc

/-- A port after a hub reset: AFE port logic and hub state at reset; harness results, trim verdict, conversions, CAL_FAILED and
LOCKOUT stay, and all but the conversions go at COLD_REQ. -/
def Port.hubReset (svc cold held : Bool) (b : Beat) (x : Port) : Port :=
  let st := if cold then Tc.disabled else x.tc.st.kept
  let y : Port := { Port.reset with
    harn := if cold then Harness.reset else x.harn.atReset st
    tc := if cold then { TypeC.reset with stBeat := b } else x.tc.keep b
    stage := { Stage.reset with conv := x.stage.conv }
    guard := { Guard.reset with gateBeat := b, belowOff := x.guard.belowOff, gst := if st == .lockout then .locked else .off
                                lastCause := if cold then none else x.keptCause } }
  y.presentHeld svc held

/-- A cluster after a hub reset; `sen` is what Cn_SEN_N shows. -/
def Cluster.hubReset (cold sen : Bool) (b : Beat) (k : Cluster) : Cluster :=
  if cold then { Cluster.reset with senLow := sen, senBeat := b }
  else { k.abandonTrim with cfg := Cluster.reset.cfg, senLow := sen, senBeat := b, sampler := none }

/-- The hub side of the feed link: the working set and the trunk value are taken anew (R308, R275). -/
def FeedDie.hubForget (d : FeedDie) : FeedDie :=
  { d with work := strapSet (Vector.replicate 4 0), workSet := false, cfgDue := none, trunkAge := 0, trunkSeen := false }

/-- A reset of the hub die (R77): the beat counter, the flash, the fuses and the feed guard die stay; pending completions go
(R394). `held`: RESET_N is low, so that the hub die and the AFE port logic stay in reset and the link to the feed guard die is down. -/
def State.hubReset (s : State) (cause : BitVec 3) (cold held : Bool) : State :=
  let t := s.cutStore
  let bits := t.dev.ready0 != 0 || t.ports.toList.any (fun x => x.tc.pReady)
  { t with
    board := { t.board with bootPending := true, cause := cause, recovery := false, runSlot := none, runSeq := 0, cfgGen := 0
                            resetReq := none, portsDue := false, resetLow := held }
    dev := { Dev.reset with keyRevoked := t.dev.keyRevoked, notReadyAny := t.dev.notReadyAny || bits }
    ports := Vector.ofFn fun p => t.ports[p].hubReset (isService p) cold held t.now
    clusters := Vector.ofFn fun c => t.clusters[c].hubReset cold (!held && (t.board.mainOn || c.val == 0)) t.now
    cores := Vector.replicate 9 .reset
    shared := 0
    pool := .reset
    host := .reset
    faults := .reset
    feed := if held then { t.feed.hubForget with linkUp := false } else t.feed.hubForget
    budget := .reset
    yarrow := .reset
    policy := .reset
    svc := .reset }

/-- RESET_N_ASSERT (R77, R78): the hub die is held in reset while the ball is low. -/
def execResetNAssert (s : State) : Host.Outcome State Fault Refusal :=
  .next (if s.board.resetLow then s
    else if s.board.svcOn then s.hubReset 1 false true
    else s.modBoard fun b => { b with resetLow := true })

/-- RESET_N_RELEASE (R78): boot follows at the first beat; the AFE port logic leaves reset with its loops in defined idle and
Cn_SEN_N low. -/
def execResetNRelease (s : State) : Host.Outcome State Fault Refusal :=
  .next (if s.board.resetLow then
      let t := s.modBoard fun b => { b with resetLow := false }
      { t with
        ports := Vector.ofFn fun p => t.ports[p].present (isService p)
        clusters := Vector.ofFn fun c =>
          if t.senDriven c then { t.clusters[c] with senLow := true, senBeat := s.now } else t.clusters[c] }
    else s)

/-- RESET_DEFERRED_START (R79): the reply has been read, or 25,000 beats have passed since it was queued. -/
def execResetDeferredStart (s : State) : Host.Outcome State Fault Refusal :=
  .next (match s.board.resetReq with
    | none => s
    | some r =>
      if r.read || decide (25000 ≤ Beat.since s.now r.queued) then s.hubReset (if r.cold then 3 else 2) r.cold false else s)

/-! ### Power (R26, R58, R61, R62, R422, R497) -/

/-- SERVICE_DOMAIN_POWER_ON (R29, R41, R58, R62): from VSVC held at 4.5 V for 1 ms, or with the main domain released. With the service
domain already on, VSVC comes to stand behind the main rails (DESIGN CHOICE, log 69). -/
def execServiceDomainPowerOn (vsvcHeld testen refEdges : Bool) (s : State) : Host.Outcome State Fault Refusal :=
  .next (if !s.board.svcOn && (vsvcHeld || s.board.mainOn) then
      let main := s.board.mainOn
      { s with
        board := { s.board with svcOn := true, vsvcGood := vsvcHeld, testen := testen, refExternal := refEdges, holdover := false
                                beat := 0, passIdx := 0, oddPass := false, bootPending := true, cause := 0
                                afeLink := Vector.ofFn fun d => main || d.val == 0 }
        clusters := Vector.ofFn fun c => { s.clusters[c] with senLow := !s.board.resetLow && (main || c.val == 0) } }
    else if s.board.svcOn && vsvcHeld then s.modBoard fun b => { b with vsvcGood := true }
    else s)

/-- MAIN_DOMAIN_RELEASE (R26, R61, R62, R83, R422): the main domain joins a running service domain, in which nothing is reset
and no boot takes place: its cells, S1–S7, the clusters, the feeds and Yarrow come back. -/
def execMainDomainRelease (s : State) : Host.Outcome State Fault Refusal :=
  .next (if s.board.mainOn then s
    else
      let t := s.modBoard fun b => { b with mainOn := true, mainLost := false }
      if !s.board.svcOn then t
      else
        let u := { t with
          board := { t.board with afeLink := Vector.replicate 4 true }
          pool := t.pool.joinMain
          clusters := Vector.ofFn fun c =>
            if t.senDriven c then { t.clusters[c] with senLow := true, senBeat := s.now } else t.clusters[c]
          ports := t.ports.map fun x => { x with guard := { x.guard with dT1 := 0, dT2 := 0 } } }
        if !s.coreReady 8 then u
        else
          let v := u.setReady 0x000007F0#32
          let w := { v with cores := Vector.ofFn fun k =>
            if k.val = 0 ∨ k.val = 8 then v.cores[k] else { v.cores[k] with flagFirst := true } }
          let c0 := if w.clusterReady 0 then w.joinTrim true else bringCluster true w 0
          let x := ((List.finRange 8).drop 1).foldl (bringCluster true) c0
          x.feedBits.yarrowBoot.wantAllocation)

/-- A core that loses its power: its parameters and the counts since the hub reset stay. -/
def CoreSt.lose (k : CoreSt) : CoreSt :=
  { CoreSt.reset with extCfg := k.extCfg, overruns := k.overruns, traps := k.traps, lastTrap := k.lastTrap }

/-- The service domain loses its last supply (R57, R497): the hub and AFE dies lose all state; the feed guard die, the flash and the
fuses do not. -/
def State.powerOff (s : State) : State :=
  let t := s.cutStore
  { State.reset with
    board := { Board.reset with resetLow := t.board.resetLow, free := t.board.free }
    dev := { Dev.reset with keyRevoked := t.dev.keyRevoked }
    feed := { t.feed.hubForget with linkUp := false, brownout := false }
    store := t.store
    pending := t.pending }

/-- MAIN_LOSS (R26, R97, R422): the functions outside the service domain stop and their ready bits clear. P0–P3 keep running on
S0, their stages and pass switches off, their kept harness results lost. Without VSVC the service domain goes with the main rails
(R57). -/
def execMainLoss (s : State) : Host.Outcome State Fault Refusal :=
  .next (if s.board.mainOn && s.board.svcOn && !s.board.vsvcGood then s.powerOff
    else if s.board.mainOn && s.board.svcOn then
      let b := s.now
      let t := s.quietPorts (allPorts.filter fun p => !isService p)
      let u := (allPorts.filter isService).foldl (fun (t : State) p => t.updPort p fun x =>
        let steps12 := x.harn.step == some .s1 || x.harn.step == some .s2
        let y := ((if steps12 then x else x.endCalRun b).stageStop).gateOff b
        { y with harn := y.harn.forget }) t
      let v := u.poolLoss
      let w := { v with
        board := { v.board with mainOn := false, mainLost := true }
        ports := Vector.ofFn fun p =>
          let x := v.ports[p]
          if isService p then x
          else { Port.reset with
            cfg := x.cfg, phy := { Phy.reset with safe := x.phy.safe, applied := x.phy.safe, shadow := x.phy.safe }, grant := x.grant
            tc := x.tc.keep b, harn := x.harn.lost x.tc.st
            guard := { Guard.reset with gst := if x.tc.st == Tc.lockout then .locked else .off, lastCause := x.keptCause } }
        clusters := Vector.ofFn fun c =>
          if c.val = 0 then { v.clusters[c].abandonTrim with
            adc := v.clusters[c].adc.set 1 .reset, trimPart := .service
            trimming := v.clusters[c].trimming && v.clusters[c].trimPart != TrimPart.join } else { Cluster.reset with cfg := v.clusters[c].cfg }
        cores := Vector.ofFn fun k => if k.val = 0 ∨ k.val = 8 then v.cores[k] else v.cores[k].lose
        yarrow := { Yarrow.reset with node := v.yarrow.node, group := v.yarrow.group, groupB := v.yarrow.groupB, link := v.yarrow.link
                                      crcErr := v.yarrow.crcErr, unknownType := v.yarrow.unknownType, seqDrop := v.yarrow.seqDrop
                                      transitAbort := v.yarrow.transitAbort, heldN := v.yarrow.heldN }
        budget := Budget.want b { v.budget with grantG := none, grantNext := none, decaying := false } }
      let y := (w.clearReady 0x007FE7F0#32).budgetReady
      if y.hubRuns then y.raise (devRaise 18 0 0) else y
    else s)

/-- SERVICE_DOMAIN_POWER_OFF (R497). -/
def execServiceDomainPowerOff (s : State) : Host.Outcome State Fault Refusal :=
  .next (if s.board.svcOn then s.powerOff else s)

/-! ### Boot (R67–R72, R80, R82) -/

/-- Payload of BOOT_REPORT (R71, R395). -/
def bootReport (b : Board) : List Byte :=
  leBytes 1 b.cause.toNat ++ leBytes 1 (b2n b.recovery)
    ++ leBytes 1 (match b.runSlot with | some false => 0 | some true => 1 | none => 0xFF) ++ [0] ++ wordBytes b.runSeq
    ++ wordBytes b.cfgGen ++ zeros 4

/-- BOOT_REPORT is the first event after a boot; no mask excludes it (R71, R395). -/
def State.report (s : State) : State :=
  s.modPool fun m => m.push qEvent (mkPacket m .none (eventBytes 0xC0 0x7F false (bootReport s.board)))

/-- The configuration in force (R70): the newest generation whose CRC verifies, or every reset value, which for the feed set is that
of the straps (R65, R308). -/
def State.configure (s : State) : State :=
  match s.store.newest with
  | some g => (s.applyGen g).sendFeedSet
  | none => s.modFeed fun d => if d.linkUp then { d with work := strapSet d.straps, workSet := true } else d

/-- What runs once the image does (R72, R81, R82, R315, R331): cores, clusters, feeds, budget, Yarrow. -/
def State.runImage (s : State) : State :=
  let main := s.board.mainOn
  let t := s.setReady (if main then 0x00000FF8#32 else 0x00000808#32)
  let u := { t with cores := Vector.ofFn fun k =>
    if main || k.val == 0 || k.val == 8 then { t.cores[k] with flagFirst := true } else t.cores[k] }
  let v := (List.finRange 8).foldl (bringCluster true) u
  let w := ((v.feedBits).budgetReady.setGrants v.floors)
  let y := if s.budgetHeld then w.wantAllocation else w
  if main then y.yarrowBoot else y

/-- BOOT_ROM_START (R58, R67–R71, R80, R88). -/
def execBootRomStart (s : State) : Host.Outcome State Fault Refusal :=
  .next (if s.board.svcOn && s.board.bootPending && !s.board.resetLow then
      let s0 := { s with board := { s.board with bootPending := false }, pool := s.pool.atBoot s.board.mainOn }
      if s.board.testen then s0.report.setReady 1#32
      else
        let c := s.store.choose s.dev.keyRevoked
        let s1 := { s0 with store := c.2.1 }
        let s2 := (s1.configure).modBoard fun b => { b with
          recovery := c.1.isNone, runSlot := c.1
          runSeq := match c.1 with | some i => BitVec.ofNat 32 (s.store.slotSeq i) | none => 0 }
        let n := s.store.newestSnap
        let s3 := s2.modFaults fun g => { g with
          snapSeq := BitVec.ofNat 32 (match n with | some e => e.1 | none => 0)
          snapPos := match n with | some e => (e.2 + 1) % 256 | none => 0 }
        let s4 := (s3.report).setReady 7#32
        let s5 := s4.raiseAll ((if s.store.newest.isNone then [devRaise 16 0 0] else []) ++ (if c.2.2 then [devRaise 17 0 0] else []))
        if c.1.isSome then s5.runImage else s5
    else s)

/-! ### Reference and links (R13, R30) -/

/-- REF_LOSS (R30): beat markers stop, so that every port goes quiet and a trim under way is given up; the C and P bits clear; holdover. -/
def execRefLoss (s : State) : Host.Outcome State Fault Refusal :=
  .next (if s.board.svcOn && !s.board.holdover then
      let t := (s.modBoard fun b => { b with holdover := true }).quietPorts allPorts
      let u : State := { t with
        clusters := Vector.ofFn fun c =>
          if t.senDriven c then { t.clusters[c].abandonTrim with senLow := true, senBeat := s.now } else t.clusters[c].abandonTrim }
      let v := u.clearReady 0x000FF000#32
      if v.hubRuns then v.raise (devRaise 0 0 0) else v
    else s)

/-- REF_RESTORED (R30): beats resume; each port stays quiesced until the host enables it. -/
def execRefRestored (s : State) : Host.Outcome State Fault Refusal :=
  .next (if s.board.svcOn && s.board.holdover then
      (List.finRange 8).foldl (bringCluster false) (s.modBoard fun b => { b with holdover := false })
    else s)

/-- AFE_LINK (R13): die `d` quiesces its 24 ports; the hub records the loss and clears the ready bits. -/
def execAfeLink (d : Fin 4) (s : State) : Host.Outcome State Fault Refusal :=
  .next (if s.board.svcOn && s.board.afeLink[d] && (s.board.mainOn || d.val == 0) then
      let t := (s.modBoard fun b => { b with afeLink := b.afeLink.set d false }).quietPorts (allPorts.filter fun p => p.val / 24 == d.val)
      let u : State := { t with
        clusters := Vector.ofFn fun c =>
          if dieOf c = d then (if t.senDriven c then { t.clusters[c].abandonTrim with senLow := true, senBeat := s.now }
            else t.clusters[c].abandonTrim) else t.clusters[c] }
      let v := u.clearReady (BitVec.ofNat 32 (3 * 2 ^ (12 + 2 * d.val)))
      if v.hubRuns then v.raise (devRaise (1 + d.val) 0 0) else v
    else s)

/-- AFE_LINK_RESTORE (R13): markers reach the die again; its ports wait for the host. -/
def execAfeLinkRestore (d : Fin 4) (s : State) : Host.Outcome State Fault Refusal :=
  .next (if s.board.svcOn && !s.board.afeLink[d] && (s.board.mainOn || d.val == 0) then
      [(0 : Nat), 1].foldl (fun (t : State) i => bringCluster false t ⟨(2 * d.val + i) % 8, by omega⟩)
        (s.modBoard fun b => { b with afeLink := b.afeLink.set d true })
    else s)

end Sys2Proof.Machine
end

