-- ==== Sys2Proof/Machine/Beat.lean ====
section
/-! DEFINITION. Slot 0 of a beat (R31, R34, R35, R39, R41) with what the rules let act at it, and the words that reports and
snapshots show of the whole module (R73, R357, R361). -/

namespace Sys2Proof.Machine

/-! ### Words of the whole module -/

/-- A list of bits packed eight to a byte, the first at bit 0. -/
def packBits : Nat → List Bool → List Byte
  | 0, _ => []
  | n + 1, bs => BitVec.ofNat 8 (((bs.take 8).zipIdx.map fun e => bw e.1 e.2).sum) :: packBits n (bs.drop 8)

/-- Ready map words 0–3 (R73). -/
def State.readyBytes (s : State) : List Byte := wordBytes s.dev.ready0 ++ packBits 12 (s.ports.toList.map fun x => x.tc.pReady)

/-- ACTIVE and RAISED of F0–F255 (R357). -/
def State.activeBytes (s : State) : List Byte := packBits 32 ((List.range 256).map fun n => active s n)
def State.raisedBytes (s : State) : List Byte := leBytes 32 s.faults.raised.toNat

/-- Severities packed two bits a source (R361). -/
def State.sevBytes (s : State) : List Byte :=
  (List.range 64).map fun i => BitVec.ofNat 8 (((List.range 4).map fun j => s.sevOf (4 * i + j) * 4 ^ j).sum)

/-- The latched record (R360). -/
def latchBytes (l : Latch) : List Byte := recBytes (faultRec l.raise l.sev l.reaction true false l.beat)

/-- Bytes 8–4,087 of a snapshot at its capture (R361). Log entries that do not exist yet are open bytes (log 9). -/
def State.snapBody (s : State) : List Byte :=
  let newest := (s.faults.log.drop (s.faults.log.length - 128)).flatMap recBytes
  beatBytes s.now ++ [0, 0] ++ (match s.faults.latch with | some l => latchBytes l | none => zeros 16)
    ++ s.activeBytes ++ s.raisedBytes ++ s.sevBytes
    ++ (s.ports.toList.flatMap fun x =>
          leBytes 1 (x.tc.st.code + gstCode x.guard.gst * 32) ++ leBytes 1 (tempByte (x.guard.tEst / 65536)) ++ u16 (half x.stage.conv.ibus).toNat)
    ++ (s.ports.toList.flatMap fun x => u16 (half (x.stage.conv.vbs / 100)).toNat)
    ++ s.feed.statusBytes ++ s.budgetStatusBytes.take 28 ++ zeros 4 ++ s.readyBytes
    ++ newest ++ ((List.range (2048 - newest.length)).map fun i => Config.freeByte s.board.free i)
    ++ List.replicate 1216 0xFF#8

/-! ### A port at slot 0 -/

/-- What the Loop array has commanded for the next slot 0 (R12, R260, R264, R273): a discharge run is the forward pattern. -/
def Stage.command (g : Stage) : StageCmd :=
  if g.mode == .idle && !g.disRun then .off else ⟨if g.disRun then .forward else g.mode, g.region, g.dacNext, g.slope⟩

/-- Periods of a command that were begun `age` beats before the past one and whose charging phase ended in the past beat (R259), in the
units of 125 ps of the grid (R263). -/
def phasesEnded (fsw : Nat) (p : PortId) (age : Nat) (c : StageCmd) (qs : List Period) : List Period :=
  (qs.zipIdx.filter fun e =>
    let t : Int := (startAt fsw p + 16000 * e.2 + 8 * e.1.chargeEnd (periodNs fsw) c : Nat) - 32000 * (age : Int)
    decide (0 < t) && decide (t ≤ 32000)).map Prod.fst

/-- Whether every charging phase that ended in the beat before `b` ended at its upper bound (R259, R260); where none ended, as before. -/
def Port.atBound (p : PortId) (b : Beat) (x : Port) : Bool :=
  let g := x.stage
  let fsw := g.fsw
  let age := if startsIn fsw p (b - 1) then 0 else 1
  let ended := phasesEnded fsw p age g.cur g.nowP ++ phasesEnded fsw p (age + if fsw = 0 then 2 else 1) g.last g.lastP
  if ended.isEmpty then g.headroomNow else ended.all fun q => q.trip.isNone

/-- The Loop array's commands of the past beat take effect (R12). A stop brings both PWMs low (R273); else the port latches the command
at the period start of the beat, where it has one (R263), from the beat of its first period on (R272), at the frequency that its start
found (R262). -/
def Port.stageBeat (p : PortId) (b : Beat) (x : Port) : Port :=
  let g := x.stage
  let next := g.command
  if next.mode == .idle then
    { x with stage := { g with cmd := .off, cur := .off, last := .off, nowP := [], lastP := [], clamped := true, headroomNow := false
                               runs := { g.runs with upper := 0 } } }
  else if g.startAt.later b then { x with stage := { g with cmd := next, runs := { g.runs with upper := 0 } } }
  else
    let top := x.atBound p b
    let h : Stage := { g with cmd := next, headroomNow := top, runs := { g.runs with upper := runTo top 250 g.runs.upper } }
    if startsIn g.fsw p b then
      { x with stage := { h with cur := next, last := g.cur, lastP := g.nowP, clamped := false
                                 nowP := List.replicate (if g.fsw = 2 then 2 else 1) ⟨none, none⟩ } }
    else { x with stage := h }

/-- Runs of beats in defined idle, of a port whose AFE die is powered, and with VCONN on and good (R229, R235, R258). -/
def Port.idleBeat (good driven : Bool) (x : Port) : Port :=
  { x with stage := { x.stage with runs := { x.stage.runs with
      idle := if x.definedIdle && driven then min 250 (x.stage.runs.idle + 1) else 0
      vconnOn := if x.tc.vconnOn && good then min 1000 (x.stage.runs.vconnOn + 1) else 0 } } }

/-- Slot 0 of one port: timers, deferred parameter sets, stage commands, guard (R12, R39, R277, R299). -/
def Port.slot0 (fine good driven : Bool) (p : PortId) (b : Beat) (bo : Option Nat) (x : Port) : Port :=
  let y : Port := { x with timers := x.timers.map (Timer.tick fine), cfg := x.cfg.written }
  let z := ((y.stageBeat p b).guardBeat b bo).idleBeat good driven
  if z.tc.rdCheck.isSome then z.refreshRp else z

/-! ### What the collector owes (R349, R350, R359) -/

/-- States that R349 step 3 takes to an unattached state. -/
def Tc.leaves (t : Tc) : Bool :=
  t.attached || t.attachWait || t == .trySrc || t == .trySnk || t == .tryWaitSrc || t == .tryWaitSnk

/-- A quiesced port at the next slot 0 (R349 steps 2 to 5, R350): no stage-side discharge run follows, and a port that a guard trip has
taken to ERROR_RECOVERY still waits for its temperature (R293, R354). -/
def State.safeAct (s : State) (e : PortId × Safe) : State :=
  let p := e.1
  let st := (s.port p).tc.st
  let down := st == .disabled || st == .calFailed || st == .lockout
  match e.2 with
  | .portSafe =>
    if st.leaves then (s.dropPort p 0x85 8 (fun x => Port.toRoleState (isService p) s.now (draw s (max 1 x.tDrp)) x.dropPd)).drawn
    else if st == .errorRecovery || down then s
    else s.dropPort p 0x85 8 Port.dropPd
  | .deviceSafe =>
    if down then s
    else s.dropPort p 0x85 8 (fun x =>
      let y := x.toErrorRecovery (isService p) s.now false s.faults.hold (if x.tc.tripWait then max x.tErr x.cool else x.tErr)
      { y with tc := { y.tc with tripWait := x.tc.tripWait } })

/-- Host answers that the cluster cores take in this beat (R204); a stopped core takes them when it resumes (R19). -/
def State.takeAnswers (s : State) : State :=
  (s.policy.answers.filter fun a => s.fw a.1.port).foldl
    (fun (t : State) a => t.act a.1.port a.1.cls a.1.point a.2.1 (some a.1.asked) a.2.2)
    { s with policy := { s.policy with answers := s.policy.answers.filter fun a => !(s.fw a.1.port) } }

/-- The queues that refuse a DECISION_REQUEST show it (R436, R444). -/
def State.refuseAsk (s : State) (payload : List Byte) : State :=
  let n := (mkPacket s.pool .none (eventBytes 0xC2 0 false payload)).cells
  let f (service : Bool) (mask : Word) (q : QueueId) (m : Pool) : Pool := if service && bit1 mask 2 && !m.room q n then m.refuseFor q n else m
  s.modPool fun m => f s.svcOn s.host.maskSvc qSvcOut (f true s.host.maskHost qEvent m)

/-- S8 takes one request from a decision queue (R23, R205): DECISION_REQUEST goes out where the request is still outstanding; one that
finds no cell, or that fails its check, resolves to its default (R25, R444). -/
def State.deliverOne (q : QueueId) (s : State) (k : Packet) : State :=
  let id := rdNat k.data 0 2
  match s.policy.decisions.find? (fun d => d.id == id) with
  | none => s
  | some d =>
    if k.bad then (s.found q k.flaw).decisionDefault id
    else if s.askRefused k.data then (s.refuseAsk k.data).decisionDefault id
    else s.post 0xC2 d.port.val k.data

/-- S8 takes one event from a cluster's event queue; one that its cells show unsound is dropped (R25, R442). -/
def State.deliverEvent (q : QueueId) (s : State) (k : Packet) : State :=
  if k.bad then s.found q k.flaw else s.send (rdByte k.data 0) (rdNat k.data 4 2) ((k.data.drop 8).take (rdNat k.data 6 2))

/-- S8 takes the events that stand on the clusters' event queues (R424). -/
def State.deliverEvents (s : State) : State :=
  if s.coreStopped 8 then s
  else (List.finRange 8).foldl
    (fun (t : State) c =>
      let x := t.pool.queues[qEvt c]
      if x.quarantine then t
      else x.closed.foldl (State.deliverEvent (qEvt c)) (t.modPool fun m => m.modQ (qEvt c) fun y => { y with closed := [], popped := 0, wordErr := false }))
    s

/-- S8 delivers the requests that stand on the clusters' decision queues (R23). -/
def State.deliverDecisions (s : State) : State :=
  if s.coreStopped 8 then s
  else (List.finRange 8).foldl
    (fun (t : State) c =>
      let x := t.pool.queues[qDec c]
      if x.quarantine then t
      else x.closed.foldl (State.deliverOne (qDec c)) (t.modPool fun m => m.modQ (qDec c) fun y => { y with closed := [], popped := 0, wordErr := false }))
    s

/-- S8 takes one answer of a cluster's core and queues its completion (R17, R394); one that its cells show unsound is dropped, with the
cells kept for it (R25). -/
def State.deliverAnswer (q : QueueId) (s : State) (k : Packet) : State :=
  match k.carried with
  | .ans st opc => if k.bad then (s.modPool fun m => m.dropHand k).found q k.flaw else s.completeNow st opc k.data
  | _ => s

/-- S8 takes the answers that stand on the clusters' answer queues (R17, R424). -/
def State.deliverAnswers (s : State) : State :=
  if s.coreStopped 8 then s
  else (List.finRange 8).foldl
    (fun (t : State) c =>
      let x := t.pool.queues[qAnswer c]
      if x.quarantine then t
      else x.closed.foldl (State.deliverAnswer (qAnswer c)) (t.modPool fun m => m.modQ (qAnswer c) fun y => { y with closed := [], popped := 0, wordErr := false }))
    s

/-- A header or a source template of the class is among the writes (R321). -/
def PolicyWrite.concerns (cls : Nat) : PolicyWrite → Bool
  | .header c _ => c.val == cls
  | .template c sink _ => c.val == cls && !sink
  | .rules _ _ _ => false

/-- Stored table writes come into force (R190, R196); a header or a source template triggers an allocation, or during brownout
sets the grants of its class's ports to their floors (R316, R321). -/
def State.takeWrites (s : State) : State :=
  if s.policy.writes.isEmpty then s
  else
    let ws := s.policy.writes
    let t := { s with policy := { s.policy with classes := s.policy.written, writes := [] } }
    let u := if t.feed.brownout then
        t.mapPorts fun _ x => if ws.any fun w => w.concerns (fld x.cfg.classSel 0 4) then { x with grant := floorOf (t.classOf x) t.budget x } else x
      else t
    let v := u.capsChanged
    if ws.any fun w => (List.range 16).any fun n => w.concerns n then v.wantAllocation else v

/-- Yarrow's back-offs run down (R325). -/
def YPortSt.wait (y : YPortSt) : YPortSt := { y with backoff := y.backoff - 1 }

/-- Raises that act at this slot 0, resolved together (R347): OVERTEMP of the ports in `hot`, forced ones (R359), POOL_LOW and
POOL_EXHAUSTED of the past beat (R442, R444, log 23). -/
def State.slotRaises (hot : List Raise) (s : State) : State :=
  let rs := hot ++ s.faults.forceDue ++ (if s.pool.lowDue then [devRaise 212 0 0] else []) ++ (if s.pool.exhDue then [devRaise 213 0 0] else [])
  let t := { s with faults := { s.faults with forceDue := [] }, pool := { s.pool with lowDue := false, exhDue := false } }
  if rs.isEmpty then t else t.raiseAll rs

/-- The reaction window ends with slot 0 of the beat after the latch, and a snapshot due is captured then (R352, R361; log 96). -/
def State.windowEnd (s : State) : State :=
  let s1 := s.modFaults fun g => { g with window := g.window && (match g.latch with | some l => l.beat == s.now | none => false) }
  if s1.faults.snapDue && !s1.faults.window then
    (s1.modFaults fun g => { g with snap := g.snap ++ [s1.snapBody], snapDue := false }).drawn
  else s1

/-- RESET with KIND PORTS acts (R77, R79, R114, R405): every port that R114 admits enters ERROR_RECOVERY. -/
def State.portsReset (s : State) : State :=
  if !s.board.portsDue then s
  else allPorts.foldl
    (fun (t : State) p => if Tc.recovers (t.port p).tc.st then t.errorRecovery p 8 else t)
    (s.modBoard fun b => { b with portsDue := false })

/-- The beat generator (R34, R35, R41). -/
def Board.advance (b : Board) : Board :=
  { b with beat := b.beat + 1, passIdx := (b.passIdx + 1) % 9, oddPass := if b.passIdx = 8 then !b.oddPass else b.oddPass }

/-- The ADC trims of the past beat take effect (R155). -/
def Cluster.takeTrims (k : Cluster) : Cluster :=
  (k.modAdc false fun a => { a with trim := a.trimNext }).modAdc true fun a => { a with trim := a.trimNext }

/-- Slot 0 at the ports: each port's own part, the cable assumed for its class (R200), then VCONN's conditions and an ordered Cable
Reset (R117, R130). -/
def State.portsBeat (s : State) (b : Beat) : State :=
  let fine := b.toNat % 256 == 0
  allPorts.foldl (fun (t : State) p =>
    let k := t.cluster (clusterOf p)
    let bo := if t.feed.brownout then some (classFloor (t.classOf (t.port p)) t.budget) else none
    let u := t.updPort p fun x =>
      let y := Port.slot0 fine k.vconnGood (t.senDriven (clusterOf p)) p b bo x
      y.refreshCable (t.classOf y).header.cableImax
    ((if u.fw p then u.vconnBeat p else u)).cableGap p) s

/-- Messages refused a cell are tried again in each beat (R444). -/
def State.retryAll (s : State) : State :=
  allPorts.foldl (fun (t : State) p => if (t.port p).pd.held.isEmpty || !t.fw p then t else t.retryHeld p) s

/-- What slot 0 does beside the counter while the hub die runs (R31). The reactions of the past beat act before those of this slot's
raises begin (R349, R350). -/
def State.hubBeat (s1 : State) : State :=
  let b := s1.now
  let s2 := { s1.takeWrites with
    faults := { s1.faults with sev := s1.faults.sevNext.getD s1.faults.sev, sevNext := none }
    yarrow := { s1.yarrow with pa := s1.yarrow.pa.wait, pb := s1.yarrow.pb.wait }
    clusters := s1.clusters.map Cluster.takeTrims }
  let h := (s2.portsBeat b).hotTrips
  let s3 := h.1
  let due := s3.faults.safeNext
  let s4 := due.foldl State.safeAct { s3 with faults := { s3.faults with safeNext := [] } }
  ((s4.deliverEvents.deliverDecisions.deliverAnswers.takeAnswers.portsReset.retryAll.drainFwd).slotRaises h.2).windowEnd

/-- BEAT (R31): slot 0 of the next beat. While RESET_N holds the hub die in reset only the beat generator runs (R41, R78). -/
def State.nextBeat (s : State) : State :=
  let s1 := (s.modBoard Board.advance).modFeed fun f => { f with trunkAge := min 100000 (f.trunkAge + 1) }
  if s1.hubRuns then s1.hubBeat else s1

/-- BEAT (R31). -/
def execBeat (s : State) : Host.Outcome State Fault Refusal :=
  .next (if s.board.svcOn then s.nextBeat else s)

end Sys2Proof.Machine
end

