-- ==== Sys2Proof/Machine/HostPort.lean ====
section
/-! DEFINITION. The host port (chapter 15): the status mirror, credit, and the transactions WRITE, READ and STATUS. -/

namespace Sys2Proof.Machine

/-! ### Mirror, credit and lines (R74, R355, R369, R372, R384) -/

/-- READY_ALL (R74). -/
def State.readyAll (s : State) : Bool :=
  s.dev.ready0 &&& s.dev.readyExpect == s.dev.readyExpect && s.ports.toList.all fun x => !x.enabled || x.tc.pReady

/-- CREDITS of DEV.HOST_CFG (R364). -/
def HostPort.credits (h : HostPort) : Nat := fld h.cfg 8 8

/-- CREDIT (R384): one unit for each five free general cells. -/
def State.credit (s : State) : Nat :=
  min (min (s.host.credits - s.host.unitsUsed - s.host.withheld) (s.pool.free / 5)) 255

/-- The status mirror (R369). -/
def State.mirror (s : State) : Word :=
  BitVec.ofNat 32 (bw s.faults.latch.isSome 0 + bw (s.pool.head qReply).isSome 1 + bw (s.pool.head qEvent).isSome 2
    + bw s.readyAll 3 + bw s.dev.notReadyAny 4 + bw s.host.hcrcErr 5 + bw s.host.inDrop 6 + bw s.host.outBad 7
    + s.credit * 2 ^ 8 + s.now.toNat % 256 * 2 ^ 16 + s.host.lastTag.toNat * 2 ^ 24)

/-- HIRQ_N is low while a closed packet waits in Q8 or Q9 (R372), FAULT_N while the latch holds a record (R355). -/
def State.hirqLow (s : State) : Bool := s.ready 0 && ((s.pool.head qReply).isSome || (s.pool.head qEvent).isSome)
def State.faultLow (s : State) : Bool := s.faults.latch.isSome

/-- The end of a transaction whose mirror was clocked whole: the bits it reported clear and withheld credit returns (R370,
R383). -/
def HostPort.reported (whole : Bool) (h : HostPort) : HostPort :=
  if whole then { h with hcrcErr := false, inDrop := false, outBad := false, withheld := 0 } else h

/-- A transaction that delivers the mirror and nothing else; one cut short has driven the mirror's bits as far as it was clocked
(R365). -/
def State.mirrorOnly (s : State) (whole : Bool) : State :=
  let m := s.mirror
  s.modHost fun h => { h.reported whole with driven := wordBytes m }

/-! ### The lines HIO0–HIO3 (R362, R363, R365, R366)

Rising edges of HSCK are counted from 1 within a transaction. -/

/-- A transaction begins: its type, in the wire mode that its fall of HCS_N found (R364). -/
def State.transact (s : State) (t : Transfer) : State := s.modHost fun h => { h with transfer := t, transferQuad := h.quad }

/-- Bit of `bytes` that edge `i`, counted from 0 in its phase, carries on line `l`: most significant bit first on one line, or a nibble
a cycle, the high one first, HIO3 its most significant bit (R362, R363). Past the bytes 0. -/
def lineBit (quad : Bool) (bytes : List Byte) (i : Nat) (l : Fin 4) : Bool :=
  if quad then (bytes.getD (i / 2) 0).getLsbD (if i % 2 = 0 then 4 + l.val else l.val)
  else (bytes.getD (i / 8) 0).getLsbD (7 - i % 8)

/-- What the module drives on line `l` at rising edge `n` of the last transaction; none where it does not drive it (R363, R365, R366).
`low`: HCS_N is low. -/
def HostPort.moduleLine (h : HostPort) (low : Bool) (n : Nat) (l : Fin 4) : Option Bool :=
  if !low || decide (n ≤ 8) then none
  else match h.transfer, h.transferQuad with
    | .none, _ | .unknown, _ => none
    | .write _, true => if n ≤ 16 then some (lineBit true h.driven (n - 9) l) else none
    | _, true => some (lineBit true h.driven (n - 9) l)
    | _, false => if l = 1 then some (lineBit false h.driven (n - 9) l) else none

/-- What the host drives on line `l` at edge `n` of a transaction with type byte `b` that carries `packet` in wire mode `quad` (R363,
R365, R366): the type byte on HIO0 alone in either mode. -/
def hostLine (quad : Bool) (b : Byte) (packet : List Byte) (n : Nat) (l : Fin 4) : Option Bool :=
  let first := if quad then 17 else 41
  if n = 0 then none
  else if n ≤ 8 then (if l = 0 then some (lineBit false [b] (n - 1) l) else none)
  else if n < first || decide ((if quad then 16 + 2 * packet.length else 40 + 8 * packet.length) < n) then none
  else if quad then some (lineBit true packet (n - first) l)
  else if l = 0 then some (lineBit false packet (n - first) l) else none

/-- The byte that the module assembles from the lines at edge `n` and after (R362, R363). -/
def lineByte (quad : Bool) (wire : Nat → Fin 4 → Bool) (n : Nat) : Byte :=
  if quad then BitVec.ofNat 8 (((List.finRange 4).map fun l => bw (wire n l) (4 + l.val) + bw (wire (n + 1) l) l.val).sum)
  else BitVec.ofNat 8 (((List.range 8).map fun k => bw (wire (n + k) 0) (7 - k)).sum)

/-- The packet of a WRITE as the module reads it off the lines: `m` bytes (R365). -/
def linePacket (quad : Bool) (wire : Nat → Fin 4 → Bool) (m : Nat) : List Byte :=
  (List.range m).map fun j => lineByte quad wire ((if quad then 17 else 41) + (if quad then 2 else 8) * j)

/-! ### WRITE (R365–R368, R377, R378, R383, R385) -/

/-- The packet's length may be a command's (R367). -/
def framed (n : Nat) : Bool := n % 4 == 0 && decide (12 ≤ n) && decide (n ≤ 4108)

/-- The host CRC of a packet verifies (R376). -/
def hostCrcOk (pkt : List Byte) : Bool := crc32 (pkt.take (pkt.length - 4)) == rdWord pkt (pkt.length - 4)

/-- A POOL_EXHAUSTED reply from the refusal reserve: into Q8 or Q15, never refused with FULL; none when all 16 cells are in use
(R385, R423, R445). -/
def Pool.refusal (m : Pool) (q : QueueId) (pkt : List Byte) : Option Pool :=
  if 16 ≤ m.refusalUsed then none
  else some (m.modQ q fun x => { x with closed := x.closed ++ [{ mkPacket m .none pkt with refusal := true }] })

/-- A tag is outstanding or a command that carries it waits (R381). -/
def Pool.tagWaits (m : Pool) (qs : List QueueId) (tag : Byte) : Bool :=
  qs.any fun q => (m.queues[q]).closed.any fun k => k.data.getD 1 0 == tag

/-- A sound packet of `n` wire bytes, its trailer dropped, closes into Q0 or Q1 (R378, R380, R383). -/
def State.closeCommand (s : State) (n : Nat) (flaw : CellObs) (data : List Byte) : State :=
  let tag := data.getD 1 0
  let q := if (data.getD 2 0).getLsbD 0 then qUrgent else qHost
  let dup := s.host.tagsHost.contains tag || s.pool.tagWaits [qHost, qUrgent] tag
  let t := s.modPool fun m => m.push q { mkPacket m (.cmd dup) data with flaw := flaw }
  t.modHost fun h => { h with
    lastTag := tag, unitsUsed := h.unitsUsed + (n + 255) / 256, tagsHost := if dup then h.tagsHost else h.tagsHost ++ [tag] }

/-- A sound packet without credit or cells (R385): POOL_EXHAUSTED echoing OPC and TAG, or IN_DROP. -/
def State.refuseWrite (s : State) (data : List Byte) : State :=
  let h := data
  let pkt := replyBytes (h.getD 0 0).toNat (h.getD 1 0).toNat 0x8C ((h.getD 2 0).getLsbD 0) false (rdNat h 4 2 % 512) []
  match s.pool.refusal qReply pkt with
  | some m => { s with pool := m }
  | none => s.modHost fun h => { h with inDrop := true }

/-- WRITE (R367, R377 rows 1 and 2); the lines carry the packet's bytes as `linePacket` reads them. -/
def execWrite (mirrorDone : Bool) (w : HostPacket) (s : State) : Host.Outcome State Fault Refusal :=
  let packet := w.bytes
  .next (if !s.ready 0 then s
    else if packet.isEmpty then (s.transact (.write 0)).mirrorOnly mirrorDone
    else
      let n := packet.length
      let c := s.credit
      let t := (s.transact (.write n)).mirrorOnly true
      if !framed n || !hostCrcOk packet then
        t.modHost fun h => { h with hcrcErr := true, withheld := h.withheld + (n + 255) / 256 }
      else
        let data := packet.take (n - 4)
        let q := if (data.getD 2 0).getLsbD 0 then qUrgent else qHost
        if c < (n + 255) / 256 then t.refuseWrite data
        else if t.pool.room q (cellsFor data.length) then t.closeCommand n w.flaw data
        else ({ t with pool := t.pool.refuseFor q (cellsFor data.length) }).refuseWrite data)

/-! ### READ (R365, R367, R380, R382, R388) -/

/-- The queue a READ delivers from (R380). -/
def State.readQueue (s : State) : Option (QueueId × Packet) :=
  match s.pool.head qReply with
  | some k => some (qReply, k)
  | none => (s.pool.head qEvent).map fun k => (qEvent, k)

/-- The bytes of a READ of `n` packet bytes: packet, trailer, zero fill; a bad packet's trailer is the complement of its CRC
(R365, R376, R388). -/
def wireBytes (k : Packet) (bad : Bool) (n : Nat) : List Byte :=
  let crc := crc32 k.data
  let b := k.data ++ wordBytes (if bad then ~~~crc else crc)
  b.take n ++ zeros (n - b.length)

/-- The reply to a COLD_REQ or WARM, or to an IMAGE_COMMIT with ACTIVATE, has been read (R79, R417). -/
def Board.replyRead (b : Board) (st : Stream) (k : Packet) : Board :=
  { b with resetReq := b.resetReq.map fun r =>
      if r.stream = st && (k.data.getD 0 0 == 6 || k.data.getD 0 0 == 0x83) && some r.tag == replyTag k then { r with read := true } else r }

/-- READ (R367, R380, R388, R437–R439): `clocked` packet bytes; the packet leaves at its last trailer byte. -/
def execRead (mirrorDone : Bool) (clocked : Nat) (obs : CellObs) (s : State) : Host.Outcome State Fault Refusal :=
  .next (if !s.ready 0 then s
    else
      let t := (s.transact .read).mirrorOnly mirrorDone
      if !mirrorDone then t
      else match s.readQueue with
        | none => t.modHost fun h => { h with driven := h.driven ++ zeros clocked }
        | some (q, k) =>
          let o := if obs == .sound then k.flaw else obs
          let bad := k.poison || o != .sound
          let u := t.modHost fun h => { h with driven := h.driven ++ wireBytes k bad clocked }
          if clocked < k.data.length + 4 then
            if o == .sound then u
            else (u.modPool fun m => m.modQ q fun x => { x with closed := { k with poison := true } :: x.closed.tail }).found q o
          else
            let v := { u with
              pool := u.pool.pop q
              host := { (if q = qReply then u.host.freeReply q k else u.host) with outBad := u.host.outBad || bad }
              board := if q = qReply then u.board.replyRead .host k else u.board }
            v.found q o)

/-- STATUS (R365, R370). -/
def execStatus (mirrorDone : Bool) (s : State) : Host.Outcome State Fault Refusal :=
  .next (if s.ready 0 then (s.transact .status).mirrorOnly mirrorDone else s)

/-- UNKNOWN_TYPE_BYTE (R367): the module drives nothing and sets HCRC_ERR; no credit is withheld and no mirror is reported. -/
def execUnknownTypeByte (_mirrorDone : Bool) (b : Byte) (s : State) : Host.Outcome State Fault Refusal :=
  .next (if s.ready 0 && b != 0x5A#8 && b != 0xA5#8 && b != 0x3C#8 then
      (s.transact .unknown).modHost fun h => { h with hcrcErr := true, driven := [] }
    else s)

end Sys2Proof.Machine
end

