-- ==== Sys2Proof/Machine/Commands.lean ====
section
/-! DEFINITION. How S8 takes a command and answers it (R75, R373–R381, R387, R389–R392, R445): the fields of the header, the
table of opcodes, the header checks in their order, readiness, reservation of cells, and the reply before its effects. -/

namespace Sys2Proof.Machine

/-- A command taken from a queue: its stream, for a forwarded one its origin, and its bytes without the trailer. -/
structure Cmd where
  stream : Stream
  node : BitVec 12
  dup : Bool                    -- its tag was outstanding or waiting when it closed (R381)
  data : List Byte
  deriving DecidableEq, Repr

/-! ### Header fields (R373) -/

def Cmd.opc (c : Cmd) : Nat := rdByte c.data 0
def Cmd.tag (c : Cmd) : Byte := c.data.getD 1 0
def Cmd.urgent (c : Cmd) : Bool := (c.data.getD 2 0).getLsbD 0
def Cmd.nodeField (c : Cmd) : Nat := rdNat c.data 2 2 / 16
def Cmd.w1 (c : Cmd) : Nat := rdNat c.data 4 2
def Cmd.portField (c : Cmd) : Nat := c.w1 % 128
def Cmd.tgt (c : Cmd) : Nat := c.w1 / 128 % 4
def Cmd.len (c : Cmd) : Nat := rdNat c.data 6 2
def Cmd.payload (c : Cmd) : List Byte := (c.data.drop 8).take c.len
def Cmd.hdr (c : Cmd) : List Byte := c.data.take 8
def Cmd.port (c : Cmd) : PortId := ⟨c.portField % 96, Nat.mod_lt _ (by decide)⟩
def Cmd.tgtOf (c : Cmd) : Tgt := if c.tgt = 0 then .sop else if c.tgt = 1 then .sop1 else .sop2

/-- Payload byte, half and word at an offset. -/
def Cmd.b (c : Cmd) (off : Nat) : Nat := rdByte c.payload off
def Cmd.h (c : Cmd) (off : Nat) : Nat := rdNat c.payload off 2
def Cmd.w (c : Cmd) (off : Nat) : Word := rdWord c.payload off

/-! ### The opcode table (R389, R390) -/

def portOpcs : List Nat :=
  [0x10, 0x11, 0x12, 0x13, 0x14, 0x18, 0x22, 0x30, 0x31, 0x32, 0x33, 0x34, 0x38, 0x40, 0x41, 0x42, 0x43, 0x48, 0x58, 0x59, 0x5A]

def devOpcs : List Nat :=
  [0x00, 0x01, 0x02, 0x05, 0x06, 0x08, 0x20, 0x21, 0x28, 0x50, 0x51, 0x52, 0x5B, 0x5C, 0x60, 0x61, 0x62, 0x63, 0x68, 0x70, 0x71, 0x72,
    0x80, 0x81, 0x82, 0x83, 0x84, 0x88, 0x89, 0x90, 0x91, 0x92]

/-- PARAM_GET and PARAM_SET, whose PORT goes by ID (R397). -/
def idOpcs : List Nat := [0x03, 0x04]

def assignedOpc (o : Nat) : Bool := portOpcs.contains o || devOpcs.contains o || idOpcs.contains o

/-- LEN permitted for the opcode (R389, R190, R358). -/
def Cmd.lenOk (c : Cmd) : Bool :=
  let n := c.len
  let o := c.opc
  if o = 0x00 then decide (n ≤ 4096)
  else if o = 0x04 then n % 8 == 0 && decide (8 ≤ n) && decide (n ≤ 512)
  else if o = 0x10 then n == 16
  else if o = 0x20 then (if c.b 1 = 0 then n == 20 else if c.b 1 = 1 then n == 4 + 16 * c.b 3 else n == 20 || n == 4 + 16 * c.b 3)
  else if o = 0x22 || o = 0x52 || o = 0x72 then n == 8
  else if o = 0x28 then n == 92
  else if o = 0x30 then n % 4 == 0 && decide (4 ≤ n) && decide (n ≤ 264)
  else if o = 0x41 then n % 4 == 0 && decide (4 ≤ n) && decide (n ≤ 28)
  else if o = 0x58 then n == 36
  else if o = 0x5A then n == 32
  else if o = 0x62 then (if c.b 1 = 0 then n == 4 else if c.b 1 = 1 then n == 4 + (c.h 2 + 3) / 4 * 4 else n == 4 || n == 4 + (c.h 2 + 3) / 4 * 4)
  else if o = 0x68 || o = 0x89 then n == 12
  else if o = 0x81 then decide (260 ≤ n) && decide (n ≤ 3844)
  else if o = 0x88 then n % 4 == 0 && decide (12 ≤ n) && decide (n ≤ 4096)
  else if o = 0x92 then n % 4 == 0 && decide (12 ≤ n) && decide (n ≤ 1024)
  else if [0x03, 0x06, 0x11, 0x14, 0x21, 0x38, 0x40, 0x42, 0x43, 0x50, 0x5B, 0x61, 0x63, 0x70, 0x71, 0x80, 0x83, 0x91].contains o then n == 4
  else n == 0

/-- Largest payload of a reply (R389, R445). -/
def Cmd.maxReply (c : Cmd) : Nat :=
  let o := c.opc
  if o = 0x00 then c.payload.length
  else if o = 0x01 then 48
  else if o = 0x02 then 16
  else if o = 0x03 then 260
  else if o = 0x08 then 8
  else if o = 0x12 then 40
  else if o = 0x13 then 52
  else if o = 0x14 || o = 0x59 || o = 0x84 then 32
  else if o = 0x21 then 516
  else if o = 0x31 then 280
  else if o = 0x48 then 452
  else if o = 0x51 then 220
  else if o = 0x5C then 40
  else if o = 0x60 then 112
  else if o = 0x62 then 260
  else if o = 0x68 then 4096
  else if o = 0x70 then 1036
  else if o = 0x89 then 16
  else if o = 0x90 then 44
  else if o = 0x92 then 4096
  else 4

/-- Cells of the largest reply (R430, R445). -/
def Cmd.replyCells (c : Cmd) : Nat := cellsFor (8 + max 4 c.maxReply)

/-- Commands that can be answered with ACCEPTED (R389). -/
def acceptsLater (o : Nat) : Bool := [0x05, 0x30, 0x32, 0x38, 0x40, 0x41, 0x42, 0x43, 0x80, 0x82].contains o

/-- Bytes of a payload that its table reserves, each with its mask, in ascending order (R391). -/
def Cmd.reservedBytes (c : Cmd) : List (Nat × Byte) :=
  let o := c.opc
  let all (ns : List Nat) : List (Nat × Byte) := ns.map fun n => (n, 0xFF#8)
  if o = 0x10 then [(0, 0x80#8), (1, 0x80#8), (3, 0x80#8), (4, 0xF0#8)] ++ all [5, 6, 7] ++ [(11, 0xFC#8)] ++ all [14, 15]
  else if o = 0x06 || o = 0x11 || o = 0x14 || o = 0x71 || o = 0x80 then all [1, 2, 3]
  else if o = 0x20 then
    (if c.b 1 = 1 then (List.range (c.b 3)).flatMap fun i =>
        [(4 + 16 * i + 1, 0xFE#8), (4 + 16 * i + 3, 0xF0#8), (4 + 16 * i + 7, 0xF8#8)]
     else if c.b 1 = 0 then (9, 0xFE#8) :: all [14, 15, 16, 17, 18, 19] else [])
  else if o = 0x22 then all [3]
  else if o = 0x28 then all [2, 3] ++ (List.range 11).map fun i => (4 + 8 * i + 1, 0xFF#8)
  else if o = 0x30 then [(0, 0xE0#8), (1, 0x0F#8)] ++ (if c.h 0 / 32768 = 1 then all ((List.range 264).drop (4 + c.h 2 % 512)) else [])
  else if o = 0x38 || o = 0x50 then all [2, 3]
  else if o = 0x40 || o = 0x91 then all [1]
  else if o = 0x42 || o = 0x43 then all [3]
  else if o = 0x52 then (1, 0xFE#8) :: all [2, 3]
  else if o = 0x58 then all [1, 2, 3]
  else if o = 0x5A then [(1, 0xFC#8), (6, 0xE0#8), (11, 0xFE#8), (12, 0xFC#8)]
  else if o = 0x5B then (0, 0xF8#8) :: all [1, 2, 3]
  else if o = 0x61 then (0, 0xF8#8) :: all [1, 2, 3]
  else if o = 0x62 then (if c.b 1 = 1 then all ((List.range 4).map fun i => 4 + c.h 2 + i) else [])
  else if o = 0x70 then all [2, 3]
  else if o = 0x72 then all [4, 5, 6, 7]
  else if o = 0x83 then (0, 0xFE#8) :: all [1, 2, 3]
  else if o = 0x88 then all [1, 2, 3]
  else if o = 0x89 then all [2, 3]
  else []

/-- Highest TGT that the payload checks admit (R389): PARAM_GET and PARAM_SET check their own (R398, R400). -/
def Cmd.maxTgt (c : Cmd) : Nat :=
  let o := c.opc
  if o = 0x03 || o = 0x04 then 3 else if o = 0x31 || o = 0x32 || o = 0x41 then 2 else if o = 0x40 then 1 else 0

/-! ### The header checks (R377 rows 4–7) -/

/-- First byte of `bs` at or after `off` that is not zero under its mask. -/
def firstNonzero (bs : List Byte) : List (Nat × Byte) → Option Nat
  | [] => none
  | (i, m) :: es => if bs.getD i 0 &&& m != 0 then some i else firstNonzero bs es

/-- A refusal: status, DUP_TAG, payload. -/
structure Refuse where
  status : Nat
  data : List Byte
  deriving DecidableEq, Repr

/-- RESERVED_NONZERO with the packet's byte (R374, R391). -/
def Refuse.reserved (off : Nat) : Refuse := ⟨0x82, u16 off ++ [0, 0]⟩
def Refuse.plain (status : Nat) : Refuse := ⟨status, []⟩
def Refuse.badLength : Refuse := .plain 0x83
def Refuse.badPort : Refuse := .plain 0x84
def Refuse.notReady : Refuse := .plain 0x85
def Refuse.busy : Refuse := .plain 0x86
def Refuse.denied : Refuse := .plain 0x87
def Refuse.range : Refuse := .plain 0x88
def Refuse.state : Refuse := .plain 0x8B

/-- The PORT that a parameter ID calls for: that of a port, or 0x7F; an ID of no range of R397 leaves PORT free. -/
def idPort (id : Nat) : Option Bool := if id / 4096 = 1 then some true else if id < 0x8000 then some false else none

/-- PORT permitted for the opcode (R377 row 6, R389, R397, R398). -/
def Cmd.portOk (c : Cmd) : Bool :=
  let isPort := decide (c.portField ≤ 95)
  let isDev := c.portField == 0x7F
  if portOpcs.contains c.opc then isPort
  else if idOpcs.contains c.opc then
    (match idPort (c.h 0) with | some true => isPort | some false => isDev | none => isPort || isDev)
  else isDev

/-- Header masks of the reserved bits: word 0 [19:17], word 1 [15:9]. -/
def headerReserved : List (Nat × Byte) := [(2, 0x0E#8), (5, 0xFE#8)]

/-- Pad bytes that lie within the packet. -/
def Cmd.padBytes (c : Cmd) : List (Nat × Byte) :=
  ((List.range 4).map fun i => (8 + c.len + i, 0xFF#8)).filter fun e => decide (e.1 < c.data.length)

/-- Rows 4–7 of R377, in order; `own` is this module's ID. -/
def Cmd.headerFault (own : BitVec 12) (c : Cmd) : Option Refuse :=
  let padded := decide (c.len ≤ 4096) && c.data.length == 8 + c.len + (4 - c.len % 4) % 4
  match firstNonzero c.data (headerReserved ++ (if padded then c.padBytes else [])) with
  | some i => some (.reserved i)
  | none =>
    if !padded || !c.lenOk then some .badLength
    else if !c.portOk then some .badPort
    else if c.tag = 0 || (c.nodeField != 0 && c.nodeField != own.toNat && c.opc != 0x92) || c.tgt = 3 then some .range
    else none

/-! ### Readiness (R27, R58, R69, R75) -/

/-- In service-domain operation only P0–P3 are there to be commanded (R27). -/
def State.portThere (s : State) (c : Cmd) : Bool := !s.serviceDomain || decide (c.portField < 4)

/-- Sc and Cc of the command's port. -/
def State.portServed (s : State) (c : Cmd) : Bool :=
  s.portThere c && s.coreReady (clusterOf c.port).val && s.clusterReady (clusterOf c.port).val

/-- Parameters of C1–C7, of S1–S7, of the feeds and of the Yarrow link, which service-domain operation does without (R27, R262, R308,
R331, R461). -/
def domainId (id : Nat) : Bool :=
  (decide (0x41 ≤ id) && decide (id ≤ 0x47)) || (decide (0x6001 ≤ id) && decide (id ≤ 0x6007)) || id / 4096 == 2 || (decide (0x3010 ≤ id) && decide (id ≤ 0x3FFF))

/-- IDs that a parameter command names: a run, or one an entry (R398, R399). -/
def Cmd.ids (c : Cmd) : List Nat :=
  if c.opc = 0x03 then (List.range (min 64 (c.h 2))).map (c.h 0 + ·) else (List.range (c.len / 8)).map fun i => c.h (8 * i)

/-- Every bit that R75 requires is set; ROM recovery serves R69's commands; with TESTEN high nothing is served. BUDGET_GROUP_CONFIG is
served in service-domain operation, though a PARAM_SET of the parameters that it writes is not (DESIGN CHOICE, log 83: R27 does not say
which it is). -/
def State.readyFor (s : State) (c : Cmd) : Bool :=
  let o := c.opc
  let boot := [0x00, 0x01, 0x02, 0x06, 0x08].contains o
  let image := decide (0x80 ≤ o) && decide (o ≤ 0x84)
  if s.board.testen then false
  else if boot then s.ready 0
  else if s.board.recovery then image && s.ready 2
  else s.coreReady 8 &&
    (if image || o = 0x05 || o = 0x68 then
       s.ready 2 && !(o = 0x68 && c.b 0 = 1 && s.serviceDomain && decide (1 ≤ c.b 1))
     else if idOpcs.contains o then
       (if idPort (c.h 0) = some true then s.portServed c
        else !(s.serviceDomain && c.ids.any domainId))
     else if o = 0x70 || o = 0x71 || o = 0x72 then s.ready 1
     else if [0x10, 0x11, 0x12, 0x13, 0x58, 0x5A].contains o then s.portServed c
     else if [0x14, 0x18, 0x30, 0x31, 0x32, 0x33, 0x34, 0x38, 0x40, 0x41, 0x42, 0x43, 0x48, 0x59].contains o then
       s.portThere c && s.coreReady (clusterOf c.port).val && (s.port c.port).tc.pReady
     else if o = 0x22 then s.portThere c
     else if o = 0x51 then s.ready 23
     else if o = 0x5B || o = 0x5C then s.feed.linkUp && !s.serviceDomain
     else if o = 0x88 || o = 0x89 then decide (8 < c.b 0) || s.coreReady (c.b 0)
     else if o = 0x92 then s.ready 22
     else if o = 0x90 || o = 0x91 then !s.serviceDomain
     else true)

/-- Commands that LEVEL 1 of the service mode serves (R255): LOG_READ other than SRC 1 among them. -/
def Cmd.readOnly (c : Cmd) : Bool :=
  [0x00, 0x01, 0x02, 0x03, 0x08, 0x12, 0x13, 0x48, 0x59, 0x5C, 0x51, 0x60, 0x70, 0x84, 0x90].contains c.opc
    || (c.opc == 0x68 && c.b 0 != 1)

/-- The command came over a service stream at LEVEL 1. -/
def State.restricted (s : State) (c : Cmd) : Bool := (c.stream == .service || c.stream == .ended) && fld s.dev.svcCfg 4 2 == 1

/-! ### Answers -/

/-- What a command's rule makes of it: a refusal without effect; a reply and the effect that follows it; or an effect that
replies later. -/
inductive Act where
  | refuse (r : Refuse)
  | answer (status : Nat) (data : List Byte) (eff : State → State)
  | later (eff : State → State)

/-- OK without payload. -/
def Act.ok (eff : State → State) : Act := .answer 0 [] eff
/-- OK with a payload and no effect. -/
def Act.give (data : List Byte) : Act := .answer 0 data id
/-- ACCEPTED. -/
def Act.accepted (eff : State → State) : Act := .answer 1 [] eff

def replyQ (st : Stream) : QueueId := match st with | .host => qReply | _ => qSvcOut
def eventQ (st : Stream) : QueueId := match st with | .host => qEvent | _ => qSvcOut

/-- The reply packet without its trailer. -/
def Cmd.reply (c : Cmd) (dup : Bool) (status : Nat) (data : List Byte) : List Byte :=
  replyBytes c.opc c.tag.toNat status c.urgent dup (c.w1 % 512) data

/-- A reply into the stream's queue, or back to the forward's origin (R374, R379, R340). -/
def State.sendReply (s : State) (c : Cmd) (dup : Bool) (status : Nat) (data : List Byte) : State :=
  let pkt := c.reply dup status data
  match c.stream with
  | .forwarded => if dup then s.sendFwdReply c.node (pkt ++ wordBytes (crc32 pkt)) else s.replyFwd c.tag pkt
  | .host => s.modPool fun m => m.push qReply (mkPacket m .none pkt)
  | .service => if s.svcOn then s.modPool fun m => m.push qSvcOut (mkPacket m .none pkt) else s
  | .ended => s

/-- The answer goes out; every event the command causes follows its reply (R380). On the forwarded stream a reply payload
above 4,084 bytes is refused before any effect (R340). ACCEPTED reserves the completion, a later reply its own cells (R445). -/
def State.respond (s : State) (c : Cmd) : Act → State
  | .refuse r => s.sendReply c false r.status r.data
  | .answer status data eff =>
    if c.stream = .forwarded && decide (4084 < data.length) then s.sendReply c false 0x83 []
    else
      let t := if status = 1 && c.stream.reserves then s.modPool fun m => m.reserve (eventQ c.stream) (completionCells c.opc) else s
      eff (t.sendReply c false status data)
  | .later eff =>
    eff (if c.stream.reserves then s.modPool fun m => m.reserve (replyQ c.stream) c.replyCells else s)

/-! ### Taking a command (R380, R383, R387, R445) -/

/-- The packet S8 takes next from a stream, at a packet boundary: Q1 before Q0. -/
def State.nextCommand (s : State) (st : Stream) : Option (QueueId × Packet) :=
  let at_ (q : QueueId) : Option (QueueId × Packet) :=
    if (s.pool.queues[q]).popped = 0 then (s.pool.head q).map fun k => (q, k) else none
  match st with
  | .host => match at_ qUrgent with | some e => some e | none => at_ qHost
  | .service => (at_ qSvc).filter fun e => e.2.carried != .left
  | .ended => (at_ qSvc).filter fun e => e.2.carried == .left
  | .forwarded => at_ qFwd

def Cmd.of (st : Stream) (k : Packet) : Cmd :=
  match k.carried with
  | .cmd d => ⟨st, 0, d, k.data⟩
  | .fwd n d => ⟨st, n, d, k.data⟩
  | .hand _ n _ _ => ⟨st, n, false, k.data⟩
  | _ => ⟨st, 0, false, k.data⟩

/-- The cells of R445 are there: those of the largest reply and, where the command can be ACCEPTED, of its completion. -/
def Pool.holdsFor (m : Pool) (c : Cmd) : Bool :=
  let n := if acceptsLater c.opc then completionCells c.opc else 0
  if replyQ c.stream = eventQ c.stream then m.room (replyQ c.stream) (c.replyCells + n)
  else m.room (replyQ c.stream) c.replyCells && (n == 0 || m.room (eventQ c.stream) n) && decide (c.replyCells + n + m.heldAll ≤ m.free)

/-- The packet leaves its queue and its units return (R383). -/
def State.takeCommand (s : State) (q : QueueId) (k : Packet) : State :=
  { s with pool := s.pool.pop q
           host := if q = qSvc || q = qFwd then s.host else { s.host with unitsUsed := s.host.unitsUsed - unitsOf k } }

/-- Tags outstanding on a stream. -/
def HostPort.tags (h : HostPort) (st : Stream) : List Byte :=
  match st with | .host => h.tagsHost | .service => h.tagsSvc | .forwarded => h.tagsFwd | .ended => []

/-- A command whose tag had become free again holds it now (R381). -/
def HostPort.addTag (h : HostPort) (c : Cmd) : HostPort :=
  if !c.dup then h
  else match c.stream with
    | .host => { h with tagsHost := h.tagsHost ++ [c.tag] }
    | .service => { h with tagsSvc := h.tagsSvc ++ [c.tag] }
    | .forwarded => { h with tagsFwd := h.tagsFwd ++ [c.tag] }
    | .ended => h

/-- S8 reads a command that its cells show unsound: it is lost (R387, R437, R438), with the rest of its queue where a link word fails
(R439). -/
def State.dropCommand (s : State) (q : QueueId) (k : Packet) : State :=
  if k.flaw == .link then (s.noteHcrc q k).quarantine q
  else ((s.loseCommand q k).modPool fun m => m.pop q).found q k.flaw

/-! ### The hand-off to the cluster cores (R17, R399, R444) -/

/-- The command is carried out by the core of its port's cluster (R17, R399; log 70): DECIDE is S8's (R204). -/
def Cmd.handed (c : Cmd) : Bool :=
  (portOpcs.contains c.opc && c.opc != 0x22) || (idOpcs.contains c.opc && idPort (c.h 0) == some true)

/-- The command as it stands in its cluster's hand-off queue. -/
def Cmd.handPacket (m : Pool) (c : Cmd) : Packet :=
  mkPacket m (.hand c.stream c.node (if c.stream.reserves then c.replyCells else 0)
    (if c.stream.reserves && acceptsLater c.opc then completionCells c.opc else 0)) c.data

/-- S8 finds the cells to hand the command over, and its core runs. -/
def State.handFree (s : State) (c : Cmd) : Bool := s.pool.takes (qHand (clusterOf c.port)) (c.handPacket s.pool)
def State.handRuns (s : State) (c : Cmd) : Bool := !s.coreStopped (coreOf c.port)

/-- The command waits in the hand-off queue for its stopped core, with the cells of its reply and completion reserved (R19, R445). -/
def State.park (c : Cmd) (s : State) : State :=
  let t := s.modPool fun m => m.push (qHand (clusterOf c.port)) (c.handPacket m)
  if c.stream.reserves && acceptsLater c.opc then t.modPool fun m => m.reserve (eventQ c.stream) (completionCells c.opc) else t

/-- A command that passes its checks is handed to its cluster's core (R17), through the queue and back within the step while that core
runs: with no cell in the queue it is answered POOL_EXHAUSTED (R444). -/
def State.handOff (s : State) (c : Cmd) (a : Act) : Act :=
  match a with
  | .refuse r => .refuse r
  | a =>
    if !c.handed then a
    else if !s.handFree c then .answer 0x8C [] fun t => t.modPool fun m => m.refuseFor (qHand (clusterOf c.port)) (c.handPacket m).cells
    else if !s.handRuns c then .later (State.park c)
    else a

/-- The command that stands first in the hand-off queue of a cluster whose core runs again, and that came over the stream. -/
def State.parked (s : State) (st : Stream) : Option (ClusterId × Packet) :=
  (List.finRange 8).findSome? fun c =>
    if s.coreStopped ⟨c.val, by omega⟩ && s.coreReady c.val then none
    else (s.pool.head (qHand c)).bind fun k =>
      match k.carried with
      | .hand u _ _ _ => if u = st then some (c, k) else none
      | _ => none

/-- Rows 3–10 of R377 for a command of an assigned opcode; `run` is row 10 after the reserved fields and TGT. -/
def State.judge (s : State) (c : Cmd) (run : Cmd → State → Act) : Act :=
  match c.headerFault s.yarrow.id with
  | some r => .refuse r
  | none =>
    if !s.readyFor c then .refuse .notReady
    else if s.restricted c && !c.readOnly then .refuse .denied
    else match firstNonzero c.payload c.reservedBytes with
      | some i => .refuse (.reserved (8 + i))
      | none => if c.maxTgt < c.tgt then .refuse .range else s.handOff c (run c s)

/-- A tag still outstanding is refused with DUP_TAG once rows 3–7 have passed (R377, R381). -/
def State.dupRefused (s : State) (c : Cmd) : Bool :=
  assignedOpc c.opc && c.dup && (s.host.tags c.stream).contains c.tag && (c.headerFault s.yarrow.id).isNone

/-- The command, taken, is answered. -/
def State.dispose (s : State) (c : Cmd) (a : State → Act) : State :=
  let u := (s.modHost fun h => h.addTag c).modYarrow fun w =>
    if c.stream = .forwarded then { w with fwdFrom := w.fwdFrom ++ [(c.tag, c.node)] } else w
  u.respond c (a u)

/-- A parked command is carried out when its core runs again: its reserved cells serve its answer. One that its cells show unsound is
dropped (R25). -/
def State.unpark (s : State) (cl : ClusterId) (k : Packet) (c : Cmd) (a : State → Act) : State :=
  if k.bad then (s.discardQ (qHand cl) 1).found (qHand cl) k.flaw
  else
  let u := s.modPool fun m => (m.pop (qHand cl)).dropHand k
  u.respond c (a u)

/-- S8 takes the next command of a stream, if `mine` says that it is this row's: cells reserved, or POOL_EXHAUSTED from the
refusal reserve, or it stays queued (R445). -/
def State.serveNext (s : State) (st : Stream) (mine : Cmd → State → Bool) (a : Cmd → State → Act) : State :=
  match s.nextCommand st with
  | none => s
  | some (q, k) =>
    let c := Cmd.of st k
    if !mine c s then s
    else if k.bad then s.dropCommand q k
    else if st.reserves && !s.pool.holdsFor c then
      (match s.pool.refusal (replyQ st) (c.reply (c.dup && (s.host.tags st).contains c.tag) 0x8C []) with
       | none => s
       | some m => ({ s with pool := m }).takeCommand q k)
    else
      let t := s.takeCommand q k
      if t.dupRefused c then t.sendReply c true 0x86 [] else t.dispose c (a c)

/-- S8 serves a stream (R20): first a command whose stopped core has resumed, else the next command. -/
def State.serveWith (s : State) (st : Stream) (mine : Cmd → State → Bool) (a : Cmd → State → Act) : State :=
  if !s.ready 0 || s.coreStopped 8 then s
  else match s.parked st with
    | some (cl, k) => let c := Cmd.of st k; if mine c s then s.unpark cl k c (a c) else s
    | none => s.serveNext st mine a

/-- S8 serves a command of opcode `opc` that `sub` counts as this row's. -/
def State.serve (s : State) (st : Stream) (opc : Nat) (sub : Cmd → Bool) (run : Cmd → State → Act) : State :=
  s.serveWith st (fun c _ => c.opc == opc && sub c) (fun c u => u.judge c run)

/-- Any command of the opcode. -/
def anySub : Cmd → Bool := fun _ => true

/-- The row whose selector value is `v` among `vs`: it takes the commands that name it, and those that name none of them,
which are refused alike by every row of the opcode. -/
def subAt (off : Nat) (vs : List Nat) (v : Nat) (c : Cmd) : Bool := c.b off == v || !vs.contains (c.b off)

/-- The row of selector bit `i`: commands with the bit set, or with none of bits 0–2. -/
def subBit (i : Nat) (c : Cmd) : Bool := c.b 0 / 2 ^ i % 2 == 1 || c.b 0 % 8 == 0

/-! ### Rows 3 (R390, R392) -/

/-- UNKNOWN_OPCODE (R390, R392): an unassigned opcode, an event code, and with TESTEN low a factory opcode. -/
def execUnknownOpcode (st : Stream) (s : State) : Host.Outcome State Fault Refusal :=
  .next (s.serveWith st (fun c _ => !assignedOpc c.opc && decide (c.opc < 0xF0)) (fun _ _ => .refuse (.plain 0x81)))

/-- The next command of a stream is a factory opcode, whole. -/
def State.factoryNext (s : State) (st : Stream) : Bool :=
  match s.nextCommand st with
  | some (_, k) => decide (0xF0 ≤ (Cmd.of st k).opc) && !k.bad && s.ready 0 && !s.coreStopped 8
  | none => false

/-- FACTORY_COMMAND (R58, R392): with TESTEN low it is answered exactly as an unassigned opcode; with TESTEN high the payload is
no part of the manual, and the machine stops by name. -/
def execFactoryCommand (st : Stream) (s : State) : Host.Outcome State Fault Refusal :=
  if s.board.testen && s.factoryNext st then .refused .factoryTest
  else .next (s.serveWith st (fun c _ => decide (0xF0 ≤ c.opc)) (fun _ _ => .refuse (.plain 0x81)))

end Sys2Proof.Machine
end

