-- ==== Sys2Proof/Machine/Params.lean ====
section
/-! DEFINITION. The parameter space (R397–R400): every assigned ID with its reserved bits and ranges, its value, its refusals and what
a write does. -/

namespace Sys2Proof.Machine

/-! ### IDs, reserved bits and ranges -/

/-- A field with its range; `zero` also admits 0. -/
structure Field where
  lo : Nat
  len : Nat
  min : Nat
  max : Nat
  zero : Bool
  deriving DecidableEq, Repr

/-- An assigned parameter: whether it is RO, its bits that are not reserved, its ranges. -/
structure Spec where
  ro : Bool
  mask : Word
  fields : List Field
  deriving DecidableEq, Repr

def Spec.read (mask : Word) : Spec := ⟨true, mask, []⟩

/-- A writable parameter from its mask and (first bit, length, least, greatest) of each ranged field. -/
def Spec.write (mask : Word) (fs : List (Nat × Nat × Nat × Nat)) : Spec :=
  ⟨false, mask, fs.map fun f => ⟨f.1, f.2.1, f.2.2.1, f.2.2.2, false⟩⟩

/-- Device IDs (R68, R74, R80, R250, R262, R364). -/
def specDevice (id : Nat) : Option Spec :=
  if id = 0x0010 then some (.write 0x00FFFFFF [])
  else if id = 0x0011 then some (.read 0xF)
  else if id = 0x0012 then some (.write 0xF [])
  else if id = 0x0020 then some (.read 0xFFFFFFFF)
  else if id = 0x0021 then some (.read 0xFFFF)
  else if id = 0x0022 then some (.write 0x3F [(4, 2, 0, 1)])
  else if id = 0x0030 then some (.write 0xFF01 [(8, 8, 8, 128)])
  else if 0x0040 ≤ id ∧ id ≤ 0x0047 then some (.write 3 [(0, 2, 0, 2)])
  else none

/-- Port IDs of attach, Planish and the protocol (R100–R102, R107, R121, R131, R134, R149, R157, R184). -/
def specPortA (id : Nat) : Option Spec :=
  if id = 0x1000 then some (.write 0x7FFF7F7F [(0, 2, 0, 2), (2, 2, 0, 2), (4, 2, 0, 2), (8, 7, 30, 70), (16, 7, 50, 100), (23, 8, 25, 250)])
  else if id = 0x1001 then some (.read 1)
  else if id = 0x1002 then some (.write 0xFFFFFFFF [(0, 8, 100, 200), (8, 8, 10, 20), (16, 8, 10, 20), (24, 8, 1, 20)])
  else if id = 0x1003 then some (.write 0x1FFFFFFF [(0, 8, 75, 150), (8, 10, 400, 798), (18, 11, 550, 1098)])
  else if id = 0x1004 then some (.write 0xFFFF [(0, 16, 10, 600)])
  else if id = 0x1005 then some (.write 0x03FFFFFF [(0, 8, 5, 100), (8, 8, 5, 200), (16, 8, 10, 200)])
  else if id = 0x1010 then some (.read 0xFF)
  else if 0x1011 ≤ id ∧ id ≤ 0x1013 then some (.read 0xFFFFFFFF)
  else if id = 0x1014 then some (.read 0x7FF)
  else if id = 0x1020 then some (.write 7 [])
  else if id = 0x1021 then some (.write 0x003FFFFF [(6, 6, 28, 56), (12, 6, 10, 36), (18, 4, 4, 12)])
  else if id = 0x1022 ∨ id = 0x1023 then some (.read 0x003FFFFF)
  else if id = 0x1030 then some (.read 0x001FFFFF)
  else if id = 0x1031 then some (.read 0xFFFFFFFF)
  else if id = 0x1032 then some (.read 0xFFFF0000)
  else if id = 0x1034 then some (.write 0xFFFFFFFF [(0, 8, 27, 33), (8, 8, 100, 200), (16, 8, 25, 35), (24, 8, 16, 20)])
  else if id = 0x1035 then some (.write 0x001FFFFF [(0, 10, 450, 548), (10, 11, 830, 1018)])
  else none

/-- Port IDs of contracts, swaps, stage and guard (R188, R220, R225, R276, R277, R299). -/
def specPortB (id : Nat) : Option Spec :=
  if id = 0x1040 then some (.write 0xF [])
  else if id = 0x1041 then some (.read 0x1FFF)
  else if id = 0x1042 then some (.read 0xFFFFFFFF)
  else if id = 0x1043 then some (.read 0x00FFFF07)
  else if id = 0x1050 then some (.write 0xFF [(0, 8, 25, 100)])
  else if id = 0x1051 then some (.write 0x007F03FF [(0, 10, 150, 600), (16, 7, 0, 100)])
  else if id = 0x1052 then some (.write 0xFF [(0, 8, 0, 200)])
  else if id = 0x1060 then some (.write 0x3FF [(0, 10, 50, 600)])
  else if id = 0x1061 then some (.write 0xFF [(0, 8, 0, 150)])
  else if id = 0x1062 then some (.write 0x0FFF03FF [(0, 10, 20, 500), (16, 12, 500, 2000)])
  else if id = 0x1063 then some (.write 0x1FFFFFFF [(0, 16, 1000, 47000), (16, 4, 9, 15), (20, 9, 40, 400)])
  else if id = 0x1064 then some (.write 0xFFFFFFFF [(0, 16, 1000, 12000)])
  else if id = 0x1065 then some (.write 0x7F [(0, 7, 10, 120)])
  else if id = 0x1066 then some ⟨false, 0xFF01, [⟨8, 8, 32, 164, true⟩]⟩
  else if 0x1068 ≤ id ∧ id ≤ 0x106F then some (.read 0xFFFFFFFF)
  else if id = 0x1070 then some (.write 0xFFFF03FF [(0, 10, 50, 600), (16, 8, 10, 100), (24, 8, 5, 12)])
  else if id = 0x1071 then some (.write 0xFF1FFFFF [(0, 8, 1, 200), (8, 8, 1, 250), (24, 8, 5, 250)])
  else if id = 0x1072 then some (.write 0x01FFFFFF [(0, 8, 1, 50), (8, 8, 0, 100), (16, 9, 20, 500)])
  else if id = 0x1073 then some (.write 0xFFFFFF03 [(0, 2, 0, 2), (8, 8, 100, 215), (16, 8, 5, 50), (24, 8, 0, 165)])
  else if id = 0x1074 then some (.write 0xFFFFFFFF [(0, 16, 100, 65535), (16, 16, 2000, 5000)])
  else if id = 0x1075 then some (.write 0xFFFFFFFF [(0, 16, 10, 2000), (16, 16, 0, 10000)])
  else if id = 0x1076 then some (.write 0xFFFFFFFF [(0, 16, 1, 10000), (16, 16, 10, 10000)])
  else if id = 0x1077 then some (.write 0xFFFFFFFF [(0, 16, 1, 10000), (16, 16, 10, 6000)])
  else if id = 0x1078 then some (.read 0x0FFFFF3F)
  else none

/-- Feed IDs (R308): those of feed B are 0x10 above. -/
def specFeed (id : Nat) : Option Spec :=
  if id = 0x2020 then some (.write 0xFF [(0, 8, 1, 200)])
  else if id = 0x2021 then some (.write 0x01FF03FF [(0, 10, 20, 1000), (16, 9, 0, 500)])
  else if 0x2020 ≤ id then none
  else if id % 16 = 0 then some (.write 0x03FF03FF [(0, 10, 120, 790), (16, 10, 125, 800)])
  else if id % 16 = 1 then some (.write 0x03FF03FF [(0, 10, 200, 950), (16, 10, 135, 945)])
  else if id % 16 = 2 then some (.write 0x00000F7F [(0, 7, 25, 75), (8, 4, 6, 12)])
  else if id % 16 = 3 then some (.write 0x00FF1FFF [(0, 13, 10, 5000), (16, 8, 1, 200)])
  else if id % 16 = 4 then some (.write 0x03FF07FF [(0, 10, 2, 400), (16, 10, 1, 600)])
  else if id % 16 = 5 then some (.write 0x0000FFFF [(0, 8, 100, 215), (8, 8, 5, 50)])
  else none

/-- Budget and Yarrow IDs (R308, R317, R331). -/
def specBudget (id : Nat) : Option Spec :=
  if id = 0x3000 ∨ id = 0x3002 then some (.write 0xFFFF [(0, 16, 0, 65534)])
  else if id = 0x3001 then some (.write 0x3FF [(0, 10, 0, 480)])
  else if id = 0x3003 then some (.write 0xFFFF [(0, 16, 1, 65535)])
  else if id = 0x3010 then some ⟨false, 0x03FF03FF, [⟨0, 10, 120, 790, true⟩, ⟨16, 10, 125, 800, true⟩]⟩
  else if id = 0x3020 then some (.write 0x1FFF [(0, 12, 0, 4000)])
  else if id = 0x3021 then some (.write 0x1FF [])
  else if id = 0x3022 then some (.write 0x00FFFFFF [])
  else if id = 0x3023 then some (.write 0xFFFF0003 [(16, 16, 50, 10000)])
  else none

/-- The specification of an ID; none where it is unassigned (R397). -/
def specOf (id : Nat) : Option Spec :=
  if id < 0x1000 then specDevice id
  else if id < 0x1040 then specPortA id
  else if id < 0x2000 then specPortB id
  else if id < 0x3000 then specFeed id
  else if id < 0x4000 then specBudget id
  else if id < 0x4040 then some (.write 0x03030303 [])
  else if id < 0x5000 then none
  else if id < 0x5080 then some (.write 0x3FFF3FFF [(0, 14, 16, 8192), (16, 14, 1, 8192)])
  else if id = 0x5080 then some (.write 0x3FFF3FFF [(0, 14, 64, 8192), (16, 14, 16, 4096)])
  else if 0x6000 ≤ id ∧ id ≤ 0x6008 then some (.write 1 [])
  else if id = 0x7000 then some (.write 0x01FF01FF [(0, 9, 225, 400), (16, 9, 265, 480)])
  else if id = 0x7001 then some (.write 0x07FF07FF [(0, 11, 1000, 1200), (16, 11, 1040, 1250)])
  else none

/-- The range of R397 that holds an ID. -/
def rangeOf (id : Nat) : Nat := id / 4096

/-! ### Values -/

/-- FAULT.SEV word k (R358). -/
def sevWord (v : Vector (BitVec 2) 256) (k : Nat) : Word :=
  let f (i : Nat) : Nat := (v.toList.getD (4 * k + i) 0).toNat
  BitVec.ofNat 32 (f 0 + f 1 * 256 + f 2 * 65536 + f 3 * 16777216)

/-- The working value of severities: a stored write counts at once (R358). -/
def Faults.sevWork (g : Faults) : Vector (BitVec 2) 256 := g.sevNext.getD g.sev

/-- A port parameter's value for a target (R107, R131, R157, R220, R397). -/
def paramPort (x : Port) (t : Tgt) (id : Nat) : Word :=
  let c := x.cfg.written
  if id = 0x1000 then c.roleCfg else if id = 0x1001 then c.enable else if id = 0x1002 then c.tcDebounce else if id = 0x1003 then c.tcTry
  else if id = 0x1004 then c.dryRecheck else if id = 0x1005 then c.moistCfg else if id = 0x1010 then harnStat x else if id = 0x1011 then harnOffs x
  else if id = 0x1012 then harnRes x else if id = 0x1013 then harnCap x else if id = 0x1014 then tcWord x
  else if id = 0x1020 then c.phyCfg else if id = 0x1021 then x.phy.safe else if id = 0x1022 then x.phy.applied else if id = 0x1023 then x.phy.shadow
  else if id = 0x1030 then ctxWord (x.ctxOf t) else if id = 0x1031 then cntWord (x.ctxOf t) else if id = 0x1032 then (x.ctxOf t).partnerRev
  else if id = 0x1034 then c.pdTmr0 else if id = 0x1035 then c.pdTmr1 else if id = 0x1040 then c.classSel
  else if id = 0x1041 then contractWord x else if id = 0x1042 then contractVi x else if id = 0x1043 then cableWord x
  else if id = 0x1050 then c.swapRetrySrc else if id = 0x1051 then c.swapRetrySnk else if id = 0x1052 then c.swapMargin
  else if id < 0x1068 then c.stage.toList.getD (id - 0x1060) 0
  else if id < 0x1070 then c.coef.toList.getD (id - 0x1068) 0
  else if id < 0x1078 then c.guard.toList.getD (id - 0x1070) 0
  else guardStatus x

/-- A feed parameter's working value (R308). -/
def paramFeed (f : FeedCfg) (id : Nat) : Word :=
  if id = 0x2020 then f.pgQual else if id = 0x2021 then f.bbm
  else if id < 0x2010 then f.a.toList.getD (id - 0x2000) 0 else f.b.toList.getD (id - 0x2010) 0

/-- What PARAM_GET reads of an assigned ID; WO fields read 0 (R398, R149). -/
def State.param (s : State) (p : PortId) (t : Tgt) (id : Nat) : Word :=
  if id = 0x0010 then s.dev.readyExpect
  else if id = 0x0011 then BitVec.ofNat 32 (s.board.cause.toNat + bw s.board.recovery 3)
  else if id = 0x0012 then s.dev.keyRevoked.setWidth 32
  else if id = 0x0020 then Config.vdmId
  else if id = 0x0021 then Config.svcSvid.setWidth 32
  else if id = 0x0022 then s.dev.svcCfg
  else if id = 0x0030 then s.host.cfg
  else if id < 0x1000 then (s.clusters.toList.map (·.cfg)).getD (id - 0x0040) 0
  else if id < 0x2000 then paramPort (s.port p) t id
  else if id < 0x3000 then paramFeed s.feed.work id
  else if id = 0x3000 then s.budget.device
  else if id = 0x3001 then s.budget.floor
  else if id = 0x3002 then s.budget.reserve
  else if id = 0x3003 then s.budget.decay
  else if id = 0x3010 then s.feed.work.brownout
  else if id = 0x3020 then s.yarrow.node
  else if id = 0x3021 then s.yarrow.group
  else if id = 0x3022 then s.yarrow.groupB
  else if id = 0x3023 then s.yarrow.link
  else if id < 0x5000 then sevWord s.faults.sevWork (id - 0x4000)
  else if id < 0x5080 then (s.pool.queues[id % 128]'(Nat.mod_lt _ (by decide))).cfg
  else if id = 0x5080 then s.pool.cfg
  else if id < 0x7000 then (s.cores.toList.map (·.extCfg)).getD (id - 0x6000) 0
  else if id = 0x7000 then s.dev.txWin else s.dev.swWin

/-! ### Refusals of a write (R399) -/

/-- Every field within its own range. -/
def fieldsOk (v : Word) (fs : List Field) : Bool :=
  fs.all fun f => (f.zero && fld v f.lo f.len == 0) || (decide (f.min ≤ fld v f.lo f.len) && decide (fld v f.lo f.len ≤ f.max))

/-- Severity `v` permitted for a source (R358). -/
def sevOk (n v : Nat) : Bool := !(v == 2 && !scopeIsPorts n) && !(v != 0 && reservedSource n)

/-- Queues that must hold a packet of the largest size (R425). -/
def bigQueue (q : Nat) : Bool := [0, 1, 7, 8, 9, 15, 88, 89].contains q

/-- Cross-field rules, against the values in force (R101, R121, R134, R150, R225, R276, R358, R425). -/
def State.crossOk (s : State) (p : PortId) (id : Nat) (v : Word) : Bool :=
  let c := (s.port p).cfg
  if id = 0x1000 then fld v 2 2 == 0 || fld v 0 2 == 2
  else if id = 0x1005 then decide (fld v 0 8 ≤ fld v 8 8)
  else if id = 0x1021 then decide (fld v 12 6 + 8 ≤ fld v 6 6)
  else if id = 0x1050 then decide (1000 * fld v 0 8 < 250 * fld c.swapRetrySnk 0 10)
  else if id = 0x1051 then decide (1000 * fld c.swapRetrySrc 0 8 < 250 * fld v 0 10)
  else if id = 0x1064 then
    let g := fld c.stage[2] 0 10 * fld v 0 16
    let z := 1000 * fld c.stage[2] 16 12
    decide (fld v 16 16 ≤ fld v 0 16) && decide (z + g ≤ 2450000) && decide (50000 + g ≤ z)
  else if id = 0x1066 then !bit1 v 0 || decide (32 ≤ fld v 8 8)
  else if 0x4000 ≤ id ∧ id < 0x4040 then (List.range 4).all fun i => sevOk (4 * (id - 0x4000) + i) (fld v (8 * i) 2)
  else if 0x5000 ≤ id ∧ id < 0x5080 then
    decide (fld v 16 14 ≤ fld v 0 14) && (!bigQueue (id - 0x5000) || decide (69 ≤ fld v 0 14))
  else if id = 0x7000 then decide (fld v 0 9 + 40 ≤ fld v 16 9)
  else if id = 0x7001 then decide (fld v 0 11 + 40 ≤ fld v 16 11)
  else true

/-- The key index that signs the running image (R66, R68). -/
def State.runningKey (s : State) : Option Nat := s.board.runSlot.map fun b => leNat (s.store.slot b 0x006 2)

/-- DENIED: RO parameters, reserved queues, a revocation of the running image's key or of the last key (R68, R399, R425). -/
def State.writeDenied (s : State) (ro : Bool) (id : Nat) (v : Word) : Bool :=
  let after := s.dev.keyRevoked.toNat ||| fld v 0 4
  ro || (decide (0x5000 ≤ id) && decide (id < 0x5080) && reservedQ (id - 0x5000))
    || (id == 0x0012 && (after == 15 || (match s.runningKey with | some k => v.getLsbD k && decide (k < 4) | none => false)))

/-- STATE: writes that need the port, or every port of the cluster, in DISABLED (R135, R262, R276, R299). -/
def State.writeBlocked (s : State) (p : PortId) (id : Nat) (v : Word) : Bool :=
  let up := (s.port p).tc.st != .disabled
  if 0x0040 ≤ id ∧ id ≤ 0x0047 then
    allPorts.any fun q => (clusterOf q).val == id - 0x0040 && (s.port q).tc.st != .disabled
  else if id = 0x1021 ∨ id = 0x1062 ∨ id = 0x1063 ∨ id = 0x1064 then up
  else if id = 0x1072 then up && fld v 16 9 != fld ((s.port p).cfg.written.guard[2]) 16 9
  else false

/-- The refusal of one entry, ID, INDEX and a zero byte behind its status (R399, R400); `res` holds the entry's two
reserved bytes and `off` is their packet byte. -/
def State.entryFault (s : State) (p : PortId) (range off idx id : Nat) (res : List Byte) (v : Word) : Option Refuse :=
  let named (st : Nat) : Option Refuse := some ⟨st, u16 id ++ leBytes 1 idx ++ [0]⟩
  match specOf id with
  | none => named 0x8D
  | some sp =>
    if rangeOf id != range then named 0x88
    else match firstNonzero (res ++ wordBytes (v &&& ~~~ sp.mask)) ((List.range 6).map fun i => (i, 0xFF#8)) with
      | some i => some (.reserved (off + i))
      | none =>
        if !sp.ro && !(fieldsOk v sp.fields && s.crossOk p id v) then named 0x88
        else if s.writeDenied sp.ro id v then named 0x87
        else if s.writeBlocked p id v then named 0x8B
        else none

/-! ### Writing (R399) -/

/-- A class, floor, ceiling or rating of port `p` changes (R201, R321); during brownout its grant becomes its floor at once
(R316). -/
def State.portTrigger (s : State) (p : PortId) : State :=
  let t := if s.feed.brownout then s.modPort p fun x => { x with grant := floorOf (s.classOf x) s.budget x } else s
  t.wantAllocation.capsChanged

/-- A write of a port parameter into the working set. -/
def PortCfg.put (c : PortCfg) (id : Nat) (v : Word) : PortCfg :=
  if id = 0x1000 then { c with roleCfg := v } else if id = 0x1002 then { c with tcDebounce := v } else if id = 0x1003 then { c with tcTry := v }
  else if id = 0x1004 then { c with dryRecheck := v } else if id = 0x1005 then { c with moistCfg := v } else if id = 0x1020 then { c with phyCfg := v &&& 3 }
  else if id = 0x1034 then { c with pdTmr0 := v } else if id = 0x1035 then { c with pdTmr1 := v } else if id = 0x1040 then { c with classSel := v }
  else if id = 0x1050 then { c with swapRetrySrc := v } else if id = 0x1051 then { c with swapRetrySnk := v } else if id = 0x1052 then { c with swapMargin := v }
  else if 0x1060 ≤ id ∧ id < 0x1067 then { c with stage := c.stage.setIfInBounds (id - 0x1060) v }
  else if 0x1070 ≤ id ∧ id < 0x1078 then { c with guardNext := some ((c.guardNext.getD c.guard).setIfInBounds (id - 0x1070) v) }
  else c

/-- The sweep runs in the states of R120 while SWEEP_EN is set: a write starts it, or stops it. -/
def Port.followSweep (x : Port) : Port :=
  if !x.tc.st.sweeps || x.moist.running == x.sweepEn then x
  else { x with moist := { x.moist.restart with running := x.sweepEn } }

/-- What a write to a port parameter does: the presented Rp (R113), the sweep (R120), the safe set, RETRAIN, a capability change; the rest acts when its rule reads it. -/
def State.putPort (s : State) (p : PortId) (id : Nat) (v : Word) : State :=
  let t := s.modPort p fun x => { x with cfg := x.cfg.put id v }
  if id = 0x1020 then (if bit1 v 2 then t.modPort p fun x => { x with phy := x.phy.retrain } else t)
  else if id = 0x1021 then t.modPort p fun x => { x with phy := { x.phy with safe := v, applied := v, shadow := v } }
  else if id = 0x1040 ∨ id = 0x1060 then t.portTrigger p
  else if id = 0x1000 then s.updPort p fun x => Port.refreshRp { x with cfg := x.cfg.put id v }
  else if id = 0x1005 then t.modPort p Port.followSweep
  else t

/-- A write to a feed parameter (R308). -/
def FeedCfg.put (f : FeedCfg) (id : Nat) (v : Word) : FeedCfg :=
  if id = 0x2020 then { f with pgQual := v } else if id = 0x2021 then { f with bbm := v }
  else if id < 0x2010 then { f with a := f.a.setIfInBounds (id - 0x2000) v } else { f with b := f.b.setIfInBounds (id - 0x2010) v }

/-- Four severities from `n` on (R358). -/
def putSevs (v : Vector (BitVec 2) 256) (n : Nat) (w : Word) : Vector (BitVec 2) 256 :=
  (List.range 4).foldl (fun (a : Vector (BitVec 2) 256) i => a.setIfInBounds (n + i) (BitVec.ofNat 2 (fld w (8 * i) 2))) v

/-- A write to YARROW.NODE: a configured ID is held at once; HEAD acts at boot (R331, R332, log 31). -/
def State.putNode (s : State) (v : Word) : State :=
  let t := s.modYarrow fun w => { w with node := v }
  if fld v 0 12 = 0 then t else (t.modYarrow fun w => w.setId (BitVec.ofNat 12 (fld v 0 12)) 1).yarrowReady

/-- A write to YARROW.GROUP (R331, R339). -/
def State.putGroup (s : State) (v : Word) : State := s.modYarrow fun w => { w with group := v }.groupWritten s.now

/-- One accepted entry enters the working set and acts under its own parameter's rule (R68, R364, R399). -/
def State.putParam (s : State) (st : Stream) (tag : Byte) (p : PortId) (id : Nat) (v : Word) : State :=
  if id = 0x0010 then s.modDev fun d => { d with readyExpect := v }
  else if id = 0x0012 then s.modDev fun d => { d with keyRevoked := d.keyRevoked ||| BitVec.ofNat 4 (fld v 0 4) }
  else if id = 0x0022 then s.modDev fun d => { d with svcCfg := v }
  else if id = 0x0030 then s.modHost fun h => { h with
      cfg := v, quads := if st == .ended then h.quads else h.quads ++ [(st, tag, bit1 v 0)], quad := if st == .ended then bit1 v 0 else h.quad }
  else if id < 0x1000 then
    (if h : id - 0x0040 < 8 then s.modCluster ⟨id - 0x0040, h⟩ fun c => { c with cfg := v } else s)
  else if id < 0x2000 then s.putPort p id v
  else if id < 0x3000 then s.modFeed fun d => { d with work := d.work.put id v }
  else if id = 0x3000 then ((s.modBudget fun b => { b with device := v }).budgetReady).wantAllocation
  else if id = 0x3001 then ((s.modBudget fun b => { b with floor := v }).wantAllocation)
  else if id = 0x3002 then ((s.modBudget fun b => { b with reserve := v }).wantAllocation)
  else if id = 0x3003 then ((s.modBudget fun b => { b with decay := v }).wantAllocation)
  else if id = 0x3010 then s.modFeed fun d => { d with work := { d.work with brownout := v } }
  else if id = 0x3020 then s.putNode v
  else if id = 0x3021 then s.putGroup v
  else if id = 0x3022 then s.modYarrow fun w => { w with groupB := v }
  else if id = 0x3023 then (s.modYarrow fun w => { w with link := v }).ringCheck s.yarrow.ringBroken
  else if id < 0x5000 then s.modFaults fun g => { g with sevNext := some (putSevs g.sevWork (4 * (id - 0x4000)) v) }
  else if id < 0x5080 then s.modPool fun m => m.modQ ⟨id % 128, Nat.mod_lt _ (by decide)⟩ fun q => { q with cfg := v }
  else if id = 0x5080 then s.modPool fun m => { m with cfg := v }
  else if id < 0x7000 then
    (if h : id - 0x6000 < 9 then s.modCore ⟨id - 0x6000, h⟩ fun k => { k with extCfg := v } else s)
  else if id = 0x7000 then s.modDev fun d => { d with txWin := v }
  else s.modDev fun d => { d with swWin := v }

end Sys2Proof.Machine
end

