-- ==== Sys2Proof/Machine/HostDev.lean ====
section
/-! DEFINITION. Device commands: ECHO, IDENTIFY, READY_MAP, TIME_GET, RESET, the parameter commands, PARAM_COMMIT, queues and the event
mask (R73, R74, R79, R364, R396, R398–R406, R415, R416). -/

namespace Sys2Proof.Machine

/-! ### ECHO, IDENTIFY, READY_MAP, TIME_GET (R73, R403, R404, R406) -/

/-- ECHO (R403). -/
def execEcho (st : Stream) (s : State) : Host.Outcome State Fault Refusal :=
  .next (s.serve st 0x00 anySub fun c _ => .give c.payload)

/-- IDENTIFY's payload (R404). -/
def State.identity (s : State) : List Byte :=
  u32 0x9600 ++ [Config.variant, 0] ++ u16 Config.step.toNat ++ wordBytes Config.romRev
    ++ leBytes 1 (match s.board.runSlot with | none => 0xFF | some false => 0 | some true => 1) ++ [0, 0, 0]
    ++ wordBytes s.board.runSeq ++ wordBytes s.board.cfgGen ++ (List.range 16).map Config.serial ++ u16 s.yarrow.id.toNat ++ [0, 0]
    ++ wordBytes (s.param 0 .sop 0x0011)

/-- IDENTIFY (R404). -/
def execIdentify (st : Stream) (s : State) : Host.Outcome State Fault Refusal :=
  .next (s.serve st 0x01 anySub fun _ t => .give t.identity)

/-- READY_MAP (R73, R74): the host's read clears NOT_READY_ANY; one over the service stream or a forward is not the host's (log 71). -/
def execReadyMap (st : Stream) (s : State) : Host.Outcome State Fault Refusal :=
  .next (s.serve st 0x02 anySub fun c t => .answer 0 t.readyBytes fun u =>
    u.modDev fun d => { d with notReadyAny := d.notReadyAny && c.stream != .host })

/-- TIME_GET (R406). -/
def execTimeGet (st : Stream) (s : State) : Host.Outcome State Fault Refusal :=
  .next (s.serve st 0x08 anySub fun _ t => .give (beatBytes t.now ++ leBytes 1 (bw t.board.holdover 0) ++ [0]))

/-! ### RESET (R77, R79, R405) -/

/-- COLD_REQ and WARM: OK, and the reset waits for the reply to be read (R79); a second one is BUSY (R405). -/
def resetLater (cold : Bool) (c : Cmd) (s : State) : Act :=
  if s.board.resetReq.isSome then .refuse .busy
  else .ok fun t => t.modBoard fun b => { b with resetReq := some ⟨cold, c.stream, c.tag, t.now, false⟩ }

/-- RESET, whose KIND names the row (R405). -/
def runReset (c : Cmd) (s : State) : Act :=
  if c.b 0 = 0 then resetLater true c s
  else if c.b 0 = 1 then resetLater false c s
  else if c.b 0 = 2 then .ok fun t => t.modBoard fun b => { b with portsDue := true }
  else .refuse .range

/-- COLD_REQ (R77, R79, R405). -/
def execColdReq (st : Stream) (s : State) : Host.Outcome State Fault Refusal := .next (s.serve st 0x06 (subAt 0 [0, 1, 2] 0) runReset)

/-- WARM (R77, R79, R405). -/
def execWarm (st : Stream) (s : State) : Host.Outcome State Fault Refusal := .next (s.serve st 0x06 (subAt 0 [0, 1, 2] 1) runReset)

/-- PORTS (R77, R79, R114, R405): it acts at the next slot 0. -/
def execPorts (st : Stream) (s : State) : Host.Outcome State Fault Refusal := .next (s.serve st 0x06 (subAt 0 [0, 1, 2] 2) runReset)

/-! ### PARAM_GET (R157, R398, R400) -/

/-- The first ID of a run that is unassigned or leaves the run's range, with its position. -/
def runFault (first : Nat) : Nat → Nat → Option Refuse
  | _, 0 => none
  | i, n + 1 =>
    if (specOf (first + i)).isNone then some ⟨0x8D, u16 (first + i) ++ leBytes 1 i ++ [0]⟩
    else if rangeOf (first + i) != rangeOf first then some ⟨0x88, u16 first ++ [0xFF, 0]⟩
    else runFault first (i + 1) n

/-- PARAM_GET (R398). -/
def runParamGet (c : Cmd) (s : State) : Act :=
  let first := c.h 0
  let n := c.h 2
  let range : Act := .refuse ⟨0x88, u16 first ++ [0xFF, 0]⟩
  if n = 0 ∨ 64 < n then range
  else match runFault first 0 n with
    | some r => .refuse r
    | none =>
      if c.tgt != 0 && !(decide (0x1030 ≤ first) && decide (first + n ≤ 0x1033) && decide (c.tgt ≤ 2)) then range
      else .give (c.payload ++ (List.range n).flatMap fun i => wordBytes (s.param c.port c.tgtOf (first + i)))

def execParamGet (st : Stream) (s : State) : Host.Outcome State Fault Refusal := .next (s.serve st 0x03 anySub runParamGet)

/-! ### PARAM_SET (R68, R149, R364, R399, R400) -/

/-- The entries of a PARAM_SET: ID, reserved bytes, VALUE. -/
def Cmd.entries (c : Cmd) : List (Nat × List Byte × Word) :=
  (List.range (c.len / 8)).map fun i => (c.h (8 * i), (c.payload.drop (8 * i + 2)).take 2, c.w (8 * i + 4))

/-- Whole validation, each entry against the values in force as amended by those before it (R399). -/
def checkEntries (st : Stream) (tag : Byte) (p : PortId) (range : Nat) : Nat → List (Nat × List Byte × Word) → State → Option Refuse
  | _, [], _ => none
  | i, e :: es, s =>
    match s.entryFault p range (8 + 8 * i + 2) i e.1 e.2.1 e.2.2 with
    | some r => some r
    | none => checkEntries st tag p range (i + 1) es (s.putParam st tag p e.1 e.2.2)

/-- Every entry enters the working set in one slot (R399). -/
def putEntries (st : Stream) (tag : Byte) (p : PortId) (es : List (Nat × List Byte × Word)) (s : State) : State :=
  es.foldl (fun t e => t.putParam st tag p e.1 e.2.2) s

/-- PARAM_SET (R399). -/
def runParamSet (c : Cmd) (s : State) : Act :=
  let es := c.entries
  if c.tgt != 0 then .refuse ⟨0x88, u16 (c.h 0) ++ [0, 0]⟩
  else match checkEntries c.stream c.tag c.port (rangeOf (c.h 0)) 0 es s with
    | some r => .refuse r
    | none => .ok (putEntries c.stream c.tag c.port es)

/-- PARAM_SET: it serves every set of entries (R399). -/
def execParamSet (st : Stream) (s : State) : Host.Outcome State Fault Refusal := .next (s.serve st 0x04 anySub runParamSet)

/-- KEY_REVOKE_BURN: a PARAM_SET with an entry for DEV.KEY_REVOKE (R68). -/
def execKeyRevokeBurn (st : Stream) (s : State) : Host.Outcome State Fault Refusal :=
  .next (s.serve st 0x04 (fun c => c.entries.any fun e => e.1 == 0x0012) runParamSet)

/-- PHY_RETRAIN: a PARAM_SET that writes RETRAIN as 1 (R149). -/
def execPhyRetrain (st : Stream) (s : State) : Host.Outcome State Fault Refusal :=
  .next (s.serve st 0x04 (fun c => c.entries.any fun e => e.1 == 0x1020 && bit1 e.2.2 2) runParamSet)

/-- HOST_CFG_WRITE: a PARAM_SET with an entry for DEV.HOST_CFG (R364). -/
def execHostCfgWrite (st : Stream) (s : State) : Host.Outcome State Fault Refusal :=
  .next (s.serve st 0x04 (fun c => c.entries.any fun e => e.1 == 0x0030) runParamSet)

/-! ### PARAM_COMMIT (R70, R394, R401, R402) -/

/-- Every command taken before has been answered: no flush and no forward is outstanding, none waits for a stopped core (R401). The stepped image
commands answer BUSY instead (R402). -/
def State.allAnswered (s : State) : Bool :=
  s.yarrow.fwd.isEmpty && ((List.finRange 8).all fun c => (s.pool.queues[qHand c]).closed.isEmpty) && s.pool.queues.toList.all fun q => match q.flush with | some f => f.replies.isEmpty | none => true

/-- The number of the generation to write (R70, R487). -/
def Store.nextNumber (t : Store) : Word := match t.newest with | some g => nextGen g.gen | none => 1

/-- PARAM_COMMIT: the working set is copied in this slot and the stepped write starts (R401). -/
def runParamCommit (c : Cmd) (s : State) : Act :=
  if s.store.op.isSome then .refuse .busy
  else .accepted fun t => t.modStore fun r => { r with op := some (.params c.tag c.stream (s.capture r.nextNumber)) }

/-- PARAM_COMMIT (R401): taken once every command before it has been answered. -/
def execParamCommit (st : Stream) (s : State) : Host.Outcome State Fault Refusal :=
  .next (s.serveWith st (fun c t => c.opc == 0x05 && t.allAnswered) (fun c u => u.judge c runParamCommit))

/-- PARAM_COMMIT_COMPLETE (R70, R394, R401): the older generation is replaced; a program failure leaves it invalid, completes with
TIMEOUT and raises NVM_FAIL with DETAIL 1. -/
def execParamCommitComplete (ok : Bool) (s : State) : Host.Outcome State Fault Refusal :=
  .next (match s.store.op with
    | some (.params tag st g) =>
      let put (v : Option Generation) (t : Store) : Store :=
        if t.olderIsB then { t with genB := v, op := none } else { t with genA := v, op := none }
      if !s.storeRuns then s
      else if ok then (s.modStore (put (some g))).complete st 0x05 tag.toNat 0 0 0x7F (wordBytes g.gen)
      else (((s.modStore (put none)).drawn).complete st 0x05 tag.toNat 0x8A 0 0x7F (wordBytes (Config.freeWord s.board.free))).raise
        (devRaise 16 1 0)
    | _ => s)

/-! ### Queues and events (R396, R415, R416, R440) -/

/-- Entry of QUEUE_STATUS for one queue (R415, R427). -/
def queueEntry (q : Queue) : List Byte :=
  u16 q.cells ++ u16 q.closed.length ++ u16 q.limit ++ leBytes 1 (bw (q.wmark != 0 && decide (q.wmark ≤ q.cells)) 0 + bw q.refused 1) ++ [0]

/-- QUEUE_STATUS (R415): the read clears the refusal flags of the queues it reports, but not at LEVEL 1 (R255). -/
def runQueueStatus (c : Cmd) (s : State) : Act :=
  let first := c.b 0
  let n := c.b 1
  if n = 0 ∨ 128 < first + n then .refuse .range
  else
    let m := s.pool
    let bytes := u16 m.free ++ u16 m.resFree ++ wordBytes m.rxNoCell ++ leBytes 1 first ++ leBytes 1 n ++ u16 m.retired
      ++ ((m.queues.toList.drop first).take n).flatMap queueEntry
    let keep := s.restricted c
    .answer 0 bytes fun t => if keep then t else t.modPool fun w => { w with
      queues := Vector.ofFn fun q => if first ≤ q.val ∧ q.val < first + n then { w.queues[q] with refused := false } else w.queues[q] }

def execQueueStatus (st : Stream) (s : State) : Host.Outcome State Fault Refusal := .next (s.serve st 0x70 anySub runQueueStatus)

/-- Queues that QUEUE_FLUSH permits (R416). -/
def flushable (q : Nat) : Bool :=
  [0, 1, 8, 9].contains q || (decide (16 ≤ q) && decide (q < 80) && (q % 8 == 2 || q % 8 == 4)) || (decide (112 ≤ q) && decide (q ≤ 127))

/-- QUEUE_FLUSH (R416, R440): the reply follows the discard. -/
def runQueueFlush (c : Cmd) (_ : State) : Act :=
  if h : c.b 0 < 128 then
    if flushable (c.b 0) then .later fun t => t.flushAsk ⟨c.b 0, h⟩ c.stream c.hdr else .refuse .denied
  else .refuse .denied

def execQueueFlush (st : Stream) (s : State) : Host.Outcome State Fault Refusal := .next (s.serve st 0x71 anySub runQueueFlush)

/-- EVENT_SUBSCRIBE (R396): bits 0 and 1 stay 1; over a forward it is DENIED. -/
def runEventSubscribe (c : Cmd) (s : State) : Act :=
  match c.stream with
  | .forwarded => .refuse .denied
  | .host => .answer 0 (wordBytes s.host.maskHost) fun t => t.modHost fun h => { h with maskHost := c.w 0 ||| 3 }
  | .ended => .give (wordBytes s.host.maskSvc)
  | .service => .answer 0 (wordBytes s.host.maskSvc) fun t => t.modHost fun h => { h with maskSvc := c.w 0 ||| 3 }

def execEventSubscribe (st : Stream) (s : State) : Host.Outcome State Fault Refusal := .next (s.serve st 0x72 anySub runEventSubscribe)

end Sys2Proof.Machine
end

