-- ==== Sys2Proof/Machine/PortCmds.lean ====
section
/-! DEFINITION. Port and policy commands: PORT_CONFIG to PORT_ERROR_RECOVERY, POLICY_WRITE and POLICY_READ, PDO_TEMPLATE_WRITE,
DECIDE (R114, R190–R197, R204, R407–R410). -/

namespace Sys2Proof.Machine

/-! ### PORT_CONFIG (R407) -/

/-- The parameters whose words PORT_CONFIG carries, in order. -/
def portConfigIds : List Nat := [0x1000, 0x1040, 0x1005, 0x1004]

def Cmd.configWords (c : Cmd) : List (Nat × List Byte × Word) := portConfigIds.zipIdx.map fun e => (e.1, [], c.w (4 * e.2))

/-- PORT_CONFIG: validated whole under R399, each word then acting under its own rule (R407). -/
def runPortConfig (c : Cmd) (s : State) : Act :=
  match checkEntries c.stream c.tag c.port 1 0 c.configWords s with
  | some r => .refuse r
  | none => .ok (putEntries c.stream c.tag c.port c.configWords)

def execPortConfig (st : Stream) (s : State) : Host.Outcome State Fault Refusal := .next (s.serve st 0x10 anySub runPortConfig)

/-! ### PORT_ENABLE (R114, R153, R350, R408) -/

/-- Disabling (R114): pass switch open, VCONN off, terminations removed, discharge started, calibration ended. -/
def Port.toDisabled (svc : Bool) (b : Beat) (feed : Bool) (x : Port) : Port :=
  let y := (x.powerDown b feed).abandonCal
  Port.enter svc b .disabled { y with harn := { y.harn with step := none } }

/-- OP 1 and 2 from DISABLED, CAL_FAILED or LOCKOUT: EN 1, GSTATE OFF, trip count 0 except from DISABLED, kept results
discarded where `recal`, calibration from step 1 (R97, R408). -/
def Port.enableNow (svc : Bool) (b : Beat) (recal : Bool) (x : Port) : Port :=
  let y : Port := { x with cfg := { x.cfg with enable := 1 }
                           guard := { x.guard with gst := .off, trips := if x.tc.st == .disabled then x.guard.trips else 0 }
                           harn := if recal then x.harn.forget else x.harn }
  y.startCal svc b

def State.setEn (s : State) (p : PortId) (v : Word) : State := s.modPort p fun x => { x with cfg := { x.cfg with enable := v } }

/-- The port is enabled: its calibration starts, for P4–P11 of C0 once their trim of R154 is done. -/
def State.enable (s : State) (p : PortId) (recal : Bool) : State :=
  if s.portTrimmed p then s.updPort p (Port.enableNow (isService p) s.now recal)
  else ((s.setEn p 1).modPort p fun x => if recal then { x with harn := x.harn.forget } else x).modCluster (clusterOf p) fun k =>
    { k with trimStart := true }

/-- PORT_ENABLE, whose OP names the row (R408). -/
def runPortEnable (c : Cmd) (s : State) : Act :=
  let p := c.port
  let st := (s.port p).tc.st
  if 2 < c.b 0 then .refuse .range
  else if (s.port p).tc.trimFail.isSome then .refuse .denied
  else if s.faults.hold then .refuse .state
  else if c.b 0 = 0 then
    .ok fun t => if st == .disabled then t.setEn p 0
      else (t.dropPort p 0x85 8 (Port.toDisabled (isService p) t.now t.feedOn)).setEn p 0
  else if st.down then .ok fun t => t.enable p (c.b 0 == 2)
  else if c.b 0 = 1 then .ok id
  else .refuse .state

/-- PORT_DISABLE (R114, R408). -/
def execPortDisable (st : Stream) (s : State) : Host.Outcome State Fault Refusal := .next (s.serve st 0x11 (subAt 0 [0, 1, 2] 0) runPortEnable)

/-- PORT_ENABLE (R408). -/
def execPortEnable (st : Stream) (s : State) : Host.Outcome State Fault Refusal := .next (s.serve st 0x11 (subAt 0 [0, 1, 2] 1) runPortEnable)

/-- PORT_ENABLE_RECALIBRATE (R97, R408). -/
def execPortEnableRecalibrate (st : Stream) (s : State) : Host.Outcome State Fault Refusal :=
  .next (s.serve st 0x11 (subAt 0 [0, 1, 2] 2) runPortEnable)

/-! ### PORT_STATUS, PORT_CAL_STATUS, PORT_MOISTURE, PORT_ERROR_RECOVERY (R151, R409, R410, R114) -/

/-- The service mode runs on the port (R251). -/
def State.inService (s : State) (p : PortId) : Bool := match s.svc.port with | some q => q.val == p.val | none => false

/-- ROLES of PORT_STATUS (R409). -/
def State.rolesByte (s : State) (p : PortId) : Nat :=
  let x := s.port p
  bw (!x.pd.powerSource) 0 + bw (!x.pd.dfp) 1 + bw x.tc.vconnOn 2 + bw x.pd.mode.isSome 3 + bw (s.inService p) 4

/-- PORT_STATUS's payload (R409). -/
def State.portStatusBytes (s : State) (p : PortId) : List Byte :=
  let x := s.port p
  wordBytes (tcWord x) ++ wordBytes (contractWord x) ++ wordBytes (contractVi x) ++ wordBytes (cableWord x) ++ wordBytes (guardStatus x)
    ++ wordBytes (harnStat x) ++ leBytes 1 (s.rolesByte p) ++ leBytes 1 x.calCode ++ u16 x.grant
    ++ u16 (clampInt 0 0xFFFF (x.stage.conv.vbs / 100)).toNat ++ u16 (half (clampInt (-32768) 32767 x.stage.conv.ibus)).toNat
    ++ beatBytes s.now ++ [0, 0]

/-- PORT_STATUS (R409). -/
def execPortStatus (st : Stream) (s : State) : Host.Outcome State Fault Refusal :=
  .next (s.serve st 0x12 anySub fun c t => .give (t.portStatusBytes c.port))

/-- PORT_CAL_STATUS (R151). -/
def execPortCalStatus (st : Stream) (s : State) : Host.Outcome State Fault Refusal :=
  .next (s.serve st 0x13 anySub fun c t => .give (calStatusBytes (t.cluster (clusterOf c.port)) c.port (t.port c.port)))

/-- PORT_MOISTURE's payload (R410). -/
def Port.moistBytes (x : Port) : List Byte :=
  let m := x.moist
  leBytes 1 m.cls.toNat ++ leBytes 1 (bw m.rdImplausible 0 + bw m.running 1 + bw (x.tc.st == .dryWait) 2) ++ u16 m.sweeps.toNat
    ++ m.z.toList.flatMap (fun h => u16 h.toNat) ++ m.ofs.toList.flatMap (fun h => u16 h.toNat) ++ [0, 0] ++ beatBytes m.beat ++ [0, 0]

/-- PORT_MOISTURE, whose OP names the row (R410): the recheck arms the health timer to expire at the next slot 0. -/
def runPortMoisture (c : Cmd) (s : State) : Act :=
  let x := s.port c.port
  if c.b 0 = 0 then .give x.moistBytes
  else if c.b 0 = 1 then
    (if x.tc.st == .dryWait then .answer 0 x.moistBytes fun t => t.modPort c.port fun y => y.arm tHealth .dryRecheck 1
     else .refuse .state)
  else .refuse .range

/-- PORT_MOISTURE_READ (R410). -/
def execPortMoistureRead (st : Stream) (s : State) : Host.Outcome State Fault Refusal := .next (s.serve st 0x14 (subAt 0 [0, 1] 0) runPortMoisture)

/-- PORT_MOISTURE_RECHECK (R123, R410). -/
def execPortMoistureRecheck (st : Stream) (s : State) : Host.Outcome State Fault Refusal :=
  .next (s.serve st 0x14 (subAt 0 [0, 1] 1) runPortMoisture)

/-- PORT_ERROR_RECOVERY (R114, R239, R350): a port already in ERROR_RECOVERY stays as it is. -/
def runPortErrorRecovery (c : Cmd) (s : State) : Act :=
  let st := (s.port c.port).tc.st
  if s.faults.hold || st.down then .refuse .state
  else .ok fun t => if st.recovers then t.errorRecovery c.port 8 else t

def execPortErrorRecovery (st : Stream) (s : State) : Host.Outcome State Fault Refusal := .next (s.serve st 0x18 anySub runPortErrorRecovery)

/-! ### POLICY_WRITE and POLICY_READ (R190–R194) -/

/-- A class header from its 16 bytes (R191). -/
def headerOf (bs : List Byte) : Header :=
  ⟨rdWord bs 0, bs.getD 4 0, bs.getD 5 0, BitVec.ofNat 16 (rdNat bs 6 2), BitVec.ofNat 16 (rdNat bs 8 2)⟩

def Header.bytes (h : Header) : List Byte :=
  wordBytes h.noMatch ++ [h.cableImax, h.flags] ++ u16 h.floor.toNat ++ u16 h.ceil.toNat ++ zeros 6

/-- A rule entry from its 16 bytes (R192). -/
def ruleOf (bs : List Byte) : Rule :=
  let h (i : Nat) : Half := BitVec.ofNat 16 (rdNat bs i 2)
  ⟨bs.getD 0 0, bs.getD 1 0, bs.getD 2 0, bs.getD 3 0, h 4, h 6, h 8, h 10, h 12, h 14⟩

def Rule.bytes (r : Rule) : List Byte :=
  [r.point, r.ctrl, r.out, r.cond] ++ u16 r.deadline.toNat ++ u16 r.pdoMask.toNat ++ u16 r.vLo.toNat ++ u16 r.vHi.toNat ++ u16 r.iHi.toNat
    ++ u16 r.pHi.toNat

/-- The ranges of a header (R191, R193). -/
def Header.ok (h : Header) : Bool :=
  decide (10 ≤ h.cableImax.toNat) && decide (h.cableImax.toNat ≤ 60) && (h.floor == 0xFFFF#16 || decide (h.floor.toNat ≤ 480))
    && decide (1 ≤ h.ceil.toNat) && decide (h.ceil.toNat ≤ 480)
    && (List.range 8).all fun k => permitted k (fld h.noMatch (4 * k) 4) && fld h.noMatch (4 * k) 4 != ocAsk

/-- Whether a point uses COND.CABLE, COND.ROLE_SEL, and the object fields (R193). -/
def usesCable (pt : Nat) : Bool := pt == 0 || pt == 1
def usesRole (pt : Nat) : Bool := 2 ≤ pt && pt ≤ 4
def usesObject (pt : Nat) : Bool := pt == 0 || pt == 5

/-- The ranges of a rule entry: a field that its point does not use is 0 (R192, R193). -/
def Rule.ok (r : Rule) : Bool :=
  let pt := r.point.toNat
  decide (pt ≤ 7) && permitted pt r.outcome && r.roleSel != 3
    && (if r.outcome = ocAsk then permitted pt r.dflt && r.dflt != ocAsk && decide (250 ≤ r.deadline.toNat)
        else r.dflt == 0 && r.deadline == 0)
    && (usesCable pt || r.cableCond == 0) && (usesRole pt || r.roleSel == 0)
    && (usesObject pt || (r.pdoMask == 0 && r.vLo == 0 && r.vHi == 0 && r.iHi == 0 && r.pHi == 0))

/-- CLASS, SECTION, FIRST and COUNT within their ranges (R190). -/
def Cmd.policyOk (c : Cmd) : Bool :=
  decide (c.b 0 ≤ 15) && ((c.b 1 == 0 && c.b 2 == 0 && c.b 3 == 0)
    || (c.b 1 == 1 && decide (c.b 2 ≤ 31) && decide (1 ≤ c.b 3) && decide (c.b 2 + c.b 3 ≤ 32)))

def Cmd.cls (c : Cmd) : Fin 16 := ⟨c.b 0 % 16, Nat.mod_lt _ (by decide)⟩

def Cmd.rules (c : Cmd) : List Rule := (List.range (c.b 3)).map fun i => ruleOf (c.payload.drop (4 + 16 * i))

/-- POLICY_WRITE (R190): validated whole; the stored write takes effect at the next slot 0. -/
def runPolicyWrite (c : Cmd) (_ : State) : Act :=
  if !c.policyOk then .refuse .range
  else if c.b 1 = 0 then
    let h := headerOf (c.payload.drop 4)
    if h.ok then .ok fun t => t.modPolicy fun q => { q with writes := q.writes ++ [.header c.cls h] } else .refuse .range
  else if c.rules.all Rule.ok then .ok fun t => t.modPolicy fun q => { q with writes := q.writes ++ [.rules c.cls (c.b 2) c.rules] }
  else .refuse .range

def execPolicyWrite (st : Stream) (s : State) : Host.Outcome State Fault Refusal := .next (s.serve st 0x20 anySub runPolicyWrite)

/-- POLICY_READ (R190): the whole layout, stored writes included. -/
def runPolicyRead (c : Cmd) (s : State) : Act :=
  let k := s.policy.written[c.cls]
  if !c.policyOk then .refuse .range
  else if c.b 1 = 0 then .give (c.payload.take 4 ++ k.header.bytes)
  else .give (c.payload.take 4 ++ ((k.rules.toList.drop (c.b 2)).take (c.b 3)).flatMap Rule.bytes)

def execPolicyRead (st : Stream) (s : State) : Host.Outcome State Fault Refusal := .next (s.serve st 0x21 anySub runPolicyRead)

/-! ### PDO_TEMPLATE_WRITE (R196, R197) -/

def tmplOf (bs : List Byte) : Tmpl :=
  let h (i : Nat) : Half := BitVec.ofNat 16 (rdNat bs i 2)
  ⟨bs.getD 0 0, h 2, h 4, h 6⟩

/-- A Fixed entry's own fields (R196). -/
def Tmpl.fixedOk (t : Tmpl) : Bool := t.type == 1 && t.vB == 0 && decide (10 ≤ t.lim.toNat) && decide (t.lim.toNat ≤ 500)

/-- A PPS entry within 3.3–21.0 V, its current a multiple of 50 mA (R196, R197). -/
def Tmpl.ppsOk (t : Tmpl) : Bool :=
  t.type == 2 && decide (33 ≤ t.vA.toNat) && decide (t.vA.toNat ≤ t.vB.toNat) && decide (t.vB.toNat ≤ 210) && decide (10 ≤ t.lim.toNat)
    && decide (t.lim.toNat ≤ 500) && t.lim.toNat % 5 == 0

/-- An SPR AVS entry, 9.0–20.0 V and at most 100 W, and an EPR AVS entry, 15.0–48.0 V and at most 240 W (R197). -/
def Tmpl.sprAvsOk (t : Tmpl) : Bool := t.type == 3 && t.vA == 90 && t.vB == 200 && decide (t.lim.toNat ≤ 100)
def Tmpl.eprAvsOk (t : Tmpl) : Bool := t.type == 4 && t.vA == 150 && t.vB == 480 && decide (t.lim.toNat ≤ 240)

/-- Fixed entries in ascending voltage, each admitted by `fix`, then entries admitted by `apdo`, at most `n` of these, then empty
ones. -/
def orderOk (fix apdo : Tmpl → Bool) (n : Nat) : Nat → Bool → List Tmpl → Bool
  | _, _, [] => true
  | low, more, t :: ts =>
    if t.type == 0 then ts.all fun u => u.type == 0
    else if more && fix t && decide (low < t.vA.toNat) then orderOk fix apdo n t.vA.toNat true ts
    else match n with
      | 0 => false
      | m + 1 => apdo t && orderOk (fun _ => false) apdo m 0 false ts

/-- R197's rules. -/
def templateOk (sink : Bool) (es : List Tmpl) : Bool :=
  (match es.head? with | some t => t.fixedOk && t.vA == 100 | none => false)
    && orderOk (fun t => t.fixedOk && decide (t.vA.toNat ≤ 400)) (fun t => t.ppsOk || t.sprAvsOk) 7 0 true (es.take 7)
    && (if sink then (es.drop 7).all fun t => t.type == 0
        else orderOk (fun t => t.fixedOk && (t.vA == 560 || t.vA == 720 || t.vA == 960)) Tmpl.eprAvsOk 1 0 true (es.drop 7))

def Cmd.template (c : Cmd) : Vector Tmpl 11 := Vector.ofFn fun i => tmplOf (c.payload.drop (4 + 8 * i.val))

/-- PDO_TEMPLATE_WRITE (R196). -/
def runPdoTemplateWrite (c : Cmd) (_ : State) : Act :=
  if decide (c.b 0 ≤ 15) && decide (c.b 1 ≤ 1) && templateOk (c.b 1 == 1) c.template.toList then
    .ok fun t => t.modPolicy fun q => { q with writes := q.writes ++ [.template c.cls (c.b 1 == 1) c.template] }
  else .refuse .range

def execPdoTemplateWrite (st : Stream) (s : State) : Host.Outcome State Fault Refusal := .next (s.serve st 0x28 anySub runPdoTemplateWrite)

/-! ### DECIDE (R23, R204) -/

/-- A voltage of an object kind that the sink template covers (R219). -/
def templateCovers (k : Class) (type v : Nat) : Bool :=
  k.snk.toList.any fun t => t.type.toNat == type && decide (t.range.1 ≤ v) && decide (v ≤ t.range.2)

/-- A data object that the host may send (R202, R204, R219). -/
def State.valueOk (s : State) (p : PortId) (cls : Fin 16) (w : Word) : Bool :=
  let q := readRequest (s.port p).pd.rxCaps (s.port p).pd.contract.eprMode w none
  q.valid && templateCovers s.policy.classes[cls] q.type q.v && (!s.serviceDomain || (decide (q.v ≤ 1000) && decide (q.i ≤ 300)))

/-- DECIDE (R23, R204): applied by the cluster core in the next beat; closed, unknown or another port's request is STATE. -/
def runDecide (c : Cmd) (s : State) : Act :=
  match s.policy.decisions.find? fun d => d.id == c.h 0 && d.port == c.port && d.deadline.later s.now with
  | none => .refuse .state
  | some d =>
    let oc := c.b 2
    let v := c.w 4
    if !permitted d.point oc || oc == ocAsk then .refuse .range
    else if v != 0 && !(d.point == ptSnkSelect && oc == ocMatch && s.valueOk d.port d.cls v) then .refuse .range
    else .ok fun t => (t.modPolicy fun q => { q with
        decisions := q.decisions.filter (fun e => e.id != d.id), answers := q.answers ++ [(d, oc, v)] }).post 0xC3 d.port.val
      (closedPayload d.id d.point 0 oc t.now)

def execDecide (st : Stream) (s : State) : Host.Outcome State Fault Refusal := .next (s.serve st 0x22 anySub runDecide)

end Sys2Proof.Machine
end

