-- ==== Sys2Proof/Machine/PdCmds.lean ====
section
/-! DEFINITION. PD commands of the host: PD_SEND, PD_LAST_RX, the resets, SWAP_REQUEST, the VDM and mode commands and the SVID table
(R179, R180, R221–R224, R243–R249, R411–R413). -/

namespace Sys2Proof.Machine

/-! ### PD_SEND (R163, R411) -/

/-- The message is one that PD_SEND may send and fits LEN. -/
def Cmd.sendOk (c : Cmd) : Bool :=
  let h : Half := BitVec.ofNat 16 (c.h 0)
  let n := hType h
  if hExt h then n == 6 && decide (c.h 2 ≤ 260) && c.len == 4 + (c.h 2 + 3) / 4 * 4
  else c.h 2 == 0 && c.len == 4 + 4 * hObjs h
    && (if hObjs h = 0 then [7, 8, 17, 18, 20, 23, 24].contains n else hObjs h == 1 && n == 6)

/-- Revision 2.0 defines it: Get_Source_Cap and Get_Sink_Cap. -/
def Cmd.sendRev1 (c : Cmd) : Bool :=
  let h : Half := BitVec.ofNat 16 (c.h 0)
  !hExt h && hObjs h == 0 && (hType h == 7 || hType h == 8)

/-- PD_SEND (R411). -/
def runPdSend (c : Cmd) (s : State) : Act :=
  let p := c.port
  let h : Half := BitVec.ofNat 16 (c.h 0)
  if !c.sendOk then .refuse .range
  else if ((s.port p).rev == 1 && !c.sendRev1) || !s.free p || (s.port p).pd.send.isSome then .refuse .state
  else .accepted fun t =>
    let alert := !hExt h && hObjs h == 1
    let send : HostSend := { message := c.payload, expects := !alert, stream := c.stream, tag := c.tag, tgt := .sop, queued := false, done := none }
    let u := t.modPort p fun x => { x with pd := { x.pd with send := some send } }
    if hExt h then u.beginAms p .sop .chunk (u16 (hType h) ++ (c.payload.drop 4).take (c.h 2))
    else u.beginAms p .sop .hostSend (u16 h.toNat ++ c.payload.drop 4)

def execPdSend (st : Stream) (s : State) : Host.Outcome State Fault Refusal := .next (s.serve st 0x30 anySub runPdSend)

/-! ### PD_LAST_RX (R412) -/

def Ctx.lastBytes (k : Ctx) : List Byte :=
  match k.last with
  | none => zeros 16
  | some l => leBytes 1 1 ++ leBytes 1 l.epoch.toNat ++ [0, 0] ++ u16 l.data.length ++ [0, 0] ++ u16 l.header.toNat ++ u16 l.ext.toNat ++ zeros 4
      ++ padTo4 l.data

def execPdLastRx (st : Stream) (s : State) : Host.Outcome State Fault Refusal :=
  .next (s.serve st 0x31 anySub fun c t => .give ((t.port c.port).ctxOf c.tgtOf).lastBytes)

/-! ### Resets (R176, R179, R180, R181, R413) -/

/-- PD_SOFT_RESET (R180, R413). -/
def runPdSoftReset (c : Cmd) (s : State) : Act :=
  let p := c.port
  let t := c.tgtOf
  let x := s.port p
  if !x.tc.st.pd || (t != .sop && !(x.ctxOf t).vconnOk) || x.inPower then .refuse .state
  else if x.pd.soft.isSome then .refuse .busy
  else .accepted fun u =>
    let soft : HostSend := { message := [], expects := true, stream := c.stream, tag := c.tag, tgt := t, queued := true, done := none }
    (u.sendSoft p t).modPort p fun y => { y with pd := { y.pd with soft := some soft } }

def execPdSoftReset (st : Stream) (s : State) : Host.Outcome State Fault Refusal := .next (s.serve st 0x32 anySub runPdSoftReset)

/-- PD_HARD_RESET (R176, R413). -/
def runPdHardReset (c : Cmd) (s : State) : Act :=
  if (s.port c.port).tc.st.pd then .ok fun t => t.orderHr c.port else .refuse .state

def execPdHardReset (st : Stream) (s : State) : Host.Outcome State Fault Refusal := .next (s.serve st 0x33 anySub runPdHardReset)

/-- PD_CABLE_RESET (R130, R179, R413): the signalling waits for the line gap. -/
def runPdCableReset (c : Cmd) (s : State) : Act :=
  let x := s.port c.port
  if (x.ctxOf .sop1).vconnOk && x.pd.dfp then
    .ok fun t => (t.modPort c.port fun y => { y with pd := { y.pd with cableDue := true } }).cableGap c.port
  else .refuse .state

def execPdCableReset (st : Stream) (s : State) : Host.Outcome State Fault Refusal := .next (s.serve st 0x34 anySub runPdCableReset)

/-! ### SWAP_REQUEST (R221–R224) -/

def swapOf (k : Nat) : SwapKind := if k = 0 then .pr else if k = 1 then .dr else .vconn

/-- SWAP_REQUEST, whose KIND names the row (R223). -/
def runSwapRequest (c : Cmd) (s : State) : Act :=
  let p := c.port
  let k := swapOf (c.b 0)
  if 2 < c.b 0 ∨ 7 < c.b 1 then .refuse .range
  else if (s.port p).pd.swapReq.isSome then .refuse .busy
  else if (s.port p).pd.contract.pos = 0 || (s.swapPrecheck p k).isSome then .refuse .state
  else .accepted fun t => t.modPort p fun x => { x with pd := { x.pd with
    swapReq := some { kind := k, retries := c.b 1, attempts := 0, stream := c.stream, tag := c.tag, from_ := t.now, sent := false, crossed := false } } }

/-- SWAP_REQUEST_PR (R223). -/
def execSwapRequestPr (st : Stream) (s : State) : Host.Outcome State Fault Refusal := .next (s.serve st 0x38 (subAt 0 [0, 1, 2] 0) runSwapRequest)
/-- SWAP_REQUEST_DR (R223). -/
def execSwapRequestDr (st : Stream) (s : State) : Host.Outcome State Fault Refusal := .next (s.serve st 0x38 (subAt 0 [0, 1, 2] 1) runSwapRequest)
/-- SWAP_REQUEST_VCONN (R223). -/
def execSwapRequestVconn (st : Stream) (s : State) : Host.Outcome State Fault Refusal := .next (s.serve st 0x38 (subAt 0 [0, 1, 2] 2) runSwapRequest)

/-! ### VDM_DISCOVER and VDM_SEND (R243, R249) -/

/-- The header of a structured request (R243, R248). -/
def vdmHeader (svid cmd pos : Nat) : Word := mkWord [(cmd, 0), (pos, 8), (1, 13), (1, 15), (svid, 16)]

/-- A VDM conversation of the host's begins, or waits for the line. -/
def State.startVdm (s : State) (c : Cmd) (why : VdmWhy) (message : List Byte) : State :=
  let r : VdmReq := { why := why, tgt := c.tgtOf, message := message, stream := c.stream, tag := c.tag, sent := false, acked := false, ams := false
                      busyAt := none, busy := 0, got := [] }
  (s.modPort c.port fun x => ({ x with pd := { x.pd with vdm := some r } }).modCtx c.tgtOf fun k => { k with busyCnt := 0 }).kick c.port

/-- VDM_DISCOVER, whose KIND names the row (R243). -/
def runVdmDiscover (c : Cmd) (s : State) : Act :=
  let x := s.port c.port
  let k := c.b 0
  if 2 < k ∨ (k ≠ 2 ∧ c.h 2 ≠ 0) then .refuse .range
  else if (if c.tgtOf == .sop then x.pd.contract.pos == 0 else !(x.ctxOf .sop1).vconnOk) then .refuse .state
  else if x.pd.vdm.isSome then .refuse .busy
  else .accepted fun t => t.startVdm c (.hostDiscover (BitVec.ofNat 2 k) (BitVec.ofNat 16 (c.h 2)))
    (wordBytes (vdmHeader (if k = 2 then c.h 2 else 0xFF00) (k + 1) 0))

/-- VDM_DISCOVER_IDENTITY (R243). -/
def execVdmDiscoverIdentity (st : Stream) (s : State) : Host.Outcome State Fault Refusal :=
  .next (s.serve st 0x40 (subAt 0 [0, 1, 2] 0) runVdmDiscover)
/-- VDM_DISCOVER_SVIDS (R243). -/
def execVdmDiscoverSvids (st : Stream) (s : State) : Host.Outcome State Fault Refusal :=
  .next (s.serve st 0x40 (subAt 0 [0, 1, 2] 1) runVdmDiscover)
/-- VDM_DISCOVER_MODES (R243). -/
def execVdmDiscoverModes (st : Stream) (s : State) : Host.Outcome State Fault Refusal :=
  .next (s.serve st 0x40 (subAt 0 [0, 1, 2] 2) runVdmDiscover)

/-- VDM_SEND (R249): for a plug without VCONN_OK it ends TX_RESET at once (R163). -/
def runVdmSend (c : Cmd) (s : State) : Act :=
  let w := c.w 0
  let x := s.port c.port
  if vdmStructured w && decide (1 ≤ vdmCmd w) && decide (vdmCmd w ≤ 5) then .refuse .range
  else if !x.tc.st.pd then .refuse .state
  else if x.pd.vdm.isSome then .refuse .busy
  else .accepted fun t => t.startVdm c (.hostSend (vdmStructured w && vdmCmd w != 6)) c.payload

def execVdmSend (st : Stream) (s : State) : Host.Outcome State Fault Refusal := .next (s.serve st 0x41 anySub runVdmSend)

/-! ### MODE_ENTER and MODE_EXIT (R248) -/

/-- The SVID's modes are in the table and POS is within their number. -/
def Port.modeKnown (x : Port) (svid : Half) (pos : Nat) : Bool :=
  x.pd.svids.any fun e => !e.tgt1 && e.svid == svid && e.known && decide (pos ≤ e.modes.length)

/-- MODE_ENTER (R248). -/
def runModeEnter (c : Cmd) (s : State) : Act :=
  let x := s.port c.port
  if c.b 2 = 0 ∨ 6 < c.b 2 then .refuse .range
  else if !x.pd.dfp || x.pd.contract.pos == 0 || !x.modeKnown (BitVec.ofNat 16 (c.h 0)) (c.b 2) || x.pd.mode.isSome then .refuse .state
  else if x.pd.vdm.isSome then .refuse .busy
  else .accepted fun t => t.startVdm c .modeEnter (wordBytes (vdmHeader (c.h 0) 4 (c.b 2)))

def execModeEnter (st : Stream) (s : State) : Host.Outcome State Fault Refusal := .next (s.serve st 0x42 anySub runModeEnter)

/-- MODE_EXIT (R248). -/
def runModeExit (c : Cmd) (s : State) : Act :=
  let x := s.port c.port
  if c.b 2 = 0 ∨ 6 < c.b 2 then .refuse .range
  else if x.pd.mode != some (BitVec.ofNat 16 (c.h 0), BitVec.ofNat 3 (c.b 2)) then .refuse .state
  else if x.pd.vdm.isSome then .refuse .busy
  else .accepted fun t => t.startVdm c .modeExit (wordBytes (vdmHeader (c.h 0) 5 (c.b 2)))

def execModeExit (st : Stream) (s : State) : Host.Outcome State Fault Refusal := .next (s.serve st 0x43 anySub runModeExit)

/-! ### SVID_TABLE_READ (R247) -/

def Port.svidEntry (x : Port) (e : SvidEntry) : List Byte :=
  let ms := (e.modes.take 6).flatMap wordBytes
  leBytes 1 (b2n e.tgt1) ++ leBytes 1 (bw e.known 0 + bw (!e.tgt1 && (match x.pd.mode with | some m => m.1 == e.svid | none => false)) 1)
    ++ u16 e.svid.toNat ++ ms ++ zeros (24 - ms.length)

def Port.svidBytes (x : Port) : List Byte :=
  let es := (x.pd.svids.take 16).flatMap x.svidEntry
  leBytes 1 (min 16 x.pd.svids.length) ++ leBytes 1 (min 255 x.pd.svidOverflow) ++ [0, 0] ++ es ++ zeros (448 - es.length)

def execSvidTableRead (st : Stream) (s : State) : Host.Outcome State Fault Refusal :=
  .next (s.serve st 0x48 anySub fun c t => .give (t.port c.port).svidBytes)

end Sys2Proof.Machine
end

