-- ==== Sys2Proof/Machine/Flags.lean ====
section
/-! DEFINITION. Results and flags of the X operations (R473–R476): operands as numbers below 2^w, exact arithmetic, then
narrowing to the operation width w. -/

namespace Sys2Proof.Machine

/-- A result at width w with its four flags. -/
structure XRes where
  val : Nat
  z : Bool
  n : Bool
  c : Bool
  v : Bool
  deriving DecidableEq, Repr

/-- A number below 2^w as a signed one. -/
def sgn (w a : Nat) : Int := if 2 ^ (w - 1) ≤ a then (a : Int) - 2 ^ w else a

/-- An integer narrowed to w bits. -/
def narrow (w : Nat) (i : Int) : Nat := (i % 2 ^ w).toNat

/-- Z and N from the result, C and V as given (R473). -/
def xres (w val : Nat) (c v : Bool) : XRes := ⟨val, val == 0, 2 ^ (w - 1) ≤ val, c, v⟩

/-- A signed number lies outside w bits. -/
def outside (w : Nat) (i : Int) : Bool := decide (i < -(2 ^ (w - 1) : Int)) || decide ((2 ^ (w - 1) : Int) ≤ i)

def addRes (w a b cin : Nat) : XRes :=
  xres w ((a + b + cin) % 2 ^ w) (2 ^ w ≤ a + b + cin) (outside w (sgn w a + sgn w b + cin))

def subRes (w a b cin : Nat) : XRes :=
  xres w (narrow w (a - b - cin : Int)) (a < b + cin) (outside w (sgn w a - sgn w b - cin))

/-- Shifts left and logical right (R475): the count is unsigned at the width. -/
def shlRes (w a b : Nat) : XRes :=
  if b = 0 then xres w a false false
  else if b ≤ w then xres w (a * 2 ^ b % 2 ^ w) (a.testBit (w - b)) false
  else xres w 0 false false

def shrRes (w a b : Nat) : XRes :=
  if b = 0 then xres w a false false
  else if b ≤ w then xres w (a / 2 ^ b) (a.testBit (b - 1)) false
  else xres w 0 false false

def sarRes (w a b : Nat) : XRes :=
  if b = 0 then xres w a false false
  else if b < w then xres w (narrow w (sgn w a / 2 ^ b)) (a.testBit (b - 1)) false
  else xres w (if sgn w a < 0 then 2 ^ w - 1 else 0) (decide (sgn w a < 0)) false

/-- Rotates by the count modulo w; C is the bit that arrived at the end (R475). -/
def rolRes (w a b : Nat) : XRes :=
  let m := b % w
  let r := (a * 2 ^ m % 2 ^ w) + a / 2 ^ (w - m)
  if m = 0 then xres w a false false else xres w r (r.testBit 0) false

def rorRes (w a b : Nat) : XRes :=
  let m := b % w
  let r := a / 2 ^ m + (a * 2 ^ (w - m)) % 2 ^ w
  if m = 0 then xres w a false false else xres w r (r.testBit (w - 1)) false

def mulRes (w a b : Nat) : XRes := xres w (a * b % 2 ^ w) (2 ^ w ≤ a * b) (outside w (sgn w a * sgn w b))

/-- Division and its edges (R476). -/
def divRes (w a b : Nat) : XRes :=
  if b = 0 then xres w (if sgn w a < 0 then 2 ^ (w - 1) else 2 ^ (w - 1) - 1) false true
  else xres w (narrow w ((sgn w a).tdiv (sgn w b))) false (a == 2 ^ (w - 1) && b == 2 ^ w - 1)

def divuRes (w a b : Nat) : XRes := if b = 0 then xres w (2 ^ w - 1) false true else xres w (a / b) false false

def remRes (w a b : Nat) : XRes :=
  if b = 0 then xres w a false true
  else xres w (narrow w ((sgn w a).tmod (sgn w b))) false (a == 2 ^ (w - 1) && b == 2 ^ w - 1)

def remuRes (w a b : Nat) : XRes := if b = 0 then xres w a false true else xres w (a % b) false false

/-- The X operations with two sources (R473). `cin` is C at issue. -/
def xbinRes (o : XBin) (w a b : Nat) (cin : Bool) : XRes :=
  match o with
  | .add => addRes w a b 0
  | .adc => addRes w a b cin.toNat
  | .sub => subRes w a b 0
  | .sbc => subRes w a b cin.toNat
  | .and => xres w (a &&& b) false false
  | .or => xres w (a ||| b) false false
  | .xor => xres w (a ^^^ b) false false
  | .andn => xres w (a &&& (2 ^ w - 1 - b)) false false
  | .shl => shlRes w a b
  | .shr => shrRes w a b
  | .sar => sarRes w a b
  | .rol => rolRes w a b
  | .ror => rorRes w a b
  | .mul => mulRes w a b
  | .mulh => xres w (narrow w (sgn w a * sgn w b / 2 ^ w)) false false
  | .mulhu => xres w (a * b / 2 ^ w) false false
  | .div => divRes w a b
  | .divu => divuRes w a b
  | .rem => remRes w a b
  | .remu => remuRes w a b
  | .min => xres w (if sgn w a ≤ sgn w b then a else b) false false
  | .max => xres w (if sgn w a ≤ sgn w b then b else a) false false

/-- Leading zeros of a number below 2^w. -/
def clz (w a : Nat) : Nat := if a = 0 then w else w - 1 - Nat.log2 a

/-- The X operations with one source (R473). -/
def xunRes (o : XUn) (w a : Nat) : XRes :=
  match o with
  | .neg => xres w (narrow w (-(a : Int))) (a != 0) (a == 2 ^ (w - 1))
  | .not => xres w (2 ^ w - 1 - a) false false
  | .abs => xres w (narrow w (sgn w a).natAbs) false (a == 2 ^ (w - 1))
  | .clz => { xres w (clz w a) (a == 0) false with n := false }

/-- DIV, DIVU, REM and REMU: 16 cycles more, and a trap on a divisor of 0 with DZT set (R474, R476). -/
def divides (o : XBin) : Bool := o == .div || o == .divu || o == .rem || o == .remu

/-- A branch condition on the flags at issue (R481). -/
def condHolds (cond : Cond) (z n c v : Bool) : Bool :=
  match cond with
  | .always => true
  | .z => z
  | .nz => !z
  | .c => c
  | .nc => !c
  | .n => n
  | .nn => !n
  | .v => v
  | .nv => !v
  | .slt => n != v
  | .sge => n == v
  | .sle => z || n != v
  | .sgt => !z && n == v
  | .ule => c || z
  | .ugt => !c && !z

end Sys2Proof.Machine
end

