-- ==== Sys2Proof/Machine/Operands.lean ====
section
/-! DEFINITION. The Sorrel operand forms, the address spaces and the bit space (R447–R452, R469–R472), what an operation may
name, and the commit of a result (R456). -/

namespace Sys2Proof

open Machine

/-! ### Widths, addresses and lengths (R465, R467–R471) -/

def widthBits : Option Width → Nat
  | some .w8 => 8
  | some .w16 => 16
  | _ => 32

/-- A signed displacement of `ext` bytes (R469). -/
def displacement (ext : Fin 3) (d : Half) : Half :=
  if ext = 0 then 0 else if ext = 1 then (d.setWidth 8).signExtend 16 else d

/-- The address of a memory operand whose size is `size` bytes, from the A registers at issue (R469, R457). -/
def Opnd.addr (a : Vector Half 8) (size : Nat) : Opnd → Option Half
  | .based n ext d => some (a[n] + displacement ext d)
  | .postInc n => some a[n]
  | .preDec n => some (a[n] - BitVec.ofNat 16 size)
  | .indexed n m s => some (a[n] + (a[m] <<< s.val))
  | .abs x => some x
  | _ => none

/-- A memory operand's address with its low bits cleared to the width (R470). -/
def alignAddr (x : Half) (size : Nat) : Nat := x.toNat / size * size

def Opnd.isMem : Opnd → Bool
  | .based _ _ _ | .postInc _ | .preDec _ | .indexed _ _ _ | .abs _ => true
  | _ => false

def Opnd.isBit : Opnd → Bool
  | .bit _ | .bitInd _ => true
  | _ => false

def Opnd.isImm : Opnd → Bool
  | .imm _ _ => true
  | _ => false

/-- The A register that an operand's own mode modifies (R469). -/
def Opnd.steps : Opnd → List (Fin 8)
  | .postInc n | .preDec n => [n]
  | _ => []

/-- The A registers that a destination modifies (R457). -/
def Opnd.writes : Opnd → List (Fin 8)
  | .reg n => [n]
  | o => o.steps

/-- Bytes of a specifier (R469). -/
def Opnd.len : Opnd → Nat
  | .reg _ | .postInc _ | .preDec _ | .bitInd _ => 1
  | .based _ ext _ => 1 + ext.val
  | .indexed _ _ _ => 2
  | .abs _ | .bit _ => 3
  | .imm size _ => if size = 0 then 2 else if size = 1 then 3 else 5

/-- An immediate sign-extended from its length or truncated, at width `w` (R471). -/
def immVal (size : Fin 3) (v : Word) (w : Nat) : Nat :=
  let x : Word := if size = 0 then (v.setWidth 8).signExtend 32 else if size = 1 then (v.setWidth 16).signExtend 32 else v
  x.toNat % 2 ^ w

/-! ### The DATA space (R448–R450, R480) -/

/-- A timer word (R38). -/
def Machine.Timer.word (t : Timer) : Word :=
  BitVec.ofNat 32 (t.count.toNat + bw t.prescale 16 + bw t.armed 17 + bw t.expired 18)

/-- REP_LEFT (R450). -/
def Machine.CoreSt.repLeft (c : CoreSt) : Nat :=
  match c.rep with
  | some r => (match r.reps with | e :: _ => e.2 | [] => 0)
  | none => 0

/-- The core holds the queue's open packet. -/
def Machine.Queue.openBy (x : Queue) (k : CoreId) : Bool :=
  match x.opened with
  | some o => o.owner == .core k
  | none => false

/-- A word of the core control registers (R450). -/
def controlWord (c : CoreSt) (k : CoreId) (off : Nat) : Word :=
  if off = 0x00 then BitVec.ofNat 32 k.val
  else if off = 0x04 then BitVec.ofNat 32 c.cycles
  else if off = 0x08 then BitVec.ofNat 32 (c.beatLat.toNat % 2 ^ 32)
  else if off = 0x0C then BitVec.ofNat 32 (c.beatLat.toNat / 2 ^ 32)
  else if off = 0x10 then BitVec.ofNat 32 (b2n c.dzt)
  else if off = 0x14 then c.trapAddr.setWidth 32
  else if off = 0x18 then BitVec.ofNat 32 c.extLeft
  else if off = 0x1C then BitVec.ofNat 32 c.repLeft
  else 0

/-- The firmware port state of a window, which is plain storage (R449). -/
def portStorage (k : CoreId) (a : Nat) : Bool := k.val < 8 && 0x8000 ≤ a && a < 0xB000 && 0xB0 ≤ (a - 0x8000) % 0x400

/-- Port `i` of core `k`'s cluster. -/
def corePort (k : CoreId) (i : Nat) : PortId := ⟨(k.val * 12 + i) % 96, Nat.mod_lt _ (by decide)⟩

/-- The latest conversion of an item in a port window, in the order of R449; its units are not given (log 14). -/
def convValue (c : Conv) (i : Fin 8) : Int :=
  [c.vbs, c.ibus, c.vbl, c.vbh, c.tsn, if c.ccSecond then c.cc2 else c.cc1, c.sbu, c.ils].getD i.val 0

/-- The target of context word or counter word `j` of a window (R449). -/
def windowTgt (j : Nat) : Tgt := if j % 3 = 0 then .sop else if j % 3 = 1 then .sop1 else .sop2

/-- The PHY reports the port's line active (R129). -/
def Machine.Port.lineActive (b : Beat) (x : Port) : Bool := decide (x.sinceLine ≤ 64) || x.transmits b

/-- Codes of the window's words: MODE with discharge as 3, a CC state, a termination (log 88). -/
def Machine.Stage.modeCode (g : Stage) : Nat :=
  if g.disS then 3 else match g.want with | .idle => 0 | .forward => 1 | .reverse => 2
def ccCode : Cc → Nat
  | .opened => 0 | .ra => 1 | .rd => 2 | .rpDefault => 3 | .rp1A5 => 4 | .rp3A0 => 5
def presCode : Pres → Nat
  | .none => 0 | .rd => 1 | .clamp => 2 | .rp n => 4 + n.toNat
def presOfCode (n : Nat) : Pres := if n = 1 then .rd else if n = 2 then .clamp else if 4 ≤ n then .rp (BitVec.ofNat 2 (n - 4)) else .none

/-- Word `i` of the hardware status block after GUARD.STATUS, one item a word in the order listed: the CC states, the PHY line state,
the calibration state, the TX result, 0x80 where no message has ended (R449; order and codes DESIGN CHOICE, log 88). -/
def statusWord (b : Beat) (x : Port) (i : Nat) : Nat :=
  if i = 0 then ccCode x.tc.cc1 + 8 * ccCode x.tc.cc2
  else if i = 1 then bw (x.lineActive b) 0 + bw (x.transmits b) 1
  else if i = 2 then x.calCode
  else if i = 3 then (match x.pd.lastTx with | some r => txCode r | none => 0x80)
  else 0

/-- Word `i` of the targets, one item a word in the order listed: MODE, V_SET in 20 mV, I_OP in 10 mA, the reverse current limit in
10 mA, GATE, the terminations of CC1 and CC2, VCONN (R270, R449; order and codes DESIGN CHOICE, log 88). -/
def targetWord (x : Port) (i : Nat) : Nat :=
  if i = 0 then x.stage.modeCode
  else if i = 1 then x.stage.vTgt
  else if i = 2 then x.stage.iTgt
  else if i = 3 then x.revLimit / 10
  else if i = 4 then b2n x.guard.gateWant
  else if i = 5 then presCode x.tc.pres1 + 8 * presCode x.tc.pres2
  else if i = 6 then b2n x.tc.vconnOn
  else 0

/-- Word `o` of a port window below the firmware's own state (R449): conversions with their stamps, hardware status from GUARD.STATUS
on, the targets, the three context words and after them their counter words (DEDUCED, log 14). -/
def windowWord (b : Beat) (x : Port) (o : Nat) : Option Word :=
  if h : o / 4 < 8 then
    some ((Config.convCode (o / 4) (convValue x.stage.conv ⟨o / 4, h⟩)).setWidth 32
      + BitVec.ofNat 32 ((x.stage.conv.stamps[o / 4]).toNat % 65536 * 65536))
  else if o / 4 = 16 then some (guardStatus x)
  else if 16 < o / 4 ∧ o / 4 < 24 then some (BitVec.ofNat 32 (statusWord b x (o / 4 - 17)))
  else if 24 ≤ o / 4 ∧ o / 4 < 32 then some (BitVec.ofNat 32 (targetWord x (o / 4 - 24)))
  else if 32 ≤ o / 4 ∧ o / 4 < 35 then some (ctxWord (x.ctxOf (windowTgt (o / 4 - 32))))
  else if 35 ≤ o / 4 ∧ o / 4 < 38 then some (cntWord (x.ctxOf (windowTgt (o / 4 - 35))))
  else none

/-- The aligned word at `a` as core `k` reads it (R448). Words of the system window read a free word; `n`
numbers the read (log 14). -/
def dataWord (s : State) (k : CoreId) (n a : Nat) : Word :=
  let c := s.core k
  if a < 0x8000 || portStorage k a then BitVec.ofNat 32 (leNat (c.data.readN zeroByte a 4))
  else if a < 0xB000 then
    ((if k.val < 8 then windowWord s.now (s.port (corePort k ((a - 0x8000) / 0x400))) ((a - 0x8000) % 0x400) else none).getD
      (Config.windowWord k.val a n))
  else if a < 0xB240 then
    (if k.val < 8 then ((s.port (corePort k ((a - 0xB000) / 48))).timers[(((a - 0xB000) / 4) % 12)]'(Nat.mod_lt _ (by decide))).word else 0)
  else if a < 0xB800 then 0
  else if a < 0xC000 then
    let q := s.pool.queues[((a - 0xB800) / 16) % 128]'(Nat.mod_lt _ (by decide))
    let sb := (c.side[((a - 0xB800) / 16) % 128]'(Nat.mod_lt _ (by decide)))
    if a % 16 = 0 then BitVec.ofNat 32 (sb.toNat % 32)
    else if a % 16 = 4 then BitVec.ofNat 32 (q.cells % 16384 + bw (q.openBy k) 16 + bw (sb.getLsbD 7) 17)
    else 0
  else if a < 0xC040 then controlWord c k (a - 0xC000)
  else 0

/-- `size` bytes at the aligned address `a` of DATA, as a number. -/
def readData (s : State) (k : CoreId) (n a size : Nat) : Nat :=
  ((dataWord s k n (a / 4 * 4)).toNat / 2 ^ (8 * (a % 4))) % 2 ^ (8 * size)

/-- A byte of bundle memory (R446, R447): the extension region, or the running image's firmware (log 13). -/
def codeByte (s : State) (k : CoreId) (a : Nat) : Byte :=
  if 0xE000 ≤ a then (s.core k).bundleMem.read zeroByte a else Config.firmwareByte s.board.runSeq k.val a

def readCode (s : State) (k : CoreId) (a size : Nat) : Nat := leNat ((List.range size).map fun i => codeByte s k ((a + i) % 65536))

/-! ### Operands at issue -/

/-- A source operand at width `w` (R469–R471): register, memory of DATA or, under CODE, of bundle memory, immediate. -/
def Opnd.read (s : State) (k : CoreId) (n : Nat) (code : Bool) (w : Nat) (o : Opnd) : Nat :=
  match o with
  | .reg i => (s.core k).a[i].toNat % 2 ^ w
  | .imm size v => immVal size v w
  | _ => match o.addr (s.core k).a (w / 8) with
    | some x => if code then readCode s k (alignAddr x (w / 8)) (w / 8) else readData s k n (alignAddr x (w / 8)) (w / 8)
    | none => 0

/-- The commit of an operand's own step of an A register (R456, R469). -/
def Opnd.stepEffects (s : State) (k : CoreId) (size : Nat) : Opnd → List (Nat × Effect)
  | .postInc n => [(0, .reg n ((s.core k).a[n] + BitVec.ofNat 16 size))]
  | .preDec n => [(0, .reg n ((s.core k).a[n] - BitVec.ofNat 16 size))]
  | _ => []

/-- A result of width `w` for a destination, committed `d` bundles on (R456, R470). -/
def Opnd.writeEffects (s : State) (k : CoreId) (d w val : Nat) (o : Opnd) : List (Nat × Effect) :=
  match o with
  | .reg n => [(d, .reg n (BitVec.ofNat 16 (val % 2 ^ w)))]
  | _ => match o.addr (s.core k).a (w / 8) with
    | some x => [(d, Effect.mem (alignAddr x (w / 8)) (leBytes (w / 8) val))] ++ o.stepEffects s k (w / 8)
    | none => []

/-! ### The bit space (R451, R452) -/

/-- A port flag j (R451). -/
def portFlag (s : State) (p : PortId) (j : Nat) : Bool :=
  let x := s.port p
  if j = 0 then x.guard.vbs.good
  else if j = 1 then x.guard.vbs.side == .low
  else if j = 2 then x.guard.vbs.side == .high
  else if j = 3 then x.guard.vbl.good
  else if j = 4 then x.guard.fullyOn
  else if j = 5 then x.guard.belowOff
  else if j = 6 then x.guard.gst == .limit
  else if j = 7 then x.guard.timer.isSome
  else if j = 8 then x.lineActive s.now
  else if j = 9 then x.transmits s.now
  else if j = 10 then x.pd.contract.clActive
  else if j = 11 then x.pd.contract.dropLimit
  else false

/-- Bit `b` of the bit space as core `k` reads it. -/
def readBit (s : State) (k : CoreId) (b : Nat) : Bool :=
  if b < 256 then (s.core k).bits.getLsbD b
  else if b < 1024 then s.shared.getLsbD b
  else if b < 4096 then portFlag s ⟨(b - 1024) / 32 % 96, Nat.mod_lt _ (by decide)⟩ (b % 32)
  else if b < 4128 then bit1 s.dev.ready0 (b - 4096)
  else if b < 4224 then (s.port ⟨(b - 4128) % 96, Nat.mod_lt _ (by decide)⟩).tc.pReady
  else if b = 4224 then s.feed.brownout
  else false

/-- The bit a bit operand names (R469). -/
def Opnd.bitNo (s : State) (k : CoreId) : Opnd → Nat
  | .bit b => b.toNat
  | .bitInd n => (s.core k).a[n].toNat % 8192
  | _ => 0

/-! ### Operations: class, operands, encoding (R465–R468, R472) -/

inductive UnitClass where
  | x | b | m | c
  deriving DecidableEq, Repr

def SOp.cls : SOp → UnitClass
  | .xbin _ _ | .xun _ _ _ | .cmp _ _ | .tst _ _ => .x
  | .set _ | .clr _ | .inv _ | .tset _ | .btst _ | .bst _ | .bmov _ _ => .b
  | .mov _ _ | .movz _ _ | .movs _ _ | .lea _ _ | .push _ | .pop _ | .nop | .qopen _ | .qpush _ _ | .qend _ _ _
  | .qabort _ | .qpop _ _ _ => .m
  | .branch _ _ | .branchBit _ _ _ | .loop _ _ | .call _ | .ret | .beatend => .c

/-- Operands that are read, other than bits and branch targets. -/
def SOp.sources : SOp → List Opnd
  | .xbin _ (.two _ s) => [s]
  | .xbin _ (.three _ s1 s2) => [s1, s2]
  | .xun _ _ s => [s]
  | .cmp a b | .tst a b => [a, b]
  | .mov _ s | .movz _ s | .movs _ s => [s]
  | .push s => [s]
  | .qopen q | .qabort q => [q]
  | .qpush q s => [q, s]
  | .qend q s n => [q, s, n]
  | .qpop _ q _ => [q]
  | _ => []

/-- Operands that are written: the first operand of a two-operand X form is read as well. -/
def SOp.dests : SOp → List Opnd
  | .xbin _ (.two d _) => [d]
  | .xbin _ (.three d _ _) => [d]
  | .xun _ d _ => [d]
  | .mov d _ | .movz d _ | .movs d _ | .lea d _ => [d]
  | .pop d => [d]
  | .qpop d _ _ => [d]
  | _ => []

def SOp.bitOpnds : SOp → List Opnd
  | .set b | .clr b | .inv b | .tset b | .btst b | .bst b => [b]
  | .bmov d s => [d, s]
  | .branchBit _ b _ => [b]
  | _ => []

def SOp.targets : SOp → List Opnd
  | .branch _ t | .branchBit _ _ t | .loop _ t | .call t => [t]
  | _ => []

/-- Every operand, for the length (R465). -/
def SOp.allOpnds (o : SOp) : List Opnd :=
  o.sources ++ o.dests ++ o.bitOpnds ++ o.targets
    ++ (match o with | .lea _ s => [s] | .loop r _ => [r] | _ => [])

/-- Bytes of the prefixes and of the operation (R465, R467). -/
def Pre.len (h : Pre) : Nat :=
  (match h.rep with
    | some r => (match r.count with | .inl _ => 3 | .inr _ => 2)
    | none => 0) + b2n h.code + b2n h.width.isSome + b2n h.nf

def Machine.BundleOp.len (b : BundleOp) : Nat := b.pre.len + 1 + (b.op.allOpnds.map Opnd.len).sum

/-- A prefix where it is not permitted (R468, R459). -/
def Machine.BundleOp.badPrefix (b : BundleOp) : Bool :=
  (b.pre.width.isSome && !(b.op.cls == .x || (match b.op with | .mov _ _ | .movz _ _ | .movs _ _ => true | _ => false)))
    || (b.pre.nf && !(b.op.cls == .x && (match b.op with | .cmp _ _ | .tst _ _ => false | _ => true)))
    || (b.pre.rep.isSome && b.op.cls == .c)

/-- A reserved operand mode, or a destination in the CODE space (R447, R471, R472). -/
def Machine.BundleOp.badOperand (b : BundleOp) : Bool :=
  b.op.sources.any Opnd.isBit || b.op.dests.any (fun d => d.isImm || d.isBit) || b.op.bitOpnds.any (fun o => !o.isBit)
    || b.op.targets.any (fun t => t.isBit || (match t with | .imm size _ => size == 2 | _ => false))
    || (match b.op with
        | .lea _ s => !(match s with | .based _ _ _ | .indexed _ _ _ | .abs _ => true | _ => false)
        | .loop r _ => !(match r with | .reg _ => true | _ => false)
        | .xbin _ (.two d _) => b.pre.code && d.isMem
        | _ => false)

/-- The A registers an operation modifies, each as often as an operand modifies it (R457, R478). -/
def SOp.modifies (o : SOp) : List (Fin 8) :=
  o.dests.flatMap Opnd.writes ++ o.sources.flatMap Opnd.steps ++ o.targets.flatMap Opnd.steps
    ++ (match o with | .push _ | .pop _ => [7] | .loop (.reg n) _ => [n] | _ => [])

def distinct : List (Fin 8) → Bool
  | [] => true
  | n :: ns => !ns.contains n && distinct ns

/-- At most one operation of a class. -/
def oneOf (u : UnitClass) (ops : List BundleOp) : Bool := decide ((ops.filter fun b => b.op.cls == u).length ≤ 1)

/-- The bundle is illegal (R461, R466, R484), less what depends on where it stands. -/
def badBundle (ops : List BundleOp) : Bool :=
  ops.any (fun b => b.badPrefix || b.badOperand || decide (12 < b.len)) || decide (32 < (ops.map BundleOp.len).sum)
    || !(oneOf .x ops && oneOf .b ops && oneOf .m ops && oneOf .c ops) || !distinct (ops.flatMap fun b => b.op.modifies)

/-! ### Commit of results (R448, R451, R456, R470) -/

/-- A write of timer word bytes (R38–R40): `off` is the first byte written. A write that covers COUNT arms or disarms; EXPIRED
is cleared by a 1. -/
def Machine.Timer.poke (off : Nat) (bytes : List Byte) (t : Timer) : Timer :=
  let byteAt (i : Nat) : Option Byte := if off ≤ i ∧ i < off + bytes.length then bytes[i - off]? else none
  let lo := (byteAt 0).getD (t.count.setWidth 8)
  let hi := (byteAt 1).getD ((t.count >>> 8).setWidth 8)
  let cnt : Half := hi ++ lo
  let hit := (byteAt 0).isSome || (byteAt 1).isSome
  let u := match byteAt 2 with
    | some b => { t with prescale := b.getLsbD 0, expired := t.expired && !b.getLsbD 2 }
    | none => t
  if hit then { u with count := cnt, armed := cnt != 0, expired := u.expired && cnt == 0 } else u

/-- A word with the bytes from offset `off` on replaced. -/
def pokeWord (off : Nat) (bytes : List Byte) (w : Word) : Word :=
  let b := wordBytes w
  BitVec.ofNat 32 (leNat (b.take off ++ bytes ++ b.drop (off + bytes.length)))

/-- The fields of a context word and of its counter word that are the core's to write: TX_ID, RX_ID and RX_VALID are the hardware's
(R157, R162, R164, R449). -/
def Machine.Ctx.putWord (c : Ctx) (w : Word) : Ctx :=
  { c with rev := BitVec.ofNat 2 (fld w 7 2), nRetry := BitVec.ofNat 2 (fld w 9 2), chunking := bit1 w 11
           chunkNum := BitVec.ofNat 4 (fld w 12 4), epoch := BitVec.ofNat 4 (fld w 16 4), vconnOk := bit1 w 20 }
def Machine.Ctx.putCounts (c : Ctx) (w : Word) : Ctx :=
  { c with hrCnt := fld w 0 2, capsCnt := fld w 2 6, discCnt := fld w 8 5, busyCnt := fld w 13 3, txFails := BitVec.ofNat 16 (fld w 16 16) }

/-- A write of target word `i` (R270, R449). A GATE command goes the way of the firmware's own, which a tripped guard does not follow
(R287, R293); the reverse limit is the port's current target while it is Sink (log 88). -/
def Machine.Port.putTarget (b : Beat) (i : Nat) (w : Word) (x : Port) : Port :=
  let g := x.stage
  if i = 0 then
    let m := fld w 0 2
    { x with stage := { g with want := if m = 1 then .forward else if m = 2 then .reverse else .idle, disS := m == 3 } }
  else if i = 1 then { x with stage := { g with vTgt := fld w 0 16 } }
  else if i = 2 then (if x.sinkRole then x else { x with stage := { g with iTgt := fld w 0 16 } })
  else if i = 3 then (if x.sinkRole then { x with stage := { g with iTgt := fld w 0 16 } } else x)
  else if i = 4 then (if bit1 w 0 then x.gateOnCmd b else x.gateOff b)
  else if i = 5 then { x with tc := { x.tc with pres1 := presOfCode (fld w 0 3), pres2 := presOfCode (fld w 3 3) } }
  else if i = 6 then (if !bit1 w 0 then x.vconnOff else if x.tc.vconnOn then x else x.vconnOnAt b)
  else x

/-- A write into a port window below the firmware's own state: conversions and hardware status are read-only, and a disabled port stays
in reset (R16). -/
def Machine.Port.pokeWindow (b : Beat) (o : Nat) (bytes : List Byte) (x : Port) : Port :=
  if x.tc.st == .disabled then x
  else if 24 ≤ o / 4 ∧ o / 4 < 32 then x.putTarget b (o / 4 - 24) (pokeWord (o % 4) bytes (BitVec.ofNat 32 (targetWord x (o / 4 - 24))))
  else if 32 ≤ o / 4 ∧ o / 4 < 35 then x.modCtx (windowTgt (o / 4 - 32)) fun c => c.putWord (pokeWord (o % 4) bytes (ctxWord c))
  else if 35 ≤ o / 4 ∧ o / 4 < 38 then x.modCtx (windowTgt (o / 4 - 35)) fun c => c.putCounts (pokeWord (o % 4) bytes (cntWord c))
  else x

/-- Bytes written to the aligned address `a` of DATA (R448–R450). The timers of a disabled port stay idle (R16). A target that a
fault reaction of the same slot touches stays as that leaves it (R21, R270). -/
def writeData (s : State) (k : CoreId) (a : Nat) (bytes : List Byte) : State :=
  if a < 0x8000 || portStorage k a then s.modCore k fun c => { c with data := c.data.writeAll zeroByte a bytes }
  else if 0xB000 ≤ a && a < 0xB240 && k.val < 8 then
    s.modPort (corePort k ((a - 0xB000) / 48)) fun x =>
      let i : Fin 12 := ⟨((a - 0xB000) / 4) % 12, Nat.mod_lt _ (by decide)⟩
      if x.tc.st == .disabled then x else { x with timers := x.timers.set i ((x.timers[i]).poke (a % 4) bytes) }
  else if 0x8000 ≤ a && a < 0xB000 && k.val < 8 then
    let p := corePort k ((a - 0x8000) / 0x400)
    let o := (a - 0x8000) % 0x400
    if s.safePending p && 24 ≤ o / 4 && o / 4 < 32 then s else s.modPort p (Port.pokeWindow s.now o bytes)
  else if a = 0xC010 then s.modCore k fun c => { c with dzt := (bytes.getD 0 0).getLsbD 0 }
  else s

def setLocal (v : BitVec 256) (b : Nat) (x : Bool) : BitVec 256 :=
  if x then v ||| BitVec.twoPow 256 b else v &&& ~~~ BitVec.twoPow 256 b
def setShared (v : BitVec 1024) (b : Nat) (x : Bool) : BitVec 1024 :=
  if x then v ||| BitVec.twoPow 1024 b else v &&& ~~~ BitVec.twoPow 1024 b

/-- A result reaches its destination. -/
def commit (k : CoreId) (s : State) : Effect → State
  | .reg n v => s.modCore k fun c => { c with a := c.a.set n v }
  | .flags z n c v => s.modCore k fun x => { x with z := z.getD x.z, n := n.getD x.n, c := c.getD x.c, v := v.getD x.v }
  | .bitv b v =>
    if b < 256 then s.modCore k fun c => { c with bits := setLocal c.bits b v }
    else if b < 1024 then { s with shared := setShared s.shared b v }
    else s
  | .mem a bytes => writeData s k a bytes
  | .qport q refused v =>
    s.modCore k fun c =>
      let b := c.side[q]
      let r := if refused then (if v = 1 then b ||| 0x80#8 else b &&& 0x7F#8) else (b &&& 0x80#8) ||| BitVec.ofNat 8 (v % 32)
      { c with side := c.side.set q r }

end Sys2Proof
end

