-- ==== Sys2Proof/Machine/Sorrel.lean ====
section
/-! DEFINITION. The Sorrel cores: queue operations, what one operation does at issue, bundles with their commit points,
repeats, branches, traps, the beat frame and extension calls (R453–R464, R473–R484). -/

namespace Sys2Proof.Machine

/-! ### Roles on queues (R424, R463) -/

/-- Core `k` is a producer of queue `q`. -/
def mayPush (k q : Nat) : Bool :=
  if q < 16 then (q == 7 && k == 0) || ((q == 8 || q == 9 || q == 15) && k == 8)
  else if q < 80 then
    (let c := (q - 16) / 8
     let r := (q - 16) % 8
     (r == 1 && (k == c || k == 8)) || ((r == 2 || r == 3 || 5 ≤ r) && k == c))
  else if q < 96 then k == 8 && (q == 81 || q == 83 || q == 85 || q == 87 || 89 ≤ q)
  else if q < 104 then k == 8
  else if q < 112 then k == q - 104
  else decide (q < 128)

/-- Core `k` is a consumer of queue `q`. -/
def mayPop (k q : Nat) : Bool :=
  if q < 16 then ((q == 0 || q == 1 || q == 7) && k == 8) || (q == 15 && k == 0)
  else if q < 80 then
    (let c := (q - 16) / 8
     let r := (q - 16) % 8
     ((r == 0 || 5 ≤ r) && k == c) || ((r == 2 || r == 3 || r == 4) && k == 8))
  else if q < 96 then k == 8 && (q == 80 || q == 83 || q == 84 || q == 87 || q == 88 || 90 ≤ q)
  else if q < 104 then k == q - 96
  else if q < 112 then k == 8
  else decide (q < 128)

/-! ### Queue operations (R428–R439, R479) -/

/-- A queue number from an operand: none above 127. -/
def queueOf (v : Nat) : Option QueueId := if h : v < 128 then some ⟨v, h⟩ else none

/-- TX message queues, whose producers may draw on the PD reserve (R423). -/
def isTxQ (q : QueueId) : Bool := (List.finRange 8).any fun c => qTx c == q

/-- PD-reserve cells that `n` more cells of a packet take, which holds `res` of them already: none from a queue that does not draw on
the reserve, or while the free list has the cells; no answer where the cells are refused. A packet that a core writes takes at most 5
(R423, R425, R444; log 92). -/
def Pool.draw (m : Pool) (q : QueueId) (res n : Nat) : Option Nat :=
  let r := n - min n (m.free - m.heldAll)
  if m.room q n then some 0
  else if isTxQ q && !(m.queues[q]).quarantine && decide ((m.queues[q]).counted + m.heldOn q + n ≤ (m.queues[q]).limit)
      && decide (r ≤ m.resFree) && decide (res + r ≤ 5) then some r
  else none

/-- Cells have been taken, `r` of them from the reserve, which calls for an empty free list (R423, R442, R444). -/
def Pool.drew (before : Nat) (r : Nat) (m : Pool) : Pool :=
  let n := m.watch before
  { n with exhDue := n.exhDue || decide (0 < r) }

/-- QOPEN on a queue that no other producer holds: whether it is refused. -/
def qOpen (k : CoreId) (q : QueueId) (m : Pool) : Pool × Bool :=
  if !mayPush k.val q.val then (m.refuse q, true)
  else if (m.queues[q]).openBy k then (m, true)
  else match m.draw q 0 1 with
    | none => (m.refuseFor q 1, true)
    | some r =>
      (({ m.modQ q fun x => { x with opened := some ⟨.core k, { mkPacket m .none [] with res := r }⟩ } with serials := m.serials + 1 }).drew m.free r, false)

/-- The open packet is aborted (R431). -/
def Queue.abort (x : Queue) : Queue := x.endOpen none

/-- Bytes appended to the core's open packet: whether the push is refused (R428, R430, R436). -/
def qAppend (k : CoreId) (q : QueueId) (bytes : List Byte) (m : Pool) : Pool × Bool :=
  if !mayPush k.val q.val then (m.refuse q, true)
  else match (m.queues[q]).opened with
    | none => (m, true)
    | some o =>
      if o.owner != .core k then (m, true)
      else
        let data := o.packet.data ++ bytes
        let need := cellsFor data.length - cellsFor o.packet.data.length
        if 4104 < data.length then ((m.refuse q).modQ q Queue.abort, true)
        else if need = 0 then (m.modQ q fun x => { x with opened := some { o with packet := { o.packet with data := data } } }, false)
        else match m.draw q o.packet.res need with
          | none => ((m.refuseFor q need).modQ q Queue.abort, true)
          | some r =>
            ((m.modQ q fun x => { x with opened := some { o with packet := { o.packet with
                data := data, res := o.packet.res + r, low := o.packet.low && m.serviceOnly } } }).drew m.free r, false)

/-- The core's open packet closes (R429); one that a flush has marked vanishes (R440). -/
def qClose (q : QueueId) (m : Pool) : Pool :=
  m.modQ q fun x => match x.opened with
    | none => x
    | some o => x.endOpen (if x.discardOpen || o.packet.data.isEmpty then none else some o.packet)

/-- What a pop delivers (R432). -/
structure Popped where
  word : Nat
  v : Bool
  p : Bool
  l : Bool
  bc : Nat
  deriving DecidableEq, Repr

def idleItem : Popped := ⟨0, false, false, false, 0⟩

/-- SIDEBAND of R480. -/
def Popped.side (x : Popped) : Nat := bw x.v 0 + bw x.p 1 + bw x.l 2 + x.bc * 8

/-- What a pop of the head packet finds (R437–R439): the pool CRC is compared before the L word, and a packet that came unsound is found
so there at the latest (log 91). -/
def popObs (last : Bool) (flaw obs : CellObs) : CellObs :=
  if last then (if obs == .sound then flaw else obs) else if obs == .crc then .sound else obs

/-- S8 has popped the last word of a command: its units return, and one popped poisoned is lost (R383, R387). -/
def State.popped (s : State) (q : QueueId) (k : Packet) (bad : Bool) : State :=
  if bad && (q == qHost || q == qUrgent || q == qSvc || q == qFwd) then s.loseCommand q k
  else if q.val < 2 then s.modHost fun g => { g with unitsUsed := g.unitsUsed - unitsOf k }
  else s

/-- QPOP (R432, R433, R437–R439): the next word of the head packet. A queue whose flush waits at a boundary shows no packet. -/
def qPop (k : CoreId) (q : QueueId) (obs : CellObs) (s : State) : State × Popped :=
  let x := s.pool.queues[q]
  if !mayPop k.val q.val || x.quarantine || (x.flush.isSome && x.popped == 0) then (s, idleItem)
  else match x.closed with
    | [] => (s, idleItem)
    | h :: more =>
      let n := (h.data.length + 3) / 4
      let len := x.popped == 0
      let w := if len then lengthWord h else rdNat h.data (4 * (x.popped - 1)) 4
      let last := !len && x.popped == n
      let o := popObs last h.flaw obs
      let bad := h.poison || o != .sound
      let out : Popped := ⟨w, true, bad, last || o == .link, if last then h.data.length % 4 else 0⟩
      if o == .link then ((if k.val = 8 then s.noteHcrc q h else s).quarantine q, out)
      else
        let t := s.modPool fun m => m.modQ q fun y =>
          if last then y.tail else { y with popped := y.popped + 1, closed := { h with poison := bad } :: more }
        ((if last then t.popped q h bad else t).found q o, out)

/-! ### One operation at issue -/

/-- What an operation makes: the state with the queues as it leaves them, its results with the bundles to their commit points,
and the decision of a C operation. -/
abbrev OpOut := State × List (Nat × Effect) × Ctl

def quiet (s : State) (es : List (Nat × Effect)) : Except Nat OpOut := .ok (s, es, .fall)

def stepsOf (view : State) (k : CoreId) (size : Nat) (os : List Opnd) : List (Nat × Effect) :=
  os.flatMap fun o => o.stepEffects view k size

def flagEffects (h : Pre) (r : XRes) : List (Nat × Effect) :=
  if h.nf then [] else [(1, .flags (some r.z) (some r.n) (some r.c) (some r.v))]

/-- X operations with two sources (R473–R476). -/
def runXbin (view real : State) (k : CoreId) (n : Nat) (h : Pre) (o : XBin) (f : XForm) : Except Nat OpOut :=
  let w := widthBits h.width
  let rd (x : Opnd) : Nat := x.read view k n h.code w
  let (d, a, b, ss) := match f with
    | .two d s => (d, rd d, rd s, [s])
    | .three d s1 s2 => (d, rd s1, rd s2, [s1, s2])
  if divides o && b = 0 && (view.core k).dzt then .error 3
  else
    let r := xbinRes o w a b (view.core k).c
    quiet real (d.writeEffects view k 1 w r.val ++ stepsOf view k (w / 8) ss ++ flagEffects h r)

def runXun (view real : State) (k : CoreId) (n : Nat) (h : Pre) (o : XUn) (d s : Opnd) : Except Nat OpOut :=
  let w := widthBits h.width
  let r := xunRes o w (s.read view k n h.code w)
  quiet real (d.writeEffects view k 1 w r.val ++ s.stepEffects view k (w / 8) ++ flagEffects h r)

/-- CMP and TST: flags only. -/
def runCompare (view real : State) (k : CoreId) (n : Nat) (h : Pre) (o : XBin) (a b : Opnd) : Except Nat OpOut :=
  let w := widthBits h.width
  let r := xbinRes o w (a.read view k n h.code w) (b.read view k n h.code w) (view.core k).c
  quiet real (stepsOf view k (w / 8) [a, b] ++ flagEffects h r)

/-- MOV, MOVZ and MOVS (R478): read at the prefix width, `wide` writes 32 bits, `sign` extends the sign. -/
def runMove (view real : State) (k : CoreId) (n : Nat) (h : Pre) (wide sign : Bool) (d s : Opnd) : Except Nat OpOut :=
  let w := widthBits h.width
  let x := s.read view k n h.code w
  quiet real (d.writeEffects view k 2 (if wide then 32 else w) (if sign then narrow 32 (sgn w x) else x) ++ s.stepEffects view k (w / 8))

/-- Flags of a queue operation other than QPOP (R479). -/
def qFlags (refused : Bool) : Nat × Effect := (2, .flags (some false) (some false) (some refused) (some false))

/-- QPUSH, QEND: `close` after the bytes. -/
def runPush (real : State) (k : CoreId) (qv : Nat) (bytes : List Byte) (close : Bool) (es : List (Nat × Effect)) : Except Nat OpOut :=
  match queueOf qv with
  | none => quiet real (es ++ [qFlags true])
  | some q =>
    let r := qAppend k q bytes real.pool
    let m := if close && !r.2 then qClose q r.1 else r.1
    quiet { real with pool := m } (es ++ [qFlags r.2, (2, .qport q true (b2n r.2))])

/-- A branch target (R471): an immediate is a displacement from the bundle's first byte. -/
def targetOf (view : State) (k : CoreId) (n : Nat) (h : Pre) (t : Opnd) : Half :=
  match t with
  | .imm size v => (view.core k).pc + BitVec.ofNat 16 (immVal size v 32)
  | _ => BitVec.ofNat 16 (t.read view k n h.code 32)

def jumpIf (real : State) (es : List (Nat × Effect)) (taken : Bool) (t : Half) : Except Nat OpOut :=
  .ok (real, es, if taken then .jump t else .fall)

/-- One operation (R473–R483): sources and bits from `view`, queues from `real`; an error is the DETAIL of a trap. -/
def opRun (view real : State) (k : CoreId) (n : Nat) (b : BundleOp) : Except Nat OpOut :=
  let h := b.pre
  let c := view.core k
  let rd32 (o : Opnd) : Nat := o.read view k n h.code 32
  let bitAt (o : Opnd) : Bool := readBit view k (o.bitNo view k)
  match b.op with
  | .xbin o f => runXbin view real k n h o f
  | .xun o d s => runXun view real k n h o d s
  | .cmp x y => runCompare view real k n h .sub x y
  | .tst x y => runCompare view real k n h .and x y
  | .set o => quiet real [(0, .bitv (o.bitNo view k) true)]
  | .clr o => quiet real [(0, .bitv (o.bitNo view k) false)]
  | .inv o => quiet real [(0, .bitv (o.bitNo view k) (!bitAt o))]
  | .tset o => quiet real [(0, .flags none none (some (bitAt o)) none), (0, .bitv (o.bitNo view k) true)]
  | .btst o => quiet real [(0, .flags none none (some (bitAt o)) none)]
  | .bst o => quiet real [(0, .bitv (o.bitNo view k) c.c)]
  | .bmov d s => quiet real [(0, .bitv (d.bitNo view k) (bitAt s))]
  | .mov d s => runMove view real k n h false false d s
  | .movz d s => runMove view real k n h true false d s
  | .movs d s => runMove view real k n h true true d s
  | .lea d s => quiet real (d.writeEffects view k 2 32 ((s.addr c.a 4).getD 0).toNat)
  | .push s =>
    quiet real (s.stepEffects view k 4 ++ [(0, .reg 7 (c.a[7] - 4)), (2, .mem (alignAddr (c.a[7] - 4) 4) (u32 (rd32 s)))])
  | .pop d => quiet real (d.writeEffects view k 2 32 (readData view k n (alignAddr c.a[7] 4) 4) ++ [(0, .reg 7 (c.a[7] + 4))])
  | .nop => quiet real []
  | .qopen q =>
    (match queueOf (rd32 q) with
     | none => quiet real (q.stepEffects view k 4 ++ [qFlags true])
     | some i =>
       let r := qOpen k i real.pool
       quiet { real with pool := r.1 } (q.stepEffects view k 4 ++ [qFlags r.2]))
  | .qpush q s => runPush real k (rd32 q) (u32 (rd32 s)) false (stepsOf view k 4 [q, s])
  | .qend q s m => runPush real k (rd32 q) ((u32 (rd32 s)).take (if rd32 m % 4 = 0 then 4 else rd32 m % 4)) true (stepsOf view k 4 [q, s, m])
  | .qabort q =>
    (match queueOf (rd32 q) with
     | none => quiet real (q.stepEffects view k 4 ++ [qFlags false])
     | some i =>
       quiet { real with pool := if (real.pool.queues[i]).openBy k then real.pool.modQ i Queue.abort else real.pool }
         (q.stepEffects view k 4 ++ [qFlags false]))
  | .qpop d q obs =>
    (match queueOf (rd32 q) with
     | none => quiet real (d.writeEffects view k 2 32 0 ++ q.stepEffects view k 4 ++ [(2, .flags (some true) (some false) (some false) (some false))])
     | some i =>
       let r := qPop k i obs real
       quiet r.1 (d.writeEffects view k 2 32 r.2.word ++ q.stepEffects view k 4
         ++ [(2, .flags (some (!r.2.v)) (some false) (some r.2.l) (some r.2.p)), (2, .qport i false r.2.side)]))
  | .branch cond t => jumpIf real (t.stepEffects view k 4) (condHolds cond c.z c.n c.c c.v) (targetOf view k n h t)
  | .branchBit v o t => jumpIf real (t.stepEffects view k 4) (bitAt o == v) (targetOf view k n h t)
  | .loop (.reg r) t =>
    jumpIf real ((0, .reg r (c.a[r] - 1)) :: t.stepEffects view k 4) (c.a[r] - 1 != 0) (targetOf view k n h t)
  | .loop _ _ => .error 1
  | .call t => .ok (real, t.stepEffects view k 4, .callTo (targetOf view k n h t))
  | .ret => (match c.rstack with
    | [] => .error 1
    | r :: _ => .ok (real, [], .retTo r))
  | .beatend => .ok (real, [], .done)

/-! ### Ends of a handler: BEATEND, traps, overrun (R453–R455, R461) -/

/-- Everything in flight reaches its destination, nearer commit points first (R454, R455). -/
def State.drain (s : State) (k : CoreId) : State :=
  let l := (s.core k).inflight
  let t := ((l.filter fun e => decide (e.1 ≤ 1)) ++ (l.filter fun e => decide (1 < e.1))).foldl (fun t e => commit k t e.2) s
  t.modCore k fun c => { c with inflight := [] }

/-- The core issues nothing more until beat entry. -/
def CoreSt.halt (c : CoreSt) : CoreSt :=
  { c with running := false, paused := false, bundle := [], delay := none, rep := none, waiting := false, inExt := false
           worst := max c.worst c.cycles }

/-- A trap (R455, R461): earlier bundles complete, the stopping one writes nothing. -/
def State.trap (s : State) (k : CoreId) (detail : Nat) : State :=
  let at_ := (s.core k).pc
  let t := (s.drain k).modCore k fun c =>
    let inRegion := decide (0xE000 ≤ at_.toNat)
    { c.halt with trapAddr := at_, flagTrap := true, flagExt := inRegion, extState := if inRegion then 3 else c.extState
                  traps := satIncr c.traps, lastTrap := at_.setWidth 32 }
  t.raise (devRaise (201 + k.val) detail at_.toNat)

/-! ### Bundles (R456–R460, R466, R482) -/

/-- A bundle has issued: its place among the commit points, and where the core goes on. -/
def State.finish (s : State) (k : CoreId) (results : List (Nat × Effect)) (ctl : Ctl) (len : Nat) : State :=
  let l := (s.core k).inflight
  let s1 := (l.filter fun e => decide (e.1 ≤ 1)).foldl (fun t e => commit k t e.2) s
  let s2 := (results.filter fun e => e.1 == 0).foldl (fun t e => commit k t e.2) s1
  let t := s2.modCore k fun c =>
    let next := c.pc + BitVec.ofNat 16 len
    { c with
      inflight := ((l.filter fun e => decide (1 < e.1)).map fun e => (e.1 - 1, e.2)) ++ results.filter fun e => e.1 != 0
      bundle := [], rep := none, waiting := false, delay := none
      pc := match c.delay with | some d => d.1 | none => next
      rstack := match c.delay with | some (_, true) => next :: c.rstack | _ => c.rstack }
  match ctl with
  | .fall => t
  | .jump a => t.modCore k fun c => { c with delay := some (a, false) }
  | .callTo a => t.modCore k fun c => { c with delay := some (a, true) }
  | .retTo a => t.modCore k fun c =>
      let back := c.inExt && c.rstack.length == c.extDepth + 1
      { c with delay := some (a, false), rstack := c.rstack.tail, inExt := c.inExt && !back, dzt := c.dzt && !back }
  | .done => (t.drain k).modCore k fun c => { c.halt with flagOverrun := false }

/-- `m` iterations of a repeated operation (R482): each sees what the earlier ones left. -/
def iterate (k : CoreId) (b : BundleOp) : Nat → State → State → List (Nat × Effect) → Except Nat (State × List (Nat × Effect))
  | 0, _, real, acc => .ok (real, acc)
  | m + 1, view, real, acc =>
    match opRun view real k (real.board.free + m) b with
    | .error d => .error d
    | .ok (real', es, _) =>
      iterate k b m (es.foldl (fun t e => commit k t e.2) { real' with cores := view.cores, shared := view.shared, ports := view.ports })
        real' (acc ++ es)

/-- Cycles of one iteration (R474, R482). -/
def opCost (b : BundleOp) : Nat := match b.op with | .xbin o _ => if divides o then 17 else 1 | _ => 1

/-- The operation accesses a shared bit (R451). -/
def touchesShared (s : State) (k : CoreId) (b : BundleOp) : Bool := b.op.bitOpnds.any fun o => decide (256 ≤ o.bitNo s k)

/-- Clocks that an access to a shared bit waits for its grant: none while no other core runs, else at most 8, which the manual leaves to
what the other cores access in those clocks (R36, R452; free, log 72). -/
def State.arbWait (s : State) (k : CoreId) (b : BundleOp) : Nat :=
  if touchesShared s k b && (List.finRange 9).any (fun j => j != k && (s.core j).running) then (Config.freeWord s.board.free).toNat % 9 else 0

/-- Cycles left of the 1,875 of slots 1–15 (R36). -/
def frame : Nat := 1875

def BundleOp.interruptible (b : BundleOp) : Bool := match b.pre.rep with | some r => r.interruptible | none => false

/-- The repeats of a bundle from cycle `cyc` on: an interruptible one runs as far as the frame lasts; one that cannot be
interrupted runs whole, or not at all where the frame is too short (R455, R459, R460). -/
def repRun (k : CoreId) (wait : BundleOp → Nat) (len : Nat) (ctl : Ctl) : List (BundleOp × Nat) → List (Nat × Effect) → List (Nat × Effect) → Nat → State →
    Except Nat State
  | [], results, _, cyc, s => .ok ((s.modCore k fun c => { c with cycles := cyc }).finish k results ctl len)
  | (b, left) :: rest, results, mine, cyc, s =>
    let cost := opCost b + wait b
    let m := min left ((frame - cyc) / cost)
    if m < left && !b.interruptible then
      .ok (s.modCore k fun c => { c with cycles := frame, rep := some ⟨(b, left) :: rest, results, mine, ctl, len⟩ })
    else match iterate k b m (mine.foldl (fun t e => commit k t e.2) s) s [] with
      | .error d => .error d
      | .ok (t, es) =>
        if m < left then
          .ok (t.modCore k fun c => { c with cycles := frame, rep := some ⟨(b, left - m) :: rest, results, mine ++ es, ctl, len⟩ })
        else repRun k wait len ctl rest (results ++ mine ++ es) [] (cyc + m * cost) t

/-- The operations of a bundle that are not repeated, each once, with what stood at issue. -/
def runOnce (k : CoreId) (view : State) : List BundleOp → State → List (Nat × Effect) → Ctl → Except Nat OpOut
  | [], real, acc, ctl => .ok (real, acc, ctl)
  | b :: bs, real, acc, ctl =>
    match opRun view real k real.board.free b with
    | .error d => .error d
    | .ok (real', es, c) => runOnce k view bs real' (acc ++ es) (match c with | .fall => ctl | other => other)

/-- The count of a repeat at issue (R467). -/
def repCount (c : CoreSt) (r : RepPre) : Nat :=
  match r.count with
  | .inl n => n.toNat
  | .inr i => c.a[i].toNat

/-- QOPEN of a queue whose open packet another producer holds (R479). -/
def mustWait (s : State) (k : CoreId) (b : BundleOp) : Bool :=
  match b.op with
  | .qopen q => (match queueOf (q.read s k s.board.free b.pre.code 32) with
    | some i => mayPush k.val i.val && (s.pool.queues[i]).opened.isSome && !(s.pool.queues[i]).openBy k
    | none => false)
  | _ => false

def isRet (b : BundleOp) : Bool := match b.op with | .ret => true | _ => false
def isCall (b : BundleOp) : Bool := match b.op with | .call _ => true | _ => false
def isEnd (b : BundleOp) : Bool := match b.op with | .beatend => true | _ => false

/-- What makes a bundle illegal where it stands (R458, R461, R462). -/
def badPlace (c : CoreSt) (ops : List BundleOp) : Bool :=
  (c.delay.isSome && ops.any fun b => b.op.cls == .c) || (c.rstack.isEmpty && ops.any isRet)
    || (decide (0xE000 ≤ c.pc.toNat) && ops.any isEnd)

/-- The complete bundle of core `k` issues. -/
def State.issue (s : State) (k : CoreId) : State :=
  let c := s.core k
  let ops := c.bundle
  if badPlace c ops then s.trap k 1
  else if decide (32 ≤ c.rstack.length) && ops.any isCall then s.trap k 2
  else if ops.any (mustWait s k) then s.modCore k fun c => { c with waiting := true }
  else
    let once := ops.filter fun b => b.pre.rep.isNone
    let reps := ops.filterMap fun b => b.pre.rep.map fun r => (b, repCount c r)
    match runOnce k s once s [] .fall with
    | .error d => s.trap k d
    | .ok (t, es, ctl) =>
      let live := reps.filter fun e => 0 < e.2
      let extra := (once.map fun b => opCost b - 1 + s.arbWait k b).sum + (if live.isEmpty then 1 else 0)
      match repRun k (s.arbWait k) (ops.map BundleOp.len).sum ctl live es [] (c.cycles + extra) t.drawn with
      | .error d => s.trap k d
      | .ok u => if (u.core k).rep.isSome && live.any (fun e => !e.1.interruptible) then { s with cores := u.cores } else u

/-- Cores whose QOPEN waits try again at the clock that core `k` has reached: the cycles waited count (R36). -/
def State.wake (s : State) (k : CoreId) : State :=
  (List.finRange 9).foldl (fun (t : State) j =>
    if (t.core j).waiting then
      let u := t.modCore j fun c => { c with cycles := max c.cycles (s.core k).cycles }
      if (u.core j).cycles < frame then u.issue j else u
    else t) s

/-- One operation of a core's program (R456, R465, R466): it joins the open bundle, and the bundle issues with the operation
whose S bit is 1. A core that is idle, busy with a repeat, waiting or at the end of its frame issues nothing. -/
def State.operate (s : State) (k : CoreId) (h : Pre) (o : SOp) : State :=
  let c := s.core k
  if c.running && c.rep.isNone && !c.waiting && decide (c.cycles < frame) then
    let t := s.modCore k fun c => { c with bundle := c.bundle ++ [⟨h, o⟩] }
    if badBundle (t.core k).bundle then (t.trap k 1).wake k
    else if h.last then (t.issue k).wake k else t
  else s

/-! ### The beat frame (R37, R453, R460, R462) -/

/-- Beat flags 0–7 (R453). -/
def beatFlags (s : State) (c : CoreSt) : Nat :=
  bw c.flagOverrun 0 + bw c.flagTrap 1 + bw c.paused 2 + bw c.flagFirst 3 + bw s.board.holdover 4 + bw s.serviceDomain 5
    + bw c.flagExt 6

/-- A start or stop of the extension acts at beat entry (R419, R448, R460). -/
def CoreSt.extTurn (c : CoreSt) : CoreSt :=
  let inRegion := decide (0xE000 ≤ c.pc.toNat)
  let d := if c.extStop then
      { c with extState := if c.extState = 0 then 0 else 1, extStop := false
               rep := if c.paused && inRegion then none else c.rep, paused := c.paused && !inRegion }
    else c
  if d.extStart then { d with extState := 2, extStart := false, data := Memory.clear 0x6000 0x7000 d.data } else d

/-- A cluster core that resumes finds the results and the messages that came while it was stopped (R19, R20). -/
def State.resumeCore (s : State) (k : CoreId) : State :=
  if k.val < 8 then (List.range 12).foldl (fun (t : State) i => (t.resumePort (corePort k i)).served (corePort k i)) s else s

/-- The handler of core `k` begins, or a paused repeat goes on (R453, R460). -/
def State.enterBeat (s : State) (k : CoreId) : State :=
  let t := s.modCore k fun c =>
    let d := c.extTurn
    let e := { d with
      bits := (d.bits >>> 8 <<< 8) ||| BitVec.ofNat 256 (beatFlags s d), beatLat := s.now, cycles := 0, running := true
      flagTrap := false, flagFirst := false, extCalled := false }
    if e.paused then { e with paused := false }
    else { e with rstack := [], a := e.a.set 7 0x8000#16, pc := 0, bundle := [], delay := none, rep := none, waiting := false, inExt := false }
  match (t.core k).rep with
  | none => t
  | some r =>
    (match repRun k (t.arbWait k) r.len r.ctl r.reps r.results r.mine 0 t with
     | .error d => t.trap k d
     | .ok u => u.drawn)

/-- BEAT_ENTRY (R19, R453, R460): a core that a trap or an overrun had stopped finds what came meanwhile. -/
def execBeatEntry (k : CoreId) (s : State) : Host.Outcome State Fault Refusal :=
  .next (if s.coreReady k.val && !(s.core k).running && ((s.core k).beatLat != s.now || (s.core k).flagFirst) then
      if (s.core k).stopped then (s.enterBeat k).resumeCore k else s.enterBeat k
    else s)

/-- The core's repeat may pause (R460). -/
def CoreSt.pausable (c : CoreSt) : Bool :=
  match c.rep with
  | some r => (match r.reps with | e :: _ => e.1.interruptible | [] => false)
  | none => false

/-- BEAT_OVERRUN (R37, R455): a core without BEATEND by the end of slot 15 is stopped. -/
def execBeatOverrun (k : CoreId) (s : State) : Host.Outcome State Fault Refusal :=
  .next (if (s.core k).running && !(s.core k).pausable then
      let t := (s.drain k).modCore k fun c =>
        { ({ c with cycles := frame }).halt with trapAddr := c.pc, flagOverrun := true, overruns := satIncr c.overruns }
      t.raise (devRaise (192 + k.val) 0 0)
    else s)

/-- REPEAT_PAUSE (R460): the interruptible repeat keeps its state until the next beat entry. -/
def execRepeatPause (k : CoreId) (s : State) : Host.Outcome State Fault Refusal :=
  .next (if (s.core k).running && (s.core k).pausable then
      s.modCore k fun c => { c with running := false, paused := true, worst := max c.worst c.cycles }
    else s)

/-- EXTENSION_CALL (R462, R464): once a beat, after the firmware's own work, while EXT_STATE is running. -/
def execExtensionCall (k : CoreId) (s : State) : Host.Outcome State Fault Refusal :=
  .next (let c := s.core k
    if c.running && c.extState == 2 && !c.extCalled && c.rep.isNone && !c.waiting && c.bundle.isEmpty && c.delay.isNone
        && decide (c.pc.toNat < 0xE000) && decide (c.rstack.length ≤ 7) then
      let t := s.drain k
      t.modCore k fun c =>
        { c with extLeft := frame - c.cycles, a := c.a.set 0 (BitVec.ofNat 16 (frame - c.cycles)), dzt := bit1 c.extCfg 0
                 rstack := c.pc :: c.rstack, extDepth := c.rstack.length, inExt := true, extCalled := true, pc := 0xE000 }
    else s)

/-- ILLEGAL_OPERATION (R461, R484): an encoding that no operation spells. -/
def execIllegalOperation (k : CoreId) (_why : IllegalWhy) (s : State) : Host.Outcome State Fault Refusal :=
  .next (if (s.core k).running && (s.core k).rep.isNone && !(s.core k).waiting && decide ((s.core k).cycles < frame) then
      (s.trap k 1).wake k
    else s)

end Sys2Proof.Machine
end

