-- ==== Sys2Proof/Machine/SorrelB.lean ====
section
/-! DEFINITION. The B operations of a Sorrel core (R477). -/

namespace Sys2Proof.Machine

/-- SET (R477): b ← 1. -/
def execSet (k : CoreId) (h : Pre) (b : Opnd) (s : State) : Host.Outcome State Fault Refusal := .next (s.operate k h (.set b))

/-- CLR (R477): b ← 0. -/
def execClr (k : CoreId) (h : Pre) (b : Opnd) (s : State) : Host.Outcome State Fault Refusal := .next (s.operate k h (.clr b))

/-- INV (R477): b ← NOT b. -/
def execInv (k : CoreId) (h : Pre) (b : Opnd) (s : State) : Host.Outcome State Fault Refusal := .next (s.operate k h (.inv b))

/-- TSET (R452, R477): C ← b, then b ← 1. -/
def execTset (k : CoreId) (h : Pre) (b : Opnd) (s : State) : Host.Outcome State Fault Refusal := .next (s.operate k h (.tset b))

/-- BTST (R477): C ← b. -/
def execBtst (k : CoreId) (h : Pre) (b : Opnd) (s : State) : Host.Outcome State Fault Refusal := .next (s.operate k h (.btst b))

/-- BST (R477): b ← C. -/
def execBst (k : CoreId) (h : Pre) (b : Opnd) (s : State) : Host.Outcome State Fault Refusal := .next (s.operate k h (.bst b))

/-- BMOV (R477): bd ← bs. -/
def execBmov (k : CoreId) (h : Pre) (d b : Opnd) (s : State) : Host.Outcome State Fault Refusal := .next (s.operate k h (.bmov d b))

end Sys2Proof.Machine
end

