-- ==== Sys2Proof/Machine/SorrelC.lean ====
section
/-! DEFINITION. The C operations of a Sorrel core (R481). -/

namespace Sys2Proof.Machine

/-- BR (R481): branches always. -/
def execBr (k : CoreId) (h : Pre) (t : Opnd) (s : State) : Host.Outcome State Fault Refusal := .next (s.operate k h (.branch .always t))

/-- BZ (R481): branches when Z = 1. -/
def execBz (k : CoreId) (h : Pre) (t : Opnd) (s : State) : Host.Outcome State Fault Refusal := .next (s.operate k h (.branch .z t))

/-- BNZ (R481): branches when Z = 0. -/
def execBnz (k : CoreId) (h : Pre) (t : Opnd) (s : State) : Host.Outcome State Fault Refusal := .next (s.operate k h (.branch .nz t))

/-- BC (R481): branches when C = 1. -/
def execBc (k : CoreId) (h : Pre) (t : Opnd) (s : State) : Host.Outcome State Fault Refusal := .next (s.operate k h (.branch .c t))

/-- BNC (R481): branches when C = 0. -/
def execBnc (k : CoreId) (h : Pre) (t : Opnd) (s : State) : Host.Outcome State Fault Refusal := .next (s.operate k h (.branch .nc t))

/-- BN (R481): branches when N = 1. -/
def execBn (k : CoreId) (h : Pre) (t : Opnd) (s : State) : Host.Outcome State Fault Refusal := .next (s.operate k h (.branch .n t))

/-- BNN (R481): branches when N = 0. -/
def execBnn (k : CoreId) (h : Pre) (t : Opnd) (s : State) : Host.Outcome State Fault Refusal := .next (s.operate k h (.branch .nn t))

/-- BV (R481): branches when V = 1. -/
def execBv (k : CoreId) (h : Pre) (t : Opnd) (s : State) : Host.Outcome State Fault Refusal := .next (s.operate k h (.branch .v t))

/-- BNV (R481): branches when V = 0. -/
def execBnv (k : CoreId) (h : Pre) (t : Opnd) (s : State) : Host.Outcome State Fault Refusal := .next (s.operate k h (.branch .nv t))

/-- BSLT (R481): branches when N ≠ V. -/
def execBslt (k : CoreId) (h : Pre) (t : Opnd) (s : State) : Host.Outcome State Fault Refusal := .next (s.operate k h (.branch .slt t))

/-- BSGE (R481): branches when N = V. -/
def execBsge (k : CoreId) (h : Pre) (t : Opnd) (s : State) : Host.Outcome State Fault Refusal := .next (s.operate k h (.branch .sge t))

/-- BSLE (R481): branches when Z = 1 or N ≠ V. -/
def execBsle (k : CoreId) (h : Pre) (t : Opnd) (s : State) : Host.Outcome State Fault Refusal := .next (s.operate k h (.branch .sle t))

/-- BSGT (R481): branches when Z = 0 and N = V. -/
def execBsgt (k : CoreId) (h : Pre) (t : Opnd) (s : State) : Host.Outcome State Fault Refusal := .next (s.operate k h (.branch .sgt t))

/-- BULE (R481): branches when C = 1 or Z = 1. -/
def execBule (k : CoreId) (h : Pre) (t : Opnd) (s : State) : Host.Outcome State Fault Refusal := .next (s.operate k h (.branch .ule t))

/-- BUGT (R481): branches when C = 0 and Z = 0. -/
def execBugt (k : CoreId) (h : Pre) (t : Opnd) (s : State) : Host.Outcome State Fault Refusal := .next (s.operate k h (.branch .ugt t))

/-- BB1 (R481): branches when the bit is 1. -/
def execBb1 (k : CoreId) (h : Pre) (b t : Opnd) (s : State) : Host.Outcome State Fault Refusal := .next (s.operate k h (.branchBit true b t))

/-- BB0 (R481): branches when the bit is 0. -/
def execBb0 (k : CoreId) (h : Pre) (b t : Opnd) (s : State) : Host.Outcome State Fault Refusal := .next (s.operate k h (.branchBit false b t))

/-- LOOP (R481): An ← An − 1; branches when the new value is not 0. -/
def execLoop (k : CoreId) (h : Pre) (r t : Opnd) (s : State) : Host.Outcome State Fault Refusal := .next (s.operate k h (.loop r t))

/-- CALL (R458, R481). -/
def execCall (k : CoreId) (h : Pre) (t : Opnd) (s : State) : Host.Outcome State Fault Refusal := .next (s.operate k h (.call t))

/-- RET (R458, R481). -/
def execRet (k : CoreId) (h : Pre) (s : State) : Host.Outcome State Fault Refusal := .next (s.operate k h .ret)

/-- BEATEND (R454, R481): ends the handler. -/
def execBeatend (k : CoreId) (h : Pre) (s : State) : Host.Outcome State Fault Refusal := .next (s.operate k h .beatend)

end Sys2Proof.Machine
end

