-- ==== Sys2Proof/Machine/SorrelM.lean ====
section
/-! DEFINITION. The M operations of a Sorrel core (R478–R480). -/

namespace Sys2Proof.Machine

/-- MOV (R478). -/
def execMov (k : CoreId) (h : Pre) (d x : Opnd) (s : State) : Host.Outcome State Fault Refusal := .next (s.operate k h (.mov d x))

/-- MOVZ (R478): zero-extended from the prefix width. -/
def execMovz (k : CoreId) (h : Pre) (d x : Opnd) (s : State) : Host.Outcome State Fault Refusal := .next (s.operate k h (.movz d x))

/-- MOVS (R478): sign-extended from the prefix width. -/
def execMovs (k : CoreId) (h : Pre) (d x : Opnd) (s : State) : Host.Outcome State Fault Refusal := .next (s.operate k h (.movs d x))

/-- LEA (R478): the address of s. -/
def execLea (k : CoreId) (h : Pre) (d x : Opnd) (s : State) : Host.Outcome State Fault Refusal := .next (s.operate k h (.lea d x))

/-- PUSH (R478): A7 ← A7 − 4; the word at A7 ← s. -/
def execPush (k : CoreId) (h : Pre) (x : Opnd) (s : State) : Host.Outcome State Fault Refusal := .next (s.operate k h (.push x))

/-- POP (R478): d ← the word at A7; A7 ← A7 + 4. -/
def execPop (k : CoreId) (h : Pre) (d : Opnd) (s : State) : Host.Outcome State Fault Refusal := .next (s.operate k h (.pop d))

/-- NOP (R478): no effect. -/
def execNop (k : CoreId) (h : Pre) (s : State) : Host.Outcome State Fault Refusal := .next (s.operate k h .nop)

/-- QOPEN (R479): opens a packet. -/
def execQopen (k : CoreId) (h : Pre) (q : Opnd) (s : State) : Host.Outcome State Fault Refusal := .next (s.operate k h (.qopen q))

/-- QPUSH (R479): four bytes into the open packet. -/
def execQpush (k : CoreId) (h : Pre) (q x : Opnd) (s : State) : Host.Outcome State Fault Refusal := .next (s.operate k h (.qpush q x))

/-- QEND (R479): the last bytes, and the close. -/
def execQend (k : CoreId) (h : Pre) (q x n : Opnd) (s : State) : Host.Outcome State Fault Refusal := .next (s.operate k h (.qend q x n))

/-- QABORT (R479): the open packet is aborted. -/
def execQabort (k : CoreId) (h : Pre) (q : Opnd) (s : State) : Host.Outcome State Fault Refusal := .next (s.operate k h (.qabort q))

/-- QPOP (R432, R479): one word of the head packet. -/
def execQpop (k : CoreId) (h : Pre) (d q : Opnd) (obs : CellObs) (s : State) : Host.Outcome State Fault Refusal := .next (s.operate k h (.qpop d q obs))

end Sys2Proof.Machine
end

