-- ==== Sys2Proof/Machine/SorrelX.lean ====
section
/-! DEFINITION. The X operations of a Sorrel core (R473–R476). -/

namespace Sys2Proof.Machine

/-- ADD (R473): a + b; C carry out, V signed overflow. -/
def execAdd (k : CoreId) (h : Pre) (f : XForm) (s : State) : Host.Outcome State Fault Refusal := .next (s.operate k h (.xbin .add f))

/-- ADC (R473): a + b + C; C carry out, V signed overflow. -/
def execAdc (k : CoreId) (h : Pre) (f : XForm) (s : State) : Host.Outcome State Fault Refusal := .next (s.operate k h (.xbin .adc f))

/-- SUB (R473): a − b; C borrow, V signed overflow. -/
def execSub (k : CoreId) (h : Pre) (f : XForm) (s : State) : Host.Outcome State Fault Refusal := .next (s.operate k h (.xbin .sub f))

/-- SBC (R473): a − b − C; C borrow, V signed overflow. -/
def execSbc (k : CoreId) (h : Pre) (f : XForm) (s : State) : Host.Outcome State Fault Refusal := .next (s.operate k h (.xbin .sbc f))

/-- AND (R473): a AND b. -/
def execAnd (k : CoreId) (h : Pre) (f : XForm) (s : State) : Host.Outcome State Fault Refusal := .next (s.operate k h (.xbin .and f))

/-- OR (R473): a OR b. -/
def execOr (k : CoreId) (h : Pre) (f : XForm) (s : State) : Host.Outcome State Fault Refusal := .next (s.operate k h (.xbin .or f))

/-- XOR (R473): a XOR b. -/
def execXor (k : CoreId) (h : Pre) (f : XForm) (s : State) : Host.Outcome State Fault Refusal := .next (s.operate k h (.xbin .xor f))

/-- ANDN (R473): a AND NOT b. -/
def execAndn (k : CoreId) (h : Pre) (f : XForm) (s : State) : Host.Outcome State Fault Refusal := .next (s.operate k h (.xbin .andn f))

/-- SHL (R473): a shifted left by b (R475). -/
def execShl (k : CoreId) (h : Pre) (f : XForm) (s : State) : Host.Outcome State Fault Refusal := .next (s.operate k h (.xbin .shl f))

/-- SHR (R473): a shifted right by b, zero fill (R475). -/
def execShr (k : CoreId) (h : Pre) (f : XForm) (s : State) : Host.Outcome State Fault Refusal := .next (s.operate k h (.xbin .shr f))

/-- SAR (R473): a shifted right by b, sign fill (R475). -/
def execSar (k : CoreId) (h : Pre) (f : XForm) (s : State) : Host.Outcome State Fault Refusal := .next (s.operate k h (.xbin .sar f))

/-- ROL (R473): a rotated left by b (R475). -/
def execRol (k : CoreId) (h : Pre) (f : XForm) (s : State) : Host.Outcome State Fault Refusal := .next (s.operate k h (.xbin .rol f))

/-- ROR (R473): a rotated right by b (R475). -/
def execRor (k : CoreId) (h : Pre) (f : XForm) (s : State) : Host.Outcome State Fault Refusal := .next (s.operate k h (.xbin .ror f))

/-- MUL (R473): low w bits of a × b; C and V where the unsigned or signed product exceeds w bits. -/
def execMul (k : CoreId) (h : Pre) (f : XForm) (s : State) : Host.Outcome State Fault Refusal := .next (s.operate k h (.xbin .mul f))

/-- MULH (R473): high w bits of the signed product. -/
def execMulh (k : CoreId) (h : Pre) (f : XForm) (s : State) : Host.Outcome State Fault Refusal := .next (s.operate k h (.xbin .mulh f))

/-- MULHU (R473): high w bits of the unsigned product. -/
def execMulhu (k : CoreId) (h : Pre) (f : XForm) (s : State) : Host.Outcome State Fault Refusal := .next (s.operate k h (.xbin .mulhu f))

/-- DIV (R473): signed quotient, truncated toward zero (R474, R476). -/
def execDiv (k : CoreId) (h : Pre) (f : XForm) (s : State) : Host.Outcome State Fault Refusal := .next (s.operate k h (.xbin .div f))

/-- DIVU (R473): unsigned quotient (R474, R476). -/
def execDivu (k : CoreId) (h : Pre) (f : XForm) (s : State) : Host.Outcome State Fault Refusal := .next (s.operate k h (.xbin .divu f))

/-- REM (R473): signed remainder with the sign of a (R474, R476). -/
def execRem (k : CoreId) (h : Pre) (f : XForm) (s : State) : Host.Outcome State Fault Refusal := .next (s.operate k h (.xbin .rem f))

/-- REMU (R473): unsigned remainder (R474, R476). -/
def execRemu (k : CoreId) (h : Pre) (f : XForm) (s : State) : Host.Outcome State Fault Refusal := .next (s.operate k h (.xbin .remu f))

/-- NEG (R473): 0 − s; C where s ≠ 0, V where s = MIN. -/
def execNeg (k : CoreId) (h : Pre) (d x : Opnd) (s : State) : Host.Outcome State Fault Refusal := .next (s.operate k h (.xun .neg d x))

/-- NOT (R473). -/
def execNot (k : CoreId) (h : Pre) (d x : Opnd) (s : State) : Host.Outcome State Fault Refusal := .next (s.operate k h (.xun .not d x))

/-- CMP (R473): flags as SUB, no result. -/
def execCmp (k : CoreId) (h : Pre) (x y : Opnd) (s : State) : Host.Outcome State Fault Refusal := .next (s.operate k h (.cmp x y))

/-- TST (R473): flags as AND, no result. -/
def execTst (k : CoreId) (h : Pre) (x y : Opnd) (s : State) : Host.Outcome State Fault Refusal := .next (s.operate k h (.tst x y))

/-- MIN (R473): signed minimum. -/
def execMin (k : CoreId) (h : Pre) (d x y : Opnd) (s : State) : Host.Outcome State Fault Refusal := .next (s.operate k h (.xbin .min (.three d x y)))

/-- MAX (R473): signed maximum. -/
def execMax (k : CoreId) (h : Pre) (d x y : Opnd) (s : State) : Host.Outcome State Fault Refusal := .next (s.operate k h (.xbin .max (.three d x y)))

/-- ABS (R473): MIN gives MIN with V. -/
def execAbs (k : CoreId) (h : Pre) (d x : Opnd) (s : State) : Host.Outcome State Fault Refusal := .next (s.operate k h (.xun .abs d x))

/-- CLZ (R473): leading zeros; C where s = 0, N 0. -/
def execClz (k : CoreId) (h : Pre) (d x : Opnd) (s : State) : Host.Outcome State Fault Refusal := .next (s.operate k h (.xun .clz d x))

end Sys2Proof.Machine
end

