-- ==== Sys2Proof/Machine/UnitCmds.lean ====
section
/-! DEFINITION. Commands of the stages, guards, budget, feeds, fault collector and logs (R277, R278, R299, R305, R309, R310, R322, R323,
R331, R339, R356–R360, R414). -/

namespace Sys2Proof.Machine

/-! ### STAGE_CONFIG, STAGE_STATUS, GUARD_CONFIG (R277, R278, R299) -/

def Cmd.coefs (c : Cmd) : Vector Word 8 := Vector.ofFn fun i => c.w (4 + 4 * i.val)

/-- Bits [31:24] repeat bit 23 (R277). -/
def signExtended (w : Word) : Bool := fld w 24 8 == (if bit1 w 23 then 0xFF else 0)

/-- STAGE_CONFIG (R277): the set acts at the next slot 0. -/
def runStageConfig (c : Cmd) (_ : State) : Act :=
  if 1 < c.b 0 || !c.coefs.toList.all signExtended then .refuse .range
  else
    let named (p : PortId) : Bool := p == c.port || (c.b 0 == 1 && clusterOf p == clusterOf c.port)
    .ok fun t => t.mapPorts fun p x => if named p then { x with cfg := { x.cfg with coefNext := some c.coefs } } else x

def execStageConfig (st : Stream) (s : State) : Host.Outcome State Fault Refusal := .next (s.serve st 0x58 anySub runStageConfig)

/-- STAGE_STATUS (R278). -/
def execStageStatus (st : Stream) (s : State) : Host.Outcome State Fault Refusal :=
  .next (s.serve st 0x59 anySub fun c t => .give (t.stageStatusBytes c.port))

/-- GUARD_CONFIG (R299): validated whole, in force from the next slot 0. -/
def runGuardConfig (c : Cmd) (s : State) : Act :=
  let ids := (List.range 8).map fun i => (0x1070 + i, c.w (4 * i))
  if !ids.all (fun e => match specOf e.1 with | some sp => fieldsOk e.2 sp.fields | none => false) then .refuse .range
  else if s.writeBlocked c.port 0x1072 (c.w 8) then .refuse .state
  else .ok fun t => t.modPort c.port fun x => { x with cfg := { x.cfg with guardNext := some (Vector.ofFn fun i => c.w (4 * i.val)) } }

def execGuardConfig (st : Stream) (s : State) : Host.Outcome State Fault Refusal := .next (s.serve st 0x5A anySub runGuardConfig)

/-! ### Budget (R322, R323, R331, R339) -/

/-- BUDGET_SET (R322): 0 withdraws the host value. -/
def runBudgetSet (c : Cmd) (_ : State) : Act :=
  .ok fun t => ((t.modBudget fun b => { b with hostB := if c.h 0 = 0 then none else some (c.h 0) }).budgetReady).wantAllocation

def execBudgetSet (st : Stream) (s : State) : Host.Outcome State Fault Refusal := .next (s.serve st 0x50 anySub runBudgetSet)

/-- BUDGET_STATUS (R323). -/
def execBudgetStatus (st : Stream) (s : State) : Host.Outcome State Fault Refusal :=
  .next (s.serve st 0x51 anySub fun _ t => .give t.budgetStatusBytes)

/-- BUDGET_GROUP_CONFIG (R331, R339): GROUP and ROOT_EL, then GROUP_BUDGET. -/
def runBudgetGroupConfig (c : Cmd) (_ : State) : Act :=
  if 0xFFFFFF < (c.w 4).toNat then .refuse .range
  else .ok fun t => (t.modYarrow fun w => { w with groupB := c.w 4 }).putGroup (BitVec.ofNat 32 (c.b 0 + c.b 1 % 2 * 256))

def execBudgetGroupConfig (st : Stream) (s : State) : Host.Outcome State Fault Refusal := .next (s.serve st 0x52 anySub runBudgetGroupConfig)

/-! ### Feeds (R305, R308–R310) -/

/-- The relations of FEED.UV and FEED.OV (R308). -/
def feedRelations (w : Vector Word 6) : Bool :=
  decide (fld w[0] 0 10 + 5 ≤ fld w[0] 16 10) && decide (fld w[0] 16 10 + 10 ≤ fld w[1] 16 10) && decide (fld w[1] 16 10 + 5 ≤ fld w[1] 0 10)

/-- Every cross-field range of the working set (R308, R309). -/
def FeedCfg.ok (f : FeedCfg) : Bool :=
  let enter := fld f.brownout 0 10
  let from_ := if enter = 0 then max (fld f.a[0] 16 10) (fld f.b[0] 16 10) + 20 else enter
  feedRelations f.a && feedRelations f.b && (fld f.brownout 16 10 == 0 || decide (from_ + 5 ≤ fld f.brownout 16 10))

/-- RELEASE (R305): a LATCHED feed goes to OFF, and its changeover no longer keeps the other gate off. -/
def State.releaseFeed (s : State) (f : Feed) (on : Bool) : State :=
  if on then s.modFeed fun d => d.modFeedSt f fun g => { g with st := if g.st == .latched then .off else g.st, stuck := false } else s

/-- FEED_CONFIG (R309). -/
def runFeedConfig (c : Cmd) (s : State) : Act :=
  let bit (i : Nat) : Bool := c.b 0 / 2 ^ i % 2 == 1
  if bit 0 && !s.feed.work.ok then .refuse .range
  else .ok fun t => ((if bit 0 then t.sendFeedSet else t).releaseFeed .a (bit 1)).releaseFeed .b (bit 2)

/-- FEED_CONFIG_APPLY (R309). -/
def execFeedConfigApply (st : Stream) (s : State) : Host.Outcome State Fault Refusal := .next (s.serve st 0x5B (subBit 0) runFeedConfig)
/-- FEED_RELEASE_A (R305, R309). -/
def execFeedReleaseA (st : Stream) (s : State) : Host.Outcome State Fault Refusal := .next (s.serve st 0x5B (subBit 1) runFeedConfig)
/-- FEED_RELEASE_B (R305, R309). -/
def execFeedReleaseB (st : Stream) (s : State) : Host.Outcome State Fault Refusal := .next (s.serve st 0x5B (subBit 2) runFeedConfig)

/-- FEED_STATUS (R310). -/
def execFeedStatus (st : Stream) (s : State) : Host.Outcome State Fault Refusal :=
  .next (s.serve st 0x5C anySub fun _ t => .give t.feed.statusBytes)

/-! ### FAULT_STATUS and FAULT_CLEAR (R355–R357) -/

/-- FAULT_STATUS's payload (R357). -/
def State.faultStatusBytes (s : State) : List Byte :=
  let g := s.faults
  (match g.latch with
    | some l =>
      leBytes 1 (1 + bw l.overflow 1 + bw l.raise.forced 2 + bw g.hold 3 + 16) ++ leBytes 1 l.raise.src ++ leBytes 1 (l.sev % 4 + l.reaction % 4 * 4)
        ++ [0] ++ wordBytes (causeWord l.raise) ++ beatBytes l.beat ++ u16 l.ovf
    | none => leBytes 1 (bw g.hold 3) ++ zeros 15)
    ++ s.activeBytes ++ s.raisedBytes ++ leBytes 32 g.force.toNat

def execFaultStatus (st : Stream) (s : State) : Host.Outcome State Fault Refusal :=
  .next (s.serve st 0x60 anySub fun _ t => .give t.faultStatusBytes)

/-- The lowest source of severity 2 or 3 that is ACTIVE (R356). -/
def State.holder (s : State) : Option Nat := (List.range 256).find? fun n => decide (2 ≤ s.sevOf n) && active s n

/-- The latch is released with the hold: the exit timers of R350 are armed in this slot, with COOL where a guard trip calls for it (R293). -/
def State.releaseLatch (s : State) : State :=
  let t := s.modFaults fun g => { g with latch := none, window := false, hold := false }
  if s.faults.hold then
    t.mapPorts fun _ x => if x.tc.st == .errorRecovery && x.use tCc == .idle then x.arm tCc .errorRecovery (if x.tc.tripWait then max x.tErr x.cool else x.tErr) else x
  else t

/-- FAULT_CLEAR (R356). -/
def runFaultClear (c : Cmd) (s : State) : Act :=
  let bit (i : Nat) : Bool := c.b 0 / 2 ^ i % 2 == 1
  let eff (t : State) : State :=
    let a := if bit 0 then t.releaseLatch else t
    a.modFaults fun g => { g with
      raised := if bit 1 then 0 else g.raised
      log := if bit 2 then [] else g.log, logFirst := if bit 2 then g.logFirst + g.log.length else g.logFirst }
  match (if bit 0 then s.holder else none) with
  | some n => .refuse ⟨0x8B, leBytes 1 n ++ [0, 0, 0]⟩
  | none => .ok eff

/-- FAULT_CLEAR_LATCH (R350, R355, R356). -/
def execFaultClearLatch (st : Stream) (s : State) : Host.Outcome State Fault Refusal := .next (s.serve st 0x61 (subBit 0) runFaultClear)
/-- FAULT_CLEAR_RAISED (R356). -/
def execFaultClearRaised (st : Stream) (s : State) : Host.Outcome State Fault Refusal := .next (s.serve st 0x61 (subBit 1) runFaultClear)
/-- FAULT_CLEAR_LOG (R356). -/
def execFaultClearLog (st : Stream) (s : State) : Host.Outcome State Fault Refusal := .next (s.serve st 0x61 (subBit 2) runFaultClear)

/-! ### FAULT_SEVERITY and FAULT_FORCE (R358, R359) -/

/-- FAULT_SEVERITY, whose OP names the row (R358). -/
def runFaultSeverity (c : Cmd) (s : State) : Act :=
  let first := c.b 0
  let n := c.h 2
  let sev (i : Nat) : Nat := c.b (4 + i)
  if 1 < c.b 1 ∨ n = 0 ∨ 256 < first + n then .refuse .range
  else if c.b 1 = 0 then
    .give (c.payload.take 4 ++ ((s.faults.sevWork.toList.drop first).take n).map fun v => BitVec.ofNat 8 v.toNat)
  else if !(List.range n).all (fun i => decide (sev i ≤ 3) && sevOk (first + i) (sev i)) then .refuse .range
  else .ok fun t =>
    let v := (List.range n).foldl (fun (v : Vector (BitVec 2) 256) i => v.setIfInBounds (first + i) (BitVec.ofNat 2 (sev i))) t.faults.sevWork
    t.modFaults fun g => { g with sevNext := some v }

/-- FAULT_SEVERITY_READ (R358). -/
def execFaultSeverityRead (st : Stream) (s : State) : Host.Outcome State Fault Refusal := .next (s.serve st 0x62 (subAt 1 [0, 1] 0) runFaultSeverity)
/-- FAULT_SEVERITY_WRITE (R358). -/
def execFaultSeverityWrite (st : Stream) (s : State) : Host.Outcome State Fault Refusal :=
  .next (s.serve st 0x62 (subAt 1 [0, 1] 1) runFaultSeverity)

/-- A CODE that FAULT_FORCE admits for a source (R344, R359). -/
def forceCodeOk (n code : Nat) : Bool := if (sourcePort n).isSome then decide (1 ≤ code) && decide (code ≤ 23) else code == 0

/-- FAULT_FORCE, whose FORCE names the row (R359): setting a clear bit raises the source at the next slot 0. -/
def runFaultForce (c : Cmd) (s : State) : Act :=
  let n := c.b 0
  let r : Raise := { src := n, code := c.b 2, detail := c.b 3, extra := 0, forced := true, deferred := false }
  if reservedSource n || !forceCodeOk n (c.b 2) || decide (1 < c.b 1) then .refuse .range
  else if c.b 1 = 0 then .ok fun t => t.modFaults fun g => { g with force := g.force &&& ~~~ BitVec.twoPow 256 n }
  else if s.faults.force.getLsbD n then .ok id
  else .ok fun t => t.modFaults fun g => { g with force := setBit256 g.force n, forceDue := g.forceDue ++ [r] }

/-- FAULT_FORCE_SET (R345, R359). -/
def execFaultForceSet (st : Stream) (s : State) : Host.Outcome State Fault Refusal := .next (s.serve st 0x63 (subAt 1 [1, 0] 1) runFaultForce)
/-- FAULT_FORCE_CLEAR (R359). -/
def execFaultForceClear (st : Stream) (s : State) : Host.Outcome State Fault Refusal := .next (s.serve st 0x63 (subAt 1 [1, 0] 0) runFaultForce)

/-! ### LOG_READ (R279, R360, R361, R414) -/

/-- The reply's head: SRC, N, FIRST, NEXT, LOST. -/
def logHead (src n : Nat) (first next : Word) (lost : Nat) : List Byte :=
  leBytes 1 src ++ leBytes 1 n ++ [0, 0] ++ wordBytes first ++ wordBytes next ++ u32 lost

/-- The stage log of a cluster after up to `n` records have been popped. -/
def popLog (q : QueueId) : Nat → Pool → Pool
  | 0, m => m
  | n + 1, m => popLog q n (m.pop q)

/-- A snapshot placed by falling SNAP_SEQ. -/
def insertSnap (e : Nat × Nat) : List (Nat × Nat) → List (Nat × Nat)
  | [] => [e]
  | x :: xs => if x.1 ≤ e.1 then e :: x :: xs else x :: insertSnap e xs

/-- S8 reads records off a stage log: those that their cells show unsound are dropped and report it (R25, R437–R439). -/
def State.readLog (q : QueueId) (ks : List Packet) (s : State) : State :=
  ks.foldl (fun (t : State) k => t.found q k.flaw) (s.modPool (popLog q ks.length))

/-- LOG_READ, whose SRC names the row (R414). A snapshot's reply holds at most the 4,080 bytes that fit its payload (R430, log 94). Outside the fault log the manual gives FIRST and NEXT no value, nor N for bytes of a
snapshot: they are free (log 33). -/
def runLogRead (c : Cmd) (s : State) : Act :=
  let src := c.b 0
  let n := c.h 2
  let pos := (c.w 4).toNat
  let off := (c.w 8).toNat
  let f (i : Nat) : Word := Config.freeWord (s.board.free + i)
  if 3 < src then .refuse .range
  else if (if src = 1 then decide (7 < c.b 1) else c.b 1 != 0) then .refuse .range
  else if src = 3 then
    (if n < 4 ∨ 4096 < n ∨ n % 4 ≠ 0 ∨ off % 4 ≠ 0 ∨ 4096 < off + n then .refuse .range
     else match s.store.snaps.find? fun e => e.1 == pos with
       | none => .refuse .range
       | some e => .answer 0 (logHead 3 ((f 0).toNat % 256) (f 1) (f 2) 0 ++ s.store.flash.readN erased (snapBase + 4096 * e.2 + off) (min n 4080))
           fun t => t.drawn.drawn.drawn)
  else if n = 0 ∨ 255 < n ∨ off ≠ 0 ∨ (src ≠ 0 ∧ pos ≠ 0) then .refuse .range
  else if src = 0 then
    let start := max pos s.faults.logFirst
    let recs := (s.faults.log.drop (start - s.faults.logFirst)).take n
    .give (logHead 0 recs.length (BitVec.ofNat 32 start) (BitVec.ofNat 32 (start + recs.length)) (start - pos) ++ recs.flatMap recBytes)
  else if src = 1 then
    let q := qLog ⟨c.b 1 % 8, Nat.mod_lt _ (by decide)⟩
    let taken := if (s.pool.queues[q]).quarantine then [] else (s.pool.queues[q]).closed.take n
    let data := (taken.filter fun k => !k.bad).flatMap fun k => k.data
    .answer 0 (logHead 1 (data.length / 16) (f 0) (f 1) 0 ++ data) fun t => (t.readLog q taken).drawn.drawn
  else
    let es := (s.store.snaps.foldr insertSnap []).take n
    .answer 0 (logHead 2 es.length (f 0) (f 1) 0 ++ es.flatMap fun e => u32 e.1 ++ leBytes 1 e.2 ++ [1, 0, 0]) fun t => t.drawn.drawn

/-- LOG_READ_FAULT (R360, R414). -/
def execLogReadFault (st : Stream) (s : State) : Host.Outcome State Fault Refusal := .next (s.serve st 0x68 (subAt 0 [0, 1, 2, 3] 0) runLogRead)
/-- LOG_READ_STAGE (R279, R414). -/
def execLogReadStage (st : Stream) (s : State) : Host.Outcome State Fault Refusal := .next (s.serve st 0x68 (subAt 0 [0, 1, 2, 3] 1) runLogRead)
/-- LOG_READ_SNAPSHOT_LIST (R361, R414). -/
def execLogReadSnapshotList (st : Stream) (s : State) : Host.Outcome State Fault Refusal :=
  .next (s.serve st 0x68 (subAt 0 [0, 1, 2, 3] 2) runLogRead)
/-- LOG_READ_SNAPSHOT (R361, R414). -/
def execLogReadSnapshot (st : Stream) (s : State) : Host.Outcome State Fault Refusal := .next (s.serve st 0x68 (subAt 0 [0, 1, 2, 3] 3) runLogRead)

end Sys2Proof.Machine
end

