-- ==== Sys2Proof/Machine/StoreCmds.lean ====
section
/-! DEFINITION. Image, Sorrel and Yarrow commands (R84–R87, R332, R340, R341, R393, R402, R417–R419). -/

namespace Sys2Proof.Machine

/-! ### IMAGE_BEGIN (R86, R417) -/

/-- The journal offset of the inactive slot (R84). -/
def State.journalAt (s : State) : Option Nat :=
  match s.store.journal with
  | some (b, n) => if b == s.idleSlot then some n else none
  | none => none

/-- The inactive slot is about to change: its verdict goes (R417, R418). -/
def Store.touch (t : Store) (b : Bool) : Store :=
  if b then { t with verified := none, okB := false, badB := false } else { t with verified := none, okA := false, badA := false }

/-- IMAGE_BEGIN, whose MODE names the row (R402, R417). -/
def runImageBegin (c : Cmd) (s : State) : Act :=
  if 1 < c.b 0 then .refuse .range
  else if s.store.op.isSome then .refuse .busy
  else if c.b 0 = 0 then
    .accepted fun t => t.modStore fun r => { r.touch t.idleSlot with journal := none, op := some (.erase c.tag c.stream) }
  else match s.journalAt with
    | none => .refuse .state
    | some n => .answer 0 (u32 n) fun t => t.modStore fun r => { r with verified := none }

/-- IMAGE_BEGIN_NEW (R417). -/
def execImageBeginNew (st : Stream) (s : State) : Host.Outcome State Fault Refusal := .next (s.serve st 0x80 (subAt 0 [0, 1] 0) runImageBegin)
/-- IMAGE_BEGIN_RESUME (R86). -/
def execImageBeginResume (st : Stream) (s : State) : Host.Outcome State Fault Refusal := .next (s.serve st 0x80 (subAt 0 [0, 1] 1) runImageBegin)

/-- IMAGE_ERASE_COMPLETE (R394, R417): the slot is erased and recorded so, or the erase fails with TIMEOUT. -/
def execImageEraseComplete (ok : Bool) (s : State) : Host.Outcome State Fault Refusal :=
  .next (match s.store.op with
    | some (.erase tag st) =>
      let b := s.idleSlot
      if !s.storeRuns then s
      else if ok then
        (s.modStore fun t => { t with flash := t.flash.clear (slotBase b) (slotBase b + slotSize), journal := some (b, 0), op := none }).complete
          st 0x80 tag.toNat 0 0 0x7F []
      else
        ((s.modStore fun t => { t with flash := t.flash.tornErase s.board.free b, op := none }).drawn).complete st 0x80 tag.toNat 0x8A 0 0x7F []
    | _ => s)

/-! ### IMAGE_DATA (R84) -/

def Cmd.segment (c : Cmd) : List Byte := c.payload.drop 4

/-- The segment places 0xFF at 0xFFC–0xFFF (R84). -/
def Cmd.commitClear (c : Cmd) : Bool :=
  let off := (c.w 0).toNat
  (List.range 4).all fun i => !(decide (off ≤ 0xFFC + i) && decide (0xFFC + i < off + c.segment.length))
    || c.segment.getD (0xFFC + i - off) 0 == 0xFF#8

/-- IMAGE_DATA (R84, R402): the reply follows the read-back. -/
def runImageData (c : Cmd) (s : State) : Act :=
  let off := (c.w 0).toNat
  if s.store.op.isSome then .refuse .busy
  else if s.journalAt != some off || c.segment.length % 256 != 0 || decide (slotSize < off + c.segment.length) || !c.commitClear then .refuse .range
  else .later fun t => t.modStore fun r => { r.touch t.idleSlot with op := some (.program c.hdr c.stream off c.segment) }

def execImageData (st : Stream) (s : State) : Host.Outcome State Fault Refusal := .next (s.serve st 0x81 anySub runImageData)

/-- Cells reserved for a reply of up to four payload bytes (R445). -/
def smallReply : Nat := cellsFor 12

/-- IMAGE_DATA_READ_BACK (R84): the segment reads back as sent, or the reply is TIMEOUT and the journal stays. -/
def execImageDataReadBack (ok : Bool) (s : State) : Host.Outcome State Fault Refusal :=
  .next (match s.store.op with
    | some (.program hdr st off data) =>
      let b := s.idleSlot
      let a := slotBase b + off
      let full := s.store.flash.program a data
      if !s.storeRuns then s
      else if ok && full.readN erased a data.length == data then
        (s.modStore fun t => { t with flash := full, journal := some (b, off + data.length), op := none }).replyHeld st smallReply hdr 0
          (u32 (off + data.length))
      else if ok then (s.modStore fun t => { t with flash := full, op := none }).replyHeld st smallReply hdr 0x8A []
      else ((s.modStore fun t => { t with flash := t.flash.tear s.board.free a data, op := none }).drawn).replyHeld st smallReply hdr 0x8A []
    | _ => s)

/-! ### IMAGE_VERIFY (R67, R85, R393) -/

/-- IMAGE_VERIFY (R402, R417). -/
def runImageVerify (c : Cmd) (s : State) : Act :=
  if s.store.op.isSome then .refuse .busy
  else .accepted fun t => t.modStore fun r => { r with op := some (.verify c.tag c.stream) }

def execImageVerify (st : Stream) (s : State) : Host.Outcome State Fault Refusal := .next (s.serve st 0x82 anySub runImageVerify)

/-- CHECK (R394): 1–7 the first condition of R67 that fails, COMMIT taken as SEQ; 8 a SEQ not above the running image's, which ROM
recovery does not check (R85, R393). -/
def State.checkSlot (s : State) : Nat :=
  match s.store.slotCheck s.dev.keyRevoked false s.idleSlot with
  | some n => n
  | none => if s.board.runSlot.isSome && decide (s.store.slotSeq s.idleSlot ≤ s.board.runSeq.toNat) then 8 else 0

/-- IMAGE_VERIFY_COMPLETE (R85, R394). -/
def execImageVerifyComplete (s : State) : Host.Outcome State Fault Refusal :=
  .next (match s.store.op with
    | some (.verify tag st) =>
      let n := s.checkSlot
      let b := s.idleSlot
      if !s.storeRuns then s
      else (s.modStore fun t => { t.setVerdict b (n == 0 || n == 8) with op := none, verified := if n = 0 then some b else t.verified }).complete
        st 0x82 tag.toNat (if n = 0 then 0 else if n = 8 then 0x87 else 0x88) 0 0x7F (leBytes 1 n ++ [0, 0, 0])
    | _ => s)

/-! ### IMAGE_COMMIT (R79, R87, R417) -/

/-- IMAGE_COMMIT (R402, R417): the reply follows the programming. -/
def runImageCommit (c : Cmd) (s : State) : Act :=
  if s.store.op.isSome then .refuse .busy
  else if s.store.verified != some s.idleSlot then .refuse .state
  else .later fun t => t.modStore fun r => { r with op := some (.commit c.hdr c.stream (c.b 0 % 2 == 1)) }

def execImageCommit (st : Stream) (s : State) : Host.Outcome State Fault Refusal := .next (s.serve st 0x83 anySub runImageCommit)

/-- IMAGE_COMMIT_PROGRAMMED (R79, R417): COMMIT holds SEQ, OK follows, and with ACTIVATE a WARM waits for its reply to be read. -/
def execImageCommitProgrammed (ok : Bool) (s : State) : Host.Outcome State Fault Refusal :=
  .next (match s.store.op with
    | some (.commit hdr st activate) =>
      let b := s.idleSlot
      let a := slotBase b + 0xFFC
      let seq := u32 (s.store.slotSeq b)
      let full := s.store.flash.program a seq
      if !s.storeRuns then s
      else if ok && full.readN erased a 4 == seq then
        let t := (s.modStore fun t => { t with flash := full, op := none }).replyHeld st smallReply hdr 0 []
        if activate && t.board.resetReq.isNone then
          t.modBoard fun q => { q with resetReq := some ⟨false, st, hdr.getD 1 0, t.now, false⟩ }
        else t
      else if ok then (s.modStore fun t => { t with flash := full, op := none }).replyHeld st smallReply hdr 0x8A []
      else ((s.modStore fun t => { t with flash := t.flash.tearCommit s.board.free a seq, op := none }).drawn).replyHeld st smallReply hdr 0x8A []
    | _ => s)

/-! ### IMAGE_STATUS (R418) -/

/-- OP of IMAGE_STATUS (R418). -/
def Store.opCode (t : Store) : Nat :=
  match t.op with
  | some (.erase _ _) => 1
  | some (.verify _ _) => 2
  | some (.commit _ _ _) => 3
  | _ => 0

/-- STATE of a slot (R418): running; being written by an erase or a segment; invalid after a failed verification; committed where
COMMIT holds SEQ; verified; erased where its header reads so; being written where the journal names it; else invalid. -/
def State.slotState (s : State) (b : Bool) : Nat :=
  let t := s.store
  let bad := if b then t.badB else t.badA
  let good := if b then t.okB else t.okA
  let writing := match t.op with | some (.erase _ _) => true | some (.program _ _ _ _) => true | _ => false
  if s.board.runSlot == some b then 5
  else if writing && b == s.idleSlot then 1
  else if bad then 4
  else if seqValid (t.slotSeq b) && t.slotCommit b == t.slotSeq b then 3
  else if good then 2
  else if (t.slot b 0 0x1000).all (· == 0xFF#8) then 0
  else if (match t.journal with | some (j, _) => j == b | none => false) then 1
  else 4

/-- IMAGE_STATUS's payload (R418). -/
def State.imageBytes (s : State) : List Byte :=
  let slot (b : Bool) : List Byte := leBytes 1 (s.slotState b) ++ [0, 0, 0] ++ u32 (s.store.slotSeq b) ++ u32 (s.store.slotLen b)
  leBytes 1 (match s.board.runSlot with | some false => 0 | some true => 1 | none => 0xFF) ++ leBytes 1 s.store.opCode ++ [0, 0]
    ++ u32 (s.journalAt.getD 0xFFFFFFFF) ++ slot false ++ slot true

def execImageStatus (st : Stream) (s : State) : Host.Outcome State Fault Refusal := .next (s.serve st 0x84 anySub fun _ t => .give t.imageBytes)

/-! ### SORREL_LOAD_EXT and SORREL_CTRL (R419, R462) -/

/-- A core number that a command names. -/
def Cmd.core (c : Cmd) : CoreId := ⟨c.b 0 % 9, Nat.mod_lt _ (by decide)⟩

/-- SORREL_LOAD_EXT (R419): an empty extension becomes loaded; one that a trap stopped stays so until the next start. -/
def runSorrelLoadExt (c : Cmd) (s : State) : Act :=
  let off := (c.w 4).toNat
  let code := c.payload.drop 8
  if 8 < c.b 0 || off % 4 != 0 || decide (0x2000 < off + code.length) then .refuse .range
  else if (s.core c.core).extState = 2 then .refuse .state
  else .ok fun t => t.modCore c.core fun k => { k with
    bundleMem := k.bundleMem.writeAll zeroByte (0xE000 + off) code, extState := if k.extState = 0 then 1 else k.extState }

def execSorrelLoadExt (st : Stream) (s : State) : Host.Outcome State Fault Refusal := .next (s.serve st 0x88 anySub runSorrelLoadExt)

/-- SORREL_CTRL's reply (R419). -/
def CoreSt.extBytes (k : CoreSt) : List Byte :=
  leBytes 1 k.extState.toNat ++ [0] ++ u16 k.worst ++ wordBytes k.overruns ++ wordBytes k.traps ++ wordBytes k.lastTrap

/-- SORREL_CTRL, whose OP names the row (R419). -/
def runSorrelCtrl (c : Cmd) (s : State) : Act :=
  let k := s.core c.core
  let n := (c.w 4).toNat
  if 8 < c.b 0 ∨ 2 < c.b 1 then .refuse .range
  else if c.b 1 = 2 then
    (if 0x2000 < n then .refuse .range
     else if crc32c (k.bundleMem.readN zeroByte 0xE000 n) != c.w 8 then .refuse .range
     else .answer 0 k.extBytes fun t => t.modCore c.core fun d => { d with extStart := true, extStop := false })
  else if n ≠ 0 || c.w 8 != 0 then .refuse .range
  else if c.b 1 = 1 then .answer 0 k.extBytes fun t => t.modCore c.core fun d => { d with extStop := true, extStart := false }
  else .answer 0 k.extBytes fun t => t.modCore c.core fun d => { d with worst := 0 }

/-- SORREL_CTRL_STATUS (R419). -/
def execSorrelCtrlStatus (st : Stream) (s : State) : Host.Outcome State Fault Refusal := .next (s.serve st 0x89 (subAt 1 [0, 1, 2] 0) runSorrelCtrl)
/-- SORREL_CTRL_STOP (R419). -/
def execSorrelCtrlStop (st : Stream) (s : State) : Host.Outcome State Fault Refusal := .next (s.serve st 0x89 (subAt 1 [0, 1, 2] 1) runSorrelCtrl)
/-- SORREL_CTRL_START (R419). -/
def execSorrelCtrlStart (st : Stream) (s : State) : Host.Outcome State Fault Refusal := .next (s.serve st 0x89 (subAt 1 [0, 1, 2] 2) runSorrelCtrl)

/-! ### YARROW_STATUS, YARROW_NODE_ASSIGN, YARROW_FORWARD (R332, R340, R341) -/

/-- YARROW_STATUS (R341). -/
def execYarrowStatus (st : Stream) (s : State) : Host.Outcome State Fault Refusal :=
  .next (s.serve st 0x90 anySub fun _ t => .give t.yarrowStatusBytes)

/-- YARROW_NODE_ASSIGN, whose MODE names the row (R332). -/
def runYarrowNodeAssign (c : Cmd) (_ : State) : Act :=
  let id : BitVec 12 := BitVec.ofNat 12 (c.h 2)
  if 1 < c.b 0 ∨ c.h 2 = 0 ∨ 4000 < c.h 2 then .refuse .range
  else if c.b 0 = 0 then .ok fun t => (t.modYarrow fun w => w.setId id 3).yarrowReady
  else .ok fun t => t.startChain id 3

/-- YARROW_NODE_ASSIGN_SET (R332). -/
def execYarrowNodeAssignSet (st : Stream) (s : State) : Host.Outcome State Fault Refusal :=
  .next (s.serve st 0x91 (subAt 0 [0, 1] 0) runYarrowNodeAssign)
/-- YARROW_NODE_ASSIGN_CHAIN (R332). -/
def execYarrowNodeAssignChain (st : Stream) (s : State) : Host.Outcome State Fault Refusal :=
  .next (s.serve st 0x91 (subAt 0 [0, 1] 1) runYarrowNodeAssign)

/-- YARROW_FORWARD (R340). -/
def runYarrowForward (c : Cmd) (s : State) : Act :=
  let node : BitVec 12 := BitVec.ofNat 12 c.nodeField
  if c.nodeField = 0 || decide (4000 < c.nodeField) || node == s.yarrow.id then .refuse .range
  else if 16 ≤ c.h 2 then .refuse .range
  else if !(s.yarrow.seen.any fun e => e.src == node && decide (Beat.since s.now e.stamp ≤ 750000)) then .refuse (.plain 0x89)
  else if 16 ≤ s.yarrow.fwd.length then .refuse .busy
  else .later fun t =>
    (t.modYarrow fun w => { w with fwd := w.fwd ++ [⟨node, c.stream, c.hdr, t.now, c.payload.getD 1 0, []⟩] }).originateAll node 0x20 c.payload

def execYarrowForward (st : Stream) (s : State) : Host.Outcome State Fault Refusal := .next (s.serve st 0x92 anySub runYarrowForward)

end Sys2Proof.Machine
end

