-- ==== Sys2Proof/Machine/Vdm.lean ====
section
/-! DEFINITION. Received VDMs, the SVID table, and the Onandambe service mode with its link (R244–R254). -/

namespace Sys2Proof.Machine

/-! ### Unstructured VDMs and Attention (R245, R249, R395) -/

/-- The VDM header and VDOs of a message. -/
def RxMsg.vdm (m : RxMsg) : List Byte := m.body.take (4 * m.objs)

/-- Payload of VDM_RX and ATTENTION (R395). -/
def RxMsg.event (m : RxMsg) : List Byte :=
  leBytes 1 (tgtIdx m.tgt).val ++ leBytes 1 m.epoch.toNat ++ [0, 0] ++ beatBytes m.eop ++ [0, 0] ++ m.vdm

/-- UNSTRUCTURED_VDM_RX (R186, R249): the event, and no answer. -/
def execUnstructuredVdmRx (p : PortId) (s : State) : Host.Outcome State Fault Refusal :=
  .next (s.onMsg p .uvdm fun s m => s.post 0xC7 p.val m.event)

/-- ATTENTION (R245): the event, and no answer. -/
def execAttention (p : PortId) (s : State) : Host.Outcome State Fault Refusal :=
  .next (s.onMsg p .attention fun s m => s.post 0xC8 p.val m.event)

/-! ### The SVID table (R243, R246) -/

/-- The SVIDs of a Discover SVIDs response, its zero fillers left out. -/
def svidsOf (vdos : List Word) : List Half :=
  (vdos.flatMap fun w => [BitVec.ofNat 16 (fld w 16 16), BitVec.ofNat 16 (fld w 0 16)]).filter (· != 0)

/-- One SVID joins the table: an SVID it already holds for the target adds nothing; beyond 16 entries it is counted. -/
def Pd.addSvid (tgt1 : Bool) (d : Pd) (v : Half) : Pd :=
  if d.svids.any fun e => e.tgt1 == tgt1 && e.svid == v then d
  else if 16 ≤ d.svids.length then { d with svidOverflow := min 255 (d.svidOverflow + 1) }
  else { d with svids := d.svids ++ [⟨tgt1, v, false, []⟩] }

def Pd.addSvids (tgt1 : Bool) (vs : List Half) (d : Pd) : Pd := vs.foldl (Pd.addSvid tgt1) d

/-- A Discover Modes response fills its entry. -/
def Pd.setModes (tgt1 : Bool) (v : Half) (ms : List Word) (d : Pd) : Pd :=
  { d with svids := d.svids.map fun e => if e.tgt1 == tgt1 && e.svid == v then { e with known := true, modes := ms.take 6 } else e }

/-! ### Responses to the port's own VDM (R243, R244, R248) -/

/-- The response belongs to the conversation under way, whose request has its GoodCRC; a plug's does so whatever SOP awaits. -/
def Port.answersVdm (x : Port) (m : RxMsg) : Bool :=
  (match x.pd.vdm with
    | some r =>
      let q := rdWord r.message 0
      r.sent && r.acked && (r.tgt != .sop || x.pd.await == .vdmAnswer) && r.tgt == m.tgt && vdmType (m.word 0) != 0 && vdmSvid (m.word 0) == vdmSvid q && vdmCmd (m.word 0) == vdmCmd q
    | none => false)

/-- BUSY: 12,500 beats until the request is sent again, at most five times (R244). -/
def State.vdmBusyGot (s : State) (p : PortId) (r : VdmReq) (m : RxMsg) : State :=
  let s1 := s.modPort p fun x => x.modCtx r.tgt fun c => { c with busyCnt := min 5 (c.busyCnt + 1) }
  if 5 ≤ ((s1.port p).ctxOf r.tgt).busyCnt then s1.vdmOver p 2 m.vdm
  else (s1.modPort p fun x =>
    let y := if r.ams then x.endOwn else x
    { y with pd := { y.pd with vdm := some { r with sent := false, acked := false, ams := false, busyAt := some m.eop } } }).kick p

/-- ACK (R241–R243, R246, R248): the cable's identity, the table, a further Discover SVIDs after a response of 12, which counts its own
BUSY answers (R244), the mode. -/
def State.vdmAckGot (s : State) (p : PortId) (r : VdmReq) (m : RxMsg) : State :=
  let vdos := m.words.drop 1
  let t1 := r.tgt == Tgt.sop1
  match r.why with
  | .hostDiscover k v =>
    if k = 1 then
      let vs := svidsOf vdos
      let s1 := s.modPort p fun x => { x with pd := x.pd.addSvids t1 vs }
      let got := r.got ++ m.vdm.drop 4
      if 12 ≤ vs.length then
        (s1.modPort p fun x =>
          let y := (if r.ams then x.endOwn else x).modCtx r.tgt fun c => { c with busyCnt := 0 }
          { y with pd := { y.pd with vdm := some { r with sent := false, acked := false, ams := false, got := got } } }).kick p
      else s1.vdmOver p 0 (m.vdm.take 4 ++ got)
    else if k = 2 then (s.modPort p fun x => { x with pd := x.pd.setModes t1 v vdos }).vdmOver p 0 m.vdm
    else if t1 then (s.identityGot p m.vdm).vdmOver p 0 m.vdm
    else s.vdmOver p 0 m.vdm
  | .modeEnter =>
    let q := rdWord r.message 0
    (s.modPort p fun x => { x with pd := { x.pd with mode := some (BitVec.ofNat 16 (vdmSvid q), BitVec.ofNat 3 (vdmPos q)) } }).vdmOver p 0 m.vdm
  | .modeExit => (s.modPort p fun x => { x with pd := { x.pd with mode := none } }).vdmOver p 0 m.vdm
  | .discover | .hostSend _ => s.vdmOver p 0 m.vdm

/-- The awaited response arrives. -/
def State.vdmResponse (s : State) (p : PortId) (m : RxMsg) : State :=
  match (s.port p).pd.vdm with
  | none => s
  | some r =>
    let s1 := s.modPort p fun x => x.disarm (respTimer r.tgt)
    if vdmType (m.word 0) = 3 then s1.vdmBusyGot p r m
    else if vdmType (m.word 0) = 2 then s1.vdmOver p 1 m.vdm
    else s1.vdmAckGot p r m

/-! ### Requests received on SOP (R245) -/

/-- The VDM header of an answer: the request's, with its command type. -/
def vdmAnswerHeader (w : Word) (type : Nat) : Word := setFld w 6 2 type

/-- ACK with VDOs, or NAK. -/
def State.vdmAck (s : State) (p : PortId) (w : Word) (vdos : List Word) : State :=
  s.reply p .plain (datMsg 15 (vdmAnswerHeader w 1 :: vdos))
def State.vdmNak (s : State) (p : PortId) (w : Word) : State := s.reply p .plain (datMsg 15 [vdmAnswerHeader w 2])

/-- A request that the port can answer now; R187 governs the others. -/
def State.vdmServed (s : State) (p : PortId) (m : RxMsg) (f : State → State) : State :=
  let x := s.port p
  if m.tgt != .sop then s
  else if x.inPower || x.pd.ownAms || x.pd.await != .none then s.unexpected p
  else f s

/-- The ID Header VDO (R245): Not a UFP, Power Brick, Modal Operation; the bits the manual does not state are open
(log 22). -/
def idHeader (modal : Bool) (free : Word) : Word :=
  mkWord [(Config.vdmId.toNat % 65536, 0), (fld free 21 2, 21), (3, 23), (b2n modal, 26), (0, 27), (fld free 30 2, 30)]

/-- Discover Identity's VDOs. -/
def State.idVdos (s : State) (p : PortId) : List Word :=
  let n := s.board.free
  [idHeader (s.svcEnabled p) (Config.freeWord n), Config.freeWord (n + 1),
   mkWord [(fld (Config.freeWord (n + 2)) 0 16, 0), (fld Config.vdmId 16 16, 16)]]

/-- The answer to a request that has no row of its own (R245). -/
def State.vdmAnswer (s : State) (p : PortId) (w : Word) : State :=
  let cmd := vdmCmd w
  let pdSid := vdmSvid w == 0xFF00
  if pdSid && cmd == 1 then (s.vdmAck p w (s.idVdos p)).drawn
  else if pdSid && cmd == 2 && s.svcEnabled p then s.vdmAck p w [mkWord [(svcSvidNat, 16)]]
  else if vdmSvid w == svcSvidNat && cmd == 3 then s.vdmAck p w [mkWord [(fld s.dev.svcCfg 4 2, 0)]]
  else s.vdmNak p w

/-- STRUCTURED_VDM_RX (R243–R245): a response to the port's own VDM, or a request on SOP; any other is ignored. -/
def execStructuredVdmRx (p : PortId) (s : State) : Host.Outcome State Fault Refusal :=
  .next (s.onMsg p .svdm fun s m =>
    if (s.port p).answersVdm m then s.vdmResponse p m
    else if vdmType (m.word 0) = 0 then s.vdmServed p m fun t => t.vdmAnswer p (m.word 0)
    else s)

/-! ### Entry and exit of the service mode (R251, R252) -/

/-- The port holds the service mode. -/
def State.inSvc (s : State) (p : PortId) : Bool := match s.svc.port with | some q => q.val == p.val | none => false

/-- What both ways of entry need. -/
def State.svcMayEnter (s : State) (p : PortId) : Bool :=
  s.svcEnabled p && s.svc.port.isNone && !s.board.recovery && (s.port p).pd.contract.pos != 0

/-- The mode is entered: a fresh stream, which owes no earlier session's answers and whose mask admits completions alone (R252, R396). -/
def State.svcEnter (s : State) (p : PortId) : State :=
  { s.orphan with svc := { Service.reset with port := some (Fin.ofNat 4 p.val) }
                  host := { s.host with tagsSvc := [], maskSvc := 3#32 } }

/-- Enter Mode on the service SVID (R251). -/
def State.svcEnterMode (s : State) (p : PortId) (w : Word) : State :=
  let x := s.port p
  if s.svcMayEnter p && vdmPos w == 1 && !x.pd.dfp && (x.tc.st == .attachedSrc || x.tc.st == .attachedSnk)
  then (s.svcEnter p).vdmAck p w []
  else s.vdmNak p w

/-- A debug attach whose first explicit contract has come. -/
def Port.debugEnters (x : Port) : Bool :=
  (x.tc.st == .debugAccSrc || x.tc.st == .debugAccSnk) && x.pd.contract.pos != 0 && !x.pd.svcDone

/-- SERVICE_ENTER_MODE (R251): at the first explicit contract of a debug attach, or by Enter Mode. -/
def execServiceEnterMode (p : PortId) (s : State) : Host.Outcome State Fault Refusal :=
  .next (
    if s.fw p && (s.port p).debugEnters then
      let t := s.modPort p fun x => { x with pd := { x.pd with svcDone := true } }
      if s.svcMayEnter p then t.svcEnter p else t
    else s.onMsg p .svcEnter fun s m => s.vdmServed p m fun t => t.svcEnterMode p (m.word 0))

/-- SERVICE_EXIT_MODE (R252): ACK on the port that holds the mode, NAK on any other. -/
def execServiceExitMode (p : PortId) (s : State) : Host.Outcome State Fault Refusal :=
  .next (s.onMsg p .svcExit fun s m => s.vdmServed p m fun t =>
    if t.inSvc p then (t.svcLeave p).vdmAck p (m.word 0) [] else t.vdmNak p (m.word 0))

/-! ### The service link (R253–R255) -/

/-- Inbound credit in 256-byte units: what Q7's LIMIT leaves and what the free cells hold, five cells a unit (log 34). -/
def State.svcCredit (s : State) : Nat :=
  let x := s.pool.queues[qSvc]
  min (min ((x.limit - x.counted) / 5) (s.pool.free / 5)) 255

/-- Length on the wire of the packet that `part` begins, once its header is whole (R374, R376). -/
def packetLen (part : List Byte) : Option Nat :=
  if part.length < 8 then none else some (8 + (rdNat part 6 2 + 3) / 4 * 4 + 4)

/-- A sound inbound packet closes into Q7, or is refused with POOL_EXHAUSTED (R255, R385). -/
def State.svcClose (s : State) (data : List Byte) : State :=
  let tag := data.getD 1 0
  if s.pool.room qSvc (cellsFor data.length) then
    let dup := s.host.tagsSvc.contains tag || s.pool.tagWaits [qSvc] tag
    let t := s.modPool fun m => m.push qSvc (mkPacket m (.cmd dup) data)
    t.modHost fun h => { h with tagsSvc := if dup then h.tagsSvc else h.tagsSvc ++ [tag] }
  else
    let u : State := { s with pool := s.pool.refuseFor qSvc (cellsFor data.length) }
    match u.pool.refusal qSvcOut (replyBytes (data.getD 0 0).toNat tag.toNat 0x8C ((data.getD 2 0).getLsbD 0) false (rdNat data 4 2 % 512) []) with
    | some m => { u with pool := m }
    | none => u

/-- The packets that the gathered bytes complete (R253): one that fails the host CRC, or whose length no command has, is
discarded and sets HCRC_ERR. -/
def State.svcGather (s : State) : Nat → State
  | 0 => s
  | n + 1 =>
    let part := s.svc.part
    match packetLen part with
    | none => s
    | some len =>
      if !framed len then s.modSvc fun v => { v with part := [], hcrc := true }
      else if part.length < len then s
      else
        let pkt := part.take len
        let t := s.modSvc fun v => { v with part := part.drop len, hcrc := v.hcrc || !hostCrcOk pkt }
        (if hostCrcOk pkt then t.svcClose (pkt.take (len - 4)) else t).svcGather n

/-- The trailer of a packet goes out: its reply is delivered (R253, R381). -/
def State.svcSent (s : State) (k : Packet) : State :=
  { s with svc := { s.svc with tail := none }
           host := if k.isEvent then s.host else s.host.freeReply qSvcOut k
           board := if k.isEvent then s.board else s.board.replyRead .service k }

/-- Up to `room` bytes of the outbound stream leave Q15 (R253): S0 pops the length word and the data words of a packet, which leaves the
queue at the last of them (R434), and sends its trailer after them. -/
def State.svcTake (s : State) (room : Nat) : Nat → State × List Byte
  | 0 => (s, [])
  | n + 1 =>
    if room < 4 then (s, [])
    else match s.svc.tail with
    | some k =>
      let r := (s.svcSent k).svcTake (room - 4) n
      (r.1, (wireBytes k k.bad (k.data.length + 4)).drop k.data.length ++ r.2)
    | none => match s.pool.head qSvcOut with
      | none => (s, [])
      | some k =>
        let at_ := (s.pool.queues[qSvcOut]).popped - 1
        let bytes := (k.data.drop (4 * at_)).take room
        if 4 * at_ + bytes.length < k.data.length then
          (s.modPool fun m => m.modQ qSvcOut fun x => { x with popped := 1 + at_ + bytes.length / 4 }, bytes)
        else
          let t : State := { s with pool := s.pool.pop qSvcOut, svc := { s.svc with tail := some k } }
          let r := (t.found qSvcOut k.flaw).svcTake (room - bytes.length) n
          (r.1, bytes ++ r.2)

/-- The ACK of an exchange: control word and data; HCRC_ERR clears as it is reported (R253). -/
def State.svcAck (s : State) (p : PortId) (w : Word) (seq : Byte) (data : List Byte) : State :=
  let more := b2n ((s.pool.head qSvcOut).isSome || s.svc.tail.isSome)
  let bytes := wordBytes (mkWord [(data.length, 0), (seq.toNat, 8), (more, 12), (b2n s.svc.hcrc, 13), (s.svcCredit, 16)]) ++ padTo4 data
  (s.modSvc fun v => { v with hcrc := false, lastAck := bytes }).reply p .plain
    (u16 (15 + 4096 * (1 + bytes.length / 4)) ++ wordBytes (vdmAnswerHeader w 1) ++ bytes)

/-- The control word of a request is sound and its bytes are there (R253, R254). -/
def svcControlOk (w : Word) (vdos : Nat) : Bool :=
  (w &&& 0xFFFFF0E0#32) == 0 && decide (fld w 0 5 ≤ 20) && decide (1 ≤ vdos) && decide (fld w 0 5 ≤ 4 * (vdos - 1))

/-- SVC_XFER on the port that holds the mode (R253, R254). -/
def State.svcExchange (s : State) (p : PortId) (m : RxMsg) : State :=
  let w := m.word 0
  let ctl := m.word 1
  let seq : Byte := BitVec.ofNat 8 (fld ctl 8 4)
  let fresh := match s.svc.lastSeq with | some q => decide (seq.toNat = (q.toNat + 1) % 16) | none => true
  if vdmPos w != 1 || !svcControlOk ctl (m.objs - 1) then s.vdmNak p w
  else if s.svc.lastSeq == some seq then
    s.reply p .plain (u16 (15 + 4096 * (1 + s.svc.lastAck.length / 4)) ++ wordBytes (vdmAnswerHeader w 1) ++ s.svc.lastAck)
  else if !fresh || decide (256 * s.svcCredit < s.svc.part.length + fld ctl 0 5) then s.vdmNak p w
  else
    let t := (s.modSvc fun v => { v with part := v.part ++ (m.body.drop 8).take (fld ctl 0 5), lastSeq := some seq }).svcGather 3
    let r := t.svcTake 20 5
    r.1.svcAck p w seq r.2

/-- SVC_XFER (R253, R254). -/
def execSvcXfer (p : PortId) (s : State) : Host.Outcome State Fault Refusal :=
  .next (s.onMsg p .svcXfer fun s m => s.vdmServed p m fun t => if t.inSvc p then t.svcExchange p m else t.vdmNak p (m.word 0))

/-- SVC_SYNC (R254). -/
def execSvcSync (p : PortId) (s : State) : Host.Outcome State Fault Refusal :=
  .next (s.onMsg p .svcSync fun s m => s.vdmServed p m fun t =>
    if t.inSvc p && m.objs == 1 then (t.modSvc fun v => { v with part := [], lastSeq := none }).svcAck p (m.word 0) 0 []
    else t.vdmNak p (m.word 0))

end Sys2Proof.Machine
end

