-- ==== Sys2Proof/Machine/Dispatch.lean ====
section
/-! DEFINITION. One arm per command, each a direct call of its meaning. -/

namespace Sys2Proof.Machine

def exec (i : Instr) (s : State) : Host.Outcome State Fault Refusal :=
  match i with
  | .serviceDomainPowerOn vsvcHeld testen refEdges => Sys2Proof.Machine.execServiceDomainPowerOn vsvcHeld testen refEdges s
  | .mainDomainRelease => Sys2Proof.Machine.execMainDomainRelease s
  | .mainLoss => Sys2Proof.Machine.execMainLoss s
  | .feedGuardStart va vb s0 s1 s2 s3 => Sys2Proof.Machine.execFeedGuardStart va vb s0 s1 s2 s3 s
  | .feedGuardStop samples => Sys2Proof.Machine.execFeedGuardStop samples s
  | .resetNAssert => Sys2Proof.Machine.execResetNAssert s
  | .resetNRelease => Sys2Proof.Machine.execResetNRelease s
  | .bootRomStart => Sys2Proof.Machine.execBootRomStart s
  | .refLoss => Sys2Proof.Machine.execRefLoss s
  | .refRestored => Sys2Proof.Machine.execRefRestored s
  | .afeLink d => Sys2Proof.Machine.execAfeLink d s
  | .afeLinkRestore d => Sys2Proof.Machine.execAfeLinkRestore d s
  | .feedLinkLost => Sys2Proof.Machine.execFeedLinkLost s
  | .feedLinkUp => Sys2Proof.Machine.execFeedLinkUp s
  | .beat => Sys2Proof.Machine.execBeat s
  | .beatEntry k => Sys2Proof.Machine.execBeatEntry k s
  | .beatOverrun k => Sys2Proof.Machine.execBeatOverrun k s
  | .repeatPause k => Sys2Proof.Machine.execRepeatPause k s
  | .ccStateUpdate p lines gsn => Sys2Proof.Machine.execCcStateUpdate p lines gsn s
  | .ccDebounceExpiry p => Sys2Proof.Machine.execCcDebounceExpiry p s
  | .pdDebounceExpiry p => Sys2Proof.Machine.execPdDebounceExpiry p s
  | .tryCcDebounceExpiry p => Sys2Proof.Machine.execTryCcDebounceExpiry p s
  | .drpToggleExpiry p => Sys2Proof.Machine.execDrpToggleExpiry p s
  | .drpTryExpiry p => Sys2Proof.Machine.execDrpTryExpiry p s
  | .tryWaitExpiry p => Sys2Proof.Machine.execTryWaitExpiry p s
  | .tryTimeoutExpiry p => Sys2Proof.Machine.execTryTimeoutExpiry p s
  | .errorRecoveryExpiry p => Sys2Proof.Machine.execErrorRecoveryExpiry p s
  | .srcDisconnectExpiry p => Sys2Proof.Machine.execSrcDisconnectExpiry p s
  | .sinkDetach p => Sys2Proof.Machine.execSinkDetach p s
  | .rdCheckComplete p l uv1 uv2 => Sys2Proof.Machine.execRdCheckComplete p l uv1 uv2 s
  | .attachSrcEntry p => Sys2Proof.Machine.execAttachSrcEntry p s
  | .harnCalStep p o => Sys2Proof.Machine.execHarnCalStep p o s
  | .harnCalDeferredStart p => Sys2Proof.Machine.execHarnCalDeferredStart p s
  | .bleederOvervoltage p => Sys2Proof.Machine.execBleederOvervoltage p s
  | .harnDrift p => Sys2Proof.Machine.execHarnDrift p s
  | .moistureSweepEnd p z o rd1 rd2 => Sys2Proof.Machine.execMoistureSweepEnd p z o rd1 rd2 s
  | .dryRecheckExpiry p => Sys2Proof.Machine.execDryRecheckExpiry p s
  | .vbusLeak p sbu2 mv1 mv2 => Sys2Proof.Machine.execVbusLeak p sbu2 mv1 mv2 s
  | .ccLeakTrip p l samples => Sys2Proof.Machine.execCcLeakTrip p l samples s
  | .vconnOc p limitEvent => Sys2Proof.Machine.execVconnOc p limitEvent s
  | .cnVconnMonitor c samples => Sys2Proof.Machine.execCnVconnMonitor c samples s
  | .clusterTrimComplete c badRp badRd zeros0 zeros1 => Sys2Proof.Machine.execClusterTrimComplete c badRp badRd zeros0 zeros1 s
  | .adcTrimUpdate c second zeros refs => Sys2Proof.Machine.execAdcTrimUpdate c second zeros refs s
  | .adcStale c second => Sys2Proof.Machine.execAdcStale c second s
  | .trainingSample p o => Sys2Proof.Machine.execTrainingSample p o s
  | .shadowApply p idle => Sys2Proof.Machine.execShadowApply p idle s
  | .packetReceive p w => Sys2Proof.Machine.execPacketReceive p w s
  | .goodcrcTransmit p idle => Sys2Proof.Machine.execGoodcrcTransmit p idle s
  | .hardResetReceived p => Sys2Proof.Machine.execHardResetReceived p s
  | .txAttemptStart p idle => Sys2Proof.Machine.execTxAttemptStart p idle s
  | .goodcrcReceived p t h => Sys2Proof.Machine.execGoodcrcReceived p t h s
  | .receiveTimeout p => Sys2Proof.Machine.execReceiveTimeout p s
  | .txCollisionAbort p => Sys2Proof.Machine.execTxCollisionAbort p s
  | .txIntegrity e => Sys2Proof.Machine.execTxIntegrity e s
  | .hardResetSend p idle => Sys2Proof.Machine.execHardResetSend p idle s
  | .hrTimeout p => Sys2Proof.Machine.execHrTimeout p s
  | .request p => Sys2Proof.Machine.execRequest p s
  | .decisionDeadline id => Sys2Proof.Machine.execDecisionDeadline id s
  | .sourceCapabilities p => Sys2Proof.Machine.execSourceCapabilities p s
  | .accept p => Sys2Proof.Machine.execAccept p s
  | .reject p => Sys2Proof.Machine.execReject p s
  | .wait p => Sys2Proof.Machine.execWait p s
  | .psRdy p => Sys2Proof.Machine.execPsRdy p s
  | .prSwap p => Sys2Proof.Machine.execPrSwap p s
  | .drSwap p => Sys2Proof.Machine.execDrSwap p s
  | .vconnSwap p => Sys2Proof.Machine.execVconnSwap p s
  | .softReset p => Sys2Proof.Machine.execSoftReset p s
  | .eprModeEnter p => Sys2Proof.Machine.execEprModeEnter p s
  | .eprModeExit p => Sys2Proof.Machine.execEprModeExit p s
  | .chunkRequest p => Sys2Proof.Machine.execChunkRequest p s
  | .extendedChunk p => Sys2Proof.Machine.execExtendedChunk p s
  | .getRevision p => Sys2Proof.Machine.execGetRevision p s
  | .unsupportedMessage p => Sys2Proof.Machine.execUnsupportedMessage p s
  | .unexpectedMessage p => Sys2Proof.Machine.execUnexpectedMessage p s
  | .structuredVdmRx p => Sys2Proof.Machine.execStructuredVdmRx p s
  | .unstructuredVdmRx p => Sys2Proof.Machine.execUnstructuredVdmRx p s
  | .attention p => Sys2Proof.Machine.execAttention p s
  | .serviceEnterMode p => Sys2Proof.Machine.execServiceEnterMode p s
  | .serviceExitMode p => Sys2Proof.Machine.execServiceExitMode p s
  | .svcXfer p => Sys2Proof.Machine.execSvcXfer p s
  | .svcSync p => Sys2Proof.Machine.execSvcSync p s
  | .capabilityBuild p => Sys2Proof.Machine.execCapabilityBuild p s
  | .sinkAmsStart p => Sys2Proof.Machine.execSinkAmsStart p s
  | .sinkFirstMessageWithdraw p => Sys2Proof.Machine.execSinkFirstMessageWithdraw p s
  | .sinkTxExpiry p => Sys2Proof.Machine.execSinkTxExpiry p s
  | .senderResponseTimeout p => Sys2Proof.Machine.execSenderResponseTimeout p s
  | .typecSendSourceCapExpiry p => Sys2Proof.Machine.execTypecSendSourceCapExpiry p s
  | .srcTransitionExpiry p => Sys2Proof.Machine.execSrcTransitionExpiry p s
  | .srcTransitionComplete p => Sys2Proof.Machine.execSrcTransitionComplete p s
  | .transFail p => Sys2Proof.Machine.execTransFail p s
  | .psTransitionTimeout p => Sys2Proof.Machine.execPsTransitionTimeout p s
  | .psSourceOffTimeout p => Sys2Proof.Machine.execPsSourceOffTimeout p s
  | .psSourceOnTimeout p => Sys2Proof.Machine.execPsSourceOnTimeout p s
  | .psHardResetExpiry p => Sys2Proof.Machine.execPsHardResetExpiry p s
  | .safe0vReached p => Sys2Proof.Machine.execSafe0vReached p s
  | .safe0vTimeout p => Sys2Proof.Machine.execSafe0vTimeout p s
  | .srcRecoverExpiry p => Sys2Proof.Machine.execSrcRecoverExpiry p s
  | .sinkVbusReturn p => Sys2Proof.Machine.execSinkVbusReturn p s
  | .sinkRecoveryBound p => Sys2Proof.Machine.execSinkRecoveryBound p s
  | .noResponseTimeout p => Sys2Proof.Machine.execNoResponseTimeout p s
  | .sinkWaitCapTimeout p => Sys2Proof.Machine.execSinkWaitCapTimeout p s
  | .sinkRequestExpiry p => Sys2Proof.Machine.execSinkRequestExpiry p s
  | .chunkSenderRequestTimeout p t => Sys2Proof.Machine.execChunkSenderRequestTimeout p t s
  | .chunkSenderResponseTimeout p t => Sys2Proof.Machine.execChunkSenderResponseTimeout p t s
  | .vdmSenderResponseTimeout p t => Sys2Proof.Machine.execVdmSenderResponseTimeout p t s
  | .vdmWaitModeTimeout p => Sys2Proof.Machine.execVdmWaitModeTimeout p s
  | .vdmBusyRetry p => Sys2Proof.Machine.execVdmBusyRetry p s
  | .discoverIdentityExpiry p => Sys2Proof.Machine.execDiscoverIdentityExpiry p s
  | .sinkEprEnterTimeout p => Sys2Proof.Machine.execSinkEprEnterTimeout p s
  | .sourceEprKeepaliveTimeout p => Sys2Proof.Machine.execSourceEprKeepaliveTimeout p s
  | .sinkEprKeepaliveExpiry p => Sys2Proof.Machine.execSinkEprKeepaliveExpiry p s
  | .ppsTimeout p => Sys2Proof.Machine.execPpsTimeout p s
  | .ppsRequestExpiry p => Sys2Proof.Machine.execPpsRequestExpiry p s
  | .ppsUndervoltage p => Sys2Proof.Machine.execPpsUndervoltage p s
  | .dropExcess p => Sys2Proof.Machine.execDropExcess p s
  | .swapMessageSend p => Sys2Proof.Machine.execSwapMessageSend p s
  | .swapRequestTimeout p => Sys2Proof.Machine.execSwapRequestTimeout p s
  | .swapBackoffExpiry p => Sys2Proof.Machine.execSwapBackoffExpiry p s
  | .prSwapVbusOff p => Sys2Proof.Machine.execPrSwapVbusOff p s
  | .swapFail p => Sys2Proof.Machine.execSwapFail p s
  | .prSwapIdleHeld p => Sys2Proof.Machine.execPrSwapIdleHeld p s
  | .prSwapSinkGateOn p => Sys2Proof.Machine.execPrSwapSinkGateOn p s
  | .prSwapSourceRamp p => Sys2Proof.Machine.execPrSwapSourceRamp p s
  | .prSwapSourceReady p => Sys2Proof.Machine.execPrSwapSourceReady p s
  | .swapSourceStartExpiry p => Sys2Proof.Machine.execSwapSourceStartExpiry p s
  | .swapWindowExceeded p => Sys2Proof.Machine.execSwapWindowExceeded p s
  | .vconnSourceTimeout p => Sys2Proof.Machine.execVconnSourceTimeout p s
  | .vconnSwapOnConfirm p => Sys2Proof.Machine.execVconnSwapOnConfirm p s
  | .vconnSwapOnTimeout p => Sys2Proof.Machine.execVconnSwapOnTimeout p s
  | .loopUpdate p vbs ibus aux => Sys2Proof.Machine.execLoopUpdate p vbs ibus aux s
  | .peakCurrentTrip p mv ns => Sys2Proof.Machine.execPeakCurrentTrip p mv ns s
  | .stageStart p => Sys2Proof.Machine.execStageStart p s
  | .harnessDischargeEnd p => Sys2Proof.Machine.execHarnessDischargeEnd p s
  | .dischargeRunEnd p => Sys2Proof.Machine.execDischargeRunEnd p s
  | .dischargeFail p => Sys2Proof.Machine.execDischargeFail p s
  | .senIdleTimeout c => Sys2Proof.Machine.execSenIdleTimeout c s
  | .trunkValueDelivery mv => Sys2Proof.Machine.execTrunkValueDelivery mv s
  | .trunkStale => Sys2Proof.Machine.execTrunkStale s
  | .stageUv p => Sys2Proof.Machine.execStageUv p s
  | .stageUvRestart p => Sys2Proof.Machine.execStageUvRestart p s
  | .ilsFault p => Sys2Proof.Machine.execIlsFault p s
  | .stageHeadroom p => Sys2Proof.Machine.execStageHeadroom p s
  | .loopSat p => Sys2Proof.Machine.execLoopSat p s
  | .windowMonitorDecision p m samples => Sys2Proof.Machine.execWindowMonitorDecision p m samples s
  | .monBlanked m => Sys2Proof.Machine.execMonBlanked m s
  | .gateFullyOn g samples => Sys2Proof.Machine.execGateFullyOn g samples s
  | .gateBelowOff g samples => Sys2Proof.Machine.execGateBelowOff g samples s
  | .fetGate p => Sys2Proof.Machine.execFetGate p s
  | .currentLimitEnter p ma => Sys2Proof.Machine.execCurrentLimitEnter p ma s
  | .ilimTimeout p => Sys2Proof.Machine.execIlimTimeout p s
  | .faultTimerClear p => Sys2Proof.Machine.execFaultTimerClear p s
  | .fastTrip p ma => Sys2Proof.Machine.execFastTrip p ma s
  | .tripCountReset p => Sys2Proof.Machine.execTripCountReset p s
  | .thermalModelUpdate p => Sys2Proof.Machine.execThermalModelUpdate p s
  | .tsnFault p => Sys2Proof.Machine.execTsnFault p s
  | .feedVinWindow f samples => Sys2Proof.Machine.execFeedVinWindow f samples s
  | .insertionDelayExpiry f us => Sys2Proof.Machine.execInsertionDelayExpiry f us s
  | .bbmExpiry us => Sys2Proof.Machine.execBbmExpiry us s
  | .changeoverGateTimeout us => Sys2Proof.Machine.execChangeoverGateTimeout us s
  | .feedRampTimeout f us => Sys2Proof.Machine.execFeedRampTimeout f us s
  | .pgQualExpiry f us => Sys2Proof.Machine.execPgQualExpiry f us s
  | .feedLimitStart f uv => Sys2Proof.Machine.execFeedLimitStart f uv s
  | .feedFaultTimerExpiry f us => Sys2Proof.Machine.execFeedFaultTimerExpiry f us s
  | .feedFaultTimerClear f us => Sys2Proof.Machine.execFeedFaultTimerClear f us s
  | .feedFastTrip f uv => Sys2Proof.Machine.execFeedFastTrip f uv s
  | .feedOvertemp f t1 t2 => Sys2Proof.Machine.execFeedOvertemp f t1 t2 s
  | .feedCoolExpiry f us => Sys2Proof.Machine.execFeedCoolExpiry f us s
  | .noFeedOn us => Sys2Proof.Machine.execNoFeedOn us s
  | .brownoutEnter samples => Sys2Proof.Machine.execBrownoutEnter samples s
  | .brownoutExit samples => Sys2Proof.Machine.execBrownoutExit samples s
  | .budgetAllocation => Sys2Proof.Machine.execBudgetAllocation s
  | .dieTemp sensor temps => Sys2Proof.Machine.execDieTemp sensor temps s
  | .snapshotWrite ok => Sys2Proof.Machine.execSnapshotWrite ok s
  | .write mirrorDone packet => Sys2Proof.Machine.execWrite mirrorDone packet s
  | .read mirrorDone clocked obs => Sys2Proof.Machine.execRead mirrorDone clocked obs s
  | .status mirrorDone => Sys2Proof.Machine.execStatus mirrorDone s
  | .unknownTypeByte mirrorDone b => Sys2Proof.Machine.execUnknownTypeByte mirrorDone b s
  | .echo st => Sys2Proof.Machine.execEcho st s
  | .identify st => Sys2Proof.Machine.execIdentify st s
  | .readyMap st => Sys2Proof.Machine.execReadyMap st s
  | .paramGet st => Sys2Proof.Machine.execParamGet st s
  | .paramSet st => Sys2Proof.Machine.execParamSet st s
  | .keyRevokeBurn st => Sys2Proof.Machine.execKeyRevokeBurn st s
  | .phyRetrain st => Sys2Proof.Machine.execPhyRetrain st s
  | .hostCfgWrite st => Sys2Proof.Machine.execHostCfgWrite st s
  | .paramCommit st => Sys2Proof.Machine.execParamCommit st s
  | .paramCommitComplete ok => Sys2Proof.Machine.execParamCommitComplete ok s
  | .coldReq st => Sys2Proof.Machine.execColdReq st s
  | .warm st => Sys2Proof.Machine.execWarm st s
  | .ports st => Sys2Proof.Machine.execPorts st s
  | .resetDeferredStart => Sys2Proof.Machine.execResetDeferredStart s
  | .timeGet st => Sys2Proof.Machine.execTimeGet st s
  | .portConfig st => Sys2Proof.Machine.execPortConfig st s
  | .portDisable st => Sys2Proof.Machine.execPortDisable st s
  | .portEnable st => Sys2Proof.Machine.execPortEnable st s
  | .portEnableRecalibrate st => Sys2Proof.Machine.execPortEnableRecalibrate st s
  | .portStatus st => Sys2Proof.Machine.execPortStatus st s
  | .portCalStatus st => Sys2Proof.Machine.execPortCalStatus st s
  | .portMoistureRead st => Sys2Proof.Machine.execPortMoistureRead st s
  | .portMoistureRecheck st => Sys2Proof.Machine.execPortMoistureRecheck st s
  | .portErrorRecovery st => Sys2Proof.Machine.execPortErrorRecovery st s
  | .policyWrite st => Sys2Proof.Machine.execPolicyWrite st s
  | .policyRead st => Sys2Proof.Machine.execPolicyRead st s
  | .decide st => Sys2Proof.Machine.execDecide st s
  | .pdoTemplateWrite st => Sys2Proof.Machine.execPdoTemplateWrite st s
  | .pdSend st => Sys2Proof.Machine.execPdSend st s
  | .pdLastRx st => Sys2Proof.Machine.execPdLastRx st s
  | .pdSoftReset st => Sys2Proof.Machine.execPdSoftReset st s
  | .pdHardReset st => Sys2Proof.Machine.execPdHardReset st s
  | .pdCableReset st => Sys2Proof.Machine.execPdCableReset st s
  | .swapRequestPr st => Sys2Proof.Machine.execSwapRequestPr st s
  | .swapRequestDr st => Sys2Proof.Machine.execSwapRequestDr st s
  | .swapRequestVconn st => Sys2Proof.Machine.execSwapRequestVconn st s
  | .vdmDiscoverIdentity st => Sys2Proof.Machine.execVdmDiscoverIdentity st s
  | .vdmDiscoverSvids st => Sys2Proof.Machine.execVdmDiscoverSvids st s
  | .vdmDiscoverModes st => Sys2Proof.Machine.execVdmDiscoverModes st s
  | .vdmSend st => Sys2Proof.Machine.execVdmSend st s
  | .modeEnter st => Sys2Proof.Machine.execModeEnter st s
  | .modeExit st => Sys2Proof.Machine.execModeExit st s
  | .svidTableRead st => Sys2Proof.Machine.execSvidTableRead st s
  | .budgetSet st => Sys2Proof.Machine.execBudgetSet st s
  | .budgetStatus st => Sys2Proof.Machine.execBudgetStatus st s
  | .budgetGroupConfig st => Sys2Proof.Machine.execBudgetGroupConfig st s
  | .stageConfig st => Sys2Proof.Machine.execStageConfig st s
  | .stageStatus st => Sys2Proof.Machine.execStageStatus st s
  | .guardConfig st => Sys2Proof.Machine.execGuardConfig st s
  | .feedConfigApply st => Sys2Proof.Machine.execFeedConfigApply st s
  | .feedReleaseA st => Sys2Proof.Machine.execFeedReleaseA st s
  | .feedReleaseB st => Sys2Proof.Machine.execFeedReleaseB st s
  | .feedStatus st => Sys2Proof.Machine.execFeedStatus st s
  | .faultStatus st => Sys2Proof.Machine.execFaultStatus st s
  | .faultClearLatch st => Sys2Proof.Machine.execFaultClearLatch st s
  | .faultClearRaised st => Sys2Proof.Machine.execFaultClearRaised st s
  | .faultClearLog st => Sys2Proof.Machine.execFaultClearLog st s
  | .faultSeverityRead st => Sys2Proof.Machine.execFaultSeverityRead st s
  | .faultSeverityWrite st => Sys2Proof.Machine.execFaultSeverityWrite st s
  | .faultForceSet st => Sys2Proof.Machine.execFaultForceSet st s
  | .faultForceClear st => Sys2Proof.Machine.execFaultForceClear st s
  | .logReadFault st => Sys2Proof.Machine.execLogReadFault st s
  | .logReadStage st => Sys2Proof.Machine.execLogReadStage st s
  | .logReadSnapshotList st => Sys2Proof.Machine.execLogReadSnapshotList st s
  | .logReadSnapshot st => Sys2Proof.Machine.execLogReadSnapshot st s
  | .queueStatus st => Sys2Proof.Machine.execQueueStatus st s
  | .queueFlush st => Sys2Proof.Machine.execQueueFlush st s
  | .queueFlushAct q => Sys2Proof.Machine.execQueueFlushAct q s
  | .eventSubscribe st => Sys2Proof.Machine.execEventSubscribe st s
  | .imageBeginNew st => Sys2Proof.Machine.execImageBeginNew st s
  | .imageEraseComplete ok => Sys2Proof.Machine.execImageEraseComplete ok s
  | .imageBeginResume st => Sys2Proof.Machine.execImageBeginResume st s
  | .imageData st => Sys2Proof.Machine.execImageData st s
  | .imageVerify st => Sys2Proof.Machine.execImageVerify st s
  | .imageVerifyComplete => Sys2Proof.Machine.execImageVerifyComplete s
  | .imageCommit st => Sys2Proof.Machine.execImageCommit st s
  | .imageStatus st => Sys2Proof.Machine.execImageStatus st s
  | .sorrelLoadExt st => Sys2Proof.Machine.execSorrelLoadExt st s
  | .sorrelCtrlStatus st => Sys2Proof.Machine.execSorrelCtrlStatus st s
  | .sorrelCtrlStop st => Sys2Proof.Machine.execSorrelCtrlStop st s
  | .sorrelCtrlStart st => Sys2Proof.Machine.execSorrelCtrlStart st s
  | .extensionCall k => Sys2Proof.Machine.execExtensionCall k s
  | .yarrowStatus st => Sys2Proof.Machine.execYarrowStatus st s
  | .yarrowNodeAssignSet st => Sys2Proof.Machine.execYarrowNodeAssignSet st s
  | .yarrowNodeAssignChain st => Sys2Proof.Machine.execYarrowNodeAssignChain st s
  | .yarrowForward st => Sys2Proof.Machine.execYarrowForward st s
  | .unknownOpcode st => Sys2Proof.Machine.execUnknownOpcode st s
  | .factoryCommand st => Sys2Proof.Machine.execFactoryCommand st s
  | .yarrowFrameReceive y fr crcOk outBusy => Sys2Proof.Machine.execYarrowFrameReceive y fr crcOk outBusy s
  | .yarrowTransmitStart y idleBits line => Sys2Proof.Machine.execYarrowTransmitStart y idleBits line s
  | .link y => Sys2Proof.Machine.execLink y s
  | .linkSend y => Sys2Proof.Machine.execLinkSend y s
  | .yarrowLink y => Sys2Proof.Machine.execYarrowLink y s
  | .idAssign y => Sys2Proof.Machine.execIdAssign y s
  | .heartbeat y => Sys2Proof.Machine.execHeartbeat y s
  | .heartbeatSend => Sys2Proof.Machine.execHeartbeatSend s
  | .heartbeatMissed => Sys2Proof.Machine.execHeartbeatMissed s
  | .listenWindowEnd => Sys2Proof.Machine.execListenWindowEnd s
  | .elect y => Sys2Proof.Machine.execElect y s
  | .electWindowEnd => Sys2Proof.Machine.execElectWindowEnd s
  | .report y => Sys2Proof.Machine.execReport y s
  | .reportSend => Sys2Proof.Machine.execReportSend s
  | .ledgerScan => Sys2Proof.Machine.execLedgerScan s
  | .ledgerStale node => Sys2Proof.Machine.execLedgerStale node s
  | .grant y => Sys2Proof.Machine.execGrant y s
  | .fwdCmd y => Sys2Proof.Machine.execFwdCmd y s
  | .fwdReply y => Sys2Proof.Machine.execFwdReply y s
  | .forwardTimeout node => Sys2Proof.Machine.execForwardTimeout node s
  | .seqSourceExpiry node => Sys2Proof.Machine.execSeqSourceExpiry node s
  | .quarantineScanEnd q => Sys2Proof.Machine.execQuarantineScanEnd q s
  | .coalescingEnd => Sys2Proof.Machine.execCoalescingEnd s
  | .add k h f => Sys2Proof.Machine.execAdd k h f s
  | .adc k h f => Sys2Proof.Machine.execAdc k h f s
  | .sub k h f => Sys2Proof.Machine.execSub k h f s
  | .sbc k h f => Sys2Proof.Machine.execSbc k h f s
  | .and k h f => Sys2Proof.Machine.execAnd k h f s
  | .or k h f => Sys2Proof.Machine.execOr k h f s
  | .xor k h f => Sys2Proof.Machine.execXor k h f s
  | .andn k h f => Sys2Proof.Machine.execAndn k h f s
  | .shl k h f => Sys2Proof.Machine.execShl k h f s
  | .shr k h f => Sys2Proof.Machine.execShr k h f s
  | .sar k h f => Sys2Proof.Machine.execSar k h f s
  | .rol k h f => Sys2Proof.Machine.execRol k h f s
  | .ror k h f => Sys2Proof.Machine.execRor k h f s
  | .mul k h f => Sys2Proof.Machine.execMul k h f s
  | .mulh k h f => Sys2Proof.Machine.execMulh k h f s
  | .mulhu k h f => Sys2Proof.Machine.execMulhu k h f s
  | .div k h f => Sys2Proof.Machine.execDiv k h f s
  | .divu k h f => Sys2Proof.Machine.execDivu k h f s
  | .rem k h f => Sys2Proof.Machine.execRem k h f s
  | .remu k h f => Sys2Proof.Machine.execRemu k h f s
  | .neg k h d src => Sys2Proof.Machine.execNeg k h d src s
  | .not k h d src => Sys2Proof.Machine.execNot k h d src s
  | .cmp k h s1 s2 => Sys2Proof.Machine.execCmp k h s1 s2 s
  | .tst k h s1 s2 => Sys2Proof.Machine.execTst k h s1 s2 s
  | .min k h d s1 s2 => Sys2Proof.Machine.execMin k h d s1 s2 s
  | .max k h d s1 s2 => Sys2Proof.Machine.execMax k h d s1 s2 s
  | .abs k h d src => Sys2Proof.Machine.execAbs k h d src s
  | .clz k h d src => Sys2Proof.Machine.execClz k h d src s
  | .set k h b => Sys2Proof.Machine.execSet k h b s
  | .clr k h b => Sys2Proof.Machine.execClr k h b s
  | .inv k h b => Sys2Proof.Machine.execInv k h b s
  | .tset k h b => Sys2Proof.Machine.execTset k h b s
  | .btst k h b => Sys2Proof.Machine.execBtst k h b s
  | .bst k h b => Sys2Proof.Machine.execBst k h b s
  | .bmov k h bd bs => Sys2Proof.Machine.execBmov k h bd bs s
  | .mov k h d src => Sys2Proof.Machine.execMov k h d src s
  | .movz k h d src => Sys2Proof.Machine.execMovz k h d src s
  | .movs k h d src => Sys2Proof.Machine.execMovs k h d src s
  | .lea k h d src => Sys2Proof.Machine.execLea k h d src s
  | .push k h src => Sys2Proof.Machine.execPush k h src s
  | .pop k h d => Sys2Proof.Machine.execPop k h d s
  | .nop k h => Sys2Proof.Machine.execNop k h s
  | .qopen k h q => Sys2Proof.Machine.execQopen k h q s
  | .qpush k h q src => Sys2Proof.Machine.execQpush k h q src s
  | .qend k h q src n => Sys2Proof.Machine.execQend k h q src n s
  | .qabort k h q => Sys2Proof.Machine.execQabort k h q s
  | .qpop k h d q obs => Sys2Proof.Machine.execQpop k h d q obs s
  | .br k h t => Sys2Proof.Machine.execBr k h t s
  | .bz k h t => Sys2Proof.Machine.execBz k h t s
  | .bnz k h t => Sys2Proof.Machine.execBnz k h t s
  | .bc k h t => Sys2Proof.Machine.execBc k h t s
  | .bnc k h t => Sys2Proof.Machine.execBnc k h t s
  | .bn k h t => Sys2Proof.Machine.execBn k h t s
  | .bnn k h t => Sys2Proof.Machine.execBnn k h t s
  | .bv k h t => Sys2Proof.Machine.execBv k h t s
  | .bnv k h t => Sys2Proof.Machine.execBnv k h t s
  | .bslt k h t => Sys2Proof.Machine.execBslt k h t s
  | .bsge k h t => Sys2Proof.Machine.execBsge k h t s
  | .bsle k h t => Sys2Proof.Machine.execBsle k h t s
  | .bsgt k h t => Sys2Proof.Machine.execBsgt k h t s
  | .bule k h t => Sys2Proof.Machine.execBule k h t s
  | .bugt k h t => Sys2Proof.Machine.execBugt k h t s
  | .bb1 k h b t => Sys2Proof.Machine.execBb1 k h b t s
  | .bb0 k h b t => Sys2Proof.Machine.execBb0 k h b t s
  | .loop k h r t => Sys2Proof.Machine.execLoop k h r t s
  | .call k h t => Sys2Proof.Machine.execCall k h t s
  | .ret k h => Sys2Proof.Machine.execRet k h s
  | .beatend k h => Sys2Proof.Machine.execBeatend k h s
  | .serviceDomainPowerOff => Sys2Proof.Machine.execServiceDomainPowerOff s
  | .illegalOperation k why => Sys2Proof.Machine.execIllegalOperation k why s
  | .imageDataReadBack ok => Sys2Proof.Machine.execImageDataReadBack ok s
  | .imageCommitProgrammed ok => Sys2Proof.Machine.execImageCommitProgrammed ok s
  | .feedTemperatureRelease f t => Sys2Proof.Machine.execFeedTemperatureRelease f t s
  | .vsafe5vReady p => Sys2Proof.Machine.execVsafe5vReady p s

end Sys2Proof.Machine
end

