-- ==== Sys2Proof/Safety.lean ====
section
/-! DEFINITION. The terms that statements use: what a command gives, the sound forms that every step keeps, and which commands
may touch what. -/

namespace Sys2Proof.Machine

/-- Command `i` runs at `s` and leaves a state with `Q`. -/
def gives (i : Instr) (s : State) (Q : State → Prop) : Prop := ∃ t, exec i s = .next t ∧ Q t

/-- The flash is in canonical form (log 17). -/
def State.flashSound (s : State) : Bool := Memory.wf erased s.store.flash

/-- The memories of every Sorrel core are in canonical form (log 13). -/
def State.coresSound (s : State) : Bool :=
  s.cores.toList.all (fun k => Memory.wf zeroByte k.data && Memory.wf zeroByte k.bundleMem)

/-- Source `n` is RAISED (R345). -/
def State.raisedAt (s : State) (n : Nat) : Bool := s.faults.raised.getLsbD n

/-- What a reset of the hub die of cause `cause` leaves (R77, R80): every port DISABLED, but CAL_FAILED and LOCKOUT stay where it is no
COLD_REQ (R98, R293; log 95). -/
abbrev State.resetBy (cause : BitVec 3) (s t : State) : Prop :=
  t.board.beat = s.board.beat ∧ t.board.cause = cause ∧ t.board.bootPending = true ∧ t.board.resetReq = none ∧ t.dev.ready0 = 0
  ∧ t.dev.keyRevoked = s.dev.keyRevoked ∧ t.faults.latch = none ∧ t.faults.raised = 0 ∧ t.faults.force = 0 ∧ t.faults.log = []
  ∧ t.pool = State.reset.pool ∧ t.host = State.reset.host ∧ t.cores = State.reset.cores ∧ t.policy = State.reset.policy
  ∧ t.feed.inForce = s.feed.inForce ∧ t.feed.a = s.feed.a ∧ t.feed.b = s.feed.b ∧ t.feed.selected = s.feed.selected
  ∧ (∀ p : PortId, (t.port p).tc.st = (if cause != 3 && ((s.port p).tc.st == .calFailed || (s.port p).tc.st == .lockout) then (s.port p).tc.st
        else .disabled) ∧ (t.port p).tc.pReady = false ∧ (t.port p).guard.gateOn = false
      ∧ (t.port p).stage.mode = .idle ∧ (t.port p).ctx = Port.reset.ctx)
  ∧ (s.store.op = none ∧ s.faults.snap = [] → t.store = s.store) ∧ t.store.op = none

/-- S8 runs and takes command `c` from stream `st`: no command of the stream waits for a core that had stopped, this one is sound and new,
and its cells are there; `u` is the state once it has left its queue and holds its tag (R17, R380, R381, R387, R445). -/
def State.comes (s : State) (st : Stream) (c : Cmd) (u : State) : Prop :=
  ∃ q k, s.ready 0 = true ∧ s.coreStopped 8 = false ∧ s.parked st = none ∧ s.nextCommand st = some (q, k) ∧ c = Cmd.of st k ∧ k.bad = false
    ∧ (st.reserves = false ∨ s.pool.holdsFor c = true) ∧ (s.takeCommand q k).dupRefused c = false
    ∧ u = ((s.takeCommand q k).modHost fun h => h.addTag c).modYarrow
        (fun w => if c.stream = .forwarded then { w with fwdFrom := w.fwdFrom ++ [(c.tag, c.node)] } else w)

/-- S8 takes command `c`, of opcode `opc`, and it passes rows 4 to 9 of R377 and the reserved fields and TGT of row 10; a command for the
core of its port's cluster finds that core running and cells in its hand-off queue (R17, R19, R444). -/
def State.takes (s : State) (st : Stream) (opc : Nat) (c : Cmd) (u : State) : Prop :=
  s.comes st c u ∧ c.opc = opc ∧ c.headerFault u.yarrow.id = none ∧ u.readyFor c = true ∧ (u.restricted c = false ∨ c.readOnly = true)
    ∧ firstNonzero c.payload c.reservedBytes = none ∧ c.tgt ≤ c.maxTgt
    ∧ (c.handed = false ∨ (u.handFree c = true ∧ u.handRuns c = true))

/-- A reply with this payload goes to the command's stream: to the forwarded stream up to 4,084 bytes (R340). -/
def Cmd.fits (c : Cmd) (data : List Byte) : Bool := c.stream != .forwarded || decide (data.length ≤ 4084)

/-- The command is answered OK. -/
abbrev State.okay (u : State) (c : Cmd) (data : List Byte) : State := u.sendReply c false 0 data

/-- The command is refused with a status and no payload. -/
abbrev State.deny (u : State) (c : Cmd) (status : Nat) : State := u.sendReply c false status []

/-- The command is answered ACCEPTED, its completion's cells reserved (R445). -/
def State.accept (u : State) (c : Cmd) : State :=
  (if c.stream.reserves then u.modPool fun m => m.reserve (eventQ c.stream) (completionCells c.opc) else u).sendReply c false 1 []

/-- The command is answered later, its reply's cells reserved (R445). -/
def State.hold (u : State) (c : Cmd) : State :=
  if c.stream.reserves then u.modPool fun m => m.reserve (replyQ c.stream) c.replyCells else u

/-- Row `i` takes every command of opcode `opc` from stream `st`. -/
def plainRow (st : Stream) (opc : Nat) (i : Instr) : Prop :=
  (opc = 0x00 ∧ i = .echo st) ∨ (opc = 0x01 ∧ i = .identify st) ∨ (opc = 0x02 ∧ i = .readyMap st)
  ∨ (opc = 0x03 ∧ i = .paramGet st) ∨ (opc = 0x04 ∧ i = .paramSet st) ∨ (opc = 0x08 ∧ i = .timeGet st)
  ∨ (opc = 0x10 ∧ i = .portConfig st) ∨ (opc = 0x12 ∧ i = .portStatus st) ∨ (opc = 0x13 ∧ i = .portCalStatus st)
  ∨ (opc = 0x18 ∧ i = .portErrorRecovery st) ∨ (opc = 0x20 ∧ i = .policyWrite st) ∨ (opc = 0x21 ∧ i = .policyRead st)
  ∨ (opc = 0x22 ∧ i = .decide st) ∨ (opc = 0x28 ∧ i = .pdoTemplateWrite st) ∨ (opc = 0x30 ∧ i = .pdSend st)
  ∨ (opc = 0x31 ∧ i = .pdLastRx st) ∨ (opc = 0x32 ∧ i = .pdSoftReset st) ∨ (opc = 0x33 ∧ i = .pdHardReset st)
  ∨ (opc = 0x34 ∧ i = .pdCableReset st) ∨ (opc = 0x41 ∧ i = .vdmSend st) ∨ (opc = 0x42 ∧ i = .modeEnter st)
  ∨ (opc = 0x43 ∧ i = .modeExit st) ∨ (opc = 0x48 ∧ i = .svidTableRead st) ∨ (opc = 0x50 ∧ i = .budgetSet st)
  ∨ (opc = 0x51 ∧ i = .budgetStatus st) ∨ (opc = 0x52 ∧ i = .budgetGroupConfig st) ∨ (opc = 0x58 ∧ i = .stageConfig st)
  ∨ (opc = 0x59 ∧ i = .stageStatus st) ∨ (opc = 0x5A ∧ i = .guardConfig st) ∨ (opc = 0x5C ∧ i = .feedStatus st)
  ∨ (opc = 0x60 ∧ i = .faultStatus st) ∨ (opc = 0x70 ∧ i = .queueStatus st) ∨ (opc = 0x71 ∧ i = .queueFlush st)
  ∨ (opc = 0x72 ∧ i = .eventSubscribe st) ∨ (opc = 0x81 ∧ i = .imageData st) ∨ (opc = 0x82 ∧ i = .imageVerify st)
  ∨ (opc = 0x83 ∧ i = .imageCommit st) ∨ (opc = 0x84 ∧ i = .imageStatus st) ∨ (opc = 0x88 ∧ i = .sorrelLoadExt st)
  ∨ (opc = 0x90 ∧ i = .yarrowStatus st) ∨ (opc = 0x92 ∧ i = .yarrowForward st)

/-- S8 runs the link and frame `f`, of type `t`, is at the head of port `y`'s receive queue (R328). -/
abbrev State.frameIs (s : State) (y : YPort) (t : Nat) (f : YFrame) : Prop :=
  s.yarrowOn = true ∧ s.frameAt y = some f ∧ f.type.toNat = t

/-- The frame's payload begins with the group in force. -/
def Yarrow.sameGroup (w : Yarrow) (f : YFrame) : Bool := w.groupNow != 0 && f.payload.getD 0 0 == w.groupNow

/-- `m` is the one message that waits for port `p` (R161, R186). -/
abbrev State.onlyMsg (s : State) (p : PortId) (m : RxMsg) : Prop := s.rxHead p = some m ∧ s.rxCount p = 1

/-- The states of the two CC lines at the end of a beat whose slots are `xs` (R92, R129). -/
def State.line1 (s : State) (p : PortId) (xs : List CcSample) : Cc :=
  let x := s.port p
  ccBeat x.tc.cc1 x.tc.pres1 x.harn.rCc.toNat (if x.tc.orient then 0 else x.txSlots s.now) x.phy.since1 xs
def State.line2 (s : State) (p : PortId) (xs : List CcSample) : Cc :=
  let x := s.port p
  ccBeat x.tc.cc2 x.tc.pres2 x.harn.rCc.toNat (if x.tc.orient then x.txSlots s.now else 0) x.phy.since2 xs

/-- The port runs no AMS of its own, awaits no answer and is in no power sequence (R187). -/
def Port.calm (x : Port) : Bool := x.pd.await == .none && !x.pd.ownAms && !x.inPower

/-- A message with these bytes waits to be transmitted to a target of port `p` (R163), or for a cell (R444). -/
def State.txWaits (s : State) (p : PortId) (g : Tgt) (bytes : List Byte) : Bool :=
  ((s.pool.queues[(qTx (clusterOf p))]).closed ++ (s.port p).pd.held).any fun k =>
    (match k.carried with | .tx q u _ => q == p && u == g | _ => false) && k.data == bytes

/-- Nothing of port `p` waits to be transmitted or is on the line. -/
def State.txIdle (s : State) (p : PortId) : Bool :=
  (s.port p).pd.flight.isNone && (s.port p).pd.held.isEmpty && (s.txPending p fun _ => true).isEmpty

/-- The host stream's newest event (R395). -/
def State.lastEvent (s : State) : Option (List Byte) := ((s.pool.queues[qEvent]).closed.getLast?).map Packet.data

/-- This event is queued for the host stream, and for it alone (R395, R396, R442). -/
abbrev State.hears (s : State) (code port : Nat) (data : List Byte) : Prop :=
  bit1 s.host.maskHost (code - 0xC0) = true ∧ s.svc.port = none ∧ s.pool.coalescing = false
  ∧ s.pool.takes qEvent (mkPacket s.pool .none (eventBytes code port false data)) = true

end Sys2Proof.Machine

namespace Sys2Proof

/-- Commands that program or erase the flash, or cut an operation on it short. -/
def Instr.writesFlash : Instr → Bool
  | .serviceDomainPowerOff | .resetNAssert | .resetDeferredStart | .snapshotWrite _ | .imageEraseComplete _
  | .imageDataReadBack _ | .imageCommitProgrammed _ => true
  | _ => false

/-- Commands that the ports, their clusters and their protocol layers carry out. -/
def Instr.onPort : Instr → Bool
  | .ccStateUpdate _ _ _ | .ccDebounceExpiry _ | .pdDebounceExpiry _ | .tryCcDebounceExpiry _ | .drpToggleExpiry _
  | .drpTryExpiry _ | .tryWaitExpiry _ | .tryTimeoutExpiry _ | .errorRecoveryExpiry _ | .srcDisconnectExpiry _
  | .sinkDetach _ | .rdCheckComplete _ _ _ _ | .attachSrcEntry _ | .harnCalStep _ _ | .harnCalDeferredStart _
  | .bleederOvervoltage _ | .harnDrift _ | .moistureSweepEnd _ _ _ _ _ | .dryRecheckExpiry _ | .vbusLeak _ _ _ _
  | .ccLeakTrip _ _ _ | .vconnOc _ _ | .cnVconnMonitor _ _ | .adcTrimUpdate _ _ _ _ | .adcStale _ _
  | .trainingSample _ _ | .shadowApply _ _ | .packetReceive _ _ | .goodcrcTransmit _ _ | .hardResetReceived _
  | .txAttemptStart _ _ | .goodcrcReceived _ _ _ | .receiveTimeout _ | .txCollisionAbort _ | .txIntegrity _
  | .hardResetSend _ _ | .hrTimeout _ | .request _ | .decisionDeadline _ | .sourceCapabilities _ | .accept _
  | .reject _ | .wait _ | .psRdy _ | .prSwap _ | .drSwap _ | .vconnSwap _ | .softReset _ | .eprModeEnter _
  | .eprModeExit _ | .chunkRequest _ | .extendedChunk _ | .getRevision _ | .unsupportedMessage _
  | .unexpectedMessage _ | .structuredVdmRx _ | .unstructuredVdmRx _ | .attention _ | .serviceEnterMode _
  | .serviceExitMode _ | .svcXfer _ | .svcSync _ | .capabilityBuild _ | .sinkAmsStart _ | .sinkFirstMessageWithdraw _
  | .sinkTxExpiry _ | .senderResponseTimeout _ | .typecSendSourceCapExpiry _ | .srcTransitionExpiry _
  | .srcTransitionComplete _ | .transFail _ | .psTransitionTimeout _ | .psSourceOffTimeout _ | .psSourceOnTimeout _
  | .psHardResetExpiry _ | .safe0vReached _ | .safe0vTimeout _ | .srcRecoverExpiry _ | .sinkVbusReturn _
  | .sinkRecoveryBound _ | .noResponseTimeout _ | .sinkWaitCapTimeout _ | .sinkRequestExpiry _
  | .chunkSenderRequestTimeout _ _ | .chunkSenderResponseTimeout _ _ | .vdmSenderResponseTimeout _ _
  | .vdmWaitModeTimeout _ | .vdmBusyRetry _ | .discoverIdentityExpiry _ | .sinkEprEnterTimeout _
  | .sourceEprKeepaliveTimeout _ | .sinkEprKeepaliveExpiry _ | .ppsTimeout _ | .ppsRequestExpiry _
  | .ppsUndervoltage _ | .dropExcess _ | .swapMessageSend _ | .swapRequestTimeout _ | .swapBackoffExpiry _
  | .prSwapVbusOff _ | .swapFail _ | .prSwapIdleHeld _ | .prSwapSinkGateOn _ | .prSwapSourceRamp _
  | .prSwapSourceReady _ | .swapSourceStartExpiry _ | .swapWindowExceeded _ | .vconnSourceTimeout _
  | .vconnSwapOnConfirm _ | .vconnSwapOnTimeout _ | .loopUpdate _ _ _ _ | .peakCurrentTrip _ _ _ | .stageStart _
  | .harnessDischargeEnd _ | .dischargeRunEnd _ | .dischargeFail _ | .senIdleTimeout _ | .trunkStale | .stageUv _
  | .stageUvRestart _ | .ilsFault _ | .stageHeadroom _ | .loopSat _ | .windowMonitorDecision _ _ _ | .fetGate _
  | .currentLimitEnter _ _ | .ilimTimeout _ | .faultTimerClear _ | .fastTrip _ _ | .tripCountReset _
  | .thermalModelUpdate _ | .tsnFault _ | .vsafe5vReady _ => true
  | _ => false

/-- The port of a command that acts on that port alone: it raises no fault and claims no sampler (R138, R348). -/
def Instr.portAlone : Instr → Option PortId
  | .ccDebounceExpiry p | .pdDebounceExpiry p | .tryCcDebounceExpiry p | .drpToggleExpiry p | .drpTryExpiry p | .tryWaitExpiry p
  | .tryTimeoutExpiry p | .errorRecoveryExpiry p | .srcDisconnectExpiry p | .sinkDetach p | .attachSrcEntry p
  | .harnCalDeferredStart p | .bleederOvervoltage p | .dryRecheckExpiry p | .hardResetReceived p | .receiveTimeout p
  | .txCollisionAbort p | .hrTimeout p | .request p | .sourceCapabilities p | .accept p | .reject p | .wait p | .psRdy p
  | .prSwap p | .drSwap p | .vconnSwap p | .softReset p | .eprModeEnter p | .eprModeExit p | .chunkRequest p | .extendedChunk p
  | .getRevision p | .unsupportedMessage p | .structuredVdmRx p | .unstructuredVdmRx p | .attention p | .serviceExitMode p
  | .svcXfer p | .svcSync p | .sinkAmsStart p | .sinkFirstMessageWithdraw p | .sinkTxExpiry p | .senderResponseTimeout p
  | .typecSendSourceCapExpiry p | .srcTransitionExpiry p | .srcTransitionComplete p | .psTransitionTimeout p
  | .psSourceOffTimeout p | .psSourceOnTimeout p | .psHardResetExpiry p | .safe0vReached p | .srcRecoverExpiry p
  | .sinkVbusReturn p | .sinkRecoveryBound p | .noResponseTimeout p | .sinkWaitCapTimeout p | .sinkRequestExpiry p
  | .vdmWaitModeTimeout p | .vdmBusyRetry p | .discoverIdentityExpiry p | .sinkEprEnterTimeout p | .sourceEprKeepaliveTimeout p
  | .sinkEprKeepaliveExpiry p | .ppsTimeout p | .ppsRequestExpiry p | .ppsUndervoltage p | .swapMessageSend p
  | .swapRequestTimeout p | .swapBackoffExpiry p | .prSwapVbusOff p | .prSwapIdleHeld p | .prSwapSinkGateOn p
  | .prSwapSourceRamp p | .prSwapSourceReady p | .swapSourceStartExpiry p | .swapWindowExceeded p | .vconnSourceTimeout p
  | .vconnSwapOnConfirm p | .stageStart p | .harnessDischargeEnd p | .dischargeRunEnd p | .stageUvRestart p | .faultTimerClear p
  | .tripCountReset p | .vsafe5vReady p => some p
  | .ccStateUpdate p _ _ | .rdCheckComplete p _ _ _ | .moistureSweepEnd p _ _ _ _ | .goodcrcReceived p _ _ | .hardResetSend p _
  | .chunkSenderRequestTimeout p _ | .chunkSenderResponseTimeout p _ | .vdmSenderResponseTimeout p _ | .currentLimitEnter p _ => some p
  | _ => none

open Machine

/-! ### Sorrel cores -/

/-- Core `k` takes operation `o` as a legal bundle of its own: the handler runs with cycles left, holds no open bundle, repeat or
waiting bundle, no core waits for a queue, and no C operation stands in a delay bundle (R456, R458, R461, R466). -/
abbrev Machine.State.sole (s : State) (k : CoreId) (h : Pre) (o : SOp) : Prop :=
  (s.core k).running = true ∧ (s.core k).bundle = [] ∧ (s.core k).rep = none ∧ (s.core k).cycles < 1875
  ∧ (∀ j : CoreId, (s.core j).waiting = false) ∧ (o.cls = .c → (s.core k).delay = none)
  ∧ h.last = true ∧ h.rep = none ∧ badBundle [⟨h, o⟩] = false

/-- A bundle of core `k` has issued: results that were due, then the bundle's own immediate ones, stand in their places; the others
come one commit point nearer, the bundle's own behind them (R456, R457); the core goes on behind the bundle, or where an earlier branch
leads, a CALL's return address pushed (R458). Each entry of `es` is a result with the bundles to its commit point. -/
def Machine.State.issued (s : State) (k : CoreId) (len cost : Nat) (es : List (Nat × Effect)) : State :=
  let c := s.core k
  let now := (c.inflight.filter fun e => decide (e.1 ≤ 1)) ++ es.filter fun e => e.1 == 0
  (now.foldl (fun t e => commit k t e.2) s.drawn).modCore k fun d =>
    { d with
      cycles := c.cycles + cost
      inflight := ((c.inflight.filter fun e => decide (1 < e.1)).map fun e => (e.1 - 1, e.2)) ++ es.filter fun e => e.1 != 0
      delay := none
      pc := match c.delay with | some x => x.1 | none => c.pc + BitVec.ofNat 16 len
      rstack := match c.delay with | some (_, true) => (c.pc + BitVec.ofNat 16 len) :: c.rstack | _ => c.rstack }

/-- A source operand as core `k` reads it at issue. -/
def Machine.State.source (s : State) (k : CoreId) (h : Pre) (w : Nat) (o : Opnd) : Nat := o.read s k s.board.free h.code w

/-- Destination and sources of the two forms of R473. -/
def XForm.dst : XForm → Opnd
  | .two d _ => d
  | .three d _ _ => d
def XForm.srcs : XForm → Opnd × Opnd
  | .two d x => (d, x)
  | .three _ x y => (x, y)
def XForm.stepped : XForm → List Opnd
  | .two _ x => [x]
  | .three _ x y => [x, y]

/-- Steps of post-incremented and pre-decremented source operands (R469). -/
def Machine.State.stepping (s : State) (k : CoreId) (size : Nat) (os : List Opnd) : List (Nat × Effect) :=
  os.flatMap fun o => o.stepEffects s k size

/-- The four flags at the commit point of an X operation, none under NF (R456, R467, R473). -/
def xFlags (h : Pre) (z n c v : Bool) : List (Nat × Effect) := if h.nf then [] else [(1, .flags (some z) (some n) (some c) (some v))]

end Sys2Proof
end

