-- ==== Sys2Proof/Certificates/Slice0/Obligations.lean ====
section
/-! DEFINITION. The statements for the provers. -/

open Sys2Proof Sys2Proof.Machine

/-! ### The block as a whole -/

/-- O1: a step with command `c` at the front of the queue is `exec c` on the state with the queue's rest (log 2). -/
def Obligations.StepRunsFront : Prop :=
  ∀ (c : Instr) (rest : List Instr) (s : State), s.pending = c :: rest → step s = exec c { s with pending := rest }

/-- O2: what reset leaves: no command, no flash programmed, every port DISABLED with its Planish sets at the reset set and N_RETRY 2,
every queue at its LIMIT and WMARK, no fault RAISED, and each core with A7 at 0x8000. Values the manual gives no reset value for are
the model's (log 4). -/
def Obligations.ResetState : Prop :=
  State.reset.pending = [] ∧ State.reset.store.flash = [] ∧ State.reset.board.beat = 0
  ∧ (∀ p : PortId, (State.reset.port p).tc.st = .disabled ∧ (State.reset.port p).phy.applied = 0x00217A56#32
      ∧ (State.reset.port p).phy.safe = 0x00217A56#32 ∧ (State.reset.port p).cfg.roleCfg = 0x0CCB3260#32
      ∧ (State.reset.port p).cfg.stage[0] = 300 ∧ (State.reset.port p).guard.gst = .off)
  ∧ (∀ (p : PortId) (t : Tgt), ((State.reset.port p).ctxOf t).nRetry = 2 ∧ ((State.reset.port p).ctxOf t).txId = 0)
  ∧ (∀ q : QueueId, (State.reset.pool.queues[q]).cfg = qCfgReset q.val ∧ (State.reset.pool.queues[q]).closed = [])
  ∧ (∀ n : Nat, State.reset.raisedAt n = false) ∧ State.reset.faults.latch = none
  ∧ (∀ k : CoreId, (State.reset.core k).a[(7 : Fin 8)] = 0x8000#16 ∧ (State.reset.core k).pc = 0 ∧ (State.reset.core k).data = [])
  ∧ State.reset.svcOn = false ∧ State.reset.feed.on = false

/-- O3: the flash and the core memories of the reset state are in canonical form. -/
def Obligations.ResetSound : Prop := State.reset.flashSound = true ∧ State.reset.coresSound = true

/-- O4: every step keeps the flash in canonical form (log 17). -/
def Obligations.StepKeepsFlashSound : Prop :=
  ∀ s t : State, s.flashSound = true → step s = .next t → t.flashSound = true

/-- O5: every step keeps the memories of the Sorrel cores in canonical form (log 13). -/
def Obligations.StepKeepsCoresSound : Prop :=
  ∀ s t : State, s.coresSound = true → step s = .next t → t.coresSound = true

/-- O6: first in, first out: a step removes the front command and leaves the others as they stand, whatever the command does; with no
command waiting the block idles, which is the model's own choice (log 2). -/
def Obligations.QueueOrder : Prop :=
  (∀ (c : Instr) (rest : List Instr) (s t : State), s.pending = c :: rest → step s = .next t → t.pending = rest)
  ∧ (∀ s : State, s.pending = [] → step s = .next s)

/-- O7: no command but those that program, erase or cut an operation on the flash changes a byte of it (R66, R361, R417). -/
def Obligations.FlashFrame : Prop :=
  ∀ (c : Instr) (s t : State), c.writesFlash = false → exec c s = .next t →
    ∀ a : Nat, t.store.flash.read erased a = s.store.flash.read erased a

/-- O8: what a command of the ports leaves alone: the Sorrel cores with their memories and bits, the feed guard die, the Yarrow link,
the store, the command queue, the class tables in force, the ready map's word 0, the beat counter and the working parameters; the entry
to the service mode only takes earlier sessions' answers from the work under way (log 51). One that raises no fault leaves every other
port as it is. -/
def Obligations.PortCommandsFrame : Prop :=
  (∀ (c : Instr) (s t : State), c.onPort = true → exec c s = .next t →
    t.cores = s.cores ∧ t.shared = s.shared ∧ t.feed = s.feed ∧ t.pending = s.pending
    ∧ ((∀ p : PortId, c ≠ .serviceEnterMode p) → t.yarrow = s.yarrow ∧ t.store = s.store)
    ∧ t.store.flash = s.store.flash ∧ t.yarrow = { s.yarrow with fwd := t.yarrow.fwd }
    ∧ t.policy.classes = s.policy.classes ∧ t.dev.ready0 = s.dev.ready0 ∧ t.dev.keyRevoked = s.dev.keyRevoked
    ∧ t.dev.svcCfg = s.dev.svcCfg ∧ t.dev.txWin = s.dev.txWin ∧ t.dev.swWin = s.dev.swWin
    ∧ t.board.beat = s.board.beat ∧ t.board.svcOn = s.board.svcOn ∧ t.board.mainOn = s.board.mainOn
    ∧ t.board.holdover = s.board.holdover ∧ t.board.cause = s.board.cause)
  ∧ (∀ (c : Instr) (p q : PortId) (s t : State), c.portAlone = some p → q ≠ p → exec c s = .next t → t.port q = s.port q)

/-- O9: the beat counter counts at slot 0, whether or not holdover lasts, is cleared at service-domain power-on, and no other command
moves it while the service domain has power; TIME_GET reads it, and its low byte stands in the status mirror (R41). -/
def Obligations.BeatCounter : Prop :=
  (∀ (c : Instr) (s t : State), s.board.svcOn = true → t.board.svcOn = true → exec c s = .next t →
    t.board.beat = if c = .beat then s.board.beat + 1 else s.board.beat)
  ∧ (∀ (held testen edges : Bool) (s t : State), s.board.svcOn = false → t.board.svcOn = true →
    exec (.serviceDomainPowerOn held testen edges) s = .next t → t.board.beat = 0)
  ∧ (∀ s : State, s.mirror.toNat / 2 ^ 16 % 2 ^ 8 = s.board.beat.toNat % 2 ^ 8)
  ∧ (∀ (st : Stream) (c : Cmd) (u : State) (s : State), s.takes st 0x08 c u →
    exec (.timeGet st) s = .next (u.okay c (leBytes 6 s.board.beat.toNat ++ [if s.board.holdover then 1 else 0, 0])))


/-! ### Power, resets and links -/

/-- O10: service-domain power-on: the beat counter is cleared, TESTEN is sampled, the reference input is chosen by the edges seen and
the boot ROM is due; no port, core, queue or parameter changes. VSVC that comes while the domain runs stands behind the main rails (log
69). When the service domain loses power the hub and AFE dies lose all state; the feed guard die with its feeds, the key fuses and, where no
operation on it runs, the image store do not. -/
def Obligations.ServicePower : Prop :=
  (∀ (held testen edges : Bool) (s : State), s.board.svcOn = false →
      (held = true ∨ s.board.mainOn = true) →
    gives (.serviceDomainPowerOn held testen edges) s fun t => t.board.svcOn = true ∧ t.board.beat = 0 ∧ t.board.testen = testen ∧ t.board.refExternal = edges ∧ t.board.bootPending = true
        ∧ t.board.cause = 0 ∧ t.board.holdover = false ∧ (∀ d : Fin 4, t.board.afeLink[d] = (s.board.mainOn || d.val == 0))
        ∧ t.board.mainOn = s.board.mainOn ∧ t.dev.ready0 = s.dev.ready0 ∧ t.feed.on = s.feed.on
      ∧ t.ports = s.ports ∧ t.cores = s.cores ∧ t.pool = s.pool ∧ t.store = s.store
        ∧ t.dev = s.dev ∧ t.feed = s.feed ∧ t.faults = s.faults)
  ∧ (∀ (testen edges : Bool) (s : State), s.board.svcOn = true →
    exec (.serviceDomainPowerOn true testen edges) s = .next (s.modBoard fun b => { b with vsvcGood := true }))
  ∧ (∀ (s : State), s.board.svcOn = true →
    gives (.serviceDomainPowerOff) s fun t => t.board.svcOn = false ∧ t.dev.ready0 = 0 ∧ t.dev.keyRevoked = s.dev.keyRevoked ∧ t.feed.on = s.feed.on ∧ t.feed.linkUp = false ∧ t.store.op = none
      ∧ t.ports = State.reset.ports
        ∧ t.cores = State.reset.cores ∧ t.pool = State.reset.pool ∧ t.host = State.reset.host ∧ t.faults = State.reset.faults
        ∧ t.policy = State.reset.policy ∧ t.yarrow = State.reset.yarrow
        ∧ t.feed.inForce = s.feed.inForce ∧ t.feed.a = s.feed.a ∧ t.feed.b = s.feed.b
        ∧ t.feed.selected = s.feed.selected
        ∧ (s.store.op = none ∧ s.faults.snap = [] → t.store = s.store))

/-- O11: RESET_N and the deferred start of WARM and COLD_REQ reset the hub die and leave every port in defined idle, its pass switch open,
its P bit clear and its contexts at reset; the beat counter, the key fuses and the feeds stay. WARM and RESET_N keep the results of harness
calibration, the trim and CAL_FAILED or LOCKOUT, COLD_REQ discards them. Without power the ball is only recorded; its release ends the reset. -/
def Obligations.Resets : Prop :=
  (∀ (s : State), s.board.resetLow = false →
      s.board.svcOn = true →
    gives (.resetNAssert) s fun t => t.board.resetLow = true ∧ t.board.cause = 1 ∧ t.board.beat = s.board.beat ∧ t.dev.ready0 = 0
      ∧ State.resetBy 1 s t ∧ t.board.resetLow = true
        ∧ (∀ p : PortId, (t.port p).harn.keep2 = (s.port p).harn.keep2 ∧ (t.port p).harn.keep3 = (s.port p).harn.keep3
        ∧ (t.port p).harn.keep4a = (s.port p).harn.keep4a ∧ (t.port p).harn.keep4b = (s.port p).harn.keep4b)
        ∧ (∀ c : ClusterId, (t.cluster c).trimmed = (s.cluster c).trimmed))
  ∧ (∀ (s : State), s.board.resetLow = false →
      s.board.svcOn = false →
    exec (.resetNAssert) s = .next ({ s with board := { s.board with resetLow := true } }))
  ∧ (∀ (s : State), s.board.resetLow = true →
    gives (.resetNRelease) s fun t => t.board.resetLow = false ∧ t.board.beat = s.board.beat ∧ (s.board.svcOn = true → ∀ c : ClusterId, (s.board.mainOn = true ∨ c = 0) → (t.cluster c).senLow = true)
      ∧ (∀ p : PortId, t.port p = (s.port p).present (isService p)) ∧ t.store = s.store ∧ t.dev = s.dev ∧ t.pool = s.pool)
  ∧ (∀ (r : ResetReq) (s : State), s.board.resetReq = some r →
      r.cold = false →
      (r.read = true ∨ 25000 ≤ Beat.since s.now r.queued) →
    gives (.resetDeferredStart) s fun t => t.board.cause = 2
      ∧ State.resetBy 2 s t
        ∧ (∀ p : PortId, (t.port p).harn.keep2 = (s.port p).harn.keep2 ∧ (t.port p).harn.keep3 = (s.port p).harn.keep3
        ∧ (t.port p).harn.keep4a = (s.port p).harn.keep4a ∧ (t.port p).harn.keep4b = (s.port p).harn.keep4b)
        ∧ (∀ c : ClusterId, (t.cluster c).trimmed = (s.cluster c).trimmed))
  ∧ (∀ (r : ResetReq) (s : State), s.board.resetReq = some r →
      r.cold = true →
      (r.read = true ∨ 25000 ≤ Beat.since s.now r.queued) →
    gives (.resetDeferredStart) s fun t => t.board.cause = 3 ∧ (∀ c : ClusterId, (t.cluster c).trimmed = false)
      ∧ State.resetBy 3 s t
        ∧ (∀ p : PortId, (t.port p).harn = Harness.reset))

/-- O12: the main domain joins a running service domain without a boot or a reset; in ROM recovery only the pool grows. Its loss
with VSVC good clears its ready bits, raises F18, takes every port but P0–P3 to DISABLED, CAL_FAILED and LOCKOUT apart, opens the pass
switches of P0–P3 and stops their stages, and keeps S0, S8 and the feeds; without VSVC the service domain goes with it. -/
def Obligations.MainDomain : Prop :=
  (∀ (s : State), s.board.mainOn = false →
      s.board.svcOn = false →
    exec (.mainDomainRelease) s = .next ({ s with board := { s.board with mainOn := true, mainLost := false } }))
  ∧ (∀ (s : State), s.board.mainOn = false →
      s.board.svcOn = true →
      s.coreReady 8 = false →
      s.pool.capacity ≠ 0 →
    gives (.mainDomainRelease) s fun t => t.board.mainOn = true ∧ t.board.mainLost = false ∧ t.board.beat = s.board.beat
        ∧ t.board.bootPending = s.board.bootPending ∧ t.pool.capacity = 15856 ∧ t.pool.pdReserve = 512
      ∧ t.cores = s.cores ∧ t.store = s.store ∧ t.dev = s.dev)
  ∧ (∀ (s : State), s.board.mainOn = false →
      s.board.svcOn = true →
      s.coreReady 8 = true →
    gives (.mainDomainRelease) s fun t => t.board.mainOn = true ∧ t.board.beat = s.board.beat ∧ t.budget.due = true
        ∧ (∀ k : Fin 7, t.coreReady (k.val + 1) = true)
      ∧ t.core 0 = s.core 0 ∧ t.core 8 = s.core 8 ∧ t.store = s.store)
  ∧ (∀ (s : State), s.board.mainOn = true →
      s.board.svcOn = true →
      s.board.vsvcGood = false →
    exec (.mainLoss) s = .next (s.powerOff))
  ∧ (∀ (s : State), s.board.mainOn = true →
      s.board.svcOn = true →
      s.board.resetLow = false →
      s.board.vsvcGood = true →
    gives (.mainLoss) s fun t => t.board.mainOn = false ∧ t.board.svcOn = true ∧ t.board.beat = s.board.beat
        ∧ t.dev.ready0 &&& 0x007FE7F0#32 = 0 ∧ t.raisedAt 18 = true
      ∧ t.core 0 = s.core 0 ∧ t.core 8 = s.core 8 ∧ t.store = s.store
        ∧ t.feed = s.feed ∧ (∀ p : PortId, isService p = false → (t.port p).tc.st = (if (s.port p).tc.st = .calFailed ∨ (s.port p).tc.st = .lockout then (s.port p).tc.st
        else .disabled) ∧ (t.port p).tc.pReady = false ∧ (t.port p).cfg = (s.port p).cfg)
        ∧ (∀ p : PortId, isService p = true → (t.port p).guard.gateOn = false ∧ (t.port p).stage.mode = .idle))

/-- O13: the reference is lost: the clusters' ready bits clear, every port is DISABLED with its pass switch open, its stage idle and its P
bit clear, and F0 is raised; when it returns the ports stay so, and a cluster whose trim has completed is ready again at once. A die without
markers does the same for its 24 ports and raises its own source. A port in CAL_FAILED or LOCKOUT stays there (R98, R114). -/
def Obligations.Links : Prop :=
  (∀ (s : State), s.board.svcOn = true →
      s.board.resetLow = false →
      s.board.holdover = false →
    gives (.refLoss) s fun t => t.board.holdover = true ∧ t.dev.ready0 &&& 0x000FF000#32 = 0 ∧ t.raisedAt 0 = true
      ∧ (∀ i : Fin 12, t.ready i.val = s.ready i.val) ∧ (∀ p : PortId, (t.port p).tc.st = (if (s.port p).tc.st.down then (s.port p).tc.st else .disabled) ∧ (t.port p).tc.pReady = false
        ∧ (t.port p).guard.gateOn = false ∧ (t.port p).stage.mode = .idle) ∧ t.cores = s.cores ∧ t.feed = s.feed)
  ∧ (∀ (s : State), s.board.svcOn = true →
      s.board.holdover = true →
    gives (.refRestored) s fun t => t.board.holdover = false
      ∧ t.ports = s.ports ∧ t.cores = s.cores
        ∧ (s.coreReady 8 = true → s.board.resetLow = false → ∀ c : ClusterId, (s.board.mainOn = true ∨ c = 0) → s.board.afeLink[dieOf c] = true →
        (s.cluster c).trimmed = true → t.clusterReady c.val = true))
  ∧ (∀ (d : Fin 4) (s : State), s.board.svcOn = true →
      s.board.resetLow = false →
      s.board.afeLink[d] = true →
      (s.board.mainOn = true ∨ d = 0) →
    gives (.afeLink d) s fun t => t.board.afeLink[d] = false ∧ t.raisedAt (1 + d.val) = true
        ∧ t.clusterReady (2 * d.val) = false ∧ t.clusterReady (2 * d.val + 1) = false
      ∧ (∀ p : PortId, p.val / 24 = d.val → (t.port p).tc.st = (if (s.port p).tc.st.down then (s.port p).tc.st else .disabled)
        ∧ (t.port p).tc.pReady = false ∧ (t.port p).guard.gateOn = false ∧ (t.port p).stage.mode = .idle) ∧ t.cores = s.cores ∧ t.feed = s.feed)
  ∧ (∀ (d : Fin 4) (s : State), s.board.svcOn = true →
      s.board.afeLink[d] = false →
      (s.board.mainOn = true ∨ d = 0) →
    gives (.afeLinkRestore d) s fun t => t.board.afeLink[d] = true
      ∧ t.ports = s.ports ∧ t.cores = s.cores ∧ t.feed = s.feed
        ∧ (s.coreReady 8 = true → s.board.holdover = false → s.board.resetLow = false → ∀ c : ClusterId, dieOf c = d → (s.cluster c).trimmed = true →
        t.clusterReady c.val = true))

/-- O14: boot at the first beat: with TESTEN high only HOSTPORT becomes ready, and BOOT_REPORT is the first event that Q9 holds; with no
valid slot the module enters ROM recovery with HOSTPORT, CRUCIBLE and NVM ready, and raises F16 where no configuration verifies either; else
the slot chosen runs and S0 and S8 are ready. The flash stays. -/
def Obligations.Boot : Prop :=
  (∀ (s : State), s.board.svcOn = true →
      s.board.bootPending = true →
      s.board.resetLow = false →
      s.pool = Pool.reset →
      s.board.testen = true →
    gives (.bootRomStart) s fun t => t.board.bootPending = false ∧ t.dev.ready0 = s.dev.ready0 ||| 1
        ∧ t.pool.capacity = (if s.board.mainOn then 15856 else 4048)
        ∧ ((t.pool.queues[qEvent]).closed.map Packet.data).head? = some (eventBytes 0xC0 0x7F false (bootReport t.board)))
  ∧ (∀ (s : State), s.board.svcOn = true →
      s.board.bootPending = true →
      s.board.resetLow = false →
      s.pool = Pool.reset →
      s.board.testen = false →
      (s.store.choose s.dev.keyRevoked).1 = none →
    gives (.bootRomStart) s fun t => t.board.bootPending = false ∧ t.board.recovery = true ∧ t.board.runSlot = none
        ∧ t.ready 0 = true ∧ t.ready 1 = true ∧ t.ready 2 = true ∧ t.store.flash = s.store.flash
        ∧ (s.store.newest = none → t.raisedAt 16 = true))
  ∧ (∀ (i : Bool) (s : State), s.board.svcOn = true →
      s.board.bootPending = true →
      s.board.resetLow = false →
      s.pool = Pool.reset →
      s.board.testen = false →
      (s.store.choose s.dev.keyRevoked).1 = some i →
    gives (.bootRomStart) s fun t => t.board.bootPending = false ∧ t.board.recovery = false ∧ t.board.runSlot = some i
        ∧ t.board.runSeq = BitVec.ofNat 32 (s.store.slotSeq i) ∧ t.store.flash = s.store.flash
        ∧ t.ready 0 = true ∧ t.ready 1 = true ∧ t.ready 2 = true ∧ t.coreReady 0 = true ∧ t.coreReady 8 = true)

/-- O15: slot 0 of a beat: the counter and the auxiliary pass advance; while the hub die runs, class table and severity writes come
into force, no forced raise stays due, and the command queue, the image store and the core memories stay; while RESET_N holds it only the counter
and the age of the trunk value advance. Without power nothing happens. -/
def Obligations.SlotZero : Prop :=
  (∀ (s : State), s.board.svcOn = true →
      s.board.resetLow = false →
    gives (.beat) s fun t => t.board.beat = s.board.beat + 1 ∧ t.board.passIdx = (s.board.passIdx + 1) % 9
        ∧ t.board.oddPass = (if s.board.passIdx = 8 then !s.board.oddPass else s.board.oddPass)
        ∧ t.policy.writes = [] ∧ t.faults.forceDue = [] ∧ t.faults.sevNext = none ∧ t.pending = s.pending
      ∧ t.policy.classes = (if s.policy.writes.isEmpty then s.policy.classes else s.policy.written)
        ∧ t.faults.sev = s.faults.sevNext.getD s.faults.sev
        ∧ t.store = s.store
        ∧ (∀ k : CoreId, (t.core k).data = (s.core k).data ∧ (t.core k).bundleMem = (s.core k).bundleMem))
  ∧ (∀ (s : State), s.board.svcOn = true →
      s.board.resetLow = true →
    exec (.beat) s = .next ((s.modBoard Board.advance).modFeed fun f => { f with trunkAge := min 100000 (f.trunkAge + 1) }))
  ∧ (∀ (s : State), s.board.svcOn = false →
    exec (.beat) s = .next (s))

/-- O16: the beat frame of a core: entry starts the handler with A7 at 0x8000 at byte address 0 of CODE and takes the beat stamp, and
a core that had stopped takes up its ports' work; an interruptible repeat that runs at the end of slot 15 is kept; any other running
handler is stopped, counted and reported; an extension call enters at 0xE000 with the cycles left; an illegal operation stops the handler,
counts a trap, keeps its address and raises TRAP. The other cores and the core's data memory stay. -/
def Obligations.CoreFrame : Prop :=
  (∀ (k : CoreId) (s : State), s.coreReady k.val = true →
      (s.core k).running = false →
      (s.core k).paused = false →
      (s.core k).extStop = false →
      (s.core k).extStart = false →
      ((s.core k).beatLat ≠ s.now ∨ (s.core k).flagFirst = true) →
      (s.core k).stopped = false →
    gives (.beatEntry k) s fun t => (t.core k).running = true ∧ (t.core k).pc = 0 ∧ (t.core k).a[(7 : Fin 8)] = 0x8000#16
        ∧ (t.core k).beatLat = s.now ∧ (t.core k).cycles = 0 ∧ (t.core k).rstack = [] ∧ (t.core k).data = (s.core k).data
        ∧ (t.core k).flagFirst = false
      ∧ (∀ j : CoreId, j ≠ k → t.core j = s.core j) ∧ t.ports = s.ports ∧ t.pool = s.pool)
  ∧ (∀ (k : CoreId) (s : State), s.coreReady k.val = true →
      (s.core k).stopped = true →
      ((s.core k).beatLat ≠ s.now ∨ (s.core k).flagFirst = true) →
    exec (.beatEntry k) s = .next ((s.enterBeat k).resumeCore k))
  ∧ (∀ (k : CoreId) (s : State), (s.core k).running = true →
      (s.core k).pausable = true →
    gives (.repeatPause k) s fun t => (t.core k).running = false ∧ (t.core k).paused = true ∧ (t.core k).rep = (s.core k).rep
        ∧ (t.core k).a = (s.core k).a ∧ (t.core k).data = (s.core k).data
      ∧ (∀ j : CoreId, j ≠ k → t.core j = s.core j)
        ∧ t.ports = s.ports ∧ t.pool = s.pool ∧ t.faults = s.faults)
  ∧ (∀ (k : CoreId) (s : State), (s.core k).running = true →
      (s.core k).pausable = false →
      (s.core k).inflight = [] →
    gives (.beatOverrun k) s fun t => (t.core k).running = false ∧ (t.core k).flagOverrun = true ∧ (t.core k).trapAddr = (s.core k).pc
        ∧ (t.core k).overruns = satIncr (s.core k).overruns ∧ (t.core k).data = (s.core k).data
        ∧ t.raisedAt (192 + k.val) = true
      ∧ (∀ j : CoreId, j ≠ k → t.core j = s.core j))
  ∧ (∀ (k : CoreId) (s : State), (s.core k).running = true →
      (s.core k).extState = 2 →
      (s.core k).extCalled = false →
      (s.core k).rep = none →
      (s.core k).waiting = false →
      (s.core k).bundle = [] →
      (s.core k).delay = none →
      (s.core k).pc.toNat < 0xE000 →
      (s.core k).rstack.length ≤ 7 →
      (s.core k).inflight = [] →
    gives (.extensionCall k) s fun t => (t.core k).pc = 0xE000#16 ∧ (t.core k).rstack = (s.core k).pc :: (s.core k).rstack
        ∧ (t.core k).extLeft = 1875 - (s.core k).cycles ∧ (t.core k).a[(0 : Fin 8)] = BitVec.ofNat 16 (1875 - (s.core k).cycles)
        ∧ (t.core k).inExt = true ∧ (t.core k).data = (s.core k).data
      ∧ (∀ j : CoreId, j ≠ k → t.core j = s.core j) ∧ t.ports = s.ports ∧ t.pool = s.pool)
  ∧ (∀ (k : CoreId) (why : IllegalWhy) (s : State), (s.core k).running = true →
      (s.core k).rep = none →
      (s.core k).waiting = false →
      (s.core k).cycles < 1875 →
      (s.core k).inflight = [] →
      (∀ j : CoreId, j ≠ k → (s.core j).waiting = false) →
    gives (.illegalOperation k why) s fun t => (t.core k).running = false ∧ (t.core k).flagTrap = true
        ∧ (t.core k).trapAddr = (s.core k).pc ∧ (t.core k).traps = satIncr (s.core k).traps ∧ t.raisedAt (201 + k.val) = true
        ∧ (t.core k).data = (s.core k).data
      ∧ (∀ j : CoreId, j ≠ k → t.core j = s.core j))

/-! ### Attach, orientation and detach (chapter 05) -/

/-- O17: CC_STATE_UPDATE with the hub die running: the two line states become those of the beat's slots (State.line1, State.line2), and
the clamp of R127 shows whether the ground reference, less its offset, lies outside −0.25 V to +0.50 V. While the port's core runs, a
termination in UNATTACHED_SRC and Rp in UNATTACHED_SNK, of a port that is not mute, enter AttachWait with tCCDebounce; the loss of every
termination in ATTACHWAIT_SRC starts tPDDebounce and ends the two-current check; an open active line in ATTACHED_SRC starts tSrcDisconnect;
the state and its timers stay in DISABLED, CALIBRATING, CAL_FAILED, ERROR_RECOVERY, DRY_WAIT and LOCKOUT, and while the core is stopped. -/
def Obligations.CcUpdate : Prop :=
  (∀ (p : PortId) (l1 l2 : List CcSample) (gsn : Int) (s : State), s.hubRuns = true →
    gives (.ccStateUpdate p ⟨l1, l2⟩ gsn) s fun t => (t.port p).tc.cc1 = s.line1 p l1
      ∧ (t.port p).tc.cc2 = s.line2 p l2
      ∧ (t.port p).phy.gsnClamp = decide (gsn - (s.port p).harn.gsnOfs.toInt < -2500 ∨ 5000 < gsn - (s.port p).harn.gsnOfs.toInt))
  ∧ (∀ (p : PortId) (l1 l2 : List CcSample) (gsn : Int) (s : State), s.hubRuns = true →
      s.fw p = true →
      (s.port p).tc.st = .unattachedSrc →
      (s.port p).tc.mute = false →
      (s.line1 p l1).termSrc = true ∨ (s.line2 p l2).termSrc = true →
    gives (.ccStateUpdate p ⟨l1, l2⟩ gsn) s fun t => (t.port p).tc.st = .attachWaitSrc
      ∧ (t.port p).timers[tCc] = Timer.armed' .ccDebounce (s.port p).tCcDeb
      ∧ (t.port p).pd = (s.port p).pd
      ∧ (t.port p).ctx = (s.port p).ctx)
  ∧ (∀ (p : PortId) (l1 l2 : List CcSample) (gsn : Int) (s : State), s.hubRuns = true →
      s.fw p = true →
      (s.port p).tc.st = .unattachedSnk →
      (s.port p).tc.mute = false →
      (s.line1 p l1).isRp = true ∨ (s.line2 p l2).isRp = true →
    gives (.ccStateUpdate p ⟨l1, l2⟩ gsn) s fun t => (t.port p).tc.st = .attachWaitSnk
      ∧ (t.port p).timers[tCc] = Timer.armed' .ccDebounce (s.port p).tCcDeb
      ∧ (t.port p).pd = (s.port p).pd
      ∧ (t.port p).ctx = (s.port p).ctx)
  ∧ (∀ (p : PortId) (l1 l2 : List CcSample) (gsn : Int) (s : State), s.hubRuns = true →
      s.fw p = true →
      (s.port p).tc.st = .attachWaitSrc →
      (s.line1 p l1).termSrc = false →
      (s.line2 p l2).termSrc = false →
      (s.port p).use tCc ≠ .pdDebounce →
    gives (.ccStateUpdate p ⟨l1, l2⟩ gsn) s fun t => (t.port p).tc.st = .attachWaitSrc
      ∧ (t.port p).timers[tCc] = Timer.armed' .pdDebounce (s.port p).tPdDeb
      ∧ (t.port p).tc.rdCheck = none)
  ∧ (∀ (p : PortId) (l1 l2 : List CcSample) (gsn : Int) (s : State), s.hubRuns = true →
      s.fw p = true →
      (s.port p).tc.st = .attachedSrc →
      (s.port p).srcHeld = false →
      (s.port p).use tCc ≠ .srcDisconnect →
      (if (s.port p).tc.orient then s.line2 p l2 else s.line1 p l1) = .opened →
    gives (.ccStateUpdate p ⟨l1, l2⟩ gsn) s fun t => (t.port p).tc.st = .attachedSrc
      ∧ (t.port p).timers[tCc] = Timer.armed' .srcDisconnect (s.port p).tSrcDisc
      ∧ (t.port p).pd = (s.port p).pd
      ∧ (t.port p).stage = (s.port p).stage
      ∧ (t.port p).guard = (s.port p).guard)
  ∧ (∀ (p : PortId) (l1 l2 : List CcSample) (gsn : Int) (s : State), s.fw p = false ∨ (s.port p).tc.st = .disabled ∨ (s.port p).tc.st = .calibrating ∨ (s.port p).tc.st = .calFailed ∨ (s.port p).tc.st = .errorRecovery ∨ (s.port p).tc.st = .dryWait ∨ (s.port p).tc.st = .lockout →
    gives (.ccStateUpdate p ⟨l1, l2⟩ gsn) s fun t => (t.port p).tc.st = (s.port p).tc.st
      ∧ (t.port p).timers = (s.port p).timers
      ∧ (t.port p).pd = (s.port p).pd
      ∧ (t.port p).stage = (s.port p).stage
      ∧ (t.port p).guard = (s.port p).guard)

/-- O18: tCCDebounce as Source starts the two-current check on each line that shows Rd, but with both Rd on a port without service it is a
debug accessory, and with both Ra an audio accessory; with Try.SNK it enters TRY_SNK. tCCDebounce as Sink with VBUS attaches, from AttachWait
with Rp on both lines as debug accessory and with Try.SRC to TRY_SRC; without VBUS it waits for it. tPDDebounce returns to the unattached
state of the role (log 57), and in Hard Reset recovery detaches a Sink. -/
def Obligations.Debounces : Prop :=
  (∀ (p : PortId) (s : State), s.due p tCc .ccDebounce = true →
      (s.port p).tc.st = .attachWaitSrc →
      (s.port p).tc.cc1 = .rd →
      (s.port p).tc.cc2 ≠ .rd →
      (s.port p).tc.role ≠ 2 ∨ (s.port p).tc.tryMode ≠ 2 →
    gives (.ccDebounceExpiry p) s fun t => (t.port p).tc.st = .attachWaitSrc
      ∧ (t.port p).tc.rdCheck = some ⟨some false, none, 0, 0⟩
      ∧ (t.port p).timers[tCc] = Timer.idle
      ∧ (t.port p).pd = (s.port p).pd
      ∧ t.pool = s.pool)
  ∧ (∀ (p : PortId) (s : State), s.due p tCc .ccDebounce = true →
      (s.port p).tc.st = .attachWaitSrc →
      (s.port p).tc.cc1 ≠ .rd →
      (s.port p).tc.cc2 = .rd →
      (s.port p).tc.role ≠ 2 ∨ (s.port p).tc.tryMode ≠ 2 →
    gives (.ccDebounceExpiry p) s fun t => (t.port p).tc.st = .attachWaitSrc
      ∧ (t.port p).tc.rdCheck = some ⟨none, some false, 0, 0⟩
      ∧ (t.port p).timers[tCc] = Timer.idle
      ∧ (t.port p).pd = (s.port p).pd
      ∧ t.pool = s.pool)
  ∧ (∀ (p : PortId) (s : State), s.due p tCc .ccDebounce = true →
      (s.port p).tc.st = .attachWaitSrc →
      (s.port p).tc.cc1 = .rd →
      (s.port p).tc.cc2 = .rd →
      isService p = true →
    gives (.ccDebounceExpiry p) s fun t => (t.port p).tc.st = .attachWaitSrc
      ∧ (t.port p).tc.rdCheck = some ⟨some false, some false, 0, 0⟩
      ∧ (t.port p).pd = (s.port p).pd)
  ∧ (∀ (p : PortId) (s : State), s.due p tCc .ccDebounce = true →
      (s.port p).tc.st = .attachWaitSrc →
      (s.port p).tc.cc1 = .rd →
      (s.port p).tc.cc2 = .rd →
      isService p = false →
    gives (.ccDebounceExpiry p) s fun t => (t.port p).tc.st = .debugAccSrc
      ∧ (t.port p).tc.orient = false
      ∧ (t.port p).pd.dfp = true
      ∧ (t.port p).phy.cal = .safe
      ∧ (t.port p).stage.want = (s.port p).stage.want)
  ∧ (∀ (p : PortId) (s : State), s.due p tCc .ccDebounce = true →
      (s.port p).tc.st = .attachWaitSrc →
      ((s.port p).tc.cc1 = .rd ∧ (s.port p).tc.cc2 ≠ .rd) ∨ ((s.port p).tc.cc1 ≠ .rd ∧ (s.port p).tc.cc2 = .rd) →
      (s.port p).tc.role = 2 →
      (s.port p).tc.tryMode = 2 →
    gives (.ccDebounceExpiry p) s fun t => (t.port p).tc.st = .trySnk
      ∧ (t.port p).timers[tCc] = Timer.armed' .drpTry (s.port p).tDrpTry
      ∧ (t.port p).timers[tHealth] = Timer.armed' .tryWait (s.port p).tTryWait)
  ∧ (∀ (p : PortId) (s : State), s.due p tCc .ccDebounce = true →
      (s.port p).tc.st = .attachWaitSrc →
      (s.port p).tc.cc1 = .ra →
      (s.port p).tc.cc2 = .ra →
    gives (.ccDebounceExpiry p) s fun t => (t.port p).tc.st = .audioAcc
      ∧ (t.port p).pd = (s.port p).pd
      ∧ (t.port p).phy = (s.port p).phy
      ∧ (t.port p).stage = (s.port p).stage)
  ∧ (∀ (p : PortId) (s : State), s.due p tCc .ccDebounce = true →
      ((s.port p).tc.st = .attachWaitSnk ∧ ((s.port p).tc.cc1.isRp = false ∨ (s.port p).tc.cc2.isRp = false) ∧ ((s.port p).tc.role ≠ 2 ∨ (s.port p).tc.tryMode ≠ 1)) ∨ (s.port p).tc.st = .tryWaitSnk →
      (s.port p).vbusPresent = true →
    gives (.ccDebounceExpiry p) s fun t => (t.port p).tc.st = .attachedSnk
      ∧ (t.port p).tc.orient = ((s.port p).tc.cc1 == .opened || (s.port p).tc.cc1 == .ra)
      ∧ (t.port p).pd.powerSource = false
      ∧ (t.port p).pd.dfp = false
      ∧ (t.port p).pd.attachSource = false
      ∧ (t.port p).phy.cal = .safe
      ∧ (t.port p).phy.applied = (s.port p).phy.safe
      ∧ (t.port p).timers[tCaps] = Timer.armed' .sinkWaitCap (ms 465))
  ∧ (∀ (p : PortId) (s : State), s.due p tCc .ccDebounce = true →
      (s.port p).tc.st = .attachWaitSnk →
      (s.port p).tc.cc1.isRp = true →
      (s.port p).tc.cc2.isRp = true →
      (s.port p).vbusPresent = true →
    gives (.ccDebounceExpiry p) s fun t => (t.port p).tc.st = .debugAccSnk
      ∧ (t.port p).pd.powerSource = false
      ∧ (t.port p).pd.dfp = false
      ∧ (t.port p).stage.want = (s.port p).stage.want)
  ∧ (∀ (p : PortId) (s : State), s.due p tCc .ccDebounce = true →
      (s.port p).tc.st = .attachWaitSnk →
      (s.port p).tc.cc1.isRp = false ∨ (s.port p).tc.cc2.isRp = false →
      (s.port p).tc.role = 2 →
      (s.port p).tc.tryMode = 1 →
      (s.port p).vbusPresent = true →
    gives (.ccDebounceExpiry p) s fun t => (t.port p).tc.st = .trySrc
      ∧ (t.port p).timers[tCc] = Timer.armed' .drpTry (s.port p).tDrpTry
      ∧ (t.port p).timers[tHealth] = Timer.armed' .tryTimeout (s.port p).tTryTimeout)
  ∧ (∀ (p : PortId) (s : State), s.due p tCc .ccDebounce = true →
      (s.port p).tc.st = .attachWaitSnk ∨ (s.port p).tc.st = .tryWaitSnk →
      (s.port p).vbusPresent = false →
    gives (.ccDebounceExpiry p) s fun t => (t.port p).tc = { (s.port p).tc with debounced := true }
      ∧ (t.port p).timers[tCc] = Timer.idle
      ∧ (t.port p).pd = (s.port p).pd
      ∧ t.pool = s.pool)
  ∧ (∀ (p : PortId) (s : State), s.due p tCc .pdDebounce = true →
      (s.port p).tc.st = .attachWaitSrc →
    gives (.pdDebounceExpiry p) s fun t => (t.port p).tc.st = (if (s.port p).entrySide false then .unattachedSnk else .unattachedSrc)
      ∧ (t.port p).tc.role = (s.port p).roleOf
      ∧ (t.port p).pd = (s.port p).pd)
  ∧ (∀ (p : PortId) (s : State), s.due p tCc .pdDebounce = true →
      (s.port p).tc.st = .attachWaitSnk ∨ (s.port p).tc.st = .tryWaitSnk →
    gives (.pdDebounceExpiry p) s fun t => (t.port p).tc.st = (if (s.port p).entrySide true then .unattachedSnk else .unattachedSrc)
      ∧ (t.port p).tc.role = (s.port p).roleOf
      ∧ (t.port p).pd = (s.port p).pd)
  ∧ (∀ (p : PortId) (s : State), s.due p tCc .pdDebounce = true →
      (s.port p).tc.st = .attachedSnk ∨ (s.port p).tc.st = .debugAccSnk →
      (s.port p).pd.recov ≠ none →
      (s.port p).srcHeld = false →
    gives (.pdDebounceExpiry p) s fun t => (t.port p).tc.st = (if (s.port p).entrySide true then .unattachedSnk else .unattachedSrc)
      ∧ (t.port p).pd.contract = Contract.none
      ∧ (t.port p).guard.gateOn = false)

/-- O19: the Try states and the DRP toggle: each expiry named below moves the port to the state its rule names, and arms that state’s timers; a
Try or TryWait state that finds VBUS not yet as its attach needs it keeps the debounced termination. -/
def Obligations.TryAndToggle : Prop :=
  (∀ (p : PortId) (s : State), s.due p tCc .tryDebounce = true →
      (s.port p).tc.st = .trySrc ∨ (s.port p).tc.st = .tryWaitSrc →
      (s.port p).vSafe0 = true →
    gives (.tryCcDebounceExpiry p) s fun t => (t.port p).tc.st = .attachedSrc
      ∧ (t.port p).tc.orient = ((s.port p).tc.cc1 != .rd)
      ∧ (t.port p).pd.powerSource = true
      ∧ (t.port p).stage.want = .forward
      ∧ (t.port p).stage.vTgt = 250)
  ∧ (∀ (p : PortId) (s : State), s.due p tCc .tryDebounce = true →
      (s.port p).tc.st = .trySrc ∨ (s.port p).tc.st = .tryWaitSrc →
      (s.port p).vSafe0 = false →
    gives (.tryCcDebounceExpiry p) s fun t => (t.port p).tc = { (s.port p).tc with debounced := true }
      ∧ (t.port p).pd = (s.port p).pd)
  ∧ (∀ (p : PortId) (s : State), s.due p tCc .tryDebounce = true →
      (s.port p).tc.st = .trySnk →
      (s.port p).vbusPresent = true →
    gives (.tryCcDebounceExpiry p) s fun t => (t.port p).tc.st = .attachedSnk
      ∧ (t.port p).pd.powerSource = false)
  ∧ (∀ (p : PortId) (s : State), s.due p tCc .tryDebounce = true →
      (s.port p).tc.st = .trySnk →
      (s.port p).vbusPresent = false →
    gives (.tryCcDebounceExpiry p) s fun t => (t.port p).tc = { (s.port p).tc with tryHeld := true }
      ∧ (t.port p).pd = (s.port p).pd)
  ∧ (∀ (p : PortId) (s : State), s.due p tCc .drpToggle = true →
      (s.port p).roleOf = 2 →
      (s.port p).tc.st = .unattachedSrc →
    gives (.drpToggleExpiry p) s fun t => (t.port p).tc.st = .unattachedSnk
      ∧ (t.port p).timers[tCc] = Timer.armed' .drpToggle ((s.port p).tDrp - (s.port p).srcPart)
      ∧ (t.port p).pd = (s.port p).pd)
  ∧ (∀ (p : PortId) (s : State), s.due p tCc .drpToggle = true →
      (s.port p).roleOf = 2 →
      (s.port p).tc.st = .unattachedSnk →
    gives (.drpToggleExpiry p) s fun t => (t.port p).tc.st = .unattachedSrc
      ∧ (t.port p).timers[tCc] = Timer.armed' .drpToggle (s.port p).srcPart
      ∧ (t.port p).pd = (s.port p).pd)
  ∧ (∀ (p : PortId) (s : State), s.due p tCc .drpToggle = true →
      (s.port p).roleOf = 0 ∨ (s.port p).roleOf = 1 →
      (s.port p).tc.st.unattached = true →
    gives (.drpToggleExpiry p) s fun t => (t.port p).tc.st = (if (s.port p).roleOf = 1 then .unattachedSnk else .unattachedSrc)
      ∧ (t.port p).tc.role = (s.port p).roleOf
      ∧ (t.port p).timers[tCc] = Timer.idle)
  ∧ (∀ (p : PortId) (s : State), s.due p tCc .drpTry = true →
      (s.port p).tc.st = .trySrc →
    gives (.drpTryExpiry p) s fun t => (t.port p).tc.st = .tryWaitSnk
      ∧ (t.port p).timers[tCc] = Timer.armed' .pdDebounce (s.port p).tPdDeb)
  ∧ (∀ (p : PortId) (s : State), s.due p tCc .drpTry = true →
      (s.port p).tc.st = .trySnk →
    gives (.drpTryExpiry p) s fun t => (t.port p).tc = { (s.port p).tc with debounced := true }
      ∧ (t.port p).timers[tCc] = (if ((s.port p).tc.cc1.isRp || (s.port p).tc.cc2.isRp) = true then Timer.armed' .tryDebounce (s.port p).tTryDeb else Timer.idle))
  ∧ (∀ (p : PortId) (s : State), s.due p tCc .drpTry = true →
      (s.port p).tc.st = .tryWaitSrc →
    gives (.drpTryExpiry p) s fun t => (t.port p).tc.st = (if (s.port p).entrySide true then .unattachedSnk else .unattachedSrc))
  ∧ (∀ (p : PortId) (s : State), s.due p tHealth .tryWait = true →
      (s.port p).tc.st = .trySnk →
    gives (.tryWaitExpiry p) s fun t => (t.port p).tc.st = .tryWaitSrc
      ∧ (t.port p).timers[tCc] = Timer.armed' .drpTry (s.port p).tDrpTry)
  ∧ (∀ (p : PortId) (s : State), s.due p tHealth .tryTimeout = true →
      (s.port p).tc.st = .trySrc →
    gives (.tryTimeoutExpiry p) s fun t => (t.port p).tc.st = .tryWaitSnk
      ∧ (t.port p).timers[tCc] = Timer.armed' .pdDebounce (s.port p).tPdDeb)

/-- O20: ATTACH_SRC_ENTRY with VBUS below 0.80 V attaches the port as Source and takes the line with Rd as the CC line; the two-current check passes a
line, or sends the port to DRY_WAIT as implausible; with both lines passed the port is a debug accessory. -/
def Obligations.SourceAttach : Prop :=
  (∀ (p : PortId) (s : State), s.fw p = true →
      (s.port p).srcEntryDue = true →
      (s.port p).vSafe0 = true →
    gives (.attachSrcEntry p) s fun t => (t.port p).tc.st = .attachedSrc
      ∧ (t.port p).tc.orient = ((s.port p).tc.cc1 != .rd)
      ∧ (t.port p).pd.powerSource = true
      ∧ (t.port p).pd.dfp = true
      ∧ (t.port p).pd.attachSource = true
      ∧ (t.port p).pd.capsDue = true
      ∧ (t.port p).phy.cal = .safe
      ∧ (t.port p).phy.applied = (s.port p).phy.safe
      ∧ (t.port p).stage.want = .forward
      ∧ (t.port p).stage.vTgt = 250)
  ∧ (∀ (p : PortId) (uv1 uv2 : Int) (k : RdCheck) (s : State), s.fw p = true →
      (s.port p).tc.st = .attachWaitSrc →
      (s.port p).tc.rdCheck = some k →
      k.line1 = some false →
      k.n1 = 2 →
      k.line2 ≠ some false →
      (s.port p).tc.cc1 ≠ .rd ∨ (s.port p).tc.cc2 ≠ .rd →
      rdPass (s.port p).rpLevel ((s.port p).rpOf == 0) (s.port p).harn.rCc.toNat uv1 uv2 = true →
    gives (.rdCheckComplete p .cc1 uv1 uv2) s fun t => (t.port p).tc = { (s.port p).tc with rdCheck := none, rdDone := true }
      ∧ (t.port p).pd = (s.port p).pd
      ∧ t.pool = s.pool)
  ∧ (∀ (p : PortId) (uv1 uv2 : Int) (k : RdCheck) (s : State), s.fw p = true →
      (s.port p).tc.st = .attachWaitSrc →
      (s.port p).tc.rdCheck = some k →
      k.line2 = some false →
      k.n2 = 2 →
      k.line1 ≠ some false →
      (s.port p).tc.cc1 ≠ .rd ∨ (s.port p).tc.cc2 ≠ .rd →
      rdPass (s.port p).rpLevel ((s.port p).rpOf == 0) (s.port p).harn.rCc.toNat uv1 uv2 = true →
    gives (.rdCheckComplete p .cc2 uv1 uv2) s fun t => (t.port p).tc = { (s.port p).tc with rdCheck := none, rdDone := true }
      ∧ (t.port p).pd = (s.port p).pd
      ∧ t.pool = s.pool)
  ∧ (∀ (p : PortId) (uv1 uv2 : Int) (k : RdCheck) (s : State), s.fw p = true →
      (s.port p).tc.st = .attachWaitSrc →
      (s.port p).tc.rdCheck = some k →
      k.line1 = some false →
      k.n1 = 2 →
      k.line2 = some false →
      rdPass (s.port p).rpLevel ((s.port p).rpOf == 0) (s.port p).harn.rCc.toNat uv1 uv2 = true →
    gives (.rdCheckComplete p .cc1 uv1 uv2) s fun t => (t.port p).tc = { (s.port p).tc with rdCheck := some { k with line1 := some true } }
      ∧ (t.port p).pd = (s.port p).pd)
  ∧ (∀ (p : PortId) (uv1 uv2 : Int) (k : RdCheck) (s : State), s.fw p = true →
      (s.port p).tc.st = .attachWaitSrc →
      (s.port p).tc.rdCheck = some k →
      k.line2 = some false →
      k.n2 = 2 →
      k.line1 ≠ some false →
      (s.port p).tc.cc1 = .rd →
      (s.port p).tc.cc2 = .rd →
      rdPass (s.port p).rpLevel ((s.port p).rpOf == 0) (s.port p).harn.rCc.toNat uv1 uv2 = true →
    gives (.rdCheckComplete p .cc2 uv1 uv2) s fun t => (t.port p).tc.st = .debugAccSrc
      ∧ (t.port p).pd.powerSource = true)
  ∧ (∀ (p : PortId) (l : Line) (uv1 uv2 : Int) (k : RdCheck) (s : State), s.fw p = true →
      (s.port p).tc.st = .attachWaitSrc →
      (s.port p).tc.rdCheck = some k →
      (l = .cc1 ∧ k.line1 = some false ∧ k.n1 = 2) ∨ (l = .cc2 ∧ k.line2 = some false ∧ k.n2 = 2) →
      rdPass (s.port p).rpLevel ((s.port p).rpOf == 0) (s.port p).harn.rCc.toNat uv1 uv2 = false →
    gives (.rdCheckComplete p l uv1 uv2) s fun t => (t.port p).tc.st = .dryWait
      ∧ (t.port p).moist.rdImplausible = true
      ∧ (t.port p).moist.why = some .rdImplausible
      ∧ (t.port p).timers[tHealth] = Timer.armed' .dryRecheck (25000 * fld (s.port p).cfg.dryRecheck 0 16)
      ∧ (t.port p).tc.pres1 = .none
      ∧ (t.port p).tc.pres2 = .none)

/-- O21: detach: a Source, debug Source or audio accessory after its disconnect time, unless a PR_Swap holds it, and a Sink after three
beats below its threshold leave for the unattached state that the rule names, or the one of a role that has changed (log 57); the
contract ends, VCONN and the gate turn off, Planish stops. ERROR_RECOVERY ends, once nothing holds it, in the state of its role, or in
calibration where it was entered from there. -/
def Obligations.Detach : Prop :=
  (∀ (p : PortId) (s : State), s.due p tCc .srcDisconnect = true →
      (s.port p).tc.st = .attachedSrc ∨ (s.port p).tc.st = .debugAccSrc ∨ (s.port p).tc.st = .audioAcc →
      (s.port p).srcHeld = false →
    gives (.srcDisconnectExpiry p) s fun t => (t.port p).tc.st = (if (s.port p).entrySide ((s.port p).roleOf == 2) then .unattachedSnk else .unattachedSrc)
      ∧ (t.port p).tc.role = (s.port p).roleOf
      ∧ (t.port p).pd.contract = Contract.none
      ∧ (t.port p).tc.vconnOn = false
      ∧ (t.port p).guard.gateOn = false
      ∧ (t.port p).stage.mode = .idle
      ∧ (t.port p).phy.cal = .off
      ∧ (t.port p).stage.disH = true
      ∧ (t.port p).cfg = (s.port p).cfg
      ∧ t.faults = s.faults)
  ∧ (∀ (p : PortId) (s : State), (s.port p).srcHeld = true →
    exec (.srcDisconnectExpiry p) s = .next (s))
  ∧ (∀ (p : PortId) (s : State), s.fw p = true →
      (s.port p).tc.st = .attachedSnk ∨ (s.port p).tc.st = .debugAccSnk →
      (s.port p).detachHeld = false →
      3 ≤ (s.port p).stage.runs.sinkLow →
    gives (.sinkDetach p) s fun t => (t.port p).tc.st = (if (s.port p).entrySide true then .unattachedSnk else .unattachedSrc)
      ∧ (t.port p).tc.role = (s.port p).roleOf
      ∧ (t.port p).pd.contract = Contract.none
      ∧ (t.port p).tc.vconnOn = false
      ∧ (t.port p).guard.gateOn = false
      ∧ (t.port p).phy.cal = .off
      ∧ (t.port p).cfg = (s.port p).cfg
      ∧ t.faults = s.faults)
  ∧ (∀ (p : PortId) (s : State), s.due p tCc .errorRecovery = true →
      (s.port p).tc.st = .errorRecovery →
      s.faults.hold = false →
      (s.port p).tc.tripWait = false ∨ (s.port p).coolEnough = true →
      (s.port p).tc.errFromCal = false →
    gives (.errorRecoveryExpiry p) s fun t => (t.port p).tc.st.unattached = true
      ∧ ((s.port p).roleOf = 0 → (t.port p).tc.st = .unattachedSrc)
      ∧ ((s.port p).roleOf = 1 → (t.port p).tc.st = .unattachedSnk)
      ∧ (t.port p).tc.role = (s.port p).roleOf
      ∧ (t.port p).pd = (s.port p).pd
      ∧ t.faults = s.faults)
  ∧ (∀ (p : PortId) (s : State), s.due p tCc .errorRecovery = true →
      (s.port p).tc.st = .errorRecovery →
      s.faults.hold = false →
      (s.port p).tc.tripWait = false ∨ (s.port p).coolEnough = true →
      (s.port p).tc.errFromCal = true →
    gives (.errorRecoveryExpiry p) s fun t => (t.port p).tc.st = .calibrating
      ∧ (t.port p).harn.step = some .s1
      ∧ (t.port p).harn.status = 1)
  ∧ (∀ (p : PortId) (s : State), s.faults.hold = true ∨ ((s.port p).tc.tripWait = true ∧ (s.port p).coolEnough = false) →
    exec (.errorRecoveryExpiry p) s = .next (s))

/-- O22: VCONN_OC opens VCONN, records the trip, takes VCONN_OK and the plug’s SVIDs away, and raises the port's source; the monitor of a
cluster's VCONN supply turns good after eight good samples, and not-good after eight bad ones, when every VCONN of the cluster opens. -/
def Obligations.Vconn : Prop :=
  (∀ (p : PortId) (lim : Bool) (s : State), (s.port p).tc.vconnOn = true →
    gives (.vconnOc p lim) s fun t => (t.port p).tc.vconnOn = false
      ∧ (t.port p).tc.vconnOc = true
      ∧ (t.port p).tc.st = (s.port p).tc.st
      ∧ ((t.port p).ctxOf .sop1).vconnOk = false
      ∧ ((t.port p).ctxOf .sop2).vconnOk = false
      ∧ t.raisedAt (64 + p.val) = true
      ∧ (t.port p).pd.svids.all (fun e => !e.tgt1) = true
      ∧ (t.port p).cfg = (s.port p).cfg)
  ∧ (∀ (c : ClusterId) (xs : List Int) (s : State), s.senDriven c = true →
      xs.length = 8 →
      (s.cluster c).vconnGood = false →
      xs.all vconnGoodSample = true →
    gives (.cnVconnMonitor c xs) s fun t => (t.cluster c).vconnGood = true
      ∧ t.ports = s.ports
      ∧ t.faults = s.faults)
  ∧ (∀ (c : ClusterId) (xs : List Int) (s : State), s.senDriven c = true →
      xs.length = 8 →
      (s.cluster c).vconnGood = true →
      xs.all vconnBadSample = true →
    gives (.cnVconnMonitor c xs) s fun t => (t.cluster c).vconnGood = false
      ∧ (∀ i : Fin 12, (t.port (portOf c i)).tc.vconnOn = false)
      ∧ (∀ i : Fin 12, (s.port (portOf c i)).tc.vconnOn = true → t.raisedAt (64 + (portOf c i).val) = true))

/-! ### Harness calibration and moisture -/

/-- O23: the steps of harness calibration, while the port's core runs: a step within its bounds stores its value and leads on — step 1 to step 2, or with a complete
set of kept values to the end with these in force; step 2 to an unattached state; step 3 to 4a, 4a to 4b with the bleeder on, its reading taken
less the offset of step 1, 4b, corrected by the gain, to the release, and the release to COMPLETE with the P bit set. Step 1 or 2 out of its
bounds, and 4a below 0.35 V, fail the calibration with their causes and raise the port's source. A termination ends steps 3 and 4, and
HARN_CAL_DEFERRED_START takes up the step that was ended where the port may calibrate; BLEEDER_OVERVOLTAGE opens the bleeder; the eighth
drifting conversion in a row raises the port's source and leaves the contract. The edges that the manual leaves open are the model's (log 58). -/
def Obligations.Calibration : Prop :=
  (∀ (p : PortId) (v g : Int) (s : State), (s.port p).harn.step = some .s1 →
      (s.port p).harn.complete = false →
      v.natAbs ≤ 500 →
      g.natAbs ≤ 500 →
      s.fw p = true →
    gives (.harnCalStep p (.offsets v g)) s fun t => (t.port p).harn.vbsOfs = half v
      ∧ (t.port p).harn.gsnOfs = half g
      ∧ (t.port p).harn.step = some .s2
      ∧ (t.port p).tc.st = (s.port p).tc.st
      ∧ (t.port p).pd = (s.port p).pd
      ∧ t.faults = s.faults)
  ∧ (∀ (p : PortId) (v g : Int) (s : State), (s.port p).harn.step = some .s1 →
      (s.port p).harn.complete = true →
      v.natAbs ≤ 500 →
      g.natAbs ≤ 500 →
      s.fw p = true →
    gives (.harnCalStep p (.offsets v g)) s fun t => (t.port p).harn.step = none
      ∧ (t.port p).harn.status = 2
      ∧ (t.port p).harn.rCc = (s.port p).harn.keep2.getD 0
      ∧ (t.port p).harn.rDrop = (s.port p).harn.keep4b.getD 0
      ∧ (t.port p).tc.pReady = true
      ∧ ((t.port p).tc.st.unattached = true ∨ ((t.port p).tc.st = .attachedSnk ∧ isService p = true)))
  ∧ (∀ (p : PortId) (v g : Int) (s : State), (s.port p).harn.step = some .s1 →
      500 < v.natAbs ∨ 500 < g.natAbs →
      s.fw p = true →
    gives (.harnCalStep p (.offsets v g)) s fun t => (t.port p).tc.st = .calFailed
      ∧ (t.port p).tc.pReady = false
      ∧ (t.port p).harn.status = 4
      ∧ (t.port p).harn.cause = 1
      ∧ t.raisedAt (64 + p.val) = true)
  ∧ (∀ (p : PortId) (v0 v10 : Int) (s : State), (s.port p).harn.step = some .s2 →
      0 ≤ v10 - v0 →
      v10 - v0 ≤ 200000 →
      s.fw p = true →
    gives (.harnCalStep p (.conductor v0 v10)) s fun t => (t.port p).harn.rCc = half ((v10 - v0) / 10)
      ∧ (t.port p).harn.step = none
      ∧ (t.port p).harn.status = 3
      ∧ ((t.port p).tc.st.unattached = true ∨ ((t.port p).tc.st = .attachedSnk ∧ isService p = true))
      ∧ t.faults = s.faults)
  ∧ (∀ (p : PortId) (v0 v10 : Int) (s : State), (s.port p).harn.step = some .s2 →
      200010 ≤ v10 - v0 →
      s.fw p = true →
    gives (.harnCalStep p (.conductor v0 v10)) s fun t => (t.port p).tc.st = .calFailed
      ∧ (t.port p).harn.cause = 2
      ∧ t.raisedAt (64 + p.val) = true)
  ∧ (∀ (p : PortId) (v1 v2 : Nat) (s : State), (s.port p).harn.step = some .s3 →
      110000 ≤ v1 →
      110000 ≤ v2 →
      s.fw p = true →
    gives (.harnCalStep p (.capacitance v1 v2)) s fun t => (t.port p).harn.step = some .s4a
      ∧ (t.port p).harn.cCc1 = BitVec.ofNat 16 ((165000000 + v1 / 2) / v1)
      ∧ (t.port p).harn.cCc2 = BitVec.ofNat 16 ((165000000 + v2 / 2) / v2)
      ∧ (t.port p).harn.capHigh = decide (1200 < (165000000 + v1 / 2) / v1 ∨ 1200 < (165000000 + v2 / 2) / v2)
      ∧ (t.port p).stage.vTgt = 35)
  ∧ (∀ (p : PortId) (vbh raw : Int) (s : State), (s.port p).harn.step = some .s4a →
      3500 ≤ vbh →
      ((raw - (s.port p).harn.vbsOfs.toInt) * 100 - vbh * 100).natAbs ≤ vbh.natAbs * 2 →
      s.fw p = true →
    gives (.harnCalStep p (.gain vbh raw)) s fun t => (t.port p).harn.step = some .s4b
      ∧ (t.port p).harn.gain = (vbh * 65536 / (raw - (s.port p).harn.vbsOfs.toInt)).toNat
      ∧ (t.port p).harn.bleeder = true
      ∧ (t.port p).stage = (s.port p).stage)
  ∧ (∀ (p : PortId) (vbh raw v : Int) (s : State), (s.port p).harn.step = some .s4b →
      (s.port p).harn.bleeder = true →
      v = (s.port p).corrected raw →
      1000 ≤ v →
      0 ≤ ((vbh - v) * 20 * 1000 + v / 2) / v →
      ((vbh - v) * 20 * 1000 + v / 2) / v ≤ 2000 →
      s.fw p = true →
    gives (.harnCalStep p (.drop vbh raw)) s fun t => (t.port p).harn.step = some .s4c
      ∧ (t.port p).harn.rDrop = half (((vbh - v) * 20 * 1000 + v / 2) / v)
      ∧ (t.port p).stage.vTgt = 0
      ∧ (t.port p).stage.mode = .idle
      ∧ (t.port p).guard.gateOn = false)
  ∧ (∀ (p : PortId) (vbh raw : Int) (s : State), (s.port p).harn.step = some .s4a →
      vbh < 3500 →
      s.fw p = true →
    gives (.harnCalStep p (.gain vbh raw)) s fun t => (t.port p).tc.st = .calFailed
      ∧ (t.port p).harn.cause = 5
      ∧ t.raisedAt (64 + p.val) = true)
  ∧ (∀ (p : PortId) (n : Nat) (s : State), (s.port p).harn.step = some .s4c →
      n ≤ 50 →
      s.fw p = true →
    gives (.harnCalStep p (.release n)) s fun t => (t.port p).harn.step = none
      ∧ (t.port p).harn.status = 2
      ∧ (t.port p).tc.pReady = true
      ∧ (t.port p).harn.bleeder = false
      ∧ (t.port p).tc.st = (s.port p).tc.st)
  ∧ (∀ (p : PortId) (k : CalStep) (s : State), (s.port p).harn.step = some k →
      k ≠ .s1 →
      k ≠ .s2 →
      s.fw p = true →
    gives (.harnCalStep p .termination) s fun t => (t.port p).harn.step = none
      ∧ (t.port p).harn.status = 3
      ∧ (t.port p).harn.resume = k
      ∧ (t.port p).harn.bleeder = false
      ∧ (t.port p).tc.st = (s.port p).tc.st)
  ∧ (∀ (p : PortId) (s : State), (s.port p).calMayRun s.feedOn = true →
      s.fw p = true →
    gives (.harnCalDeferredStart p) s fun t => (t.port p).harn.step = some (s.port p).harn.resume
      ∧ (t.port p).harn.status = 1
      ∧ (t.port p).tc = (s.port p).tc
      ∧ t.pool = s.pool)
  ∧ (∀ (p : PortId) (s : State), 
    exec (.bleederOvervoltage p) s = .next (s.modPort p fun x => { x with harn := { x.harn with bleeder := false } }))
  ∧ (∀ (p : PortId) (s : State), (s.port p).pd.contract.pos ≠ 0 →
      (s.port p).stage.runs.drift = 8 →
    gives (.harnDrift p) s fun t => t.raisedAt (64 + p.val) = true
      ∧ (t.port p).tc.st = (s.port p).tc.st
      ∧ (t.port p).pd = (s.port p).pd)

/-- O24: a sweep of 32 passes that saw a termination is recorded as INVALID, and its counter stays; any other records its class,
its readings and its beat, and is counted. Where it finds nothing wet and nothing corroded the state stays outside DRY_WAIT, and one that is
dry, or has no reading below WET, lifts the mute; one that finds the same index wet again takes the port to DRY_WAIT or to LOCKOUT, as the class
names. In DRY_WAIT one that finds nothing wet or corroded ends it where it is dry, and for an entry by corrosion free of corrosion, and else
RECHECK is armed again; the recheck timer of DRY_WAIT starts a sweep. The second conversion in a row of 4.0 V or more on an SBU line raises
the port's source; three of the last five CC samples above 6.0 V raise it, remove the line's Rp and open VCONN where it is on that line. -/
def Obligations.MoistureAndLeaks : Prop :=
  (∀ (p : PortId) (z : List Nat) (o : List Int) (rd1 rd2 : Bool) (s : State), s.fw p = true →
      (s.port p).sweepOver = true →
      (s.port p).moist.term = true →
    gives (.moistureSweepEnd p z o rd1 rd2) s fun t => (t.port p).moist.cls = 5
      ∧ (t.port p).moist.sweeps = (s.port p).moist.sweeps
      ∧ (t.port p).moist.beat = s.now
      ∧ (t.port p).tc = (s.port p).tc
      ∧ (t.port p).moist.pass = 0
      ∧ t.faults = s.faults)
  ∧ (∀ (p : PortId) (z : List Nat) (o : List Int) (rd1 rd2 : Bool) (v : Verdict) (s : State), s.fw p = true →
      (s.port p).sweepOver = true →
      (s.port p).moist.term = false →
      v = (s.port p).judgeSweep rd1 rd2 z o →
      v.wet = none →
      v.corr = none →
      (s.port p).tc.st ≠ .dryWait →
    gives (.moistureSweepEnd p z o rd1 rd2) s fun t => (t.port p).moist.cls = (if v.dry then 1 else 2)
      ∧ (t.port p).moist.sweeps = satIncr (s.port p).moist.sweeps
      ∧ (t.port p).moist.beat = s.now
      ∧ (t.port p).moist.pass = 0
      ∧ (t.port p).tc.wet = false
      ∧ (t.port p).tc.corroded = false
      ∧ (t.port p).tc.mute = ((s.port p).tc.mute && !(v.dry || v.clear))
      ∧ (t.port p).tc.st = (s.port p).tc.st
      ∧ (t.port p).moist.z = Vector.ofFn (fun i => BitVec.ofNat 16 (zReport (s.port p).moist.skipped z i.val))
      ∧ (t.port p).moist.ofs = Vector.ofFn (fun i => half (o.getD i.val 0))
      ∧ t.faults = s.faults)
  ∧ (∀ (p : PortId) (z : List Nat) (o : List Int) (rd1 rd2 : Bool) (i : Nat) (s : State), s.fw p = true →
      (s.port p).sweepOver = true →
      (s.port p).moist.term = false →
      ((s.port p).judgeSweep rd1 rd2 z o).wet = some i →
      ((s.port p).judgeSweep rd1 rd2 z o).corr = none →
      s.moistOutcome p ptMoistWet = ocDryWait →
      (s.port p).tc.st ≠ .dryWait →
    gives (.moistureSweepEnd p z o rd1 rd2) s fun t => (t.port p).tc.st = .dryWait
      ∧ (t.port p).moist.why = some .wet
      ∧ (t.port p).moist.cls = 3
      ∧ (t.port p).moist.sweeps = satIncr (s.port p).moist.sweeps
      ∧ (t.port p).tc.wet = true
      ∧ (t.port p).tc.pres1 = .none
      ∧ (t.port p).tc.pres2 = .none
      ∧ (t.port p).timers[tHealth] = Timer.armed' .dryRecheck (25000 * fld (s.port p).cfg.dryRecheck 0 16))
  ∧ (∀ (p : PortId) (z : List Nat) (o : List Int) (rd1 rd2 : Bool) (i : Nat) (s : State), s.fw p = true →
      (s.port p).sweepOver = true →
      (s.port p).moist.term = false →
      ((s.port p).judgeSweep rd1 rd2 z o).wet = some i →
      s.moistOutcome p ptMoistWet = ocLockout →
    gives (.moistureSweepEnd p z o rd1 rd2) s fun t => (t.port p).tc.st = .lockout
      ∧ (t.port p).moist.cls = 3
      ∧ (t.port p).guard.gateOn = false
      ∧ (t.port p).tc.pReady = false)
  ∧ (∀ (p : PortId) (z : List Nat) (o : List Int) (rd1 rd2 : Bool) (s : State), s.fw p = true →
      (s.port p).sweepOver = true →
      (s.port p).moist.term = false →
      ((s.port p).judgeSweep rd1 rd2 z o).wet = none →
      ((s.port p).judgeSweep rd1 rd2 z o).corr = none →
      ((s.port p).judgeSweep rd1 rd2 z o).dry = true →
      (s.port p).tc.st = .dryWait →
      (s.port p).moist.why ≠ some .corroded ∨ corrIdx (s.port p).corrMv (s.port p).moist.skipped o = [] →
    gives (.moistureSweepEnd p z o rd1 rd2) s fun t => (t.port p).tc.st.unattached = true
      ∧ (t.port p).tc.role = (s.port p).roleOf
      ∧ (t.port p).moist.why = none
      ∧ (t.port p).moist.cls = 1
      ∧ (t.port p).moist.sweeps = satIncr (s.port p).moist.sweeps
      ∧ (t.port p).tc.mute = false)
  ∧ (∀ (p : PortId) (z : List Nat) (o : List Int) (rd1 rd2 : Bool) (s : State), s.fw p = true →
      (s.port p).sweepOver = true →
      (s.port p).moist.term = false →
      ((s.port p).judgeSweep rd1 rd2 z o).wet = none →
      ((s.port p).judgeSweep rd1 rd2 z o).corr = none →
      (s.port p).tc.st = .dryWait →
      ((s.port p).judgeSweep rd1 rd2 z o).dry = false ∨ ((s.port p).moist.why = some .corroded ∧ corrIdx (s.port p).corrMv (s.port p).moist.skipped o ≠ []) →
    gives (.moistureSweepEnd p z o rd1 rd2) s fun t => (t.port p).tc.st = .dryWait
      ∧ (t.port p).moist.running = false
      ∧ (t.port p).moist.sweeps = satIncr (s.port p).moist.sweeps
      ∧ (t.port p).timers[tHealth] = Timer.armed' .dryRecheck (25000 * fld (s.port p).cfg.dryRecheck 0 16))
  ∧ (∀ (p : PortId) (z : List Nat) (o : List Int) (rd1 rd2 : Bool) (s : State), (s.port p).sweepOver = false →
    exec (.moistureSweepEnd p z o rd1 rd2) s = .next (s))
  ∧ (∀ (p : PortId) (s : State), s.due p tHealth .dryRecheck = true →
      (s.port p).tc.st = .dryWait →
    gives (.dryRecheckExpiry p) s fun t => (t.port p).moist.running = true
      ∧ (t.port p).moist.pass = 0
      ∧ (t.port p).timers[tHealth] = Timer.idle
      ∧ (t.port p).tc = (s.port p).tc
      ∧ t.pool = s.pool)
  ∧ (∀ (p : PortId) (sbu2 : Bool) (mv1 mv2 : Int) (s : State), (s.port p).leakEn = true →
      (s.port p).tc.st.pd = true →
      (s.port p).moist.leakRun.get (if sbu2 then 1 else 0) = 2 →
      4000 ≤ mv1 →
      4000 ≤ mv2 →
    gives (.vbusLeak p sbu2 mv1 mv2) s fun t => t.raisedAt (64 + p.val) = true
      ∧ (t.port p).tc.st = (s.port p).tc.st
      ∧ (t.port p).pd = (s.port p).pd)
  ∧ (∀ (p : PortId) (l : Line) (xs : List Int) (s : State), (s.port p).leakEn = true →
      (s.port p).tc.st.pd = true →
      xs.length = 5 →
      3 ≤ (xs.filter fun v => decide (6000 < v)).length →
    gives (.ccLeakTrip p l xs) s fun t => t.raisedAt (64 + p.val) = true
      ∧ (t.port p).tc.st = (s.port p).tc.st
      ∧ (l = .cc1 → ∀ v : BitVec 2, (t.port p).tc.pres1 ≠ .rp v)
      ∧ (l = .cc2 → ∀ v : BitVec 2, (t.port p).tc.pres2 ≠ .rp v)
      ∧ ((s.port p).vconnOnLine l = true → (t.port p).tc.vconnOn = false))

/-! ### Trims and Planish (chapter 06) -/

/-- O25: a cluster's trim ends after 5 ms: with nothing out of range its C bit is set, with an ADC whose offset needs more than ±127 codes it
is not, and the cluster's source is raised. An ADC's zero trim moves one code toward zero at most after 16 zero conversions, within −127 to
127, and stands for the next slot 0; without a zero reading for one second it is stale. -/
def Obligations.Trims : Prop :=
  (∀ (c : ClusterId) (z0 z1 : List Int) (s : State), (s.cluster c).trimming = true →
      s.clusterLinked c = true →
      1250 ≤ Beat.since s.now (s.cluster c).trimBeat →
      (s.cluster c).trimPart = .whole →
      trimBad z0 = false →
      trimBad z1 = false →
      (s.cluster c).trimStart = false →
    gives (.clusterTrimComplete c [] [] z0 z1) s fun t => (t.cluster c).trimming = false
      ∧ (t.cluster c).trimmed = true
      ∧ t.clusterReady c.val = true
      ∧ ((t.cluster c).adcAt false).trim = trimCode z0
      ∧ ((t.cluster c).adcAt true).trim = trimCode z1
      ∧ t.cores = s.cores
      ∧ t.feed = s.feed
      ∧ t.store = s.store)
  ∧ (∀ (c : ClusterId) (rp rd : List PortId) (z0 z1 : List Int) (s : State), (s.cluster c).trimming = true →
      s.clusterLinked c = true →
      1250 ≤ Beat.since s.now (s.cluster c).trimBeat →
      (s.cluster c).trimPart.coversAdc false = true →
      trimBad z0 = true →
      ((s.cluster c).adcAt false).atEnd = false →
      ((s.cluster c).adcAt false).refBad = false →
    gives (.clusterTrimComplete c rp rd z0 z1) s fun t => t.raisedAt (8 + c.val) = true
      ∧ t.dev.ready0 = s.dev.ready0
      ∧ t.cores = s.cores
      ∧ t.feed = s.feed
      ∧ t.store = s.store)
  ∧ (∀ (c : ClusterId) (second : Bool) (zeros refs : List Int) (s : State), s.adcPowered c second = true →
      (((s.cluster c).adcAt second).zeros ++ zeros).length = 16 →
      (trimStep ((s.cluster c).adcAt second).trim (((s.cluster c).adcAt second).zeros ++ zeros)).natAbs < 127 →
      ((s.cluster c).adcAt second).refRun < 4 →
      refs = [] →
    gives (.adcTrimUpdate c second zeros refs) s fun t => ((t.cluster c).adcAt second).trimNext = trimStep ((s.cluster c).adcAt second).trim (((s.cluster c).adcAt second).zeros ++ zeros)
      ∧ ((t.cluster c).adcAt second).trim = ((s.cluster c).adcAt second).trim
      ∧ ((t.cluster c).adcAt second).zeros = []
      ∧ ((t.cluster c).adcAt second).stale = false
      ∧ t.ports = s.ports
      ∧ t.faults = s.faults)
  ∧ (∀ (c : ClusterId) (second : Bool) (zeros refs : List Int) (s : State), s.adcPowered c second = true →
      (((s.cluster c).adcAt second).zeros ++ zeros).length = 16 →
      127 ≤ (trimStep ((s.cluster c).adcAt second).trim (((s.cluster c).adcAt second).zeros ++ zeros)).natAbs →
      ((s.cluster c).adcAt second).atEnd = false →
      ((s.cluster c).adcAt second).refBad = false →
    gives (.adcTrimUpdate c second zeros refs) s fun t => t.raisedAt (8 + c.val) = true
      ∧ t.cores = s.cores)
  ∧ (∀ (t0 : Int) (zeros : List Int), t0.natAbs ≤ 127 → (trimStep t0 zeros).natAbs ≤ 127 ∧ (trimStep t0 zeros - t0).natAbs ≤ 1)
  ∧ (∀ (c : ClusterId) (second : Bool) (s : State), s.adcPowered c second = true →
      250000 ≤ Beat.since s.now ((s.cluster c).adcAt second).lastZero →
    gives (.adcStale c second) s fun t => ((t.cluster c).adcAt second).stale = true
      ∧ t.ports = s.ports
      ∧ t.faults = s.faults
      ∧ t.pool = s.pool)

/-- O26: an accepted training sample is stored among the newest four and counted, a discarded one only counted, one that is no sample of
the port neither, and the sampler is free again; nothing is trained in OFF or with training disabled. The shadow set is applied after 50 µs
of idle on both sides, counted, and never while HOLD is set, but for a safe set that is due. -/
def Obligations.Planish : Prop :=
  (∀ (p : PortId) (o : TrainObs) (s : State), (s.cluster (clusterOf p)).sampler = some p →
      (s.port p).phy.cal = .off ∨ (s.port p).phy.trainEn = false →
    gives (.trainingSample p o) s fun t => (t.cluster (clusterOf p)).sampler = none
      ∧ t.ports = s.ports)
  ∧ (∀ (p : PortId) (o : TrainObs) (s : State), (s.cluster (clusterOf p)).sampler = some p →
      (s.port p).phy.cal ≠ .off →
      (s.port p).phy.trainEn = true →
      judgeSample o = .discarded →
    gives (.trainingSample p o) s fun t => (t.port p).phy = { (s.port p).phy with discarded := satIncr (s.port p).phy.discarded }
      ∧ (t.cluster (clusterOf p)).sampler = none)
  ∧ (∀ (p : PortId) (o : TrainObs) (s : State), (s.cluster (clusterOf p)).sampler = some p →
      judgeSample o = .noSample →
    gives (.trainingSample p o) s fun t => (t.port p).phy = (s.port p).phy
      ∧ (t.cluster (clusterOf p)).sampler = none
      ∧ t.ports = s.ports)
  ∧ (∀ (p : PortId) (o : TrainObs) (s : State), (s.cluster (clusterOf p)).sampler = some p →
      (s.port p).phy.cal = .fallback →
      (s.port p).phy.trainEn = true →
      judgeSample o = .accepted →
    gives (.trainingSample p o) s fun t => (t.port p).phy = (s.port p).phy.accept o
      ∧ (t.cluster (clusterOf p)).sampler = none
      ∧ t.faults = s.faults)
  ∧ (∀ (p : PortId) (o : TrainObs) (s : State), (s.cluster (clusterOf p)).sampler = some p →
      (s.port p).phy.cal = .safe ∨ (s.port p).phy.cal = .training ∨ (s.port p).phy.cal = .converged →
      (s.port p).phy.trainEn = true →
      judgeSample o = .accepted →
      (s.port p).phy.whole = false →
      outOfRange s.dev (((s.port p).phy.accept o).rebuild s.dev) = none →
    gives (.trainingSample p o) s fun t => (t.port p).phy.shadow = (((s.port p).phy.accept o).rebuild s.dev).shadow
      ∧ (t.port p).phy.applied = (s.port p).phy.applied
      ∧ (t.port p).phy.txs = ((s.port p).phy.accept o).txs
      ∧ (t.port p).phy.rxs = ((s.port p).phy.accept o).rxs
      ∧ (t.cluster (clusterOf p)).sampler = none
      ∧ t.faults = s.faults)
  ∧ (∀ (f : Phy) (tR tF : Nat) (vH vL : Int), f.accept (.tx true false tR tF vH vL) =
      { f with txs := ((⟨tR, tF, vH, vL⟩ : TxSample) :: f.txs).take 4, txN := satIncr f.txN, lastTx := some ⟨tR, tF, vH, vL⟩ })
  ∧ (∀ (p : PortId) (idle : Nat) (s : State), 100 ≤ idle →
      (s.port p).phyQuiet = true →
      (s.port p).phy.cal ≠ .off →
      (s.port p).phy.shadow ≠ (s.port p).phy.applied →
      (s.port p).phyHold = false ∨ (s.port p).phy.whole = true →
    gives (.shadowApply p idle) s fun t => (t.port p).phy.applied = (s.port p).phy.shadow
      ∧ (t.port p).phy.steps = satIncr (s.port p).phy.steps
      ∧ (t.port p).phy.lastApply = s.now
      ∧ (t.port p).tc.st = (s.port p).tc.st
      ∧ (t.port p).pd = (s.port p).pd)
  ∧ (∀ (p : PortId) (idle : Nat) (s : State), (s.port p).phyHold = true →
      (s.port p).phy.whole = false →
    exec (.shadowApply p idle) s = .next (s))

/-! ### The PHY (chapters 06 and 07) -/

/-- O27: a well-formed packet for a context of an attached port is queued and its GoodCRC becomes due; one with the
MessageID last seen is not queued again but acknowledged again; a broken one is dropped, and one that finds no cell is counted
and not acknowledged. The GoodCRC that is due leaves after the line gap with the MessageID received. -/
def Obligations.PhyReceive : Prop :=
  (∀ (p : PortId) (w : WirePacket) (g : Tgt) (r : RxMsg) (m : Pool) (s : State), w.sop = .sop g →
      (s.port p).accepts s.now w g = true →
      (hType w.header ≠ 1 ∧ hType w.header ≠ 13) ∨ hObjs w.header ≠ 0 ∨ hExt w.header = true →
      ((s.port p).ctxOf g).rxValid = false ∨ hId w.header ≠ ((s.port p).ctxOf g).rxId →
      (s.port p).inPower = false →
      ((s.port p).ctxOf g).asm = none →
      s.txIdle p = true →
      s.rxCount p = 0 →
      s.pool.pushPd (qRx (clusterOf p)) p { mkPacket s.pool (.rx p g ((s.port p).ctxOf g).epoch s.now) (u16 w.header.toNat ++ w.body) with flaw := w.flaw } = some m →
      msgOf (mkPacket s.pool (.rx p g ((s.port p).ctxOf g).epoch s.now) (u16 w.header.toNat ++ w.body)) = some r →
      kindOf (s.port p) r ≠ .plain →
    gives (.packetReceive p w) s fun t => (t.port p).pd.owed = some ⟨g, hId w.header⟩
      ∧ ((t.port p).ctxOf g).rxId = hId w.header
      ∧ ((t.port p).ctxOf g).rxValid = true
      ∧ t.rxCount p = 1
      ∧ (t.port p).tc = (s.port p).tc
      ∧ (t.port p).stage = (s.port p).stage
      ∧ (t.port p).guard = (s.port p).guard
      ∧ (t.port p).pd.contract = (s.port p).pd.contract)
  ∧ (∀ (p : PortId) (w : WirePacket) (g : Tgt) (s : State), w.sop = .sop g →
      (s.port p).accepts s.now w g = true →
      (hType w.header ≠ 1 ∧ hType w.header ≠ 13) ∨ hObjs w.header ≠ 0 ∨ hExt w.header = true →
      ((s.port p).ctxOf g).rxValid = true →
      hId w.header = ((s.port p).ctxOf g).rxId →
      s.rxCount p = 0 →
    gives (.packetReceive p w) s fun t => (t.port p).pd.owed = some ⟨g, hId w.header⟩
      ∧ t.rxCount p = 0
      ∧ (t.port p).ctx = (s.port p).ctx
      ∧ (t.port p).tc = (s.port p).tc
      ∧ (t.port p).stage = (s.port p).stage)
  ∧ (∀ (p : PortId) (w : WirePacket) (s : State), w.crcOk = false ∨ w.wellFormed = false →
    gives (.packetReceive p w) s fun t => (t.port p).pd = (s.port p).pd
      ∧ (t.port p).ctx = (s.port p).ctx
      ∧ (t.port p).timers = (s.port p).timers
      ∧ t.pool = s.pool
      ∧ t.faults = s.faults
      ∧ t.cores = s.cores)
  ∧ (∀ (p : PortId) (w : WirePacket) (g : Tgt) (s : State), w.sop = .sop g →
      (s.port p).accepts s.now w g = true →
      (hType w.header ≠ 1 ∧ hType w.header ≠ 13) ∨ hObjs w.header ≠ 0 ∨ hExt w.header = true →
      ((s.port p).ctxOf g).rxValid = false ∨ hId w.header ≠ ((s.port p).ctxOf g).rxId →
      s.rxCount p = 0 →
      s.pool.pushPd (qRx (clusterOf p)) p { mkPacket s.pool (.rx p g ((s.port p).ctxOf g).epoch s.now) (u16 w.header.toNat ++ w.body) with flaw := w.flaw } = none →
    gives (.packetReceive p w) s fun t => (t.port p).pd = (s.port p).pd
      ∧ (t.port p).ctx = (s.port p).ctx
      ∧ t.pool.rxNoCell = satIncr s.pool.rxNoCell
      ∧ t.rxCount p = 0)
  ∧ (∀ (p : PortId) (idle : Nat) (o : Owed) (s : State), (s.port p).pd.owed = some o →
      100 ≤ idle →
      84 ≤ (s.port p).sinceLine →
      (s.port p).transmits s.now = false →
      (s.port p).pd.start = none →
    gives (.goodcrcTransmit p idle) s fun t => (t.port p).pd = { (s.port p).pd with owed := none, onLine := some (s.now, 149), lastOut := some (o.tgt, wireHeader (s.port p) o.tgt o.id 1) }
      ∧ (t.port p).ctx = (s.port p).ctx
      ∧ (t.port p).timers = (s.port p).timers
      ∧ t.pool = s.pool
      ∧ (t.port p).tc = (s.port p).tc)

/-- O28: an attempt that may start does so with the header the PHY completes; its GoodCRC ends the message OK and advances
TX_ID, on a plug's target only with VCONN_OK and Cable Plug; one with another MessageID does nothing; tReceive after the EOP and not before, or a
collision within the preamble and not after it, leads to the next attempt, after N_RETRY retries to TX_FAIL, which tReceive on SOP answers with
Soft_Reset; a TX_INTEGRITY of a message for a plug ends it at once and raises F210. -/
def Obligations.PhyTransmit : Prop :=
  (∀ (p : PortId) (idle : Nat) (f : Flight) (s : State), (s.port p).pd.flight = some f →
      (s.port p).mayTransmit s.now idle = true →
    gives (.txAttemptStart p idle) s fun t => (t.port p).pd = { (s.port p).pd with first := false, flight := some { f with attempts := f.attempts + 1, onWire := true, begun := s.now }, onLine := some (s.now, f.bits), unsent := (if f.tgt == .sop && (f.why == .sourceCaps || f.why == .capsReply || f.why == .chunk) then none else (s.port p).pd.unsent), lastOut := some (f.tgt, wireHeader (s.port p) f.tgt ((s.port p).ctxOf f.tgt).txId (rdNat f.packet.data 0 2) ++ f.packet.data.drop 2) }
      ∧ (t.port p).ctx = (s.port p).ctx
      ∧ (t.port p).timers = (s.port p).timers
      ∧ t.pool = s.pool
      ∧ (t.port p).tc = (s.port p).tc)
  ∧ (∀ (p : PortId) (f : Flight) (cp : Bool) (s : State), (s.port p).pd.flight = some f →
      f.tgt = .sop →
      f.why = .plain →
      f.onWire = true →
      (s.port p).transmits s.now = false →
      0 < f.attempts →
      (s.port p).pd.held = [] →
      (s.txPending p fun _ => true) = [(f.tgt, f.why)] →
      (s.port p).pd.start = none →
      (s.port p).pd.vdm = none →
      s.fw p = true →
    gives (.goodcrcReceived p f.tgt ⟨((s.port p).ctxOf f.tgt).txId, cp⟩) s fun t => (t.port p).pd = { (s.port p).pd with flight := none, first := false, lastTx := some .ok, partnerAms := false }
      ∧ ((t.port p).ctxOf .sop).txId = ((s.port p).ctxOf .sop).txId + 1
      ∧ t.txIdle p = true
      ∧ (t.port p).timers = (s.port p).timers
      ∧ (t.port p).tc = (s.port p).tc
      ∧ (t.port p).stage = (s.port p).stage)
  ∧ (∀ (p : PortId) (f : Flight) (s : State), (s.port p).pd.flight = some f →
      f.tgt ≠ .sop →
      f.why = .plain →
      f.onWire = true →
      (s.port p).transmits s.now = false →
      0 < f.attempts →
      ((s.port p).ctxOf f.tgt).vconnOk = true →
    gives (.goodcrcReceived p f.tgt ⟨((s.port p).ctxOf f.tgt).txId, true⟩) s fun t => (t.port p).pd.lastTx = some .ok
      ∧ (t.port p).pd.plugAt = some s.now
      ∧ ((t.port p).ctxOf f.tgt).txId = ((s.port p).ctxOf f.tgt).txId + 1
      ∧ (t.port p).tc = (s.port p).tc
      ∧ (t.port p).stage = (s.port p).stage)
  ∧ (∀ (p : PortId) (g : Tgt) (id : BitVec 3) (cp : Bool) (s : State), g ≠ .sop →
      ((s.port p).ctxOf g).vconnOk = false ∨ cp = false →
    exec (.goodcrcReceived p g ⟨id, cp⟩) s = .next (s))
  ∧ (∀ (p : PortId) (g : Tgt) (id : BitVec 3) (cp : Bool) (s : State), id ≠ ((s.port p).ctxOf g).txId →
    exec (.goodcrcReceived p g ⟨id, cp⟩) s = .next (s))
  ∧ (∀ (p : PortId) (f : Flight) (s : State), (s.port p).pd.flight = some f →
      f.onWire = true →
      f.receiveOver s.now = true →
      f.attempts ≤ ((s.port p).ctxOf f.tgt).nRetry.toNat →
    exec (.receiveTimeout p) s = .next (s.modPort p fun x => { x with pd := { x.pd with flight := some { f with onWire := false } } }))
  ∧ (∀ (p : PortId) (f : Flight) (s : State), (s.port p).pd.flight = some f →
      f.receiveOver s.now = false →
    exec (.receiveTimeout p) s = .next (s))
  ∧ (∀ (b0 : Beat) (f : Flight), f.inPreamble b0 = decide (6 * Beat.since b0 f.begun < 5 * 64)) ∧
(∀ (b0 : Beat) (f : Flight), f.receiveOver b0 = decide (6 * 250 + 5 * (89 + 10 * (f.packet.data.length + 4)) ≤ 6 * Beat.since b0 f.begun))
  ∧ (∀ (p : PortId) (f : Flight) (s : State), (s.port p).pd.flight = some f →
      f.onWire = true →
      f.inPreamble s.now = true →
      f.attempts ≤ ((s.port p).ctxOf f.tgt).nRetry.toNat →
    gives (.txCollisionAbort p) s fun t => (t.port p).pd = { (s.port p).pd with flight := some { f with onWire := false }, onLine := none }
      ∧ (t.port p).ctx = (s.port p).ctx
      ∧ (t.port p).timers = (s.port p).timers
      ∧ t.pool = s.pool
      ∧ (t.port p).tc = (s.port p).tc)
  ∧ (∀ (p : PortId) (f : Flight) (s : State), (s.port p).pd.flight = some f →
      f.inPreamble s.now = false →
    exec (.txCollisionAbort p) s = .next (s))
  ∧ (∀ (p : PortId) (f : Flight) (s : State), (s.port p).pd.flight = some f →
      f.onWire = true →
      f.inPreamble s.now = true →
      f.tgt ≠ .sop →
      f.why = .plain →
      ((s.port p).ctxOf f.tgt).nRetry.toNat < f.attempts →
    gives (.txCollisionAbort p) s fun t => ((t.port p).ctxOf f.tgt).txFails = satIncr ((s.port p).ctxOf f.tgt).txFails
      ∧ (t.port p).pd.lastTx = some .fail
      ∧ (t.port p).tc = (s.port p).tc)
  ∧ (∀ (p : PortId) (f : Flight) (s : State), (s.port p).pd.flight = some f →
      f.onWire = true →
      f.receiveOver s.now = true →
      f.tgt = .sop →
      f.why = .plain →
      ((s.port p).ctxOf f.tgt).nRetry.toNat < f.attempts →
      (s.port p).inPower = false →
      s.fw p = true →
    gives (.receiveTimeout p) s fun t => ((t.port p).ctxOf .sop).txFails = satIncr ((s.port p).ctxOf .sop).txFails
      ∧ t.txWaits p .sop (ctlMsg 13) = true
      ∧ ((t.port p).ctxOf .sop).txId = 0
      ∧ (t.port p).tc.st = (s.port p).tc.st
      ∧ (t.port p).pd.contract = (s.port p).pd.contract
      ∧ (t.port p).stage = (s.port p).stage)
  ∧ (∀ (p : PortId) (f : Flight) (s : State), (s.port p).pd.flight = some f →
      f.onWire = true →
      f.receiveOver s.now = true →
      f.tgt ≠ .sop →
      f.why = .plain →
      ((s.port p).ctxOf f.tgt).nRetry.toNat < f.attempts →
    gives (.receiveTimeout p) s fun t => ((t.port p).ctxOf f.tgt).txFails = satIncr ((s.port p).ctxOf f.tgt).txFails
      ∧ ((t.port p).ctxOf f.tgt).txId = ((s.port p).ctxOf f.tgt).txId + 1
      ∧ (t.port p).pd.lastTx = some .fail
      ∧ (t.port p).timers = (s.port p).timers
      ∧ (t.port p).tc = (s.port p).tc
      ∧ (t.port p).stage = (s.port p).stage)
  ∧ (∀ (p : PortId) (f : Flight) (o : CellObs) (s : State), (s.port p).pd.flight = some f →
      f.onWire = true →
      f.tgt ≠ .sop →
      f.why = .plain →
      o ≠ .sound →
    gives (.txIntegrity ⟨p, o⟩) s fun t => t.raisedAt 210 = true
      ∧ (t.port p).pd.lastTx = some .integrity)

/-! ### Hard Reset -/

/-- O29: while the port's firmware runs, Hard Reset signalling that is received, or sent by order after the line gap, or given up 18,000
slots (1,125 beats) after the order and not before, ends the contract, turns the gate off and starts recovery, and HR_CNT advances only for one
of the module's own; one received also drops the order, the message in flight and the swap and restores the roles taken at attach. Received while
that firmware is stopped it resets the contexts at once and is left due. One received while the module's own signalling is on the line is that one
(log 63). -/
def Obligations.HardResets : Prop :=
  (∀ (p : PortId) (s : State), (s.port p).tc.st.pd = true →
      (s.port p).hrSending s.now = false →
      s.fw p = true →
      (s.port p).pd.hrDue = none →
    gives (.hardResetReceived p) s fun t => (t.port p).pd.contract = Contract.none
      ∧ (t.port p).pd.recov.isSome = true
      ∧ (t.port p).pd.hrOrder = none
      ∧ (t.port p).pd.flight = none
      ∧ (t.port p).pd.swap = none
      ∧ (t.port p).pd.powerSource = (s.port p).pd.attachSource
      ∧ (t.port p).pd.dfp = (s.port p).pd.attachSource
      ∧ (t.port p).guard.gateOn = false
      ∧ (t.port p).stage.mode = .idle
      ∧ ((t.port p).ctxOf .sop).txId = 0
      ∧ ((t.port p).ctxOf .sop).rxValid = false
      ∧ ((t.port p).ctxOf .sop).rev = 0
      ∧ ((t.port p).ctxOf .sop).hrCnt = ((s.port p).ctxOf .sop).hrCnt
      ∧ ((t.port p).ctxOf .sop1).rev = 0
      ∧ (t.port p).tc.st.pd = true
      ∧ t.faults = s.faults
      ∧ t.cores = s.cores
      ∧ (t.port p).cfg = (s.port p).cfg
      ∧ (t.port p).harn = (s.port p).harn)
  ∧ (∀ (p : PortId) (s : State), (s.port p).tc.st.pd = true →
      (s.port p).hrSending s.now = false →
      s.fw p = false →
    gives (.hardResetReceived p) s fun t => (t.port p).pd.hrDue.isSome = true
      ∧ (t.port p).pd.hrOrder = none
      ∧ (t.port p).pd.flight = none
      ∧ ((t.port p).ctxOf .sop).txId = 0
      ∧ ((t.port p).ctxOf .sop).rxValid = false
      ∧ ((t.port p).ctxOf .sop1).rev = 0
      ∧ (t.port p).pd.contract = (s.port p).pd.contract
      ∧ (t.port p).guard.gateOn = (s.port p).guard.gateOn
      ∧ (t.port p).tc = (s.port p).tc
      ∧ (t.port p).stage = (s.port p).stage)
  ∧ (∀ (p : PortId) (s : State), (s.port p).hrSending s.now = true →
    exec (.hardResetReceived p) s = .next (s))
  ∧ (∀ (p : PortId) (idle : Nat) (s : State), (s.port p).pd.hrOrder ≠ none →
      100 ≤ idle →
      s.fw p = true →
      84 ≤ (s.port p).sinceLine →
      (s.port p).transmits s.now = false →
      (s.port p).pd.hrDue = none →
    gives (.hardResetSend p idle) s fun t => (t.port p).pd.contract = Contract.none
      ∧ (t.port p).pd.recov.isSome = true
      ∧ (t.port p).pd.hrOrder = none
      ∧ (t.port p).pd.powerSource = (s.port p).pd.attachSource
      ∧ (t.port p).guard.gateOn = false
      ∧ (t.port p).stage.mode = .idle
      ∧ ((t.port p).ctxOf .sop).hrCnt = min 2 (((s.port p).ctxOf .sop).hrCnt + 1)
      ∧ ((t.port p).ctxOf .sop).txId = 0
      ∧ t.faults = s.faults
      ∧ (t.port p).cfg = (s.port p).cfg)
  ∧ (∀ (p : PortId) (b0 : Beat) (s : State), (s.port p).pd.hrOrder = some b0 →
      1125 ≤ Beat.since s.now b0 →
      s.fw p = true →
      (s.port p).pd.hrDue = none →
    gives (.hrTimeout p) s fun t => (t.port p).pd.contract = Contract.none
      ∧ (t.port p).pd.recov.isSome = true
      ∧ (t.port p).pd.hrOrder = none
      ∧ (t.port p).guard.gateOn = false
      ∧ ((t.port p).ctxOf .sop).hrCnt = min 2 (((s.port p).ctxOf .sop).hrCnt + 1))
  ∧ (∀ (p : PortId) (b0 : Beat) (s : State), (s.port p).pd.hrOrder = some b0 →
      Beat.since s.now b0 < 1125 →
    exec (.hrTimeout p) s = .next (s))

/-! ### Messages of the partner (chapters 08 and 09) -/

/-- O30: a Request that the capabilities sent do not hold is rejected; a valid one that SRC_REQUEST accepts is answered with Accept; a
decision on it that has not come by its deadline takes its default. A sink keeps received capabilities and answers them with the Request that
SNK_SELECT names. The GoodCRC of its own Accept starts a source's transition; a sink's starts when the partner's Accept comes, and one of a
DR_Swap turns the data role. Reject ends a swap; Wait puts a sink's Request, and a source's swap, off for its time. PS_RDY establishes a sink's
contract, and completes a PR_Swap from source to sink. -/
def Obligations.Negotiation : Prop :=
  (∀ (p : PortId) (m : RxMsg) (s : State), s.onlyMsg p m →
      m.tgt = .sop →
      kindOf (s.port p) m = .request →
      (s.port p).pd.powerSource = true →
      (s.port p).inPower = false →
      (s.port p).pd.await = .requestAfterCaps →
      (readRequest (s.port p).lastCaps (s.port p).pd.contract.eprMode (m.word 0) (if m.type = 9 then some (m.word 1) else none)).valid = false →
      ((s.port p).ctxOf m.tgt).asm = none →
    gives (.request p) s fun t => t.txWaits p .sop (ctlMsg 4) = true
      ∧ (t.port p).pd.trans = none
      ∧ (t.port p).pd.contract = (s.port p).pd.contract
      ∧ (t.port p).pd.rejectHard = !(s.port p).contractValid
      ∧ (t.port p).pd.await = .none
      ∧ t.rxCount p = 0
      ∧ (t.port p).stage = (s.port p).stage
      ∧ (t.port p).guard = (s.port p).guard
      ∧ (t.port p).tc.st = (s.port p).tc.st)
  ∧ (∀ (p : PortId) (m : RxMsg) (q : Req) (s : State), s.onlyMsg p m →
      m.tgt = .sop →
      kindOf (s.port p) m = .request →
      (s.port p).pd.powerSource = true →
      (s.port p).inPower = false →
      (s.port p).pd.await = .requestAfterCaps →
      q = readRequest (s.port p).lastCaps (s.port p).pd.contract.eprMode (m.word 0) (if m.type = 9 then some (m.word 1) else none) →
      q.valid = true →
      ((s.classOf (s.port p)).lookup ptSrcRequest (srcRuleMatches (s.port p) q)).outcome = ocAccept →
      ((s.port p).ctxOf m.tgt).asm = none →
    gives (.request p) s fun t => t.txWaits p .sop (ctlMsg 3) = true
      ∧ ((t.port p).pd.trans.map fun e => (e.source, e.v, e.i, e.accepted, e.obj)) = some (true, q.v, q.i, false, (s.port p).lastCaps.getD (q.pos - 1) 0)
      ∧ (t.port p).pd.request = m.word 0
      ∧ (t.port p).pd.lastReqBeat = s.now
      ∧ (t.port p).pd.contract = (s.port p).pd.contract
      ∧ t.rxCount p = 0
      ∧ t.policy.decisions.filter (fun d => d.port == p) = []
      ∧ (t.port p).stage = (s.port p).stage
      ∧ (t.port p).guard = (s.port p).guard)
  ∧ (∀ (id : Nat) (d : Decision) (s : State), s.policy.decisions.find? (fun d => d.id == id && !(d.deadline.later s.now) && s.fw d.port) = some d →
      d.point = ptSrcRequest →
      d.dflt ≤ 2 →
    gives (.decisionDeadline id) s fun t => t.txWaits d.port .sop (ctlMsg (if d.dflt = ocAccept then 3 else if d.dflt = ocWait then 12 else 4)) = true
      ∧ t.policy.decisions = s.policy.decisions.filter (fun e => e.id != id)
      ∧ (d.dflt ≠ ocAccept → (t.port d.port).pd.trans = none)
      ∧ (t.port d.port).pd.contract = (s.port d.port).pd.contract
      ∧ (t.port d.port).stage = (s.port d.port).stage)
  ∧ (∀ (p : PortId) (m : RxMsg) (s : State), s.onlyMsg p m →
      m.tgt = .sop →
      kindOf (s.port p) m = .sourceCaps →
      (s.port p).pd.powerSource = false →
      (s.port p).inPower = false →
      (s.port p).pd.await = .none →
      (s.classOf (s.port p)).lookup ptSnkSelect (snkRuleMatches (s.classOf (s.port p)) m.words) = ⟨ocFive, none, 0⟩ →
      ((s.port p).ctxOf m.tgt).asm = none →
    gives (.sourceCapabilities p) s fun t => (t.port p).pd.rxCaps = m.words
      ∧ (t.port p).pd.request = requestFive m.words (s.port p) s.serviceDomain false
      ∧ t.txWaits p .sop (datMsg 2 [requestFive m.words (s.port p) s.serviceDomain false]) = true
      ∧ (t.port p).pd.contract = (s.port p).pd.contract
      ∧ (t.port p).guard = (s.port p).guard
      ∧ (t.port p).stage = (s.port p).stage)
  ∧ (∀ (p : PortId) (m : RxMsg) (i : Option (Fin 32)) (d : Nat) (s : State), s.onlyMsg p m →
      m.tgt = .sop →
      kindOf (s.port p) m = .sourceCaps →
      (s.port p).pd.powerSource = false →
      (s.port p).inPower = false →
      (s.port p).pd.await = .none →
      (s.classOf (s.port p)).lookup ptSnkSelect (snkRuleMatches (s.classOf (s.port p)) m.words) = ⟨ocMatch, i, d⟩ →
      ((s.port p).ctxOf m.tgt).asm = none →
    gives (.sourceCapabilities p) s fun t => (t.port p).pd.rxCaps = m.words
      ∧ (t.port p).pd.request = requestMatch (s.classOf (s.port p)) (i.map fun j => (s.classOf (s.port p)).rules[j]) m.words (s.port p) s.serviceDomain
      ∧ t.txWaits p .sop (datMsg 2 [(t.port p).pd.request]) = true)
  ∧ (∀ (p : PortId) (e : Transition) (s : State), (s.port p).pd.accAck = true →
      (s.port p).pd.swapMsg = none →
      (s.port p).pd.trans = some e →
      (s.port p).pd.contract.pos ≠ e.pos →
      s.pdRuns p = true →
    gives (.accept p) s fun t => (t.port p).pd.trans = some { e with accepted := true, moving := none }
      ∧ (t.port p).pd.accAck = false
      ∧ (t.port p).pd.contract.inTransition = true
      ∧ (t.port p).timers[tPower] = Timer.armed' .srcTransition (s.port p).tSrcTrans
      ∧ (t.port p).stage = (s.port p).stage
      ∧ t.pool = s.pool
      ∧ (t.port p).guard = (s.port p).guard
      ∧ (t.port p).tc = (s.port p).tc)
  ∧ (∀ (p : PortId) (m : RxMsg) (s : State), s.onlyMsg p m →
      m.tgt = .sop →
      kindOf (s.port p) m = .accept →
      (s.port p).pd.accAck = false →
      (s.port p).pd.owed = none →
      (s.port p).pd.await = .answerToRequest →
      ((s.port p).ctxOf m.tgt).asm = none →
    gives (.accept p) s fun t => ((t.port p).pd.trans.map fun e => (e.source, e.accepted, e.v, e.i)) = some (false, true, (readRequest (s.port p).pd.rxCaps false (s.port p).pd.request none).v, (readRequest (s.port p).pd.rxCaps false (s.port p).pd.request none).i)
      ∧ (t.port p).pd.await = .none
      ∧ (t.port p).pd.contract.inTransition = true
      ∧ (t.port p).timers[tPower] = Timer.armed' .psTransition (s.port p).tPsTrans
      ∧ (t.port p).guard = (s.port p).guard
      ∧ (t.port p).tc = (s.port p).tc)
  ∧ (∀ (p : PortId) (m : RxMsg) (r : SwapReq) (s : State), s.onlyMsg p m →
      m.tgt = .sop →
      kindOf (s.port p) m = .accept →
      (s.port p).pd.accAck = false →
      (s.port p).pd.owed = none →
      (s.port p).pd.await = .swapAnswer →
      (s.port p).pd.swapReq = some r →
      r.kind = .dr →
      (s.port p).pd.start = none →
      (s.port p).pd.vdm = none →
      ((s.port p).ctxOf m.tgt).asm = none →
    gives (.accept p) s fun t => (t.port p).pd.dfp = !(s.port p).pd.dfp
      ∧ (t.port p).pd.powerSource = (s.port p).pd.powerSource
      ∧ (t.port p).pd.swapReq = none
      ∧ (t.port p).pd.ownAms = false
      ∧ (t.port p).pd.await = .none
      ∧ (t.port p).stage = (s.port p).stage
      ∧ (t.port p).guard = (s.port p).guard)
  ∧ (∀ (p : PortId) (m : RxMsg) (r : SwapReq) (s : State), s.onlyMsg p m →
      m.tgt = .sop →
      kindOf (s.port p) m = .reject →
      (s.port p).pd.await = .swapAnswer →
      (s.port p).pd.swapReq = some r →
      (s.port p).pd.vdm = none →
      ((s.port p).ctxOf m.tgt).asm = none →
    gives (.reject p) s fun t => (t.port p).pd.swapReq = none
      ∧ ((s.port p).pd.start = none → (t.port p).pd.ownAms = false)
      ∧ (t.port p).pd.await = .none
      ∧ (t.port p).pd.powerSource = (s.port p).pd.powerSource
      ∧ (t.port p).pd.dfp = (s.port p).pd.dfp
      ∧ (t.port p).pd.contract = (s.port p).pd.contract
      ∧ (t.port p).stage = (s.port p).stage
      ∧ (t.port p).guard = (s.port p).guard)
  ∧ (∀ (p : PortId) (m : RxMsg) (s : State), s.onlyMsg p m →
      m.tgt = .sop →
      kindOf (s.port p) m = .wait →
      (s.port p).pd.await = .answerToRequest →
      (s.port p).pd.powerSource = false →
      (s.port p).pd.vdm = none →
      ((s.port p).ctxOf m.tgt).asm = none →
    gives (.wait p) s fun t => (t.port p).timers[tCaps] = Timer.armed' .sinkRequest 25000
      ∧ (t.port p).pd.ownAms = false
      ∧ (t.port p).pd.await = .none
      ∧ (t.port p).pd.contract = (s.port p).pd.contract
      ∧ (t.port p).stage = (s.port p).stage
      ∧ (t.port p).guard = (s.port p).guard)
  ∧ (∀ (p : PortId) (m : RxMsg) (r : SwapReq) (s : State), s.onlyMsg p m →
      m.tgt = .sop →
      kindOf (s.port p) m = .wait →
      (s.port p).pd.await = .swapAnswer →
      (s.port p).pd.powerSource = true →
      (s.port p).pd.swapReq = some r →
      (s.port p).pd.vdm = none →
      (s.port p).use tCaps = .idle ∨ (s.port p).use tCaps = .swapBackoff →
      ((s.port p).ctxOf m.tgt).asm = none →
    gives (.wait p) s fun t => (t.port p).timers[tCaps] = Timer.armed' .swapBackoff (1000 * fld (s.port p).cfg.swapRetrySrc 0 8)
      ∧ ((s.port p).pd.start = none → (t.port p).pd.swapReq = some { r with crossed := false })
      ∧ ((s.port p).pd.start = none → (t.port p).pd.ownAms = false)
      ∧ (t.port p).pd.powerSource = true)
  ∧ (∀ (p : PortId) (m : RxMsg) (e : Transition) (s : State), s.onlyMsg p m →
      m.tgt = .sop →
      kindOf (s.port p) m = .psRdy →
      (s.port p).pd.owed = none →
      (s.port p).pd.swap = none →
      (s.port p).pd.trans = some e →
      e.accepted = true →
      e.source = false →
      s.deciding p = false →
      (s.port p).pd.powerSource = false →
      (s.port p).pd.vdm = none →
      s.pdRuns p = true →
      ((s.port p).ctxOf m.tgt).asm = none →
    gives (.psRdy p) s fun t => (t.port p).pd.contract.pos = e.pos
      ∧ (t.port p).pd.contract.type = e.type
      ∧ (t.port p).pd.contract.vSet = e.v
      ∧ (t.port p).pd.contract.iOp = e.i
      ∧ (t.port p).pd.contract.obj = e.obj
      ∧ (t.port p).pd.contract.inTransition = false
      ∧ (t.port p).pd.trans = none
      ∧ ((t.port p).ctxOf .sop).hrCnt = 0
      ∧ (t.port p).timers[tPower] = Timer.idle
      ∧ (t.port p).guard = (s.port p).guard
      ∧ (t.port p).tc.st = (s.port p).tc.st)
  ∧ (∀ (p : PortId) (m : RxMsg) (w : Swap) (s : State), s.onlyMsg p m →
      m.tgt = .sop →
      kindOf (s.port p) m = .psRdy →
      (s.port p).pd.owed = none →
      (s.port p).pd.swap = some w →
      w.kind = .pr →
      w.wasSource = true →
      w.step = 5 →
      s.pdRuns p = true →
      ((s.port p).ctxOf m.tgt).asm = none →
    gives (.psRdy p) s fun t => (t.port p).tc.st = .attachedSnk
      ∧ (t.port p).pd.swap = none
      ∧ (t.port p).pd.vbusWait = true
      ∧ (t.port p).guard = (s.port p).guard
      ∧ (t.port p).harn = (s.port p).harn)

/-- O31: with no AMS open: a PR_Swap on a port that is no DRP is answered Not_Supported and a VCONN_Swap Reject while VCONN_OC holds;
where the port can swap and the class rules accept, each of the three swaps is answered Accept; a DR_Swap while a mode is active leads to Hard
Reset. Soft_Reset is accepted and ends what was under way. Enter_EPR_Mode is answered Enter Acknowledged or Enter Failed with its cause, and EPR
mode is left on request. The next chunk is sent on a Chunk Request, and one is requested after a first chunk. Get_Revision is answered 3.2,
version 1.1; what the port does not support with Not_Supported, at Revision 2.0 not at all; what the state does not expect with Hard Reset in a
power sequence, with Soft_Reset in an AMS of the port's own. -/
def Obligations.PartnerRequests : Prop :=
  (∀ (p : PortId) (m : RxMsg) (s : State), s.onlyMsg p m →
      m.tgt = .sop →
      kindOf (s.port p) m = .prSwap →
      (s.port p).calm = true →
      (s.port p).pd.contract.pos ≠ 0 →
      (s.port p).tc.role ≠ 2 →
      (s.port p).rev ≠ 1 →
      ((s.port p).ctxOf m.tgt).asm = none →
    gives (.prSwap p) s fun t => t.txWaits p .sop (ctlMsg 16) = true
      ∧ (t.port p).pd.powerSource = (s.port p).pd.powerSource
      ∧ (t.port p).pd.swap = (s.port p).pd.swap
      ∧ (t.port p).pd.contract = (s.port p).pd.contract
      ∧ (t.port p).stage = (s.port p).stage
      ∧ (t.port p).guard = (s.port p).guard)
  ∧ (∀ (p : PortId) (m : RxMsg) (s : State), s.onlyMsg p m →
      m.tgt = .sop →
      kindOf (s.port p) m = .prSwap →
      (s.port p).calm = true →
      (s.port p).pd.contract.pos ≠ 0 →
      s.swapPrecheck p .pr = none →
      ((s.classOf (s.port p)).lookup ptPrSwap (fun r => r.roleSel = 0 || (r.roleSel = 1 && (s.port p).holdsRole .pr) || (r.roleSel = 2 && !(s.port p).holdsRole .pr))).outcome = ocAccept →
      ((s.port p).ctxOf m.tgt).asm = none →
    gives (.prSwap p) s fun t => t.txWaits p .sop (ctlMsg 3) = true
      ∧ (t.port p).pd.swapMsg = some .pr
      ∧ (t.port p).pd.powerSource = (s.port p).pd.powerSource
      ∧ (t.port p).pd.contract = (s.port p).pd.contract
      ∧ (t.port p).stage = (s.port p).stage
      ∧ (t.port p).guard = (s.port p).guard)
  ∧ (∀ (p : PortId) (m : RxMsg) (s : State), s.onlyMsg p m →
      m.tgt = .sop →
      kindOf (s.port p) m = .drSwap →
      (s.port p).calm = true →
      (s.port p).pd.contract.pos ≠ 0 →
      (s.port p).pd.mode ≠ none →
      (s.port p).pd.hrOrder = none →
      (s.port p).tc.st.pd = true →
      ((s.port p).ctxOf m.tgt).asm = none →
    gives (.drSwap p) s fun t => (t.port p).pd.hrOrder = some s.now
      ∧ (t.port p).pd.dfp = (s.port p).pd.dfp
      ∧ (t.port p).stage = (s.port p).stage
      ∧ (t.port p).guard = (s.port p).guard)
  ∧ (∀ (p : PortId) (m : RxMsg) (s : State), s.onlyMsg p m →
      m.tgt = .sop →
      kindOf (s.port p) m = .drSwap →
      (s.port p).calm = true →
      (s.port p).pd.contract.pos ≠ 0 →
      s.swapPrecheck p .dr = none →
      ((s.classOf (s.port p)).lookup ptDrSwap (fun r => r.roleSel = 0 || (r.roleSel = 1 && (s.port p).holdsRole .dr) || (r.roleSel = 2 && !(s.port p).holdsRole .dr))).outcome = ocAccept →
      ((s.port p).ctxOf m.tgt).asm = none →
    gives (.drSwap p) s fun t => t.txWaits p .sop (ctlMsg 3) = true
      ∧ (t.port p).pd.swapMsg = some .dr
      ∧ (t.port p).pd.dfp = (s.port p).pd.dfp)
  ∧ (∀ (p : PortId) (m : RxMsg) (s : State), s.onlyMsg p m →
      m.tgt = .sop →
      kindOf (s.port p) m = .vconnSwap →
      (s.port p).calm = true →
      (s.port p).pd.contract.pos ≠ 0 →
      (s.port p).tc.vconnOn = false →
      (s.port p).tc.vconnOc = true →
      ((s.port p).ctxOf m.tgt).asm = none →
    gives (.vconnSwap p) s fun t => t.txWaits p .sop (ctlMsg 4) = true
      ∧ (t.port p).tc.vconnOn = false
      ∧ (t.port p).stage = (s.port p).stage)
  ∧ (∀ (p : PortId) (m : RxMsg) (s : State), s.onlyMsg p m →
      m.tgt = .sop →
      kindOf (s.port p) m = .vconnSwap →
      (s.port p).calm = true →
      (s.port p).pd.contract.pos ≠ 0 →
      (s.port p).tc.vconnOn = true →
      ((s.classOf (s.port p)).lookup ptVconnSwap (fun r => r.roleSel = 0 || (r.roleSel = 1 && (s.port p).holdsRole .vconn) || (r.roleSel = 2 && !(s.port p).holdsRole .vconn))).outcome = ocAccept →
      ((s.port p).ctxOf m.tgt).asm = none →
    gives (.vconnSwap p) s fun t => t.txWaits p .sop (ctlMsg 3) = true
      ∧ (t.port p).pd.swapMsg = some .vconn
      ∧ (t.port p).tc.vconnOn = true)
  ∧ (∀ (p : PortId) (m : RxMsg) (s : State), s.onlyMsg p m →
      m.tgt = .sop →
      kindOf (s.port p) m = .softReset →
      (s.port p).pd.hrOrder = none →
      ((s.port p).ctxOf m.tgt).asm = none →
    gives (.softReset p) s fun t => t.txWaits p .sop (ctlMsg 3) = true
      ∧ (t.port p).pd.ownAms = false
      ∧ (t.port p).pd.await = .none
      ∧ (t.port p).pd.eprStep = 0
      ∧ (t.port p).pd.trans = none
      ∧ (t.port p).pd.contract = (s.port p).pd.contract
      ∧ (t.port p).timers[tResponse] = Timer.idle
      ∧ t.policy.decisions.filter (fun d => d.port == p) = []
      ∧ (t.port p).stage = (s.port p).stage
      ∧ (t.port p).guard = (s.port p).guard)
  ∧ (∀ (p : PortId) (m : RxMsg) (s : State), s.onlyMsg p m →
      m.tgt = .sop →
      kindOf (s.port p) m = .eprEnter →
      (s.port p).calm = true →
      (s.port p).pd.powerSource = true →
      (s.port p).pd.contract.eprMode = false →
      ((s.port p).ctxOf m.tgt).asm = none →
    gives (.eprModeEnter p) s fun t => (t.port p).pd.eprStep = (if (s.port p).eprCause = none then 1 else 0)
      ∧ t.txWaits p .sop (datMsg 10 [match (s.port p).eprCause with | none => eprWord 2 0 | some e => eprWord 4 e]) = true
      ∧ (t.port p).pd.contract = (s.port p).pd.contract
      ∧ (t.port p).stage = (s.port p).stage
      ∧ (t.port p).guard = (s.port p).guard)
  ∧ (∀ (p : PortId) (m : RxMsg) (s : State), s.onlyMsg p m →
      m.tgt = .sop →
      kindOf (s.port p) m = .eprEnter →
      (s.port p).calm = true →
      (s.port p).pd.powerSource = true →
      (s.port p).pd.contract.eprMode = false →
      (s.port p).pd.contract.eprCapable = false →
      (s.port p).pd.contract.pos ≠ 0 →
      (s.port p).pd.contract.pos.toNat < 8 →
      ((s.port p).ctxOf m.tgt).asm = none →
    gives (.eprModeEnter p) s fun t => t.txWaits p .sop (datMsg 10 [eprWord 4 3]) = true
      ∧ (t.port p).pd.eprStep = 0)
  ∧ (∀ (p : PortId) (m : RxMsg) (s : State), s.onlyMsg p m →
      m.tgt = .sop →
      kindOf (s.port p) m = .eprExit →
      (s.port p).calm = true →
      (s.port p).pd.powerSource = true →
      (s.port p).pd.contract.eprMode = true →
      (s.port p).pd.contract.pos ≠ 0 →
      (s.port p).pd.contract.pos.toNat < 8 →
      (s.port p).pd.start = none →
      (s.port p).pd.vdm = none →
      ((s.port p).ctxOf m.tgt).asm = none →
    gives (.eprModeExit p) s fun t => (t.port p).pd.contract = { (s.port p).pd.contract with eprMode := false }
      ∧ (t.port p).pd.capsDue = true
      ∧ t.budget.due = true
      ∧ (t.port p).stage.vTgt = (s.port p).stage.vTgt
      ∧ (t.port p).guard = (s.port p).guard)
  ∧ (∀ (p : PortId) (m : RxMsg) (a : Assembly) (s : State), s.onlyMsg p m →
      m.tgt = .sop →
      kindOf (s.port p) m = .chunkRequest →
      ((s.port p).ctxOf .sop).asm = some a →
      a.sending = true →
      m.ext.toNat / 2048 % 16 = a.next →
      26 * a.next < a.size →
    gives (.chunkRequest p) s fun t => ((t.port p).ctxOf .sop).asm = some { a with next := a.next + 1 }
      ∧ ((t.port p).ctxOf .sop).chunkNum = BitVec.ofNat 4 a.next
      ∧ t.txWaits p .sop (chunkMsg a.header.toNat a.size a.next false ((a.data.drop (26 * a.next)).take 26)) = true
      ∧ (t.port p).timers[tResponse] = Timer.idle)
  ∧ (∀ (p : PortId) (m : RxMsg) (s : State), s.onlyMsg p m →
      m.tgt = .sop →
      kindOf (s.port p) m = .chunk →
      m.ext.toNat / 2048 % 16 = 0 →
      26 < m.ext.toNat % 512 →
      (s.port p).calm = true →
    gives (.extendedChunk p) s fun t => ((t.port p).ctxOf .sop).asm = some ⟨false, m.header, m.ext.toNat % 512, m.body.take 26, 1, .plain⟩
      ∧ ((t.port p).ctxOf .sop).chunking = true
      ∧ (t.port p).timers[tResponse] = Timer.armed' .chunkResponse 6750
      ∧ t.txWaits p .sop (chunkMsg m.type 0 1 true []) = true)
  ∧ (∀ (p : PortId) (m : RxMsg) (s : State), s.onlyMsg p m →
      m.tgt = .sop →
      kindOf (s.port p) m = .getRevision →
      (s.port p).calm = true →
      ((s.port p).ctxOf m.tgt).asm = none →
    gives (.getRevision p) s fun t => t.txWaits p .sop (datMsg 12 [0x32110000#32]) = true
      ∧ (t.port p).pd.contract = (s.port p).pd.contract
      ∧ (t.port p).stage = (s.port p).stage
      ∧ (t.port p).guard = (s.port p).guard
      ∧ (t.port p).tc = (s.port p).tc)
  ∧ (∀ (p : PortId) (m : RxMsg) (s : State), s.onlyMsg p m →
      m.tgt = .sop →
      kindOf (s.port p) m = .unsupported →
      (s.port p).rev ≠ 1 →
      ((s.port p).ctxOf m.tgt).asm = none →
    gives (.unsupportedMessage p) s fun t => t.txWaits p .sop (ctlMsg 16) = true
      ∧ (t.port p).pd.contract = (s.port p).pd.contract
      ∧ (t.port p).stage = (s.port p).stage
      ∧ (t.port p).guard = (s.port p).guard)
  ∧ (∀ (p : PortId) (m : RxMsg) (s : State), s.onlyMsg p m →
      m.tgt = .sop →
      kindOf (s.port p) m = .unsupported →
      (s.port p).rev = 1 →
      s.deciding p = false →
      ((s.port p).ctxOf m.tgt).asm = none →
    gives (.unsupportedMessage p) s fun t => ((s.port p).pd.start = none → (t.port p).pd = (s.port p).pd)
      ∧ (t.port p).pd.contract = (s.port p).pd.contract
      ∧ t.rxCount p = 0)
  ∧ (∀ (p : PortId) (m : RxMsg) (s : State), s.onlyMsg p m →
      m.tgt = .sop →
      (s.port p).surprises (kindOf (s.port p) m) = true →
      (s.port p).inPower = true →
      s.deciding p = false →
      (s.port p).pd.hrOrder = none →
      (s.port p).tc.st.pd = true →
      ((s.port p).ctxOf m.tgt).asm = none →
    gives (.unexpectedMessage p) s fun t => (t.port p).pd.hrOrder = some s.now
      ∧ (t.port p).pd.contract = (s.port p).pd.contract
      ∧ (t.port p).stage = (s.port p).stage)
  ∧ (∀ (p : PortId) (m : RxMsg) (s : State), s.onlyMsg p m →
      m.tgt = .sop →
      (s.port p).surprises (kindOf (s.port p) m) = true →
      (s.port p).inPower = false →
      (s.port p).pd.ownAms = true →
      ((s.port p).ctxOf m.tgt).asm = none →
    gives (.unexpectedMessage p) s fun t => t.txWaits p .sop (ctlMsg 13) = true
      ∧ (t.port p).pd.hrOrder = (s.port p).pd.hrOrder
      ∧ ((t.port p).ctxOf .sop).txId = 0)

/-! ### VDMs and the service mode (chapters 10 and 20) -/

/-- O32: with no AMS open a structured VDM request of a foreign SVID is answered NAK, and Discover SVIDs, where the service mode is
permitted, ACK with the service SVID; the ACK of a MODE_ENTER sets the mode and ends its VDM; an unstructured VDM and Attention become events.
The service mode is entered by a debug attach whose condition holds or by Enter Mode to a UFP, refused with NAK to a DFP, and left by Exit Mode;
SVC_XFER takes the sequence number due and answers with what its ACK carries, a repeated one with the same ACK, a bad control word with NAK, and
SVC_SYNC starts afresh. -/
def Obligations.Vdms : Prop :=
  (∀ (p : PortId) (m : RxMsg) (s : State), s.onlyMsg p m →
      m.tgt = .sop →
      kindOf (s.port p) m = .svdm →
      (s.port p).calm = true →
      vdmType (m.word 0) = 0 →
      vdmSvid (m.word 0) ≠ 0xFF00 →
      vdmSvid (m.word 0) ≠ svcSvidNat →
      ((s.port p).ctxOf m.tgt).asm = none →
    gives (.structuredVdmRx p) s fun t => t.txWaits p .sop (datMsg 15 [vdmAnswerHeader (m.word 0) 2]) = true
      ∧ (t.port p).pd.contract = (s.port p).pd.contract
      ∧ t.svc = s.svc
      ∧ (t.port p).stage = (s.port p).stage)
  ∧ (∀ (p : PortId) (m : RxMsg) (s : State), s.onlyMsg p m →
      m.tgt = .sop →
      kindOf (s.port p) m = .svdm →
      (s.port p).calm = true →
      vdmType (m.word 0) = 0 →
      vdmSvid (m.word 0) = 0xFF00 →
      vdmCmd (m.word 0) = 2 →
      s.svcEnabled p = true →
      ((s.port p).ctxOf m.tgt).asm = none →
    gives (.structuredVdmRx p) s fun t => t.txWaits p .sop (datMsg 15 [vdmAnswerHeader (m.word 0) 1, mkWord [(svcSvidNat, 16)]]) = true)
  ∧ (∀ (p : PortId) (m : RxMsg) (r : VdmReq) (s : State), s.onlyMsg p m →
      kindOf (s.port p) m = .svdm →
      (s.port p).answersVdm m = true →
      (s.port p).pd.vdm = some r →
      r.why = .modeEnter →
      vdmType (m.word 0) = 1 →
      ((s.port p).ctxOf m.tgt).asm = none →
    gives (.structuredVdmRx p) s fun t => (t.port p).pd.mode = some (BitVec.ofNat 16 (vdmSvid (rdWord r.message 0)), BitVec.ofNat 3 (vdmPos (rdWord r.message 0)))
      ∧ ((s.port p).pd.vdmNext = none → (t.port p).pd.vdm = none)
      ∧ ((s.port p).pd.vdmNext = none → (s.port p).pd.start = none → (t.port p).pd.ownAms = false)
      ∧ (t.port p).timers[(respTimer r.tgt)] = Timer.idle)
  ∧ (∀ (p : PortId) (m : RxMsg) (s : State), s.onlyMsg p m →
      kindOf (s.port p) m = .uvdm →
      s.deciding p = false →
      s.hears 0xC7 p.val m.event →
      ((s.port p).ctxOf m.tgt).asm = none →
      s.coreStopped 8 = false →
    gives (.unstructuredVdmRx p) s fun t => t.lastEvent = some (eventBytes 0xC7 p.val false m.event)
      ∧ ((s.port p).pd.start = none → (t.port p).pd = (s.port p).pd)
      ∧ (t.port p).pd.contract = (s.port p).pd.contract
      ∧ (t.port p).pd.mode = (s.port p).pd.mode
      ∧ (t.port p).pd.vdm = (s.port p).pd.vdm
      ∧ t.rxCount p = 0
      ∧ (t.port p).tc.st = (s.port p).tc.st)
  ∧ (∀ (p : PortId) (m : RxMsg) (s : State), s.onlyMsg p m →
      kindOf (s.port p) m = .attention →
      s.deciding p = false →
      s.hears 0xC8 p.val m.event →
      ((s.port p).ctxOf m.tgt).asm = none →
      s.coreStopped 8 = false →
    gives (.attention p) s fun t => t.lastEvent = some (eventBytes 0xC8 p.val false m.event)
      ∧ ((s.port p).pd.start = none → (t.port p).pd = (s.port p).pd)
      ∧ (t.port p).pd.contract = (s.port p).pd.contract
      ∧ (t.port p).pd.mode = (s.port p).pd.mode
      ∧ (t.port p).pd.vdm = (s.port p).pd.vdm
      ∧ t.rxCount p = 0)
  ∧ (∀ (p : PortId) (s : State), (s.port p).debugEnters = true →
      s.svcMayEnter p = true →
      s.fw p = true →
    gives (.serviceEnterMode p) s fun t => t.svc.port = some (Fin.ofNat 4 p.val)
      ∧ t.host.maskSvc = 3
      ∧ t.host.tagsSvc = []
      ∧ (t.port p).pd = { (s.port p).pd.orphan with svcDone := true }
      ∧ t.pool = s.pool
      ∧ (t.port p).tc = (s.port p).tc)
  ∧ (∀ (p : PortId) (m : RxMsg) (s : State), s.onlyMsg p m →
      m.tgt = .sop →
      kindOf (s.port p) m = .svcEnter →
      (s.port p).calm = true →
      s.svcMayEnter p = true →
      vdmPos (m.word 0) = 1 →
      (s.port p).pd.dfp = false →
      (s.port p).tc.st = .attachedSrc ∨ (s.port p).tc.st = .attachedSnk →
      ((s.port p).ctxOf m.tgt).asm = none →
    gives (.serviceEnterMode p) s fun t => t.svc.port = some (Fin.ofNat 4 p.val)
      ∧ t.txWaits p .sop (datMsg 15 [vdmAnswerHeader (m.word 0) 1]) = true
      ∧ t.host.maskSvc = 3)
  ∧ (∀ (p : PortId) (m : RxMsg) (s : State), s.onlyMsg p m →
      m.tgt = .sop →
      kindOf (s.port p) m = .svcEnter →
      (s.port p).calm = true →
      (s.port p).debugEnters = false →
      (s.port p).pd.dfp = true →
      ((s.port p).ctxOf m.tgt).asm = none →
    gives (.serviceEnterMode p) s fun t => t.svc = s.svc
      ∧ t.txWaits p .sop (datMsg 15 [vdmAnswerHeader (m.word 0) 2]) = true)
  ∧ (∀ (p : PortId) (m : RxMsg) (s : State), s.onlyMsg p m →
      m.tgt = .sop →
      kindOf (s.port p) m = .svcExit →
      (s.port p).calm = true →
      s.inSvc p = true →
      ((s.port p).ctxOf m.tgt).asm = none →
    gives (.serviceExitMode p) s fun t => t.svc = Service.reset
      ∧ t.txWaits p .sop (datMsg 15 [vdmAnswerHeader (m.word 0) 1]) = true
      ∧ (t.pool.queues[qSvcOut]).closed = []
      ∧ t.host.tagsSvc = [])
  ∧ (∀ (p : PortId) (m : RxMsg) (seq : Byte) (s : State), s.onlyMsg p m →
      m.tgt = .sop →
      kindOf (s.port p) m = .svcXfer →
      (s.port p).calm = true →
      s.inSvc p = true →
      vdmPos (m.word 0) = 1 →
      svcControlOk (m.word 1) (m.objs - 1) = true →
      seq.toNat = fld (m.word 1) 8 4 →
      s.svc.lastSeq = none ∨ s.svc.lastSeq = some (BitVec.ofNat 8 ((seq.toNat + 15) % 16)) →
      s.svc.part.length + fld (m.word 1) 0 5 ≤ 256 * s.svcCredit →
      ((s.port p).ctxOf m.tgt).asm = none →
    gives (.svcXfer p) s fun t => t.svc.lastSeq = some seq
      ∧ t.svc.hcrc = false
      ∧ t.txWaits p .sop (u16 (15 + 4096 * (1 + t.svc.lastAck.length / 4)) ++ wordBytes (vdmAnswerHeader (m.word 0) 1) ++ t.svc.lastAck) = true)
  ∧ (∀ (p : PortId) (m : RxMsg) (seq : Byte) (s : State), s.onlyMsg p m →
      m.tgt = .sop →
      kindOf (s.port p) m = .svcXfer →
      (s.port p).calm = true →
      s.inSvc p = true →
      vdmPos (m.word 0) = 1 →
      svcControlOk (m.word 1) (m.objs - 1) = true →
      seq.toNat = fld (m.word 1) 8 4 →
      s.svc.lastSeq = some seq →
      ((s.port p).ctxOf m.tgt).asm = none →
    gives (.svcXfer p) s fun t => t.svc = s.svc
      ∧ t.txWaits p .sop (u16 (15 + 4096 * (1 + s.svc.lastAck.length / 4)) ++ wordBytes (vdmAnswerHeader (m.word 0) 1) ++ s.svc.lastAck) = true)
  ∧ (∀ (p : PortId) (m : RxMsg) (s : State), s.onlyMsg p m →
      m.tgt = .sop →
      kindOf (s.port p) m = .svcXfer →
      (s.port p).calm = true →
      s.inSvc p = true →
      svcControlOk (m.word 1) (m.objs - 1) = false →
      ((s.port p).ctxOf m.tgt).asm = none →
    gives (.svcXfer p) s fun t => t.svc = s.svc
      ∧ t.txWaits p .sop (datMsg 15 [vdmAnswerHeader (m.word 0) 2]) = true)
  ∧ (∀ (p : PortId) (m : RxMsg) (s : State), s.onlyMsg p m →
      m.tgt = .sop →
      kindOf (s.port p) m = .svcSync →
      (s.port p).calm = true →
      s.inSvc p = true →
      m.objs = 1 →
      ((s.port p).ctxOf m.tgt).asm = none →
    gives (.svcSync p) s fun t => t.svc.part = []
      ∧ t.svc.lastSeq = none
      ∧ t.svc.port = s.svc.port
      ∧ t.txWaits p .sop (u16 (15 + 4096 * 2) ++ wordBytes (vdmAnswerHeader (m.word 0) 1) ++ t.svc.lastAck) = true
      ∧ t.svc.lastAck.length = 4)

/-! ### Timers and sequences of the Policy Engine (chapters 08 and 09) -/

/-- O33: capabilities that are due open an AMS: at Revision 3 with Rp at SinkTxNG and tSinkTx, after which they go out, below at once;
a Sink's first message starts when Rp shows SinkTxOK, and is withdrawn after 1,000 beats without a start. Each timer that runs out has the effect
of its rule: a Hard Reset ordered (tSenderResponse of a Request, tPSTransition, tPSSourceOff, tSinkWaitCap up to nHardResetCount, tSourceEPRKeepAlive, tPPSTimeout,
the wait for the VCONN source), Soft_Reset (tSinkEPREnter), a message sent (capabilities, a Request, a VDM after BUSY, Discover Identity, EPR
KeepAlive), or the end of what waited (a chunked transfer, a VDM). Current limit with VBUS low for 250 beats orders a Hard Reset; 2,500 beats of
excess drop raise DROP_EXCESS. -/
def Obligations.AmsAndTimers : Prop :=
  (∀ (p : PortId) (s : State), s.free p = true →
      (s.port p).pd.powerSource = true →
      (s.port p).tc.st = .attachedSrc →
      (s.port p).use tPower ≠ .swapSourceStart →
      (s.port p).pd.contract.eprMode = false →
      (s.port p).pd.capsDue = true →
      (s.port p).capsReady = true →
      (s.port p).capsHeld s.now = false →
      (s.port p).rev = 2 →
    gives (.capabilityBuild p) s fun t => (t.port p).pd.sinkNg = true
      ∧ (t.port p).pd.start = some (.sop, .sourceCaps, [])
      ∧ (t.port p).timers[tCaps] = Timer.armed' .sinkTx (s.port p).tSinkTx
      ∧ t.pool = s.pool
      ∧ (t.port p).stage = (s.port p).stage)
  ∧ (∀ (p : PortId) (s : State), s.free p = true →
      (s.port p).pd.powerSource = true →
      (s.port p).tc.st = .attachedSrc →
      (s.port p).use tPower ≠ .swapSourceStart →
      (s.port p).pd.contract.eprMode = false →
      (s.port p).pd.capsDue = true →
      (s.port p).capsReady = true →
      (s.port p).capsHeld s.now = false →
      (s.port p).rev ≠ 2 →
    gives (.capabilityBuild p) s fun t => (t.port p).pd.sentCaps = buildCaps (s.classOf (s.port p)) (s.port p) false
      ∧ t.txWaits p .sop (datMsg 1 (buildCaps (s.classOf (s.port p)) (s.port p) false)) = true
      ∧ (t.port p).pd.capsDue = false
      ∧ (t.port p).pd.capsBeat = s.now
      ∧ (t.port p).stage = (s.port p).stage)
  ∧ (∀ (p : PortId) (bytes : List Byte) (s : State), s.fw p = true →
      (s.port p).pd.start = some (.sop, .request, bytes) →
      (s.port p).pd.powerSource = false →
      (s.port p).rev = 2 →
      (s.port p).sinkTxOk = true →
      (s.port p).pd.partnerAms = false →
      (s.port p).pd.ownAms = false →
      s.rxHead p = none →
    gives (.sinkAmsStart p) s fun t => (t.port p).pd.start = none
      ∧ (t.port p).pd.ownAms = true
      ∧ (t.port p).pd.first = true
      ∧ t.txWaits p .sop bytes = true)
  ∧ (∀ (p : PortId) (f : Flight) (s : State), s.fw p = true →
      (s.port p).pd.flight = some f →
      f.why = .request →
      f.attempts = 0 →
      (s.port p).pd.first = true →
      (s.port p).pd.powerSource = false →
      (s.port p).rev = 2 →
      1000 ≤ Beat.since s.now f.stamp →
      s.txPending p (fun _ => true) = [(f.tgt, f.why)] →
      (s.port p).pd.held = [] →
    gives (.sinkFirstMessageWithdraw p) s fun t => (t.port p).pd.flight = none
      ∧ (t.port p).pd.start = some (f.tgt, f.why, f.packet.data)
      ∧ (t.port p).pd.lastTx = some .discarded
      ∧ (t.port p).pd.ownAms = false
      ∧ (t.port p).ctx = (s.port p).ctx
      ∧ (t.port p).tc = (s.port p).tc)
  ∧ (∀ (p : PortId) (s : State), s.due p tCaps .sinkTx = true →
      (s.port p).pd.start = some (.sop, .sourceCaps, []) →
      (s.port p).pd.partnerAms = false →
      s.rxHead p = none →
      (s.port p).pd.contract.eprMode = false →
      (s.port p).pd.capsWait = none →
    gives (.sinkTxExpiry p) s fun t => (t.port p).pd.start = none
      ∧ (t.port p).pd.ownAms = true
      ∧ t.txWaits p .sop (datMsg 1 (buildCaps (s.classOf (s.port p)) (s.port p) false)) = true
      ∧ ((s.port p).pd.backUntil = none → (t.port p).timers[tCaps] = Timer.idle))
  ∧ (∀ (p : PortId) (s : State), s.due p tResponse .senderResponse = true →
      (s.port p).pd.await = .requestAfterCaps ∨ (s.port p).pd.await = .answerToRequest →
      (s.port p).tc.st.pd = true →
      (s.port p).pd.hrOrder = none →
    gives (.senderResponseTimeout p) s fun t => (t.port p).pd.hrOrder = some s.now
      ∧ (t.port p).timers[tResponse] = Timer.idle
      ∧ (t.port p).pd.contract = (s.port p).pd.contract
      ∧ t.pool = s.pool
      ∧ (t.port p).stage = (s.port p).stage)
  ∧ (∀ (p : PortId) (c : Instr) (i : Fin 12) (u : Use) (s : State), (c, i, u) ∈ [(.psTransitionTimeout p, tPower, .psTransition), (.psSourceOffTimeout p, tPower, .psSourceOff), (.sourceEprKeepaliveTimeout p, tKeep, .sourceEprKeep), (.ppsTimeout p, tKeep, .ppsTimeout), (.vconnSourceTimeout p, tPower, .vconnSource)] →
      s.due p i u = true →
      (s.port p).tc.st.pd = true →
      s.pdRuns p = true →
    gives (c) s fun t => (t.port p).pd.hrOrder = some s.now
      ∧ (t.port p).timers[i] = Timer.idle
      ∧ (t.port p).pd.contract = (s.port p).pd.contract
      ∧ (t.port p).tc = (s.port p).tc
      ∧ t.pool = s.pool
      ∧ (t.port p).stage = (s.port p).stage
      ∧ (t.port p).guard = (s.port p).guard)
  ∧ (∀ (p : PortId) (s : State), s.due p tCaps .sinkWaitCap = true →
      ((s.port p).ctxOf .sop).hrCnt < 2 →
      (s.port p).tc.st.pd = true →
      (s.port p).pd.hrOrder = none →
    gives (.sinkWaitCapTimeout p) s fun t => (t.port p).pd.hrOrder = some s.now
      ∧ (t.port p).pd.contract = (s.port p).pd.contract
      ∧ (t.port p).tc = (s.port p).tc
      ∧ ((s.port p).pd.capsWait = none → (s.port p).pd.backUntil = none → (t.port p).timers[tCaps] = Timer.idle)
      ∧ t.pool = s.pool)
  ∧ (∀ (p : PortId) (s : State), s.due p tCaps .sendSourceCap = true →
      s.free p = true →
      (s.port p).pd.powerSource = true →
      (s.port p).pd.contract.eprMode = false →
      (s.port p).rev ≠ 2 →
    gives (.typecSendSourceCapExpiry p) s fun t => t.txWaits p .sop (datMsg 1 (buildCaps (s.classOf (s.port p)) (s.port p) false)) = true
      ∧ (t.port p).timers[tCaps] = Timer.idle
      ∧ (t.port p).pd.ownAms = true)
  ∧ (∀ (p : PortId) (c : Instr) (s : State), (c = .sinkRequestExpiry p ∧ s.due p tCaps .sinkRequest = true) ∨ (c = .ppsRequestExpiry p ∧ s.due p tKeep .ppsRequest = true) →
      s.free p = true →
      (s.port p).pd.powerSource = false →
      (s.port p).pd.rxCaps ≠ [] →
      (s.port p).rev ≠ 2 →
    gives (c) s fun t => t.txWaits p .sop (datMsg 2 [(s.port p).pd.request]) = true
      ∧ (t.port p).pd.ownAms = true
      ∧ (t.port p).pd.contract = (s.port p).pd.contract)
  ∧ (∀ (p : PortId) (s : State), s.fw p = true →
      (s.port p).pd.powerSource = true →
      (s.port p).pd.contract.type = 2 →
      (s.port p).pd.contract.clActive = true →
      250 ≤ (s.port p).stage.runs.ppsLow →
      (s.port p).tc.st.pd = true →
      (s.port p).pd.hrOrder = none →
    gives (.ppsUndervoltage p) s fun t => (t.port p).pd.hrOrder = some s.now
      ∧ (t.port p).pd.contract = (s.port p).pd.contract)
  ∧ (∀ (p : PortId) (s : State), s.fw p = true →
      (s.port p).pd.powerSource = true →
      (s.port p).pd.contract.pos ≠ 0 →
      (s.port p).pd.contract.type ≠ 2 →
      (s.port p).pd.contract.dropLimit = true →
      (s.port p).stage.runs.dropLow = 2500 →
    gives (.dropExcess p) s fun t => t.raisedAt (64 + p.val) = true
      ∧ (t.port p).pd = (s.port p).pd
      ∧ (t.port p).tc.st = (s.port p).tc.st)
  ∧ (∀ (p : PortId) (g : Tgt) (a : Assembly) (s : State), s.due p (respTimer g) .chunkRequest = true →
      ((s.port p).ctxOf g).asm = some a →
      g ≠ .sop →
      a.why = .plain →
    gives (.chunkSenderRequestTimeout p g) s fun t => ((t.port p).ctxOf g).asm = none
      ∧ ((t.port p).ctxOf g).chunking = false
      ∧ ((t.port p).ctxOf g).txFails = satIncr ((s.port p).ctxOf g).txFails
      ∧ (t.port p).timers[(respTimer g)] = Timer.idle
      ∧ t.pool = s.pool)
  ∧ (∀ (p : PortId) (g : Tgt) (a : Assembly) (s : State), s.due p (respTimer g) .chunkResponse = true →
      ((s.port p).ctxOf g).asm = some a →
      a.sending = false →
      (g = .sop → (s.port p).pd.await ≠ .hostResponse) →
    gives (.chunkSenderResponseTimeout p g) s fun t => ((t.port p).ctxOf g).asm = none
      ∧ ((t.port p).ctxOf g).chunking = false
      ∧ ((t.port p).ctxOf g).txFails = ((s.port p).ctxOf g).txFails
      ∧ (t.port p).timers[(respTimer g)] = Timer.idle
      ∧ (t.port p).pd = (s.port p).pd
      ∧ t.pool = s.pool)
  ∧ (∀ (p : PortId) (a : Assembly) (h : HostSend) (s : State), s.due p tResponse .chunkResponse = true →
      ((s.port p).ctxOf .sop).asm = some a →
      a.sending = false →
      (s.port p).pd.await = .hostResponse →
      (s.port p).pd.send = some h →
    gives (.chunkSenderResponseTimeout p .sop) s fun t => (t.port p).pd.send = none
      ∧ (t.port p).pd.await = .none
      ∧ ((t.port p).ctxOf .sop).asm = none
      ∧ ((t.port p).ctxOf .sop).chunking = false
      ∧ (t.port p).stage = (s.port p).stage)
  ∧ (∀ (p : PortId) (c : Instr) (i : Fin 12) (u : Use) (r : VdmReq) (s : State), (c, i, u) ∈ [(.vdmWaitModeTimeout p, tResponse, .vdmWaitMode), (.vdmSenderResponseTimeout p .sop, tResponse, .vdmResponse), (.vdmSenderResponseTimeout p .sop1, tResponse1, .vdmResponse), (.vdmSenderResponseTimeout p .sop2, tResponse2, .vdmResponse)] →
      s.due p i u = true →
      (s.port p).pd.vdm = some r →
      r.why ≠ .discover →
    gives (c) s fun t => ((s.port p).pd.vdmNext = none → (t.port p).pd.vdm = none)
      ∧ ((s.port p).pd.vdmNext = none → (s.port p).pd.start = none → (t.port p).pd.ownAms = false)
      ∧ (t.port p).pd.await = .none
      ∧ (t.port p).timers[i] = Timer.idle
      ∧ (t.port p).pd.mode = (s.port p).pd.mode)
  ∧ (∀ (p : PortId) (r : VdmReq) (b0 : Beat) (s : State), (s.port p).pd.vdm = some r →
      r.busyAt = some b0 →
      12500 ≤ Beat.since s.now b0 →
      r.tgt = .sop →
      s.free p = true →
      (s.port p).rev ≠ 2 →
    gives (.vdmBusyRetry p) s fun t => (t.port p).pd.vdm = some { r with busyAt := none, sent := true, acked := false, ams := true }
      ∧ (t.port p).pd.ownAms = true
      ∧ t.txWaits p .sop (u16 (15 + r.message.length / 4 * 4096) ++ r.message) = true)
  ∧ (∀ (p : PortId) (s : State), s.due p tDiscover .discover = true →
      (s.port p).pd.cable.state ≠ 2 →
      ((s.port p).ctxOf .sop1).vconnOk = true →
      ((s.port p).ctxOf .sop1).discCnt < 20 →
      (s.port p).pd.vdm = none →
      s.free p = true →
      (s.port p).rev ≠ 2 →
    gives (.discoverIdentityExpiry p) s fun t => (t.port p).pd.vdm = some { discoverReq with sent := true, ams := true }
      ∧ ((t.port p).ctxOf .sop1).discCnt = ((s.port p).ctxOf .sop1).discCnt + 1
      ∧ (t.port p).timers[tDiscover] = Timer.idle
      ∧ t.txWaits p .sop1 (u16 (15 + 4096) ++ wordBytes discoverHeader) = true)
  ∧ (∀ (p : PortId) (s : State), s.due p tPower .sinkEprEnter = true →
    gives (.sinkEprEnterTimeout p) s fun t => t.txWaits p .sop (ctlMsg 13) = true
      ∧ (t.port p).timers[tPower] = Timer.idle
      ∧ ((t.port p).ctxOf .sop).txId = 0
      ∧ (t.port p).pd.contract = (s.port p).pd.contract)
  ∧ (∀ (p : PortId) (s : State), s.due p tKeep .sinkEprKeep = true →
      s.free p = true →
      (s.port p).rev ≠ 2 →
    gives (.sinkEprKeepaliveExpiry p) s fun t => t.txWaits p .sop (chunkMsg 16 2 0 false [3, 0]) = true
      ∧ (t.port p).timers[tKeep] = Timer.idle
      ∧ (t.port p).pd.ownAms = true)

/-! ### Transitions, swaps and recovery (chapter 09) -/

/-- O34: while the firmware of the port acts (its core runs, no Hard Reset is ordered, no fault reaction is pending): when tSrcTransition has
passed the setpoint moves to the accepted voltage, or in a PR_Swap to 0 V with discharge; once it stands in its window with power good PS_RDY is
queued; a transition not over in 12,500 beats raises a port fault and orders Hard Reset. tNoResponse orders Hard Reset, and with HR_CNT at 2 leads
to ERROR_RECOVERY. -/
def Obligations.Transitions : Prop :=
  (∀ (p : PortId) (e : Transition) (s : State), s.due p tPower .srcTransition = true →
      (s.port p).pd.swap = none →
      (s.port p).pd.trans = some e →
      s.pdRuns p = true →
    gives (.srcTransitionExpiry p) s fun t => (t.port p).stage = { (s.port p).stage with vTgt := e.v, iTgt := e.i }
      ∧ (t.port p).pd.trans = some { e with moving := some (s.now + 1) }
      ∧ (t.port p).timers[tPower] = Timer.idle
      ∧ (t.port p).tc = (s.port p).tc
      ∧ (t.port p).guard = (s.port p).guard
      ∧ t.pool = s.pool)
  ∧ (∀ (p : PortId) (w : Swap) (s : State), s.due p tPower .srcTransition = true →
      (s.port p).pd.swap = some w →
      s.pdRuns p = true →
    gives (.srcTransitionExpiry p) s fun t => (t.port p).stage.vTgt = 0
      ∧ (t.port p).pd.swap = some { w with step := 2, mark := s.now }
      ∧ (t.port p).stage.disH = true
      ∧ (t.port p).timers[tPower] = Timer.idle)
  ∧ (∀ (p : PortId) (e : Transition) (s : State), s.pdRuns p = true →
      (s.port p).pd.trans = some e →
      (s.port p).transitionDone s.now = true →
    gives (.srcTransitionComplete p) s fun t => t.txWaits p .sop (ctlMsg 6) = true
      ∧ (t.port p).pd.trans = some { e with sent := true }
      ∧ (t.port p).pd.contract = (s.port p).pd.contract
      ∧ (t.port p).stage = (s.port p).stage
      ∧ (t.port p).guard = (s.port p).guard)
  ∧ (∀ (p : PortId) (e : Transition) (b0 : Beat) (s : State), s.pdRuns p = true →
      (s.port p).pd.trans = some e →
      e.moving = some b0 →
      e.accepted = true →
      e.source = true →
      e.sent = false →
      12500 ≤ Beat.since s.now b0 →
      Beat.since s.now b0 < 140737488355328 →
      (s.port p).tc.st.pd = true →
    gives (.transFail p) s fun t => t.raisedAt (64 + p.val) = true
      ∧ (t.port p).pd.hrOrder = some s.now)
  ∧ (∀ (p : PortId) (s : State), s.due p tPower .noResponse = true →
      ((s.port p).ctxOf .sop).hrCnt < 2 →
      (s.port p).tc.st.pd = true →
      (s.port p).pd.hrOrder = none →
    gives (.noResponseTimeout p) s fun t => (t.port p).pd.hrOrder = some s.now
      ∧ (t.port p).timers[tPower] = Timer.idle
      ∧ (t.port p).stage = (s.port p).stage
      ∧ (t.port p).tc = (s.port p).tc)
  ∧ (∀ (p : PortId) (s : State), s.due p tPower .noResponse = true →
      ((s.port p).ctxOf .sop).hrCnt = 2 →
    gives (.noResponseTimeout p) s fun t => (t.port p).tc.st = .errorRecovery
      ∧ (t.port p).pd.contract = Contract.none
      ∧ (t.port p).guard.gateOn = false
      ∧ (t.port p).stage.mode = .idle
      ∧ ((t.port p).ctxOf .sop).hrCnt = 0)

/-- O35: a SWAP_REQUEST sends its message in the first free beat and ends when none was free for 25,000 beats; a back-off that runs out
uses up one retry, and with none left ends the request. While the firmware of the port acts, each step of a PR_Swap on either side and of a
VCONN_Swap follows once its conditions hold; a VBUS that is not off in 150,000 beats raises a port fault and orders Hard Reset, a window exceeded
or tPSSourceOn leads to ERROR_RECOVERY, and a VCONN not on in time turns it off and orders Hard Reset. -/
def Obligations.Swaps : Prop :=
  (∀ (p : PortId) (r : SwapReq) (s : State), (s.port p).pd.swapReq = some r →
      r.sent = false →
      s.free p = true →
      (s.port p).use tCaps ≠ .swapBackoff →
      (s.port p).pd.backUntil = none →
      (s.port p).rev ≠ 2 →
    gives (.swapMessageSend p) s fun t => t.txWaits p .sop (ctlMsg (match r.kind with | .pr => 10 | .dr => 9 | .vconn => 11)) = true
      ∧ (t.port p).pd.swapReq = some { r with sent := true, attempts := r.attempts + 1 }
      ∧ (t.port p).pd.ownAms = true
      ∧ (t.port p).stage = (s.port p).stage)
  ∧ (∀ (p : PortId) (r : SwapReq) (s : State), s.fw p = true →
      (s.port p).pd.swapReq = some r →
      r.sent = false →
      r.attempts = 0 →
      (s.port p).use tCaps ≠ .swapBackoff →
      25000 ≤ Beat.since s.now r.from_ →
      (s.port p).pd.start = none →
    gives (.swapRequestTimeout p) s fun t => (t.port p).pd = { (s.port p).pd with swapReq := none, backUntil := none }
      ∧ (t.port p).timers = (s.port p).timers)
  ∧ (∀ (p : PortId) (r : SwapReq) (g : Tgt) (xs : List Byte) (s : State), s.fw p = true →
      (s.port p).pd.swapReq = some r →
      r.sent = false →
      r.attempts = 0 →
      (s.port p).use tCaps ≠ .swapBackoff →
      25000 ≤ Beat.since s.now r.from_ →
      (s.port p).pd.start = some (g, .swapRequest, xs) →
    gives (.swapRequestTimeout p) s fun t => (t.port p).pd.swapReq = none
      ∧ (t.port p).pd.contract = (s.port p).pd.contract
      ∧ (t.port p).stage = (s.port p).stage
      ∧ (t.port p).guard = (s.port p).guard)
  ∧ (∀ (p : PortId) (r : SwapReq) (s : State), s.due p tCaps .swapBackoff = true →
      (s.port p).pd.swapReq = some r →
      0 < r.retries →
    gives (.swapBackoffExpiry p) s fun t => (t.port p).pd = { (s.port p).pd with swapReq := some { r with retries := r.retries - 1, sent := false, crossed := false }, backUntil := none }
      ∧ (t.port p).timers[tCaps] = Timer.idle
      ∧ t.pool = s.pool)
  ∧ (∀ (p : PortId) (r : SwapReq) (s : State), s.due p tCaps .swapBackoff = true →
      (s.port p).pd.swapReq = some r →
      r.retries = 0 →
    gives (.swapBackoffExpiry p) s fun t => (t.port p).pd = { (s.port p).pd with swapReq := none, backUntil := none }
      ∧ (t.port p).timers[tCaps] = Timer.idle)
  ∧ (∀ (p : PortId) (w : Swap) (s : State), s.pdRuns p = true →
      (s.port p).pd.swap = some w →
      (s.port p).prStep true 2 = true →
      (s.port p).stage.vRef = 0 →
      (s.port p).vSafe0 = true →
    gives (.prSwapVbusOff p) s fun t => (t.port p).pd.swap = some { w with step := 3 }
      ∧ (t.port p).stage.mode = .idle
      ∧ (t.port p).guard.gateOn = false
      ∧ (t.port p).stage.disS = false
      ∧ (t.port p).stage.runs.idle = 0)
  ∧ (∀ (p : PortId) (w : Swap) (s : State), s.pdRuns p = true →
      (s.port p).pd.swap = some w →
      (s.port p).prStep true 3 = true →
      (s.port p).definedIdle = true →
      4 ≤ (s.port p).stage.runs.idle →
    gives (.prSwapIdleHeld p) s fun t => (t.port p).pd.swap = some { w with step := 4 }
      ∧ (t.port p).pd.powerSource = false
      ∧ (t.port p).tc.pres1 = (if (s.port p).tc.orient then .none else .rd)
      ∧ (t.port p).tc.pres2 = (if (s.port p).tc.orient then .rd else .none)
      ∧ t.txWaits p .sop (ctlMsg 6) = true
      ∧ (t.port p).stage = (s.port p).stage
      ∧ (t.port p).guard = (s.port p).guard)
  ∧ (∀ (p : PortId) (w : Swap) (s : State), s.pdRuns p = true →
      (s.port p).pd.swap = some w →
      (s.port p).prStep true 2 = true →
      150000 ≤ Beat.since s.now w.mark →
      (s.port p).tc.st.pd = true →
    gives (.swapFail p) s fun t => t.raisedAt (64 + p.val) = true
      ∧ (t.port p).pd.hrOrder = some s.now)
  ∧ (∀ (p : PortId) (s : State), s.pdRuns p = true →
      (s.port p).pd.vbusWait = true →
      (s.port p).vbusPresent = true →
    gives (.prSwapSinkGateOn p) s fun t => (t.port p).pd = { (s.port p).pd with vbusWait := false }
      ∧ (t.port p).stage.iTgt = rpSeenAmps (s.port p).tc.rpSeen
      ∧ ((s.port p).guard.gst ≠ .tripped → (s.port p).guard.gst ≠ .locked → (t.port p).guard.gateWant = true)
      ∧ t.pool = s.pool
      ∧ (t.port p).tc = (s.port p).tc)
  ∧ (∀ (p : PortId) (w : Swap) (s : State), s.pdRuns p = true →
      (s.port p).pd.swap = some w →
      (s.port p).prStep false 2 = true →
      (s.port p).definedIdle = true →
      4 ≤ (s.port p).stage.runs.idle →
      (s.port p).vSafe0 = true →
    gives (.prSwapSourceRamp p) s fun t => (t.port p).pd.swap = some { w with step := 3 }
      ∧ (t.port p).stage.vTgt = 250
      ∧ (t.port p).stage.want = .forward)
  ∧ (∀ (p : PortId) (w : Swap) (s : State), s.pdRuns p = true →
      (s.port p).pd.swap = some w →
      (s.port p).prStep false 3 = true →
      (s.port p).atTarget = true →
      (s.port p).powerGood = true →
      16 ≤ (s.port p).stage.runs.window →
    gives (.prSwapSourceReady p) s fun t => (t.port p).pd.swap = some { w with step := 4 }
      ∧ t.txWaits p .sop (ctlMsg 6) = true
      ∧ (t.port p).stage = (s.port p).stage
      ∧ (t.port p).guard = (s.port p).guard)
  ∧ (∀ (p : PortId) (s : State), s.due p tPower .swapSourceStart = true →
      s.free p = false →
      (s.port p).pd.discovered = false →
    gives (.swapSourceStartExpiry p) s fun t => (t.port p).pd = { (s.port p).pd with capsDue := true, capsRaise := false, capsForce := true }
      ∧ (t.port p).timers[tPower] = Timer.idle
      ∧ t.pool = s.pool)
  ∧ (∀ (p : PortId) (s : State), s.due p tPower .swapSourceStart = true →
      s.free p = true →
      (s.port p).pd.discovered = true →
      (s.port p).pd.contract.eprMode = false →
      (s.port p).rev ≠ 2 →
    gives (.swapSourceStartExpiry p) s fun t => t.txWaits p .sop (datMsg 1 (buildCaps (s.classOf (s.port p)) (s.port p) false)) = true
      ∧ (t.port p).pd.capsDue = false)
  ∧ (∀ (p : PortId) (w : Swap) (b0 : Beat) (s : State), s.pdRuns p = true →
      (s.port p).pd.swap = some w →
      w.windowFrom = some b0 →
      120000 + 250 * fld (s.port p).cfg.swapMargin 0 8 < Beat.since s.now b0 →
    gives (.swapWindowExceeded p) s fun t => (t.port p).tc.st = .errorRecovery
      ∧ (t.port p).pd.swap = none
      ∧ (t.port p).guard.gateOn = false
      ∧ (t.port p).stage.mode = .idle)
  ∧ (∀ (p : PortId) (s : State), s.due p tPower .psSourceOn = true →
      s.pdRuns p = true →
    gives (.psSourceOnTimeout p) s fun t => (t.port p).tc.st = .errorRecovery
      ∧ (t.port p).pd.swap = none
      ∧ (t.port p).guard.gateOn = false
      ∧ (t.port p).stage.mode = .idle)
  ∧ (∀ (p : PortId) (w : Swap) (s : State), s.pdRuns p = true →
      (s.port p).pd.swap = some w →
      (s.port p).vconnTurning = true →
      (s.port p).tc.vconnOn = true →
      64 ≤ (s.port p).stage.runs.vconnOn →
    gives (.vconnSwapOnConfirm p) s fun t => (t.port p).pd.swap = some { w with step := 2 }
      ∧ t.txWaits p .sop (ctlMsg 6) = true
      ∧ ((t.port p).ctxOf .sop1).txId = 0
      ∧ ((t.port p).ctxOf .sop1).rev = 0
      ∧ ((t.port p).ctxOf .sop1).vconnOk = true
      ∧ (t.port p).tc.vconnOn = true)
  ∧ (∀ (p : PortId) (w : Swap) (s : State), s.pdRuns p = true →
      (s.port p).pd.swap = some w →
      (s.port p).vconnTurning = true →
      (s.port p).stage.runs.vconnOn = 0 →
      2500 ≤ Beat.since s.now w.beatA →
      (s.port p).tc.st.pd = true →
    gives (.vconnSwapOnTimeout p) s fun t => t.raisedAt (64 + p.val) = true
      ∧ (t.port p).tc.vconnOn = false
      ∧ (t.port p).pd.hrOrder = some s.now
      ∧ (t.port p).tc.vconnOc = true)

/-- O36: Hard Reset recovery of a Source: at tPSHardReset discharge to 0 V and VCONN off, tSrcRecover from 0.8 V, then 5 V with the gate
commanded on, then capabilities again with tNoResponse; one not at 0.8 V within tSafe0V raises a port fault and ends. Of a Sink: VBUS that comes
back ends it with the gate commanded on, and 481,250 beats without it end in the unattached state. -/
def Obligations.Recovery : Prop :=
  (∀ (p : PortId) (s : State), s.due p tPower .psHardReset = true →
      (s.port p).pd.recov = some .srcHold →
    gives (.psHardResetExpiry p) s fun t => (t.port p).pd.recov = some .srcFall
      ∧ (t.port p).tc.vconnOn = false
      ∧ (t.port p).stage.disH = true
      ∧ (t.port p).timers[tPower] = Timer.armed' .safe0v 150000
      ∧ (t.port p).tc.st = (s.port p).tc.st)
  ∧ (∀ (p : PortId) (s : State), s.fw p = true →
      (s.port p).pd.recov = some .srcFall →
      (s.port p).vSafe0 = true →
    exec (.safe0vReached p) s = .next (s.modPort p fun x => ({ x with pd := { x.pd with recov := some .srcWait } }).arm tPower .srcRecover 200000))
  ∧ (∀ (p : PortId) (s : State), s.due p tPower .safe0v = true →
      (s.port p).pd.recov = some .srcFall →
    gives (.safe0vTimeout p) s fun t => t.raisedAt (64 + p.val) = true
      ∧ (t.port p).pd.recov = none
      ∧ (t.port p).guard.gateOn = false)
  ∧ (∀ (p : PortId) (s : State), s.due p tPower .srcRecover = true →
      (s.port p).pd.recov = some .srcWait →
    gives (.srcRecoverExpiry p) s fun t => (t.port p).pd.recov = some .srcRise
      ∧ (t.port p).stage.vTgt = 250
      ∧ (t.port p).stage.want = .forward
      ∧ ((s.port p).guard.gst ≠ .tripped → (s.port p).guard.gst ≠ .locked → (t.port p).guard.gateWant = true)
      ∧ (t.port p).timers[tPower] = Timer.armed' .safe5v 62500
      ∧ (t.port p).tc.st = (s.port p).tc.st)
  ∧ (∀ (p : PortId) (s : State), s.fw p = true →
      (s.port p).pd.recov = some .srcRise →
      (s.port p).atTarget = true →
      (s.port p).powerGood = true →
      16 ≤ (s.port p).stage.runs.window →
    gives (.vsafe5vReady p) s fun t => (t.port p).pd.recov = none
      ∧ (t.port p).pd.capsDue = true
      ∧ (t.port p).timers[tPower] = Timer.armed' .noResponse 1250000
      ∧ (t.port p).tc = (s.port p).tc
      ∧ (t.port p).stage = (s.port p).stage
      ∧ t.pool = s.pool)
  ∧ (∀ (p : PortId) (b0 : Beat) (s : State), s.fw p = true →
      (s.port p).pd.recov = some (.snkRise b0) →
      (s.port p).vbusPresent = true →
      (s.port p).tc.st = .attachedSnk →
    gives (.sinkVbusReturn p) s fun t => (t.port p).pd.recov = none
      ∧ ((s.port p).guard.gst ≠ .tripped → (s.port p).guard.gst ≠ .locked → (t.port p).guard.gateWant = true)
      ∧ (t.port p).stage.iTgt = rpSeenAmps (s.port p).tc.rpSeen
      ∧ (t.port p).timers[tCaps] = Timer.armed' .sinkWaitCap 116250
      ∧ (t.port p).tc = (s.port p).tc)
  ∧ (∀ (p : PortId) (b0 : Beat) (s : State), s.fw p = true →
      (s.port p).pd.recov = some (.snkFall b0) ∨ (s.port p).pd.recov = some (.snkRise b0) →
      481250 ≤ Beat.since s.now b0 →
    gives (.sinkRecoveryBound p) s fun t => (t.port p).tc.st = (if (s.port p).entrySide true then .unattachedSnk else .unattachedSrc)
      ∧ (t.port p).pd.recov = none
      ∧ (t.port p).guard.gateOn = false
      ∧ (t.port p).pd.contract = Contract.none)

/-! ### The power stage (chapter 11) -/

/-- O37: each beat the port's conversions are stored with their corrections, except in the harness calibration's steps 1 and 3 and while the
port is not sampled; in forward operation V_REF moves by the slew rate toward the target, and the command stays within IL_MAX; without its command
the stage stops. A forward start that is ready takes the mode, region and reference of its rule, and one that is not ready waits. A discharge's
harness side ends after 16 beats, its run below 0.60 V. A comparator trip in its window ends the charging phase, and too negative a current the
period. 250 beats of defined idle of a cluster pull its Cn_SEN_N low; a trunk value is taken. -/
def Obligations.Stage : Prop :=
  (∀ (p : PortId) (vbs ibus aux : Int) (s : State), s.hubRuns = true →
      s.board.mainOn = true ∨ isService p = true →
      s.clusterReady (clusterOf p).val = true →
      (s.port p).harn.step ≠ some .s1 ∧ (s.port p).harn.step ≠ some .s3 →
    gives (.loopUpdate p vbs ibus aux) s fun t => (t.port p).stage.conv.vbs = (s.port p).corrected vbs
      ∧ (t.port p).stage.conv.ibus = (s.port p).shuntMa ibus
      ∧ (t.port p).stage.conv.beat = s.now
      ∧ (t.port p).tc.st = (s.port p).tc.st
      ∧ ((s.port p).tc.rdCheck = none → (t.port p).tc = (s.port p).tc)
      ∧ (t.port p).harn = (s.port p).harn
      ∧ (t.port p).timers = (s.port p).timers
      ∧ (t.port p).ctx = (s.port p).ctx
      ∧ (t.port p).phy = (s.port p).phy
      ∧ (s.faults.snap = [] → t.faults = s.faults))
  ∧ (∀ (p : PortId) (vbs ibus aux : Int) (s : State), s.hubRuns = true →
      s.board.mainOn = true ∨ isService p = true →
      s.clusterReady (clusterOf p).val = true →
      (s.port p).harn.step = some .s1 ∨ (s.port p).harn.step = some .s3 →
    gives (.loopUpdate p vbs ibus aux) s fun t => (t.port p).stage.conv.vbs = (s.port p).stage.conv.vbs
      ∧ (t.port p).stage.conv.ibus = (s.port p).stage.conv.ibus
      ∧ (t.port p).harn = (s.port p).harn
      ∧ (t.port p).tc.st = (s.port p).tc.st
      ∧ ((s.port p).tc.rdCheck = none → (t.port p).tc = (s.port p).tc))
  ∧ (∀ (p : PortId) (vbs ibus aux : Int) (s : State), s.hubRuns = true →
      s.board.mainOn = true →
      s.clusterReady (clusterOf p).val = true →
      s.feed.trunkAge < 4 →
      (s.port p).stage.mode = .forward →
      (s.port p).stage.want = .forward →
      (s.port p).stage.startAt.later (s.now + 1) = false →
    gives (.loopUpdate p vbs ibus aux) s fun t => (t.port p).stage.vRef = slewRef (s.port p).slewRate ((s.port p).stage.vTgt * 200) (s.port p).stage.vRef
      ∧ (t.port p).stage.dacNext ≤ (s.port p).ilMax
      ∧ (t.port p).stage.mode = .forward
      ∧ (t.port p).stage.slope ≤ 4096)
  ∧ (∀ (p : PortId) (vbs ibus aux : Int) (s : State), s.hubRuns = true →
      s.board.mainOn = true →
      s.clusterReady (clusterOf p).val = true →
      (s.port p).stage.mode = .forward →
      (s.port p).stage.want ≠ .forward →
    gives (.loopUpdate p vbs ibus aux) s fun t => (t.port p).stage.mode = .idle
      ∧ (t.port p).stage.dacNext = 0
      ∧ (t.port p).stage.e = Vector.replicate 3 0
      ∧ (t.port p).stage.slope = 0
      ∧ (t.port p).stage.cmd = (s.port p).stage.cmd)
  ∧ (∀ (p : PortId) (vbs ibus aux : Int) (s : State), s.hubRuns = false ∨ (s.board.mainOn = false ∧ isService p = false) ∨ (s.clusterReady (clusterOf p).val = false ∧ (s.cluster (clusterOf p)).trimming = true) →
    exec (.loopUpdate p vbs ibus aux) s = .next (s))
  ∧ (∀ (p : PortId) (vbs ibus aux : Int) (s : State), s.hubRuns = true →
      s.board.mainOn = true ∨ isService p = true →
      s.clusterReady (clusterOf p).val = false →
      (s.cluster (clusterOf p)).trimming = false →
      (s.port p).harn.step = none →
    gives (.loopUpdate p vbs ibus aux) s fun t => (t.port p).stage.conv.vbs = (s.port p).corrected vbs
      ∧ (t.port p).stage.conv.ibus = (s.port p).shuntMa ibus
      ∧ (t.port p).stage.mode = (s.port p).stage.mode
      ∧ (t.port p).tc = (s.port p).tc
      ∧ t.faults = s.faults)
  ∧ (∀ (p : PortId) (mv : Int) (ns : Nat) (q : Period) (qs : List Period) (s : State), (s.port p).stage.cur.mode = .forward →
      (s.port p).stage.cur.region = .buck →
      (s.port p).stage.nowP = q :: qs →
      q.trip = none →
      q.low = none →
      beforeBeat (s.port p).stage.fsw p s.now ns = false →
      (s.port p).leb ≤ ns →
      ns ≤ periodNs (s.port p).stage.fsw * 90 / 100 →
      2500 ≤ mv →
    exec (.peakCurrentTrip p mv ns) s = .next (s.modPort p fun x => { x with stage := { x.stage with nowP := { q with trip := some ns } :: qs } }))
  ∧ (∀ (p : PortId) (mv : Int) (ns : Nat) (q : Period) (qs : List Period) (s : State), (s.port p).stage.cur.mode ≠ .idle →
      (s.port p).stage.nowP = q :: qs →
      q.trip ≠ none →
      q.low = none →
      beforeBeat (s.port p).stage.fsw p s.now ns = false →
      (s.port p).tooNegative (s.port p).stage.cur mv = true →
    exec (.peakCurrentTrip p mv ns) s = .next (s.modPort p fun x => { x with stage := { x.stage with nowP := { q with low := some ns } :: qs } }))
  ∧ (∀ (p : PortId) (mv : Int) (ns : Nat) (s : State), (s.port p).stage.cur.mode = .idle →
      (s.port p).stage.last.mode = .idle →
    gives (.peakCurrentTrip p mv ns) s fun t => (t.port p).stage = (s.port p).stage
      ∧ (t.port p).guard = (s.port p).guard)
  ∧ (∀ (p : PortId) (s : State), s.startReady p = true →
      (s.port p).wants s.feedOn = .forward →
    gives (.stageStart p) s fun t => (t.port p).stage.mode = .forward
      ∧ (t.port p).stage.region = startRegion (s.port p).vMeas s.feed.vTrunk
      ∧ (t.port p).stage.vRef = min (10 * (s.port p).vMeas.toNat) (200 * (s.port p).stage.vTgt)
      ∧ (t.port p).stage.disH = false
      ∧ (t.port p).stage.disS = false
      ∧ (t.port p).stage.yI = 0
      ∧ (t.cluster (clusterOf p)).senLow = false
      ∧ (t.port p).tc = (s.port p).tc
      ∧ (t.port p).pd = (s.port p).pd
      ∧ t.faults = s.faults)
  ∧ (∀ (p : PortId) (s : State), s.startReady p = false →
    exec (.stageStart p) s = .next (s))
  ∧ (∀ (p : PortId) (s : State), (s.port p).stage.disH = true →
      16 ≤ (s.port p).stage.runs.disLow →
    gives (.harnessDischargeEnd p) s fun t => (t.port p).stage = { (s.port p).stage with disH := false }
      ∧ (t.port p).tc = (s.port p).tc
      ∧ (t.port p).guard = (s.port p).guard
      ∧ (t.port p).pd = (s.port p).pd)
  ∧ (∀ (p : PortId) (s : State), (s.port p).stage.disRun = true →
      (s.port p).stage.conv.vbl < 600 →
    gives (.dischargeRunEnd p) s fun t => (t.port p).stage = { (s.port p).stage with disS := false, disRun := false, dacNext := 0, slope := 0, slopeSat := false }
      ∧ (t.port p).tc = (s.port p).tc
      ∧ (t.port p).guard = (s.port p).guard
      ∧ (t.port p).pd = (s.port p).pd)
  ∧ (∀ (c : ClusterId) (s : State), s.senDriven c = true →
      (∀ i : Fin 12, (s.port (portOf c i)).definedIdle = true ∧ 250 ≤ (s.port (portOf c i)).stage.runs.idle) →
    exec (.senIdleTimeout c) s = .next (s.modCluster c fun k => { k with senLow := true }))
  ∧ (∀ (mv : Nat) (s : State), s.hubRuns = true →
      s.feed.on = true →
      s.feed.linkUp = true →
    exec (.trunkValueDelivery mv) s = .next (s.modFeed fun f => { f with vTrunk := mv, trunkAge := 0, trunkSeen := true }))

/-- O38: the stage's faults: each raises its source; discharge failure turns the gate off, and a stale trunk value, an undervoltage
and an ILS fault leave the stage idle with the gate off; the hold of an undervoltage ends after 250 beats. -/
def Obligations.StageConditions : Prop :=
  (∀ (p : PortId) (s : State), (s.port p).stage.disH = true ∧ 12500 ≤ Beat.since s.now (s.port p).stage.disBeat ∨ (s.port p).stage.disS = true ∧ 12500 ≤ Beat.since s.now (s.port p).stage.disBeatS →
    gives (.dischargeFail p) s fun t => t.raisedAt (64 + p.val) = true
      ∧ (t.port p).guard.gateOn = false)
  ∧ (∀ (s : State), 25 ≤ s.feed.trunkAge →
    gives (.trunkStale) s fun t => ∀ p : PortId, (s.port p).stage.mode ≠ .idle → (t.port p).stage.mode = .idle ∧ (t.port p).guard.gateOn = false ∧ t.raisedAt (64 + p.val) = true)
  ∧ (∀ (p : PortId) (s : State), (s.port p).stage.mode ≠ .idle →
      4 ≤ (s.port p).stage.runs.uv →
    gives (.stageUv p) s fun t => t.raisedAt (64 + p.val) = true
      ∧ (t.port p).stage.mode = .idle
      ∧ (t.port p).guard.gateOn = false)
  ∧ (∀ (p : PortId) (s : State), (s.port p).stage.uvHold = true →
      250 ≤ (s.port p).stage.runs.uvOk →
    exec (.stageUvRestart p) s = .next (s.modPort p fun x => Port.freeGate s.now { x with stage := { x.stage with uvHold := false } }))
  ∧ (∀ (p : PortId) (s : State), (s.port p).stage.runs.ilsBad = 2 →
    gives (.ilsFault p) s fun t => t.raisedAt (64 + p.val) = true
      ∧ (t.port p).stage.mode = .idle
      ∧ ((s.port p).stage.mode ≠ .idle → (t.port p).guard.gateOn = false))
  ∧ (∀ (p : PortId) (c : Instr) (s : State), (c = .stageHeadroom p ∧ (s.port p).stage.runs.upper = 250) ∨ (c = .loopSat p ∧ (s.port p).stage.runs.sat = 2500) →
    gives (c) s fun t => t.raisedAt (64 + p.val) = true
      ∧ ((t.port p).tc.st = .disabled ∨ (t.port p).tc.st = .errorRecovery ∨ (t.port p).stage.mode = (s.port p).stage.mode ∨ (t.port p).stage.mode = .idle))

/-! ### The path guards (chapter 12) -/

/-- O39: a window monitor follows its samples, and three counted ones at 7.0 V make the gate fully on; an overvoltage, the current limit held for
its time, a fast trip and a gate that is off when it should be on stop the stage, turn the gate off and raise the port's source. The current limit
starts the fault timer; 16 beats without it clear the timer; 15,000,000 beats of power good clear the trip count. The thermal model moves each
beat, and a trip of it acts at the next slot 0; a bad sensor raises the source. -/
def Obligations.Guards : Prop :=
  (∀ (p : PortId) (xs : List MonSample) (s : State), s.portPowered p = true →
      (s.port p).guard.vbs.sawHigh (s.port p).vbsWindow (s.port p).monBlank xs = false →
    exec (.windowMonitorDecision p .vbs xs) s = .next (s.modPort p fun y => { y with guard := { y.guard with vbs := y.guard.vbs.run y.vbsWindow y.monBlank xs } }))
  ∧ (∀ (p : PortId) (m : PortMon) (xs : List MonSample) (s : State), s.portPowered p = true →
      (m = .vbs ∧ (s.port p).guard.vbs.sawHigh (s.port p).vbsWindow (s.port p).monBlank xs = true) ∨ (m = .vbl ∧ (s.port p).guard.vbl.sawHigh (s.port p).vblWindow (s.port p).monBlank xs = true) →
    gives (.windowMonitorDecision p m xs) s fun t => t.raisedAt (64 + p.val) = true
      ∧ (t.port p).guard.gateOn = false
      ∧ (t.port p).stage.mode = .idle)
  ∧ (∀ (p : PortId) (c : Instr) (xs : List MonSample) (s : State), s.portPowered p = true →
      c = .windowMonitorDecision p .gate xs ∨ c = .gateFullyOn (.port p) xs ∨ c = .gateBelowOff (.port p) xs →
      (s.port p).guard.gateOn = true →
      (s.port p).guard.fullyOn = false →
      (s.port p).guard.fullMon = [] →
      xs = List.replicate 3 ⟨7000, 9000⟩ →
    gives (c) s fun t => (t.port p).guard.fullyOn = true
      ∧ (t.port p).guard.beenFull = true
      ∧ (t.port p).guard.gateBlanked = false
      ∧ (t.port p).stage = (s.port p).stage
      ∧ (t.port p).tc = (s.port p).tc
      ∧ (t.port p).pd = (s.port p).pd
      ∧ t.pool = s.pool)
  ∧ (∀ (p : PortId) (m : PortMon) (s : State), (s.port p).guard.blankRun[monDetail m] = 4 →
    gives (.monBlanked (.port p m)) s fun t => t.raisedAt (64 + p.val) = true)
  ∧ (∀ (p : PortId) (s : State), (s.port p).guard.gateOn = true →
      (s.port p).guard.belowOff = true →
      (s.port p).guard.beenFull = true →
      (s.port p).guard.gst ≠ .limit →
    gives (.fetGate p) s fun t => t.raisedAt (64 + p.val) = true
      ∧ (t.port p).tc.st = .lockout
      ∧ (t.port p).guard.gateOn = false
      ∧ (t.port p).stage.mode = .idle)
  ∧ (∀ (p : PortId) (ma : Int) (s : State), (s.port p).guard.gateOn = true →
      (s.port p).guard.gst = .ramp ∨ (s.port p).guard.gst = .on ∨ (s.port p).guard.gst = .limit →
      10 * (s.port p).guard.iLim ≤ ma.natAbs →
    gives (.currentLimitEnter p ma) s fun t => (t.port p).guard.gst = .limit
      ∧ (t.port p).guard.timer = some ((s.port p).guard.timer.getD 0)
      ∧ (t.port p).guard.fullyOn = false
      ∧ (t.port p).guard.gateOn = true
      ∧ (t.port p).tc = (s.port p).tc
      ∧ t.pool = s.pool
      ∧ t.faults = s.faults
      ∧ (t.port p).pd = (s.port p).pd)
  ∧ (∀ (p : PortId) (n : Nat) (s : State), (s.port p).guard.timer = some n →
      (s.port p).faultBound s.feed.brownout ≤ n →
    gives (.ilimTimeout p) s fun t => t.raisedAt (64 + p.val) = true
      ∧ (t.port p).guard.gateOn = false
      ∧ (t.port p).stage.mode = .idle
      ∧ (t.port p).guard.timer = none)
  ∧ (∀ (p : PortId) (n : Nat) (s : State), (s.port p).guard.timer = some n →
      16 ≤ (s.port p).stage.runs.limitFree →
    exec (.faultTimerClear p) s = .next (s.modPort p fun x => { x with guard := { x.guard with timer := none, rise := if x.guard.fullyOn then none else some 0 } }))
  ∧ (∀ (p : PortId) (ma : Int) (s : State), (s.port p).guard.gateOn = true →
      25 * fld (s.port p).cfg.guard[0] 24 8 * (10 * (s.port p).guard.iLim) < 100 * ma.natAbs →
    gives (.fastTrip p ma) s fun t => t.raisedAt (64 + p.val) = true
      ∧ (t.port p).guard.gateOn = false
      ∧ (t.port p).stage.mode = .idle)
  ∧ (∀ (p : PortId) (ma : Int) (s : State), 100 * ma.natAbs ≤ 25 * fld (s.port p).cfg.guard[0] 24 8 * (10 * (s.port p).guard.iLim) →
    exec (.fastTrip p ma) s = .next (s))
  ∧ (∀ (p : PortId) (s : State), 15000000 ≤ (s.port p).stage.runs.good →
    exec (.tripCountReset p) s = .next (s.modPort p fun x => { x with guard := { x.guard with trips := 0 } }))
  ∧ (∀ (p : PortId) (s : State), s.portPowered p = true →
      (s.port p).enabled = true →
      ((s.port p).thermalStep).tooHot = false ∨ (s.port p).thermalStep.tripIdle = true →
    exec (.thermalModelUpdate p) s = .next (s.modPort p Port.thermalStep))
  ∧ (∀ (p : PortId) (s : State), s.portPowered p = true →
      (s.port p).enabled = true →
      ((s.port p).thermalStep).tooHot = true →
      (s.port p).thermalStep.tripIdle = false →
    gives (.thermalModelUpdate p) s fun t => (t.port p).guard.hotDue = true
      ∧ (t.port p).guard.tEst = ((s.port p).thermalStep).guard.tEst
      ∧ (t.port p).guard.gst = (s.port p).guard.gst
      ∧ (t.port p).stage = (s.port p).stage
      ∧ t.faults = s.faults)
  ∧ (∀ (p : PortId) (s : State), (s.port p).guard.hotDue = true → (∀ q : PortId, q ≠ p → (s.port q).guard.hotDue = false) →
    (s.port p).tripIdle = false →
    s.hotTrips = ((s.modPort p fun x => { x with guard := { x.guard with hotDue := false } }).guardAct p, [portRaise p 5 0])
    ∧ (s.hotTrips.1.port p).guard.gateOn = false ∧ (s.hotTrips.1.port p).stage.mode = .idle)
  ∧ (∀ (p : PortId) (s : State), (s.port p).guard.tsnBad = 2 →
    gives (.tsnFault p) s fun t => t.raisedAt (64 + p.val) = true
      ∧ ((s.port p).tMode = 0 → (t.port p).guard.gateOn = false))

/-! ### The feed guard die (chapter 13) -/

/-- O40: the feeds' states: a GOOD window starts the insertion delay and a NOT_GOOD one takes the feed to OFF; the delay ends in STANDBY, from
where the feed selected ramps; FULLY_ON, the qualification and ON follow; the current limit starts the fault timer and withdraws FPG; the
timer's end, the fast trip and the temperature take the feed to COOL or LATCHED; COOL ends in OFF. A
feed that latched without reporting its gate off keeps the other gate off. -/
def Obligations.Feeds : Prop :=
  (∀ (f : Feed) (xs : List MonSample) (s : State), s.feed.on = true →
      (s.feed.feed f).st = .off →
      (s.feed.feed f).mon.good = false →
      ((s.feed.feed f).mon.run (s.feed.vinWindow f) s.feed.chgBlank xs).good = true →
    gives (.feedVinWindow f xs) s fun t => (t.feed.feed f).st = .delay
      ∧ (t.feed.feed f).mon.good = true
      ∧ (t.feed.feed f).gateOn = (s.feed.feed f).gateOn
      ∧ t.cores = s.cores
      ∧ t.store = s.store
      ∧ t.yarrow = s.yarrow)
  ∧ (∀ (f : Feed) (xs : List MonSample) (s : State), s.feed.on = true →
      (s.feed.feed f).mon.good = true →
      ((s.feed.feed f).mon.run (s.feed.vinWindow f) s.feed.chgBlank xs).good = false →
      (s.feed.feed f).st ≠ .latched →
      (s.feed.feed f).st ≠ .disabled →
    gives (.feedVinWindow f xs) s fun t => (t.feed.feed f).st = .off
      ∧ (t.feed.feed f).gateOn = false
      ∧ (t.feed.feed f).timer = false
      ∧ (t.feed.feed f).held = false
      ∧ (t.feed.feed f).mon.good = false
      ∧ (t.feed.feed f).trips = (s.feed.feed f).trips
      ∧ (s.feed.selected = some f → s.feed.linkUp = true → s.hubRuns = true → t.raisedAt (feedSrc f 0) = true)
      ∧ t.cores = s.cores
      ∧ t.store = s.store
      ∧ t.yarrow = s.yarrow)
  ∧ (∀ (f : Feed) (xs : List MonSample) (s : State), s.feed.on = true →
      (s.feed.feed f).st = .latched ∨ (s.feed.feed f).st = .disabled →
    gives (.feedVinWindow f xs) s fun t => (t.feed.feed f).st = (s.feed.feed f).st
      ∧ (t.feed.feed f).mon = (s.feed.feed f).mon.run (s.feed.vinWindow f) s.feed.chgBlank xs)
  ∧ (∀ (f : Feed) (us : Nat) (s : State), s.feed.on = true →
      (s.feed.feed f).st = .delay →
      (s.feed.feed f).mon.good = true →
      s.feed.insDelay f ≤ us →
      s.feed.change = none →
      (s.feed.feed f).held = false →
      f = .a ∨ s.feed.a.st.standing = false →
      (s.feed.feed (otherFeed f)).st.driven = false →
      (s.feed.feed (otherFeed f)).gateOn = false →
      (s.feed.feed (otherFeed f)).belowOff = true →
    gives (.insertionDelayExpiry f us) s fun t => (t.feed.feed f).st = .ramp
      ∧ (t.feed.feed f).gateOn = true
      ∧ t.feed.selected = some f
      ∧ t.feed.feed (otherFeed f) = s.feed.feed (otherFeed f)
      ∧ t.ports = s.ports
      ∧ t.cores = s.cores
      ∧ t.store = s.store
      ∧ t.yarrow = s.yarrow)
  ∧ (∀ (us : Nat) (s : State), s.feed.on = true →
      s.feed.a.st = .delay →
      s.feed.a.mon.good = true →
      s.feed.insDelay .a ≤ us →
      s.feed.change = none →
      s.feed.a.held = false →
      s.feed.b.st.driven = true →
      s.feed.linkUp = true →
      s.hubRuns = true →
    gives (.insertionDelayExpiry .a us) s fun t => t.feed.a.st = .standby
      ∧ t.feed.b.st = .standby
      ∧ t.feed.b.gateOn = false
      ∧ t.feed.change = some ⟨.b, false, false⟩
      ∧ t.feed.changeBlank = true
      ∧ t.feed.fpg = false
      ∧ t.feed.lastChange = s.now
      ∧ t.raisedAt 176 = true
      ∧ t.cores = s.cores
      ∧ t.store = s.store
      ∧ t.yarrow = s.yarrow)
  ∧ (∀ (f : Feed) (us : Nat) (s : State), us < s.feed.insDelay f →
    exec (.insertionDelayExpiry f us) s = .next (s))
  ∧ (∀ (us : Nat) (c : Changeover) (f : Feed) (s : State), s.feed.on = true →
      s.feed.change = some c →
      c.confirmed = true →
      fld s.feed.inForce.bbm 0 10 ≤ us →
      s.feed.pick = some f →
      (s.feed.feed f).st = .standby →
      (s.feed.feed (otherFeed f)).st.driven = false →
      (s.feed.feed (otherFeed f)).gateOn = false →
      (s.feed.feed (otherFeed f)).belowOff = true →
    gives (.bbmExpiry us) s fun t => t.feed.change = none
      ∧ (t.feed.feed f).st = .ramp
      ∧ (t.feed.feed f).gateOn = true
      ∧ (t.feed.feed f).full = false
      ∧ t.feed.selected = some f
      ∧ t.feed.feed (otherFeed f) = s.feed.feed (otherFeed f)
      ∧ t.ports = s.ports
      ∧ t.cores = s.cores
      ∧ t.store = s.store
      ∧ t.yarrow = s.yarrow)
  ∧ (∀ (us : Nat) (c : Changeover) (s : State), s.feed.on = true →
      s.feed.change = some c →
      c.confirmed = false →
      fld s.feed.inForce.bbm 0 10 ≤ us →
    gives (.bbmExpiry us) s fun t => t.feed.change = some { c with bbm := true }
      ∧ t.feed.a = s.feed.a
      ∧ t.feed.b = s.feed.b
      ∧ t.ports = s.ports
      ∧ t.cores = s.cores)
  ∧ (∀ (us : Nat) (c : Changeover) (s : State), s.feed.on = true →
      s.feed.change = some c →
      c.confirmed = false →
      1000 ≤ us →
      (s.feed.feed c.out).st.driven = false →
      (s.feed.feed c.out).belowOff = false →
    gives (.changeoverGateTimeout us) s fun t => (t.feed.feed c.out).st = .latched
      ∧ (t.feed.feed c.out).gateOn = false
      ∧ (t.feed.feed c.out).stuck = true
      ∧ (t.feed.feed c.out).trips = satIncr (s.feed.feed c.out).trips
      ∧ t.feed.change = none
      ∧ t.feed.feed (otherFeed c.out) = s.feed.feed (otherFeed c.out)
      ∧ (s.feed.linkUp = true → s.hubRuns = true → t.raisedAt (feedSrc c.out 4) = true)
      ∧ t.cores = s.cores
      ∧ t.store = s.store
      ∧ t.yarrow = s.yarrow)
  ∧ (∀ (f : Feed) (us : Nat) (s : State), s.feed.on = true →
      (s.feed.feed f).st = .ramp →
      (s.feed.feed f).full = false →
      2 * ((s.feed.feed f).vin.toNat * 20 / max 1 (s.feed.dvdt f)) + 10000 ≤ us →
    gives (.feedRampTimeout f us) s fun t => (t.feed.feed f).st = .latched
      ∧ (t.feed.feed f).gateOn = false
      ∧ (t.feed.feed f).trips = satIncr (s.feed.feed f).trips
      ∧ (s.feed.linkUp = true → s.hubRuns = true → t.raisedAt (feedSrc f 4) = true)
      ∧ t.cores = s.cores
      ∧ t.store = s.store
      ∧ t.yarrow = s.yarrow)
  ∧ (∀ (f : Feed) (us : Nat) (s : State), s.feed.on = true →
      (s.feed.feed f).st = .qual →
      (s.feed.feed f).timer = false →
      1000 * fld s.feed.inForce.pgQual 0 8 ≤ us →
      s.feed.pick = some f →
      (s.feed.feed (otherFeed f)).st.driven = false →
    gives (.pgQualExpiry f us) s fun t => (t.feed.feed f).st = .on
      ∧ t.feed.fpg = true
      ∧ t.feed.selected = some f
      ∧ (s.feed.linkUp = true → s.hubRuns = true → s.board.testen = false → s.coreReady 8 = true → t.ready (match f with | .a => 20 | .b => 21) = true)
      ∧ t.feed.feed (otherFeed f) = s.feed.feed (otherFeed f)
      ∧ t.ports = s.ports
      ∧ t.cores = s.cores
      ∧ t.store = s.store
      ∧ t.yarrow = s.yarrow)
  ∧ (∀ (f : Feed) (uv : Int) (s : State), s.feed.on = true →
      s.feed.pick = some f →
      (s.feed.feed f).st.driven = true →
      (s.feed.feed (otherFeed f)).st.driven = false →
      1000 * (s.feed.ilimMv f : Int) ≤ uv →
    gives (.feedLimitStart f uv) s fun t => t.feed.feed f = { (s.feed.feed f) with limiting := true, timer := true, full := false, fullMon := [], shunt := uv }
      ∧ t.feed.fpg = false
      ∧ (s.feed.linkUp = true → s.hubRuns = true → s.board.testen = false → s.coreReady 8 = true → t.ready (match f with | .a => 20 | .b => 21) = false)
      ∧ t.feed.feed (otherFeed f) = s.feed.feed (otherFeed f)
      ∧ t.cores = s.cores
      ∧ t.store = s.store
      ∧ t.yarrow = s.yarrow)
  ∧ (∀ (f : Feed) (us : Nat) (s : State), s.feed.on = true →
      (s.feed.feed f).timer = true →
      s.feed.faultT f ≤ us →
    gives (.feedFaultTimerExpiry f us) s fun t => (t.feed.feed f).st = (if s.feed.latchOff f then .latched else .cool)
      ∧ (t.feed.feed f).gateOn = false
      ∧ (t.feed.feed f).timer = false
      ∧ (t.feed.feed f).limiting = false
      ∧ (t.feed.feed f).trips = satIncr (s.feed.feed f).trips
      ∧ (s.feed.linkUp = true → s.hubRuns = true → t.raisedAt (feedSrc f 1) = true)
      ∧ t.cores = s.cores
      ∧ t.store = s.store
      ∧ t.yarrow = s.yarrow)
  ∧ (∀ (f : Feed) (us : Nat) (s : State), s.feed.on = true →
      (s.feed.feed f).timer = true →
      (s.feed.feed f).limiting = false →
      64 ≤ us →
      s.feed.pick = some f →
      (s.feed.feed f).st.driven = true →
      (s.feed.feed (otherFeed f)).st.driven = false →
    gives (.feedFaultTimerClear f us) s fun t => (t.feed.feed f).timer = false
      ∧ (t.feed.feed f).st = (if (s.feed.feed f).st = .on then .qual else (s.feed.feed f).st)
      ∧ (t.feed.feed f).gateOn = (s.feed.feed f).gateOn
      ∧ t.feed.feed (otherFeed f) = s.feed.feed (otherFeed f)
      ∧ t.cores = s.cores
      ∧ t.store = s.store
      ∧ t.yarrow = s.yarrow)
  ∧ (∀ (f : Feed) (uv : Int) (s : State), s.feed.on = true →
      (s.feed.feed f).st.driven = true →
      1000 * (s.feed.ft f * s.feed.ilimMv f : Int) ≤ 4 * uv →
    gives (.feedFastTrip f uv) s fun t => (t.feed.feed f).st = (if s.feed.latchOff f then .latched else .cool)
      ∧ (t.feed.feed f).gateOn = false
      ∧ (t.feed.feed f).shunt = uv
      ∧ (t.feed.feed f).trips = satIncr (s.feed.feed f).trips
      ∧ (s.feed.linkUp = true → s.hubRuns = true → t.raisedAt (feedSrc f 2) = true)
      ∧ t.cores = s.cores
      ∧ t.store = s.store
      ∧ t.yarrow = s.yarrow)
  ∧ (∀ (f : Feed) (t1 t2 : Int) (s : State), s.feed.on = true →
      (s.feed.feed f).mon.good = true →
      (s.feed.feed f).st.driven = true →
      s.feed.tmpTrip f ≤ feedTemp t1 →
      s.feed.tmpTrip f ≤ feedTemp t2 →
    gives (.feedOvertemp f t1 t2) s fun t => (t.feed.feed f).st = (if s.feed.latchOff f then .latched else .cool)
      ∧ (t.feed.feed f).gateOn = false
      ∧ (t.feed.feed f).temp = feedTemp t2
      ∧ (t.feed.feed f).hot = true
      ∧ (t.feed.feed f).trips = satIncr (s.feed.feed f).trips
      ∧ (s.feed.linkUp = true → s.hubRuns = true → t.raisedAt (feedSrc f 3) = true)
      ∧ t.cores = s.cores
      ∧ t.store = s.store
      ∧ t.yarrow = s.yarrow)
  ∧ (∀ (f : Feed) (t1 t2 : Int) (s : State), s.feed.on = true →
      (s.feed.feed f).mon.good = true →
      (s.feed.feed f).st = .delay ∨ (s.feed.feed f).st = .standby →
      s.feed.tmpTrip f ≤ feedTemp t1 →
      s.feed.tmpTrip f ≤ feedTemp t2 →
    gives (.feedOvertemp f t1 t2) s fun t => (t.feed.feed f).held = true
      ∧ (t.feed.feed f).hot = true
      ∧ (t.feed.feed f).st = (s.feed.feed f).st
      ∧ t.feed.selected ≠ some f
      ∧ (t.feed.feed f).trips = (s.feed.feed f).trips)
  ∧ (∀ (f : Feed) (t1 t2 : Int) (s : State), s.feed.on = true →
      (s.feed.feed f).mon.good = true →
      feedTemp t1 < s.feed.tmpTrip f ∨ feedTemp t2 < s.feed.tmpTrip f →
    exec (.feedOvertemp f t1 t2) s = .next (s.modFeed fun d => d.modFeedSt f fun g => { g with temp := feedTemp t2, hot := g.hot && decide (s.feed.tmpBack f ≤ feedTemp t2) }))
  ∧ (∀ (f : Feed) (us : Nat) (s : State), s.feed.on = true →
      (s.feed.feed f).st = .cool →
      s.feed.coolUs f ≤ us →
      (s.feed.feed f).temp < s.feed.tmpBack f →
    gives (.feedCoolExpiry f us) s fun t => (t.feed.feed f).st = .off
      ∧ (t.feed.feed f).trips = (s.feed.feed f).trips
      ∧ t.cores = s.cores
      ∧ t.store = s.store
      ∧ t.yarrow = s.yarrow)
  ∧ (∀ (f : Feed) (us : Nat) (s : State), s.feed.on = true →
      (s.feed.feed f).st = .cool →
      s.feed.coolUs f ≤ us →
      s.feed.tmpBack f ≤ (s.feed.feed f).temp →
    gives (.feedCoolExpiry f us) s fun t => (t.feed.feed f).st = .cool
      ∧ (t.feed.feed f).held = true)
  ∧ (∀ (f : Feed) (v : Int) (s : State), s.feed.on = true →
      (s.feed.feed f).mon.good = true →
      (s.feed.feed f).held = true →
      (s.feed.feed f).st = .cool →
      feedTemp v < s.feed.tmpBack f →
    gives (.feedTemperatureRelease f v) s fun t => (t.feed.feed f).st = .off
      ∧ (t.feed.feed f).held = false
      ∧ (t.feed.feed f).hot = false
      ∧ (t.feed.feed f).temp = feedTemp v
      ∧ t.cores = s.cores
      ∧ t.store = s.store
      ∧ t.yarrow = s.yarrow)
  ∧ (∀ (us : Nat) (s : State), s.feed.on = true →
      s.feed.noFeed = false →
      10000 ≤ us →
      s.feed.a.st ≠ .on →
      s.feed.b.st ≠ .on →
      s.feed.a.mon.good = true ∨ s.feed.b.mon.good = true →
    gives (.noFeedOn us) s fun t => t.feed.noFeed = true
      ∧ t.feed.a = s.feed.a
      ∧ t.feed.b = s.feed.b
      ∧ (s.feed.linkUp = true → s.hubRuns = true → t.raisedAt 177 = true)
      ∧ (s.feed.linkUp = false → s.feed.deferred.length < 16 → t.feed.deferred = s.feed.deferred ++ [{ devRaise 177 0 0 with deferred := true }])
      ∧ t.cores = s.cores
      ∧ t.store = s.store
      ∧ t.yarrow = s.yarrow)
  ∧ (∀ (f : Feed) (s : State), s.feed.on = true →
      s.feed.pick = some f →
      (s.feed.feed (otherFeed f)).st.driven = false →
      s.feed.change = none →
      (s.feed.feed f).st = .ramp →
      (s.feed.feed f).full = false →
      (s.feed.feed f).gateOn = true →
      (s.feed.feed f).fullMon = [] →
    gives (.gateFullyOn (.feed f) (List.replicate 3 ⟨7000, 1000000⟩)) s fun t => (t.feed.feed f).st = .qual
      ∧ (t.feed.feed f).full = true
      ∧ (t.feed.feed f).limiting = false
      ∧ t.feed.feed (otherFeed f) = s.feed.feed (otherFeed f)
      ∧ t.ports = s.ports
      ∧ t.cores = s.cores)
  ∧ (∀ (f : Feed) (c : Changeover) (s : State), s.feed.on = true →
      s.feed.change = some c →
      c.out = f →
      c.bbm = false →
      (s.feed.feed f).belowOff = false →
      (s.feed.feed f).offMon = [] →
    gives (.gateBelowOff (.feed f) (List.replicate 3 ⟨1499, 1000000⟩)) s fun t => (t.feed.feed f).belowOff = true
      ∧ t.feed.change = some { c with confirmed := true }
      ∧ t.feed.feed (otherFeed f) = s.feed.feed (otherFeed f)
      ∧ t.ports = s.ports
      ∧ t.cores = s.cores)
  ∧ (∀ (f : Feed) (xs : List MonSample) (s : State), s.feed.on = true →
      s.feed.change = none →
      (s.feed.feed f).st = .latched →
      (s.feed.feed f).stuck = true →
      (s.feed.feed (otherFeed f)).st = .standby →
    gives (.gateBelowOff (.feed f) xs) s fun t => t.feed.feed (otherFeed f) = s.feed.feed (otherFeed f)
      ∧ (t.feed.feed f).st = .latched
      ∧ t.ports = s.ports
      ∧ t.cores = s.cores)
  ∧ (∀ (f : Feed) (us : Nat) (s : State), s.feed.on = true →
      (s.feed.feed f).mon.blanked = true →
      (s.feed.feed f).mon.raised = false →
      s.feed.chgBlank + 16000 ≤ 1000 * us →
    gives (.monBlanked (.feed f us)) s fun t => (s.feed.linkUp = true → s.hubRuns = true → t.raisedAt (feedSrc f 5) = true)
      ∧ t.feed.feed f = { s.feed.feed f with mon := { (s.feed.feed f).mon with raised := true } }
      ∧ t.feed.feed (otherFeed f) = s.feed.feed (otherFeed f)
      ∧ t.cores = s.cores)
  ∧ (∀ (us : Nat) (s : State), s.feed.on = true →
      s.feed.trunkMon.blanked = true →
      s.feed.trunkMon.raised = false →
      s.feed.chgBlank + 16000 ≤ 1000 * us →
    gives (.monBlanked (.trunk us)) s fun t => (s.feed.linkUp = true → s.hubRuns = true → t.raisedAt 181 = true)
      ∧ t.feed.trunkMon = { s.feed.trunkMon with raised := true }
      ∧ t.feed.brownout = s.feed.brownout
      ∧ t.cores = s.cores)

/-- O41: the feed guard die starts on its straps with both feeds OFF, or DISABLED under a reserved code, and stops with both feeds at reset;
a lost link is F180, and when it returns the hub takes its working values from the straps where it has none, and a set that waits goes to the die.
Below its threshold the trunk gives brownout with every grant at its floor, and brownout ends in an allocation; the hub does not see either while
the link is down. While S8 runs, an allocation in a beat after its trigger's divides the budget in force, or with none held gives every port its floor. A die
sensor's four hot readings raise F5; a snapshot is written to its place, and a failure raises F214. -/
def Obligations.FeedDieLink : Prop :=
  (∀ (va vb : Int) (s0 s1 s2 s3 : Fin 8) (s : State), s.feed.on = false →
      12000 < max va vb →
      s0.val < 4 →
    gives (.feedGuardStart va vb s0 s1 s2 s3) s fun t => t.feed.on = true
      ∧ t.feed.straps = #v[s0, s1, s2, s3]
      ∧ t.feed.strapInvalid = false
      ∧ t.feed.inForce = strapSet #v[s0, s1, s2, s3]
      ∧ t.feed.a = { FeedState.reset with st := .off, vin := va }
      ∧ t.feed.b = { FeedState.reset with st := .off, vin := vb }
      ∧ t.feed.selected = none
      ∧ t.feed.fpg = false
      ∧ t.feed.linkUp = false
      ∧ t.feed.fromHub = false
      ∧ t.ports = s.ports
      ∧ t.cores = s.cores
      ∧ t.faults = s.faults
      ∧ t.pool = s.pool
      ∧ t.dev = s.dev
      ∧ t.feed.work = s.feed.work)
  ∧ (∀ (va vb : Int) (s0 s1 s2 s3 : Fin 8) (s : State), s.feed.on = false →
      12000 < max va vb →
      4 ≤ s0.val →
    gives (.feedGuardStart va vb s0 s1 s2 s3) s fun t => t.feed.on = true
      ∧ t.feed.strapInvalid = true
      ∧ t.feed.a = { FeedState.reset with st := .disabled, vin := va }
      ∧ t.feed.b = { FeedState.reset with st := .disabled, vin := vb }
      ∧ t.feed.deferred = [{ devRaise 179 0 0 with deferred := true }]
      ∧ t.ports = s.ports
      ∧ t.faults = s.faults)
  ∧ (∀ (va vb : Int) (s0 s1 s2 s3 : Fin 8) (s : State), s.feed.on = true ∨ max va vb ≤ 12000 →
    exec (.feedGuardStart va vb s0 s1 s2 s3) s = .next (s))
  ∧ (∀ (xs : List Int) (s : State), s.feed.on = true →
      8 ≤ xs.length →
      (∀ v ∈ xs, v < 10000) →
    gives (.feedGuardStop xs) s fun t => t.feed.on = false
      ∧ t.feed.a = { FeedState.reset with vin := s.feed.a.vin }
      ∧ t.feed.b = { FeedState.reset with vin := s.feed.b.vin }
      ∧ t.feed.fpg = false
      ∧ t.feed.fromHub = false
      ∧ t.feed.linkUp = false
      ∧ t.feed.selected = none
      ∧ t.feed.inForce = strapSet s.feed.straps
      ∧ t.ready 20 = false
      ∧ t.ready 21 = false
      ∧ (s.feed.linkUp = true → s.hubRuns = true → t.raisedAt 180 = true)
      ∧ t.cores = s.cores
      ∧ t.store = s.store
      ∧ t.yarrow = s.yarrow)
  ∧ (∀ (s : State), s.feed.linkUp = true →
      s.hubRuns = true →
    gives (.feedLinkLost) s fun t => t.feed.linkUp = false
      ∧ t.feed.a = s.feed.a
      ∧ t.feed.b = s.feed.b
      ∧ t.feed.brownout = s.feed.brownout
      ∧ t.feed.vTrunk = s.feed.vTrunk
      ∧ t.ready 20 = s.ready 20
      ∧ t.ready 21 = s.ready 21
      ∧ t.raisedAt 180 = true
      ∧ t.cores = s.cores
      ∧ t.store = s.store
      ∧ t.yarrow = s.yarrow)
  ∧ (∀ (s : State), s.feed.on = true →
      s.hubRuns = true →
      s.feed.linkUp = false →
      s.feed.workSet = false →
      s.feed.cfgDue = none →
      s.feed.trunkMon.good = true →
    gives (.feedLinkUp) s fun t => t.feed.linkUp = true
      ∧ t.feed.work = strapSet s.feed.straps
      ∧ t.feed.workSet = true
      ∧ t.feed.inForce = s.feed.inForce
      ∧ t.feed.deferred = []
      ∧ t.feed.brownout = false
      ∧ t.feed.fpg = s.feed.power
      ∧ (s.board.testen = false → s.coreReady 8 = true → t.ready 20 = (s.feed.power && s.feed.selected == some .a) ∧ t.ready 21 = (s.feed.power && s.feed.selected == some .b))
      ∧ t.feed.a = s.feed.a
      ∧ t.feed.b = s.feed.b
      ∧ t.cores = s.cores
      ∧ t.store = s.store
      ∧ t.yarrow = s.yarrow)
  ∧ (∀ (c : FeedCfg) (s : State), s.feed.on = true →
      s.hubRuns = true →
      s.feed.linkUp = false →
      s.feed.workSet = true →
      s.feed.cfgDue = some c →
    gives (.feedLinkUp) s fun t => t.feed.linkUp = true
      ∧ t.feed.inForce = c
      ∧ t.feed.fromHub = true
      ∧ t.feed.cfgDue = none
      ∧ t.feed.work = s.feed.work
      ∧ t.feed.a = s.feed.a
      ∧ t.cores = s.cores)
  ∧ (∀ (xs : List MonSample) (s : State), s.feed.on = true →
      s.feed.linkUp = true →
      s.hubRuns = true →
      s.feed.brownout = false →
      s.feed.trunkMon.good = true →
      (s.feed.trunkMon.run s.feed.trunkWindow s.feed.chgBlank xs).good = false →
    gives (.brownoutEnter xs) s fun t => t.feed.brownout = true
      ∧ t.feed.trunkMon.good = false
      ∧ t.raisedAt 178 = true
      ∧ (t.port 0).grant = s.floors.getD 0 0
      ∧ (∀ p : PortId, (t.port p).grant = s.floors.getD p.val 0)
      ∧ t.cores = s.cores
      ∧ t.store = s.store
      ∧ t.yarrow = s.yarrow)
  ∧ (∀ (xs : List MonSample) (s : State), s.feed.on = true →
      s.feed.linkUp = true →
      s.hubRuns = true →
      s.feed.brownout = true →
      s.feed.trunkMon.good = false →
      (s.feed.trunkMon.run s.feed.trunkWindow s.feed.chgBlank xs).good = true →
    gives (.brownoutExit xs) s fun t => t.feed.brownout = false
      ∧ t.feed.trunkMon.good = true
      ∧ t.budget.beat = s.now
      ∧ t.budget.due = false
      ∧ t.feed.a = s.feed.a
      ∧ t.feed.b = s.feed.b
      ∧ t.cores = s.cores
      ∧ t.store = s.store)
  ∧ (∀ (xs : List MonSample) (s : State), s.feed.on = true →
      s.feed.linkUp = false →
    gives (.brownoutEnter xs) s fun t => t.feed.brownout = s.feed.brownout
      ∧ t.feed.trunkMon = s.feed.trunkMon.run s.feed.trunkWindow s.feed.chgBlank xs
      ∧ t.ports = s.ports
      ∧ t.faults = s.faults
      ∧ t.cores = s.cores)
  ∧ (∀ (d : Division) (s : State), d = divide (s.bEff - s.reserve) s.floors s.wants →
      s.hubRuns = true →
      s.budget.due = true →
      s.budget.dueAt ≠ s.now →
      s.feed.brownout = false →
      s.budgetHeld = true →
      s.coreStopped 8 = false →
    gives (.budgetAllocation) s fun t => t.budget.due = false
      ∧ t.budget.beat = s.now
      ∧ t.budget.short = d.short
      ∧ t.budget.floorSum = d.floorSum
      ∧ t.budget.poolP = d.pool
      ∧ t.budget.level = d.level
      ∧ (t.budget.short = true → s.budget.short = false → t.raisedAt 48 = true)
      ∧ (∀ p : PortId, (t.port p).grant = d.grants.getD p.val 0)
      ∧ t.cores = s.cores
      ∧ t.store = s.store
      ∧ t.feed = s.feed
      ∧ t.yarrow = s.yarrow)
  ∧ (∀ (s : State), s.budget.due = false ∨ s.budget.dueAt = s.now ∨ s.feed.brownout = true ∨ s.coreStopped 8 = true →
    exec (.budgetAllocation) s = .next (s))
  ∧ (∀ (s : State), s.hubRuns = true →
      s.budget.due = true →
      s.budget.dueAt ≠ s.now →
      s.feed.brownout = false →
      s.budgetHeld = false →
      s.yarrow.gstate ≠ .member →
      s.yarrow.gstate ≠ .root →
      s.coreStopped 8 = false →
    gives (.budgetAllocation) s fun t => t.budget.due = false
      ∧ t.budget.beat = s.now
      ∧ t.budget.short = false
      ∧ (∀ p : PortId, (t.port p).grant = s.floors.getD p.val 0)
      ∧ t.faults.raised = s.faults.raised
      ∧ t.feed = s.feed)
  ∧ (∀ (k : Fin 5) (x0 x1 x2 x3 : Int) (s : State), s.hubRuns = true →
      s.board.dieHot[k] = false →
      1400 ≤ x0 →
      1400 ≤ x1 →
      1400 ≤ x2 →
      1400 ≤ x3 →
    gives (.dieTemp k [x0, x1, x2, x3]) s fun t => t.board.dieHot[k] = true
      ∧ t.board.dieWarm[k] = true
      ∧ active t 5 = true
      ∧ t.raisedAt 5 = true
      ∧ t.cores = s.cores
      ∧ t.store = s.store
      ∧ t.feed = s.feed)
  ∧ (∀ (k : Fin 5) (v : Int) (s : State), s.hubRuns = true →
      v < 1250 →
    exec (.dieTemp k [v]) s = .next (s.modBoard fun x => { x with dieHot := x.dieHot.set k false, dieWarm := x.dieWarm.set k false }))
  ∧ (∀ (k : Fin 5) (v : Int) (s : State), s.hubRuns = true →
      1250 ≤ v →
    gives (.dieTemp k [v]) s fun t => t.board.dieWarm[k] = true
      ∧ active t 5 = true
      ∧ t.board.dieHot[k] = s.board.dieHot[k]
      ∧ t.ports = s.ports
      ∧ t.faults = s.faults)
  ∧ (∀ (body : List Byte) (more : List (List Byte)) (s : State), s.faults.snap = body :: more →
      s.ready 2 = true →
      s.faults.snapSeq ≠ 0xFFFFFFFE#32 →
      s.coreStopped 8 = false →
    gives (.snapshotWrite true) s fun t => t.faults.snap = more
      ∧ t.faults.snapSeq = BitVec.ofNat 32 (s.faults.snapSeq.toNat + 1)
      ∧ t.faults.snapPos = (s.faults.snapPos + 1) % 256
      ∧ t.store.flash = (snapErase s.faults.snapPos s.store.flash).program (snapBase + 4096 * s.faults.snapPos) (snapBytes (s.faults.snapSeq.toNat + 1) body ++ u32 (s.faults.snapSeq.toNat + 1))
      ∧ t.ports = s.ports
      ∧ t.cores = s.cores
      ∧ t.pool = s.pool
      ∧ t.faults.log = s.faults.log)
  ∧ (∀ (body : List Byte) (more : List (List Byte)) (ok : Bool) (s : State), s.faults.snap = body :: more →
      s.ready 2 = true →
      ok = false ∨ s.faults.snapSeq = 0xFFFFFFFE#32 →
      s.coreStopped 8 = false →
    gives (.snapshotWrite ok) s fun t => t.faults.snapSeq = s.faults.snapSeq
      ∧ t.raisedAt 214 = true
      ∧ (s.faults.snapSeq = 0xFFFFFFFE#32 → t.store = s.store)
      ∧ t.cores = s.cores
      ∧ t.feed = s.feed)
  ∧ (∀ (ok : Bool) (s : State), s.faults.snap = [] →
    exec (.snapshotWrite ok) s = .next (s))

/-! ### The host port (chapter 15) -/

/-- O42: every transaction of a ready port drives the mirror that its fall of HCS_N samples, and a mirror clocked whole clears the
sticky bits and returns withheld credit; a WRITE without packet bytes is a status read; one that does not frame or verify sets HCRC_ERR and
withholds its units; one that does closes the packet into Q0 or Q1, or is answered POOL_EXHAUSTED without credit or cells, or dropped. A READ
delivers the head of Q8, else of Q9, else zero fill, and consumes a packet at its last trailer byte, with the complement of its CRC and OUT_BAD
where it is unsound. An unknown type byte sets HCRC_ERR. On the
lines: the module reads from HIO0, in quad mode from all four, the packet that the host drives; HIO2 and HIO3 are undriven in single mode,
the type byte is on HIO0 alone; the module drives nothing with HCS_N high or after an unknown type byte, and 0x00 on HIO1 past the mirror
of a single-mode WRITE; it sends a byte's most significant bit, or nibble, first. -/
def Obligations.HostPort : Prop :=
  (∀ (m : Bool) (fl : CellObs) (s : State), s.ready 0 = true →
    exec (.write m ⟨[], fl⟩) s = .next ((s.transact (.write 0)).modHost fun h => if m then { h with hcrcErr := false, inDrop := false, outBad := false, withheld := 0, driven := wordBytes s.mirror } else { h with driven := wordBytes s.mirror }))
  ∧ (∀ (m : Bool) (pk : List Byte) (fl : CellObs) (s : State), s.ready 0 = true →
      pk ≠ [] →
      framed pk.length = false ∨ hostCrcOk pk = false →
    exec (.write m ⟨pk, fl⟩) s = .next ((s.transact (.write pk.length)).modHost fun h => { h with hcrcErr := true, inDrop := false, outBad := false, withheld := (pk.length + 255) / 256, driven := wordBytes s.mirror }))
  ∧ (∀ (m : Bool) (pk : List Byte) (fl : CellObs) (q : QueueId) (s : State), s.ready 0 = true →
      framed pk.length = true →
      hostCrcOk pk = true →
      (pk.length + 255) / 256 ≤ s.credit →
      q = (if (pk.getD 2 0).getLsbD 0 then qUrgent else qHost) →
      s.pool.room q (cellsFor (pk.length - 4)) = true →
    gives (.write m ⟨pk, fl⟩) s fun t => (t.pool.queues[q]).closed.map Packet.data = (s.pool.queues[q]).closed.map Packet.data ++ [pk.take (pk.length - 4)]
      ∧ t.host.lastTag = pk.getD 1 0
      ∧ t.host.unitsUsed = s.host.unitsUsed + (pk.length + 255) / 256
      ∧ t.host.driven = wordBytes s.mirror
      ∧ t.host.hcrcErr = false
      ∧ t.host.withheld = 0
      ∧ t.host.transfer = .write pk.length
      ∧ t.host.transferQuad = s.host.quad
      ∧ (t.host.tagsHost.contains (pk.getD 1 0) = true ∨ s.pool.tagWaits [qHost, qUrgent] (pk.getD 1 0) = true)
      ∧ t.ports = s.ports
      ∧ t.faults = s.faults
      ∧ t.store = s.store
      ∧ (∀ r : QueueId, r ≠ q → t.pool.queues[r] = s.pool.queues[r]))
  ∧ (∀ (m : Bool) (pk : List Byte) (fl : CellObs) (q : QueueId) (s : State), s.ready 0 = true →
      framed pk.length = true →
      hostCrcOk pk = true →
      s.credit < (pk.length + 255) / 256 ∨ s.pool.room q (cellsFor (pk.length - 4)) = false →
      q = (if (pk.getD 2 0).getLsbD 0 then qUrgent else qHost) →
      s.pool.refusalUsed < 16 →
    gives (.write m ⟨pk, fl⟩) s fun t => (t.pool.queues[qReply]).closed.map Packet.data = (s.pool.queues[qReply]).closed.map Packet.data ++ [replyBytes (pk.getD 0 0).toNat (pk.getD 1 0).toNat 0x8C ((pk.getD 2 0).getLsbD 0) false (rdNat pk 4 2 % 512) []]
      ∧ (t.pool.queues[q]).closed = (s.pool.queues[q]).closed
      ∧ t.host.tagsHost = s.host.tagsHost
      ∧ t.host.unitsUsed = s.host.unitsUsed
      ∧ t.host.inDrop = false
      ∧ t.ports = s.ports
      ∧ t.faults = s.faults)
  ∧ (∀ (m : Bool) (pk : List Byte) (fl : CellObs) (s : State), s.ready 0 = true →
      framed pk.length = true →
      hostCrcOk pk = true →
      s.credit < (pk.length + 255) / 256 →
      16 ≤ s.pool.refusalUsed →
    exec (.write m ⟨pk, fl⟩) s = .next ((s.transact (.write pk.length)).modHost fun h => { h with hcrcErr := false, inDrop := true, outBad := false, withheld := 0, driven := wordBytes s.mirror }))
  ∧ (∀ (m : Bool) (pk : List Byte) (fl : CellObs) (s : State), s.ready 0 = false →
    exec (.write m ⟨pk, fl⟩) s = .next (s))
  ∧ (∀ (n : Nat) (obs : CellObs) (s : State), s.ready 0 = true →
      s.pool.head qReply = none →
      s.pool.head qEvent = none →
    exec (.read true n obs) s = .next ((s.transact .read).modHost fun h => { h with hcrcErr := false, inDrop := false, outBad := false, withheld := 0, driven := wordBytes s.mirror ++ zeros n }))
  ∧ (∀ (n : Nat) (obs : CellObs) (s : State), s.ready 0 = true →
    exec (.read false n obs) s = .next ((s.transact .read).modHost fun h => { h with driven := wordBytes s.mirror }))
  ∧ (∀ (n : Nat) (k : Packet) (s : State), s.ready 0 = true →
      s.pool.head qReply = some k →
      k.bad = false →
      k.data.length + 4 ≤ n →
    gives (.read true n .sound) s fun t => t.host.driven = wordBytes s.mirror ++ k.data ++ wordBytes (crc32 k.data) ++ zeros (n - (k.data.length + 4))
      ∧ (t.pool.queues[qReply]).closed = (s.pool.queues[qReply]).closed.tail
      ∧ t.host.tagsHost = (match replyTag k with | some g => s.host.tagsHost.erase g | none => s.host.tagsHost)
      ∧ t.host.outBad = false
      ∧ t.host.transfer = .read
      ∧ t.host.transferQuad = s.host.quad
      ∧ t.ports = s.ports
      ∧ t.faults = s.faults
      ∧ t.store = s.store
      ∧ (∀ r : QueueId, r ≠ qReply → t.pool.queues[r] = s.pool.queues[r]))
  ∧ (∀ (n : Nat) (k : Packet) (o : CellObs) (s : State), s.ready 0 = true →
      s.pool.head qReply = some k →
      k.flaw = .sound →
      o = .crc ∨ (o = .sound ∧ k.poison = true) →
      k.data.length + 4 ≤ n →
    gives (.read true n o) s fun t => t.host.driven = wordBytes s.mirror ++ k.data ++ wordBytes (~~~crc32 k.data) ++ zeros (n - (k.data.length + 4))
      ∧ (t.pool.queues[qReply]).closed = (s.pool.queues[qReply]).closed.tail
      ∧ t.host.outBad = true
      ∧ t.ports = s.ports
      ∧ t.faults = s.faults)
  ∧ (∀ (n : Nat) (k : Packet) (s : State), s.ready 0 = true →
      s.pool.head qReply = none →
      s.pool.head qEvent = some k →
      k.bad = false →
      k.data.length + 4 ≤ n →
    gives (.read true n .sound) s fun t => t.host.driven = wordBytes s.mirror ++ k.data ++ wordBytes (crc32 k.data) ++ zeros (n - (k.data.length + 4))
      ∧ (t.pool.queues[qEvent]).closed = (s.pool.queues[qEvent]).closed.tail
      ∧ t.host.tagsHost = s.host.tagsHost
      ∧ t.ports = s.ports
      ∧ t.faults = s.faults
      ∧ (∀ r : QueueId, r ≠ qEvent → t.pool.queues[r] = s.pool.queues[r]))
  ∧ (∀ (n : Nat) (k : Packet) (s : State), s.ready 0 = true →
      s.pool.head qReply = some k →
      k.bad = false →
      n < k.data.length + 4 →
    exec (.read true n .sound) s = .next ((s.transact .read).modHost fun h => { h with hcrcErr := false, inDrop := false, outBad := false, withheld := 0, driven := wordBytes s.mirror ++ (k.data ++ wordBytes (crc32 k.data)).take n }))
  ∧ (∀ (m : Bool) (n : Nat) (obs : CellObs) (s : State), s.ready 0 = false →
    exec (.read m n obs) s = .next (s))
  ∧ (∀ (m : Bool) (s : State), s.ready 0 = true →
    exec (.status m) s = .next ((s.transact .status).modHost fun h => if m then { h with hcrcErr := false, inDrop := false, outBad := false, withheld := 0, driven := wordBytes s.mirror } else { h with driven := wordBytes s.mirror }))
  ∧ (∀ (m : Bool) (x : Byte) (s : State), s.ready 0 = true →
      x ≠ 0x5A#8 →
      x ≠ 0xA5#8 →
      x ≠ 0x3C#8 →
    exec (.unknownTypeByte m x) s = .next ((s.transact .unknown).modHost fun h => { h with hcrcErr := true, driven := [] }))
  ∧ (∀ (quad : Bool) (b : Byte) (packet : List Byte),
    linePacket quad (fun n l => (hostLine quad b packet n l).getD false) packet.length = packet)
  ∧ (∀ (b : Byte) (packet : List Byte) (l : Fin 4) (n : Nat), l ≠ 0 →
    hostLine false b packet n l = none ∧ (n ≤ 8 → hostLine true b packet n l = none))
  ∧ (∀ (h : Machine.HostPort) (n : Nat) (l : Fin 4), h.moduleLine false n l = none
    ∧ (n ≤ 8 → h.moduleLine true n l = none)
    ∧ (h.transfer = .unknown → h.moduleLine true n l = none)
    ∧ (h.transferQuad = false → l ≠ 1 → h.moduleLine true n l = none)
    ∧ (∀ m : Nat, h.transfer = .write m → h.transferQuad = true → 16 < n → h.moduleLine true n l = none)
    ∧ (∀ m : Nat, h.transfer = .write m → h.transferQuad = false → h.driven.length ≤ 4 → 40 < n → h.moduleLine true n 1 = some false))
  ∧ (∀ (h : Machine.HostPort) (x : Byte) (xs : List Byte), h.driven = x :: xs → h.transfer = .read ∨ h.transfer = .status → h.transferQuad = false →
    (List.range 8).map (fun k => h.moduleLine true (9 + k) 1) = (List.range 8).map fun k => some (x.getLsbD (7 - k)))
  ∧ (∀ (h : Machine.HostPort) (x : Byte) (xs : List Byte), h.driven = x :: xs → h.transfer = .read ∨ h.transfer = .status → h.transferQuad = true →
    ∀ l : Fin 4, h.moduleLine true 9 l = some (x.getLsbD (4 + l.val)) ∧ h.moduleLine true 10 l = some (x.getLsbD l.val))

/-- O43: how S8 answers a command before its own rule: an unassigned opcode, and with TESTEN low a factory opcode, is UNKNOWN_OPCODE;
with TESTEN high a factory opcode stops the model by name (log 32). Then the header's checks in their order, readiness, LEVEL 1, the reserved
fields and TGT. A packet that is poisoned or fails its check is discarded without a reply, and a word that fails parity raises F211; a tag still
outstanding is BUSY with DUP_TAG, and without cells the answer is POOL_EXHAUSTED from the refusal reserve. -/
def Obligations.CommandOrder : Prop :=
  (∀ (st : Stream) (c : Cmd) (u : State) (s : State), s.comes st c u →
      assignedOpc c.opc = false →
      c.opc < 0xF0 →
    exec (.unknownOpcode st) s = .next (u.deny c 0x81))
  ∧ (∀ (st : Stream) (c : Cmd) (u : State) (s : State), s.comes st c u →
      0xF0 ≤ c.opc →
      s.board.testen = false →
    exec (.factoryCommand st) s = .next (u.deny c 0x81))
  ∧ (∀ (st : Stream) (c : Cmd) (u s : State), s.comes st c u → 0xF0 ≤ c.opc → s.board.testen = true →
    exec (.factoryCommand st) s = .refused .factoryTest)
  ∧ (∀ (st : Stream) (c : Cmd) (u : State) (i : Instr) (r : Refuse) (s : State), s.comes st c u →
      plainRow st c.opc i →
      c.headerFault u.yarrow.id = some r →
    exec (i) s = .next (u.sendReply c false r.status r.data))
  ∧ (∀ (st : Stream) (c : Cmd) (u : State) (i : Instr) (s : State), s.comes st c u →
      plainRow st c.opc i →
      c.headerFault u.yarrow.id = none →
      u.readyFor c = false →
    exec (i) s = .next (u.deny c 0x85))
  ∧ (∀ (st : Stream) (c : Cmd) (u : State) (i : Instr) (s : State), s.comes st c u →
      plainRow st c.opc i →
      c.headerFault u.yarrow.id = none →
      u.readyFor c = true →
      u.restricted c = true →
      c.readOnly = false →
    exec (i) s = .next (u.deny c 0x87))
  ∧ (∀ (st : Stream) (c : Cmd) (u : State) (i : Instr) (n : Nat) (s : State), s.comes st c u →
      plainRow st c.opc i →
      c.headerFault u.yarrow.id = none →
      u.readyFor c = true →
      u.restricted c = false ∨ c.readOnly = true →
      firstNonzero c.payload c.reservedBytes = some n →
    exec (i) s = .next (u.sendReply c false 0x82 (u16 (8 + n) ++ [0, 0])))
  ∧ (∀ (st : Stream) (c : Cmd) (u : State) (i : Instr) (s : State), s.comes st c u →
      plainRow st c.opc i →
      c.headerFault u.yarrow.id = none →
      u.readyFor c = true →
      u.restricted c = false ∨ c.readOnly = true →
      firstNonzero c.payload c.reservedBytes = none →
      c.maxTgt < c.tgt →
    exec (i) s = .next (u.deny c 0x88))
  ∧ (∀ (st : Stream) (q : QueueId) (k : Packet) (i : Instr) (s : State), s.ready 0 = true →
      s.nextCommand st = some (q, k) →
      plainRow st (Cmd.of st k).opc i →
      k.bad = true →
      k.flaw = .sound ∨ k.flaw = .crc →
      s.coreStopped 8 = false →
      s.parked st = none →
    gives (i) s fun t => (t.pool.queues[q]).closed = (s.pool.queues[q]).closed.tail
      ∧ (st = .host → t.host.hcrcErr = true)
      ∧ (st = .service → t.svc.hcrc = true)
      ∧ (∀ r : QueueId, r ≠ q → t.pool.queues[r] = s.pool.queues[r])
      ∧ t.ports = s.ports
      ∧ t.store = s.store
      ∧ t.faults = s.faults)
  ∧ (∀ (st : Stream) (q : QueueId) (k : Packet) (i : Instr) (s : State), s.ready 0 = true →
      s.nextCommand st = some (q, k) →
      plainRow st (Cmd.of st k).opc i →
      k.flaw = .parity →
      s.coreStopped 8 = false →
      s.parked st = none →
    gives (i) s fun t => (t.pool.queues[q]).closed = (s.pool.queues[q]).closed.tail
      ∧ (st = .host → t.host.hcrcErr = true)
      ∧ (st = .service → t.svc.hcrc = true)
      ∧ t.raisedAt 211 = true
      ∧ t.cores = s.cores)
  ∧ (∀ (st : Stream) (q : QueueId) (k : Packet) (i : Instr) (s : State), s.ready 0 = true →
      s.nextCommand st = some (q, k) →
      plainRow st (Cmd.of st k).opc i →
      k.bad = false →
      st = .forwarded ∨ s.pool.holdsFor (Cmd.of st k) = true →
      (s.takeCommand q k).dupRefused (Cmd.of st k) = true →
      s.coreStopped 8 = false →
      s.parked st = none →
    exec (i) s = .next ((s.takeCommand q k).sendReply (Cmd.of st k) true 0x86 []))
  ∧ (∀ (st : Stream) (q : QueueId) (k : Packet) (i : Instr) (s : State), s.ready 0 = true →
      s.nextCommand st = some (q, k) →
      plainRow st (Cmd.of st k).opc i →
      k.bad = false →
      st ≠ .forwarded →
      s.pool.holdsFor (Cmd.of st k) = false →
      s.pool.refusalUsed < 16 →
      s.coreStopped 8 = false →
      s.parked st = none →
    gives (i) s fun t => (t.pool.queues[(replyQ st)]).closed.map Packet.data = (s.pool.queues[(replyQ st)]).closed.map Packet.data ++ [(Cmd.of st k).reply ((Cmd.of st k).dup && (s.host.tags st).contains (Cmd.of st k).tag) 0x8C []]
      ∧ (t.pool.queues[q]).closed = (s.pool.queues[q]).closed.tail
      ∧ t.ports = s.ports
      ∧ t.store = s.store
      ∧ t.faults = s.faults)

/-! ### Commands of the device (chapter 16) -/

/-- O44: ECHO returns its payload unchanged, with the same LEN, and has no other effect (R403); a reply that a forwarded command's origin could not
hold is refused. -/
def Obligations.Echo : Prop :=
  (∀ (st : Stream) (c : Cmd) (u : State) (s : State), s.takes st 0x00 c u →
      c.fits c.payload = true →
    exec (.echo st) s = .next (u.okay c c.payload))
  ∧ (∀ (st : Stream) (c : Cmd) (u : State) (s : State), s.takes st 0x00 c u →
      c.fits c.payload = false →
    exec (.echo st) s = .next (u.deny c 0x83))

/-- O45: IDENTIFY, READY_MAP, TIME_GET and PARAM_GET read; the host's READY_MAP also clears NOT_READY_ANY. A RESET of KIND COLD_REQ or
WARM waits, a second one is BUSY, and PORTS is due at the next slot 0. PARAM_SET takes all its entries or none, whichever of its rows serves it;
DEV.KEY_REVOKE only gains bits, QUAD of DEV.HOST_CFG waits for the reply, RETRAIN starts Planish anew. PARAM_COMMIT copies the working set, waits
for commands before it, is BUSY while the store is, and completes with the older generation replaced, or invalid with NVM_FAIL. QUEUE_STATUS reads,
and clears refusal flags; QUEUE_FLUSH discards closed packets at a packet boundary; a quarantine ends after 64 beats with a cell retired;
coalescing ends at its level, while S8 runs; EVENT_SUBSCRIBE sets the mask of its stream and is DENIED over a forward. -/
def Obligations.DeviceCommands : Prop :=
  (∀ (st : Stream) (c : Cmd) (u : State) (s : State), s.takes st 0x01 c u →
      c.fits u.identity = true →
    exec (.identify st) s = .next (u.okay c u.identity))
  ∧ (∀ (st : Stream) (c : Cmd) (u : State) (s : State), s.takes st 0x02 c u →
      c.fits u.readyBytes = true →
    exec (.readyMap st) s = .next ((u.okay c u.readyBytes).modDev fun d => { d with notReadyAny := d.notReadyAny && c.stream != .host }))
  ∧ (∀ (st : Stream) (c : Cmd) (u : State) (s : State), s.takes st 0x08 c u →
    exec (.timeGet st) s = .next (u.okay c (beatBytes s.now ++ [if s.board.holdover then 1 else 0, 0])))
  ∧ (∀ (st : Stream) (c : Cmd) (u : State) (s : State), s.takes st 0x06 c u →
      c.b 0 = 0 →
      s.board.resetReq = none →
    exec (.coldReq st) s = .next ((u.okay c []).modBoard fun x => { x with resetReq := some ⟨true, c.stream, c.tag, s.now, false⟩ }))
  ∧ (∀ (st : Stream) (c : Cmd) (u : State) (s : State), s.takes st 0x06 c u →
      c.b 0 = 1 →
      s.board.resetReq = none →
    exec (.warm st) s = .next ((u.okay c []).modBoard fun x => { x with resetReq := some ⟨false, c.stream, c.tag, s.now, false⟩ }))
  ∧ (∀ (st : Stream) (c : Cmd) (u : State) (s : State), s.takes st 0x06 c u →
      c.b 0 = 0 →
      s.board.resetReq.isSome = true →
    exec (.coldReq st) s = .next (u.deny c 0x86))
  ∧ (∀ (st : Stream) (c : Cmd) (u : State) (s : State), s.takes st 0x06 c u →
      c.b 0 = 2 →
    exec (.ports st) s = .next ((u.okay c []).modBoard fun x => { x with portsDue := true }))
  ∧ (∀ (st : Stream) (c : Cmd) (u : State) (s : State), s.takes st 0x06 c u →
      2 < c.b 0 →
    exec (.warm st) s = .next (u.deny c 0x88))
  ∧ (∀ (st : Stream) (c : Cmd) (u : State) (d : List Byte) (s : State), s.takes st 0x03 c u →
      1 ≤ c.h 2 →
      c.h 2 ≤ 64 →
      runFault (c.h 0) 0 (c.h 2) = none →
      c.tgt = 0 ∨ (0x1030 ≤ c.h 0 ∧ c.h 0 + c.h 2 ≤ 0x1033 ∧ c.tgt ≤ 2) →
      (d = c.payload ++ (List.range (c.h 2)).flatMap fun i => wordBytes (u.param c.port c.tgtOf (c.h 0 + i))) →
      c.fits d = true →
    exec (.paramGet st) s = .next (u.okay c d))
  ∧ (∀ (st : Stream) (c : Cmd) (u : State) (s : State), s.takes st 0x03 c u →
      c.h 2 = 0 ∨ 64 < c.h 2 →
    exec (.paramGet st) s = .next (u.sendReply c false 0x88 (u16 (c.h 0) ++ [0xFF, 0])))
  ∧ (∀ (st : Stream) (c : Cmd) (u : State) (r : Refuse) (s : State), s.takes st 0x03 c u →
      1 ≤ c.h 2 →
      c.h 2 ≤ 64 →
      runFault (c.h 0) 0 (c.h 2) = some r →
    exec (.paramGet st) s = .next (u.sendReply c false r.status r.data))
  ∧ (∀ (st : Stream) (c : Cmd) (u : State) (s : State), s.takes st 0x04 c u →
      c.tgt = 0 →
      checkEntries c.stream c.tag c.port (rangeOf (c.h 0)) 0 c.entries u = none →
    exec (.paramSet st) s = .next (putEntries c.stream c.tag c.port c.entries (u.okay c [])))
  ∧ (∀ (st : Stream) (c : Cmd) (u : State) (i : Instr) (s : State), s.takes st 0x04 c u →
      c.tgt = 0 →
      checkEntries c.stream c.tag c.port (rangeOf (c.h 0)) 0 c.entries u = none →
      (i = .keyRevokeBurn st ∧ (c.entries.any fun e => e.1 == 0x0012) = true) ∨ (i = .phyRetrain st ∧ (c.entries.any fun e => e.1 == 0x1020 && bit1 e.2.2 2) = true) ∨ (i = .hostCfgWrite st ∧ (c.entries.any fun e => e.1 == 0x0030) = true) →
    exec (i) s = .next (putEntries c.stream c.tag c.port c.entries (u.okay c [])))
  ∧ (∀ (st : Stream) (c : Cmd) (u : State) (r : Refuse) (s : State), s.takes st 0x04 c u →
      c.tgt = 0 →
      checkEntries c.stream c.tag c.port (rangeOf (c.h 0)) 0 c.entries u = some r →
    exec (.paramSet st) s = .next (u.sendReply c false r.status r.data))
  ∧ (∀ (st : Stream) (c : Cmd) (u : State) (z : List Byte) (v : Word) (s : State), s.takes st 0x04 c u →
      c.tgt = 0 →
      checkEntries c.stream c.tag c.port (rangeOf (c.h 0)) 0 c.entries u = none →
      c.entries = [(0x0012, z, v)] →
    exec (.keyRevokeBurn st) s = .next ((u.okay c []).modDev fun d => { d with keyRevoked := d.keyRevoked ||| BitVec.ofNat 4 (fld v 0 4) }))
  ∧ (∀ (st : Stream) (c : Cmd) (u : State) (z : List Byte) (v : Word) (s : State), s.takes st 0x04 c u →
      c.tgt = 0 →
      checkEntries c.stream c.tag c.port (rangeOf (c.h 0)) 0 c.entries u = none →
      c.entries = [(0x1020, z, v)] →
      bit1 v 2 = true →
    exec (.phyRetrain st) s = .next ((u.okay c []).modPort c.port fun x => { x with cfg := { x.cfg with phyCfg := v &&& 3 }, phy := x.phy.retrain }))
  ∧ (∀ (st : Stream) (c : Cmd) (u : State) (z : List Byte) (v : Word) (s : State), s.takes st 0x04 c u →
      c.tgt = 0 →
      checkEntries c.stream c.tag c.port (rangeOf (c.h 0)) 0 c.entries u = none →
      c.entries = [(0x0030, z, v)] →
      st ≠ .ended →
    exec (.hostCfgWrite st) s = .next ((u.okay c []).modHost fun h => { h with cfg := v, quads := h.quads ++ [(c.stream, c.tag, bit1 v 0)] }))
  ∧ (∀ (st : Stream) (c : Cmd) (u : State) (s : State), s.takes st 0x05 c u →
      s.allAnswered = true →
      s.store.op = none →
    exec (.paramCommit st) s = .next ((u.accept c).modStore fun r => { r with op := some (.params c.tag c.stream (u.capture r.nextNumber)) }))
  ∧ (∀ (st : Stream) (c : Cmd) (u : State) (s : State), s.takes st 0x05 c u →
      s.allAnswered = true →
      s.store.op.isSome = true →
    exec (.paramCommit st) s = .next (u.deny c 0x86))
  ∧ (∀ (st : Stream) (s : State), s.allAnswered = false →
    exec (.paramCommit st) s = .next (s))
  ∧ (∀ (tag : Byte) (st : Stream) (g : Generation) (s : State), s.store.op = some (.params tag st g) →
      s.storeRuns = true →
    exec (.paramCommitComplete true) s = .next ((s.modStore fun r => if r.olderIsB then { r with genB := some g, op := none } else { r with genA := some g, op := none }).complete st 0x05 tag.toNat 0 0 0x7F (wordBytes g.gen)))
  ∧ (∀ (tag : Byte) (st : Stream) (g : Generation) (s : State), s.store.op = some (.params tag st g) →
      s.storeRuns = true →
    gives (.paramCommitComplete false) s fun t => t.store.op = none
      ∧ t.raisedAt 16 = true
      ∧ (if s.store.olderIsB then t.store.genB else t.store.genA) = none
      ∧ (if s.store.olderIsB then t.store.genA else t.store.genB) = (if s.store.olderIsB then s.store.genA else s.store.genB)
      ∧ t.store.flash = s.store.flash
      ∧ t.cores = s.cores)
  ∧ (∀ (st : Stream) (c : Cmd) (u : State) (d : List Byte) (s : State), s.takes st 0x70 c u →
      1 ≤ c.b 1 →
      c.b 0 + c.b 1 ≤ 128 →
      d = u16 u.pool.free ++ u16 u.pool.resFree ++ wordBytes u.pool.rxNoCell ++ leBytes 1 (c.b 0) ++ leBytes 1 (c.b 1) ++ u16 u.pool.retired ++ ((u.pool.queues.toList.drop (c.b 0)).take (c.b 1)).flatMap queueEntry →
      c.fits d = true →
    exec (.queueStatus st) s = .next (if u.restricted c then u.okay c d else (u.okay c d).modPool fun w => { w with queues := Vector.ofFn fun q => if c.b 0 ≤ q.val ∧ q.val < c.b 0 + c.b 1 then { w.queues[q] with refused := false } else w.queues[q] }))
  ∧ (∀ (st : Stream) (c : Cmd) (u : State) (s : State), s.takes st 0x70 c u →
      c.b 1 = 0 ∨ 128 < c.b 0 + c.b 1 →
    exec (.queueStatus st) s = .next (u.deny c 0x88))
  ∧ (∀ (st : Stream) (c : Cmd) (u : State) (q : QueueId) (s : State), s.takes st 0x71 c u →
      c.b 0 = q.val →
      flushable q.val = true →
    exec (.queueFlush st) s = .next ((u.hold c).flushAsk q c.stream c.hdr))
  ∧ (∀ (st : Stream) (c : Cmd) (u : State) (s : State), s.takes st 0x71 c u →
      flushable (c.b 0) = false →
    exec (.queueFlush st) s = .next (u.deny c 0x87))
  ∧ (∀ (q : QueueId) (f : Flush) (s : State), (s.pool.queues[q]).popped = 0 →
      (s.pool.queues[q]).flush = some f →
      f.replies = [] →
    gives (.queueFlushAct q) s fun t => (t.pool.queues[q]).closed = (s.pool.queues[q]).closed.drop f.count
      ∧ (t.pool.queues[q]).flush = none
      ∧ (∀ r : QueueId, r ≠ q → t.pool.queues[r] = s.pool.queues[r])
      ∧ t.ports = s.ports
      ∧ t.cores = s.cores
      ∧ t.faults = s.faults)
  ∧ (∀ (q : QueueId) (f : Flush) (r : Stream × List Byte) (rs : List (Stream × List Byte)) (s : State), (s.pool.queues[q]).popped = 0 →
      (s.pool.queues[q]).flush = some f →
      f.replies = r :: rs →
    exec (.queueFlushAct q) s = .next (rs.foldl (State.flushReply 0) (((s.discardQ q (min f.count (s.pool.queues[q]).closed.length)).modPool fun m => m.modQ q fun x => { x with flush := none }).flushReply (min f.count (s.pool.queues[q]).closed.length) r)))
  ∧ (∀ (q : QueueId) (s : State), 0 < (s.pool.queues[q]).popped →
    exec (.queueFlushAct q) s = .next (s))
  ∧ (∀ (q : QueueId) (s : State), (s.pool.queues[q]).quarantine = true →
      64 ≤ Beat.since s.now (s.pool.queues[q]).scanAt →
      (s.pool.queues[q]).flush = none →
    gives (.quarantineScanEnd q) s fun t => (t.pool.queues[q]).quarantine = false
      ∧ (t.pool.queues[q]).closed = []
      ∧ t.pool.retired = s.pool.retired + 1
      ∧ (∀ r : QueueId, r ≠ q → t.pool.queues[r] = s.pool.queues[r])
      ∧ t.ports = s.ports
      ∧ t.cores = s.cores
      ∧ t.faults = s.faults)
  ∧ (∀ (s : State), s.pool.coalescing = true →
      s.pool.wmark + s.pool.hyst ≤ s.pool.free →
      s.pool.coal = [] →
      s.hubRuns = true →
      s.coreStopped 8 = false →
    exec (.coalescingEnd) s = .next (s.modPool fun m => { m with coalescing := false }))
  ∧ (∀ (e : CoalEntry) (s : State), s.pool.coalescing = true →
      s.pool.wmark + s.pool.hyst ≤ s.pool.free →
      s.pool.coal = [e] →
      e.service = false →
      e.port.toNat < 128 →
      bit1 s.host.maskHost 10 = true →
      s.hubRuns = true →
      s.coreStopped 8 = false →
    gives (.coalescingEnd) s fun t => t.pool.coal = []
      ∧ (s.pool.room qEvent 1 = true → t.lastEvent = some (eventBytes 0xCA 0x7F true (coalPayload [e])))
      ∧ t.ports = s.ports
      ∧ t.faults = s.faults)
  ∧ (∀ (st : Stream) (c : Cmd) (u : State) (s : State), s.takes st 0x72 c u →
      st = .host →
    exec (.eventSubscribe st) s = .next ((u.okay c (wordBytes s.host.maskHost)).modHost fun h => { h with maskHost := c.w 0 ||| 3 }))
  ∧ (∀ (st : Stream) (c : Cmd) (u : State) (s : State), s.takes st 0x72 c u →
      st = .service →
    exec (.eventSubscribe st) s = .next ((u.okay c (wordBytes s.host.maskSvc)).modHost fun h => { h with maskSvc := c.w 0 ||| 3 }))
  ∧ (∀ (st : Stream) (c : Cmd) (u : State) (s : State), s.takes st 0x72 c u →
      st = .forwarded →
    exec (.eventSubscribe st) s = .next (u.deny c 0x87))

/-! ### Commands of a port and of the policy (chapters 05, 09, 16) -/

/-- O46: PORT_CONFIG takes four parameters or none; PORT_ENABLE brings a port down, or out of DISABLED, CAL_FAILED or LOCKOUT
through a new calibration; PORT_STATUS, PORT_CAL_STATUS and PORT_MOISTURE read; a recheck ends DRY_WAIT's interval at the next slot 0;
PORT_ERROR_RECOVERY ends what the port does. DEVICE_HOLD, a failed trim and the port's state refuse what they must. -/
def Obligations.PortCommands : Prop :=
  (∀ (st : Stream) (c : Cmd) (u : State) (s : State), s.takes st 0x10 c u →
      checkEntries c.stream c.tag c.port 1 0 c.configWords u = none →
    exec (.portConfig st) s = .next (putEntries c.stream c.tag c.port c.configWords (u.okay c [])))
  ∧ (∀ (st : Stream) (c : Cmd) (u : State) (r : Refuse) (s : State), s.takes st 0x10 c u →
      checkEntries c.stream c.tag c.port 1 0 c.configWords u = some r →
    exec (.portConfig st) s = .next (u.sendReply c false r.status r.data))
  ∧ (∀ (st : Stream) (c : Cmd) (u : State) (s : State), s.takes st 0x11 c u →
      c.b 0 = 0 →
      (s.port c.port).tc.trimFail = none →
      s.faults.hold = false →
      (s.port c.port).tc.st ≠ .disabled →
    exec (.portDisable st) s = .next (((u.okay c []).dropPort c.port 0x85 8 (Port.toDisabled (isService c.port) s.now s.feedOn)).setEn c.port 0))
  ∧ (∀ (st : Stream) (c : Cmd) (u : State) (s : State), s.takes st 0x11 c u →
      c.b 0 = 0 →
      (s.port c.port).tc.trimFail = none →
      s.faults.hold = false →
      (s.port c.port).tc.st = .disabled →
    exec (.portDisable st) s = .next ((u.okay c []).setEn c.port 0))
  ∧ (∀ (st : Stream) (c : Cmd) (u : State) (s : State), s.takes st 0x11 c u →
      c.b 0 = 1 →
      (s.port c.port).tc.trimFail = none →
      s.faults.hold = false →
      (s.port c.port).tc.st.down = true →
      u.portTrimmed c.port = true →
    exec (.portEnable st) s = .next ((u.okay c []).updPort c.port (Port.enableNow (isService c.port) s.now false)))
  ∧ (∀ (st : Stream) (c : Cmd) (u : State) (s : State), s.takes st 0x11 c u →
      c.b 0 = 1 →
      (s.port c.port).tc.trimFail = none →
      s.faults.hold = false →
      (s.port c.port).tc.st.down = true →
      u.portTrimmed c.port = false →
    exec (.portEnable st) s = .next (((u.okay c []).modPort c.port fun x => { x with cfg := { x.cfg with enable := 1 } }).modCluster (clusterOf c.port) fun k => { k with trimStart := true }))
  ∧ (∀ (st : Stream) (c : Cmd) (u : State) (s : State), s.takes st 0x11 c u →
      c.b 0 = 1 →
      (s.port c.port).tc.trimFail = none →
      s.faults.hold = false →
      (s.port c.port).tc.st.down = false →
    exec (.portEnable st) s = .next (u.okay c []))
  ∧ (∀ (st : Stream) (c : Cmd) (u : State) (s : State), s.takes st 0x11 c u →
      c.b 0 = 2 →
      (s.port c.port).tc.trimFail = none →
      s.faults.hold = false →
      (s.port c.port).tc.st.down = true →
      u.portTrimmed c.port = true →
    exec (.portEnableRecalibrate st) s = .next ((u.okay c []).updPort c.port (Port.enableNow (isService c.port) s.now true)))
  ∧ (∀ (st : Stream) (c : Cmd) (u : State) (s : State), s.takes st 0x11 c u →
      c.b 0 = 2 →
      (s.port c.port).tc.trimFail = none →
      s.faults.hold = false →
      (s.port c.port).tc.st.down = false →
    exec (.portEnableRecalibrate st) s = .next (u.deny c 0x8B))
  ∧ (∀ (st : Stream) (c : Cmd) (u : State) (s : State), s.takes st 0x11 c u →
      c.b 0 = 1 →
      (s.port c.port).tc.trimFail.isSome = true →
    exec (.portEnable st) s = .next (u.deny c 0x87))
  ∧ (∀ (st : Stream) (c : Cmd) (u : State) (s : State), s.takes st 0x11 c u →
      c.b 0 = 1 →
      (s.port c.port).tc.trimFail = none →
      s.faults.hold = true →
    exec (.portEnable st) s = .next (u.deny c 0x8B))
  ∧ (∀ (st : Stream) (c : Cmd) (u : State) (s : State), s.takes st 0x12 c u →
      c.fits (u.portStatusBytes c.port) = true →
    exec (.portStatus st) s = .next (u.okay c (u.portStatusBytes c.port)))
  ∧ (∀ (st : Stream) (c : Cmd) (u : State) (s : State), s.takes st 0x13 c u →
      c.fits (calStatusBytes (u.cluster (clusterOf c.port)) c.port (u.port c.port)) = true →
    exec (.portCalStatus st) s = .next (u.okay c (calStatusBytes (u.cluster (clusterOf c.port)) c.port (u.port c.port))))
  ∧ (∀ (st : Stream) (c : Cmd) (u : State) (s : State), s.takes st 0x14 c u →
      c.b 0 = 0 →
      c.fits (u.port c.port).moistBytes = true →
    exec (.portMoistureRead st) s = .next (u.okay c (u.port c.port).moistBytes))
  ∧ (∀ (st : Stream) (c : Cmd) (u : State) (s : State), s.takes st 0x14 c u →
      c.b 0 = 1 →
      (s.port c.port).tc.st = .dryWait →
      c.fits (u.port c.port).moistBytes = true →
    exec (.portMoistureRecheck st) s = .next ((u.okay c (u.port c.port).moistBytes).modPort c.port fun y => y.arm tHealth .dryRecheck 1))
  ∧ (∀ (st : Stream) (c : Cmd) (u : State) (s : State), s.takes st 0x14 c u →
      c.b 0 = 1 →
      (s.port c.port).tc.st ≠ .dryWait →
    exec (.portMoistureRecheck st) s = .next (u.deny c 0x8B))
  ∧ (∀ (st : Stream) (c : Cmd) (u : State) (s : State), s.takes st 0x18 c u →
      s.faults.hold = false →
      (s.port c.port).tc.st.recovers = true →
    exec (.portErrorRecovery st) s = .next ((u.okay c []).errorRecovery c.port 8))
  ∧ (∀ (st : Stream) (c : Cmd) (u : State) (s : State), s.takes st 0x18 c u →
      s.faults.hold = true ∨ (s.port c.port).tc.st.down = true →
    exec (.portErrorRecovery st) s = .next (u.deny c 0x8B))
  ∧ (∀ (st : Stream) (c : Cmd) (u : State) (s : State), s.takes st 0x18 c u →
      s.faults.hold = false →
      (s.port c.port).tc.st = .errorRecovery →
    exec (.portErrorRecovery st) s = .next (u.okay c []))

/-- O47: a table, rule or template write is validated whole and stored until the next slot 0; POLICY_READ returns the layout;
DECIDE answers an open question of its port with a permitted outcome, or is refused without effect. -/
def Obligations.PolicyCommands : Prop :=
  (∀ (st : Stream) (c : Cmd) (u : State) (s : State), s.takes st 0x20 c u →
      c.policyOk = true →
      c.b 1 = 0 →
      (headerOf (c.payload.drop 4)).ok = true →
    exec (.policyWrite st) s = .next ((u.okay c []).modPolicy fun q => { q with writes := q.writes ++ [.header c.cls (headerOf (c.payload.drop 4))] }))
  ∧ (∀ (st : Stream) (c : Cmd) (u : State) (s : State), s.takes st 0x20 c u →
      c.policyOk = true →
      c.b 1 ≠ 0 →
      c.rules.all Rule.ok = true →
    exec (.policyWrite st) s = .next ((u.okay c []).modPolicy fun q => { q with writes := q.writes ++ [.rules c.cls (c.b 2) c.rules] }))
  ∧ (∀ (st : Stream) (c : Cmd) (u : State) (s : State), s.takes st 0x20 c u →
      c.policyOk = false ∨ (c.b 1 = 0 ∧ (headerOf (c.payload.drop 4)).ok = false) ∨ (c.b 1 ≠ 0 ∧ c.rules.all Rule.ok = false) →
    exec (.policyWrite st) s = .next (u.deny c 0x88))
  ∧ (∀ (st : Stream) (c : Cmd) (u : State) (s : State), s.takes st 0x21 c u →
      c.policyOk = true →
      c.b 1 = 0 →
      c.fits (c.payload.take 4 ++ s.policy.written[c.cls].header.bytes) = true →
    exec (.policyRead st) s = .next (u.okay c (c.payload.take 4 ++ s.policy.written[c.cls].header.bytes)))
  ∧ (∀ (st : Stream) (c : Cmd) (u : State) (d : List Byte) (s : State), s.takes st 0x21 c u →
      c.policyOk = true →
      c.b 1 ≠ 0 →
      d = c.payload.take 4 ++ ((s.policy.written[c.cls].rules.toList.drop (c.b 2)).take (c.b 3)).flatMap Rule.bytes →
      c.fits d = true →
    exec (.policyRead st) s = .next (u.okay c d))
  ∧ (∀ (st : Stream) (c : Cmd) (u : State) (s : State), s.takes st 0x21 c u →
      c.policyOk = false →
    exec (.policyRead st) s = .next (u.deny c 0x88))
  ∧ (∀ (st : Stream) (c : Cmd) (u : State) (s : State), s.takes st 0x28 c u →
      c.b 0 ≤ 15 →
      c.b 1 ≤ 1 →
      templateOk (c.b 1 == 1) c.template.toList = true →
    exec (.pdoTemplateWrite st) s = .next ((u.okay c []).modPolicy fun q => { q with writes := q.writes ++ [.template c.cls (c.b 1 == 1) c.template] }))
  ∧ (∀ (st : Stream) (c : Cmd) (u : State) (s : State), s.takes st 0x28 c u →
      15 < c.b 0 ∨ 1 < c.b 1 ∨ templateOk (c.b 1 == 1) c.template.toList = false →
    exec (.pdoTemplateWrite st) s = .next (u.deny c 0x88))
  ∧ (∀ (st : Stream) (c : Cmd) (u : State) (d : Decision) (s : State), s.takes st 0x22 c u →
      (s.policy.decisions.find? fun d => d.id == c.h 0 && d.port == c.port && !decide (d.deadline ≤ s.now)) = some d →
      permitted d.point (c.b 2) = true →
      c.b 2 ≠ ocAsk →
      c.w 4 = 0 →
    exec (.decide st) s = .next (((u.okay c []).modPolicy fun q => { q with decisions := q.decisions.filter (fun e => e.id != d.id), answers := q.answers ++ [(d, c.b 2, 0#32)] }).post 0xC3 d.port.val (closedPayload d.id d.point 0 (c.b 2) s.now)))
  ∧ (∀ (st : Stream) (c : Cmd) (u : State) (s : State), s.takes st 0x22 c u →
      (s.policy.decisions.find? fun d => d.id == c.h 0 && d.port == c.port && !decide (d.deadline ≤ s.now)) = none →
    exec (.decide st) s = .next (u.deny c 0x8B))
  ∧ (∀ (st : Stream) (c : Cmd) (u : State) (d : Decision) (s : State), s.takes st 0x22 c u →
      (s.policy.decisions.find? fun d => d.id == c.h 0 && d.port == c.port && !decide (d.deadline ≤ s.now)) = some d →
      permitted d.point (c.b 2) = false ∨ c.b 2 = ocAsk →
    exec (.decide st) s = .next (u.deny c 0x88))

/-! ### PD commands of the host (chapters 08, 10, 16) -/

/-- O48: PD_SEND opens an AMS with its message; PD_LAST_RX reads; the resets order Soft Reset, Hard Reset and Cable Reset;
SWAP_REQUEST, VDM_DISCOVER, VDM_SEND, MODE_ENTER and MODE_EXIT start their conversation and are answered ACCEPTED; a field out of range,
a second conversation, or a port's state that its rule names refuses them without effect. -/
def Obligations.PdCommands : Prop :=
  (∀ (st : Stream) (c : Cmd) (u : State) (h : Half) (s : State), s.takes st 0x30 c u →
      h = BitVec.ofNat 16 (c.h 0) →
      c.sendOk = true →
      hExt h = false →
      ((u.port c.port).rev = 1 → c.sendRev1 = true) →
      u.free c.port = true →
      (u.port c.port).pd.send = none →
    exec (.pdSend st) s = .next (((u.accept c).modPort c.port fun x => { x with pd := { x.pd with send := some { message := c.payload, expects := hObjs h != 1, stream := c.stream, tag := c.tag, tgt := .sop, queued := false, done := none } } }).beginAms c.port .sop .hostSend (u16 h.toNat ++ c.payload.drop 4)))
  ∧ (∀ (st : Stream) (c : Cmd) (u : State) (h : Half) (s : State), s.takes st 0x30 c u →
      h = BitVec.ofNat 16 (c.h 0) →
      c.sendOk = true →
      hExt h = true →
      ((u.port c.port).rev = 1 → c.sendRev1 = true) →
      u.free c.port = true →
      (u.port c.port).pd.send = none →
    exec (.pdSend st) s = .next (((u.accept c).modPort c.port fun x => { x with pd := { x.pd with send := some { message := c.payload, expects := true, stream := c.stream, tag := c.tag, tgt := .sop, queued := false, done := none } } }).beginAms c.port .sop .chunk (u16 (hType h) ++ (c.payload.drop 4).take (c.h 2))))
  ∧ (∀ (st : Stream) (c : Cmd) (u : State) (s : State), s.takes st 0x30 c u →
      c.sendOk = false →
    exec (.pdSend st) s = .next (u.deny c 0x88))
  ∧ (∀ (st : Stream) (c : Cmd) (u : State) (s : State), s.takes st 0x30 c u →
      c.sendOk = true →
      ((u.port c.port).rev = 1 ∧ c.sendRev1 = false) ∨ u.free c.port = false ∨ (u.port c.port).pd.send ≠ none →
    exec (.pdSend st) s = .next (u.deny c 0x8B))
  ∧ (∀ (st : Stream) (c : Cmd) (u : State) (s : State), s.takes st 0x31 c u →
      c.fits ((u.port c.port).ctxOf c.tgtOf).lastBytes = true →
    exec (.pdLastRx st) s = .next (u.okay c ((u.port c.port).ctxOf c.tgtOf).lastBytes))
  ∧ (∀ (st : Stream) (c : Cmd) (u : State) (s : State), s.takes st 0x32 c u →
      (u.port c.port).tc.st.pd = true →
      c.tgtOf = .sop ∨ ((u.port c.port).ctxOf c.tgtOf).vconnOk = true →
      (u.port c.port).inPower = false →
      (u.port c.port).pd.soft = none →
    exec (.pdSoftReset st) s = .next (((u.accept c).sendSoft c.port c.tgtOf).modPort c.port fun y => { y with pd := { y.pd with soft := some { message := [], expects := true, stream := c.stream, tag := c.tag, tgt := c.tgtOf, queued := true, done := none } } }))
  ∧ (∀ (st : Stream) (c : Cmd) (u : State) (s : State), s.takes st 0x32 c u →
      (u.port c.port).tc.st.pd = false ∨ (c.tgtOf ≠ .sop ∧ ((u.port c.port).ctxOf c.tgtOf).vconnOk = false) ∨ (u.port c.port).inPower = true →
    exec (.pdSoftReset st) s = .next (u.deny c 0x8B))
  ∧ (∀ (st : Stream) (c : Cmd) (u : State) (s : State), s.takes st 0x32 c u →
      (u.port c.port).tc.st.pd = true →
      c.tgtOf = .sop ∨ ((u.port c.port).ctxOf c.tgtOf).vconnOk = true →
      (u.port c.port).inPower = false →
      (u.port c.port).pd.soft ≠ none →
    exec (.pdSoftReset st) s = .next (u.deny c 0x86))
  ∧ (∀ (st : Stream) (c : Cmd) (u : State) (s : State), s.takes st 0x33 c u →
      (u.port c.port).tc.st.pd = true →
    exec (.pdHardReset st) s = .next ((u.okay c []).orderHr c.port))
  ∧ (∀ (st : Stream) (c : Cmd) (u : State) (s : State), s.takes st 0x33 c u →
      (u.port c.port).tc.st.pd = false →
    exec (.pdHardReset st) s = .next (u.deny c 0x8B))
  ∧ (∀ (st : Stream) (c : Cmd) (u : State) (s : State), s.takes st 0x34 c u →
      ((u.port c.port).ctxOf .sop1).vconnOk = true →
      (u.port c.port).pd.dfp = true →
      (u.port c.port).lineIdle = true →
      (u.port c.port).transmits s.now = false →
      (u.port c.port).pd.flight.any Flight.onWire = false →
    exec (.pdCableReset st) s = .next ((((u.okay c []).modPort c.port fun y => { y with pd := { y.pd with cableDue := true } }).cableReset c.port).modPort c.port fun y => { y with pd := { y.pd with onLine := some (s.now, 84) } }))
  ∧ (∀ (st : Stream) (c : Cmd) (u : State) (s : State), s.takes st 0x34 c u →
      ((u.port c.port).ctxOf .sop1).vconnOk = true →
      (u.port c.port).pd.dfp = true →
      (u.port c.port).lineIdle = false ∨ (u.port c.port).transmits s.now = true ∨ (u.port c.port).pd.flight.any Flight.onWire = true →
    exec (.pdCableReset st) s = .next ((u.okay c []).modPort c.port fun y => { y with pd := { y.pd with cableDue := true } }))
  ∧ (∀ (st : Stream) (c : Cmd) (u : State) (s : State), s.takes st 0x34 c u →
      ((u.port c.port).ctxOf .sop1).vconnOk = false ∨ (u.port c.port).pd.dfp = false →
    exec (.pdCableReset st) s = .next (u.deny c 0x8B))
  ∧ (∀ (st : Stream) (c : Cmd) (u : State) (s : State), s.takes st 0x38 c u →
      c.b 0 = 0 →
      c.b 1 ≤ 7 →
      (u.port c.port).pd.swapReq = none →
      (u.port c.port).pd.contract.pos ≠ 0 →
      u.swapPrecheck c.port .pr = none →
    exec (.swapRequestPr st) s = .next ((u.accept c).modPort c.port fun x => { x with pd := { x.pd with swapReq := some { kind := .pr, retries := c.b 1, attempts := 0, stream := c.stream, tag := c.tag, from_ := s.now, sent := false, crossed := false } } }))
  ∧ (∀ (st : Stream) (c : Cmd) (u : State) (s : State), s.takes st 0x38 c u →
      c.b 0 = 1 →
      c.b 1 ≤ 7 →
      (u.port c.port).pd.swapReq = none →
      (u.port c.port).pd.contract.pos ≠ 0 →
      u.swapPrecheck c.port .dr = none →
    exec (.swapRequestDr st) s = .next ((u.accept c).modPort c.port fun x => { x with pd := { x.pd with swapReq := some { kind := .dr, retries := c.b 1, attempts := 0, stream := c.stream, tag := c.tag, from_ := s.now, sent := false, crossed := false } } }))
  ∧ (∀ (st : Stream) (c : Cmd) (u : State) (s : State), s.takes st 0x38 c u →
      c.b 0 = 2 →
      c.b 1 ≤ 7 →
      (u.port c.port).pd.swapReq = none →
      (u.port c.port).pd.contract.pos ≠ 0 →
      u.swapPrecheck c.port .vconn = none →
    exec (.swapRequestVconn st) s = .next ((u.accept c).modPort c.port fun x => { x with pd := { x.pd with swapReq := some { kind := .vconn, retries := c.b 1, attempts := 0, stream := c.stream, tag := c.tag, from_ := s.now, sent := false, crossed := false } } }))
  ∧ (∀ (st : Stream) (c : Cmd) (u : State) (i : Instr) (s : State), s.takes st 0x38 c u →
      (i = .swapRequestPr st ∧ c.b 0 = 0) ∨ (i = .swapRequestDr st ∧ c.b 0 = 1) ∨ (i = .swapRequestVconn st ∧ c.b 0 = 2) →
      7 < c.b 1 →
    exec (i) s = .next (u.deny c 0x88))
  ∧ (∀ (st : Stream) (c : Cmd) (u : State) (i : Instr) (s : State), s.takes st 0x38 c u →
      (i = .swapRequestPr st ∧ c.b 0 = 0) ∨ (i = .swapRequestDr st ∧ c.b 0 = 1) ∨ (i = .swapRequestVconn st ∧ c.b 0 = 2) →
      c.b 1 ≤ 7 →
      (u.port c.port).pd.swapReq ≠ none →
    exec (i) s = .next (u.deny c 0x86))
  ∧ (∀ (st : Stream) (c : Cmd) (u : State) (s : State), s.takes st 0x38 c u →
      c.b 0 = 1 →
      c.b 1 ≤ 7 →
      (u.port c.port).pd.swapReq = none →
      (u.port c.port).pd.contract.pos = 0 ∨ u.swapPrecheck c.port .dr ≠ none →
    exec (.swapRequestDr st) s = .next (u.deny c 0x8B))
  ∧ (∀ (st : Stream) (c : Cmd) (u : State) (s : State), s.takes st 0x40 c u →
      c.b 0 = 0 →
      c.h 2 = 0 →
      if c.tgtOf = .sop then (u.port c.port).pd.contract.pos ≠ 0 else ((u.port c.port).ctxOf .sop1).vconnOk = true →
      (u.port c.port).pd.vdm = none →
    exec (.vdmDiscoverIdentity st) s = .next ((u.accept c).startVdm c (.hostDiscover 0 0) (wordBytes (vdmHeader 0xFF00 1 0))))
  ∧ (∀ (st : Stream) (c : Cmd) (u : State) (s : State), s.takes st 0x40 c u →
      c.b 0 = 1 →
      c.h 2 = 0 →
      if c.tgtOf = .sop then (u.port c.port).pd.contract.pos ≠ 0 else ((u.port c.port).ctxOf .sop1).vconnOk = true →
      (u.port c.port).pd.vdm = none →
    exec (.vdmDiscoverSvids st) s = .next ((u.accept c).startVdm c (.hostDiscover 1 0) (wordBytes (vdmHeader 0xFF00 2 0))))
  ∧ (∀ (st : Stream) (c : Cmd) (u : State) (s : State), s.takes st 0x40 c u →
      c.b 0 = 2 →
      if c.tgtOf = .sop then (u.port c.port).pd.contract.pos ≠ 0 else ((u.port c.port).ctxOf .sop1).vconnOk = true →
      (u.port c.port).pd.vdm = none →
    exec (.vdmDiscoverModes st) s = .next ((u.accept c).startVdm c (.hostDiscover 2 (BitVec.ofNat 16 (c.h 2))) (wordBytes (vdmHeader (c.h 2) 3 0))))
  ∧ (∀ (st : Stream) (c : Cmd) (u : State) (s : State), s.takes st 0x40 c u →
      2 < c.b 0 ∨ (c.b 0 = 0 ∧ c.h 2 ≠ 0) →
    exec (.vdmDiscoverIdentity st) s = .next (u.deny c 0x88))
  ∧ (∀ (st : Stream) (c : Cmd) (u : State) (s : State), s.takes st 0x40 c u →
      c.b 0 = 0 →
      c.h 2 = 0 →
      if c.tgtOf = .sop then (u.port c.port).pd.contract.pos = 0 else ((u.port c.port).ctxOf .sop1).vconnOk = false →
    exec (.vdmDiscoverIdentity st) s = .next (u.deny c 0x8B))
  ∧ (∀ (st : Stream) (c : Cmd) (u : State) (s : State), s.takes st 0x41 c u →
      vdmStructured (c.w 0) = false ∨ vdmCmd (c.w 0) = 0 ∨ 5 < vdmCmd (c.w 0) →
      (u.port c.port).tc.st.pd = true →
      (u.port c.port).pd.vdm = none →
    exec (.vdmSend st) s = .next ((u.accept c).startVdm c (.hostSend (vdmStructured (c.w 0) && vdmCmd (c.w 0) != 6)) c.payload))
  ∧ (∀ (st : Stream) (c : Cmd) (u : State) (s : State), s.takes st 0x41 c u →
      vdmStructured (c.w 0) = true →
      1 ≤ vdmCmd (c.w 0) →
      vdmCmd (c.w 0) ≤ 5 →
    exec (.vdmSend st) s = .next (u.deny c 0x88))
  ∧ (∀ (st : Stream) (c : Cmd) (u : State) (s : State), s.takes st 0x41 c u →
      vdmStructured (c.w 0) = false ∨ vdmCmd (c.w 0) = 0 ∨ 5 < vdmCmd (c.w 0) →
      (u.port c.port).tc.st.pd = true →
      (u.port c.port).pd.vdm ≠ none →
    exec (.vdmSend st) s = .next (u.deny c 0x86))
  ∧ (∀ (st : Stream) (c : Cmd) (u : State) (s : State), s.takes st 0x42 c u →
      1 ≤ c.b 2 →
      c.b 2 ≤ 6 →
      (u.port c.port).pd.dfp = true →
      (u.port c.port).pd.contract.pos ≠ 0 →
      (u.port c.port).modeKnown (BitVec.ofNat 16 (c.h 0)) (c.b 2) = true →
      (u.port c.port).pd.mode = none →
      (u.port c.port).pd.vdm = none →
    exec (.modeEnter st) s = .next ((u.accept c).startVdm c .modeEnter (wordBytes (vdmHeader (c.h 0) 4 (c.b 2)))))
  ∧ (∀ (st : Stream) (c : Cmd) (u : State) (s : State), s.takes st 0x42 c u →
      1 ≤ c.b 2 →
      c.b 2 ≤ 6 →
      (u.port c.port).pd.dfp = false ∨ (u.port c.port).pd.contract.pos = 0 ∨ (u.port c.port).modeKnown (BitVec.ofNat 16 (c.h 0)) (c.b 2) = false ∨ (u.port c.port).pd.mode ≠ none →
    exec (.modeEnter st) s = .next (u.deny c 0x8B))
  ∧ (∀ (st : Stream) (c : Cmd) (u : State) (s : State), s.takes st 0x43 c u →
      1 ≤ c.b 2 →
      c.b 2 ≤ 6 →
      (u.port c.port).pd.mode = some (BitVec.ofNat 16 (c.h 0), BitVec.ofNat 3 (c.b 2)) →
      (u.port c.port).pd.vdm = none →
    exec (.modeExit st) s = .next ((u.accept c).startVdm c .modeExit (wordBytes (vdmHeader (c.h 0) 5 (c.b 2)))))
  ∧ (∀ (st : Stream) (c : Cmd) (u : State) (s : State), s.takes st 0x43 c u →
      1 ≤ c.b 2 →
      c.b 2 ≤ 6 →
      (u.port c.port).pd.mode ≠ some (BitVec.ofNat 16 (c.h 0), BitVec.ofNat 3 (c.b 2)) →
    exec (.modeExit st) s = .next (u.deny c 0x8B))
  ∧ (∀ (st : Stream) (c : Cmd) (u : State) (s : State), s.takes st 0x48 c u →
      c.fits (u.port c.port).svidBytes = true →
    exec (.svidTableRead st) s = .next (u.okay c (u.port c.port).svidBytes))

/-! ### Commands of stages, guards, budget, feeds, faults and logs (chapters 11 to 14, 16) -/

/-- O49: STAGE_CONFIG and GUARD_CONFIG store a set for the next slot 0; BUDGET_SET acts and asks for an allocation, and
BUDGET_GROUP_CONFIG sets the group's parameters; FEED_CONFIG sends the working set to the die and releases latched feeds; the STATUS commands read. -/
def Obligations.UnitCommands : Prop :=
  (∀ (st : Stream) (c : Cmd) (u : State) (s : State), s.takes st 0x58 c u →
      c.b 0 = 0 →
      c.coefs.toList.all signExtended = true →
    exec (.stageConfig st) s = .next ((u.okay c []).modPort c.port fun x => { x with cfg := { x.cfg with coefNext := some c.coefs } }))
  ∧ (∀ (st : Stream) (c : Cmd) (u : State) (s : State), s.takes st 0x58 c u →
      c.b 0 = 1 →
      c.coefs.toList.all signExtended = true →
    exec (.stageConfig st) s = .next ((u.okay c []).mapPorts fun p x => if clusterOf p = clusterOf c.port then { x with cfg := { x.cfg with coefNext := some c.coefs } } else x))
  ∧ (∀ (st : Stream) (c : Cmd) (u : State) (s : State), s.takes st 0x58 c u →
      1 < c.b 0 ∨ c.coefs.toList.all signExtended = false →
    exec (.stageConfig st) s = .next (u.deny c 0x88))
  ∧ (∀ (st : Stream) (c : Cmd) (u : State) (s : State), s.takes st 0x59 c u →
      c.fits (u.stageStatusBytes c.port) = true →
    exec (.stageStatus st) s = .next (u.okay c (u.stageStatusBytes c.port)))
  ∧ (∀ (st : Stream) (c : Cmd) (u : State) (s : State), s.takes st 0x5A c u →
      ((List.range 8).all fun i => match specOf (0x1070 + i) with | some sp => fieldsOk (c.w (4 * i)) sp.fields | none => false) = true →
      u.writeBlocked c.port 0x1072 (c.w 8) = false →
    exec (.guardConfig st) s = .next ((u.okay c []).modPort c.port fun x => { x with cfg := { x.cfg with guardNext := some (Vector.ofFn fun i => c.w (4 * i.val)) } }))
  ∧ (∀ (st : Stream) (c : Cmd) (u : State) (s : State), s.takes st 0x5A c u →
      ((List.range 8).all fun i => match specOf (0x1070 + i) with | some sp => fieldsOk (c.w (4 * i)) sp.fields | none => false) = false →
    exec (.guardConfig st) s = .next (u.deny c 0x88))
  ∧ (∀ (st : Stream) (c : Cmd) (u : State) (s : State), s.takes st 0x50 c u →
      c.h 0 ≠ 0 →
    exec (.budgetSet st) s = .next ((((u.okay c []).modBudget fun b => { b with hostB := some (c.h 0) }).setReady 0x00800000#32).wantAllocation))
  ∧ (∀ (st : Stream) (c : Cmd) (u : State) (s : State), s.takes st 0x50 c u →
      c.h 0 = 0 →
    exec (.budgetSet st) s = .next ((((u.okay c []).modBudget fun b => { b with hostB := none }).budgetReady).wantAllocation))
  ∧ (∀ (st : Stream) (c : Cmd) (u : State) (s : State), s.takes st 0x51 c u →
      c.fits u.budgetStatusBytes = true →
    exec (.budgetStatus st) s = .next (u.okay c u.budgetStatusBytes))
  ∧ (∀ (st : Stream) (c : Cmd) (u : State) (s : State), s.takes st 0x52 c u →
      (c.w 4).toNat ≤ 0xFFFFFF →
    exec (.budgetGroupConfig st) s = .next (((u.okay c []).modYarrow fun w => { w with groupB := c.w 4 }).putGroup (BitVec.ofNat 32 (c.b 0 + c.b 1 % 2 * 256))))
  ∧ (∀ (st : Stream) (c : Cmd) (u : State) (s : State), s.takes st 0x52 c u →
      0xFFFFFF < (c.w 4).toNat →
    exec (.budgetGroupConfig st) s = .next (u.deny c 0x88))
  ∧ (∀ (st : Stream) (c : Cmd) (u : State) (s : State), s.takes st 0x5B c u →
      c.b 0 = 1 →
      s.feed.work.ok = true →
      s.feed.on = true →
      s.feed.linkUp = true →
    exec (.feedConfigApply st) s = .next ((u.okay c []).modFeed fun d => { d with inForce := d.work, fromHub := true, cfgDue := none }))
  ∧ (∀ (st : Stream) (c : Cmd) (u : State) (s : State), s.takes st 0x5B c u →
      c.b 0 % 2 = 1 →
      s.feed.work.ok = false →
    exec (.feedConfigApply st) s = .next (u.deny c 0x88))
  ∧ (∀ (st : Stream) (c : Cmd) (u : State) (s : State), s.takes st 0x5B c u →
      c.b 0 = 2 →
      s.feed.a.st = .latched →
    exec (.feedReleaseA st) s = .next ((u.okay c []).modFeed fun d => { d with a := { d.a with st := .off } }))
  ∧ (∀ (st : Stream) (c : Cmd) (u : State) (s : State), s.takes st 0x5B c u →
      c.b 0 = 4 →
      s.feed.b.st = .latched →
    exec (.feedReleaseB st) s = .next ((u.okay c []).modFeed fun d => { d with b := { d.b with st := .off } }))
  ∧ (∀ (st : Stream) (c : Cmd) (u : State) (i : Instr) (s : State), s.takes st 0x5B c u →
      i = .feedConfigApply st ∨ i = .feedReleaseA st ∨ i = .feedReleaseB st →
      c.b 0 = 7 →
      s.feed.work.ok = true →
    exec (i) s = .next ((((u.okay c []).sendFeedSet).releaseFeed .a true).releaseFeed .b true))
  ∧ (∀ (st : Stream) (c : Cmd) (u : State) (s : State), s.takes st 0x5C c u →
      c.fits u.feed.statusBytes = true →
    exec (.feedStatus st) s = .next (u.okay c u.feed.statusBytes))

/-- O50: FAULT_STATUS reads; FAULT_CLEAR releases the latch with its hold, unless a source that holds it is ACTIVE, clears RAISED and
empties the log; severities are validated whole and act at the next slot 0; a forced source is raised at the next slot 0 and its bit cleared
without a trace; LOG_READ delivers records of the fault log, of a stage log, the list of snapshots and a snapshot's bytes. -/
def Obligations.FaultCommands : Prop :=
  (∀ (st : Stream) (c : Cmd) (u : State) (s : State), s.takes st 0x60 c u →
      c.fits u.faultStatusBytes = true →
    exec (.faultStatus st) s = .next (u.okay c u.faultStatusBytes))
  ∧ (∀ (st : Stream) (c : Cmd) (u : State) (s : State), s.takes st 0x61 c u →
      c.b 0 = 1 →
      s.holder = none →
    exec (.faultClearLatch st) s = .next ((u.okay c []).releaseLatch))
  ∧ (∀ (st : Stream) (c : Cmd) (u : State) (n : Nat) (s : State), s.takes st 0x61 c u →
      c.b 0 % 2 = 1 →
      u.holder = some n →
    exec (.faultClearLatch st) s = .next (u.sendReply c false 0x8B (leBytes 1 n ++ [0, 0, 0])))
  ∧ (∀ (st : Stream) (c : Cmd) (u : State) (s : State), s.takes st 0x61 c u →
      c.b 0 = 2 →
    exec (.faultClearRaised st) s = .next ((u.okay c []).modFaults fun g => { g with raised := 0 }))
  ∧ (∀ (st : Stream) (c : Cmd) (u : State) (s : State), s.takes st 0x61 c u →
      c.b 0 = 4 →
    exec (.faultClearLog st) s = .next ((u.okay c []).modFaults fun g => { g with log := [], logFirst := g.logFirst + g.log.length }))
  ∧ (∀ (st : Stream) (c : Cmd) (u : State) (i : Instr) (s : State), s.takes st 0x61 c u →
      i = .faultClearLatch st ∨ i = .faultClearRaised st ∨ i = .faultClearLog st →
      c.b 0 = 7 →
      s.holder = none →
    exec (i) s = .next (((u.okay c []).releaseLatch).modFaults fun g => { g with raised := 0, log := [], logFirst := g.logFirst + g.log.length }))
  ∧ (∀ (st : Stream) (c : Cmd) (u : State) (d : List Byte) (s : State), s.takes st 0x62 c u →
      c.b 1 = 0 →
      1 ≤ c.h 2 →
      c.b 0 + c.h 2 ≤ 256 →
      (d = c.payload.take 4 ++ ((s.faults.sevWork.toList.drop (c.b 0)).take (c.h 2)).map fun v => BitVec.ofNat 8 v.toNat) →
      c.fits d = true →
    exec (.faultSeverityRead st) s = .next (u.okay c d))
  ∧ (∀ (st : Stream) (c : Cmd) (u : State) (s : State), s.takes st 0x62 c u →
      c.b 1 = 1 →
      1 ≤ c.h 2 →
      c.b 0 + c.h 2 ≤ 256 →
      ((List.range (c.h 2)).all fun i => decide (c.b (4 + i) ≤ 3) && sevOk (c.b 0 + i) (c.b (4 + i))) = true →
    exec (.faultSeverityWrite st) s = .next ((u.okay c []).modFaults fun g => { g with sevNext := some ((List.range (c.h 2)).foldl (fun (v : Vector (BitVec 2) 256) i => v.setIfInBounds (c.b 0 + i) (BitVec.ofNat 2 (c.b (4 + i)))) g.sevWork) }))
  ∧ (∀ (st : Stream) (c : Cmd) (u : State) (s : State), s.takes st 0x62 c u →
      c.b 1 = 1 →
      c.h 2 = 0 ∨ 256 < c.b 0 + c.h 2 ∨ ((List.range (c.h 2)).all fun i => decide (c.b (4 + i) ≤ 3) && sevOk (c.b 0 + i) (c.b (4 + i))) = false →
    exec (.faultSeverityWrite st) s = .next (u.deny c 0x88))
  ∧ (∀ (st : Stream) (c : Cmd) (u : State) (s : State), s.takes st 0x63 c u →
      c.b 1 = 1 →
      reservedSource (c.b 0) = false →
      forceCodeOk (c.b 0) (c.b 2) = true →
      s.faults.force.getLsbD (c.b 0) = false →
    exec (.faultForceSet st) s = .next ((u.okay c []).modFaults fun g => { g with force := setBit256 g.force (c.b 0), forceDue := g.forceDue ++ [{ src := c.b 0, code := c.b 2, detail := c.b 3, extra := 0, forced := true, deferred := false }] }))
  ∧ (∀ (st : Stream) (c : Cmd) (u : State) (s : State), s.takes st 0x63 c u →
      c.b 1 = 1 →
      reservedSource (c.b 0) = false →
      forceCodeOk (c.b 0) (c.b 2) = true →
      s.faults.force.getLsbD (c.b 0) = true →
    exec (.faultForceSet st) s = .next (u.okay c []))
  ∧ (∀ (st : Stream) (c : Cmd) (u : State) (s : State), s.takes st 0x63 c u →
      c.b 1 = 0 →
      reservedSource (c.b 0) = false →
      forceCodeOk (c.b 0) (c.b 2) = true →
    exec (.faultForceClear st) s = .next ((u.okay c []).modFaults fun g => { g with force := g.force &&& ~~~ BitVec.twoPow 256 (c.b 0) }))
  ∧ (∀ (st : Stream) (c : Cmd) (u : State) (i : Instr) (s : State), s.takes st 0x63 c u →
      i = .faultForceSet st ∧ c.b 1 = 1 ∨ i = .faultForceClear st ∧ c.b 1 = 0 →
      reservedSource (c.b 0) = true ∨ forceCodeOk (c.b 0) (c.b 2) = false →
    exec (i) s = .next (u.deny c 0x88))
  ∧ (∀ (st : Stream) (c : Cmd) (u : State) (start : Nat) (recs : List FaultRec) (s : State), s.takes st 0x68 c u →
      c.b 0 = 0 →
      c.b 1 = 0 →
      1 ≤ c.h 2 →
      c.h 2 ≤ 255 →
      (c.w 8).toNat = 0 →
      start = max (c.w 4).toNat s.faults.logFirst →
      recs = (s.faults.log.drop (start - s.faults.logFirst)).take (c.h 2) →
      c.fits (logHead 0 recs.length (BitVec.ofNat 32 start) (BitVec.ofNat 32 (start + recs.length)) (start - (c.w 4).toNat) ++ recs.flatMap recBytes) = true →
    exec (.logReadFault st) s = .next (u.okay c (logHead 0 recs.length (BitVec.ofNat 32 start) (BitVec.ofNat 32 (start + recs.length)) (start - (c.w 4).toNat) ++ recs.flatMap recBytes)))
  ∧ (∀ (st : Stream) (c : Cmd) (u : State) (q : QueueId) (ks : List Packet) (s : State), s.takes st 0x68 c u →
      c.b 0 = 1 →
      c.b 1 ≤ 7 →
      1 ≤ c.h 2 →
      c.h 2 ≤ 255 →
      c.w 4 = 0 →
      c.w 8 = 0 →
      q = qLog ⟨c.b 1 % 8, Nat.mod_lt _ (by decide)⟩ →
      (u.pool.queues[q]).quarantine = false →
      ks = (u.pool.queues[q]).closed.take (c.h 2) →
      c.fits (logHead 1 (((ks.filter fun k => !k.bad).flatMap fun k => k.data).length / 16) (Config.freeWord (s.board.free + 0)) (Config.freeWord (s.board.free + 1)) 0 ++ (ks.filter fun k => !k.bad).flatMap fun k => k.data) = true →
    exec (.logReadStage st) s = .next ((((u.okay c (logHead 1 (((ks.filter fun k => !k.bad).flatMap fun k => k.data).length / 16) (Config.freeWord (s.board.free + 0)) (Config.freeWord (s.board.free + 1)) 0 ++ (ks.filter fun k => !k.bad).flatMap fun k => k.data)).readLog q ks).drawn).drawn))
  ∧ (∀ (st : Stream) (c : Cmd) (u : State) (es : List (Nat × Nat)) (s : State), s.takes st 0x68 c u →
      c.b 0 = 2 →
      c.b 1 = 0 →
      1 ≤ c.h 2 →
      c.h 2 ≤ 255 →
      c.w 4 = 0 →
      c.w 8 = 0 →
      es = (s.store.snaps.foldr insertSnap []).take (c.h 2) →
      c.fits (logHead 2 es.length (Config.freeWord (s.board.free + 0)) (Config.freeWord (s.board.free + 1)) 0 ++ es.flatMap fun e => u32 e.1 ++ leBytes 1 e.2 ++ [1, 0, 0]) = true →
    exec (.logReadSnapshotList st) s = .next (((u.okay c (logHead 2 es.length (Config.freeWord (s.board.free + 0)) (Config.freeWord (s.board.free + 1)) 0 ++ es.flatMap fun e => u32 e.1 ++ leBytes 1 e.2 ++ [1, 0, 0])).drawn).drawn))
  ∧ (∀ (st : Stream) (c : Cmd) (u : State) (e : Nat × Nat) (d : List Byte) (s : State), s.takes st 0x68 c u →
      c.b 0 = 3 →
      c.b 1 = 0 →
      4 ≤ c.h 2 →
      c.h 2 % 4 = 0 →
      (c.w 8).toNat % 4 = 0 →
      (c.w 8).toNat + c.h 2 ≤ 4096 →
      (s.store.snaps.find? fun x => x.1 == (c.w 4).toNat) = some e →
      d = logHead 3 ((Config.freeWord (s.board.free + 0)).toNat % 256) (Config.freeWord (s.board.free + 1)) (Config.freeWord (s.board.free + 2)) 0 ++ s.store.flash.readN erased (snapBase + 4096 * e.2 + (c.w 8).toNat) (min (c.h 2) 4080) →
      c.fits d = true →
    exec (.logReadSnapshot st) s = .next ((((u.okay c d).drawn).drawn).drawn))
  ∧ (∀ (st : Stream) (c : Cmd) (u : State) (s : State), s.takes st 0x68 c u →
      c.b 0 = 3 →
      c.b 1 = 0 →
      (s.store.snaps.find? fun x => x.1 == (c.w 4).toNat) = none →
    exec (.logReadSnapshot st) s = .next (u.deny c 0x88))

/-! ### Commands of images, cores and the link (chapters 04, 16, 18, 19) -/

/-- O51: the image commands are stepped one at a time and BUSY besides: an erase starts with no journal, RESUME answers the journal's
offset, a segment at that offset is programmed and answered after its read-back, a verification completes with its check, a commit needs
the slot verified and then asks for a WARM with ACTIVATE. -/
def Obligations.ImageCommands : Prop :=
  (∀ (st : Stream) (c : Cmd) (u : State) (s : State), s.takes st 0x80 c u →
      c.b 0 = 0 →
      s.store.op = none →
    exec (.imageBeginNew st) s = .next ((u.accept c).modStore fun r => { r.touch (u.accept c).idleSlot with journal := none, op := some (.erase c.tag c.stream) }))
  ∧ (∀ (st : Stream) (c : Cmd) (u : State) (n : Nat) (s : State), s.takes st 0x80 c u →
      c.b 0 = 1 →
      s.store.op = none →
      u.journalAt = some n →
    exec (.imageBeginResume st) s = .next ((u.okay c (u32 n)).modStore fun r => { r with verified := none }))
  ∧ (∀ (st : Stream) (c : Cmd) (u : State) (s : State), s.takes st 0x80 c u →
      c.b 0 = 1 →
      s.store.op = none →
      u.journalAt = none →
    exec (.imageBeginResume st) s = .next (u.deny c 0x8B))
  ∧ (∀ (st : Stream) (opc : Nat) (c : Cmd) (u : State) (i : Instr) (s : State), s.takes st opc c u →
      (i = .imageBeginNew st ∧ opc = 0x80 ∧ c.b 0 = 0) ∨ (i = .imageBeginResume st ∧ opc = 0x80 ∧ c.b 0 = 1) ∨ (i = .imageData st ∧ opc = 0x81) ∨ (i = .imageVerify st ∧ opc = 0x82) ∨ (i = .imageCommit st ∧ opc = 0x83) →
      s.store.op ≠ none →
    exec (i) s = .next (u.deny c 0x86))
  ∧ (∀ (tag : Byte) (st : Stream) (s : State), s.store.op = some (.erase tag st) →
      s.storeRuns = true →
    exec (.imageEraseComplete true) s = .next ((s.modStore fun r => { r with flash := r.flash.clear (slotBase s.idleSlot) (slotBase s.idleSlot + slotSize), journal := some (s.idleSlot, 0), op := none }).complete st 0x80 tag.toNat 0 0 0x7F []))
  ∧ (∀ (tag : Byte) (st : Stream) (s : State), s.store.op = some (.erase tag st) →
      s.storeRuns = true →
    gives (.imageEraseComplete false) s fun t => t.store.op = none
      ∧ t.store.journal = s.store.journal
      ∧ t.store.verified = s.store.verified
      ∧ t.ports = s.ports
      ∧ t.cores = s.cores
      ∧ t.faults = s.faults)
  ∧ (∀ (st : Stream) (c : Cmd) (u : State) (s : State), s.takes st 0x81 c u →
      s.store.op = none →
      u.journalAt = some (c.w 0).toNat →
      c.segment.length % 256 = 0 →
      (c.w 0).toNat + c.segment.length ≤ slotSize →
      c.commitClear = true →
    exec (.imageData st) s = .next ((u.hold c).modStore fun r => { r.touch u.idleSlot with op := some (.program c.hdr c.stream (c.w 0).toNat c.segment) }))
  ∧ (∀ (st : Stream) (c : Cmd) (u : State) (s : State), s.takes st 0x81 c u →
      s.store.op = none →
      u.journalAt ≠ some (c.w 0).toNat ∨ c.segment.length % 256 ≠ 0 ∨ slotSize < (c.w 0).toNat + c.segment.length ∨ c.commitClear = false →
    exec (.imageData st) s = .next (u.deny c 0x88))
  ∧ (∀ (hdr : List Byte) (st : Stream) (off : Nat) (data : List Byte) (s : State), s.store.op = some (.program hdr st off data) →
      (s.store.flash.program (slotBase s.idleSlot + off) data).readN erased (slotBase s.idleSlot + off) data.length = data →
      s.storeRuns = true →
    exec (.imageDataReadBack true) s = .next ((s.modStore fun r => { r with flash := r.flash.program (slotBase s.idleSlot + off) data, journal := some (s.idleSlot, off + data.length), op := none }).replyHeld st smallReply hdr 0 (u32 (off + data.length))))
  ∧ (∀ (hdr : List Byte) (st : Stream) (off : Nat) (data : List Byte) (s : State), s.store.op = some (.program hdr st off data) →
      (s.store.flash.program (slotBase s.idleSlot + off) data).readN erased (slotBase s.idleSlot + off) data.length ≠ data →
      s.storeRuns = true →
    exec (.imageDataReadBack true) s = .next ((s.modStore fun r => { r with flash := r.flash.program (slotBase s.idleSlot + off) data, op := none }).replyHeld st smallReply hdr 0x8A []))
  ∧ (∀ (st : Stream) (c : Cmd) (u : State) (s : State), s.takes st 0x82 c u →
      s.store.op = none →
    exec (.imageVerify st) s = .next ((u.accept c).modStore fun r => { r with op := some (.verify c.tag c.stream) }))
  ∧ (∀ (tag : Byte) (st : Stream) (n : Nat) (s : State), s.store.op = some (.verify tag st) →
      s.checkSlot = n →
      s.storeRuns = true →
    exec (.imageVerifyComplete) s = .next ((s.modStore fun r => { r.setVerdict s.idleSlot (n == 0 || n == 8) with op := none, verified := if n = 0 then some s.idleSlot else r.verified }).complete st 0x82 tag.toNat (if n = 0 then 0 else if n = 8 then 0x87 else 0x88) 0 0x7F (leBytes 1 n ++ [0, 0, 0])))
  ∧ (∀ (st : Stream) (c : Cmd) (u : State) (s : State), s.takes st 0x83 c u →
      s.store.op = none →
      s.store.verified = some u.idleSlot →
    exec (.imageCommit st) s = .next ((u.hold c).modStore fun r => { r with op := some (.commit c.hdr c.stream (c.b 0 % 2 == 1)) }))
  ∧ (∀ (st : Stream) (c : Cmd) (u : State) (s : State), s.takes st 0x83 c u →
      s.store.op = none →
      s.store.verified ≠ some u.idleSlot →
    exec (.imageCommit st) s = .next (u.deny c 0x8B))
  ∧ (∀ (hdr : List Byte) (st : Stream) (act : Bool) (s : State), s.store.op = some (.commit hdr st act) →
      (s.store.flash.program (slotBase s.idleSlot + 0xFFC) (u32 (s.store.slotSeq s.idleSlot))).readN erased (slotBase s.idleSlot + 0xFFC) 4 = u32 (s.store.slotSeq s.idleSlot) →
      s.storeRuns = true →
    gives (.imageCommitProgrammed true) s fun t => t.store.op = none
      ∧ t.board.resetReq = (if act = true ∧ s.board.resetReq = none then some ⟨false, st, hdr.getD 1 0, s.now, false⟩ else s.board.resetReq)
      ∧ t.store.flash = s.store.flash.program (slotBase s.idleSlot + 0xFFC) (u32 (s.store.slotSeq s.idleSlot))
      ∧ t.pool = ((s.modStore fun r => { r with flash := r.flash.program (slotBase s.idleSlot + 0xFFC) (u32 (s.store.slotSeq s.idleSlot)), op := none }).replyHeld st smallReply hdr 0 []).pool
      ∧ t.ports = s.ports
      ∧ t.cores = s.cores
      ∧ t.faults = s.faults)
  ∧ (∀ (st : Stream) (c : Cmd) (u : State) (s : State), s.takes st 0x84 c u →
      c.fits u.imageBytes = true →
    exec (.imageStatus st) s = .next (u.okay c u.imageBytes))

/-- O52: an extension is loaded into a core that runs none; its start is due when its CRC is right, and its stop is due;
YARROW_STATUS reads; YARROW_NODE_ASSIGN sets this module's ID, or starts the chain; YARROW_FORWARD sends a command on and keeps its origin,
and is refused for an unseen module or with sixteen forwards outstanding. -/
def Obligations.CoreAndLinkCommands : Prop :=
  (∀ (st : Stream) (c : Cmd) (u : State) (s : State), s.takes st 0x88 c u →
      c.b 0 ≤ 8 →
      (c.w 4).toNat % 4 = 0 →
      (c.w 4).toNat + (c.payload.drop 8).length ≤ 0x2000 →
      (u.core c.core).extState ≠ 2 →
    exec (.sorrelLoadExt st) s = .next ((u.okay c []).modCore c.core fun k => { k with bundleMem := k.bundleMem.writeAll zeroByte (0xE000 + (c.w 4).toNat) (c.payload.drop 8), extState := if k.extState = 0 then 1 else k.extState }))
  ∧ (∀ (st : Stream) (c : Cmd) (u : State) (s : State), s.takes st 0x88 c u →
      8 < c.b 0 ∨ (c.w 4).toNat % 4 ≠ 0 ∨ 0x2000 < (c.w 4).toNat + (c.payload.drop 8).length →
    exec (.sorrelLoadExt st) s = .next (u.deny c 0x88))
  ∧ (∀ (st : Stream) (c : Cmd) (u : State) (s : State), s.takes st 0x88 c u →
      c.b 0 ≤ 8 →
      (c.w 4).toNat % 4 = 0 →
      (c.w 4).toNat + (c.payload.drop 8).length ≤ 0x2000 →
      (u.core c.core).extState = 2 →
    exec (.sorrelLoadExt st) s = .next (u.deny c 0x8B))
  ∧ (∀ (st : Stream) (c : Cmd) (u : State) (s : State), s.takes st 0x89 c u →
      c.b 0 ≤ 8 →
      c.b 1 = 0 →
      c.w 4 = 0 →
      c.w 8 = 0 →
      c.fits (u.core c.core).extBytes = true →
    exec (.sorrelCtrlStatus st) s = .next ((u.okay c (u.core c.core).extBytes).modCore c.core fun k => { k with worst := 0 }))
  ∧ (∀ (st : Stream) (c : Cmd) (u : State) (s : State), s.takes st 0x89 c u →
      c.b 0 ≤ 8 →
      c.b 1 = 1 →
      c.w 4 = 0 →
      c.w 8 = 0 →
      c.fits (u.core c.core).extBytes = true →
    exec (.sorrelCtrlStop st) s = .next ((u.okay c (u.core c.core).extBytes).modCore c.core fun k => { k with extStop := true, extStart := false }))
  ∧ (∀ (st : Stream) (c : Cmd) (u : State) (s : State), s.takes st 0x89 c u →
      c.b 0 ≤ 8 →
      c.b 1 = 2 →
      (c.w 4).toNat ≤ 0x2000 →
      crc32c ((u.core c.core).bundleMem.readN zeroByte 0xE000 (c.w 4).toNat) = c.w 8 →
      c.fits (u.core c.core).extBytes = true →
    exec (.sorrelCtrlStart st) s = .next ((u.okay c (u.core c.core).extBytes).modCore c.core fun k => { k with extStart := true, extStop := false }))
  ∧ (∀ (st : Stream) (c : Cmd) (u : State) (s : State), s.takes st 0x89 c u →
      c.b 0 ≤ 8 →
      c.b 1 = 2 →
      (c.w 4).toNat ≤ 0x2000 →
      crc32c ((u.core c.core).bundleMem.readN zeroByte 0xE000 (c.w 4).toNat) ≠ c.w 8 →
    exec (.sorrelCtrlStart st) s = .next (u.deny c 0x88))
  ∧ (∀ (st : Stream) (c : Cmd) (u : State) (s : State), s.takes st 0x90 c u →
      c.fits u.yarrowStatusBytes = true →
    exec (.yarrowStatus st) s = .next (u.okay c u.yarrowStatusBytes))
  ∧ (∀ (st : Stream) (c : Cmd) (u : State) (s : State), s.takes st 0x91 c u →
      c.b 0 = 0 →
      1 ≤ c.h 2 →
      c.h 2 ≤ 4000 →
    exec (.yarrowNodeAssignSet st) s = .next (((u.okay c []).modYarrow fun w => w.setId (BitVec.ofNat 12 (c.h 2)) 3).yarrowReady))
  ∧ (∀ (st : Stream) (c : Cmd) (u : State) (s : State), s.takes st 0x91 c u →
      c.b 0 = 1 →
      1 ≤ c.h 2 →
      c.h 2 ≤ 4000 →
    exec (.yarrowNodeAssignChain st) s = .next ((u.okay c []).startChain (BitVec.ofNat 12 (c.h 2)) 3))
  ∧ (∀ (st : Stream) (c : Cmd) (u : State) (i : Instr) (s : State), s.takes st 0x91 c u →
      i = .yarrowNodeAssignSet st ∧ c.b 0 = 0 ∨ i = .yarrowNodeAssignChain st ∧ c.b 0 = 1 →
      c.h 2 = 0 ∨ 4000 < c.h 2 →
    exec (i) s = .next (u.deny c 0x88))
  ∧ (∀ (st : Stream) (c : Cmd) (u : State) (s : State), s.takes st 0x92 c u →
      1 ≤ c.nodeField →
      c.nodeField ≤ 4000 →
      BitVec.ofNat 12 c.nodeField ≠ s.yarrow.id →
      c.h 2 < 16 →
      (s.yarrow.seen.any fun e => e.src == BitVec.ofNat 12 c.nodeField && decide (Beat.since s.now e.stamp ≤ 750000)) = true →
      u.yarrow.fwd.length < 16 →
    exec (.yarrowForward st) s = .next (((u.hold c).modYarrow fun w => { w with fwd := w.fwd ++ [⟨BitVec.ofNat 12 c.nodeField, c.stream, c.hdr, s.now, c.payload.getD 1 0, []⟩] }).originateAll (BitVec.ofNat 12 c.nodeField) 0x20 c.payload))
  ∧ (∀ (st : Stream) (c : Cmd) (u : State) (s : State), s.takes st 0x92 c u →
      1 ≤ c.nodeField →
      c.nodeField ≤ 4000 →
      BitVec.ofNat 12 c.nodeField ≠ u.yarrow.id →
      c.h 2 < 16 →
      (u.yarrow.seen.any fun e => e.src == BitVec.ofNat 12 c.nodeField && decide (Beat.since s.now e.stamp ≤ 750000)) = false →
    exec (.yarrowForward st) s = .next (u.deny c 0x89))
  ∧ (∀ (st : Stream) (c : Cmd) (u : State) (s : State), s.takes st 0x92 c u →
      1 ≤ c.nodeField →
      c.nodeField ≤ 4000 →
      BitVec.ofNat 12 c.nodeField ≠ s.yarrow.id →
      c.h 2 < 16 →
      (s.yarrow.seen.any fun e => e.src == BitVec.ofNat 12 c.nodeField && decide (Beat.since s.now e.stamp ≤ 750000)) = true →
      16 ≤ u.yarrow.fwd.length →
    exec (.yarrowForward st) s = .next (u.deny c 0x86))
  ∧ (∀ (st : Stream) (c : Cmd) (u : State) (s : State), s.takes st 0x92 c u →
      c.nodeField = 0 ∨ 4000 < c.nodeField ∨ BitVec.ofNat 12 c.nodeField = u.yarrow.id ∨ 16 ≤ c.h 2 →
    exec (.yarrowForward st) s = .next (u.deny c 0x88))

/-! ### The Yarrow link (chapter 19) -/

/-- O53: a frame needs 24 bits of preamble or more; one whose CRC-32 fails is counted and acts no further; a sound one counts toward its port's link. A LINK frame, one for this
module and a broadcast whose SEQ is in order close into the port's receive queue, others go out of the other port with HOPS reduced: on an
idle pair at once, after a preamble of 36 bits, and with the complement of their CRC where the inbound one fails; on a busy pair they are held. A
poisoned frame is dropped. A frame with the module's own ID is stripped, or an ID conflict. The transmitter sends the transit queue first and backs
off on carrier; a pair without valid frames loses its link. IDs come by chain, whose
own offer stops at its head; a source silent for 750,000 beats is forgotten, while S8 runs. A forwarded command is served where FWD_EN lets it, and its reply goes to the
forward whose node and tag it answers, or ends DENIED, or, while S8 runs, as TIMEOUT after FWD_TO. -/
def Obligations.YarrowLinkLayer : Prop :=
  (∀ (y : YPort) (f : YFrame) (r : YRecv) (busy : Bool) (s : State), s.hubRuns = false ∨ s.board.mainOn = false ∨ r.preamble < 24 →
    exec (.yarrowFrameReceive y f r busy) s = .next (s))
  ∧ (∀ (y : YPort) (f : YFrame) (r : YRecv) (busy : Bool) (s : State), s.hubRuns = true →
      s.board.mainOn = true →
      24 ≤ r.preamble →
      crc32 (frameBytes f) ≠ r.crc →
    gives (.yarrowFrameReceive y f r busy) s fun t => t.yarrow.crcErr = satIncr s.yarrow.crcErr
      ∧ ((busy = false ∧ s.yarrow.id ≠ 0 ∧ f.dst ≠ 0 ∧ f.dst ≠ s.yarrow.id ∧ f.src ≠ s.yarrow.id ∧ f.hops ≠ 0) → (t.yarrow.port (yOther y)).wire = ⟨36, frameWire false (frameBytes { f with hops := f.hops - 1 })⟩)
      ∧ (t.yarrow.port y).linked = (s.yarrow.port y).linked
      ∧ (t.yarrow.port y).lastRx = (s.yarrow.port y).lastRx
      ∧ t.yarrow.seen = s.yarrow.seen
      ∧ t.yarrow.id = s.yarrow.id
      ∧ t.pool = s.pool
      ∧ t.ports = s.ports
      ∧ t.cores = s.cores
      ∧ t.faults = s.faults
      ∧ t.store = s.store)
  ∧ (∀ (y : YPort) (f : YFrame) (r : YRecv) (busy : Bool) (s : State), s.hubRuns = true →
      s.board.mainOn = true →
      24 ≤ r.preamble →
      crc32 (frameBytes f) = r.crc →
      f.dst = 0 →
      s.yarrow.id = 0 ∨ f.src ≠ s.yarrow.id →
      knownType f.type.toNat = true →
      f.flags.toNat / 2 = 0 →
      2 ≤ (s.yarrow.port y).valid →
      s.pool.room (yRx y) (cellsFor (frameBytes f).length) = true →
    gives (.yarrowFrameReceive y f r busy) s fun t => (t.pool.queues[(yRx y)]).closed.map Packet.data = (s.pool.queues[(yRx y)]).closed.map Packet.data ++ [frameBytes f]
      ∧ (t.yarrow.port y).linked = true
      ∧ (t.yarrow.port y).lastRx = s.now
      ∧ (s.yarrow.id ≠ 0 → t.ready 22 = true)
      ∧ (busy = false → (t.yarrow.port (yOther y)).wire = ⟨36, []⟩)
      ∧ (∀ q : QueueId, q ≠ yRx y → t.pool.queues[q] = s.pool.queues[q])
      ∧ t.ports = s.ports
      ∧ t.cores = s.cores
      ∧ t.faults = s.faults)
  ∧ (∀ (y : YPort) (f : YFrame) (r : YRecv) (busy : Bool) (s : State), s.hubRuns = true →
      s.board.mainOn = true →
      24 ≤ r.preamble →
      crc32 (frameBytes f) = r.crc →
      f.dst ≠ 0 →
      s.yarrow.id ≠ 0 →
      f.src = s.yarrow.id →
      (s.yarrow.seq - 1 - f.seq).toNat < s.yarrow.sentN →
    gives (.yarrowFrameReceive y f r busy) s fun t => t.yarrow.ring = true
      ∧ t.yarrow.id = s.yarrow.id
      ∧ (busy = false → (t.yarrow.port (yOther y)).wire = ⟨36, []⟩)
      ∧ t.pool = s.pool
      ∧ t.faults = s.faults
      ∧ t.ports = s.ports)
  ∧ (∀ (y : YPort) (f : YFrame) (r : YRecv) (busy : Bool) (s : State), s.hubRuns = true →
      s.board.mainOn = true →
      24 ≤ r.preamble →
      crc32 (frameBytes f) = r.crc →
      s.yarrow.id ≠ 0 →
      f.src = s.yarrow.id →
      s.yarrow.sentN ≤ (s.yarrow.seq - 1 - f.seq).toNat →
    gives (.yarrowFrameReceive y f r busy) s fun t => t.raisedAt 51 = true
      ∧ t.yarrow.id = (if s.yarrow.idSrc = 2 then 0 else s.yarrow.id)
      ∧ t.yarrow.ring = s.yarrow.ring)
  ∧ (∀ (y : YPort) (f : YFrame) (r : YRecv) (busy : Bool) (s : State), s.hubRuns = true →
      s.board.mainOn = true →
      24 ≤ r.preamble →
      crc32 (frameBytes f) = r.crc →
      f.dst = s.yarrow.id →
      s.yarrow.id ≠ 0 →
      s.yarrow.id ≠ 4095 →
      f.src ≠ s.yarrow.id →
      knownType f.type.toNat = true →
      f.flags.toNat / 2 = 0 →
      (s.yarrow.seqCheck s.now f).1 = true →
      s.pool.room (yRx y) (cellsFor (frameBytes f).length) = true →
    gives (.yarrowFrameReceive y f r busy) s fun t => (t.pool.queues[(yRx y)]).closed.map Packet.data = (s.pool.queues[(yRx y)]).closed.map Packet.data ++ [frameBytes f]
      ∧ t.yarrow.seen = s.yarrow.seen.filter (fun e => e.src != f.src) ++ [⟨f.src, f.seq, s.now⟩]
      ∧ t.yarrow.seqDrop = s.yarrow.seqDrop
      ∧ (∀ q : QueueId, q ≠ yRx y → t.pool.queues[q] = s.pool.queues[q])
      ∧ t.ports = s.ports
      ∧ t.faults = s.faults)
  ∧ (∀ (y : YPort) (f : YFrame) (r : YRecv) (busy : Bool) (s : State), s.hubRuns = true →
      s.board.mainOn = true →
      24 ≤ r.preamble →
      crc32 (frameBytes f) = r.crc →
      f.dst = s.yarrow.id →
      s.yarrow.id ≠ 0 →
      s.yarrow.id ≠ 4095 →
      f.src ≠ s.yarrow.id →
      knownType f.type.toNat = true →
      f.flags.toNat / 2 = 0 →
      (s.yarrow.seqCheck s.now f).1 = false →
    gives (.yarrowFrameReceive y f r busy) s fun t => t.yarrow.seqDrop = satIncr s.yarrow.seqDrop
      ∧ t.yarrow.seen = s.yarrow.seen
      ∧ t.pool = s.pool
      ∧ t.ports = s.ports
      ∧ t.faults = s.faults)
  ∧ (∀ (y : YPort) (f : YFrame) (r : YRecv) (s : State), s.hubRuns = true →
      s.board.mainOn = true →
      24 ≤ r.preamble →
      crc32 (frameBytes f) = r.crc →
      f.dst ≠ 0 →
      f.dst ≠ 4095 →
      s.yarrow.id ≠ 0 →
      f.dst ≠ s.yarrow.id →
      f.src ≠ s.yarrow.id →
      f.hops ≠ 0 →
      s.pool.room (yTransit (yOther y)) (cellsFor (frameBytes { f with hops := f.hops - 1 }).length) = true →
    gives (.yarrowFrameReceive y f r true) s fun t => (t.pool.queues[(yTransit (yOther y))]).closed.map Packet.data = (s.pool.queues[(yTransit (yOther y))]).closed.map Packet.data ++ [frameBytes { f with hops := f.hops - 1 }]
      ∧ t.yarrow.heldN = satIncr s.yarrow.heldN
      ∧ t.yarrow.seen = s.yarrow.seen
      ∧ (t.yarrow.port (yOther y)).wire = (s.yarrow.port (yOther y)).wire
      ∧ (∀ q : QueueId, q ≠ yTransit (yOther y) → t.pool.queues[q] = s.pool.queues[q])
      ∧ t.ports = s.ports
      ∧ t.faults = s.faults)
  ∧ (∀ (y : YPort) (f : YFrame) (r : YRecv) (s : State), s.hubRuns = true →
      s.board.mainOn = true →
      24 ≤ r.preamble →
      crc32 (frameBytes f) = r.crc →
      f.dst ≠ 0 →
      s.yarrow.id ≠ 0 →
      f.dst ≠ s.yarrow.id →
      f.src ≠ s.yarrow.id →
      f.hops ≠ 0 →
    gives (.yarrowFrameReceive y f r false) s fun t => (t.yarrow.port (yOther y)).wire = ⟨36, frameWire true (frameBytes { f with hops := f.hops - 1 })⟩
      ∧ t.pool.queues[(yTransit (yOther y))] = s.pool.queues[(yTransit (yOther y))]
      ∧ t.yarrow.heldN = s.yarrow.heldN
      ∧ t.ports = s.ports
      ∧ t.faults = s.faults)
  ∧ (∀ (y : YPort) (f : YFrame) (r : YRecv) (s : State), s.hubRuns = true →
      s.board.mainOn = true →
      24 ≤ r.preamble →
      crc32 (frameBytes f) = r.crc →
      f.dst = 4095 →
      f.src ≠ s.yarrow.id →
      knownType f.type.toNat = true →
      f.flags = 1 →
      f.hops ≠ 0 →
      s.pool.room (yRx y) (cellsFor (frameBytes f).length) = true →
      (s.pool.queues[(yTransit (yOther y))]).closed = [] →
    gives (.yarrowFrameReceive y f r true) s fun t => (t.pool.queues[(yRx y)]).closed.map Packet.data = (s.pool.queues[(yRx y)]).closed.map Packet.data ++ [frameBytes f]
      ∧ t.yarrow.heldN = satIncr s.yarrow.heldN
      ∧ t.ports = s.ports
      ∧ t.faults = s.faults)
  ∧ (∀ (y : YPort) (n : Nat) (q : QueueId) (k : Packet) (o : CellObs) (s : State), s.hubRuns = true →
      s.board.mainOn = true →
      32 ≤ n →
      (s.yarrow.port y).backoff = 0 →
      q = (if (s.pool.head (yTransit y)).isSome then yTransit y else yTx y) →
      s.pool.head q = some k →
      o = .sound →
      k.bad = false →
    gives (.yarrowTransmitStart y n (.clear o)) s fun t => (t.pool.queues[q]).closed = (s.pool.queues[q]).closed.tail
      ∧ (q = yTx y → (t.yarrow.port y).lastTx = s.now)
      ∧ (t.yarrow.port y).wire = ⟨if (s.pool.head (yTransit y)).isSome then 36 else 32, frameWire true k.data⟩
      ∧ (∀ r : QueueId, r ≠ q → t.pool.queues[r] = s.pool.queues[r])
      ∧ t.faults = s.faults
      ∧ t.ports = s.ports)
  ∧ (∀ (y : YPort) (n : Nat) (q : QueueId) (k : Packet) (o : CellObs) (s : State), s.hubRuns = true →
      s.board.mainOn = true →
      32 ≤ n →
      (s.yarrow.port y).backoff = 0 →
      q = (if (s.pool.head (yTransit y)).isSome then yTransit y else yTx y) →
      s.pool.head q = some k →
      o ≠ .sound ∨ k.bad = true →
    gives (.yarrowTransmitStart y n (.clear o)) s fun t => t.raisedAt 210 = true
      ∧ ((if o = .sound then k.flaw else o) = .parity → t.raisedAt 211 = true)
      ∧ (t.pool.queues[q]).closed = (s.pool.queues[q]).closed.tail
      ∧ (t.yarrow.port y).wire = ⟨if (s.pool.head (yTransit y)).isSome then 36 else 32, frameWire false k.data⟩)
  ∧ (∀ (y : YPort) (n : Nat) (s : State), s.hubRuns = true →
      s.board.mainOn = true →
      32 ≤ n →
      (s.yarrow.port y).backoff = 0 →
      (s.pool.head (yTransit y)).isSome = true →
    gives (.yarrowTransmitStart y n .carrier) s fun t => 1 ≤ (t.yarrow.port y).backoff
      ∧ (t.yarrow.port y).backoff ≤ 4
      ∧ t.pool = s.pool
      ∧ t.ports = s.ports)
  ∧ (∀ (y : YPort) (n : Nat) (o : YLine) (s : State), n < 32 ∨ 0 < (s.yarrow.port y).backoff →
    exec (.yarrowTransmitStart y n o) s = .next (s))
  ∧ (∀ (y : YPort) (k : Packet) (i : Instr) (s : State), s.yarrowOn = true →
      s.pool.head (yRx y) = some k →
      k.bad = true →
      (s.pool.queues[(yRx y)]).quarantine = false →
      i = .link y ∨ i = .idAssign y ∨ i = .heartbeat y ∨ i = .elect y ∨ i = .report y ∨ i = .grant y ∨ i = .fwdCmd y ∨ i = .fwdReply y →
    exec (i) s = .next ((s.modPool fun m => m.pop (yRx y)).found (yRx y) k.flaw))
  ∧ (∀ (y : YPort) (f : YFrame) (s : State), s.frameIs y 0x01 f →
    exec (.link y) s = .next ((s.modPool fun m => m.pop (yRx y)).modYarrow fun w => w.modY y fun p => { p with neigh := BitVec.ofNat 12 (rdNat f.payload 0 2) }))
  ∧ (∀ (y : YPort) (i : Instr) (n : Nat) (f : YFrame) (s : State), (i = .link y ∧ n = 0x01) ∨ (i = .idAssign y ∧ n = 0x02) ∨ (i = .heartbeat y ∧ n = 0x10) ∨ (i = .elect y ∧ n = 0x11) ∨ (i = .report y ∧ n = 0x12) ∨ (i = .grant y ∧ n = 0x13) ∨ (i = .fwdCmd y ∧ n = 0x20) ∨ (i = .fwdReply y ∧ n = 0x21) →
      s.frameAt y = some f →
      f.type.toNat ≠ n →
    exec (i) s = .next (s))
  ∧ (∀ (y : YPort) (s : State), s.yarrowOn = true →
      2500 ≤ Beat.since s.now (s.yarrow.port y).lastTx →
    exec (.linkSend y) s = .next ((s.originate [y] 0 0x01 (u16 s.yarrow.id.toNat ++ [0, 0])).modYarrow fun w => w.modY y fun p => { p with lastTx := s.now }))
  ∧ (∀ (y : YPort) (s : State), s.yarrowOn = true →
      (s.yarrow.port y).linked = true →
      7500 ≤ Beat.since s.now (s.yarrow.port y).lastRx →
    gives (.yarrowLink y) s fun t => (t.yarrow.port y).linked = false
      ∧ (t.yarrow.port y).valid = 0
      ∧ t.raisedAt 49 = true
      ∧ (bit1 s.yarrow.link 1 = true → s.yarrow.ringBroken = false → t.raisedAt 52 = true)
      ∧ ((s.yarrow.port (yOther y)).linked = false → t.ready 22 = false)
      ∧ t.cores = s.cores
      ∧ t.store = s.store)
  ∧ (∀ (y : YPort) (s : State), (s.yarrow.port y).linked = false ∨ Beat.since s.now (s.yarrow.port y).lastRx < 7500 →
    exec (.yarrowLink y) s = .next (s))
  ∧ (∀ (y : YPort) (f : YFrame) (s : State), s.frameIs y 0x02 f →
      rdNat f.payload 0 2 ≤ 4000 →
      (s.yarrow.head && y == .ya) = false →
      fld s.yarrow.node 0 12 = 0 →
    exec (.idAssign y) s = .next ((((s.modPool fun m => m.pop (yRx y)).modYarrow fun w => w.setId (BitVec.ofNat 12 (rdNat f.payload 0 2)) 2).yarrowReady).originate [(yOther y)] 0 0x02 (u16 (rdNat f.payload 0 2 + 1) ++ [0, 0])))
  ∧ (∀ (y : YPort) (f : YFrame) (s : State), s.frameIs y 0x02 f →
      rdNat f.payload 0 2 ≤ 4000 →
      (s.yarrow.head && y == .ya) = false →
      fld s.yarrow.node 0 12 ≠ 0 →
    exec (.idAssign y) s = .next ((s.modPool fun m => m.pop (yRx y)).originate [(yOther y)] 0 0x02 (u16 (rdNat f.payload 0 2 + 1) ++ [0, 0])))
  ∧ (∀ (y : YPort) (f : YFrame) (s : State), s.frameIs y 0x02 f →
      s.yarrow.head = true →
      y = .ya →
    exec (.idAssign y) s = .next ((s.modPool fun m => m.pop (yRx y)).modYarrow fun w => { w with head := false }))
  ∧ (∀ (y : YPort) (f : YFrame) (s : State), s.frameIs y 0x02 f →
      4000 < rdNat f.payload 0 2 →
      (s.yarrow.head && y == .ya) = false →
    exec (.idAssign y) s = .next (s.modPool fun m => m.pop (yRx y)))
  ∧ (∀ (n : Fin 4096) (s : State), s.hubRuns = true →
      s.coreStopped 8 = false →
    exec (.seqSourceExpiry n) s = .next (s.modYarrow fun w => { w with seen := w.seen.filter fun e => !(e.src == BitVec.ofFin n && decide (750000 ≤ Beat.since s.now e.stamp)) }))
  ∧ (∀ (y : YPort) (f : YFrame) (s : State), s.frameIs y 0x20 f →
      bit1 s.yarrow.link 0 = false →
    exec (.fwdCmd y) s = .next ((s.modPool fun m => m.pop (yRx y)).sendFwdReply f.src []))
  ∧ (∀ (y : YPort) (f : YFrame) (s : State), s.frameIs y 0x20 f →
      bit1 s.yarrow.link 0 = true →
      12 ≤ f.payload.length →
      f.payload.length ≤ 1024 →
      f.payload.length % 4 = 0 →
      crc32 (f.payload.take (f.payload.length - 4)) = rdWord f.payload (f.payload.length - 4) →
      s.host.tagsFwd.contains (f.payload.getD 1 0) = false →
      (s.pool.queues[qFwd]).closed = [] →
      (s.pool.modQ (yRx y) Queue.tail).room qFwd (cellsFor (f.payload.length - 4)) = true →
    gives (.fwdCmd y) s fun t => (t.pool.queues[qFwd]).closed.map Packet.data = [f.payload.take (f.payload.length - 4)]
      ∧ (t.pool.queues[qFwd]).closed.map Packet.carried = [.fwd f.src false]
      ∧ t.host.tagsFwd = s.host.tagsFwd ++ [f.payload.getD 1 0]
      ∧ t.ports = s.ports
      ∧ t.store = s.store)
  ∧ (∀ (y : YPort) (f : YFrame) (o : FwdOut) (s : State), s.frameIs y 0x21 f →
      s.yarrow.fwd.find? (FwdOut.answeredBy f) = some o →
      rdNat f.payload 2 2 = 0 →
    exec (.fwdReply y) s = .next (((s.modPool fun m => m.pop (yRx y)).modYarrow fun w => { w with fwd := w.fwd.erase o }).fwdAnswer o 0x87 []))
  ∧ (∀ (y : YPort) (f : YFrame) (o : FwdOut) (s : State), s.frameIs y 0x21 f →
      s.yarrow.fwd.find? (FwdOut.answeredBy f) = some o →
      o.frags = [] →
      rdByte f.payload 0 = 16 →
      rdNat f.payload 2 2 = (f.payload.drop 4).length →
      4 ≤ rdNat f.payload 2 2 →
      crc32 ((f.payload.drop 4).take (rdNat f.payload 2 2 - 4)) = rdWord (f.payload.drop 4) (rdNat f.payload 2 2 - 4) →
    exec (.fwdReply y) s = .next (((s.modPool fun m => m.pop (yRx y)).modYarrow fun w => { w with fwd := w.fwd.erase o }).fwdAnswer o 0 (f.payload.drop 4)))
  ∧ (∀ (y : YPort) (f : YFrame) (s : State), s.frameIs y 0x21 f →
      s.yarrow.fwd.find? (FwdOut.answeredBy f) = none →
    exec (.fwdReply y) s = .next (s.modPool fun m => m.pop (yRx y)))
  ∧ (∀ (n : Fin 4096) (o : FwdOut) (s : State), (s.yarrow.fwd.find? fun x => x.node == BitVec.ofFin n && decide (ms (fld s.yarrow.link 16 16) ≤ Beat.since s.now x.sent)) = some o →
      s.hubRuns = true →
      s.coreStopped 8 = false →
    exec (.forwardTimeout n) s = .next ((s.modYarrow fun w => { w with fwd := w.fwd.erase o }).fwdAnswer o 0x8A []))

/-! ### Yarrow groups and the ledger (chapter 20) -/

/-- O54: a module that listens adopts the root whose heartbeat it hears, and one that hears none elects itself when it may be root; a
root yields to a lower ID; a member follows the root of a newer TERM and passes over an older one, and one that may be root and has a lower ID than its
root claims the root. A root sends heartbeats, and after each the grants of its ledger slice by slice, and ages every entry but its own; a member reports,
takes its grant, and lowers it step by step while heartbeats are missing until the root is lost; a grant kept on leaving a group falls likewise. -/
def Obligations.YarrowGroup : Prop :=
  (∀ (y : YPort) (f : YFrame) (s : State), s.frameIs y 0x10 f →
      s.yarrow.groupNow = 0 ∨ (f.payload.getD 0 0) ≠ s.yarrow.groupNow →
    exec (.heartbeat y) s = .next (s.modPool fun m => m.pop (yRx y)))
  ∧ (∀ (y : YPort) (f : YFrame) (s : State), s.frameIs y 0x10 f →
      s.yarrow.groupNow ≠ 0 →
      (f.payload.getD 0 0) = s.yarrow.groupNow →
      s.yarrow.groupCfg = s.yarrow.groupNow →
      s.yarrow.gstate = .listening ∨ (s.yarrow.gstate = .root ∧ f.src.toNat < s.yarrow.id.toNat) →
    gives (.heartbeat y) s fun t => t.yarrow.gstate = .member
      ∧ t.yarrow.root = f.src
      ∧ t.yarrow.term = BitVec.ofNat 16 (rdNat f.payload 2 2)
      ∧ t.yarrow.lastHb = s.now
      ∧ t.yarrow.missed = 0
      ∧ t.budget.decaying = (s.budget.decaying && !s.yarrow.current f)
      ∧ t.yarrow.repDue = some (s.now + BitVec.ofNat 48 (16 * (s.yarrow.id.toNat % 256)))
      ∧ t.yarrow.id = s.yarrow.id
      ∧ t.ports = s.ports
      ∧ t.store = s.store
      ∧ t.faults = s.faults)
  ∧ (∀ (y : YPort) (f : YFrame) (s : State), s.frameIs y 0x10 f →
      s.yarrow.groupNow ≠ 0 →
      (f.payload.getD 0 0) = s.yarrow.groupNow →
      s.yarrow.groupCfg = s.yarrow.groupNow →
      s.yarrow.gstate = .member →
      f.src = s.yarrow.root →
      BitVec.ofNat 16 (rdNat f.payload 2 2) = s.yarrow.term →
      s.yarrow.rootEl = false ∨ s.yarrow.root.toNat ≤ s.yarrow.id.toNat →
      s.yarrow.hbBeat ≠ s.now ∨ s.yarrow.hbSrcs.all (fun n => decide (f.src.toNat ≤ n.toNat)) = true →
    gives (.heartbeat y) s fun t => t.yarrow.lastHb = s.now
      ∧ t.yarrow.missed = 0
      ∧ t.yarrow.rootLost = false
      ∧ t.budget.decaying = false
      ∧ t.yarrow.hbCount = s.yarrow.hbCount + 1
      ∧ ((s.yarrow.hbCount + 1) % 10 = 0 → t.yarrow.repDue = some (s.now + BitVec.ofNat 48 (16 * (s.yarrow.id.toNat % 256))))
      ∧ t.yarrow.gstate = .member
      ∧ t.yarrow.root = s.yarrow.root
      ∧ t.yarrow.term = s.yarrow.term
      ∧ t.yarrow.id = s.yarrow.id)
  ∧ (∀ (y : YPort) (f : YFrame) (s : State), s.frameIs y 0x10 f →
      s.yarrow.groupNow ≠ 0 →
      (f.payload.getD 0 0) = s.yarrow.groupNow →
      s.yarrow.groupCfg = s.yarrow.groupNow →
      s.yarrow.gstate = .member →
      termNewer (BitVec.ofNat 16 (rdNat f.payload 2 2)) s.yarrow.term = true →
      s.yarrow.rootEl = false ∨ s.yarrow.root.toNat ≤ s.yarrow.id.toNat →
      s.yarrow.hbBeat ≠ s.now ∨ s.yarrow.hbSrcs.all (fun n => decide (f.src.toNat ≤ n.toNat)) = true →
    gives (.heartbeat y) s fun t => t.yarrow.root = f.src
      ∧ t.yarrow.term = BitVec.ofNat 16 (rdNat f.payload 2 2)
      ∧ t.yarrow.lastHb = s.now
      ∧ t.yarrow.missed = 0
      ∧ t.budget.decaying = false
      ∧ t.yarrow.repDue = some (s.now + BitVec.ofNat 48 (16 * (s.yarrow.id.toNat % 256)))
      ∧ t.yarrow.gstate = .member
      ∧ t.yarrow.id = s.yarrow.id)
  ∧ (∀ (y : YPort) (f : YFrame) (s : State), s.frameIs y 0x10 f →
      s.yarrow.groupNow ≠ 0 →
      (f.payload.getD 0 0) = s.yarrow.groupNow →
      s.yarrow.groupCfg = s.yarrow.groupNow →
      s.yarrow.gstate = .member →
      BitVec.ofNat 16 (rdNat f.payload 2 2) ≠ s.yarrow.term →
      termNewer (BitVec.ofNat 16 (rdNat f.payload 2 2)) s.yarrow.term = false →
    gives (.heartbeat y) s fun t => t.yarrow.missed = s.yarrow.missed
      ∧ t.budget.decaying = s.budget.decaying
      ∧ t.yarrow.gstate = .member
      ∧ t.yarrow.root = s.yarrow.root
      ∧ t.yarrow.term = s.yarrow.term
      ∧ t.budget.grantG = s.budget.grantG)
  ∧ (∀ (y : YPort) (f : YFrame) (s : State), s.frameIs y 0x10 f →
      s.yarrow.groupNow ≠ 0 →
      (f.payload.getD 0 0) = s.yarrow.groupNow →
      s.yarrow.groupCfg = s.yarrow.groupNow →
      s.yarrow.gstate = .member →
      s.yarrow.rootEl = true →
      s.yarrow.id ≠ 0 →
      s.yarrow.id.toNat < s.yarrow.root.toNat →
      BitVec.ofNat 16 (rdNat f.payload 2 2) = s.yarrow.term ∨ termNewer (BitVec.ofNat 16 (rdNat f.payload 2 2)) s.yarrow.term = true →
    gives (.heartbeat y) s fun t => t.yarrow.gstate = .root
      ∧ t.yarrow.root = s.yarrow.id
      ∧ t.yarrow.term = BitVec.ofNat 16 (rdNat f.payload 2 2) + 1
      ∧ t.yarrow.id = s.yarrow.id
      ∧ t.ports = s.ports
      ∧ t.faults = s.faults)
  ∧ (∀ (y : YPort) (f : YFrame) (s : State), s.frameIs y 0x10 f →
      s.yarrow.groupNow ≠ 0 →
      (f.payload.getD 0 0) = s.yarrow.groupNow →
      s.yarrow.groupCfg = s.yarrow.groupNow →
      (s.yarrow.gstate = .root ∧ s.yarrow.id.toNat ≤ f.src.toNat) ∨ s.yarrow.gstate = .electing →
    gives (.heartbeat y) s fun t => t.yarrow.gstate = s.yarrow.gstate
      ∧ (s.yarrow.gstate = .electing → t.yarrow.heard = s.yarrow.heard ++ [f.src])
      ∧ t.yarrow.term = s.yarrow.term
      ∧ t.yarrow.root = s.yarrow.root
      ∧ t.budget = { s.budget with decaying := t.budget.decaying })
  ∧ (∀ (y : YPort) (f : YFrame) (s : State), s.frameIs y 0x10 f →
      s.yarrow.groupNow ≠ 0 →
      (f.payload.getD 0 0) = s.yarrow.groupNow →
      s.yarrow.groupCfg ≠ s.yarrow.groupNow →
    gives (.heartbeat y) s fun t => t.yarrow.groupNow = s.yarrow.groupCfg
      ∧ t.yarrow.gstate = (if s.yarrow.groupCfg = 0 then .none else .listening)
      ∧ t.yarrow.ledger = []
      ∧ t.budget = { s.budget with decaying := s.budget.decaying && !s.yarrow.current f }
      ∧ t.yarrow.id = s.yarrow.id)
  ∧ (∀ (s : State), s.yarrowOn = true →
      s.yarrow.gstate = .root →
      25000 ≤ Beat.since s.now s.yarrow.lastHb →
      s.yarrow.groupCfg = s.yarrow.groupNow →
      s.yarrow.rootEl = true →
    exec (.heartbeatSend) s = .next ((s.originateAll 4095 0x10 ([s.yarrow.groupNow, 0] ++ u16 s.yarrow.term.toNat ++ u32 s.yarrow.budgetCfg ++ u32 ((s.yarrow.ledger.map LedgerEntry.grant).sum / 2))).modYarrow fun w => { w.noteBeat s.now w.id with lastHb := s.now, scanPos := some 0, scanBeat := s.now }))
  ∧ (∀ (s : State), s.yarrowOn = true →
      s.yarrow.gstate = .root →
      25000 ≤ Beat.since s.now s.yarrow.lastHb →
      s.yarrow.groupCfg = s.yarrow.groupNow →
      s.yarrow.rootEl = false →
    exec (.heartbeatSend) s = .next (s.modYarrow fun w => w.listen s.now))
  ∧ (∀ (s : State), s.yarrow.gstate ≠ .root ∨ Beat.since s.now s.yarrow.lastHb < 25000 →
    exec (.heartbeatSend) s = .next (s))
  ∧ (∀ (g : Nat) (s : State), s.yarrowOn = true →
      s.yarrow.gstate = .member →
      s.yarrow.groupCfg = s.yarrow.groupNow →
      31250 + 25000 * s.yarrow.missed ≤ Beat.since s.now s.yarrow.lastHb →
      s.yarrow.missed < 2 →
      s.budget.grantG = some g →
      s.floorT < g →
    gives (.heartbeatMissed) s fun t => t.yarrow.missed = s.yarrow.missed + 1
      ∧ t.yarrow.gstate = .member
      ∧ t.budget.grantG = some (max s.floorT (g - fld s.budget.decay 0 16))
      ∧ t.budget.due = true
      ∧ t.yarrow.root = s.yarrow.root
      ∧ t.yarrow.ledger = s.yarrow.ledger
      ∧ t.ports = s.ports
      ∧ t.pool = s.pool
      ∧ t.faults = s.faults)
  ∧ (∀ (g : Nat) (s : State), s.yarrowOn = true →
      s.yarrow.gstate ≠ .member →
      s.yarrow.gstate ≠ .root →
      31250 + 25000 * s.yarrow.missed ≤ Beat.since s.now s.yarrow.lastHb →
      s.budget.grantG = some g →
      s.floorT < g →
    gives (.heartbeatMissed) s fun t => t.yarrow.missed = s.yarrow.missed + 1
      ∧ t.budget.grantG = some (max s.floorT (g - fld s.budget.decay 0 16))
      ∧ t.budget.due = true
      ∧ t.yarrow.gstate = s.yarrow.gstate
      ∧ t.yarrow.groupNow = s.yarrow.groupNow
      ∧ t.pool = s.pool
      ∧ t.faults = s.faults)
  ∧ (∀ (s : State), s.yarrowOn = true →
      s.yarrow.gstate = .member →
      s.yarrow.groupCfg = s.yarrow.groupNow →
      s.yarrow.missed = 2 →
      81250 ≤ Beat.since s.now s.yarrow.lastHb →
    gives (.heartbeatMissed) s fun t => t.raisedAt 50 = true
      ∧ t.yarrow.rootLost = true
      ∧ t.yarrow.gstate = (if s.yarrow.groupNow = 0 then .none else .listening)
      ∧ t.yarrow.ledger = s.yarrow.ledger
      ∧ t.cores = s.cores
      ∧ t.store = s.store)
  ∧ (∀ (s : State), s.yarrow.gstate = .root ∨ Beat.since s.now s.yarrow.lastHb < 31250 + 25000 * s.yarrow.missed →
    exec (.heartbeatMissed) s = .next (s))
  ∧ (∀ (s : State), s.yarrowOn = true →
      s.yarrow.gstate = .listening →
      75000 ≤ Beat.since s.now s.yarrow.listenFrom →
      s.yarrow.groupCfg = s.yarrow.groupNow →
      s.yarrow.rootEl = true →
      s.yarrow.id ≠ 0 →
    exec (.listenWindowEnd) s = .next ((s.originateAll 4095 0x11 ([s.yarrow.groupNow, 0] ++ u16 (s.yarrow.termMax + 1).toNat)).modYarrow fun w => { w with gstate := .electing, electFrom := s.now, heard := [], term := s.yarrow.termMax + 1 }))
  ∧ (∀ (s : State), s.yarrowOn = true →
      s.yarrow.gstate = .listening →
      75000 ≤ Beat.since s.now s.yarrow.listenFrom →
      s.yarrow.groupCfg = s.yarrow.groupNow →
      s.yarrow.rootEl = false ∨ s.yarrow.id = 0 →
    exec (.listenWindowEnd) s = .next (s.modYarrow fun w => { w with listenFrom := s.now }))
  ∧ (∀ (s : State), s.yarrowOn = true →
      s.yarrow.gstate = .listening →
      75000 ≤ Beat.since s.now s.yarrow.listenFrom →
      s.yarrow.groupCfg ≠ s.yarrow.groupNow →
    gives (.listenWindowEnd) s fun t => t.yarrow.groupNow = s.yarrow.groupCfg
      ∧ t.yarrow.gstate = (if s.yarrow.groupCfg = 0 then .none else .listening)
      ∧ t.yarrow.ledger = []
      ∧ t.budget.grantG = s.budget.grantG
      ∧ t.pool = s.pool)
  ∧ (∀ (y : YPort) (f : YFrame) (s : State), s.frameIs y 0x11 f →
      s.yarrow.groupNow ≠ 0 →
      (f.payload.getD 0 0) = s.yarrow.groupNow →
    exec (.elect y) s = .next ((s.modPool fun m => m.pop (yRx y)).modYarrow fun w => { w with termMax := if termNewer (BitVec.ofNat 16 (rdNat f.payload 2 2)) w.termMax then BitVec.ofNat 16 (rdNat f.payload 2 2) else w.termMax, heard := if w.gstate == .electing then w.heard ++ [f.src] else w.heard }))
  ∧ (∀ (y : YPort) (f : YFrame) (s : State), s.frameIs y 0x11 f →
      s.yarrow.groupNow = 0 ∨ (f.payload.getD 0 0) ≠ s.yarrow.groupNow →
    exec (.elect y) s = .next (s.modPool fun m => m.pop (yRx y)))
  ∧ (∀ (s : State), s.yarrowOn = true →
      s.yarrow.gstate = .electing →
      50000 ≤ Beat.since s.now s.yarrow.electFrom →
      s.yarrow.heard.all (fun n => decide (s.yarrow.id.toNat < n.toNat)) = true →
    gives (.electWindowEnd) s fun t => t.yarrow.gstate = .root
      ∧ t.yarrow.root = s.yarrow.id
      ∧ t.yarrow.term = s.yarrow.term
      ∧ t.yarrow.ledger = s.yarrow.ledger.map (LedgerEntry.demote s.yarrow.id)
      ∧ t.yarrow.id = s.yarrow.id
      ∧ t.pool = s.pool
      ∧ t.budget = s.budget
      ∧ t.faults = s.faults)
  ∧ (∀ (s : State), s.yarrowOn = true →
      s.yarrow.gstate = .electing →
      50000 ≤ Beat.since s.now s.yarrow.electFrom →
      s.yarrow.heard.all (fun n => decide (s.yarrow.id.toNat < n.toNat)) = false →
    exec (.electWindowEnd) s = .next (s.modYarrow fun w => w.listen s.now))
  ∧ (∀ (i : Instr) (s : State), (i = .listenWindowEnd ∧ (s.yarrow.gstate ≠ .listening ∨ Beat.since s.now s.yarrow.listenFrom < 75000)) ∨ (i = .electWindowEnd ∧ (s.yarrow.gstate ≠ .electing ∨ Beat.since s.now s.yarrow.electFrom < 50000)) →
    exec (i) s = .next (s))
  ∧ (∀ (y : YPort) (f : YFrame) (s : State), s.frameIs y 0x12 f →
      s.yarrow.groupNow ≠ 0 →
      (f.payload.getD 0 0) = s.yarrow.groupNow →
    exec (.report y) s = .next ((s.modPool fun m => m.pop (yRx y)).modYarrow fun w => { w with ledger := ledgerPut { (ledgerGet w.ledger f.src).getD (.blank f.src w.groupNow) with state := if ((ledgerGet w.ledger f.src).getD (.blank f.src w.groupNow)).state = 3 then 3 else 1, flags := f.payload.getD 1 0, floorT := rdNat f.payload 4 4, wantT := rdNat f.payload 8 4, last := s.now } w.ledger }))
  ∧ (∀ (d : Beat) (s : State), s.yarrowOn = true →
      s.yarrow.gstate = .member →
      s.yarrow.repDue = some d →
      s.now = d ∨ Beat.later s.now d = true →
    exec (.reportSend) s = .next ((s.originateAll s.yarrow.root 0x12 ([s.yarrow.groupNow, BitVec.ofNat 8 (bw s.feed.brownout 0 + bw s.budget.short 1), 0, 0] ++ u32 s.floorT ++ u32 s.wantT ++ u32 s.usedPower)).modYarrow fun w => { w with repDue := none, lastFloor := s.floorT, lastWant := s.wantT, repTerm := false }))
  ∧ (∀ (s : State), s.yarrow.repDue = none →
    exec (.reportSend) s = .next (s))
  ∧ (∀ (k : Nat) (s : State), s.yarrowOn = true →
      s.yarrow.gstate = .root →
      s.yarrow.scanPos = some k →
      s.yarrow.scanBeat ≠ s.now →
    gives (.ledgerScan) s fun t => t.yarrow.scanPos = (if k < 63 then some (k + 1) else none)
      ∧ t.yarrow.scanBeat = s.now
      ∧ t.yarrow.scan = (if k = 0 then s.startScan.yarrow.scan else s.yarrow.scan)
      ∧ (∀ e ∈ t.yarrow.ledger, e.node.toNat / 64 = k → ∀ g ∈ (t.yarrow.scan.find? (fun x : BitVec 12 × Nat => x.1 == e.node)).toList, e.grant = g.2)
      ∧ (∀ e ∈ s.yarrow.ledger, e.node ≠ s.yarrow.id ∧ e.node.toNat / 64 ≠ k ∧ e.state ≠ 3 → e ∈ t.yarrow.ledger)
      ∧ t.ports = s.ports
      ∧ t.store = s.store
      ∧ t.yarrow.gstate = .root
      ∧ t.yarrow.term = s.yarrow.term
      ∧ t.faults.raised = s.faults.raised)
  ∧ (∀ (k : Nat) (s : State), s.yarrowOn = true →
      s.yarrow.gstate = .root →
      s.yarrow.scanPos = some k →
      k ≠ 0 →
      s.yarrow.scanBeat ≠ s.now →
      s.yarrow.id.toNat / 64 ≠ k →
      s.yarrow.scan.any (fun e => e.1.toNat / 64 == k) = true →
    exec (.ledgerScan) s = .next ((s.originateAll 4095 0x13 (grantPayload s.yarrow.groupNow s.yarrow.term (s.yarrow.scan.filter fun e => e.1.toNat / 64 == k))).modYarrow fun w => { w with scanPos := if k < 63 then some (k + 1) else none, scanBeat := s.now, ledger := ledgerGrants (s.yarrow.scan.filter fun e => e.1.toNat / 64 == k) w.ledger }))
  ∧ (∀ (k g : Nat) (s : State), s.yarrowOn = true →
      s.yarrow.gstate = .root →
      s.yarrow.scanPos = some k →
      k ≠ 0 →
      s.yarrow.scanBeat ≠ s.now →
      s.yarrow.id.toNat / 64 = k →
      s.yarrow.scan.find? (fun e => e.1 == s.yarrow.id) = some (s.yarrow.id, g) →
      s.feed.brownout = false →
    gives (.ledgerScan) s fun t => t.budget.grantG = some g
      ∧ t.budget.due = true
      ∧ t.budget.decaying = false)
  ∧ (∀ (s : State), s.yarrow.gstate ≠ .root ∨ s.yarrow.scanPos = none ∨ s.yarrow.scanBeat = s.now →
    exec (.ledgerScan) s = .next (s))
  ∧ (∀ (n : Fin 4096) (e : LedgerEntry) (s : State), s.yarrowOn = true →
      s.yarrow.gstate = .root →
      ledgerGet s.yarrow.ledger (BitVec.ofFin n) = some e →
      BitVec.ofFin n ≠ s.yarrow.id →
      750000 ≤ Beat.since s.now e.last →
      Beat.since s.now e.last < 2500000 →
    exec (.ledgerStale n) s = .next (s.modYarrow fun w => { w with ledger := ledgerPut { e with state := 2 } w.ledger }))
  ∧ (∀ (n : Fin 4096) (e : LedgerEntry) (s : State), s.yarrowOn = true →
      s.yarrow.gstate = .root →
      ledgerGet s.yarrow.ledger (BitVec.ofFin n) = some e →
      BitVec.ofFin n ≠ s.yarrow.id →
      2500000 ≤ Beat.since s.now e.last →
    exec (.ledgerStale n) s = .next (s.modYarrow fun w => { w with ledger := w.ledger.filter fun x => x.node != e.node }))
  ∧ (∀ (n : Fin 4096) (s : State), BitVec.ofFin n = s.yarrow.id →
    exec (.ledgerStale n) s = .next (s))
  ∧ (∀ (y : YPort) (f : YFrame) (e : BitVec 12 × Nat) (s : State), s.frameIs y 0x13 f →
      s.yarrow.groupNow ≠ 0 →
      (f.payload.getD 0 0) = s.yarrow.groupNow →
      s.yarrow.gstate = .member →
      rdNat f.payload 2 2 = s.yarrow.term.toNat →
      (grantEntries f).find? (fun x => x.1 == s.yarrow.id) = some e →
      s.feed.brownout = false →
    gives (.grant y) s fun t => t.budget.grantG = some e.2
      ∧ t.budget.due = true
      ∧ t.budget.decaying = false
      ∧ t.ports = s.ports
      ∧ t.yarrow.gstate = .member
      ∧ t.faults.raised = s.faults.raised)
  ∧ (∀ (y : YPort) (f : YFrame) (e : BitVec 12 × Nat) (s : State), s.frameIs y 0x13 f →
      s.yarrow.groupNow ≠ 0 →
      (f.payload.getD 0 0) = s.yarrow.groupNow →
      s.yarrow.gstate = .member →
      rdNat f.payload 2 2 = s.yarrow.term.toNat →
      (grantEntries f).find? (fun x => x.1 == s.yarrow.id) = some e →
      s.feed.brownout = true →
    gives (.grant y) s fun t => t.budget.grantNext = some e.2
      ∧ t.budget.grantG = s.budget.grantG
      ∧ t.budget.due = s.budget.due)
  ∧ (∀ (y : YPort) (f : YFrame) (s : State), s.frameIs y 0x13 f →
      (f.payload.getD 0 0) ≠ s.yarrow.groupNow ∨ rdNat f.payload 2 2 ≠ s.yarrow.term.toNat ∨ s.yarrow.gstate ≠ .member →
    gives (.grant y) s fun t => (t.pool.queues[(yRx y)]).closed = (s.pool.queues[(yRx y)]).closed.tail
      ∧ t.budget = s.budget)

/-! ### Sorrel cores (chapters 22 to 24) -/

/-- O55: results and flags of the X operations at widths 8, 16 and 32, in two's complement (R473, R475, R476). -/
def Obligations.SorrelResults : Prop :=
  (∀ (w : Nat) (x y : BitVec w), w ∈ [8, 16, 32] → ∀ c : Bool,
    xbinRes .add w x.toNat y.toNat c = ⟨(x + y).toNat, x + y == 0, (x + y).msb, BitVec.uaddOverflow x y, BitVec.saddOverflow x y⟩
    ∧ xbinRes .sub w x.toNat y.toNat c = ⟨(x - y).toNat, x - y == 0, (x - y).msb, x.ult y, BitVec.ssubOverflow x y⟩
    ∧ (xbinRes .adc w x.toNat y.toNat c).val = (x + y + (BitVec.ofBool c).setWidth w).toNat
    ∧ (xbinRes .adc w x.toNat y.toNat c).c = decide (2 ^ w ≤ x.toNat + y.toNat + c.toNat)
    ∧ (xbinRes .sbc w x.toNat y.toNat c).val = (x - y - (BitVec.ofBool c).setWidth w).toNat
    ∧ (xbinRes .sbc w x.toNat y.toNat c).c = decide (x.toNat < y.toNat + c.toNat)
    ∧ (xbinRes .adc w x.toNat y.toNat c).v = decide (x.toInt + y.toInt + (c.toNat : Int) < -2 ^ (w - 1) ∨ 2 ^ (w - 1) ≤ x.toInt + y.toInt + (c.toNat : Int))
    ∧ (xbinRes .sbc w x.toNat y.toNat c).v = decide (x.toInt - y.toInt - (c.toNat : Int) < -2 ^ (w - 1) ∨ 2 ^ (w - 1) ≤ x.toInt - y.toInt - (c.toNat : Int))
    ∧ xbinRes .and w x.toNat y.toNat c = ⟨(x &&& y).toNat, x &&& y == 0, (x &&& y).msb, false, false⟩
    ∧ xbinRes .or w x.toNat y.toNat c = ⟨(x ||| y).toNat, x ||| y == 0, (x ||| y).msb, false, false⟩
    ∧ xbinRes .xor w x.toNat y.toNat c = ⟨(x ^^^ y).toNat, x ^^^ y == 0, (x ^^^ y).msb, false, false⟩
    ∧ xbinRes .andn w x.toNat y.toNat c = ⟨(x &&& ~~~y).toNat, x &&& ~~~y == 0, (x &&& ~~~y).msb, false, false⟩)
  ∧ (∀ (w : Nat) (x y : BitVec w), w ∈ [8, 16, 32] → ∀ c : Bool,
    (xbinRes .shl w x.toNat y.toNat c).val = (x <<< y.toNat).toNat
    ∧ (xbinRes .shr w x.toNat y.toNat c).val = (x >>> y.toNat).toNat
    ∧ (xbinRes .sar w x.toNat y.toNat c).val = (x.sshiftRight y.toNat).toNat
    ∧ (xbinRes .rol w x.toNat y.toNat c).val = (x.rotateLeft (y.toNat % w)).toNat
    ∧ (xbinRes .ror w x.toNat y.toNat c).val = (x.rotateRight (y.toNat % w)).toNat
    ∧ (xbinRes .shl w x.toNat y.toNat c).c = (decide (1 ≤ y.toNat ∧ y.toNat ≤ w) && x.getLsbD (w - y.toNat))
    ∧ (xbinRes .shr w x.toNat y.toNat c).c = (decide (1 ≤ y.toNat) && x.getLsbD (y.toNat - 1))
    ∧ (xbinRes .sar w x.toNat y.toNat c).c = (decide (1 ≤ y.toNat) && (if y.toNat < w then x.getLsbD (y.toNat - 1) else x.msb))
    ∧ (xbinRes .rol w x.toNat y.toNat c).c = (decide (y.toNat % w ≠ 0) && (x.rotateLeft (y.toNat % w)).getLsbD 0)
    ∧ (xbinRes .ror w x.toNat y.toNat c).c = (decide (y.toNat % w ≠ 0) && (x.rotateRight (y.toNat % w)).msb))
  ∧ (∀ (w : Nat) (x y : BitVec w), w ∈ [8, 16, 32] → ∀ c : Bool,
    xbinRes .mul w x.toNat y.toNat c = ⟨(x * y).toNat, x * y == 0, (x * y).msb, BitVec.umulOverflow x y, BitVec.smulOverflow x y⟩
    ∧ (xbinRes .mulh w x.toNat y.toNat c).val = ((x.signExtend (2 * w) * y.signExtend (2 * w)).extractLsb' w w).toNat
    ∧ (xbinRes .mulhu w x.toNat y.toNat c).val = ((x.setWidth (2 * w) * y.setWidth (2 * w)).extractLsb' w w).toNat
    ∧ (y ≠ 0 → (xbinRes .div w x.toNat y.toNat c).val = (x.sdiv y).toNat ∧ (xbinRes .rem w x.toNat y.toNat c).val = (x.srem y).toNat
      ∧ (xbinRes .div w x.toNat y.toNat c).v = (x == BitVec.intMin w && y == BitVec.allOnes w)
      ∧ xbinRes .divu w x.toNat y.toNat c = ⟨(x / y).toNat, x / y == 0, (x / y).msb, false, false⟩
      ∧ xbinRes .remu w x.toNat y.toNat c = ⟨(x % y).toNat, x % y == 0, (x % y).msb, false, false⟩)
    ∧ (xbinRes .div w x.toNat 0 c).val = (if x.msb then BitVec.intMin w else BitVec.intMax w).toNat ∧ (xbinRes .div w x.toNat 0 c).v = true
    ∧ (xbinRes .divu w x.toNat 0 c).val = (BitVec.allOnes w).toNat ∧ (xbinRes .divu w x.toNat 0 c).v = true
    ∧ (xbinRes .rem w x.toNat 0 c).val = x.toNat ∧ (xbinRes .rem w x.toNat 0 c).v = true
    ∧ (xbinRes .remu w x.toNat 0 c).val = x.toNat ∧ (xbinRes .remu w x.toNat 0 c).v = true
    ∧ (xbinRes .min w x.toNat y.toNat c).val = (if x.sle y then x else y).toNat
    ∧ (xbinRes .max w x.toNat y.toNat c).val = (if x.sle y then y else x).toNat)
  ∧ (∀ (w : Nat) (x y : BitVec w), w ∈ [8, 16, 32] → ∀ c : Bool,
    ∀ o ∈ [XBin.add, .adc, .sub, .sbc, .and, .or, .xor, .andn, .shl, .shr, .sar, .rol, .ror, .mul, .mulh, .mulhu, .div, .divu, .rem, .remu, .min, .max],
      (xbinRes o w x.toNat y.toNat c).val < 2 ^ w ∧ (xbinRes o w x.toNat y.toNat c).z = decide ((xbinRes o w x.toNat y.toNat c).val = 0)
      ∧ (xbinRes o w x.toNat y.toNat c).n = (xbinRes o w x.toNat y.toNat c).val.testBit (w - 1)
      ∧ (o ∈ [XBin.mulh, .mulhu, .div, .divu, .rem, .remu, .min, .max] → (xbinRes o w x.toNat y.toNat c).c = false)
      ∧ (o ∈ [XBin.shl, .shr, .sar, .rol, .ror, .mulh, .mulhu, .min, .max] → (xbinRes o w x.toNat y.toNat c).v = false))
  ∧ (∀ (w : Nat) (x : BitVec w), w ∈ [8, 16, 32] →
    xunRes .neg w x.toNat = ⟨(-x).toNat, -x == 0, (-x).msb, x != 0, x == BitVec.intMin w⟩
    ∧ xunRes .not w x.toNat = ⟨(~~~x).toNat, ~~~x == 0, (~~~x).msb, false, false⟩
    ∧ xunRes .abs w x.toNat = ⟨x.abs.toNat, x.abs == 0, x.abs.msb, false, x == BitVec.intMin w⟩
    ∧ xunRes .clz w x.toNat = ⟨x.clz.toNat, x.msb, false, x == 0, false⟩)

/-- O56: the X operations: two sources read at issue at the operation width, results and flags for the destination at the X commit
point, 1 cycle, 17 for a divide or remainder. A divide by zero with DZT set traps, and so does an illegal bundle of ADD.
The bit and move operations: bits and the C of a B operation stand at once, moved values at the M commit point; PUSH and POP
move A7 by 4 at once; NOP has no effect. -/
def Obligations.SorrelOperations : Prop :=
  (∀ (k : CoreId) (h : Pre) (f : XForm) (o : XBin) (i : Instr) (s : State), (i, o) ∈ [(.add k h f, .add), (.adc k h f, .adc), (.sub k h f, .sub), (.sbc k h f, .sbc), (.and k h f, .and), (.or k h f, .or), (.xor k h f, .xor), (.andn k h f, .andn), (.shl k h f, .shl), (.shr k h f, .shr), (.sar k h f, .sar), (.rol k h f, .rol), (.ror k h f, .ror), (.mul k h f, .mul), (.mulh k h f, .mulh), (.mulhu k h f, .mulhu), (.div k h f, .div), (.divu k h f, .divu), (.rem k h f, .rem), (.remu k h f, .remu)] →
      s.sole k h (.xbin o f) →
      (divides o = true → (s.core k).dzt = false ∨ s.source k h (widthBits h.width) f.srcs.2 ≠ 0) →
    exec (i) s = .next (let w := widthBits h.width; let r := xbinRes o w (s.source k h w f.srcs.1) (s.source k h w f.srcs.2) (s.core k).c; s.issued k (BundleOp.len ⟨h, .xbin o f⟩) (if divides o then 17 else 1) (f.dst.writeEffects s k 1 w r.val ++ s.stepping k (w / 8) f.stepped ++ xFlags h r.z r.n r.c r.v)))
  ∧ (∀ (k : CoreId) (h : Pre) (d x y : Opnd) (o : XBin) (i : Instr) (s : State), (i, o) = (.min k h d x y, .min) ∨ (i, o) = (.max k h d x y, .max) →
      s.sole k h (.xbin o (.three d x y)) →
    exec (i) s = .next (let w := widthBits h.width; let r := xbinRes o w (s.source k h w x) (s.source k h w y) (s.core k).c; s.issued k (BundleOp.len ⟨h, .xbin o (.three d x y)⟩) 1 (d.writeEffects s k 1 w r.val ++ s.stepping k (w / 8) [x, y] ++ xFlags h r.z r.n r.c r.v)))
  ∧ (∀ (k : CoreId) (h : Pre) (d x : Opnd) (o : XUn) (i : Instr) (s : State), (i, o) ∈ [(.neg k h d x, .neg), (.not k h d x, .not), (.abs k h d x, .abs), (.clz k h d x, .clz)] →
      s.sole k h (.xun o d x) →
    exec (i) s = .next (let w := widthBits h.width; let r := xunRes o w (s.source k h w x); s.issued k (BundleOp.len ⟨h, .xun o d x⟩) 1 (d.writeEffects s k 1 w r.val ++ x.stepEffects s k (w / 8) ++ xFlags h r.z r.n r.c r.v)))
  ∧ (∀ (k : CoreId) (h : Pre) (x y : Opnd) (o : XBin) (op : SOp) (i : Instr) (s : State), (i, o, op) = (.cmp k h x y, .sub, .cmp x y) ∨ (i, o, op) = (.tst k h x y, .and, .tst x y) →
      s.sole k h op →
    exec (i) s = .next (let w := widthBits h.width; let r := xbinRes o w (s.source k h w x) (s.source k h w y) (s.core k).c; s.issued k (BundleOp.len ⟨h, op⟩) 1 (s.stepping k (w / 8) [x, y] ++ xFlags h r.z r.n r.c r.v)))
  ∧ (∀ (k : CoreId) (h : Pre) (d : Fin 8) (x y : Opnd) (s : State), s.sole k h (.xbin .add (.three (.reg d) x y)) →
      (s.core k).inflight = [] →
    gives (.add k h (.three (.reg d) x y)) s fun t => (t.core k).inflight.filter (fun e => e.1 = 1) = [(1, .reg d (BitVec.ofNat 16 ((s.source k h (widthBits h.width) x + s.source k h (widthBits h.width) y) % 2 ^ widthBits h.width)))] ++ (if h.nf then [] else (t.core k).inflight.drop 1)
      ∧ (t.core k).data = (s.core k).data
      ∧ (t.core k).z = (s.core k).z
      ∧ (t.core k).n = (s.core k).n
      ∧ (t.core k).c = (s.core k).c
      ∧ (t.core k).v = (s.core k).v
      ∧ (t.core k).bits = (s.core k).bits
      ∧ t.shared = s.shared
      ∧ t.pool = s.pool
      ∧ t.ports = s.ports
      ∧ t.store = s.store
      ∧ t.faults = s.faults
      ∧ (∀ j : CoreId, j ≠ k → t.core j = s.core j))
  ∧ (∀ (k : CoreId) (h : Pre) (f : XForm) (i : Instr) (o : XBin) (s : State), (i, o) ∈ [(.div k h f, .div), (.divu k h f, .divu), (.rem k h f, .rem), (.remu k h f, .remu)] →
      s.sole k h (.xbin o f) →
      (s.core k).dzt = true →
      s.source k h (widthBits h.width) f.srcs.2 = 0 →
      (s.core k).inflight = [] →
    gives (i) s fun t => t.raisedAt (201 + k.val) = true
      ∧ (t.core k).running = false
      ∧ (t.core k).flagTrap = true
      ∧ (t.core k).trapAddr = (s.core k).pc
      ∧ (t.core k).traps = satIncr (s.core k).traps
      ∧ (t.core k).a = (s.core k).a
      ∧ (t.core k).data = (s.core k).data
      ∧ (t.core k).rstack = (s.core k).rstack
      ∧ t.shared = s.shared
      ∧ t.ports = s.ports
      ∧ t.store = s.store
      ∧ (∀ j : CoreId, j ≠ k → t.core j = s.core j))
  ∧ (∀ (k : CoreId) (h : Pre) (f : XForm) (s : State), (s.core k).running = true →
      (s.core k).bundle = [] →
      (s.core k).rep = none →
      (s.core k).cycles < 1875 →
      (∀ j : CoreId, (s.core j).waiting = false) →
      (s.core k).inflight = [] →
      badBundle [⟨h, .xbin .add f⟩] = true →
    gives (.add k h f) s fun t => t.raisedAt (201 + k.val) = true
      ∧ (t.core k).running = false
      ∧ (t.core k).flagTrap = true
      ∧ (t.core k).trapAddr = (s.core k).pc
      ∧ (t.core k).a = (s.core k).a
      ∧ (t.core k).data = (s.core k).data
      ∧ t.shared = s.shared
      ∧ (∀ j : CoreId, j ≠ k → t.core j = s.core j))
  ∧ (∀ (k : CoreId) (h : Pre) (f : XForm) (s : State), (s.core k).running = true →
      (s.core k).rep = none →
      (s.core k).waiting = false →
      (s.core k).cycles < 1875 →
      h.last = false →
      badBundle ((s.core k).bundle ++ [⟨h, .xbin .add f⟩]) = false →
    exec (.add k h f) s = .next (s.modCore k fun c => { c with bundle := c.bundle ++ [⟨h, .xbin .add f⟩] }))
  ∧ (∀ (k : CoreId) (h : Pre) (f : XForm) (s : State), (s.core k).running = false ∨ (s.core k).rep ≠ none ∨ (s.core k).waiting = true ∨ 1875 ≤ (s.core k).cycles →
    exec (.add k h f) s = .next (s))
  ∧ (∀ (k : CoreId) (h : Pre) (d x : Opnd) (i : Instr) (o : SOp) (es : List (Nat × Effect)) (s : State), (i, o, es) ∈ [(.set k h x, .set x, [(0, .bitv (x.bitNo s k) true)]), (.clr k h x, .clr x, [(0, .bitv (x.bitNo s k) false)]), (.inv k h x, .inv x, [(0, .bitv (x.bitNo s k) (!readBit s k (x.bitNo s k)))]), (.tset k h x, .tset x, [(0, .flags none none (some (readBit s k (x.bitNo s k))) none), (0, .bitv (x.bitNo s k) true)]), (.btst k h x, .btst x, [(0, .flags none none (some (readBit s k (x.bitNo s k))) none)]), (.bst k h x, .bst x, [(0, .bitv (x.bitNo s k) (s.core k).c)]), (.bmov k h d x, .bmov d x, [(0, .bitv (d.bitNo s k) (readBit s k (x.bitNo s k)))])] →
      s.sole k h o →
    exec (i) s = .next (s.issued k (BundleOp.len ⟨h, o⟩) (1 + s.arbWait k ⟨h, o⟩) es))
  ∧ (∀ (k : CoreId) (h : Pre) (n : BitVec 13) (s : State), s.sole k h (.set (.bit n)) →
      n.toNat < 256 →
      (s.core k).inflight = [] →
    gives (.set k h (.bit n)) s fun t => (t.core k).bits.getLsbD n.toNat = true
      ∧ (∀ m : Fin 256, m.val ≠ n.toNat → (t.core k).bits.getLsbD m.val = (s.core k).bits.getLsbD m.val)
      ∧ (t.core k).a = (s.core k).a
      ∧ (t.core k).z = (s.core k).z
      ∧ (t.core k).c = (s.core k).c
      ∧ t.shared = s.shared
      ∧ (∀ j : CoreId, j ≠ k → t.core j = s.core j))
  ∧ (∀ (k : CoreId) (h : Pre) (n : BitVec 13) (s : State), s.sole k h (.tset (.bit n)) →
      256 ≤ n.toNat →
      n.toNat < 1024 →
      (s.core k).inflight = [] →
    gives (.tset k h (.bit n)) s fun t => (t.core k).c = s.shared.getLsbD n.toNat
      ∧ t.shared.getLsbD n.toNat = true
      ∧ (t.core k).bits = (s.core k).bits
      ∧ (t.core k).z = (s.core k).z
      ∧ (t.core k).n = (s.core k).n
      ∧ (t.core k).v = (s.core k).v
      ∧ (t.core k).a = (s.core k).a
      ∧ (∀ j : CoreId, j ≠ k → t.core j = s.core j))
  ∧ (∀ (k : CoreId) (h : Pre) (n : BitVec 13) (s : State), s.sole k h (.set (.bit n)) →
      1024 ≤ n.toNat →
    exec (.set k h (.bit n)) s = .next (s.issued k (BundleOp.len ⟨h, .set (.bit n)⟩) (1 + s.arbWait k ⟨h, .set (.bit n)⟩) []))
  ∧ (∀ (k : CoreId) (h : Pre) (d x : Opnd) (i : Instr) (o : SOp) (w : Nat) (v : Nat) (s : State), (i, o, w, v) = (.mov k h d x, .mov d x, widthBits h.width, s.source k h (widthBits h.width) x) ∨ (i, o, w, v) = (.movz k h d x, .movz d x, 32, s.source k h (widthBits h.width) x) ∨ (i, o, w, v) = (.movs k h d x, .movs d x, 32, ((BitVec.ofNat (widthBits h.width) (s.source k h (widthBits h.width) x)).signExtend 32).toNat) →
      s.sole k h o →
    exec (i) s = .next (s.issued k (BundleOp.len ⟨h, o⟩) 1 (d.writeEffects s k 2 w v ++ x.stepEffects s k (widthBits h.width / 8))))
  ∧ (∀ (k : CoreId) (h : Pre) (d x : Opnd) (a : Half) (s : State), s.sole k h (.lea d x) →
      x.addr (s.core k).a 4 = some a →
    exec (.lea k h d x) s = .next (s.issued k (BundleOp.len ⟨h, .lea d x⟩) 1 (d.writeEffects s k 2 32 a.toNat)))
  ∧ (∀ (k : CoreId) (h : Pre) (x : Opnd) (s : State), s.sole k h (.push x) →
    exec (.push k h x) s = .next (s.issued k (BundleOp.len ⟨h, .push x⟩) 1 (x.stepEffects s k 4 ++ [(0, .reg 7 ((s.core k).a[(7 : Fin 8)] - 4)), (2, .mem (((s.core k).a[(7 : Fin 8)] - 4).toNat / 4 * 4) (u32 (s.source k h 32 x)))])))
  ∧ (∀ (k : CoreId) (h : Pre) (d : Opnd) (s : State), s.sole k h (.pop d) →
    exec (.pop k h d) s = .next (s.issued k (BundleOp.len ⟨h, .pop d⟩) 1 (d.writeEffects s k 2 32 (readData s k s.board.free ((s.core k).a[(7 : Fin 8)].toNat / 4 * 4) 4) ++ [(0, .reg 7 ((s.core k).a[(7 : Fin 8)] + 4))])))
  ∧ (∀ (k : CoreId) (h : Pre) (s : State), s.sole k h .nop →
    exec (.nop k h) s = .next (s.issued k (BundleOp.len ⟨h, .nop⟩) 1 []))

/-- O57: the commit points: a result due at this bundle reaches its destination when the bundle has issued and the others come one
nearer; of two writes to one location at one point the later wins; memory changes at the bytes stored and nowhere else. A repeated NOP runs
its count of iterations at a cycle each, an interruptible one as far as the frame lasts; a MOV with a count of 0 writes nothing. -/
def Obligations.SorrelCommit : Prop :=
  (∀ (k : CoreId) (h : Pre) (n : Fin 8) (u v : Half) (s : State), s.sole k h .nop →
      (s.core k).inflight = [(1, .reg n u), (1, .reg n v)] →
    gives (.nop k h) s fun t => (t.core k).a = (s.core k).a.set n v
      ∧ (t.core k).inflight = []
      ∧ (t.core k).data = (s.core k).data
      ∧ (t.core k).bits = (s.core k).bits
      ∧ t.shared = s.shared
      ∧ t.ports = s.ports
      ∧ (∀ j : CoreId, j ≠ k → t.core j = s.core j))
  ∧ (∀ (k : CoreId) (h : Pre) (e : Effect) (n : Nat) (s : State), s.sole k h .nop →
      (s.core k).inflight = [(n, e)] →
      2 ≤ n →
    gives (.nop k h) s fun t => (t.core k).inflight = [(n - 1, e)]
      ∧ (t.core k).a = (s.core k).a
      ∧ (t.core k).data = (s.core k).data
      ∧ (t.core k).bits = (s.core k).bits
      ∧ t.shared = s.shared
      ∧ t.ports = s.ports
      ∧ (∀ j : CoreId, j ≠ k → t.core j = s.core j))
  ∧ (∀ (k : CoreId) (h : Pre) (z n c v : Bool) (s : State), s.sole k h .nop →
      (s.core k).inflight = [(1, .flags (some z) (some n) (some c) (some v))] →
    gives (.nop k h) s fun t => (t.core k).z = z
      ∧ (t.core k).n = n
      ∧ (t.core k).c = c
      ∧ (t.core k).v = v
      ∧ (t.core k).a = (s.core k).a
      ∧ (t.core k).data = (s.core k).data
      ∧ (∀ j : CoreId, j ≠ k → t.core j = s.core j))
  ∧ (∀ (k : CoreId) (h : Pre) (a : Nat) (bs : List Byte) (s : State), s.sole k h .nop →
      (s.core k).inflight = [(1, .mem a bs)] →
      a < 0x8000 →
    gives (.nop k h) s fun t => (t.core k).data.readN zeroByte a bs.length = bs
      ∧ (∀ x : Nat, x < a ∨ a + bs.length ≤ x → (t.core k).data.read zeroByte x = (s.core k).data.read zeroByte x)
      ∧ (t.core k).a = (s.core k).a
      ∧ (t.core k).bits = (s.core k).bits
      ∧ t.shared = s.shared
      ∧ t.ports = s.ports
      ∧ (∀ j : CoreId, j ≠ k → t.core j = s.core j))
  ∧ (∀ (k : CoreId) (h : Pre) (r : RepPre) (n : Half) (s : State), s.sole k { h with rep := none } .nop →
      h.last = true →
      h.rep = some r →
      r.count = .inl n →
      badBundle [⟨h, .nop⟩] = false →
      1 ≤ n.toNat →
      n.toNat ≤ 1875 - (s.core k).cycles →
    exec (.nop k h) s = .next (s.issued k (BundleOp.len ⟨h, .nop⟩) n.toNat []))
  ∧ (∀ (k : CoreId) (h : Pre) (r : RepPre) (d x : Opnd) (s : State), s.sole k { h with rep := none } (.mov d x) →
      h.last = true →
      h.rep = some r →
      r.count = .inl 0 →
      badBundle [⟨h, .mov d x⟩] = false →
    exec (.mov k h d x) s = .next (s.issued k (BundleOp.len ⟨h, .mov d x⟩) 1 []))
  ∧ (∀ (k : CoreId) (h : Pre) (r : RepPre) (n : Half) (s : State), s.sole k { h with rep := none } .nop →
      h.last = true →
      h.rep = some r →
      r.count = .inl n →
      r.interruptible = true →
      badBundle [⟨h, .nop⟩] = false →
      1875 - (s.core k).cycles < n.toNat →
    gives (.nop k h) s fun t => (t.core k).cycles = 1875
      ∧ (t.core k).rep.map (fun x => x.reps.map (fun e => e.2)) = some [n.toNat - (1875 - (s.core k).cycles)]
      ∧ (t.core k).pausable = true
      ∧ (t.core k).a = (s.core k).a
      ∧ (t.core k).pc = (s.core k).pc
      ∧ (t.core k).inflight = (s.core k).inflight
      ∧ t.ports = s.ports
      ∧ t.pool = s.pool
      ∧ (∀ j : CoreId, j ≠ k → t.core j = s.core j))

/-- O58: branches judge the flags, or the bit, as they stand at issue, and go on at the target after one delay bundle; LOOP counts
its register down at once; CALL pushes the address behind the delay bundle; RET goes back where the stack says. A full or an empty return
stack traps. BEATEND ends the handler with its results in place, and is illegal in the extension region. -/
def Obligations.SorrelControl : Prop :=
  (∀ (k : CoreId) (h : Pre) (x g : Opnd) (i : Instr) (o : SOp) (taken : Bool) (s : State), (i, o, taken) ∈ [(.br k h g, .branch .always g, true), (.bz k h g, .branch .z g, (s.core k).z), (.bnz k h g, .branch .nz g, !(s.core k).z), (.bc k h g, .branch .c g, (s.core k).c), (.bnc k h g, .branch .nc g, !(s.core k).c), (.bn k h g, .branch .n g, (s.core k).n), (.bnn k h g, .branch .nn g, !(s.core k).n), (.bv k h g, .branch .v g, (s.core k).v), (.bnv k h g, .branch .nv g, !(s.core k).v), (.bslt k h g, .branch .slt g, (s.core k).n != (s.core k).v), (.bsge k h g, .branch .sge g, (s.core k).n == (s.core k).v), (.bsle k h g, .branch .sle g, (s.core k).z || (s.core k).n != (s.core k).v), (.bsgt k h g, .branch .sgt g, !(s.core k).z && (s.core k).n == (s.core k).v), (.bule k h g, .branch .ule g, (s.core k).c || (s.core k).z), (.bugt k h g, .branch .ugt g, !(s.core k).c && !(s.core k).z), (.bb1 k h x g, .branchBit true x g, readBit s k (x.bitNo s k)), (.bb0 k h x g, .branchBit false x g, !readBit s k (x.bitNo s k))] →
      s.sole k h o →
    exec (i) s = .next ((s.issued k (BundleOp.len ⟨h, o⟩) (1 + s.arbWait k ⟨h, o⟩) (g.stepEffects s k 4)).modCore k fun c => { c with delay := if taken then some (targetOf s k s.board.free h g, false) else none }))
  ∧ (∀ (k : CoreId) (h : Pre) (r : Fin 8) (g : Opnd) (s : State), s.sole k h (.loop (.reg r) g) →
    exec (.loop k h (.reg r) g) s = .next ((s.issued k (BundleOp.len ⟨h, .loop (.reg r) g⟩) 1 ((0, .reg r ((s.core k).a[r] - 1)) :: g.stepEffects s k 4)).modCore k fun c => { c with delay := if (s.core k).a[r] = 1 then none else some (targetOf s k s.board.free h g, false) }))
  ∧ (∀ (k : CoreId) (h : Pre) (g : Opnd) (s : State), s.sole k h (.call g) →
      (s.core k).rstack.length < 32 →
    exec (.call k h g) s = .next ((s.issued k (BundleOp.len ⟨h, .call g⟩) 1 (g.stepEffects s k 4)).modCore k fun c => { c with delay := some (targetOf s k s.board.free h g, true) }))
  ∧ (∀ (k : CoreId) (h : Pre) (a : Half) (as : List Half) (s : State), s.sole k h .ret →
      (s.core k).rstack = a :: as →
    exec (.ret k h) s = .next ((s.issued k (BundleOp.len ⟨h, .ret⟩) 1 []).modCore k fun c => { c with delay := some (a, false), rstack := as, inExt := (s.core k).inExt && !((s.core k).rstack.length == (s.core k).extDepth + 1), dzt := (s.core k).dzt && !((s.core k).inExt && (s.core k).rstack.length == (s.core k).extDepth + 1) }))
  ∧ (∀ (k : CoreId) (h : Pre) (g : Opnd) (i : Instr) (o : SOp) (s : State), (i = .ret k h ∧ o = .ret ∧ (s.core k).rstack = []) ∨ (i = .call k h g ∧ o = .call g ∧ 32 ≤ (s.core k).rstack.length) ∨ (i = .beatend k h ∧ o = .beatend ∧ 0xE000 ≤ (s.core k).pc.toNat) →
      s.sole k h o →
      (s.core k).inflight = [] →
    gives (i) s fun t => t.raisedAt (201 + k.val) = true
      ∧ (t.core k).running = false
      ∧ (t.core k).flagTrap = true
      ∧ (t.core k).trapAddr = (s.core k).pc
      ∧ (t.core k).a = (s.core k).a
      ∧ (t.core k).rstack = (s.core k).rstack
      ∧ (t.core k).data = (s.core k).data
      ∧ (∀ j : CoreId, j ≠ k → t.core j = s.core j))
  ∧ (∀ (k : CoreId) (h : Pre) (n : Fin 8) (v : Half) (s : State), s.sole k h .beatend →
      (s.core k).pc.toNat < 0xE000 →
      (s.core k).inflight = [(2, .reg n v)] →
    gives (.beatend k h) s fun t => (t.core k).running = false
      ∧ (t.core k).flagOverrun = false
      ∧ (t.core k).a = (s.core k).a.set n v
      ∧ (t.core k).inflight = []
      ∧ (t.core k).worst = max (s.core k).worst ((s.core k).cycles + 1)
      ∧ (t.core k).data = (s.core k).data
      ∧ (t.core k).bits = (s.core k).bits
      ∧ t.shared = s.shared
      ∧ t.ports = s.ports
      ∧ t.pool = s.pool
      ∧ t.faults = s.faults
      ∧ (∀ j : CoreId, j ≠ k → t.core j = s.core j))
  ∧ (∀ (k : CoreId) (h : Pre) (a : Half) (call : Bool) (s : State), s.sole k h .nop →
      (s.core k).delay = some (a, call) →
      (s.core k).inflight = [] →
    gives (.nop k h) s fun t => (t.core k).pc = a
      ∧ (t.core k).delay = none
      ∧ (t.core k).rstack = (if call then ((s.core k).pc + BitVec.ofNat 16 (BundleOp.len ⟨h, .nop⟩)) :: (s.core k).rstack else (s.core k).rstack)
      ∧ (t.core k).a = (s.core k).a
      ∧ (t.core k).data = (s.core k).data)

/-! ### Sorrel queue operations (R479) -/

/-- O59: QOPEN opens a packet where the core is a producer and the queue has room, waits while another producer holds one, and is
refused otherwise; QPUSH and QEND append to the core's own open packet, QEND closes it; QABORT drops it; QPOP delivers the length word, then
the data words, with P where the packet is poisoned or its pool CRC differs; a word that fails parity raises POOL_PARITY, and a link word that does
quarantines the queue. A queue above 127, a role not permitted or a pool without a cell is refused. -/
def Obligations.SorrelQueues : Prop :=
  (∀ (k : CoreId) (h : Pre) (x : Opnd) (q : QueueId) (r : Nat) (s : State), s.sole k h (.qopen x) →
      s.source k h 32 x = q.val →
      mayPush k.val q.val = true →
      (s.pool.queues[q]).opened = none →
      s.pool.draw q 0 1 = some r →
    gives (.qopen k h x) s fun t => (t.pool.queues[q]).opened = some ⟨.core k, { mkPacket s.pool .none [] with res := r }⟩
      ∧ (t.pool.queues[q]).closed = (s.pool.queues[q]).closed
      ∧ t.cores = (s.issued k (BundleOp.len ⟨h, .qopen x⟩) 1 (x.stepEffects s k 4 ++ [(2, .flags (some false) (some false) (some false) (some false))])).cores
      ∧ (∀ j : QueueId, j ≠ q → t.pool.queues[j] = s.pool.queues[j])
      ∧ t.faults = s.faults
      ∧ t.store = s.store)
  ∧ (∀ (k : CoreId) (h : Pre) (x : Opnd) (q : QueueId) (s : State), s.sole k h (.qopen x) →
      s.source k h 32 x = q.val →
      mayPush k.val q.val = true →
      (s.pool.queues[q]).openBy k = true →
    exec (.qopen k h x) s = .next (s.issued k (BundleOp.len ⟨h, .qopen x⟩) 1 (x.stepEffects s k 4 ++ [(2, .flags (some false) (some false) (some true) (some false))])))
  ∧ (∀ (k : CoreId) (h : Pre) (x : Opnd) (q : QueueId) (s : State), s.sole k h (.qopen x) →
      s.source k h 32 x = q.val →
      mayPush k.val q.val = true →
      (s.pool.queues[q]).opened = none →
      s.pool.draw q 0 1 = none →
    exec (.qopen k h x) s = .next ((s.modPool fun m => m.refuseFor q 1).issued k (BundleOp.len ⟨h, .qopen x⟩) 1 (x.stepEffects s k 4 ++ [(2, .flags (some false) (some false) (some true) (some false))])))
  ∧ (∀ (k : CoreId) (h : Pre) (x : Opnd) (s : State), s.sole k h (.qopen x) →
      128 ≤ s.source k h 32 x →
    exec (.qopen k h x) s = .next (s.issued k (BundleOp.len ⟨h, .qopen x⟩) 1 (x.stepEffects s k 4 ++ [(2, .flags (some false) (some false) (some true) (some false))])))
  ∧ (∀ (k : CoreId) (h : Pre) (x : Opnd) (q : QueueId) (s : State), s.sole k h (.qopen x) →
      s.source k h 32 x = q.val →
      mayPush k.val q.val = false →
    exec (.qopen k h x) s = .next ((s.modPool fun m => m.refuse q).issued k (BundleOp.len ⟨h, .qopen x⟩) 1 (x.stepEffects s k 4 ++ [(2, .flags (some false) (some false) (some true) (some false))])))
  ∧ (∀ (k : CoreId) (h : Pre) (x : Opnd) (q : QueueId) (s : State), s.sole k h (.qopen x) →
      s.source k h 32 x = q.val →
      mayPush k.val q.val = true →
      (s.pool.queues[q]).opened.isSome = true →
      (s.pool.queues[q]).openBy k = false →
    exec (.qopen k h x) s = .next (s.modCore k fun c => { c with bundle := [⟨h, .qopen x⟩], waiting := true }))
  ∧ (∀ (k : CoreId) (h : Pre) (x y : Opnd) (q : QueueId) (o : OpenPacket) (s : State), s.sole k h (.qpush x y) →
      s.source k h 32 x = q.val →
      mayPush k.val q.val = true →
      (s.pool.queues[q]).opened = some o →
      o.owner = .core k →
      o.packet.data.length ≤ 4100 →
      cellsFor (o.packet.data.length + 4) - cellsFor o.packet.data.length = 0 ∨ (s.pool.draw q o.packet.res (cellsFor (o.packet.data.length + 4) - cellsFor o.packet.data.length)).isSome = true →
    gives (.qpush k h x y) s fun t => (t.pool.queues[q]).opened.map (fun p => p.packet.data) = some (o.packet.data ++ u32 (s.source k h 32 y))
      ∧ (t.pool.queues[q]).closed = (s.pool.queues[q]).closed
      ∧ t.cores = (s.issued k (BundleOp.len ⟨h, .qpush x y⟩) 1 (s.stepping k 4 [x, y] ++ [(2, .flags (some false) (some false) (some false) (some false)), (2, .qport q true 0)])).cores
      ∧ (∀ r : QueueId, r ≠ q → t.pool.queues[r] = s.pool.queues[r])
      ∧ t.faults = s.faults)
  ∧ (∀ (k : CoreId) (h : Pre) (x y : Opnd) (q : QueueId) (o : OpenPacket) (s : State), s.sole k h (.qpush x y) →
      s.source k h 32 x = q.val →
      mayPush k.val q.val = true →
      (s.pool.queues[q]).opened = some o →
      o.owner = .core k →
      4100 < o.packet.data.length ∨ (0 < cellsFor (o.packet.data.length + 4) - cellsFor o.packet.data.length ∧ s.pool.draw q o.packet.res (cellsFor (o.packet.data.length + 4) - cellsFor o.packet.data.length) = none) →
    gives (.qpush k h x y) s fun t => (t.pool.queues[q]).opened = none
      ∧ (t.pool.queues[q]).refused = true
      ∧ (t.pool.queues[q]).closed = (s.pool.queues[q]).closed ++ (s.pool.queues[q]).waiting
      ∧ t.cores = (s.issued k (BundleOp.len ⟨h, .qpush x y⟩) 1 (s.stepping k 4 [x, y] ++ [(2, .flags (some false) (some false) (some true) (some false)), (2, .qport q true 1)])).cores
      ∧ (∀ r : QueueId, r ≠ q → t.pool.queues[r] = s.pool.queues[r])
      ∧ t.faults = s.faults)
  ∧ (∀ (k : CoreId) (h : Pre) (x y n : Opnd) (q : QueueId) (i : Instr) (op : SOp) (s : State), (i, op) = (.qpush k h x y, .qpush x y) ∨ (i, op) = (.qend k h x y n, .qend x y n) →
      s.sole k h op →
      s.source k h 32 x = q.val →
      mayPush k.val q.val = true →
      (s.pool.queues[q]).openBy k = false →
    exec (i) s = .next (s.issued k (BundleOp.len ⟨h, op⟩) 1 (s.stepping k 4 op.sources ++ [(2, .flags (some false) (some false) (some true) (some false)), (2, .qport q true 1)])))
  ∧ (∀ (k : CoreId) (h : Pre) (x y n : Opnd) (q : QueueId) (o : OpenPacket) (bs : List Byte) (s : State), s.sole k h (.qend x y n) →
      s.source k h 32 x = q.val →
      mayPush k.val q.val = true →
      (s.pool.queues[q]).opened = some o →
      o.owner = .core k →
      (s.pool.queues[q]).discardOpen = false →
      bs = (u32 (s.source k h 32 y)).take (if s.source k h 32 n % 4 = 0 then 4 else s.source k h 32 n % 4) →
      o.packet.data.length + bs.length ≤ 4104 →
      cellsFor (o.packet.data.length + bs.length) - cellsFor o.packet.data.length = 0 ∨ (s.pool.draw q o.packet.res (cellsFor (o.packet.data.length + bs.length) - cellsFor o.packet.data.length)).isSome = true →
    gives (.qend k h x y n) s fun t => (t.pool.queues[q]).closed.map Packet.data = (s.pool.queues[q]).closed.map Packet.data ++ [o.packet.data ++ bs] ++ (s.pool.queues[q]).waiting.map Packet.data
      ∧ (t.pool.queues[q]).opened = none
      ∧ t.cores = (s.issued k (BundleOp.len ⟨h, .qend x y n⟩) 1 (s.stepping k 4 [x, y, n] ++ [(2, .flags (some false) (some false) (some false) (some false)), (2, .qport q true 0)])).cores
      ∧ (∀ r : QueueId, r ≠ q → t.pool.queues[r] = s.pool.queues[r])
      ∧ t.faults = s.faults)
  ∧ (∀ (k : CoreId) (h : Pre) (x : Opnd) (q : QueueId) (s : State), s.sole k h (.qabort x) →
      s.source k h 32 x = q.val →
    gives (.qabort k h x) s fun t => (t.pool.queues[q]).opened = (if (s.pool.queues[q]).openBy k then none else (s.pool.queues[q]).opened)
      ∧ (t.pool.queues[q]).closed = (s.pool.queues[q]).closed ++ (if (s.pool.queues[q]).openBy k then (s.pool.queues[q]).waiting else [])
      ∧ t.cores = (s.issued k (BundleOp.len ⟨h, .qabort x⟩) 1 (x.stepEffects s k 4 ++ [(2, .flags (some false) (some false) (some false) (some false))])).cores
      ∧ (∀ r : QueueId, r ≠ q → t.pool.queues[r] = s.pool.queues[r])
      ∧ t.faults = s.faults)
  ∧ (∀ (k : CoreId) (h : Pre) (d x : Opnd) (q : QueueId) (p : Packet) (ps : List Packet) (s : State), s.sole k h (.qpop d x .sound) →
      s.source k h 32 x = q.val →
      mayPop k.val q.val = true →
      (s.pool.queues[q]).quarantine = false →
      (s.pool.queues[q]).flush = none →
      (s.pool.queues[q]).closed = p :: ps →
      (s.pool.queues[q]).popped = 0 →
    gives (.qpop k h d x .sound) s fun t => (t.pool.queues[q]).popped = 1
      ∧ (t.pool.queues[q]).closed = (s.pool.queues[q]).closed
      ∧ t.cores = (s.issued k (BundleOp.len ⟨h, .qpop d x .sound⟩) 1 (d.writeEffects s k 2 32 (p.data.length + p.data.length % 4 * 2 ^ 13 + bw p.poison 16) ++ x.stepEffects s k 4 ++ [(2, .flags (some false) (some false) (some false) (some p.poison)), (2, .qport q false (1 + bw p.poison 1))])).cores
      ∧ (∀ r : QueueId, r ≠ q → t.pool.queues[r] = s.pool.queues[r])
      ∧ t.faults = s.faults)
  ∧ (∀ (k : CoreId) (h : Pre) (d x : Opnd) (q : QueueId) (p : Packet) (ps : List Packet) (s : State), s.sole k h (.qpop d x .sound) →
      s.source k h 32 x = q.val →
      mayPop k.val q.val = true →
      (s.pool.queues[q]).quarantine = false →
      (s.pool.queues[q]).closed = p :: ps →
      (s.pool.queues[q]).popped = (p.data.length + 3) / 4 →
      0 < (s.pool.queues[q]).popped →
      p.flaw = .sound →
    gives (.qpop k h d x .sound) s fun t => (t.pool.queues[q]).closed = ps
      ∧ (t.pool.queues[q]).popped = 0
      ∧ t.cores = (s.issued k (BundleOp.len ⟨h, .qpop d x .sound⟩) 1 (d.writeEffects s k 2 32 (rdNat p.data (4 * ((s.pool.queues[q]).popped - 1)) 4) ++ x.stepEffects s k 4 ++ [(2, .flags (some false) (some false) (some true) (some p.poison)), (2, .qport q false (5 + bw p.poison 1 + p.data.length % 4 * 8))])).cores
      ∧ (∀ r : QueueId, r ≠ q → t.pool.queues[r] = s.pool.queues[r])
      ∧ t.faults = s.faults)
  ∧ (∀ (k : CoreId) (h : Pre) (d x : Opnd) (q : QueueId) (p : Packet) (ps : List Packet) (o : CellObs) (s : State), s.sole k h (.qpop d x o) →
      s.source k h 32 x = q.val →
      mayPop k.val q.val = true →
      (s.pool.queues[q]).quarantine = false →
      (s.pool.queues[q]).closed = p :: ps →
      (s.pool.queues[q]).popped = (p.data.length + 3) / 4 →
      0 < (s.pool.queues[q]).popped →
      o = .crc ∨ (o = .sound ∧ p.flaw = .crc) →
    gives (.qpop k h d x o) s fun t => (t.pool.queues[q]).closed = ps
      ∧ (t.pool.queues[q]).popped = 0
      ∧ t.cores = (s.issued k (BundleOp.len ⟨h, .qpop d x o⟩) 1 (d.writeEffects s k 2 32 (rdNat p.data (4 * ((s.pool.queues[q]).popped - 1)) 4) ++ x.stepEffects s k 4 ++ [(2, .flags (some false) (some false) (some true) (some true)), (2, .qport q false (5 + 2 + p.data.length % 4 * 8))])).cores
      ∧ (∀ r : QueueId, r ≠ q → t.pool.queues[r] = s.pool.queues[r])
      ∧ t.faults = s.faults)
  ∧ (∀ (k : CoreId) (h : Pre) (d x : Opnd) (q : QueueId) (p : Packet) (ps : List Packet) (s : State), s.sole k h (.qpop d x .parity) →
      s.source k h 32 x = q.val →
      mayPop k.val q.val = true →
      (s.pool.queues[q]).quarantine = false →
      (s.pool.queues[q]).flush = none →
      (s.pool.queues[q]).closed = p :: ps →
      (s.pool.queues[q]).popped = 0 →
    gives (.qpop k h d x .parity) s fun t => t.raisedAt 211 = true
      ∧ (t.pool.queues[q]).popped = 1
      ∧ (t.pool.queues[q]).closed.map Packet.poison = true :: ps.map Packet.poison
      ∧ t.store = s.store
      ∧ (∀ j : CoreId, j ≠ k → t.core j = s.core j))
  ∧ (∀ (k : CoreId) (h : Pre) (d x : Opnd) (q : QueueId) (p : Packet) (ps : List Packet) (s : State), s.sole k h (.qpop d x .link) →
      s.source k h 32 x = q.val →
      mayPop k.val q.val = true →
      (s.pool.queues[q]).quarantine = false →
      (s.pool.queues[q]).flush = none →
      (s.pool.queues[q]).closed = p :: ps →
      (s.pool.queues[q]).popped = 0 →
    gives (.qpop k h d x .link) s fun t => t.raisedAt 211 = true
      ∧ (t.pool.queues[q]).quarantine = true
      ∧ (t.pool.queues[q]).scanAt = s.now
      ∧ (t.pool.queues[q]).opened = none
      ∧ t.store = s.store
      ∧ (∀ j : CoreId, j ≠ k → t.core j = s.core j))

/-- O60: a pop that finds no visible packet delivers the idle item and changes no queue: data 0, V, P, L and BC 0; an open packet
is not visible (R433, R479). -/
def Obligations.SorrelIdleItem : Prop :=
  (∀ (k : CoreId) (h : Pre) (d x : Opnd) (q : QueueId) (obs : CellObs) (s : State), s.sole k h (.qpop d x obs) →
      s.source k h 32 x = q.val →
      (s.pool.queues[q]).closed = [] ∨ (s.pool.queues[q]).quarantine = true ∨ mayPop k.val q.val = false ∨ ((s.pool.queues[q]).flush.isSome = true ∧ (s.pool.queues[q]).popped = 0) →
    exec (.qpop k h d x obs) s = .next (s.issued k (BundleOp.len ⟨h, .qpop d x obs⟩) 1 (d.writeEffects s k 2 32 0 ++ x.stepEffects s k 4 ++ [(2, .flags (some true) (some false) (some false) (some false)), (2, .qport q false 0)])))
end

