-- ==== Sys2Proof/Laws/State.lean ====
section
/-! SUPPORT. One lemma per field and per update of State: what each named update leaves and what it writes. -/

namespace Sys2Proof.Machine

variable (s : State)

@[simp] theorem State.modBoard_board (f : Board → Board) : (s.modBoard f).board = f s.board := rfl
@[simp] theorem State.modBoard_dev (f : Board → Board) : (s.modBoard f).dev = s.dev := rfl
@[simp] theorem State.modBoard_ports (f : Board → Board) : (s.modBoard f).ports = s.ports := rfl
@[simp] theorem State.modBoard_clusters (f : Board → Board) : (s.modBoard f).clusters = s.clusters := rfl
@[simp] theorem State.modBoard_cores (f : Board → Board) : (s.modBoard f).cores = s.cores := rfl
@[simp] theorem State.modBoard_shared (f : Board → Board) : (s.modBoard f).shared = s.shared := rfl
@[simp] theorem State.modBoard_pool (f : Board → Board) : (s.modBoard f).pool = s.pool := rfl
@[simp] theorem State.modBoard_host (f : Board → Board) : (s.modBoard f).host = s.host := rfl
@[simp] theorem State.modBoard_faults (f : Board → Board) : (s.modBoard f).faults = s.faults := rfl
@[simp] theorem State.modBoard_feed (f : Board → Board) : (s.modBoard f).feed = s.feed := rfl
@[simp] theorem State.modBoard_budget (f : Board → Board) : (s.modBoard f).budget = s.budget := rfl
@[simp] theorem State.modBoard_yarrow (f : Board → Board) : (s.modBoard f).yarrow = s.yarrow := rfl
@[simp] theorem State.modBoard_policy (f : Board → Board) : (s.modBoard f).policy = s.policy := rfl
@[simp] theorem State.modBoard_store (f : Board → Board) : (s.modBoard f).store = s.store := rfl
@[simp] theorem State.modBoard_svc (f : Board → Board) : (s.modBoard f).svc = s.svc := rfl
@[simp] theorem State.modBoard_pending (f : Board → Board) : (s.modBoard f).pending = s.pending := rfl

@[simp] theorem State.modDev_board (f : Dev → Dev) : (s.modDev f).board = s.board := rfl
@[simp] theorem State.modDev_dev (f : Dev → Dev) : (s.modDev f).dev = f s.dev := rfl
@[simp] theorem State.modDev_ports (f : Dev → Dev) : (s.modDev f).ports = s.ports := rfl
@[simp] theorem State.modDev_clusters (f : Dev → Dev) : (s.modDev f).clusters = s.clusters := rfl
@[simp] theorem State.modDev_cores (f : Dev → Dev) : (s.modDev f).cores = s.cores := rfl
@[simp] theorem State.modDev_shared (f : Dev → Dev) : (s.modDev f).shared = s.shared := rfl
@[simp] theorem State.modDev_pool (f : Dev → Dev) : (s.modDev f).pool = s.pool := rfl
@[simp] theorem State.modDev_host (f : Dev → Dev) : (s.modDev f).host = s.host := rfl
@[simp] theorem State.modDev_faults (f : Dev → Dev) : (s.modDev f).faults = s.faults := rfl
@[simp] theorem State.modDev_feed (f : Dev → Dev) : (s.modDev f).feed = s.feed := rfl
@[simp] theorem State.modDev_budget (f : Dev → Dev) : (s.modDev f).budget = s.budget := rfl
@[simp] theorem State.modDev_yarrow (f : Dev → Dev) : (s.modDev f).yarrow = s.yarrow := rfl
@[simp] theorem State.modDev_policy (f : Dev → Dev) : (s.modDev f).policy = s.policy := rfl
@[simp] theorem State.modDev_store (f : Dev → Dev) : (s.modDev f).store = s.store := rfl
@[simp] theorem State.modDev_svc (f : Dev → Dev) : (s.modDev f).svc = s.svc := rfl
@[simp] theorem State.modDev_pending (f : Dev → Dev) : (s.modDev f).pending = s.pending := rfl

@[simp] theorem State.modPool_board (f : Pool → Pool) : (s.modPool f).board = s.board := rfl
@[simp] theorem State.modPool_dev (f : Pool → Pool) : (s.modPool f).dev = s.dev := rfl
@[simp] theorem State.modPool_ports (f : Pool → Pool) : (s.modPool f).ports = s.ports := rfl
@[simp] theorem State.modPool_clusters (f : Pool → Pool) : (s.modPool f).clusters = s.clusters := rfl
@[simp] theorem State.modPool_cores (f : Pool → Pool) : (s.modPool f).cores = s.cores := rfl
@[simp] theorem State.modPool_shared (f : Pool → Pool) : (s.modPool f).shared = s.shared := rfl
@[simp] theorem State.modPool_pool (f : Pool → Pool) : (s.modPool f).pool = f s.pool := rfl
@[simp] theorem State.modPool_host (f : Pool → Pool) : (s.modPool f).host = s.host := rfl
@[simp] theorem State.modPool_faults (f : Pool → Pool) : (s.modPool f).faults = s.faults := rfl
@[simp] theorem State.modPool_feed (f : Pool → Pool) : (s.modPool f).feed = s.feed := rfl
@[simp] theorem State.modPool_budget (f : Pool → Pool) : (s.modPool f).budget = s.budget := rfl
@[simp] theorem State.modPool_yarrow (f : Pool → Pool) : (s.modPool f).yarrow = s.yarrow := rfl
@[simp] theorem State.modPool_policy (f : Pool → Pool) : (s.modPool f).policy = s.policy := rfl
@[simp] theorem State.modPool_store (f : Pool → Pool) : (s.modPool f).store = s.store := rfl
@[simp] theorem State.modPool_svc (f : Pool → Pool) : (s.modPool f).svc = s.svc := rfl
@[simp] theorem State.modPool_pending (f : Pool → Pool) : (s.modPool f).pending = s.pending := rfl

@[simp] theorem State.modHost_board (f : HostPort → HostPort) : (s.modHost f).board = s.board := rfl
@[simp] theorem State.modHost_dev (f : HostPort → HostPort) : (s.modHost f).dev = s.dev := rfl
@[simp] theorem State.modHost_ports (f : HostPort → HostPort) : (s.modHost f).ports = s.ports := rfl
@[simp] theorem State.modHost_clusters (f : HostPort → HostPort) : (s.modHost f).clusters = s.clusters := rfl
@[simp] theorem State.modHost_cores (f : HostPort → HostPort) : (s.modHost f).cores = s.cores := rfl
@[simp] theorem State.modHost_shared (f : HostPort → HostPort) : (s.modHost f).shared = s.shared := rfl
@[simp] theorem State.modHost_pool (f : HostPort → HostPort) : (s.modHost f).pool = s.pool := rfl
@[simp] theorem State.modHost_host (f : HostPort → HostPort) : (s.modHost f).host = f s.host := rfl
@[simp] theorem State.modHost_faults (f : HostPort → HostPort) : (s.modHost f).faults = s.faults := rfl
@[simp] theorem State.modHost_feed (f : HostPort → HostPort) : (s.modHost f).feed = s.feed := rfl
@[simp] theorem State.modHost_budget (f : HostPort → HostPort) : (s.modHost f).budget = s.budget := rfl
@[simp] theorem State.modHost_yarrow (f : HostPort → HostPort) : (s.modHost f).yarrow = s.yarrow := rfl
@[simp] theorem State.modHost_policy (f : HostPort → HostPort) : (s.modHost f).policy = s.policy := rfl
@[simp] theorem State.modHost_store (f : HostPort → HostPort) : (s.modHost f).store = s.store := rfl
@[simp] theorem State.modHost_svc (f : HostPort → HostPort) : (s.modHost f).svc = s.svc := rfl
@[simp] theorem State.modHost_pending (f : HostPort → HostPort) : (s.modHost f).pending = s.pending := rfl

@[simp] theorem State.modFaults_board (f : Faults → Faults) : (s.modFaults f).board = s.board := rfl
@[simp] theorem State.modFaults_dev (f : Faults → Faults) : (s.modFaults f).dev = s.dev := rfl
@[simp] theorem State.modFaults_ports (f : Faults → Faults) : (s.modFaults f).ports = s.ports := rfl
@[simp] theorem State.modFaults_clusters (f : Faults → Faults) : (s.modFaults f).clusters = s.clusters := rfl
@[simp] theorem State.modFaults_cores (f : Faults → Faults) : (s.modFaults f).cores = s.cores := rfl
@[simp] theorem State.modFaults_shared (f : Faults → Faults) : (s.modFaults f).shared = s.shared := rfl
@[simp] theorem State.modFaults_pool (f : Faults → Faults) : (s.modFaults f).pool = s.pool := rfl
@[simp] theorem State.modFaults_host (f : Faults → Faults) : (s.modFaults f).host = s.host := rfl
@[simp] theorem State.modFaults_faults (f : Faults → Faults) : (s.modFaults f).faults = f s.faults := rfl
@[simp] theorem State.modFaults_feed (f : Faults → Faults) : (s.modFaults f).feed = s.feed := rfl
@[simp] theorem State.modFaults_budget (f : Faults → Faults) : (s.modFaults f).budget = s.budget := rfl
@[simp] theorem State.modFaults_yarrow (f : Faults → Faults) : (s.modFaults f).yarrow = s.yarrow := rfl
@[simp] theorem State.modFaults_policy (f : Faults → Faults) : (s.modFaults f).policy = s.policy := rfl
@[simp] theorem State.modFaults_store (f : Faults → Faults) : (s.modFaults f).store = s.store := rfl
@[simp] theorem State.modFaults_svc (f : Faults → Faults) : (s.modFaults f).svc = s.svc := rfl
@[simp] theorem State.modFaults_pending (f : Faults → Faults) : (s.modFaults f).pending = s.pending := rfl

@[simp] theorem State.modFeed_board (f : FeedDie → FeedDie) : (s.modFeed f).board = s.board := rfl
@[simp] theorem State.modFeed_dev (f : FeedDie → FeedDie) : (s.modFeed f).dev = s.dev := rfl
@[simp] theorem State.modFeed_ports (f : FeedDie → FeedDie) : (s.modFeed f).ports = s.ports := rfl
@[simp] theorem State.modFeed_clusters (f : FeedDie → FeedDie) : (s.modFeed f).clusters = s.clusters := rfl
@[simp] theorem State.modFeed_cores (f : FeedDie → FeedDie) : (s.modFeed f).cores = s.cores := rfl
@[simp] theorem State.modFeed_shared (f : FeedDie → FeedDie) : (s.modFeed f).shared = s.shared := rfl
@[simp] theorem State.modFeed_pool (f : FeedDie → FeedDie) : (s.modFeed f).pool = s.pool := rfl
@[simp] theorem State.modFeed_host (f : FeedDie → FeedDie) : (s.modFeed f).host = s.host := rfl
@[simp] theorem State.modFeed_faults (f : FeedDie → FeedDie) : (s.modFeed f).faults = s.faults := rfl
@[simp] theorem State.modFeed_feed (f : FeedDie → FeedDie) : (s.modFeed f).feed = f s.feed := rfl
@[simp] theorem State.modFeed_budget (f : FeedDie → FeedDie) : (s.modFeed f).budget = s.budget := rfl
@[simp] theorem State.modFeed_yarrow (f : FeedDie → FeedDie) : (s.modFeed f).yarrow = s.yarrow := rfl
@[simp] theorem State.modFeed_policy (f : FeedDie → FeedDie) : (s.modFeed f).policy = s.policy := rfl
@[simp] theorem State.modFeed_store (f : FeedDie → FeedDie) : (s.modFeed f).store = s.store := rfl
@[simp] theorem State.modFeed_svc (f : FeedDie → FeedDie) : (s.modFeed f).svc = s.svc := rfl
@[simp] theorem State.modFeed_pending (f : FeedDie → FeedDie) : (s.modFeed f).pending = s.pending := rfl

@[simp] theorem State.modBudget_board (f : Budget → Budget) : (s.modBudget f).board = s.board := rfl
@[simp] theorem State.modBudget_dev (f : Budget → Budget) : (s.modBudget f).dev = s.dev := rfl
@[simp] theorem State.modBudget_ports (f : Budget → Budget) : (s.modBudget f).ports = s.ports := rfl
@[simp] theorem State.modBudget_clusters (f : Budget → Budget) : (s.modBudget f).clusters = s.clusters := rfl
@[simp] theorem State.modBudget_cores (f : Budget → Budget) : (s.modBudget f).cores = s.cores := rfl
@[simp] theorem State.modBudget_shared (f : Budget → Budget) : (s.modBudget f).shared = s.shared := rfl
@[simp] theorem State.modBudget_pool (f : Budget → Budget) : (s.modBudget f).pool = s.pool := rfl
@[simp] theorem State.modBudget_host (f : Budget → Budget) : (s.modBudget f).host = s.host := rfl
@[simp] theorem State.modBudget_faults (f : Budget → Budget) : (s.modBudget f).faults = s.faults := rfl
@[simp] theorem State.modBudget_feed (f : Budget → Budget) : (s.modBudget f).feed = s.feed := rfl
@[simp] theorem State.modBudget_budget (f : Budget → Budget) : (s.modBudget f).budget = f s.budget := rfl
@[simp] theorem State.modBudget_yarrow (f : Budget → Budget) : (s.modBudget f).yarrow = s.yarrow := rfl
@[simp] theorem State.modBudget_policy (f : Budget → Budget) : (s.modBudget f).policy = s.policy := rfl
@[simp] theorem State.modBudget_store (f : Budget → Budget) : (s.modBudget f).store = s.store := rfl
@[simp] theorem State.modBudget_svc (f : Budget → Budget) : (s.modBudget f).svc = s.svc := rfl
@[simp] theorem State.modBudget_pending (f : Budget → Budget) : (s.modBudget f).pending = s.pending := rfl

@[simp] theorem State.modYarrow_board (f : Yarrow → Yarrow) : (s.modYarrow f).board = s.board := rfl
@[simp] theorem State.modYarrow_dev (f : Yarrow → Yarrow) : (s.modYarrow f).dev = s.dev := rfl
@[simp] theorem State.modYarrow_ports (f : Yarrow → Yarrow) : (s.modYarrow f).ports = s.ports := rfl
@[simp] theorem State.modYarrow_clusters (f : Yarrow → Yarrow) : (s.modYarrow f).clusters = s.clusters := rfl
@[simp] theorem State.modYarrow_cores (f : Yarrow → Yarrow) : (s.modYarrow f).cores = s.cores := rfl
@[simp] theorem State.modYarrow_shared (f : Yarrow → Yarrow) : (s.modYarrow f).shared = s.shared := rfl
@[simp] theorem State.modYarrow_pool (f : Yarrow → Yarrow) : (s.modYarrow f).pool = s.pool := rfl
@[simp] theorem State.modYarrow_host (f : Yarrow → Yarrow) : (s.modYarrow f).host = s.host := rfl
@[simp] theorem State.modYarrow_faults (f : Yarrow → Yarrow) : (s.modYarrow f).faults = s.faults := rfl
@[simp] theorem State.modYarrow_feed (f : Yarrow → Yarrow) : (s.modYarrow f).feed = s.feed := rfl
@[simp] theorem State.modYarrow_budget (f : Yarrow → Yarrow) : (s.modYarrow f).budget = s.budget := rfl
@[simp] theorem State.modYarrow_yarrow (f : Yarrow → Yarrow) : (s.modYarrow f).yarrow = f s.yarrow := rfl
@[simp] theorem State.modYarrow_policy (f : Yarrow → Yarrow) : (s.modYarrow f).policy = s.policy := rfl
@[simp] theorem State.modYarrow_store (f : Yarrow → Yarrow) : (s.modYarrow f).store = s.store := rfl
@[simp] theorem State.modYarrow_svc (f : Yarrow → Yarrow) : (s.modYarrow f).svc = s.svc := rfl
@[simp] theorem State.modYarrow_pending (f : Yarrow → Yarrow) : (s.modYarrow f).pending = s.pending := rfl

@[simp] theorem State.modPolicy_board (f : Policy → Policy) : (s.modPolicy f).board = s.board := rfl
@[simp] theorem State.modPolicy_dev (f : Policy → Policy) : (s.modPolicy f).dev = s.dev := rfl
@[simp] theorem State.modPolicy_ports (f : Policy → Policy) : (s.modPolicy f).ports = s.ports := rfl
@[simp] theorem State.modPolicy_clusters (f : Policy → Policy) : (s.modPolicy f).clusters = s.clusters := rfl
@[simp] theorem State.modPolicy_cores (f : Policy → Policy) : (s.modPolicy f).cores = s.cores := rfl
@[simp] theorem State.modPolicy_shared (f : Policy → Policy) : (s.modPolicy f).shared = s.shared := rfl
@[simp] theorem State.modPolicy_pool (f : Policy → Policy) : (s.modPolicy f).pool = s.pool := rfl
@[simp] theorem State.modPolicy_host (f : Policy → Policy) : (s.modPolicy f).host = s.host := rfl
@[simp] theorem State.modPolicy_faults (f : Policy → Policy) : (s.modPolicy f).faults = s.faults := rfl
@[simp] theorem State.modPolicy_feed (f : Policy → Policy) : (s.modPolicy f).feed = s.feed := rfl
@[simp] theorem State.modPolicy_budget (f : Policy → Policy) : (s.modPolicy f).budget = s.budget := rfl
@[simp] theorem State.modPolicy_yarrow (f : Policy → Policy) : (s.modPolicy f).yarrow = s.yarrow := rfl
@[simp] theorem State.modPolicy_policy (f : Policy → Policy) : (s.modPolicy f).policy = f s.policy := rfl
@[simp] theorem State.modPolicy_store (f : Policy → Policy) : (s.modPolicy f).store = s.store := rfl
@[simp] theorem State.modPolicy_svc (f : Policy → Policy) : (s.modPolicy f).svc = s.svc := rfl
@[simp] theorem State.modPolicy_pending (f : Policy → Policy) : (s.modPolicy f).pending = s.pending := rfl

@[simp] theorem State.modStore_board (f : Store → Store) : (s.modStore f).board = s.board := rfl
@[simp] theorem State.modStore_dev (f : Store → Store) : (s.modStore f).dev = s.dev := rfl
@[simp] theorem State.modStore_ports (f : Store → Store) : (s.modStore f).ports = s.ports := rfl
@[simp] theorem State.modStore_clusters (f : Store → Store) : (s.modStore f).clusters = s.clusters := rfl
@[simp] theorem State.modStore_cores (f : Store → Store) : (s.modStore f).cores = s.cores := rfl
@[simp] theorem State.modStore_shared (f : Store → Store) : (s.modStore f).shared = s.shared := rfl
@[simp] theorem State.modStore_pool (f : Store → Store) : (s.modStore f).pool = s.pool := rfl
@[simp] theorem State.modStore_host (f : Store → Store) : (s.modStore f).host = s.host := rfl
@[simp] theorem State.modStore_faults (f : Store → Store) : (s.modStore f).faults = s.faults := rfl
@[simp] theorem State.modStore_feed (f : Store → Store) : (s.modStore f).feed = s.feed := rfl
@[simp] theorem State.modStore_budget (f : Store → Store) : (s.modStore f).budget = s.budget := rfl
@[simp] theorem State.modStore_yarrow (f : Store → Store) : (s.modStore f).yarrow = s.yarrow := rfl
@[simp] theorem State.modStore_policy (f : Store → Store) : (s.modStore f).policy = s.policy := rfl
@[simp] theorem State.modStore_store (f : Store → Store) : (s.modStore f).store = f s.store := rfl
@[simp] theorem State.modStore_svc (f : Store → Store) : (s.modStore f).svc = s.svc := rfl
@[simp] theorem State.modStore_pending (f : Store → Store) : (s.modStore f).pending = s.pending := rfl

@[simp] theorem State.modSvc_board (f : Service → Service) : (s.modSvc f).board = s.board := rfl
@[simp] theorem State.modSvc_dev (f : Service → Service) : (s.modSvc f).dev = s.dev := rfl
@[simp] theorem State.modSvc_ports (f : Service → Service) : (s.modSvc f).ports = s.ports := rfl
@[simp] theorem State.modSvc_clusters (f : Service → Service) : (s.modSvc f).clusters = s.clusters := rfl
@[simp] theorem State.modSvc_cores (f : Service → Service) : (s.modSvc f).cores = s.cores := rfl
@[simp] theorem State.modSvc_shared (f : Service → Service) : (s.modSvc f).shared = s.shared := rfl
@[simp] theorem State.modSvc_pool (f : Service → Service) : (s.modSvc f).pool = s.pool := rfl
@[simp] theorem State.modSvc_host (f : Service → Service) : (s.modSvc f).host = s.host := rfl
@[simp] theorem State.modSvc_faults (f : Service → Service) : (s.modSvc f).faults = s.faults := rfl
@[simp] theorem State.modSvc_feed (f : Service → Service) : (s.modSvc f).feed = s.feed := rfl
@[simp] theorem State.modSvc_budget (f : Service → Service) : (s.modSvc f).budget = s.budget := rfl
@[simp] theorem State.modSvc_yarrow (f : Service → Service) : (s.modSvc f).yarrow = s.yarrow := rfl
@[simp] theorem State.modSvc_policy (f : Service → Service) : (s.modSvc f).policy = s.policy := rfl
@[simp] theorem State.modSvc_store (f : Service → Service) : (s.modSvc f).store = s.store := rfl
@[simp] theorem State.modSvc_svc (f : Service → Service) : (s.modSvc f).svc = f s.svc := rfl
@[simp] theorem State.modSvc_pending (f : Service → Service) : (s.modSvc f).pending = s.pending := rfl

@[simp] theorem State.modPort_board (p : PortId) (f : Port → Port) : (s.modPort p f).board = s.board := rfl
@[simp] theorem State.modPort_dev (p : PortId) (f : Port → Port) : (s.modPort p f).dev = s.dev := rfl
@[simp] theorem State.modPort_clusters (p : PortId) (f : Port → Port) : (s.modPort p f).clusters = s.clusters := rfl
@[simp] theorem State.modPort_cores (p : PortId) (f : Port → Port) : (s.modPort p f).cores = s.cores := rfl
@[simp] theorem State.modPort_shared (p : PortId) (f : Port → Port) : (s.modPort p f).shared = s.shared := rfl
@[simp] theorem State.modPort_pool (p : PortId) (f : Port → Port) : (s.modPort p f).pool = s.pool := rfl
@[simp] theorem State.modPort_host (p : PortId) (f : Port → Port) : (s.modPort p f).host = s.host := rfl
@[simp] theorem State.modPort_faults (p : PortId) (f : Port → Port) : (s.modPort p f).faults = s.faults := rfl
@[simp] theorem State.modPort_feed (p : PortId) (f : Port → Port) : (s.modPort p f).feed = s.feed := rfl
@[simp] theorem State.modPort_budget (p : PortId) (f : Port → Port) : (s.modPort p f).budget = s.budget := rfl
@[simp] theorem State.modPort_yarrow (p : PortId) (f : Port → Port) : (s.modPort p f).yarrow = s.yarrow := rfl
@[simp] theorem State.modPort_policy (p : PortId) (f : Port → Port) : (s.modPort p f).policy = s.policy := rfl
@[simp] theorem State.modPort_store (p : PortId) (f : Port → Port) : (s.modPort p f).store = s.store := rfl
@[simp] theorem State.modPort_svc (p : PortId) (f : Port → Port) : (s.modPort p f).svc = s.svc := rfl
@[simp] theorem State.modPort_pending (p : PortId) (f : Port → Port) : (s.modPort p f).pending = s.pending := rfl

@[simp] theorem State.modCluster_board (c : ClusterId) (f : Cluster → Cluster) : (s.modCluster c f).board = s.board := rfl
@[simp] theorem State.modCluster_dev (c : ClusterId) (f : Cluster → Cluster) : (s.modCluster c f).dev = s.dev := rfl
@[simp] theorem State.modCluster_ports (c : ClusterId) (f : Cluster → Cluster) : (s.modCluster c f).ports = s.ports := rfl
@[simp] theorem State.modCluster_cores (c : ClusterId) (f : Cluster → Cluster) : (s.modCluster c f).cores = s.cores := rfl
@[simp] theorem State.modCluster_shared (c : ClusterId) (f : Cluster → Cluster) : (s.modCluster c f).shared = s.shared := rfl
@[simp] theorem State.modCluster_pool (c : ClusterId) (f : Cluster → Cluster) : (s.modCluster c f).pool = s.pool := rfl
@[simp] theorem State.modCluster_host (c : ClusterId) (f : Cluster → Cluster) : (s.modCluster c f).host = s.host := rfl
@[simp] theorem State.modCluster_faults (c : ClusterId) (f : Cluster → Cluster) : (s.modCluster c f).faults = s.faults := rfl
@[simp] theorem State.modCluster_feed (c : ClusterId) (f : Cluster → Cluster) : (s.modCluster c f).feed = s.feed := rfl
@[simp] theorem State.modCluster_budget (c : ClusterId) (f : Cluster → Cluster) : (s.modCluster c f).budget = s.budget := rfl
@[simp] theorem State.modCluster_yarrow (c : ClusterId) (f : Cluster → Cluster) : (s.modCluster c f).yarrow = s.yarrow := rfl
@[simp] theorem State.modCluster_policy (c : ClusterId) (f : Cluster → Cluster) : (s.modCluster c f).policy = s.policy := rfl
@[simp] theorem State.modCluster_store (c : ClusterId) (f : Cluster → Cluster) : (s.modCluster c f).store = s.store := rfl
@[simp] theorem State.modCluster_svc (c : ClusterId) (f : Cluster → Cluster) : (s.modCluster c f).svc = s.svc := rfl
@[simp] theorem State.modCluster_pending (c : ClusterId) (f : Cluster → Cluster) : (s.modCluster c f).pending = s.pending := rfl

@[simp] theorem State.modCore_board (k : CoreId) (f : CoreSt → CoreSt) : (s.modCore k f).board = s.board := rfl
@[simp] theorem State.modCore_dev (k : CoreId) (f : CoreSt → CoreSt) : (s.modCore k f).dev = s.dev := rfl
@[simp] theorem State.modCore_ports (k : CoreId) (f : CoreSt → CoreSt) : (s.modCore k f).ports = s.ports := rfl
@[simp] theorem State.modCore_clusters (k : CoreId) (f : CoreSt → CoreSt) : (s.modCore k f).clusters = s.clusters := rfl
@[simp] theorem State.modCore_shared (k : CoreId) (f : CoreSt → CoreSt) : (s.modCore k f).shared = s.shared := rfl
@[simp] theorem State.modCore_pool (k : CoreId) (f : CoreSt → CoreSt) : (s.modCore k f).pool = s.pool := rfl
@[simp] theorem State.modCore_host (k : CoreId) (f : CoreSt → CoreSt) : (s.modCore k f).host = s.host := rfl
@[simp] theorem State.modCore_faults (k : CoreId) (f : CoreSt → CoreSt) : (s.modCore k f).faults = s.faults := rfl
@[simp] theorem State.modCore_feed (k : CoreId) (f : CoreSt → CoreSt) : (s.modCore k f).feed = s.feed := rfl
@[simp] theorem State.modCore_budget (k : CoreId) (f : CoreSt → CoreSt) : (s.modCore k f).budget = s.budget := rfl
@[simp] theorem State.modCore_yarrow (k : CoreId) (f : CoreSt → CoreSt) : (s.modCore k f).yarrow = s.yarrow := rfl
@[simp] theorem State.modCore_policy (k : CoreId) (f : CoreSt → CoreSt) : (s.modCore k f).policy = s.policy := rfl
@[simp] theorem State.modCore_store (k : CoreId) (f : CoreSt → CoreSt) : (s.modCore k f).store = s.store := rfl
@[simp] theorem State.modCore_svc (k : CoreId) (f : CoreSt → CoreSt) : (s.modCore k f).svc = s.svc := rfl
@[simp] theorem State.modCore_pending (k : CoreId) (f : CoreSt → CoreSt) : (s.modCore k f).pending = s.pending := rfl

@[simp] theorem State.updPort_board (p : PortId) (f : Port → Port) : (s.updPort p f).board = s.board := rfl
@[simp] theorem State.updPort_clusters (p : PortId) (f : Port → Port) : (s.updPort p f).clusters = s.clusters := rfl
@[simp] theorem State.updPort_cores (p : PortId) (f : Port → Port) : (s.updPort p f).cores = s.cores := rfl
@[simp] theorem State.updPort_shared (p : PortId) (f : Port → Port) : (s.updPort p f).shared = s.shared := rfl
@[simp] theorem State.updPort_host (p : PortId) (f : Port → Port) : (s.updPort p f).host = s.host := rfl
@[simp] theorem State.updPort_faults (p : PortId) (f : Port → Port) : (s.updPort p f).faults = s.faults := rfl
@[simp] theorem State.updPort_feed (p : PortId) (f : Port → Port) : (s.updPort p f).feed = s.feed := rfl
@[simp] theorem State.updPort_yarrow (p : PortId) (f : Port → Port) : (s.updPort p f).yarrow = s.yarrow := rfl
@[simp] theorem State.updPort_policy (p : PortId) (f : Port → Port) : (s.updPort p f).policy = s.policy := rfl
@[simp] theorem State.updPort_store (p : PortId) (f : Port → Port) : (s.updPort p f).store = s.store := rfl
@[simp] theorem State.updPort_svc (p : PortId) (f : Port → Port) : (s.updPort p f).svc = s.svc := rfl
@[simp] theorem State.updPort_pending (p : PortId) (f : Port → Port) : (s.updPort p f).pending = s.pending := rfl

@[simp] theorem State.port_modPort (p : PortId) (f : Port → Port) : (s.modPort p f).port p = f (s.port p) := by
  simp [State.modPort, State.port]

@[simp] theorem State.port_modPort_ne {p q : PortId} (h : q ≠ p) (f : Port → Port) : (s.modPort p f).port q = s.port q := by
  have h' : p.val ≠ q.val := fun e => h (Fin.ext e.symm)
  simp [State.modPort, State.port, Vector.getElem_set_ne, h']

@[simp] theorem State.cluster_modCluster (c : ClusterId) (f : Cluster → Cluster) : (s.modCluster c f).cluster c = f (s.cluster c) := by
  simp [State.modCluster, State.cluster]

theorem State.cluster_modCluster_ne {c d : ClusterId} (h : d ≠ c) (f : Cluster → Cluster) :
    (s.modCluster c f).cluster d = s.cluster d := by
  have h' : c.val ≠ d.val := fun e => h (Fin.ext e.symm)
  simp [State.modCluster, State.cluster, Vector.getElem_set_ne, h']

@[simp] theorem State.core_modCore (k : CoreId) (f : CoreSt → CoreSt) : (s.modCore k f).core k = f (s.core k) := by
  simp [State.modCore, State.core]

theorem State.core_modCore_ne {j k : CoreId} (h : j ≠ k) (f : CoreSt → CoreSt) : (s.modCore k f).core j = s.core j := by
  have h' : k.val ≠ j.val := fun e => h (Fin.ext e.symm)
  simp [State.modCore, State.core, Vector.getElem_set_ne, h']

/-- A port update reaches every field of the port; only the grant may also follow a floor (R315, R316), and with it the level of the
Rp presented (R113). -/
theorem State.port_updPort (p : PortId) (f : Port → Port) :
    (s.updPort p f).port p = f (s.port p) ∨ ∃ g, (s.updPort p f).port p = ({ f (s.port p) with grant := g }).refreshRp := by
  unfold State.updPort State.port
  simp only [Fin.getElem_fin, Vector.getElem_set_self]
  split
  · exact .inr ⟨_, rfl⟩
  · exact .inl rfl

@[simp] theorem State.updPort_port_cfg (p : PortId) (f : Port → Port) : ((s.updPort p f).port p).cfg = (f (s.port p)).cfg := by
  obtain h | ⟨g, h⟩ := s.port_updPort p f
  · rw [h]
  · rw [h]; rfl
@[simp] theorem State.updPort_port_tc_st (p : PortId) (f : Port → Port) : ((s.updPort p f).port p).tc.st = (f (s.port p)).tc.st := by
  obtain h | ⟨g, h⟩ := s.port_updPort p f
  · rw [h]
  · rw [h]; rfl
@[simp] theorem State.updPort_port_tc_orient (p : PortId) (f : Port → Port) : ((s.updPort p f).port p).tc.orient = (f (s.port p)).tc.orient := by
  obtain h | ⟨g, h⟩ := s.port_updPort p f
  · rw [h]
  · rw [h]; rfl
@[simp] theorem State.updPort_port_tc_stBeat (p : PortId) (f : Port → Port) : ((s.updPort p f).port p).tc.stBeat = (f (s.port p)).tc.stBeat := by
  obtain h | ⟨g, h⟩ := s.port_updPort p f
  · rw [h]
  · rw [h]; rfl
@[simp] theorem State.updPort_port_tc_rdCheck (p : PortId) (f : Port → Port) : ((s.updPort p f).port p).tc.rdCheck = (f (s.port p)).tc.rdCheck := by
  obtain h | ⟨g, h⟩ := s.port_updPort p f
  · rw [h]
  · rw [h]; rfl
@[simp] theorem State.updPort_port_timers (p : PortId) (f : Port → Port) : ((s.updPort p f).port p).timers = (f (s.port p)).timers := by
  obtain h | ⟨g, h⟩ := s.port_updPort p f
  · rw [h]
  · rw [h]; rfl
@[simp] theorem State.updPort_port_harn (p : PortId) (f : Port → Port) : ((s.updPort p f).port p).harn = (f (s.port p)).harn := by
  obtain h | ⟨g, h⟩ := s.port_updPort p f
  · rw [h]
  · rw [h]; rfl
@[simp] theorem State.updPort_port_moist (p : PortId) (f : Port → Port) : ((s.updPort p f).port p).moist = (f (s.port p)).moist := by
  obtain h | ⟨g, h⟩ := s.port_updPort p f
  · rw [h]
  · rw [h]; rfl
@[simp] theorem State.updPort_port_phy (p : PortId) (f : Port → Port) : ((s.updPort p f).port p).phy = (f (s.port p)).phy := by
  obtain h | ⟨g, h⟩ := s.port_updPort p f
  · rw [h]
  · rw [h]; rfl
@[simp] theorem State.updPort_port_ctx (p : PortId) (f : Port → Port) : ((s.updPort p f).port p).ctx = (f (s.port p)).ctx := by
  obtain h | ⟨g, h⟩ := s.port_updPort p f
  · rw [h]
  · rw [h]; rfl
@[simp] theorem State.updPort_port_pd (p : PortId) (f : Port → Port) : ((s.updPort p f).port p).pd = (f (s.port p)).pd := by
  obtain h | ⟨g, h⟩ := s.port_updPort p f
  · rw [h]
  · rw [h]; rfl
@[simp] theorem State.updPort_port_stage (p : PortId) (f : Port → Port) : ((s.updPort p f).port p).stage = (f (s.port p)).stage := by
  obtain h | ⟨g, h⟩ := s.port_updPort p f
  · rw [h]
  · rw [h]; rfl
@[simp] theorem State.updPort_port_guard (p : PortId) (f : Port → Port) : ((s.updPort p f).port p).guard = (f (s.port p)).guard := by
  obtain h | ⟨g, h⟩ := s.port_updPort p f
  · rw [h]
  · rw [h]; rfl

@[simp] theorem State.port_updPort_ne {p q : PortId} (h : q ≠ p) (f : Port → Port) : (s.updPort p f).port q = s.port q := by
  have h' : p.val ≠ q.val := fun e => h (Fin.ext e.symm)
  simp [State.updPort, State.port, Vector.getElem_set_ne, h']

@[simp] theorem State.port_modBoard (f : Board → Board) (p : PortId) : (s.modBoard f).port p = s.port p := rfl
@[simp] theorem State.cluster_modBoard (f : Board → Board) (c : ClusterId) : (s.modBoard f).cluster c = s.cluster c := rfl
@[simp] theorem State.core_modBoard (f : Board → Board) (k : CoreId) : (s.modBoard f).core k = s.core k := rfl
@[simp] theorem State.port_modDev (f : Dev → Dev) (p : PortId) : (s.modDev f).port p = s.port p := rfl
@[simp] theorem State.cluster_modDev (f : Dev → Dev) (c : ClusterId) : (s.modDev f).cluster c = s.cluster c := rfl
@[simp] theorem State.core_modDev (f : Dev → Dev) (k : CoreId) : (s.modDev f).core k = s.core k := rfl
@[simp] theorem State.port_modPool (f : Pool → Pool) (p : PortId) : (s.modPool f).port p = s.port p := rfl
@[simp] theorem State.cluster_modPool (f : Pool → Pool) (c : ClusterId) : (s.modPool f).cluster c = s.cluster c := rfl
@[simp] theorem State.core_modPool (f : Pool → Pool) (k : CoreId) : (s.modPool f).core k = s.core k := rfl
@[simp] theorem State.port_modHost (f : HostPort → HostPort) (p : PortId) : (s.modHost f).port p = s.port p := rfl
@[simp] theorem State.cluster_modHost (f : HostPort → HostPort) (c : ClusterId) : (s.modHost f).cluster c = s.cluster c := rfl
@[simp] theorem State.core_modHost (f : HostPort → HostPort) (k : CoreId) : (s.modHost f).core k = s.core k := rfl
@[simp] theorem State.port_modFaults (f : Faults → Faults) (p : PortId) : (s.modFaults f).port p = s.port p := rfl
@[simp] theorem State.cluster_modFaults (f : Faults → Faults) (c : ClusterId) : (s.modFaults f).cluster c = s.cluster c := rfl
@[simp] theorem State.core_modFaults (f : Faults → Faults) (k : CoreId) : (s.modFaults f).core k = s.core k := rfl
@[simp] theorem State.port_modFeed (f : FeedDie → FeedDie) (p : PortId) : (s.modFeed f).port p = s.port p := rfl
@[simp] theorem State.cluster_modFeed (f : FeedDie → FeedDie) (c : ClusterId) : (s.modFeed f).cluster c = s.cluster c := rfl
@[simp] theorem State.core_modFeed (f : FeedDie → FeedDie) (k : CoreId) : (s.modFeed f).core k = s.core k := rfl
@[simp] theorem State.port_modBudget (f : Budget → Budget) (p : PortId) : (s.modBudget f).port p = s.port p := rfl
@[simp] theorem State.cluster_modBudget (f : Budget → Budget) (c : ClusterId) : (s.modBudget f).cluster c = s.cluster c := rfl
@[simp] theorem State.core_modBudget (f : Budget → Budget) (k : CoreId) : (s.modBudget f).core k = s.core k := rfl
@[simp] theorem State.port_modYarrow (f : Yarrow → Yarrow) (p : PortId) : (s.modYarrow f).port p = s.port p := rfl
@[simp] theorem State.cluster_modYarrow (f : Yarrow → Yarrow) (c : ClusterId) : (s.modYarrow f).cluster c = s.cluster c := rfl
@[simp] theorem State.core_modYarrow (f : Yarrow → Yarrow) (k : CoreId) : (s.modYarrow f).core k = s.core k := rfl
@[simp] theorem State.port_modPolicy (f : Policy → Policy) (p : PortId) : (s.modPolicy f).port p = s.port p := rfl
@[simp] theorem State.cluster_modPolicy (f : Policy → Policy) (c : ClusterId) : (s.modPolicy f).cluster c = s.cluster c := rfl
@[simp] theorem State.core_modPolicy (f : Policy → Policy) (k : CoreId) : (s.modPolicy f).core k = s.core k := rfl
@[simp] theorem State.port_modStore (f : Store → Store) (p : PortId) : (s.modStore f).port p = s.port p := rfl
@[simp] theorem State.cluster_modStore (f : Store → Store) (c : ClusterId) : (s.modStore f).cluster c = s.cluster c := rfl
@[simp] theorem State.core_modStore (f : Store → Store) (k : CoreId) : (s.modStore f).core k = s.core k := rfl
@[simp] theorem State.port_modSvc (f : Service → Service) (p : PortId) : (s.modSvc f).port p = s.port p := rfl
@[simp] theorem State.cluster_modSvc (f : Service → Service) (c : ClusterId) : (s.modSvc f).cluster c = s.cluster c := rfl
@[simp] theorem State.core_modSvc (f : Service → Service) (k : CoreId) : (s.modSvc f).core k = s.core k := rfl

@[simp] theorem State.cluster_modPort (p : PortId) (f : Port → Port) (j : ClusterId) : (s.modPort p f).cluster j = s.cluster j := rfl
@[simp] theorem State.core_modPort (p : PortId) (f : Port → Port) (j : CoreId) : (s.modPort p f).core j = s.core j := rfl
@[simp] theorem State.port_modCluster (c : ClusterId) (f : Cluster → Cluster) (j : PortId) : (s.modCluster c f).port j = s.port j := rfl
@[simp] theorem State.core_modCluster (c : ClusterId) (f : Cluster → Cluster) (j : CoreId) : (s.modCluster c f).core j = s.core j := rfl
@[simp] theorem State.port_modCore (k : CoreId) (f : CoreSt → CoreSt) (j : PortId) : (s.modCore k f).port j = s.port j := rfl
@[simp] theorem State.cluster_modCore (k : CoreId) (f : CoreSt → CoreSt) (j : ClusterId) : (s.modCore k f).cluster j = s.cluster j := rfl
@[simp] theorem State.cluster_updPort (p : PortId) (f : Port → Port) (j : ClusterId) : (s.updPort p f).cluster j = s.cluster j := rfl
@[simp] theorem State.core_updPort (p : PortId) (f : Port → Port) (j : CoreId) : (s.updPort p f).core j = s.core j := rfl

end Sys2Proof.Machine
end

