-- ==== Sys2Proof/Laws/Frame.lean ====
section
/-! SUPPORT. What the shared operations of the ports leave alone: the Sorrel cores and their bits, the feed guard die, the
Yarrow link, the image store and the command queue. One lemma per operation. -/

namespace Sys2Proof.Machine

/-- The board without the counter of free values and the waiting reset. -/
def Board.still (b : Board) : Board := { b with free := 0, resetReq := none }

/-- The device parameters without NOT_READY_ANY. -/
def Dev.still (d : Dev) : Dev := { d with notReadyAny := false }

/-- What no operation of a port touches. -/
def State.rest (s : State) :=
  (s.cores, s.shared, s.feed, s.yarrow, s.store, s.pending, s.board.still, s.dev.still, s.policy.classes)

@[simp] theorem rest_mk (b d p c k sh po h f fe bu y pol st sv pe) :
    State.rest (State.mk b d p c k sh po h f fe bu y pol st sv pe) = (k, sh, fe, y, st, pe, b.still, d.still, pol.classes) := rfl

@[simp] theorem rest_fold (s : State) :
    (s.cores, s.shared, s.feed, s.yarrow, s.store, s.pending, s.board.still, s.dev.still, s.policy.classes) = s.rest := rfl

@[simp] theorem State.still_updPort (s : State) (p : PortId) (f : Port → Port) : (s.updPort p f).dev.still = s.dev.still := rfl

@[simp] theorem State.modPolicy_rest (s : State) (f : Policy → Policy) : (s.modPolicy f).rest
    = (s.cores, s.shared, s.feed, s.yarrow, s.store, s.pending, s.board.still, s.dev.still, (f s.policy).classes) := rfl

theorem Board.still_replyRead (b : Board) (st : Stream) (k : Packet) : (b.replyRead st k).still = b.still := by
  rfl

theorem foldl_rest {α} (f : State → α → State) (h : ∀ t a, (f t a).rest = t.rest) : ∀ (l : List α) (s : State), (l.foldl f s).rest = s.rest
  | [], _ => rfl
  | a :: l, s => by rw [List.foldl_cons, foldl_rest f h l, h]

@[simp] theorem State.modPort_rest (s : State) (p : PortId) (f : Port → Port) : (State.modPort s p f).rest = s.rest := rfl
@[simp] theorem State.modCluster_rest (s : State) (c : ClusterId) (f : Cluster → Cluster) : (State.modCluster s c f).rest = s.rest := rfl
@[simp] theorem State.mapPorts_rest (s : State) (f : PortId → Port → Port) : (State.mapPorts s f).rest = s.rest := by
  unfold State.mapPorts State.rest; rfl
@[simp] theorem State.modPool_rest (s : State) (f : Pool → Pool) : (State.modPool s f).rest = s.rest := rfl
@[simp] theorem State.modHost_rest (s : State) (f : HostPort → HostPort) : (State.modHost s f).rest = s.rest := rfl
@[simp] theorem State.modFaults_rest (s : State) (f : Faults → Faults) : (State.modFaults s f).rest = s.rest := rfl
@[simp] theorem State.modBudget_rest (s : State) (f : Budget → Budget) : (State.modBudget s f).rest = s.rest := rfl
@[simp] theorem State.modSvc_rest (s : State) (f : Service → Service) : (State.modSvc s f).rest = s.rest := rfl
@[simp] theorem State.drawn_rest (s : State) : (State.drawn s).rest = s.rest := rfl
@[simp] theorem State.send_rest (s : State) (code : Nat) (port : Nat) (data : List Byte) : (State.send s code port data).rest = s.rest := rfl
@[simp] theorem State.await_rest (s : State) (code : Nat) (port : Nat) (data : List Byte) : (State.await s code port data).rest = s.rest := rfl
@[simp] theorem State.post_rest (s : State) (code : Nat) (port : Nat) (data : List Byte) : (State.post s code port data).rest = s.rest := by
  unfold State.post; split <;> rfl
@[simp] theorem State.completeNow_rest (s : State) (st : Stream) (opc : Nat) (event : List Byte) : (State.completeNow s st opc event).rest = s.rest := rfl
@[simp] theorem State.answerLater_rest (s : State) (st : Stream) (opc port : Nat) (event : List Byte) : (State.answerLater s st opc port event).rest = s.rest := by
  unfold State.answerLater; dsimp only; split <;> rfl
@[simp] theorem State.complete_rest (s : State) (st : Stream) (opc : Nat) (tag : Nat) (status : Nat) (tgt : Nat) (port : Nat) (result : List Byte) : (State.complete s st opc tag status tgt port result).rest = s.rest := by
  unfold State.complete; dsimp only; split
  · exact State.answerLater_rest ..
  · rfl
@[simp] theorem State.updPort_rest (s : State) (p : PortId) (f : Port → Port) : (State.updPort s p f).rest = s.rest := rfl
@[simp] theorem State.withdraw_rest (s : State) (p : PortId) : (State.withdraw s p).rest = s.rest := by
  have h := foldl_rest (fun (t : State) (d : Decision) => t.post 0xC3 p.val (closedPayload d.id d.point 3 0xFF s.board.beat))
    (fun _ _ => by simp) (s.policy.decisions.filter (fun d => d.port == p)) s
  simp only [State.rest, Prod.mk.injEq] at h
  simp only [State.withdraw, State.rest, h]
@[simp] theorem State.endSwapReq_rest (s : State) (p : PortId) (status : Nat) (result : Nat) : (State.endSwapReq s p status result).rest = s.rest := by
  simp only [State.endSwapReq]; (repeat' split) <;> simp
@[simp] theorem State.endSend_rest (s : State) (p : PortId) (status : Nat) (tx : Nat) (resp : Nat) (data : List Byte) : (State.endSend s p status tx resp data).rest = s.rest := by
  simp only [State.endSend]; (repeat' split) <;> simp
@[simp] theorem State.endSoft_rest (s : State) (p : PortId) (status : Nat) (tx : Nat) (acc : Nat) : (State.endSoft s p status tx acc).rest = s.rest := by
  simp only [State.endSoft]; (repeat' split) <;> simp
@[simp] theorem State.endVdm_rest (s : State) (p : PortId) (status : Nat) (result : Nat) (reply : List Byte) : (State.endVdm s p status result reply).rest = s.rest := by
  simp only [State.endVdm]; (repeat' split) <;> simp
@[simp] theorem State.endWork_rest (s : State) (p : PortId) (status : Nat) (swapRes : Nat) : (State.endWork s p status swapRes).rest = s.rest := by
  simp [State.endWork]
@[simp] theorem State.svcLeave_rest (s : State) (p : PortId) : (State.svcLeave s p).rest = s.rest := by
  simp only [State.svcLeave]; (repeat' split) <;> simp
@[simp] theorem State.dropPort_rest (s : State) (p : PortId) (status : Nat) (swapRes : Nat) (f : Port → Port) : (State.dropPort s p status swapRes f).rest = s.rest := by
  simp [State.dropPort]
@[simp] theorem State.quiescePort_rest (s : State) (kind : Safe) (p : PortId) : (State.quiescePort s kind p).rest = s.rest := by
  simp only [State.quiescePort]; (repeat' split) <;> simp
@[simp] theorem State.holdDevice_rest (s : State) : (State.holdDevice s).rest = s.rest := rfl
@[simp] theorem State.react_rest (s : State) (sev : Nat) (src : Nat) : (State.react s sev src).rest = s.rest := by
  unfold State.react
  split
  · exact foldl_rest _ (fun _ _ => by simp) _ _
  · split
    · rw [State.holdDevice_rest]; exact foldl_rest _ (fun _ _ => by simp) _ _
    · rfl
@[simp] theorem State.reactAgain_rest (s : State) (sev : Nat) (o : Option Nat) : (s.reactAgain sev o).rest = s.rest := by
  cases o <;> simp [State.reactAgain]
@[simp] theorem State.noteCause_rest (s : State) (r : Raise) : (State.noteCause s r).rest = s.rest := by
  simp only [State.noteCause]; (repeat' split) <;> simp
@[simp] theorem State.faultEvent_rest (s : State) (r : Raise) (f : FaultRec) (sev : Nat) : (State.faultEvent s r f sev).rest = s.rest := by
  simp only [State.faultEvent]; (repeat' split) <;> simp
@[simp] theorem State.raiseOne_rest (s : State) (named : Bool) (r : Raise) : (State.raiseOne s named r).rest = s.rest := by
  simp only [State.raiseOne]; (repeat' split) <;> simp
@[simp] theorem raiseList_rest : ∀ (rs : List Raise) (s : State) (o : Option Nat), (raiseList s o rs).rest = s.rest
  | [], _, _ => rfl
  | r :: rs, s, o => by rw [raiseList, raiseList_rest rs]; simp

@[simp] theorem State.raiseAll_rest (s : State) (rs : List Raise) : (State.raiseAll s rs).rest = s.rest := by
  simp [State.raiseAll]
@[simp] theorem State.raise_rest (s : State) (r : Raise) : (State.raise s r).rest = s.rest := by
  simp [State.raise]
@[simp] theorem State.raisePort_rest (s : State) (p : PortId) (code : Nat) (detail : Nat) : (State.raisePort s p code detail).rest = s.rest := by
  simp [State.raisePort]
@[simp] theorem State.tripAct_rest (s : State) (p : PortId) : (State.tripAct s p).rest = s.rest := by
  simp [State.tripAct]
@[simp] theorem State.quarantine_rest (s : State) (q : QueueId) : (State.quarantine s q).rest = s.rest := by
  simp [State.quarantine]
@[simp] theorem State.found_rest (s : State) (q : QueueId) (o : CellObs) : (State.found s q o).rest = s.rest := by
  cases o <;> simp [State.found]
@[simp] theorem State.tripPort_rest (s : State) (p : PortId) (code : Nat) : (State.tripPort s p code).rest = s.rest := by
  simp [State.tripPort]
@[simp] theorem State.gateFail_rest (s : State) (p : PortId) : (State.gateFail s p).rest = s.rest := by
  simp [State.gateFail]
@[simp] theorem State.errorRecovery_rest (s : State) (p : PortId) (swapRes : Nat) : (State.errorRecovery s p swapRes).rest = s.rest := by
  simp [State.errorRecovery]
@[simp] theorem State.releaseSen_rest (s : State) (c : ClusterId) : (State.releaseSen s c).rest = s.rest := by
  simp only [State.releaseSen]; (repeat' split) <;> simp
@[simp] theorem State.dischargeStep_rest (s : State) (p : PortId) : (State.dischargeStep s p).rest = s.rest := by
  simp only [State.dischargeStep]; (repeat' split) <;> simp
@[simp] theorem State.claimSampler_rest (s : State) (p : PortId) : (State.claimSampler s p).rest = s.rest := by
  simp only [State.claimSampler]; (repeat' split) <;> simp
@[simp] theorem State.startEnabled_rest (s : State) (p : PortId) : (State.startEnabled s p).rest = s.rest := by
  simp only [State.startEnabled]; (repeat' split) <;> simp
@[simp] theorem State.guardAct_rest (s : State) (p : PortId) : (State.guardAct s p).rest = s.rest := by
  simp only [State.guardAct]; split <;> simp
@[simp] theorem State.guardTrip_rest (s : State) (p : PortId) (code : Nat) : (State.guardTrip s p code).rest = s.rest := by
  simp [State.guardTrip]
@[simp] theorem State.moistEvents_rest (s : State) (p : PortId) (v : Verdict) (k z : List Nat) (o : List Int) : (State.moistEvents s p v k z o).rest = s.rest := by
  simp only [State.moistEvents]; (repeat' split) <;> simp
@[simp] theorem State.recheckEnd_rest (s : State) (p : PortId) (v : Verdict) (c : Bool) : (State.recheckEnd s p v c).rest = s.rest := by
  simp only [State.recheckEnd]; (repeat' split) <;> simp
@[simp] theorem State.afterSweep_rest (s : State) (p : PortId) (v : Verdict) (k z : List Nat) (o : List Int) : (State.afterSweep s p v k z o).rest = s.rest := by
  simp only [State.afterSweep]; (repeat' split) <;> simp
@[simp] theorem State.loadFlight_rest (s : State) (p : PortId) : (State.loadFlight s p).rest = s.rest := by
  simp only [State.loadFlight]; (repeat' split) <;> simp
@[simp] theorem State.queueTx_rest (s : State) (p : PortId) (t : Tgt) (why : Purpose) (bytes : List Byte) : (State.queueTx s p t why bytes).rest = s.rest := by
  simp only [State.queueTx]; (repeat' split) <;> simp
@[simp] theorem State.retryHeld_rest (s : State) (p : PortId) : (State.retryHeld s p).rest = s.rest := by
  simp only [State.retryHeld]; (repeat' split) <;> simp
@[simp] theorem State.txEnd_rest (s : State) (p : PortId) (r : TxResult) : (State.txEnd s p r).rest = s.rest := by
  simp only [State.txEnd]; (repeat' split) <;> simp
@[simp] theorem State.killTx_rest (s : State) (p : PortId) (only : Tgt → Bool) (r : TxResult) : (State.killTx s p only r).rest = s.rest := by
  simp only [State.killTx]; (repeat' split) <;> simp
@[simp] theorem State.dropStale_rest (s : State) (p : PortId) : (State.dropStale s p).rest = s.rest := by
  unfold State.dropStale; dsimp only; split
  · rfl
  · rw [foldl_rest _ (fun _ _ => by simp)]; simp
@[simp] theorem State.rxTake_rest (s : State) (p : PortId) (m : RxMsg) : (State.rxTake s p m).rest = s.rest := rfl
@[simp] theorem State.reply_rest (s : State) (p : PortId) (why : Purpose) (bytes : List Byte) : (State.reply s p why bytes).rest = s.rest := by
  simp [State.reply]
@[simp] theorem State.sendExt_rest (s : State) (p : PortId) (t : Tgt) (why : Purpose) (type : Nat) (data : List Byte) : (State.sendExt s p t why type data).rest = s.rest := by
  simp [State.sendExt]
@[simp] theorem State.sendCaps_rest (s : State) (p : PortId) : (State.sendCaps s p).rest = s.rest := by
  simp only [State.sendCaps]; (repeat' split) <;> simp
@[simp] theorem State.launch_rest (s : State) (p : PortId) : (State.launch s p).rest = s.rest := by
  simp only [State.launch]; (repeat' split) <;> simp
@[simp] theorem State.beginAms_rest (s : State) (p : PortId) (t : Tgt) (why : Purpose) (bytes : List Byte) : (State.beginAms s p t why bytes).rest = s.rest := by
  simp only [State.beginAms]; (repeat' split) <;> simp
@[simp] theorem State.endVdmOn_rest (s : State) (p : PortId) (only : Tgt → Bool) : (State.endVdmOn s p only).rest = s.rest := by
  simp only [State.endVdmOn]; (repeat' split) <;> simp
@[simp] theorem State.dropPlug_rest (s : State) (p : PortId) : (State.dropPlug s p).rest = s.rest := by
  simp only [State.dropPlug]; (repeat' split) <;> simp
@[simp] theorem State.kick_rest (s : State) (p : PortId) : (State.kick s p).rest = s.rest := by
  simp only [State.kick]; (repeat' split) <;> simp
@[simp] theorem State.ownDone_rest (s : State) (p : PortId) : (State.ownDone s p).rest = s.rest := by
  simp [State.ownDone]
@[simp] theorem State.partnerDone_rest (s : State) (p : PortId) : (State.partnerDone s p).rest = s.rest := by
  simp only [State.partnerDone]; (repeat' split) <;> simp
@[simp] theorem State.amsDone_rest (s : State) (p : PortId) : (State.amsDone s p).rest = s.rest := by
  simp [State.amsDone]
@[simp] theorem State.notSupported_rest (s : State) (p : PortId) : (State.notSupported s p).rest = s.rest := by
  simp only [State.notSupported]; (repeat' split) <;> simp
@[simp] theorem State.notSupportedOn_rest (s : State) (p : PortId) (t : Tgt) : (State.notSupportedOn s p t).rest = s.rest := by
  simp only [State.notSupportedOn]; (repeat' split) <;> simp
@[simp] theorem State.discardWindow_rest (s : State) (p : PortId) : (State.discardWindow s p).rest = s.rest := by
  simp only [State.discardWindow]; (repeat' split) <;> simp
@[simp] theorem State.abortAttempt_rest (s : State) (p : PortId) : (State.abortAttempt s p).rest = s.rest := by
  simp only [State.abortAttempt]; (repeat' split) <;> simp
@[simp] theorem State.orderHr_rest (s : State) (p : PortId) : (State.orderHr s p).rest = s.rest := by
  simp only [State.orderHr]; (repeat' split) <;> simp
@[simp] theorem State.hardReset_rest (s : State) (p : PortId) (sent : Bool) : (State.hardReset s p sent).rest = s.rest := by
  simp only [State.hardReset]; (repeat' split) <;> simp
@[simp] theorem State.softQuiet_rest (s : State) (p : PortId) : (State.softQuiet s p).rest = s.rest := by
  simp only [State.softQuiet]; (repeat' split) <;> simp
@[simp] theorem State.eprFail_rest (s : State) (p : PortId) (cause : Nat) : (State.eprFail s p cause).rest = s.rest := by
  simp [State.eprFail]
@[simp] theorem State.eprCheck_rest (s : State) (p : PortId) : (State.eprCheck s p).rest = s.rest := by
  simp only [State.eprCheck]; (repeat' split) <;> simp
@[simp] theorem State.eprGo_rest (s : State) (p : PortId) : (State.eprGo s p).rest = s.rest := by
  simp only [State.eprGo]; (repeat' split) <;> simp
@[simp] theorem State.sendSoft_rest (s : State) (p : PortId) (t : Tgt) : (State.sendSoft s p t).rest = s.rest := by
  simp only [State.sendSoft]; (repeat' split) <;> simp
@[simp] theorem State.txError_rest (s : State) (p : PortId) (t : Tgt) : (State.txError s p t).rest = s.rest := by
  simp only [State.txError]; (repeat' split) <;> simp
@[simp] theorem State.unexpected_rest (s : State) (p : PortId) : (State.unexpected s p).rest = s.rest := by
  simp only [State.unexpected]; (repeat' split) <;> simp
@[simp] theorem State.armBackoff_rest (s : State) (p : PortId) : (State.armBackoff s p).rest = s.rest := rfl
@[simp] theorem State.afterSoft_rest (s : State) (p : PortId) : (State.afterSoft s p).rest = s.rest := by
  simp only [State.afterSoft]; (repeat' split) <;> simp
@[simp] theorem State.closeDefault_rest (s : State) (p : PortId) (id point dflt : Nat) : (State.closeDefault s p id point dflt).rest = s.rest := by
  simp [State.closeDefault]
@[simp] theorem State.ask_rest (s : State) (p : PortId) (point : Nat) (i : Fin 32) (eop : Beat) (obj : Word) (pdo : Word) : (State.ask s p point i eop obj pdo).1.rest = s.rest := by
  simp only [State.ask]; (repeat' split) <;> simp
@[simp] theorem State.resolve_rest (s : State) (p : PortId) (point : Nat) (a : Answer) (eop : Beat) (obj : Word) (pdo : Word) : (State.resolve s p point a eop obj pdo).1.rest = s.rest := by
  simp only [State.resolve]; (repeat' split) <;> simp
@[simp] theorem State.capsChanged_rest (s : State) : (State.capsChanged s).rest = s.rest := by
  unfold State.capsChanged State.mapPorts State.rest; rfl
theorem rest_of_eq {α : Type} {r : State × α} {t : State} {a : α} (h : r = (t, a)) : t.rest = r.1.rest := by rw [h]
@[simp] theorem State.contractMade_rest (s : State) (p : PortId) (t : Transition) : (State.contractMade s p t).rest = s.rest := by
  simp only [State.contractMade]; (repeat' split) <;> simp
@[simp] theorem State.eprOutcome_rest (s : State) (p : PortId) (oc : Nat) : (State.eprOutcome s p oc).rest = s.rest := by
  simp only [State.eprOutcome]; (repeat' split) <;> simp
@[simp] theorem State.swapDone_rest (s : State) (p : PortId) (own : Bool) : (State.swapDone s p own).rest = s.rest := by
  simp only [State.swapDone]; (repeat' split) <;> simp
@[simp] theorem State.beginSwap_rest (s : State) (p : PortId) (k : SwapKind) (own : Bool) : (State.beginSwap s p k own).rest = s.rest := by
  simp only [State.beginSwap]; (repeat' split) <;> simp
@[simp] theorem State.swapPsRdySent_rest (s : State) (p : PortId) (w : Swap) : (State.swapPsRdySent s p w).rest = s.rest := by
  simp only [State.swapPsRdySent]; (repeat' split) <;> simp
@[simp] theorem State.vconnLost_rest (s : State) (p : PortId) (oc : Bool) : (State.vconnLost s p oc).rest = s.rest := by
  simp [State.vconnLost]
@[simp] theorem State.identityGot_rest (s : State) (p : PortId) (r : List Byte) : (State.identityGot s p r).rest = s.rest := by
  simp [State.identityGot]
@[simp] theorem State.discoverOver_rest (s : State) (p : PortId) (result : Nat) (reply : List Byte) : (State.discoverOver s p result reply).rest = s.rest := by
  simp only [State.discoverOver]; (repeat' split) <;> simp
@[simp] theorem State.vdmOver_rest (s : State) (p : PortId) (result : Nat) (reply : List Byte) : (State.vdmOver s p result reply).rest = s.rest := by
  simp only [State.vdmOver]; (repeat' split) <;> simp
@[simp] theorem State.vdmSent_rest (s : State) (p : PortId) : (State.vdmSent s p).rest = s.rest := by
  simp only [State.vdmSent]; (repeat' split) <;> simp
@[simp] theorem State.vdmFailed_rest (s : State) (p : PortId) (r : TxResult) : (State.vdmFailed s p r).rest = s.rest := by
  simp only [State.vdmFailed]; (repeat' split) <;> simp
@[simp] theorem State.eprLookup_rest (s : State) (p : PortId) : (State.eprLookup s p).rest = s.rest := by
  simp only [State.eprLookup]
  split <;> rename_i h <;> have h' := rest_of_eq h <;> simp at h' <;> simp [h']
@[simp] theorem State.afterMsg_rest (s : State) (p : PortId) (t : Tgt) (why : Purpose) (r : TxResult) : (State.afterMsg s p t why r).rest = s.rest := by
  simp only [State.afterMsg]; (repeat' split) <;> simp
@[simp] theorem State.chunkOver_rest (s : State) (p : PortId) (t : Tgt) (r : TxResult) : (State.chunkOver s p t r).rest = s.rest := by
  simp only [State.chunkOver]; (repeat' split) <;> simp
@[simp] theorem State.afterTx_rest (s : State) (p : PortId) (t : Tgt) (why : Purpose) (r : TxResult) : (State.afterTx s p t why r).rest = s.rest := by
  simp only [State.afterTx]; (repeat' split) <;> simp
@[simp] theorem State.chunkDrop_rest (s : State) (p : PortId) (t : Tgt) (r : TxResult) : (State.chunkDrop s p t r).rest = s.rest := by
  simp only [State.chunkDrop]; (repeat' split) <;> simp
@[simp] theorem State.txDone_rest (s : State) (p : PortId) (t : Tgt) (why : Purpose) (r : TxResult) : (State.txDone s p t why r).rest = s.rest := by
  simp only [State.txDone]; split <;> simp
@[simp] theorem State.discardTx_rest (s : State) (p : PortId) (t : Tgt) : (State.discardTx s p t).rest = s.rest := by
  simp only [State.discardTx]; rw [foldl_rest _ (fun _ _ => by simp)]; simp
@[simp] theorem State.requestOutcome_rest (s : State) (p : PortId) (oc : Nat) : (State.requestOutcome s p oc).rest = s.rest := by
  simp only [State.requestOutcome]; (repeat' split) <;> simp
@[simp] theorem State.swapOutcome_rest (s : State) (p : PortId) (k : SwapKind) (oc : Nat) : (State.swapOutcome s p k oc).rest = s.rest := by
  simp only [State.swapOutcome]; (repeat' split) <;> simp
@[simp] theorem State.selectOutcome_rest (s : State) (p : PortId) (cls : Fin 16) (oc : Nat) (rule : Option Rule) (value : Word) : (State.selectOutcome s p cls oc rule value).rest = s.rest := by
  simp only [State.selectOutcome]; (repeat' split) <;> simp
@[simp] theorem State.act_rest (s : State) (p : PortId) (cls : Fin 16) (point : Nat) (oc : Nat) (rule : Option Rule) (value : Word) : (State.act s p cls point oc rule value).rest = s.rest := by
  simp only [State.act]; (repeat' split) <;> simp
@[simp] theorem State.decisionDefault_rest (s : State) (id : Nat) : (State.decisionDefault s id).rest = s.rest := by
  simp only [State.decisionDefault]; split <;> simp
@[simp] theorem State.atPoint_rest (s : State) (p : PortId) (point : Nat) (m : Rule → Bool) (eop : Beat) (obj : Word) (pdo : Word) : (State.atPoint s p point m eop obj pdo).rest = s.rest := by
  simp only [State.atPoint]
  split <;> rename_i h <;> have h' := rest_of_eq h <;> simp at h' <;> simp [h']
@[simp] theorem State.gotGoodCrc_rest (s : State) (p : PortId) (t : Tgt) (id : BitVec 3) : (State.gotGoodCrc s p t id).rest = s.rest := by
  simp only [State.gotGoodCrc]; (repeat' split) <;> simp
@[simp] theorem State.attemptFailed_rest (s : State) (p : PortId) : (State.attemptFailed s p).rest = s.rest := by
  simp only [State.attemptFailed]; (repeat' split) <;> simp
@[simp] theorem State.interrupt_rest (s : State) (p : PortId) (m : RxMsg) : (State.interrupt s p m).rest = s.rest := by
  simp only [State.interrupt]; (repeat' split) <;> simp
@[simp] theorem State.noteUnserved_rest (s : State) (p : PortId) (m : RxMsg) : (State.noteUnserved s p m).rest = s.rest := by
  simp only [State.noteUnserved]; split <;> simp
@[simp] theorem State.deliver_rest (s : State) (p : PortId) (t : Tgt) (w : WirePacket) (m : Pool) : (State.deliver s p t w m).rest = s.rest := by
  simp only [State.deliver]; (repeat' split) <;> simp
@[simp] theorem State.receive_rest (s : State) (p : PortId) (w : WirePacket) (t : Tgt) : (State.receive s p w t).rest = s.rest := by
  simp only [State.receive]; (repeat' split) <;> simp
@[simp] theorem State.newAms_rest (s : State) (p : PortId) : (State.newAms s p).rest = s.rest := by
  simp only [State.newAms]; (repeat' split) <;> simp
@[simp] theorem State.takeMsg_rest (s : State) (p : PortId) (m : RxMsg) : (State.takeMsg s p m).rest = s.rest := by
  simp only [State.takeMsg]; (repeat' split) <;> simp
@[simp] theorem State.sendAnswered_rest (s : State) (p : PortId) (m : RxMsg) : (State.sendAnswered s p m).rest = s.rest := by
  simp [State.sendAnswered]
@[simp] theorem State.giveCaps_rest (s : State) (p : PortId) (epr : Bool) : (State.giveCaps s p epr).rest = s.rest := by
  simp only [State.giveCaps]; (repeat' split) <;> simp
@[simp] theorem State.replyExt_rest (s : State) (p : PortId) (type : Nat) (data : List Byte) : (State.replyExt s p type data).rest = s.rest := by
  simp [State.replyExt]
@[simp] theorem State.servePlain_rest (s : State) (p : PortId) (m : RxMsg) : (State.servePlain s p m).rest = s.rest := by
  simp only [State.servePlain]; (repeat' split) <;> simp
@[simp] theorem State.noteRevision_rest (s : State) (p : PortId) (m : RxMsg) : (State.noteRevision s p m).rest = s.rest := by
  simp only [State.noteRevision]; (repeat' split) <;> simp
@[simp] theorem State.serveRows_rest (p : PortId) : ∀ (n : Nat) (s : State), (s.serveRows p n).rest = s.rest
  | 0, _ => rfl
  | n + 1, s => by
    unfold State.serveRows
    split
    · split
      · rw [State.serveRows_rest p n]; simp
      · rfl
    · rfl

@[simp] theorem State.resumeAms_rest (s : State) (p : PortId) : (State.resumeAms s p).rest = s.rest := by
  simp only [State.resumeAms]; (repeat' split) <;> simp
@[simp] theorem State.served_rest (s : State) (p : PortId) : (State.served s p).rest = s.rest := by
  simp [State.served]
@[simp] theorem State.swapRx_rest (s : State) (p : PortId) (k : SwapKind) (m : RxMsg) : (State.swapRx s p k m).rest = s.rest := by
  simp only [State.swapRx]; (repeat' split) <;> simp
@[simp] theorem State.extDone_rest (s : State) (p : PortId) (m : RxMsg) (size : Nat) (data : List Byte) : (State.extDone s p m size data).rest = s.rest := by
  simp [State.extDone]
@[simp] theorem State.noAnswer_rest (s : State) (p : PortId) : (State.noAnswer s p).rest = s.rest := by
  simp only [State.noAnswer]; (repeat' split) <;> simp
@[simp] theorem State.requestAgain_rest (s : State) (p : PortId) : (State.requestAgain s p).rest = s.rest := by
  simp [State.requestAgain]
@[simp] theorem State.recoveryFail_rest (s : State) (p : PortId) : (State.recoveryFail s p).rest = s.rest := by
  simp only [State.recoveryFail]; (repeat' split) <;> simp
@[simp] theorem State.vdmBusyGot_rest (s : State) (p : PortId) (r : VdmReq) (m : RxMsg) : (State.vdmBusyGot s p r m).rest = s.rest := by
  simp only [State.vdmBusyGot]; (repeat' split) <;> simp
@[simp] theorem State.vdmAckGot_rest (s : State) (p : PortId) (r : VdmReq) (m : RxMsg) : (State.vdmAckGot s p r m).rest = s.rest := by
  simp only [State.vdmAckGot]; (repeat' split) <;> simp
@[simp] theorem State.vdmResponse_rest (s : State) (p : PortId) (m : RxMsg) : (State.vdmResponse s p m).rest = s.rest := by
  simp only [State.vdmResponse]; (repeat' split) <;> simp
@[simp] theorem State.vdmAck_rest (s : State) (p : PortId) (w : Word) (vdos : List Word) : (State.vdmAck s p w vdos).rest = s.rest := by
  simp [State.vdmAck]
@[simp] theorem State.vdmNak_rest (s : State) (p : PortId) (w : Word) : (State.vdmNak s p w).rest = s.rest := by
  simp [State.vdmNak]
@[simp] theorem State.vdmAnswer_rest (s : State) (p : PortId) (w : Word) : (State.vdmAnswer s p w).rest = s.rest := by
  simp only [State.vdmAnswer]; (repeat' split) <;> simp
@[simp] theorem State.svcClose_rest (s : State) (data : List Byte) : (State.svcClose s data).rest = s.rest := by
  simp only [State.svcClose]; (repeat' split) <;> simp
@[simp] theorem State.svcGather_rest : ∀ (n : Nat) (s : State), (s.svcGather n).rest = s.rest
  | 0, _ => rfl
  | n + 1, s => by
    unfold State.svcGather
    dsimp only
    split
    · rfl
    · split
      · simp
      · split
        · rfl
        · split <;> rw [State.svcGather_rest n] <;> simp
@[simp] theorem State.svcSent_rest (s : State) (k : Packet) : (State.svcSent s k).rest = s.rest := by
  unfold State.svcSent
  simp only [rest_mk]
  split
  · rfl
  · rw [Board.still_replyRead]; rfl
@[simp] theorem State.svcTake_rest : ∀ (n room : Nat) (s : State), (s.svcTake room n).1.rest = s.rest
  | 0, _, _ => rfl
  | n + 1, room, s => by
    unfold State.svcTake
    dsimp only
    split
    · rfl
    · split
      · dsimp only; rw [State.svcTake_rest n]; simp
      · split
        · rfl
        · split
          · rfl
          · dsimp only; rw [State.svcTake_rest n]; simp

@[simp] theorem State.svcAck_rest (s : State) (p : PortId) (w : Word) (seq : Byte) (data : List Byte) : (State.svcAck s p w seq data).rest = s.rest := by
  simp [State.svcAck]
@[simp] theorem State.svcExchange_rest (s : State) (p : PortId) (m : RxMsg) : (State.svcExchange s p m).rest = s.rest := by
  unfold State.svcExchange
  dsimp only
  split
  · simp
  · split
    · simp
    · split <;> (try split) <;> simp

theorem State.onMsg_rest (s : State) (p : PortId) (k : MsgKind) (act : State → RxMsg → State) (h : ∀ t m, (act t m).rest = t.rest) :
    (s.onMsg p k act).rest = s.rest := by
  unfold State.onMsg
  split
  · split
    · simp [h]
    · rfl
  · simp
theorem State.vdmServed_rest (s : State) (p : PortId) (m : RxMsg) (f : State → State) (h : ∀ t, (f t).rest = t.rest) :
    (s.vdmServed p m f).rest = s.rest := by
  simp only [State.vdmServed]; (repeat' split) <;> simp [h]

end Sys2Proof.Machine
end

