-- ==== Sys2Proof/Laws/Kept.lean ====
section
/-! SUPPORT. What most operations of the block leave alone: the memories of the Sorrel cores, the flash and the command
queue. One lemma per operation. -/

namespace Sys2Proof.Machine

/-- The two memories of a core. -/
def CoreSt.mem (c : CoreSt) : Memory × Memory := (c.data, c.bundleMem)

/-- The memories of the block, the command queue, the beat counter and whether the service domain has power. -/
def State.kept (s : State) := (s.cores.map CoreSt.mem, s.store.flash, s.pending, s.board.beat, s.board.svcOn)

@[simp] theorem kept_mk (b d p c k sh po h f fe bu y pol st sv pe) :
    State.kept (State.mk b d p c k sh po h f fe bu y pol st sv pe) = (k.map CoreSt.mem, st.flash, pe, b.beat, b.svcOn) := rfl

@[simp] theorem kept_fold (s : State) : (s.cores.map CoreSt.mem, s.store.flash, s.pending, s.board.beat, s.board.svcOn) = s.kept := rfl

theorem kept_of_rest {s t : State} (h : t.rest = s.rest) : t.kept = s.kept := by
  simp only [State.rest, Prod.mk.injEq] at h
  have hb : s.board.beat = s.board.still.beat ∧ s.board.svcOn = s.board.still.svcOn := ⟨rfl, rfl⟩
  have ht : t.board.beat = t.board.still.beat ∧ t.board.svcOn = t.board.still.svcOn := ⟨rfl, rfl⟩
  simp only [State.kept, h, hb.1, hb.2, ht.1, ht.2]

theorem foldl_kept {α} (f : State → α → State) (h : ∀ t a, (f t a).kept = t.kept) : ∀ (l : List α) (s : State), (l.foldl f s).kept = s.kept
  | [], _ => rfl
  | a :: l, s => by rw [List.foldl_cons, foldl_kept f h l, h]

theorem map_set_mem (v : Vector CoreSt 9) (k : CoreId) (c : CoreSt) (h : c.mem = v[k].mem) :
    (v.set k c).map CoreSt.mem = v.map CoreSt.mem := by
  apply Vector.ext; intro i hi
  simp only [Vector.getElem_map, Vector.getElem_set]
  split
  · subst_vars; exact h
  · rfl

theorem map_ofFn_mem (v : Vector CoreSt 9) (f : CoreId → CoreSt) (h : ∀ i : CoreId, (f i).mem = v[i].mem) :
    (Vector.ofFn f).map CoreSt.mem = v.map CoreSt.mem := by
  apply Vector.ext; intro i hi
  simp only [Vector.getElem_map, Vector.getElem_ofFn]
  exact h ⟨i, hi⟩

theorem State.modCore_kept (s : State) (k : CoreId) (f : CoreSt → CoreSt) (h : ∀ c, (f c).mem = c.mem) :
    (s.modCore k f).kept = s.kept := by
  simp only [State.modCore, State.kept, map_set_mem _ _ _ (h _)]

@[simp] theorem State.modStore_kept (s : State) (f : Store → Store) :
    (s.modStore f).kept = (s.cores.map CoreSt.mem, (f s.store).flash, s.pending, s.board.beat, s.board.svcOn) := rfl

@[simp] theorem State.modPort_kept (s : State) (p : PortId) (f : Port → Port) : (State.modPort s p f).kept = s.kept := kept_of_rest (by simp)
@[simp] theorem State.modCluster_kept (s : State) (c : ClusterId) (f : Cluster → Cluster) : (State.modCluster s c f).kept = s.kept := kept_of_rest (by simp)
@[simp] theorem State.mapPorts_kept (s : State) (f : PortId → Port → Port) : (State.mapPorts s f).kept = s.kept := kept_of_rest (by simp)
@[simp] theorem State.modBoard_kept (s : State) (f : Board → Board) : (State.modBoard s f).kept
    = (s.cores.map CoreSt.mem, s.store.flash, s.pending, (f s.board).beat, (f s.board).svcOn) := rfl
@[simp] theorem State.modPool_kept (s : State) (f : Pool → Pool) : (State.modPool s f).kept = s.kept := kept_of_rest (by simp)
@[simp] theorem State.modHost_kept (s : State) (f : HostPort → HostPort) : (State.modHost s f).kept = s.kept := kept_of_rest (by simp)
@[simp] theorem State.modFaults_kept (s : State) (f : Faults → Faults) : (State.modFaults s f).kept = s.kept := kept_of_rest (by simp)
@[simp] theorem State.modFeed_kept (s : State) (f : FeedDie → FeedDie) : (State.modFeed s f).kept = s.kept := rfl
@[simp] theorem State.modBudget_kept (s : State) (f : Budget → Budget) : (State.modBudget s f).kept = s.kept := kept_of_rest (by simp)
@[simp] theorem State.modYarrow_kept (s : State) (f : Yarrow → Yarrow) : (State.modYarrow s f).kept = s.kept := rfl
@[simp] theorem State.modPolicy_kept (s : State) (f : Policy → Policy) : (State.modPolicy s f).kept = s.kept := rfl
@[simp] theorem State.modSvc_kept (s : State) (f : Service → Service) : (State.modSvc s f).kept = s.kept := kept_of_rest (by simp)
@[simp] theorem State.modDev_kept (s : State) (f : Dev → Dev) : (State.modDev s f).kept = s.kept := rfl
@[simp] theorem State.drawn_kept (s : State) : (State.drawn s).kept = s.kept := kept_of_rest (by simp)
@[simp] theorem State.setReady_kept (s : State) (m : Word) : (State.setReady s m).kept = s.kept := rfl
@[simp] theorem State.clearReady_kept (s : State) (m : Word) : (State.clearReady s m).kept = s.kept := rfl
@[simp] theorem State.post_kept (s : State) (code : Nat) (port : Nat) (data : List Byte) : (State.post s code port data).kept = s.kept := kept_of_rest (by simp)
@[simp] theorem State.complete_kept (s : State) (st : Stream) (opc : Nat) (tag : Nat) (status : Nat) (tgt : Nat) (port : Nat) (result : List Byte) : (State.complete s st opc tag status tgt port result).kept = s.kept := kept_of_rest (by simp)
@[simp] theorem State.updPort_kept (s : State) (p : PortId) (f : Port → Port) : (State.updPort s p f).kept = s.kept := kept_of_rest (by simp)
@[simp] theorem State.withdraw_kept (s : State) (p : PortId) : (State.withdraw s p).kept = s.kept := kept_of_rest (by simp)
@[simp] theorem State.endSwapReq_kept (s : State) (p : PortId) (status : Nat) (result : Nat) : (State.endSwapReq s p status result).kept = s.kept := kept_of_rest (by simp)
@[simp] theorem State.endSend_kept (s : State) (p : PortId) (status : Nat) (tx : Nat) (resp : Nat) (data : List Byte) : (State.endSend s p status tx resp data).kept = s.kept := kept_of_rest (by simp)
@[simp] theorem State.endSoft_kept (s : State) (p : PortId) (status : Nat) (tx : Nat) (acc : Nat) : (State.endSoft s p status tx acc).kept = s.kept := kept_of_rest (by simp)
@[simp] theorem State.endVdm_kept (s : State) (p : PortId) (status : Nat) (result : Nat) (reply : List Byte) : (State.endVdm s p status result reply).kept = s.kept := kept_of_rest (by simp)
@[simp] theorem State.endWork_kept (s : State) (p : PortId) (status : Nat) (swapRes : Nat) : (State.endWork s p status swapRes).kept = s.kept := kept_of_rest (by simp)
@[simp] theorem State.svcLeave_kept (s : State) (p : PortId) : (State.svcLeave s p).kept = s.kept := kept_of_rest (by simp)
@[simp] theorem State.dropPort_kept (s : State) (p : PortId) (status : Nat) (swapRes : Nat) (f : Port → Port) : (State.dropPort s p status swapRes f).kept = s.kept := kept_of_rest (by simp)
@[simp] theorem State.quiescePort_kept (s : State) (kind : Safe) (p : PortId) : (State.quiescePort s kind p).kept = s.kept := kept_of_rest (by simp)
@[simp] theorem State.holdDevice_kept (s : State) : (State.holdDevice s).kept = s.kept := kept_of_rest (by simp)
@[simp] theorem State.react_kept (s : State) (sev : Nat) (src : Nat) : (State.react s sev src).kept = s.kept := kept_of_rest (by simp)
@[simp] theorem State.noteCause_kept (s : State) (r : Raise) : (State.noteCause s r).kept = s.kept := kept_of_rest (by simp)
@[simp] theorem State.faultEvent_kept (s : State) (r : Raise) (f : FaultRec) (sev : Nat) : (State.faultEvent s r f sev).kept = s.kept := kept_of_rest (by simp)
@[simp] theorem State.raiseOne_kept (s : State) (named : Bool) (r : Raise) : (State.raiseOne s named r).kept = s.kept := kept_of_rest (by simp)
@[simp] theorem State.raiseAll_kept (s : State) (rs : List Raise) : (State.raiseAll s rs).kept = s.kept := kept_of_rest (by simp)
@[simp] theorem State.raise_kept (s : State) (r : Raise) : (State.raise s r).kept = s.kept := kept_of_rest (by simp)
@[simp] theorem State.raisePort_kept (s : State) (p : PortId) (code : Nat) (detail : Nat) : (State.raisePort s p code detail).kept = s.kept := kept_of_rest (by simp)
@[simp] theorem State.tripPort_kept (s : State) (p : PortId) (code : Nat) : (State.tripPort s p code).kept = s.kept := kept_of_rest (by simp)
@[simp] theorem State.gateFail_kept (s : State) (p : PortId) : (State.gateFail s p).kept = s.kept := kept_of_rest (by simp)
@[simp] theorem State.errorRecovery_kept (s : State) (p : PortId) (swapRes : Nat) : (State.errorRecovery s p swapRes).kept = s.kept := kept_of_rest (by simp)
@[simp] theorem State.releaseSen_kept (s : State) (c : ClusterId) : (State.releaseSen s c).kept = s.kept := kept_of_rest (by simp)
@[simp] theorem State.dischargeStep_kept (s : State) (p : PortId) : (State.dischargeStep s p).kept = s.kept := kept_of_rest (by simp)
@[simp] theorem State.claimSampler_kept (s : State) (p : PortId) : (State.claimSampler s p).kept = s.kept := kept_of_rest (by simp)
@[simp] theorem State.startEnabled_kept (s : State) (p : PortId) : (State.startEnabled s p).kept = s.kept := kept_of_rest (by simp)
@[simp] theorem State.guardTrip_kept (s : State) (p : PortId) (code : Nat) : (State.guardTrip s p code).kept = s.kept := kept_of_rest (by simp)
@[simp] theorem State.closeDefault_kept (s : State) (p : PortId) (id point dflt : Nat) : (State.closeDefault s p id point dflt).kept = s.kept := kept_of_rest (by simp)
@[simp] theorem State.send_kept (s : State) (code port : Nat) (data : List Byte) : (State.send s code port data).kept = s.kept := kept_of_rest (by simp)
@[simp] theorem State.ask_kept (s : State) (p : PortId) (point : Nat) (i : Fin 32) (eop : Beat) (obj : Word) (pdo : Word) : (State.ask s p point i eop obj pdo).1.kept = s.kept := by
  simp only [State.ask]; (repeat' split) <;> simp
@[simp] theorem State.resolve_kept (s : State) (p : PortId) (point : Nat) (a : Answer) (eop : Beat) (obj : Word) (pdo : Word) : (State.resolve s p point a eop obj pdo).1.kept = s.kept := by
  simp only [State.resolve]; (repeat' split) <;> simp
@[simp] theorem State.capsChanged_kept (s : State) : (State.capsChanged s).kept = s.kept := kept_of_rest (by simp)
@[simp] theorem State.budgetReady_kept (s : State) : (State.budgetReady s).kept = s.kept := by
  simp only [State.budgetReady]; (repeat' split) <;> simp
@[simp] theorem State.setGrants_kept (s : State) (gs : List Nat) : (State.setGrants s gs).kept = s.kept := by
  simp only [State.setGrants]; simp
@[simp] theorem State.allocate_kept (s : State) : (State.allocate s).kept = s.kept := by
  simp only [State.allocate]; (repeat' split) <;> simp
@[simp] theorem State.wantAllocation_kept (s : State) : (State.wantAllocation s).kept = s.kept := rfl
@[simp] theorem State.brownoutGrants_kept (s : State) : (State.brownoutGrants s).kept = s.kept := by
  simp only [State.brownoutGrants]; simp
@[simp] theorem State.yarrowReady_kept (s : State) : (State.yarrowReady s).kept = s.kept := by
  simp only [State.yarrowReady]; (repeat' split) <;> simp
@[simp] theorem State.originate_kept (s : State) (ys : List YPort) (dst : BitVec 12) (type : Nat) (payload : List Byte) : (State.originate s ys dst type payload).kept = s.kept := by
  simp only [State.originate]; (repeat' split) <;> simp
@[simp] theorem State.originateAll_kept (s : State) (dst : BitVec 12) (type : Nat) (payload : List Byte) : (State.originateAll s dst type payload).kept = s.kept := by
  simp [State.originateAll]
@[simp] theorem State.adopt_kept (s : State) (f : YFrame) : (State.adopt s f).kept = s.kept := rfl
@[simp] theorem State.heardBeat_kept (s : State) (f : YFrame) : (State.heardBeat s f).kept = s.kept := rfl
@[simp] theorem State.heartbeat_kept (s : State) (f : YFrame) : (State.heartbeat s f).kept = s.kept := by
  have h : ∀ w : Yarrow, ({ s with yarrow := w } : State).kept = s.kept := fun _ => rfl
  simp only [State.heartbeat]
  split
  · rfl
  · simp only [apply_ite State.kept, State.modYarrow_kept, State.heardBeat_kept, h]
    split
    · rfl
    · split <;> simp only [apply_ite State.kept, State.modYarrow_kept, State.heardBeat_kept, State.adopt_kept, h, ite_self]
@[simp] theorem State.decayStep_kept (s : State) : (State.decayStep s).kept = s.kept := by
  simp only [State.decayStep]; (repeat' split) <;> simp
@[simp] theorem State.takeGrant_kept (s : State) (g : Nat) : (State.takeGrant s g).kept = s.kept := by
  simp only [State.takeGrant]; split <;> simp
@[simp] theorem State.forward_kept (s : State) (y : YPort) (busy : Bool) (f : YFrame) (flaw : CellObs) : (State.forward s y busy f flaw).kept = s.kept := by
  simp only [State.forward]; (repeat' split) <;> simp
@[simp] theorem State.consume_kept (s : State) (y : YPort) (f : YFrame) (flaw : CellObs) : (State.consume s y f flaw).kept = s.kept := by
  simp only [State.consume]; (repeat' split) <;> simp
@[simp] theorem State.idConflict_kept (s : State) : (State.idConflict s).kept = s.kept := by
  simp only [State.idConflict]; (repeat' split) <;> simp
@[simp] theorem State.ownFrame_kept (s : State) (f : YFrame) : (State.ownFrame s f).kept = s.kept := by
  simp only [State.ownFrame]; split <;> simp
@[simp] theorem State.startChain_kept (s : State) (id : BitVec 12) (src : BitVec 2) : (State.startChain s id src).kept = s.kept := by
  simp [State.startChain]
@[simp] theorem State.ringCheck_kept (s : State) (was : Bool) : (State.ringCheck was s).kept = s.kept := by
  simp only [State.ringCheck]; split <;> simp
@[simp] theorem State.yarrowBoot_kept (s : State) : (State.yarrowBoot s).kept = s.kept := by
  simp [State.yarrowBoot, apply_ite State.kept]
@[simp] theorem State.found_kept (s : State) (q : QueueId) (o : CellObs) : (State.found s q o).kept = s.kept := kept_of_rest (by simp)
@[simp] theorem State.sendFragments_kept (s : State) (k : Packet) : (State.sendFragments s k).kept = s.kept := by
  simp only [State.sendFragments]
  split
  · split
    · simp
    · exact foldl_kept _ (fun t p => by simp) _ _
  · rfl
@[simp] theorem State.drainFwd_kept (s : State) : (State.drainFwd s).kept = s.kept := by
  simp only [State.drainFwd]
  split
  · rfl
  · rw [foldl_kept _ (fun t k => by simp)]; simp
@[simp] theorem State.sendFwdReply_kept (s : State) (node : BitVec 12) (pkt : List Byte) : (State.sendFwdReply s node pkt).kept = s.kept := by
  simp only [State.sendFwdReply]
  split
  · exact foldl_kept _ (fun t i => by simp) _ _
  · simp
@[simp] theorem State.replyFwd_kept (s : State) (tag : Byte) (pkt : List Byte) : (State.replyFwd s tag pkt).kept = s.kept := by
  simp only [State.replyFwd]; (repeat' split) <;> simp
@[simp] theorem State.fwdAnswer_kept (s : State) (o : FwdOut) (status : Nat) (data : List Byte) : (State.fwdAnswer s o status data).kept = s.kept := by
  simp only [State.fwdAnswer]; (repeat' split) <;> simp
@[simp] theorem State.feedBits_kept (s : State) : (State.feedBits s).kept = s.kept := by
  simp only [State.feedBits]; (repeat' split) <;> simp
@[simp] theorem State.feedReport_kept (s : State) (src : Nat) : (State.feedReport s src).kept = s.kept := by
  simp only [State.feedReport]; (repeat' split) <;> simp
@[simp] theorem State.feedReports_kept (s : State) (srcs : List Nat) : (State.feedReports s srcs).kept = s.kept := by
  simp only [State.feedReports]
  split
  · rfl
  · split
    · simp
    · exact foldl_kept _ (fun t n => by simp) _ _
@[simp] theorem State.feedStep_kept (s : State) (srcs : List Nat) (r : FeedDie × List Nat) : (State.feedStep s srcs r).kept = s.kept := by
  simp [State.feedStep]
@[simp] theorem State.brownoutSet_kept (s : State) : (State.brownoutSet s).kept = s.kept := by
  simp only [State.brownoutSet]; split <;> simp
@[simp] theorem State.brownoutOn_kept (s : State) : (State.brownoutOn s).kept = s.kept := by
  simp only [State.brownoutOn]; (repeat' split) <;> simp
@[simp] theorem State.brownoutOff_kept (s : State) : (State.brownoutOff s).kept = s.kept := by
  unfold State.brownoutOff
  split
  · rfl
  · dsimp only; split <;> simp
@[simp] theorem State.trunkSamples_kept (s : State) (xs : List MonSample) : (State.trunkSamples s xs).kept = s.kept := by
  simp only [State.trunkSamples]; (repeat' split) <;> simp
@[simp] theorem State.feedLinkDown_kept (s : State) : (State.feedLinkDown s).kept = s.kept := by
  simp only [State.feedLinkDown]; (repeat' split) <;> simp
@[simp] theorem State.sendFeedSet_kept (s : State) : (State.sendFeedSet s).kept = s.kept := rfl
@[simp] theorem State.feedGate_kept (s : State) (f : Feed) (xs : List MonSample) : (State.feedGate s f xs).kept = s.kept := by
  simp only [State.feedGate]; (repeat' split) <;> simp
@[simp] theorem State.replyHeld_kept (s : State) (st : Stream) (n : Nat) (hdr : List Byte) (status : Nat) (data : List Byte) : (State.replyHeld s st n hdr status data).kept = s.kept := by
  simp only [State.replyHeld]; (repeat' split) <;> simp
@[simp] theorem State.decisionDefault_kept (s : State) (id : Nat) : (State.decisionDefault s id).kept = s.kept := kept_of_rest (by simp)
@[simp] theorem State.discardQ_kept (s : State) (q : QueueId) (n : Nat) : (State.discardQ s q n).kept = s.kept := by
  have h : ∀ (t : State) (g : HostPort) (m : Pool), ({ t with host := g, pool := m } : State).kept = t.kept := fun _ _ _ => rfl
  unfold State.discardQ
  dsimp only
  split
  · rw [foldl_kept _ (fun t k => by simp), h]
  · rw [State.modPool_kept, h]
@[simp] theorem State.flushReply_kept (n : Nat) (t : State) (r : Stream × List Byte) : (State.flushReply n t r).kept = t.kept := by
  simp [State.flushReply]

@[simp] theorem State.flushAct_kept (s : State) (q : QueueId) : (State.flushAct s q).kept = s.kept := by
  simp only [State.flushAct]
  split
  · rfl
  · split
    · simp
    · rw [foldl_kept _ (fun t n => by simp)]; simp
@[simp] theorem State.flushAsk_kept (s : State) (q : QueueId) (st : Stream) (hdr : List Byte) : (State.flushAsk s q st hdr).kept = s.kept := by
  simp only [State.flushAsk]; (repeat' split) <;> simp
@[simp] theorem State.quarantine_kept (s : State) (q : QueueId) : (State.quarantine s q).kept = s.kept := kept_of_rest (by simp)
theorem State.loseHigh_kept (a : State × Nat × Nat) (q : QueueId) : (State.loseHigh a q).1.kept = a.1.kept := by
  unfold State.loseHigh; dsimp only; (repeat' split) <;> simp
theorem loseAll_kept : ∀ (l : List QueueId) (a : State × Nat × Nat), (l.foldl State.loseHigh a).1.kept = a.1.kept
  | [], _ => rfl
  | q :: l, a => by rw [List.foldl_cons, loseAll_kept l, State.loseHigh_kept]

@[simp] theorem State.poolLoss_kept (s : State) : (State.poolLoss s).kept = s.kept := by
  simp only [State.poolLoss]
  split
  · rfl
  · rw [State.modPool_kept, loseAll_kept]
@[simp] theorem State.applyGen_kept (s : State) (g : Generation) : (State.applyGen s g).kept = s.kept := Prod.ext (map_ofFn_mem _ _ fun _ => rfl) rfl
@[simp] theorem State.quietPorts_kept (s : State) (ps : List PortId) : (State.quietPorts s ps).kept = s.kept := by
  simp only [State.quietPorts]; exact foldl_kept _ (fun t p => by simp) _ _
@[simp] theorem State.joinTrim_kept (s : State) (b : Bool) : (State.joinTrim s b).kept = s.kept := by
  simp only [State.joinTrim]; split <;> simp
@[simp] theorem bringCluster_kept (start : Bool) (s : State) (c : ClusterId) : (bringCluster start s c).kept = s.kept := by
  unfold bringCluster
  split
  · rfl
  · split
    · dsimp only
      split <;> split <;> (try rw [State.joinTrim_kept]) <;> first | (rw [foldl_kept _ (fun t i => by simp)]; simp) | simp
    · split <;> simp
@[simp] theorem State.report_kept (s : State) : (State.report s).kept = s.kept := rfl
@[simp] theorem State.configure_kept (s : State) : (State.configure s).kept = s.kept := by
  simp only [State.configure]; (repeat' split) <;> simp
@[simp] theorem State.runImage_kept (s : State) : (State.runImage s).kept = s.kept := by
  have h1 : ∀ t : State, ∀ main : Bool, ({ t with cores := Vector.ofFn fun k =>
      if main || k.val == 0 || k.val == 8 then { t.cores[k] with flagFirst := true } else t.cores[k] } : State).kept = t.kept :=
    fun t main => Prod.ext (map_ofFn_mem _ _ fun i => by split <;> rfl) rfl
  simp only [State.runImage]
  have h2 : ∀ u : State, (((List.finRange 8).foldl (bringCluster true) u).kept) = u.kept :=
    fun u => foldl_kept _ (fun t c => by simp) _ _
  split <;> split <;> simp only [State.yarrowBoot_kept, State.wantAllocation_kept, State.setGrants_kept, State.budgetReady_kept,
    State.feedBits_kept, h2] <;> rw [h1] <;> simp
@[simp] theorem State.afterSweep_kept (s : State) (p : PortId) (v : Verdict) (k z : List Nat) (o : List Int) : (State.afterSweep s p v k z o).kept = s.kept := kept_of_rest (by simp)
@[simp] theorem State.loadFlight_kept (s : State) (p : PortId) : (State.loadFlight s p).kept = s.kept := kept_of_rest (by simp)
@[simp] theorem State.queueTx_kept (s : State) (p : PortId) (t : Tgt) (why : Purpose) (bytes : List Byte) : (State.queueTx s p t why bytes).kept = s.kept := kept_of_rest (by simp)
@[simp] theorem State.retryHeld_kept (s : State) (p : PortId) : (State.retryHeld s p).kept = s.kept := kept_of_rest (by simp)
@[simp] theorem State.txEnd_kept (s : State) (p : PortId) (r : TxResult) : (State.txEnd s p r).kept = s.kept := kept_of_rest (by simp)
@[simp] theorem State.killTx_kept (s : State) (p : PortId) (only : Tgt → Bool) (r : TxResult) : (State.killTx s p only r).kept = s.kept := kept_of_rest (by simp)
@[simp] theorem State.dropStale_kept (s : State) (p : PortId) : (State.dropStale s p).kept = s.kept := kept_of_rest (by simp)
@[simp] theorem State.rxTake_kept (s : State) (p : PortId) (m : RxMsg) : (State.rxTake s p m).kept = s.kept := kept_of_rest (by simp)
@[simp] theorem State.reply_kept (s : State) (p : PortId) (why : Purpose) (bytes : List Byte) : (State.reply s p why bytes).kept = s.kept := kept_of_rest (by simp)
@[simp] theorem State.sendExt_kept (s : State) (p : PortId) (t : Tgt) (why : Purpose) (type : Nat) (data : List Byte) : (State.sendExt s p t why type data).kept = s.kept := kept_of_rest (by simp)
@[simp] theorem State.sendCaps_kept (s : State) (p : PortId) : (State.sendCaps s p).kept = s.kept := kept_of_rest (by simp)
@[simp] theorem State.launch_kept (s : State) (p : PortId) : (State.launch s p).kept = s.kept := kept_of_rest (by simp)
@[simp] theorem State.beginAms_kept (s : State) (p : PortId) (t : Tgt) (why : Purpose) (bytes : List Byte) : (State.beginAms s p t why bytes).kept = s.kept := kept_of_rest (by simp)
@[simp] theorem State.dropPlug_kept (s : State) (p : PortId) : (State.dropPlug s p).kept = s.kept := kept_of_rest (by simp)
@[simp] theorem State.kick_kept (s : State) (p : PortId) : (State.kick s p).kept = s.kept := kept_of_rest (by simp)
@[simp] theorem State.ownDone_kept (s : State) (p : PortId) : (State.ownDone s p).kept = s.kept := kept_of_rest (by simp)
@[simp] theorem State.partnerDone_kept (s : State) (p : PortId) : (State.partnerDone s p).kept = s.kept := kept_of_rest (by simp)
@[simp] theorem State.amsDone_kept (s : State) (p : PortId) : (State.amsDone s p).kept = s.kept := kept_of_rest (by simp)
@[simp] theorem State.notSupported_kept (s : State) (p : PortId) : (State.notSupported s p).kept = s.kept := kept_of_rest (by simp)
@[simp] theorem State.orderHr_kept (s : State) (p : PortId) : (State.orderHr s p).kept = s.kept := kept_of_rest (by simp)
@[simp] theorem State.hardReset_kept (s : State) (p : PortId) (sent : Bool) : (State.hardReset s p sent).kept = s.kept := kept_of_rest (by simp)
@[simp] theorem State.softQuiet_kept (s : State) (p : PortId) : (State.softQuiet s p).kept = s.kept := kept_of_rest (by simp)
@[simp] theorem State.sendSoft_kept (s : State) (p : PortId) (t : Tgt) : (State.sendSoft s p t).kept = s.kept := kept_of_rest (by simp)
@[simp] theorem State.txError_kept (s : State) (p : PortId) (t : Tgt) : (State.txError s p t).kept = s.kept := kept_of_rest (by simp)
@[simp] theorem State.unexpected_kept (s : State) (p : PortId) : (State.unexpected s p).kept = s.kept := kept_of_rest (by simp)
@[simp] theorem State.afterSoft_kept (s : State) (p : PortId) : (State.afterSoft s p).kept = s.kept := kept_of_rest (by simp)
@[simp] theorem State.contractMade_kept (s : State) (p : PortId) (t : Transition) : (State.contractMade s p t).kept = s.kept := kept_of_rest (by simp)
@[simp] theorem State.eprFail_kept (s : State) (p : PortId) (cause : Nat) : (State.eprFail s p cause).kept = s.kept := kept_of_rest (by simp)
@[simp] theorem State.eprCheck_kept (s : State) (p : PortId) : (State.eprCheck s p).kept = s.kept := kept_of_rest (by simp)
@[simp] theorem State.eprOutcome_kept (s : State) (p : PortId) (oc : Nat) : (State.eprOutcome s p oc).kept = s.kept := kept_of_rest (by simp)
@[simp] theorem State.swapDone_kept (s : State) (p : PortId) (own : Bool) : (State.swapDone s p own).kept = s.kept := kept_of_rest (by simp)
@[simp] theorem State.beginSwap_kept (s : State) (p : PortId) (k : SwapKind) (own : Bool) : (State.beginSwap s p k own).kept = s.kept := kept_of_rest (by simp)
@[simp] theorem State.swapPsRdySent_kept (s : State) (p : PortId) (w : Swap) : (State.swapPsRdySent s p w).kept = s.kept := kept_of_rest (by simp)
@[simp] theorem State.discoverOver_kept (s : State) (p : PortId) (result : Nat) (reply : List Byte) : (State.discoverOver s p result reply).kept = s.kept := kept_of_rest (by simp)
@[simp] theorem State.vdmOver_kept (s : State) (p : PortId) (result : Nat) (reply : List Byte) : (State.vdmOver s p result reply).kept = s.kept := kept_of_rest (by simp)
@[simp] theorem State.vdmSent_kept (s : State) (p : PortId) : (State.vdmSent s p).kept = s.kept := kept_of_rest (by simp)
@[simp] theorem State.vdmFailed_kept (s : State) (p : PortId) (r : TxResult) : (State.vdmFailed s p r).kept = s.kept := kept_of_rest (by simp)
@[simp] theorem State.eprLookup_kept (s : State) (p : PortId) : (State.eprLookup s p).kept = s.kept := kept_of_rest (by simp)
@[simp] theorem State.afterMsg_kept (s : State) (p : PortId) (t : Tgt) (why : Purpose) (r : TxResult) : (State.afterMsg s p t why r).kept = s.kept := kept_of_rest (by simp)
@[simp] theorem State.chunkOver_kept (s : State) (p : PortId) (t : Tgt) (r : TxResult) : (State.chunkOver s p t r).kept = s.kept := kept_of_rest (by simp)
@[simp] theorem State.afterTx_kept (s : State) (p : PortId) (t : Tgt) (why : Purpose) (r : TxResult) : (State.afterTx s p t why r).kept = s.kept := kept_of_rest (by simp)
@[simp] theorem State.discardTx_kept (s : State) (p : PortId) (t : Tgt) : (State.discardTx s p t).kept = s.kept := kept_of_rest (by simp)
@[simp] theorem State.requestOutcome_kept (s : State) (p : PortId) (oc : Nat) : (State.requestOutcome s p oc).kept = s.kept := kept_of_rest (by simp)
@[simp] theorem State.swapOutcome_kept (s : State) (p : PortId) (k : SwapKind) (oc : Nat) : (State.swapOutcome s p k oc).kept = s.kept := kept_of_rest (by simp)
@[simp] theorem State.selectOutcome_kept (s : State) (p : PortId) (cls : Fin 16) (oc : Nat) (rule : Option Rule) (value : Word) : (State.selectOutcome s p cls oc rule value).kept = s.kept := kept_of_rest (by simp)
@[simp] theorem State.act_kept (s : State) (p : PortId) (cls : Fin 16) (point : Nat) (oc : Nat) (rule : Option Rule) (value : Word) : (State.act s p cls point oc rule value).kept = s.kept := kept_of_rest (by simp)
@[simp] theorem State.atPoint_kept (s : State) (p : PortId) (point : Nat) (m : Rule → Bool) (eop : Beat) (obj : Word) (pdo : Word) : (State.atPoint s p point m eop obj pdo).kept = s.kept := kept_of_rest (by simp)
@[simp] theorem State.gotGoodCrc_kept (s : State) (p : PortId) (t : Tgt) (id : BitVec 3) : (State.gotGoodCrc s p t id).kept = s.kept := kept_of_rest (by simp)
@[simp] theorem State.attemptFailed_kept (s : State) (p : PortId) : (State.attemptFailed s p).kept = s.kept := kept_of_rest (by simp)
@[simp] theorem State.interrupt_kept (s : State) (p : PortId) (m : RxMsg) : (State.interrupt s p m).kept = s.kept := kept_of_rest (by simp)
@[simp] theorem State.deliver_kept (s : State) (p : PortId) (t : Tgt) (w : WirePacket) (m : Pool) : (State.deliver s p t w m).kept = s.kept := kept_of_rest (by simp)
@[simp] theorem State.receive_kept (s : State) (p : PortId) (w : WirePacket) (t : Tgt) : (State.receive s p w t).kept = s.kept := kept_of_rest (by simp)
@[simp] theorem State.newAms_kept (s : State) (p : PortId) : (State.newAms s p).kept = s.kept := kept_of_rest (by simp)
@[simp] theorem State.takeMsg_kept (s : State) (p : PortId) (m : RxMsg) : (State.takeMsg s p m).kept = s.kept := kept_of_rest (by simp)
@[simp] theorem State.sendAnswered_kept (s : State) (p : PortId) (m : RxMsg) : (State.sendAnswered s p m).kept = s.kept := kept_of_rest (by simp)
@[simp] theorem State.giveCaps_kept (s : State) (p : PortId) (epr : Bool) : (State.giveCaps s p epr).kept = s.kept := kept_of_rest (by simp)
@[simp] theorem State.replyExt_kept (s : State) (p : PortId) (type : Nat) (data : List Byte) : (State.replyExt s p type data).kept = s.kept := kept_of_rest (by simp)
@[simp] theorem State.servePlain_kept (s : State) (p : PortId) (m : RxMsg) : (State.servePlain s p m).kept = s.kept := kept_of_rest (by simp)
@[simp] theorem State.noteRevision_kept (s : State) (p : PortId) (m : RxMsg) : (State.noteRevision s p m).kept = s.kept := kept_of_rest (by simp)
@[simp] theorem State.served_kept (s : State) (p : PortId) : (State.served s p).kept = s.kept := kept_of_rest (by simp)
@[simp] theorem State.armBackoff_kept (s : State) (p : PortId) : (State.armBackoff s p).kept = s.kept := kept_of_rest (by simp)
@[simp] theorem State.swapRx_kept (s : State) (p : PortId) (k : SwapKind) (m : RxMsg) : (State.swapRx s p k m).kept = s.kept := kept_of_rest (by simp)
@[simp] theorem State.extDone_kept (s : State) (p : PortId) (m : RxMsg) (size : Nat) (data : List Byte) : (State.extDone s p m size data).kept = s.kept := kept_of_rest (by simp)
@[simp] theorem State.noAnswer_kept (s : State) (p : PortId) : (State.noAnswer s p).kept = s.kept := kept_of_rest (by simp)
@[simp] theorem State.requestAgain_kept (s : State) (p : PortId) : (State.requestAgain s p).kept = s.kept := kept_of_rest (by simp)
@[simp] theorem State.recoveryFail_kept (s : State) (p : PortId) : (State.recoveryFail s p).kept = s.kept := kept_of_rest (by simp)
@[simp] theorem State.safeAct_kept (s : State) (e : PortId × Safe) : (State.safeAct s e).kept = s.kept := by
  simp only [State.safeAct]; (repeat' split) <;> simp
@[simp] theorem State.takeAnswers_kept (s : State) : (State.takeAnswers s).kept = s.kept := by
  simp only [State.takeAnswers]; rw [foldl_kept _ (fun t a => by simp)]; simp
@[simp] theorem State.takeWrites_kept (s : State) : (State.takeWrites s).kept = s.kept := by
  simp only [State.takeWrites]
  split
  · rfl
  · (repeat' split) <;> simp only [State.wantAllocation_kept, State.capsChanged_kept, State.mapPorts_kept] <;> rfl
@[simp] theorem State.slotRaises_kept (s : State) (hot : List Raise) : (State.slotRaises hot s).kept = s.kept := by
  simp only [State.slotRaises]; (repeat' split) <;> simp
@[simp] theorem State.windowEnd_kept (s : State) : (State.windowEnd s).kept = s.kept := by
  simp only [State.windowEnd]; (repeat' split) <;> simp
@[simp] theorem State.portsReset_kept (s : State) : (State.portsReset s).kept = s.kept := by
  simp only [State.portsReset]
  split
  · rfl
  · rw [foldl_kept _ (fun t p => by split <;> simp)]; simp
@[simp] theorem State.deliverEvent_kept (s : State) (q : QueueId) (k : Packet) : (State.deliverEvent q s k).kept = s.kept := by
  simp only [State.deliverEvent]; split <;> simp
@[simp] theorem State.deliverEvents_kept (s : State) : (State.deliverEvents s).kept = s.kept := by
  simp only [State.deliverEvents]
  split
  · rfl
  · exact foldl_kept _ (fun t c => by split; rfl; rw [foldl_kept _ (fun t k => by simp)]; simp) _ _
@[simp] theorem State.completeNow_kept (s : State) (st : Stream) (opc : Nat) (event : List Byte) : (State.completeNow s st opc event).kept = s.kept := rfl
@[simp] theorem State.deliverAnswer_kept (s : State) (q : QueueId) (k : Packet) : (State.deliverAnswer q s k).kept = s.kept := by
  simp only [State.deliverAnswer]; (repeat' split) <;> simp
@[simp] theorem State.deliverAnswers_kept (s : State) : (State.deliverAnswers s).kept = s.kept := by
  simp only [State.deliverAnswers]
  split
  · rfl
  · exact foldl_kept _ (fun t c => by split; rfl; rw [foldl_kept _ (fun t k => by simp)]; simp) _ _
@[simp] theorem State.refuseAsk_kept (s : State) (payload : List Byte) : (State.refuseAsk s payload).kept = s.kept := by
  simp [State.refuseAsk]
@[simp] theorem State.deliverOne_kept (s : State) (q : QueueId) (k : Packet) : (State.deliverOne q s k).kept = s.kept := by
  simp only [State.deliverOne]; (repeat' split) <;> simp
@[simp] theorem State.deliverDecisions_kept (s : State) : (State.deliverDecisions s).kept = s.kept := by
  simp only [State.deliverDecisions]
  split
  · rfl
  · exact foldl_kept _ (fun t c => by split; rfl; rw [foldl_kept _ (fun t k => by simp)]; simp) _ _
@[simp] theorem State.vconnLost_kept (s : State) (p : PortId) (oc : Bool) : (State.vconnLost s p oc).kept = s.kept := kept_of_rest (by simp)
@[simp] theorem State.vconnBeat_kept (s : State) (p : PortId) : (State.vconnBeat s p).kept = s.kept := by
  simp only [State.vconnBeat]; (repeat' split) <;> simp
@[simp] theorem State.cableReset_kept (s : State) (p : PortId) : (State.cableReset s p).kept = s.kept := by
  simp only [State.cableReset]; (repeat' split) <;> simp
@[simp] theorem State.cableGap_kept (s : State) (p : PortId) : (State.cableGap s p).kept = s.kept := by
  simp only [State.cableGap]; (repeat' split) <;> simp
@[simp] theorem State.portsBeat_kept (s : State) (b : Beat) : (State.portsBeat s b).kept = s.kept := by
  simp only [State.portsBeat]; exact foldl_kept _ (fun t p => by (repeat' split) <;> simp) _ _
theorem foldl_fst_kept {α β} (f : State × β → α → State × β) (h : ∀ t a, (f t a).1.kept = t.1.kept) :
    ∀ (l : List α) (s : State × β), (l.foldl f s).1.kept = s.1.kept
  | [], _ => rfl
  | a :: l, s => by rw [List.foldl_cons, foldl_fst_kept f h l, h]
@[simp] theorem State.guardAct_kept (s : State) (p : PortId) : (State.guardAct s p).kept = s.kept := kept_of_rest (by simp)
@[simp] theorem State.hotTrips_kept (s : State) : (State.hotTrips s).1.kept = s.kept := by
  simp only [State.hotTrips]
  exact foldl_fst_kept _ (fun t p => by (repeat' split) <;> simp) _ _
@[simp] theorem State.retryAll_kept (s : State) : (State.retryAll s).kept = s.kept := by
  simp only [State.retryAll]; exact foldl_kept _ (fun t p => by split <;> simp) _ _
@[simp] theorem State.hubBeat_kept (s : State) : (State.hubBeat s).kept = s.kept := by
  have h2 : ∀ (t : State) (g : Faults) (w : Yarrow) (c : Vector Cluster 8), ({ t with faults := g, yarrow := w, clusters := c } : State).kept = t.kept :=
    fun _ _ _ _ => rfl
  have h3 : ∀ (t : State) (g : Faults), ({ t with faults := g } : State).kept = t.kept := fun _ _ => rfl
  simp only [State.hubBeat, State.windowEnd_kept, State.slotRaises_kept, State.retryAll_kept, State.portsReset_kept, State.takeAnswers_kept,
    State.drainFwd_kept, State.deliverAnswers_kept, State.deliverDecisions_kept, State.deliverEvents_kept]
  rw [foldl_kept _ (fun t e => by simp), h3, State.hotTrips_kept, State.portsBeat_kept, h2, State.takeWrites_kept]
@[simp] theorem State.nextBeat_kept (s : State) : (State.nextBeat s).kept
    = (s.cores.map CoreSt.mem, s.store.flash, s.pending, s.board.beat + 1, s.board.svcOn) := by
  simp only [State.nextBeat]; split <;> simp [Board.advance]
@[simp] theorem State.mirrorOnly_kept (s : State) (whole : Bool) : (State.mirrorOnly s whole).kept = s.kept := rfl
@[simp] theorem State.closeCommand_kept (s : State) (n : Nat) (flaw : CellObs) (data : List Byte) : (State.closeCommand s n flaw data).kept = s.kept := rfl
@[simp] theorem State.refuseWrite_kept (s : State) (data : List Byte) : (State.refuseWrite s data).kept = s.kept := by
  simp only [State.refuseWrite]; (repeat' split) <;> simp
@[simp] theorem State.sendReply_kept (s : State) (c : Cmd) (dup : Bool) (status : Nat) (data : List Byte) : (State.sendReply s c dup status data).kept = s.kept := by
  simp only [State.sendReply]; (repeat' split) <;> simp
@[simp] theorem State.takeCommand_kept (s : State) (q : QueueId) (k : Packet) : (State.takeCommand s q k).kept = s.kept := rfl
@[simp] theorem State.noteHcrc_kept (s : State) (q : QueueId) (k : Packet) : (State.noteHcrc s q k).kept = s.kept := by
  simp only [State.noteHcrc]; (repeat' split) <;> simp
@[simp] theorem State.loseCommand_kept (s : State) (q : QueueId) (k : Packet) : (State.loseCommand s q k).kept = s.kept := by
  simp [State.loseCommand]
@[simp] theorem State.dropCommand_kept (s : State) (q : QueueId) (k : Packet) : (State.dropCommand s q k).kept = s.kept := by
  simp only [State.dropCommand]; (repeat' split) <;> simp
@[simp] theorem State.portTrigger_kept (s : State) (p : PortId) : (State.portTrigger s p).kept = s.kept := by
  simp only [State.portTrigger]; (repeat' split) <;> simp
@[simp] theorem State.putPort_kept (s : State) (p : PortId) (id : Nat) (v : Word) : (State.putPort s p id v).kept = s.kept := by
  simp only [State.putPort]; (repeat' split) <;> simp
@[simp] theorem State.putNode_kept (s : State) (v : Word) : (State.putNode s v).kept = s.kept := by
  simp only [State.putNode]; (repeat' split) <;> simp
@[simp] theorem State.putGroup_kept (s : State) (v : Word) : (State.putGroup s v).kept = s.kept := rfl
@[simp] theorem State.putParam_kept (s : State) (st : Stream) (tag : Byte) (p : PortId) (id : Nat) (v : Word) : (State.putParam s st tag p id v).kept = s.kept := by
  have h : ∀ (k : CoreId) (v : Word), (s.modCore k fun k => { k with extCfg := v }).kept = s.kept := fun k v => State.modCore_kept _ _ _ (fun _ => rfl)
  simp only [State.putParam, apply_ite State.kept, apply_dite State.kept]
  simp [h]
@[simp] theorem putEntries_kept (st : Stream) (tag : Byte) (p : PortId) (es : List (Nat × List Byte × Word)) (s : State) : (putEntries st tag p es s).kept = s.kept := by
  unfold putEntries; exact foldl_kept _ (fun t e => by simp) _ _
@[simp] theorem State.setEn_kept (s : State) (p : PortId) (v : Word) : (State.setEn s p v).kept = s.kept := rfl
@[simp] theorem State.startVdm_kept (s : State) (c : Cmd) (why : VdmWhy) (message : List Byte) : (State.startVdm s c why message).kept = s.kept := by
  simp [State.startVdm]
@[simp] theorem State.releaseFeed_kept (s : State) (f : Feed) (on : Bool) : (State.releaseFeed s f on).kept = s.kept := by
  simp only [State.releaseFeed]; (repeat' split) <;> simp
@[simp] theorem State.releaseLatch_kept (s : State) : (State.releaseLatch s).kept = s.kept := by
  simp only [State.releaseLatch]; (repeat' split) <;> simp
@[simp] theorem State.vdmBusyGot_kept (s : State) (p : PortId) (r : VdmReq) (m : RxMsg) : (State.vdmBusyGot s p r m).kept = s.kept := kept_of_rest (by simp)
@[simp] theorem State.vdmAckGot_kept (s : State) (p : PortId) (r : VdmReq) (m : RxMsg) : (State.vdmAckGot s p r m).kept = s.kept := kept_of_rest (by simp)
@[simp] theorem State.vdmResponse_kept (s : State) (p : PortId) (m : RxMsg) : (State.vdmResponse s p m).kept = s.kept := kept_of_rest (by simp)
@[simp] theorem State.vdmAck_kept (s : State) (p : PortId) (w : Word) (vdos : List Word) : (State.vdmAck s p w vdos).kept = s.kept := kept_of_rest (by simp)
@[simp] theorem State.vdmNak_kept (s : State) (p : PortId) (w : Word) : (State.vdmNak s p w).kept = s.kept := kept_of_rest (by simp)
@[simp] theorem State.vdmAnswer_kept (s : State) (p : PortId) (w : Word) : (State.vdmAnswer s p w).kept = s.kept := kept_of_rest (by simp)
@[simp] theorem State.svcEnter_kept (s : State) (p : PortId) : (State.svcEnter s p).kept = s.kept := rfl
@[simp] theorem State.svcEnterMode_kept (s : State) (p : PortId) (w : Word) : (State.svcEnterMode s p w).kept = s.kept := by
  simp only [State.svcEnterMode]; split <;> simp
@[simp] theorem State.svcClose_kept (s : State) (data : List Byte) : (State.svcClose s data).kept = s.kept := kept_of_rest (by simp)
@[simp] theorem State.svcAck_kept (s : State) (p : PortId) (w : Word) (seq : Byte) (data : List Byte) : (State.svcAck s p w seq data).kept = s.kept := kept_of_rest (by simp)
@[simp] theorem State.svcExchange_kept (s : State) (p : PortId) (m : RxMsg) : (State.svcExchange s p m).kept = s.kept := kept_of_rest (by simp)

end Sys2Proof.Machine
end

