-- ==== Sys2Proof/Laws/Memory.lean ====
section
/-! SUPPORT. Every memory operation keeps the canonical form, a byte written reads back, and every other byte reads as before
(log 13, 17). -/

namespace Sys2Proof.Machine

variable {dflt : Nat → Byte}

theorem Memory.wf_iff {m : Memory} :
    m.wf dflt = true ↔ m.Pairwise (fun x y => x.1 < y.1) ∧ ∀ c ∈ m, c.2 ≠ dflt c.1 := by
  simp [Memory.wf]

theorem Memory.wf_nil : Memory.wf dflt [] = true := rfl

theorem Memory.wf_tail {c : Host.Cell} {m : Memory} (h : Memory.wf dflt (c :: m) = true) : m.wf dflt = true := by
  rw [Memory.wf_iff] at h ⊢
  exact ⟨(List.pairwise_cons.1 h.1).2, fun x hx => h.2 x (List.mem_cons_of_mem _ hx)⟩

/-- An entry after a write is the written one or an old one. -/
theorem Memory.mem_write {a : Nat} {b : Byte} : ∀ {m : Memory} {c : Host.Cell}, c ∈ m.write dflt a b → c = (a, b) ∨ c ∈ m
  | [], c, h => by
    unfold Memory.write at h
    split at h
    · exact absurd h (by simp)
    · exact .inl (by simpa using h)
  | d :: ds, c, h => by
    unfold Memory.write at h
    (repeat' split at h) <;> simp only [List.mem_cons] at h ⊢
    · rcases h with h | h
      · exact .inr (.inl h)
      · rcases Memory.mem_write h with h | h
        · exact .inl h
        · exact .inr (.inr h)
    all_goals tauto

theorem Memory.wf_write (a : Nat) (b : Byte) : ∀ {m : Memory}, m.wf dflt = true → (m.write dflt a b).wf dflt = true
  | [], _ => by
    unfold Memory.write
    split
    · rfl
    · rename_i h; simp [Memory.wf, h]
  | d :: ds, h => by
    have ht := Memory.wf_write a b (Memory.wf_tail h)
    rw [Memory.wf_iff] at h ht
    have hp := List.pairwise_cons.1 h.1
    unfold Memory.write
    split
    · rename_i hlt
      rw [Memory.wf_iff]
      refine ⟨List.pairwise_cons.2 ⟨fun x hx => ?_, ht.1⟩, fun x hx => ?_⟩
      · rcases Memory.mem_write hx with rfl | hx
        · exact hlt
        · exact hp.1 x hx
      · rcases List.mem_cons.1 hx with rfl | hx
        · exact h.2 _ List.mem_cons_self
        · exact ht.2 x hx
    · rename_i hge
      split
      · rename_i he
        split
        · exact Memory.wf_iff.2 ⟨hp.2, fun x hx => h.2 x (List.mem_cons_of_mem _ hx)⟩
        · rename_i hb
          refine Memory.wf_iff.2 ⟨List.pairwise_cons.2 ⟨fun x hx => he ▸ hp.1 x hx, hp.2⟩, fun x hx => ?_⟩
          rcases List.mem_cons.1 hx with rfl | hx
          · exact hb
          · exact h.2 x (List.mem_cons_of_mem _ hx)
      · rename_i hne
        split
        · exact Memory.wf_iff.2 h
        · rename_i hb
          refine Memory.wf_iff.2 ⟨List.pairwise_cons.2 ⟨fun x hx => ?_, h.1⟩, fun x hx => ?_⟩
          · rcases List.mem_cons.1 hx with rfl | hx
            · show a < x.1; omega
            · have := hp.1 x hx; show a < x.1; omega
          · rcases List.mem_cons.1 hx with rfl | hx
            · exact hb
            · exact h.2 x hx

theorem Memory.wf_writeAll : ∀ (bs : List Byte) (a : Nat) {m : Memory}, m.wf dflt = true → (m.writeAll dflt a bs).wf dflt = true
  | [], _, _, h => h
  | b :: bs, a, _, h => Memory.wf_writeAll bs (a + 1) (Memory.wf_write a b h)

theorem Memory.wf_filter (p : Host.Cell → Bool) {m : Memory} (h : m.wf dflt = true) : Memory.wf dflt (m.filter p) = true := by
  rw [Memory.wf_iff] at h ⊢
  exact ⟨h.1.filter p, fun c hc => h.2 c (List.mem_filter.1 hc).1⟩

theorem Memory.wf_clear (lo hi : Nat) {m : Memory} (h : m.wf dflt = true) : (m.clear lo hi).wf dflt = true :=
  Memory.wf_filter _ h

theorem Memory.wf_program (a : Nat) (bs : List Byte) {m : Memory} (h : m.wf erased = true) : (m.program a bs).wf erased = true :=
  Memory.wf_writeAll _ _ h

theorem Memory.wf_tear (n a : Nat) (bs : List Byte) {m : Memory} (h : m.wf erased = true) : (m.tear n a bs).wf erased = true :=
  Memory.wf_program _ _ h

theorem Memory.wf_foldl {α : Type} (f : Memory → α → Memory) (hf : ∀ m a, m.wf dflt = true → (f m a).wf dflt = true) :
    ∀ (l : List α) {m : Memory}, m.wf dflt = true → (l.foldl f m).wf dflt = true
  | [], _, h => h
  | a :: l, _, h => Memory.wf_foldl f hf l (hf _ a h)

theorem Memory.wf_tornErase (n : Nat) (b : Bool) {m : Memory} (h : m.wf erased = true) : (m.tornErase n b).wf erased = true :=
  Memory.wf_foldl _ (fun m i hm => by split; exact Memory.wf_clear _ _ hm; exact hm) _ (Memory.wf_clear _ _ h)

theorem wf_snapErase (pos : Nat) {m : Memory} (h : m.wf erased = true) : (snapErase pos m).wf erased = true := by
  unfold snapErase
  split
  · exact Memory.wf_clear _ _ h
  · exact h

/-- A byte that no entry of a canonical tail can hold. -/
theorem Memory.read_of_lt {a : Nat} : ∀ {m : Memory}, (∀ c ∈ m, a < c.1) → m.read dflt a = dflt a := by
  intro m h
  have : m.find? (fun c => c.1 == a) = none := by
    rw [List.find?_eq_none]; intro c hc; have := h c hc; simp; omega
  simp [Memory.read, this]

theorem Memory.read_cons (c : Host.Cell) (m : Memory) (a : Nat) :
    Memory.read dflt (c :: m) a = if c.1 = a then c.2 else m.read dflt a := by
  by_cases h : c.1 = a
  · simp [Memory.read, List.find?, h]
  · have h' : (c.1 == a) = false := by simpa using h
    simp [Memory.read, List.find?, h, h']

/-- A write reads back at its own address and leaves every other one. -/
theorem Memory.read_write (a : Nat) (b : Byte) (i : Nat) :
    ∀ {m : Memory}, m.wf dflt = true → (m.write dflt a b).read dflt i = if i = a then b else m.read dflt i
  | [], _ => by
    unfold Memory.write
    split
    · rename_i h; subst h; split
      · rename_i h; subst h; rfl
      · rfl
    · rw [Memory.read_cons]
      by_cases h : i = a
      · simp [h]
      · have h' : a ≠ i := fun e => h e.symm
        simp [h, h']
  | d :: ds, h => by
    have ih := Memory.read_write a b i (Memory.wf_tail h)
    have hp := List.pairwise_cons.1 (Memory.wf_iff.1 h).1
    unfold Memory.write
    split
    · rename_i hlt
      rw [Memory.read_cons, Memory.read_cons, ih]
      split
      · rename_i he; subst he; rw [if_neg (by omega)]
      · rfl
    · rename_i hge
      split
      · rename_i he
        have hr : Memory.read dflt ds a = dflt a := Memory.read_of_lt (fun c hc => he ▸ hp.1 c hc)
        split
        · rename_i hb
          rw [Memory.read_cons]
          by_cases hi : i = a
          · rw [if_pos hi, hi, hr, hb]
          · rw [if_neg hi, if_neg (by omega)]
        · rw [Memory.read_cons, Memory.read_cons]
          by_cases hi : i = a
          · rw [if_pos hi.symm, if_pos hi]
          · rw [if_neg (fun e => hi e.symm), if_neg hi, if_neg (by omega)]
      · rename_i hne
        have hr : Memory.read dflt (d :: ds) a = dflt a := Memory.read_of_lt (fun c hc => by
          rcases List.mem_cons.1 hc with rfl | hc
          · omega
          · have := hp.1 c hc; omega)
        split
        · rename_i hb
          by_cases hi : i = a
          · rw [if_pos hi, hi, hr, hb]
          · rw [if_neg hi]
        · rw [Memory.read_cons]
          by_cases hi : i = a
          · rw [if_pos hi.symm, if_pos hi]
          · rw [if_neg (fun e => hi e.symm), if_neg hi]

end Sys2Proof.Machine
end

