-- ==== Sys2Proof/Laws/Raise.lean ====
section
/-! SUPPORT. What a raise does: its source is RAISED, no other bit of the bitmap goes, the block beside the ports and the
collector stays, and at severity LOG or NOTIFY every port keeps all but the cause last raised (R345, R346, R348). -/

namespace Sys2Proof.Machine

@[simp] theorem State.updPort_raised (s : State) (p : PortId) (f : Port → Port) : (s.updPort p f).faults.raised = s.faults.raised := rfl

@[simp] theorem State.send_port (s : State) (code port : Nat) (data : List Byte) (q : PortId) : (s.send code port data).port q = s.port q := rfl
@[simp] theorem State.await_port (s : State) (code port : Nat) (data : List Byte) (q : PortId) : (s.await code port data).port q = s.port q := rfl
@[simp] theorem State.post_port (s : State) (code port : Nat) (data : List Byte) (q : PortId) : (s.post code port data).port q = s.port q := by
  unfold State.post; split <;> rfl
@[simp] theorem State.svcLeave_port (s : State) (p q : PortId) : (s.svcLeave p).port q = s.port q := by
  unfold State.svcLeave State.port; (repeat' split) <;> simp only
@[simp] theorem State.post_faults (s : State) (code port : Nat) (data : List Byte) : (s.post code port data).faults = s.faults := by
  unfold State.post; split <;> rfl
@[simp] theorem State.svcLeave_faults (s : State) (p : PortId) : (s.svcLeave p).faults = s.faults := by
  unfold State.svcLeave; (repeat' split) <;> simp only

@[simp] theorem Faults.owe_raised (g : Faults) (kind : Safe) (p : PortId) : (g.owe kind p).raised = g.raised := by
  unfold Faults.owe; split <;> rfl

@[simp] theorem State.quiescePort_raised (s : State) (kind : Safe) (p : PortId) : (s.quiescePort kind p).faults.raised = s.faults.raised := by
  unfold State.quiescePort; split <;> simp

theorem foldl_raised {α} (f : State → α → State) (h : ∀ t a, (f t a).faults.raised = t.faults.raised) :
    ∀ (l : List α) (s : State), (l.foldl f s).faults.raised = s.faults.raised
  | [], _ => rfl
  | a :: l, s => by rw [List.foldl_cons, foldl_raised f h l, h]

@[simp] theorem State.holdDevice_raised (s : State) : s.holdDevice.faults.raised = s.faults.raised := rfl

@[simp] theorem State.react_raised (s : State) (sev src : Nat) : (s.react sev src).faults.raised = s.faults.raised := by
  unfold State.react
  split
  · exact foldl_raised _ (fun _ _ => by simp) _ _
  · split
    · rw [State.holdDevice_raised]; exact foldl_raised _ (fun _ _ => by simp) _ _
    · rfl

@[simp] theorem State.reactAgain_raised (s : State) (sev : Nat) (o : Option Nat) : (s.reactAgain sev o).faults.raised = s.faults.raised := by
  cases o <;> simp [State.reactAgain]

@[simp] theorem State.faultEvent_raised (s : State) (r : Raise) (f : FaultRec) (sev : Nat) :
    (s.faultEvent r f sev).faults.raised = s.faults.raised := by
  unfold State.faultEvent; split <;> simp

@[simp] theorem Faults.logRec_raised (g : Faults) (f : FaultRec) : (g.logRec f).raised = g.raised := by
  unfold Faults.logRec; split <;> rfl

@[simp] theorem Faults.latchRaise_raised (g : Faults) (r : Raise) (sev : Nat) (b : Beat) : (g.latchRaise r sev b).raised = g.raised := by
  unfold Faults.latchRaise; split <;> rfl

@[simp] theorem State.noteCause_faults (s : State) (r : Raise) : (s.noteCause r).faults = s.faults := by
  unfold State.noteCause; split <;> rfl

/-- One raise sets its own bit of RAISED and no other. -/
theorem State.raiseOne_raised (s : State) (named : Bool) (r : Raise) (h : reservedSource r.src = false) :
    (s.raiseOne named r).faults.raised = setBit256 s.faults.raised r.src := by
  unfold State.raiseOne
  rw [if_neg (by simp [h])]
  dsimp only
  split
  · simp [Faults.mark]
  · simp [Faults.mark]

theorem setBit256_self (v : BitVec 256) {n : Nat} (h : n < 256) : (setBit256 v n).getLsbD n = true := by
  simp [setBit256, h]

theorem setBit256_mono (v : BitVec 256) (n m : Nat) (h : v.getLsbD m = true) : (setBit256 v n).getLsbD m = true := by
  simp [setBit256, h]

theorem orderRaises_single (s : State) (r : Raise) : orderRaises s [r] = [r] := by
  simp only [orderRaises, List.any_cons, List.any_nil, Bool.or_false, List.filter_cons, List.filter_nil]
  cases h : r.forced <;> simp [insertRaise]

theorem reserved_lt {n : Nat} (h : reservedSource n = false) : n < 256 := by
  simp [reservedSource] at h; omega

/-- A raised source of R343 is RAISED. -/
theorem State.raise_raised (s : State) (r : Raise) (h : reservedSource r.src = false) : (s.raise r).faults.raised.getLsbD r.src = true := by
  simp only [State.raise, State.raiseAll, orderRaises_single, raiseList, State.modFaults_faults]
  rw [State.raiseOne_raised _ _ _ h]
  exact setBit256_self _ (reserved_lt h)

theorem State.raise_raised_mono (s : State) (r : Raise) (h : reservedSource r.src = false) (m : Nat) (hm : s.faults.raised.getLsbD m = true) :
    (s.raise r).faults.raised.getLsbD m = true := by
  simp only [State.raise, State.raiseAll, orderRaises_single, raiseList, State.modFaults_faults]
  rw [State.raiseOne_raised _ _ _ h]
  exact setBit256_mono _ _ _ hm

theorem port_notReserved (p : PortId) : reservedSource (64 + p.val) = false := by
  have := p.isLt; simp [reservedSource]; omega

/-- A port cause raised is RAISED. -/
theorem State.raisePort_raised (s : State) (p : PortId) (code detail : Nat) :
    (s.raisePort p code detail).faults.raised.getLsbD (64 + p.val) = true :=
  s.raise_raised (portRaise p code detail) (port_notReserved p)

/-- Abandoning a calibration touches the harness record alone. -/
theorem Port.abandonRun_eq (x : Port) : x.abandonRun = { x with harn := x.abandonRun.harn } := by
  unfold Port.abandonRun Port.abandonCal; (repeat' split) <;> rfl

/-- Quiescing leaves the connection state. -/
theorem Port.quiesce_st (b : Beat) (x : Port) : (x.quiesce b).tc.st = x.tc.st := by
  unfold Port.quiesce; rw [Port.abandonRun_eq]; rfl

/-! ### What a raise can do to a port -/

/-- A property of a port that quiescing, turning the gate off, noting a cause and a new grant, with the Rp it presents, keep is kept by every raise. -/
structure PortKept (I : Port → Prop) : Prop where
  quiesce : ∀ b x, I x → I (x.quiesce b)
  gateOff : ∀ b x, I x → I (x.gateOff b)
  cause : ∀ x c, I x → I { x with guard := { x.guard with lastCause := c } }
  grant : ∀ x g, I x → I ({ x with grant := g } : Port).refreshRp

theorem PortKept.quiescePort {I : Port → Prop} (k : PortKept I) (s : State) (kind : Safe) (p q : PortId) (h : I (s.port q)) :
    I ((s.quiescePort kind p).port q) := by
  have key : ∀ (t : State) (f : Port → Port), (∀ x, I x → I (f x)) → I (t.port q) → I ((t.updPort p f).port q) := by
    intro t f hf ht
    by_cases e : q = p
    · subst e
      obtain hg | ⟨g, hg⟩ := t.port_updPort q f
      · rw [hg]; exact hf _ ht
      · rw [hg]; exact k.grant _ _ (hf _ ht)
    · rw [State.port_updPort_ne t e]; exact ht
  unfold State.quiescePort
  split
  · exact key _ _ (k.gateOff _) (by simpa using h)
  · exact key _ _ (k.quiesce _) h

theorem PortKept.foldl {I : Port → Prop} {α} (f : State → α → State) (q : PortId) (h : ∀ t a, I (t.port q) → I ((f t a).port q)) :
    ∀ (l : List α) (s : State), I (s.port q) → I ((l.foldl f s).port q)
  | [], _, hs => hs
  | a :: l, s, hs => by rw [List.foldl_cons]; exact PortKept.foldl f q h l _ (h s a hs)

theorem PortKept.react {I : Port → Prop} (k : PortKept I) (s : State) (sev src : Nat) (q : PortId) (h : I (s.port q)) :
    I ((s.react sev src).port q) := by
  unfold State.react
  split
  · exact PortKept.foldl _ q (fun t p ht => k.quiescePort t _ p q ht) _ _ h
  · split
    · have hd : ∀ t : State, t.holdDevice.port q = t.port q := fun _ => rfl
      rw [hd]
      exact PortKept.foldl _ q (fun t p ht => k.quiescePort t _ p q ht) _ _ h
    · exact h

theorem PortKept.raiseOne {I : Port → Prop} (k : PortKept I) (s : State) (named : Bool) (r : Raise) (q : PortId) (h : I (s.port q)) :
    I ((s.raiseOne named r).port q) := by
  have hn : I ((s.noteCause r).port q) := by
    unfold State.noteCause
    split
    · rename_i p _
      by_cases e : q = p
      · subst e; rw [State.port_modPort]; exact k.cause _ _ h
      · rw [State.port_modPort_ne s e]; exact h
    · exact h
  have he : ∀ (t : State) (f : FaultRec) (v : Nat), (t.faultEvent r f v).port q = t.port q := by
    intro t f v; unfold State.faultEvent; split <;> simp
  have ha : ∀ (t : State) (v : Nat) (o : Option Nat), I (t.port q) → I ((t.reactAgain v o).port q) := by
    intro t v o ht; cases o
    · exact ht
    · exact k.react _ _ _ _ ht
  unfold State.raiseOne
  split
  · exact h
  · dsimp only
    split
    · exact h
    · exact k.react _ _ _ _ (ha _ _ _ (by rw [he]; exact hn))

theorem PortKept.raiseAll {I : Port → Prop} (k : PortKept I) (s : State) (rs : List Raise) (q : PortId) (h : I (s.port q)) :
    I ((s.raiseAll rs).port q) := by
  have hl : ∀ (l : List Raise) (t : State) (o : Option Nat), I (t.port q) → I ((raiseList t o l).port q) := by
    intro l
    induction l with
    | nil => intro t o ht; exact ht
    | cons r l ih => intro t o ht; rw [raiseList]; exact ih _ _ (k.raiseOne _ _ _ _ ht)
  exact hl _ _ _ h

theorem PortKept.raise {I : Port → Prop} (k : PortKept I) (s : State) (r : Raise) (q : PortId) (h : I (s.port q)) :
    I ((s.raise r).port q) := k.raiseAll s [r] q h

theorem PortKept.raisePort {I : Port → Prop} (k : PortKept I) (s : State) (p : PortId) (c d : Nat) (q : PortId) (h : I (s.port q)) :
    I ((s.raisePort p c d).port q) := k.raise s _ q h

@[simp] theorem Port.quiesce_cfg (b : Beat) (x : Port) : (x.quiesce b).cfg = x.cfg := by
  unfold Port.quiesce; rw [Port.abandonRun_eq]; rfl
@[simp] theorem Port.quiesce_ctx (b : Beat) (x : Port) : (x.quiesce b).ctx = x.ctx := by
  unfold Port.quiesce; rw [Port.abandonRun_eq]; rfl
@[simp] theorem Port.quiesce_pd (b : Beat) (x : Port) : (x.quiesce b).pd = x.pd := by
  unfold Port.quiesce; rw [Port.abandonRun_eq]; rfl
@[simp] theorem Port.quiesce_timers (b : Beat) (x : Port) : (x.quiesce b).timers = x.timers := by
  unfold Port.quiesce; rw [Port.abandonRun_eq]; rfl

/-- The connection state, the parameters, the contexts, the Policy Engine and the timers are kept; the P bit and the gate may only
fall. -/
theorem portKept_st (v : Tc) : PortKept fun x => x.tc.st = v :=
  ⟨fun b x h => by rw [Port.quiesce_st]; exact h, fun _ _ h => h, fun _ _ h => h, fun _ _ h => h⟩
theorem portKept_pReady : PortKept fun x => x.tc.pReady = false :=
  ⟨fun _ _ _ => rfl, fun _ _ h => h, fun _ _ h => h, fun _ _ h => h⟩
theorem portKept_cfg (v : PortCfg) : PortKept fun x => x.cfg = v :=
  ⟨fun b x h => by rw [Port.quiesce_cfg]; exact h, fun _ _ h => h, fun _ _ h => h, fun _ _ h => h⟩
theorem portKept_pd (v : Pd) : PortKept fun x => x.pd = v :=
  ⟨fun b x h => by rw [Port.quiesce_pd]; exact h, fun _ _ h => h, fun _ _ h => h, fun _ _ h => h⟩
theorem portKept_ctx (v : Vector Ctx 3) : PortKept fun x => x.ctx = v :=
  ⟨fun b x h => by rw [Port.quiesce_ctx]; exact h, fun _ _ h => h, fun _ _ h => h, fun _ _ h => h⟩
theorem portKept_timers (v : Vector Timer 12) : PortKept fun x => x.timers = v :=
  ⟨fun b x h => by rw [Port.quiesce_timers]; exact h, fun _ _ h => h, fun _ _ h => h, fun _ _ h => h⟩
theorem portKept_gateOn : PortKept fun x => x.guard.gateOn = false :=
  ⟨fun b x h => by unfold Port.quiesce; rw [Port.abandonRun_eq]; rfl, fun _ _ h => rfl, fun _ _ h => h, fun _ _ h => h⟩
theorem portKept_idle : PortKept fun x => x.stage.mode = .idle :=
  ⟨fun b x h => by unfold Port.quiesce; rw [Port.abandonRun_eq]; rfl, fun _ _ h => h, fun _ _ h => h, fun _ _ h => h⟩
theorem portKept_vconnOff : PortKept fun x => x.tc.vconnOn = false :=
  ⟨fun b x h => by unfold Port.quiesce; rw [Port.abandonRun_eq]; rfl, fun _ _ h => h, fun _ _ h => h, fun _ _ h => h⟩
theorem portKept_wet (u v : Bool) : PortKept fun x => x.tc.wet = u ∧ x.tc.corroded = v :=
  ⟨fun b x h => by unfold Port.quiesce; rw [Port.abandonRun_eq]; exact h, fun _ _ h => h, fun _ _ h => h, fun _ _ h => h⟩

@[simp] theorem State.raise_st (s : State) (r : Raise) (q : PortId) : ((s.raise r).port q).tc.st = (s.port q).tc.st :=
  (portKept_st _).raise s r q rfl
@[simp] theorem State.raisePort_st (s : State) (p : PortId) (c d : Nat) (q : PortId) : ((s.raisePort p c d).port q).tc.st = (s.port q).tc.st :=
  s.raise_st _ q
@[simp] theorem State.raise_cfg (s : State) (r : Raise) (q : PortId) : ((s.raise r).port q).cfg = (s.port q).cfg :=
  (portKept_cfg _).raise s r q rfl
@[simp] theorem State.raise_pd (s : State) (r : Raise) (q : PortId) : ((s.raise r).port q).pd = (s.port q).pd :=
  (portKept_pd _).raise s r q rfl
@[simp] theorem State.raisePort_pd (s : State) (p : PortId) (c d : Nat) (q : PortId) : ((s.raisePort p c d).port q).pd = (s.port q).pd :=
  s.raise_pd _ q
@[simp] theorem State.raise_ctx (s : State) (r : Raise) (q : PortId) : ((s.raise r).port q).ctx = (s.port q).ctx :=
  (portKept_ctx _).raise s r q rfl
@[simp] theorem State.raisePort_ctx (s : State) (p : PortId) (c d : Nat) (q : PortId) : ((s.raisePort p c d).port q).ctx = (s.port q).ctx :=
  s.raise_ctx _ q
@[simp] theorem State.raise_timers (s : State) (r : Raise) (q : PortId) : ((s.raise r).port q).timers = (s.port q).timers :=
  (portKept_timers _).raise s r q rfl
@[simp] theorem State.raisePort_timers (s : State) (p : PortId) (c d : Nat) (q : PortId) :
    ((s.raisePort p c d).port q).timers = (s.port q).timers := s.raise_timers _ q

end Sys2Proof.Machine
end

