-- ==== Sys2Proof/Laws/Others.lean ====
section
/-! SUPPORT. An operation of one port leaves every other port as it is. One lemma per operation. -/

namespace Sys2Proof.Machine


theorem foldl_port {α} (q : PortId) (f : State → α → State) (h : ∀ t a, (f t a).port q = t.port q) :
    ∀ (l : List α) (s : State), (l.foldl f s).port q = s.port q
  | [], _ => rfl
  | a :: l, s => by rw [List.foldl_cons, foldl_port q f h l, h]

theorem port_mk (b d p c k sh po h f fe bu y pol st sv pe) (q : PortId) :
    State.port (State.mk b d p c k sh po h f fe bu y pol st sv pe) q = p[q] := rfl

theorem port_of_eq {α : Type} {r : State × α} {t : State} {a : α} (q : PortId) (h : r = (t, a)) : t.port q = r.1.port q := by rw [h]

@[simp] theorem State.modCluster_port (s : State) (c : ClusterId) (f : Cluster → Cluster) (q : PortId) : (State.modCluster s c f).port q = s.port q := rfl
@[simp] theorem State.modCore_port (s : State) (k : CoreId) (f : CoreSt → CoreSt) (q : PortId) : (State.modCore s k f).port q = s.port q := rfl
@[simp] theorem State.modBoard_port (s : State) (f : Board → Board) (q : PortId) : (State.modBoard s f).port q = s.port q := rfl
@[simp] theorem State.modPool_port (s : State) (f : Pool → Pool) (q : PortId) : (State.modPool s f).port q = s.port q := rfl
@[simp] theorem State.modHost_port (s : State) (f : HostPort → HostPort) (q : PortId) : (State.modHost s f).port q = s.port q := rfl
@[simp] theorem State.modFaults_port (s : State) (f : Faults → Faults) (q : PortId) : (State.modFaults s f).port q = s.port q := rfl
@[simp] theorem State.modFeed_port (s : State) (f : FeedDie → FeedDie) (q : PortId) : (State.modFeed s f).port q = s.port q := rfl
@[simp] theorem State.modBudget_port (s : State) (f : Budget → Budget) (q : PortId) : (State.modBudget s f).port q = s.port q := rfl
@[simp] theorem State.modYarrow_port (s : State) (f : Yarrow → Yarrow) (q : PortId) : (State.modYarrow s f).port q = s.port q := rfl
@[simp] theorem State.modPolicy_port (s : State) (f : Policy → Policy) (q : PortId) : (State.modPolicy s f).port q = s.port q := rfl
@[simp] theorem State.modStore_port (s : State) (f : Store → Store) (q : PortId) : (State.modStore s f).port q = s.port q := rfl
@[simp] theorem State.modSvc_port (s : State) (f : Service → Service) (q : PortId) : (State.modSvc s f).port q = s.port q := rfl
@[simp] theorem State.modDev_port (s : State) (f : Dev → Dev) (q : PortId) : (State.modDev s f).port q = s.port q := rfl
@[simp] theorem State.drawn_port (s : State) (q : PortId) : (State.drawn s).port q = s.port q := rfl
@[simp] theorem State.setReady_port (s : State) (m : Word) (q : PortId) : (State.setReady s m).port q = s.port q := rfl
@[simp] theorem State.clearReady_port (s : State) (m : Word) (q : PortId) : (State.clearReady s m).port q = s.port q := rfl
@[simp] theorem State.complete_port (s : State) (st : Stream) (opc : Nat) (tag : Nat) (status : Nat) (tgt : Nat) (port : Nat) (result : List Byte) (q : PortId) : (State.complete s st opc tag status tgt port result).port q = s.port q := by
  unfold State.complete State.answerLater State.completeNow; dsimp only; (repeat' split) <;> rfl
@[simp] theorem State.withdraw_port_ne (s : State) (p : PortId) {q : PortId} (h : q ≠ p) : (State.withdraw s p).port q = s.port q := by
  have h := foldl_port q (fun (t : State) (d : Decision) => t.post 0xC3 p.val (closedPayload d.id d.point 3 0xFF s.board.beat))
    (fun _ _ => by simp) (s.policy.decisions.filter (fun d => d.port == p)) s
  exact h
@[simp] theorem State.endSwapReq_port_ne (s : State) (p : PortId) (status : Nat) (result : Nat) {q : PortId} (h : q ≠ p) : (State.endSwapReq s p status result).port q = s.port q := by
  simp only [State.endSwapReq]; (repeat' split) <;> simp [h]
@[simp] theorem State.endSend_port_ne (s : State) (p : PortId) (status : Nat) (tx : Nat) (resp : Nat) (data : List Byte) {q : PortId} (h : q ≠ p) : (State.endSend s p status tx resp data).port q = s.port q := by
  simp only [State.endSend]; (repeat' split) <;> simp [h]
@[simp] theorem State.endSoft_port_ne (s : State) (p : PortId) (status : Nat) (tx : Nat) (acc : Nat) {q : PortId} (h : q ≠ p) : (State.endSoft s p status tx acc).port q = s.port q := by
  simp only [State.endSoft]; (repeat' split) <;> simp [h]
@[simp] theorem State.endVdm_port_ne (s : State) (p : PortId) (status : Nat) (result : Nat) (reply : List Byte) {q : PortId} (h : q ≠ p) : (State.endVdm s p status result reply).port q = s.port q := by
  simp only [State.endVdm]; (repeat' split) <;> simp [h]
@[simp] theorem State.endWork_port_ne (s : State) (p : PortId) (status : Nat) (swapRes : Nat) {q : PortId} (h : q ≠ p) : (State.endWork s p status swapRes).port q = s.port q := by
  simp [h, State.endWork]
@[simp] theorem State.dropPort_port_ne (s : State) (p : PortId) (status : Nat) (swapRes : Nat) (f : Port → Port) {q : PortId} (h : q ≠ p) : (State.dropPort s p status swapRes f).port q = s.port q := by
  simp [h, State.dropPort]
@[simp] theorem State.errorRecovery_port_ne (s : State) (p : PortId) (swapRes : Nat) {q : PortId} (h : q ≠ p) : (State.errorRecovery s p swapRes).port q = s.port q := by
  simp [h, State.errorRecovery]
@[simp] theorem State.releaseSen_port (s : State) (c : ClusterId) (q : PortId) : (State.releaseSen s c).port q = s.port q := by
  simp only [State.releaseSen]; (repeat' split) <;> simp
@[simp] theorem State.dischargeStep_port_ne (s : State) (p : PortId) {q : PortId} (h : q ≠ p) : (State.dischargeStep s p).port q = s.port q := by
  simp only [State.dischargeStep]; (repeat' split) <;> simp [h]
@[simp] theorem State.startEnabled_port_ne (s : State) (p : PortId) {q : PortId} (h : q ≠ p) : (State.startEnabled s p).port q = s.port q := by
  simp only [State.startEnabled]; (repeat' split) <;> simp [h]
@[simp] theorem State.closeDefault_port_ne (s : State) (p : PortId) (id point dflt : Nat) {q : PortId} (h : q ≠ p) : (State.closeDefault s p id point dflt).port q = s.port q := by
  simp [h, State.closeDefault]
@[simp] theorem State.ask_port_ne (s : State) (p : PortId) (point : Nat) (i : Fin 32) (eop : Beat) (obj : Word) (pdo : Word) {q : PortId} (h : q ≠ p) : (State.ask s p point i eop obj pdo).1.port q = s.port q := by
  simp only [State.ask]; (repeat' split) <;> simp [h]
@[simp] theorem State.resolve_port_ne (s : State) (p : PortId) (point : Nat) (a : Answer) (eop : Beat) (obj : Word) (pdo : Word) {q : PortId} (h : q ≠ p) : (State.resolve s p point a eop obj pdo).1.port q = s.port q := by
  simp only [State.resolve]; (repeat' split) <;> simp [h]
@[simp] theorem State.moistEvents_port_ne (s : State) (p : PortId) (v : Verdict) (k z : List Nat) (o : List Int) {q : PortId} (h : q ≠ p) : (State.moistEvents s p v k z o).port q = s.port q := by
  simp only [State.moistEvents]; (repeat' split) <;> simp [h]
@[simp] theorem State.recheckEnd_port_ne (s : State) (p : PortId) (v : Verdict) (c : Bool) {q : PortId} (h : q ≠ p) : (State.recheckEnd s p v c).port q = s.port q := by
  simp only [State.recheckEnd]; (repeat' split) <;> simp [h]
@[simp] theorem State.afterSweep_port_ne (s : State) (p : PortId) (v : Verdict) (k z : List Nat) (o : List Int) {q : PortId} (h : q ≠ p) : (State.afterSweep s p v k z o).port q = s.port q := by
  simp only [State.afterSweep]; (repeat' split) <;> simp [h]
@[simp] theorem State.loadFlight_port_ne (s : State) (p : PortId) {q : PortId} (h : q ≠ p) : (State.loadFlight s p).port q = s.port q := by
  simp only [State.loadFlight]; (repeat' split) <;> simp [h]
@[simp] theorem State.queueTx_port_ne (s : State) (p : PortId) (t : Tgt) (why : Purpose) (bytes : List Byte) {q : PortId} (h : q ≠ p) : (State.queueTx s p t why bytes).port q = s.port q := by
  first | rfl | (simp only [State.queueTx]; (repeat' split) <;> first | (simp [h]; done) | rfl | (simp [h, port_mk]; rfl))
@[simp] theorem State.retryHeld_port_ne (s : State) (p : PortId) {q : PortId} (h : q ≠ p) : (State.retryHeld s p).port q = s.port q := by
  first | rfl | (simp only [State.retryHeld]; (repeat' split) <;> first | (simp [h]; done) | rfl | (simp [h, port_mk]; rfl))
@[simp] theorem State.txEnd_port_ne (s : State) (p : PortId) (r : TxResult) {q : PortId} (h : q ≠ p) : (State.txEnd s p r).port q = s.port q := by
  simp only [State.txEnd]; (repeat' split) <;> simp [h]
@[simp] theorem State.killTx_port_ne (s : State) (p : PortId) (only : Tgt → Bool) (r : TxResult) {q : PortId} (h : q ≠ p) : (State.killTx s p only r).port q = s.port q := by
  simp only [State.killTx]; (repeat' split) <;> simp [h]
theorem State.found_sound (s : State) (q : QueueId) : s.found q .sound = s := rfl
theorem foldl_found : ∀ (l : List Packet) (c : QueueId) (s : State), (∀ k ∈ l, k.flaw = .sound) →
    l.foldl (fun (t : State) k => t.found c k.flaw) s = s
  | [], _, _, _ => rfl
  | k :: l, c, s, h => by
    rw [List.foldl_cons, h k (by simp), State.found_sound, foldl_found l c s fun j hj => h j (by simp [hj])]
/-- Dropping messages that have lapsed reaches no port where their cells are sound: one that is not may raise POOL_PARITY, whose reaction
has the whole module as its scope. -/
theorem State.dropStale_port (s : State) (p q : PortId) (h : ∀ k ∈ (s.pool.queues[qRx (clusterOf p)]).closed, k.flaw = .sound) :
    (State.dropStale s p).port q = s.port q := by
  unfold State.dropStale
  dsimp only
  split
  · rfl
  · rw [foldl_found _ _ _ fun k hk => h k (List.mem_of_mem_filter hk)]; rfl
@[simp] theorem State.rxTake_port_ne (s : State) (p : PortId) (m : RxMsg) {q : PortId} (h : q ≠ p) : (State.rxTake s p m).port q = s.port q := by
  simp only [State.rxTake]; (repeat' split) <;> simp [h]
@[simp] theorem State.reply_port_ne (s : State) (p : PortId) (why : Purpose) (bytes : List Byte) {q : PortId} (h : q ≠ p) : (State.reply s p why bytes).port q = s.port q := by
  simp [h, State.reply]
@[simp] theorem State.sendExt_port_ne (s : State) (p : PortId) (t : Tgt) (why : Purpose) (type : Nat) (data : List Byte) {q : PortId} (h : q ≠ p) : (State.sendExt s p t why type data).port q = s.port q := by
  simp [h, State.sendExt]
@[simp] theorem State.sendCaps_port_ne (s : State) (p : PortId) {q : PortId} (h : q ≠ p) : (State.sendCaps s p).port q = s.port q := by
  simp only [State.sendCaps]; (repeat' split) <;> simp [h]
@[simp] theorem State.launch_port_ne (s : State) (p : PortId) {q : PortId} (h : q ≠ p) : (State.launch s p).port q = s.port q := by
  simp only [State.launch]; (repeat' split) <;> simp [h]
@[simp] theorem State.beginAms_port_ne (s : State) (p : PortId) (t : Tgt) (why : Purpose) (bytes : List Byte) {q : PortId} (h : q ≠ p) : (State.beginAms s p t why bytes).port q = s.port q := by
  simp only [State.beginAms]; (repeat' split) <;> simp [h]
@[simp] theorem State.endVdmOn_port_ne (s : State) (p : PortId) (only : Tgt → Bool) {q : PortId} (h : q ≠ p) : (State.endVdmOn s p only).port q = s.port q := by
  simp only [State.endVdmOn]; (repeat' split) <;> simp [h]
@[simp] theorem State.dropPlug_port_ne (s : State) (p : PortId) {q : PortId} (h : q ≠ p) : (State.dropPlug s p).port q = s.port q := by
  simp only [State.dropPlug]; (repeat' split) <;> simp [h]
@[simp] theorem State.kick_port_ne (s : State) (p : PortId) {q : PortId} (h : q ≠ p) : (State.kick s p).port q = s.port q := by
  simp only [State.kick]; (repeat' split) <;> simp [h]
@[simp] theorem State.ownDone_port_ne (s : State) (p : PortId) {q : PortId} (h : q ≠ p) : (State.ownDone s p).port q = s.port q := by
  simp [h, State.ownDone]
@[simp] theorem State.partnerDone_port_ne (s : State) (p : PortId) {q : PortId} (h : q ≠ p) : (State.partnerDone s p).port q = s.port q := by
  simp only [State.partnerDone]; (repeat' split) <;> simp [h]
@[simp] theorem State.amsDone_port_ne (s : State) (p : PortId) {q : PortId} (h : q ≠ p) : (State.amsDone s p).port q = s.port q := by
  simp [h, State.amsDone]
@[simp] theorem State.notSupported_port_ne (s : State) (p : PortId) {q : PortId} (h : q ≠ p) : (State.notSupported s p).port q = s.port q := by
  simp only [State.notSupported]; (repeat' split) <;> simp [h]
@[simp] theorem State.notSupportedOn_port_ne (s : State) (p : PortId) (t : Tgt) {q : PortId} (h : q ≠ p) : (State.notSupportedOn s p t).port q = s.port q := by
  simp only [State.notSupportedOn]; (repeat' split) <;> simp [h]
@[simp] theorem State.discardWindow_port_ne (s : State) (p : PortId) {q : PortId} (h : q ≠ p) : (State.discardWindow s p).port q = s.port q := by
  simp only [State.discardWindow]; (repeat' split) <;> simp [h]
@[simp] theorem State.abortAttempt_port_ne (s : State) (p : PortId) {q : PortId} (h : q ≠ p) : (State.abortAttempt s p).port q = s.port q := by
  simp only [State.abortAttempt]; (repeat' split) <;> simp [h]
@[simp] theorem State.orderHr_port_ne (s : State) (p : PortId) {q : PortId} (h : q ≠ p) : (State.orderHr s p).port q = s.port q := by
  simp only [State.orderHr]; (repeat' split) <;> simp [h]
@[simp] theorem State.hardReset_port_ne (s : State) (p : PortId) (sent : Bool) {q : PortId} (h : q ≠ p) : (State.hardReset s p sent).port q = s.port q := by
  simp only [State.hardReset]; (repeat' split) <;> simp [h]
@[simp] theorem State.softQuiet_port_ne (s : State) (p : PortId) {q : PortId} (h : q ≠ p) : (State.softQuiet s p).port q = s.port q := by
  simp only [State.softQuiet]; (repeat' split) <;> simp [h]
@[simp] theorem State.eprFail_port_ne (s : State) (p : PortId) (cause : Nat) {q : PortId} (h : q ≠ p) : (State.eprFail s p cause).port q = s.port q := by
  simp [h, State.eprFail]
@[simp] theorem State.eprCheck_port_ne (s : State) (p : PortId) {q : PortId} (h : q ≠ p) : (State.eprCheck s p).port q = s.port q := by
  simp only [State.eprCheck]; (repeat' split) <;> simp [h]
@[simp] theorem State.eprGo_port_ne (s : State) (p : PortId) {q : PortId} (h : q ≠ p) : (State.eprGo s p).port q = s.port q := by
  simp only [State.eprGo]; (repeat' split) <;> simp [h]
@[simp] theorem State.sendSoft_port_ne (s : State) (p : PortId) (t : Tgt) {q : PortId} (h : q ≠ p) : (State.sendSoft s p t).port q = s.port q := by
  simp only [State.sendSoft]; (repeat' split) <;> simp [h]
@[simp] theorem State.txError_port_ne (s : State) (p : PortId) (t : Tgt) {q : PortId} (h : q ≠ p) : (State.txError s p t).port q = s.port q := by
  simp only [State.txError]; (repeat' split) <;> simp [h]
@[simp] theorem State.unexpected_port_ne (s : State) (p : PortId) {q : PortId} (h : q ≠ p) : (State.unexpected s p).port q = s.port q := by
  simp only [State.unexpected]; (repeat' split) <;> simp [h]
@[simp] theorem State.armBackoff_port_ne (s : State) (p : PortId) {q : PortId} (h : q ≠ p) : (State.armBackoff s p).port q = s.port q := by
  simp only [State.armBackoff]; (repeat' split) <;> simp [h]
@[simp] theorem State.afterSoft_port_ne (s : State) (p : PortId) {q : PortId} (h : q ≠ p) : (State.afterSoft s p).port q = s.port q := by
  simp only [State.afterSoft]; (repeat' split) <;> simp [h]
@[simp] theorem State.contractMade_port_ne (s : State) (p : PortId) (t : Transition) {q : PortId} (h : q ≠ p) : (State.contractMade s p t).port q = s.port q := by
  simp only [State.contractMade]; (repeat' split) <;> simp [h]
@[simp] theorem State.eprOutcome_port_ne (s : State) (p : PortId) (oc : Nat) {q : PortId} (h : q ≠ p) : (State.eprOutcome s p oc).port q = s.port q := by
  simp only [State.eprOutcome]; (repeat' split) <;> simp [h]
@[simp] theorem State.swapDone_port_ne (s : State) (p : PortId) (own : Bool) {q : PortId} (h : q ≠ p) : (State.swapDone s p own).port q = s.port q := by
  simp only [State.swapDone]; (repeat' split) <;> simp [h]
@[simp] theorem State.beginSwap_port_ne (s : State) (p : PortId) (k : SwapKind) (own : Bool) {q : PortId} (h : q ≠ p) : (State.beginSwap s p k own).port q = s.port q := by
  simp only [State.beginSwap]; (repeat' split) <;> simp [h]
@[simp] theorem State.swapPsRdySent_port_ne (s : State) (p : PortId) (w : Swap) {q : PortId} (h : q ≠ p) : (State.swapPsRdySent s p w).port q = s.port q := by
  simp only [State.swapPsRdySent]; (repeat' split) <;> simp [h]
@[simp] theorem State.vconnLost_port_ne (s : State) (p : PortId) (oc : Bool) {q : PortId} (h : q ≠ p) : (State.vconnLost s p oc).port q = s.port q := by
  simp [h, State.vconnLost]
@[simp] theorem State.identityGot_port_ne (s : State) (p : PortId) (r : List Byte) {q : PortId} (h : q ≠ p) : (State.identityGot s p r).port q = s.port q := by
  simp [h, State.identityGot]
@[simp] theorem State.discoverOver_port_ne (s : State) (p : PortId) (result : Nat) (reply : List Byte) {q : PortId} (h : q ≠ p) : (State.discoverOver s p result reply).port q = s.port q := by
  simp only [State.discoverOver]; (repeat' split) <;> simp [h]
@[simp] theorem State.vdmOver_port_ne (s : State) (p : PortId) (result : Nat) (reply : List Byte) {q : PortId} (h : q ≠ p) : (State.vdmOver s p result reply).port q = s.port q := by
  simp only [State.vdmOver]; (repeat' split) <;> simp [h]
@[simp] theorem State.vdmSent_port_ne (s : State) (p : PortId) {q : PortId} (h : q ≠ p) : (State.vdmSent s p).port q = s.port q := by
  simp only [State.vdmSent]; (repeat' split) <;> simp [h]
@[simp] theorem State.vdmFailed_port_ne (s : State) (p : PortId) (r : TxResult) {q : PortId} (h : q ≠ p) : (State.vdmFailed s p r).port q = s.port q := by
  simp only [State.vdmFailed]; (repeat' split) <;> simp [h]
@[simp] theorem State.eprLookup_port_ne (s : State) (p : PortId) {q : PortId} (h : q ≠ p) : (State.eprLookup s p).port q = s.port q := by
  simp only [State.eprLookup]
  split <;> rename_i h' <;> have h'' := port_of_eq q h' <;> simp [h] at h'' <;> simp [h, h'']
@[simp] theorem State.afterMsg_port_ne (s : State) (p : PortId) (t : Tgt) (why : Purpose) (r : TxResult) {q : PortId} (h : q ≠ p) : (State.afterMsg s p t why r).port q = s.port q := by
  simp only [State.afterMsg]; (repeat' split) <;> simp [h]
@[simp] theorem State.chunkOver_port_ne (s : State) (p : PortId) (t : Tgt) (r : TxResult) {q : PortId} (h : q ≠ p) : (State.chunkOver s p t r).port q = s.port q := by
  simp only [State.chunkOver]; (repeat' split) <;> simp [h]
@[simp] theorem State.afterTx_port_ne (s : State) (p : PortId) (t : Tgt) (why : Purpose) (r : TxResult) {q : PortId} (h : q ≠ p) : (State.afterTx s p t why r).port q = s.port q := by
  simp only [State.afterTx]; (repeat' split) <;> simp [h]
@[simp] theorem State.chunkDrop_port_ne (s : State) (p : PortId) (t : Tgt) (r : TxResult) {q : PortId} (h : q ≠ p) : (State.chunkDrop s p t r).port q = s.port q := by
  simp only [State.chunkDrop]; (repeat' split) <;> simp [h]
@[simp] theorem State.txDone_port_ne (s : State) (p : PortId) (t : Tgt) (why : Purpose) (r : TxResult) {q : PortId} (h : q ≠ p) : (State.txDone s p t why r).port q = s.port q := by
  simp only [State.txDone]; split <;> simp [h]
@[simp] theorem State.discardTx_port_ne (s : State) (p : PortId) (t : Tgt) {q : PortId} (h : q ≠ p) : (State.discardTx s p t).port q = s.port q := by
  simp only [State.discardTx]; rw [foldl_port _ _ (fun _ _ => by simp [h])]; simp [h]
@[simp] theorem State.requestOutcome_port_ne (s : State) (p : PortId) (oc : Nat) {q : PortId} (h : q ≠ p) : (State.requestOutcome s p oc).port q = s.port q := by
  simp only [State.requestOutcome]; (repeat' split) <;> simp [h]
@[simp] theorem State.swapOutcome_port_ne (s : State) (p : PortId) (k : SwapKind) (oc : Nat) {q : PortId} (h : q ≠ p) : (State.swapOutcome s p k oc).port q = s.port q := by
  simp only [State.swapOutcome]; (repeat' split) <;> simp [h]
@[simp] theorem State.selectOutcome_port_ne (s : State) (p : PortId) (cls : Fin 16) (oc : Nat) (rule : Option Rule) (value : Word) {q : PortId} (h : q ≠ p) : (State.selectOutcome s p cls oc rule value).port q = s.port q := by
  simp only [State.selectOutcome]; (repeat' split) <;> simp [h]
@[simp] theorem State.act_port_ne (s : State) (p : PortId) (cls : Fin 16) (point : Nat) (oc : Nat) (rule : Option Rule) (value : Word) {q : PortId} (h : q ≠ p) : (State.act s p cls point oc rule value).port q = s.port q := by
  simp only [State.act]; (repeat' split) <;> simp [h]
@[simp] theorem State.atPoint_port_ne (s : State) (p : PortId) (point : Nat) (m : Rule → Bool) (eop : Beat) (obj : Word) (pdo : Word) {q : PortId} (h : q ≠ p) : (State.atPoint s p point m eop obj pdo).port q = s.port q := by
  simp only [State.atPoint]
  split <;> rename_i h' <;> have h'' := port_of_eq q h' <;> simp [h] at h'' <;> simp [h, h'']
@[simp] theorem State.gotGoodCrc_port_ne (s : State) (p : PortId) (t : Tgt) (id : BitVec 3) {q : PortId} (h : q ≠ p) : (State.gotGoodCrc s p t id).port q = s.port q := by
  simp only [State.gotGoodCrc]; (repeat' split) <;> simp [h]
@[simp] theorem State.attemptFailed_port_ne (s : State) (p : PortId) {q : PortId} (h : q ≠ p) : (State.attemptFailed s p).port q = s.port q := by
  simp only [State.attemptFailed]; (repeat' split) <;> simp [h]
@[simp] theorem State.interrupt_port_ne (s : State) (p : PortId) (m : RxMsg) {q : PortId} (h : q ≠ p) : (State.interrupt s p m).port q = s.port q := by
  simp only [State.interrupt]; (repeat' split) <;> simp [h]
@[simp] theorem State.noteUnserved_port_ne (s : State) (p : PortId) (m : RxMsg) {q : PortId} (h : q ≠ p) : (State.noteUnserved s p m).port q = s.port q := by
  simp only [State.noteUnserved]; split <;> simp [h]
@[simp] theorem State.deliver_port_ne (s : State) (p : PortId) (t : Tgt) (w : WirePacket) (m : Pool) {q : PortId} (h : q ≠ p) : (State.deliver s p t w m).port q = s.port q := by
  have hm : State.port { s with pool := m } q = s.port q := rfl
  generalize hu : ({ s with pool := m } : State) = u at hm
  simp only [State.deliver, hu]; (repeat' split) <;> simp [h, hm]
@[simp] theorem State.receive_port_ne (s : State) (p : PortId) (w : WirePacket) (t : Tgt) {q : PortId} (h : q ≠ p) : (State.receive s p w t).port q = s.port q := by
  simp only [State.receive]; (repeat' split) <;> simp [h]
@[simp] theorem State.newAms_port_ne (s : State) (p : PortId) {q : PortId} (h : q ≠ p) : (State.newAms s p).port q = s.port q := by
  simp only [State.newAms]; (repeat' split) <;> simp [h]
@[simp] theorem State.takeMsg_port_ne (s : State) (p : PortId) (m : RxMsg) {q : PortId} (h : q ≠ p) : (State.takeMsg s p m).port q = s.port q := by
  simp only [State.takeMsg]; (repeat' split) <;> simp [h]
@[simp] theorem State.sendAnswered_port_ne (s : State) (p : PortId) (m : RxMsg) {q : PortId} (h : q ≠ p) : (State.sendAnswered s p m).port q = s.port q := by
  simp [h, State.sendAnswered]
@[simp] theorem State.giveCaps_port_ne (s : State) (p : PortId) (epr : Bool) {q : PortId} (h : q ≠ p) : (State.giveCaps s p epr).port q = s.port q := by
  simp only [State.giveCaps]; (repeat' split) <;> simp [h]
@[simp] theorem State.replyExt_port_ne (s : State) (p : PortId) (type : Nat) (data : List Byte) {q : PortId} (h : q ≠ p) : (State.replyExt s p type data).port q = s.port q := by
  simp [h, State.replyExt]
@[simp] theorem State.servePlain_port_ne (s : State) (p : PortId) (m : RxMsg) {q : PortId} (h : q ≠ p) : (State.servePlain s p m).port q = s.port q := by
  simp only [State.servePlain]; (repeat' split) <;> simp [h]
@[simp] theorem State.noteRevision_port_ne (s : State) (p : PortId) (m : RxMsg) {q : PortId} (h : q ≠ p) : (State.noteRevision s p m).port q = s.port q := by
  simp only [State.noteRevision]; (repeat' split) <;> simp [h]
@[simp] theorem State.resumeAms_port_ne (s : State) (p : PortId) {q : PortId} (h : q ≠ p) : (State.resumeAms s p).port q = s.port q := by
  simp only [State.resumeAms]; (repeat' split) <;> simp [h]
@[simp] theorem State.swapRx_port_ne (s : State) (p : PortId) (k : SwapKind) (m : RxMsg) {q : PortId} (h : q ≠ p) : (State.swapRx s p k m).port q = s.port q := by
  simp only [State.swapRx]; (repeat' split) <;> simp [h]
@[simp] theorem State.extDone_port_ne (s : State) (p : PortId) (m : RxMsg) (size : Nat) (data : List Byte) {q : PortId} (h : q ≠ p) : (State.extDone s p m size data).port q = s.port q := by
  simp [h, State.extDone]
@[simp] theorem State.noAnswer_port_ne (s : State) (p : PortId) {q : PortId} (h : q ≠ p) : (State.noAnswer s p).port q = s.port q := by
  simp only [State.noAnswer]; (repeat' split) <;> simp [h]
@[simp] theorem State.requestAgain_port_ne (s : State) (p : PortId) {q : PortId} (h : q ≠ p) : (State.requestAgain s p).port q = s.port q := by
  simp [h, State.requestAgain]
@[simp] theorem State.vdmBusyGot_port_ne (s : State) (p : PortId) (r : VdmReq) (m : RxMsg) {q : PortId} (h : q ≠ p) : (State.vdmBusyGot s p r m).port q = s.port q := by
  simp only [State.vdmBusyGot]; (repeat' split) <;> simp [h]
@[simp] theorem State.vdmAckGot_port_ne (s : State) (p : PortId) (r : VdmReq) (m : RxMsg) {q : PortId} (h : q ≠ p) : (State.vdmAckGot s p r m).port q = s.port q := by
  simp only [State.vdmAckGot]; (repeat' split) <;> simp [h]
@[simp] theorem State.vdmResponse_port_ne (s : State) (p : PortId) (m : RxMsg) {q : PortId} (h : q ≠ p) : (State.vdmResponse s p m).port q = s.port q := by
  simp only [State.vdmResponse]; (repeat' split) <;> simp [h]
@[simp] theorem State.vdmAck_port_ne (s : State) (p : PortId) (w : Word) (vdos : List Word) {q : PortId} (h : q ≠ p) : (State.vdmAck s p w vdos).port q = s.port q := by
  simp [h, State.vdmAck]
@[simp] theorem State.vdmNak_port_ne (s : State) (p : PortId) (w : Word) {q : PortId} (h : q ≠ p) : (State.vdmNak s p w).port q = s.port q := by
  simp [h, State.vdmNak]
@[simp] theorem State.vdmAnswer_port_ne (s : State) (p : PortId) (w : Word) {q : PortId} (h : q ≠ p) : (State.vdmAnswer s p w).port q = s.port q := by
  simp only [State.vdmAnswer]; (repeat' split) <;> simp [h]
@[simp] theorem State.svcClose_port (s : State) (data : List Byte) (q : PortId) : (State.svcClose s data).port q = s.port q := by
  unfold State.svcClose; (try dsimp only); (repeat' split) <;> rfl
@[simp] theorem State.svcAck_port_ne (s : State) (p : PortId) (w : Word) (seq : Byte) (data : List Byte) {q : PortId} (h : q ≠ p) : (State.svcAck s p w seq data).port q = s.port q := by
  simp [h, State.svcAck]

end Sys2Proof.Machine
end

