-- ==== Sys2Proof/Laws/Power.lean ====
section
/-! SUPPORT. Resets, quieted ports and the C bits of clusters: what each shared operation of chapter 04 does. -/

namespace Sys2Proof.Machine

/-! ### Operations cut short by a reset -/

/-- Where no operation and no snapshot is under way the cut leaves all as it was. -/
theorem State.cutStore_of_none {s : State} (h : s.store.op = none) (hs : s.faults.snap = []) : s.cutStore = s := by
  simp [State.cutStore, State.cutSnap, State.cutOp, h, hs]

@[simp] theorem State.cutOp_op (s : State) : s.cutOp.store.op = none := by
  unfold State.cutOp; dsimp only
  split <;> first | assumption | rfl | (simp only [State.modStore]; split <;> rfl)
@[simp] theorem State.cutStore_op (s : State) : s.cutStore.store.op = none := State.cutOp_op _

@[simp] theorem State.cutSnap_feed (s : State) : s.cutSnap.feed = s.feed := by unfold State.cutSnap; (repeat' split) <;> rfl
@[simp] theorem State.cutOp_feed (s : State) : s.cutOp.feed = s.feed := by unfold State.cutOp; dsimp only; split <;> rfl
@[simp] theorem State.cutStore_feed (s : State) : s.cutStore.feed = s.feed := (State.cutOp_feed _).trans (State.cutSnap_feed s)
@[simp] theorem State.cutSnap_dev (s : State) : s.cutSnap.dev = s.dev := by unfold State.cutSnap; (repeat' split) <;> rfl
@[simp] theorem State.cutOp_dev (s : State) : s.cutOp.dev = s.dev := by unfold State.cutOp; dsimp only; split <;> rfl
@[simp] theorem State.cutStore_dev (s : State) : s.cutStore.dev = s.dev := (State.cutOp_dev _).trans (State.cutSnap_dev s)
@[simp] theorem State.cutSnap_ports (s : State) : s.cutSnap.ports = s.ports := by unfold State.cutSnap; (repeat' split) <;> rfl
@[simp] theorem State.cutOp_ports (s : State) : s.cutOp.ports = s.ports := by unfold State.cutOp; dsimp only; split <;> rfl
@[simp] theorem State.cutStore_ports (s : State) : s.cutStore.ports = s.ports := (State.cutOp_ports _).trans (State.cutSnap_ports s)
@[simp] theorem State.cutSnap_clusters (s : State) : s.cutSnap.clusters = s.clusters := by unfold State.cutSnap; (repeat' split) <;> rfl
@[simp] theorem State.cutOp_clusters (s : State) : s.cutOp.clusters = s.clusters := by unfold State.cutOp; dsimp only; split <;> rfl
@[simp] theorem State.cutStore_clusters (s : State) : s.cutStore.clusters = s.clusters := (State.cutOp_clusters _).trans (State.cutSnap_clusters s)
@[simp] theorem State.cutSnap_pending (s : State) : s.cutSnap.pending = s.pending := by unfold State.cutSnap; (repeat' split) <;> rfl
@[simp] theorem State.cutOp_pending (s : State) : s.cutOp.pending = s.pending := by unfold State.cutOp; dsimp only; split <;> rfl
@[simp] theorem State.cutStore_pending (s : State) : s.cutStore.pending = s.pending := (State.cutOp_pending _).trans (State.cutSnap_pending s)
@[simp] theorem State.cutSnap_beat (s : State) : s.cutSnap.board.beat = s.board.beat := by unfold State.cutSnap; (repeat' split) <;> rfl
@[simp] theorem State.cutOp_beat (s : State) : s.cutOp.board.beat = s.board.beat := by unfold State.cutOp; dsimp only; split <;> rfl
@[simp] theorem State.cutStore_beat (s : State) : s.cutStore.board.beat = s.board.beat := (State.cutOp_beat _).trans (State.cutSnap_beat s)
@[simp] theorem State.cutSnap_svcOn (s : State) : s.cutSnap.board.svcOn = s.board.svcOn := by unfold State.cutSnap; (repeat' split) <;> rfl
@[simp] theorem State.cutOp_svcOn (s : State) : s.cutOp.board.svcOn = s.board.svcOn := by unfold State.cutOp; dsimp only; split <;> rfl
@[simp] theorem State.cutStore_svcOn (s : State) : s.cutStore.board.svcOn = s.board.svcOn := (State.cutOp_svcOn _).trans (State.cutSnap_svcOn s)

@[simp] theorem Port.present_st (svc : Bool) (x : Port) : (x.present svc).tc.st = x.tc.st := rfl
@[simp] theorem Port.present_pReady (svc : Bool) (x : Port) : (x.present svc).tc.pReady = x.tc.pReady := rfl
@[simp] theorem Port.present_harn (svc : Bool) (x : Port) : (x.present svc).harn = x.harn := rfl
@[simp] theorem Port.present_guard (svc : Bool) (x : Port) : (x.present svc).guard = x.guard := rfl
@[simp] theorem Port.present_stage (svc : Bool) (x : Port) : (x.present svc).stage = x.stage := rfl
@[simp] theorem Port.present_ctx (svc : Bool) (x : Port) : (x.present svc).ctx = x.ctx := rfl
@[simp] theorem Port.present_pd (svc : Bool) (x : Port) : (x.present svc).pd = x.pd := rfl
@[simp] theorem Port.present_cfg (svc : Bool) (x : Port) : (x.present svc).cfg = x.cfg := rfl

/-! ### Entry to a connection state -/

@[simp] theorem Port.setTimer_tc (x : Port) (i : Fin 12) (t : Timer) : (x.setTimer i t).tc = x.tc := rfl
@[simp] theorem Port.arm_tc (x : Port) (i : Fin 12) (u : Use) (n : Nat) : (x.arm i u n).tc = x.tc := rfl
@[simp] theorem Port.disarm_tc (x : Port) (i : Fin 12) : (x.disarm i).tc = x.tc := rfl

/-- The state named is the state entered. -/
@[simp] theorem Port.enter_st (svc : Bool) (b : Beat) (st : Tc) (x : Port) : (Port.enter svc b st x).tc.st = st := by
  unfold Port.enter; dsimp only; split <;> rfl
@[simp] theorem Port.enter_cfg (svc : Bool) (b : Beat) (st : Tc) (x : Port) : (Port.enter svc b st x).cfg = x.cfg := by
  unfold Port.enter; dsimp only; split <;> rfl
@[simp] theorem Port.enter_harn (svc : Bool) (b : Beat) (st : Tc) (x : Port) : (Port.enter svc b st x).harn = x.harn := by
  unfold Port.enter; dsimp only; split <;> rfl
@[simp] theorem Port.enter_pReady (svc : Bool) (b : Beat) (st : Tc) (x : Port) :
    (Port.enter svc b st x).tc.pReady = (x.tc.pReady && !st.down) := by
  unfold Port.enter; dsimp only; split <;> rfl

/-- A port that goes quiet is DISABLED, but for one that only PORT_ENABLE takes out of its state (R98, R114). -/
@[simp] theorem Port.quiet_st (svc : Bool) (b : Beat) (x : Port) :
    (Port.quiet svc b x).tc.st = if x.tc.st.down then x.tc.st else .disabled := by
  unfold Port.quiet; dsimp only
  by_cases h : x.tc.st.down = true
  · rw [if_pos h, if_pos h]; rfl
  · rw [if_neg h, if_neg h, Port.enter_st]
theorem Port.quiet_down (svc : Bool) (b : Beat) (x : Port) : (Port.quiet svc b x).tc.st.down = true := by
  rw [Port.quiet_st]; split
  · assumption
  · rfl
@[simp] theorem Port.quiet_pReady (svc : Bool) (b : Beat) (x : Port) : (Port.quiet svc b x).tc.pReady = false := rfl

/-! ### A port that is dropped -/

/-- The port that leaves takes the state `f` gives it, whatever was under way. -/
theorem State.dropPort_port (s : State) (p : PortId) (st r : Nat) (f : Port → Port) :
    ∃ x, (s.dropPort p st r f).port p = f x ∨ ∃ g, (s.dropPort p st r f).port p = ({ f x with grant := g }).refreshRp :=
  ⟨_, State.port_updPort ((s.endWork p st r).svcLeave p) p f⟩

/-- What a quieted port shows: a state out of which only the host takes it, the P bit clear. -/
def Port.isQuiet (x : Port) : Prop := x.tc.st.down = true ∧ x.tc.pReady = false

/-- Every port of the list goes quiet; a port outside it is as it was. -/
theorem State.quietPorts_port : ∀ (ps : List PortId) (s : State) (q : PortId),
    (q ∈ ps ∨ (s.port q).isQuiet → ((s.quietPorts ps).port q).isQuiet) ∧ (q ∉ ps → (s.quietPorts ps).port q = s.port q)
  | [], s, q => ⟨fun h => h.elim (fun m => by simp at m) id, fun _ => rfl⟩
  | p :: ps, s, q => by
    have ih := State.quietPorts_port ps (s.dropPort p 0x85 8 (Port.quiet (isService p) s.now)) q
    have step : s.quietPorts (p :: ps) = (s.dropPort p 0x85 8 (Port.quiet (isService p) s.now)).quietPorts ps := rfl
    have self : ((s.dropPort p 0x85 8 (Port.quiet (isService p) s.now)).port p).isQuiet := by
      obtain ⟨x, h | ⟨g, h⟩⟩ := s.dropPort_port p 0x85 8 (Port.quiet (isService p) s.now) <;>
        (rw [h]; exact ⟨Port.quiet_down _ _ _, rfl⟩)
    have other : q ≠ p → (s.dropPort p 0x85 8 (Port.quiet (isService p) s.now)).port q = s.port q :=
      State.dropPort_port_ne _ _ _ _ _
    rw [step]
    refine ⟨fun h => ih.1 ?_, fun h => ?_⟩
    · by_cases e : q = p
      · subst e; exact .inr self
      · exact h.imp (fun m => by simpa [e] using m) (fun m => by rw [other e]; exact m)
    · simp at h
      rw [ih.2 h.2, other h.1]

/-! ### C bits -/

@[simp] theorem State.setReady_ready0 (s : State) (m : Word) : (s.setReady m).dev.ready0 = s.dev.ready0 ||| m := rfl
@[simp] theorem State.clearReady_ready0 (s : State) (m : Word) : (s.clearReady m).dev.ready0 = s.dev.ready0 &&& ~~~ m := rfl
@[simp] theorem State.modCluster_ready0 (s : State) (c : ClusterId) (f : Cluster → Cluster) : (s.modCluster c f).dev.ready0 = s.dev.ready0 := rfl
theorem State.rest_ready0 {s t : State} (h : t.rest = s.rest) : t.dev.ready0 = s.dev.ready0 := by
  have h2 : t.dev.still = s.dev.still := congrArg (fun r => r.2.2.2.2.2.2.2.1) h
  have h3 := congrArg Dev.ready0 h2
  exact h3
@[simp] theorem State.startEnabled_ready0 (s : State) (p : PortId) : (s.startEnabled p).dev.ready0 = s.dev.ready0 :=
  State.rest_ready0 (State.startEnabled_rest s p)
@[simp] theorem State.raise_ready0 (s : State) (r : Raise) : (s.raise r).dev.ready0 = s.dev.ready0 :=
  State.rest_ready0 (State.raise_rest s r)
@[simp] theorem State.raiseAll_ready0 (s : State) (r : List Raise) : (s.raiseAll r).dev.ready0 = s.dev.ready0 :=
  State.rest_ready0 (State.raiseAll_rest s r)
@[simp] theorem State.quietPorts_ready0 (s : State) (ps : List PortId) : (s.quietPorts ps).dev.ready0 = s.dev.ready0 := by
  induction ps generalizing s with
  | nil => rfl
  | cons p l ih => exact (ih _).trans (State.rest_ready0 (State.dropPort_rest _ _ _ _ _))
@[simp] theorem State.joinTrim_ready0 (s : State) (b : Bool) : (s.joinTrim b).dev.ready0 = s.dev.ready0 := by
  unfold State.joinTrim; dsimp only; split <;> rfl

theorem foldl_ready0 {α} (f : State → α → State) (h : ∀ t a, (f t a).dev.ready0 = t.dev.ready0) :
    ∀ (l : List α) (s : State), (l.foldl f s).dev.ready0 = s.dev.ready0
  | [], _ => rfl
  | a :: l, s => by rw [List.foldl_cons, foldl_ready0 f h l, h]

/-- A bit that is set stays set. -/
theorem bringCluster_mono (start : Bool) (s : State) (c : ClusterId) (i : Nat) (h : s.ready i = true) : (bringCluster start s c).ready i = true := by
  unfold State.ready bit1 at *
  unfold bringCluster
  split
  · exact h
  · split
    · dsimp only
      split <;> split <;> (try rw [State.joinTrim_ready0]) <;>
        first | (rw [foldl_ready0 _ (fun t i => by simp)]; simp [h]) | simp [h]
    · split <;> simpa using h

/-- What is beside the ports, the clusters and the ready bits. -/
def State.core0 (s : State) := (s.cores, s.shared, s.feed, s.yarrow, s.store, s.pending, s.board.still, s.policy.classes)

theorem core0_of_rest {s t : State} (h : t.rest = s.rest) : t.core0 = s.core0 := by
  simp only [State.rest, Prod.mk.injEq] at h
  simp only [State.core0, h]

theorem foldl_core0 {α} (f : State → α → State) (h : ∀ t a, (f t a).core0 = t.core0) : ∀ (l : List α) (s : State), (l.foldl f s).core0 = s.core0
  | [], _ => rfl
  | a :: l, s => by rw [List.foldl_cons, foldl_core0 f h l, h]

@[simp] theorem State.joinTrim_core0 (s : State) (b : Bool) : (s.joinTrim b).core0 = s.core0 := by
  unfold State.joinTrim; dsimp only; split <;> rfl
theorem bringCluster_core0 (start : Bool) (s : State) (c : ClusterId) : (bringCluster start s c).core0 = s.core0 := by
  unfold bringCluster
  split
  · rfl
  · split
    · dsimp only
      split <;> split <;> (try rw [State.joinTrim_core0]) <;>
        first | (rw [foldl_core0 _ (fun t i => core0_of_rest (by simp))]; rfl) | rfl
    · split <;> rfl

theorem clusterBit_get : ∀ c : ClusterId, (clusterBit c).getLsbD (12 + c.val) = true := by decide

/-- A linked cluster whose trim has completed is ready. -/
theorem bringCluster_ready (start : Bool) (s : State) (c : ClusterId) (h1 : s.clusterLinked c = true) (h2 : s.coreReady 8 = true)
    (h3 : (s.cluster c).trimmed = true) : (bringCluster start s c).clusterReady c.val = true := by
  unfold bringCluster
  rw [if_neg (by simp [h1, h2]), if_pos h3]
  have key : (s.setReady (clusterBit c)).clusterReady c.val = true := by
    unfold State.clusterReady State.ready bit1
    rw [State.setReady_ready0]
    rw [BitVec.getLsbD_or, clusterBit_get, Bool.or_true]
  dsimp only
  unfold State.clusterReady State.ready bit1 at *
  split <;> split <;> (try rw [State.joinTrim_ready0]) <;>
    first | (rw [foldl_ready0 _ (fun t i => by simp)]; exact key) | exact key

theorem State.joinTrim_ports (s : State) (b : Bool) : (s.joinTrim b).ports = s.ports := by
  unfold State.joinTrim; dsimp only; split <;> rfl
theorem bringCluster_false_ports (s : State) (c : ClusterId) : (bringCluster false s c).ports = s.ports := by
  unfold bringCluster; dsimp only; (repeat' split) <;> first | contradiction | rfl | (rw [State.joinTrim_ports]; rfl)

theorem State.startEnabled_clusters (s : State) (p : PortId) : (s.startEnabled p).clusters = s.clusters := by
  unfold State.startEnabled; split <;> rfl

theorem foldl_clusters {α} (f : State → α → State) (h : ∀ t a, (f t a).clusters = t.clusters) :
    ∀ (l : List α) (s : State), (l.foldl f s).clusters = s.clusters
  | [], _ => rfl
  | a :: l, s => by rw [List.foldl_cons, foldl_clusters f h l, h]

/-- A change of one cluster that keeps its verdict keeps every cluster's. -/
theorem State.modCluster_trimmed (s : State) (c d : ClusterId) (f : Cluster → Cluster) (h : ∀ k, (f k).trimmed = k.trimmed) :
    ((s.modCluster c f).cluster d).trimmed = (s.cluster d).trimmed := by
  simp only [State.cluster, State.modCluster]
  simp only [Fin.getElem_fin, Vector.getElem_set]
  split
  · rename_i e; have : c = d := Fin.ext e
    subst this; exact h _
  · rfl
theorem State.joinTrim_trimmed (s : State) (b : Bool) (d : ClusterId) : ((s.joinTrim b).cluster d).trimmed = (s.cluster d).trimmed := by
  unfold State.joinTrim; dsimp only; split
  · exact s.modCluster_trimmed _ _ _ fun _ => rfl
  · rfl

theorem bringCluster_trimmed (start : Bool) (s : State) (c d : ClusterId) : ((bringCluster start s c).cluster d).trimmed = (s.cluster d).trimmed := by
  have e : ∀ t : State, (if start then (List.finRange 12).foldl (fun (t : State) i => t.startEnabled (portOf c i)) t else t).clusters
      = t.clusters := by
    intro t; split
    · exact foldl_clusters _ (fun t i => State.startEnabled_clusters _ _) _ _
    · rfl
  have e' : ∀ t : State, ((if start then (List.finRange 12).foldl (fun (t : State) i => t.startEnabled (portOf c i)) t else t).cluster d)
      = t.cluster d := fun t => congrArg (fun v => v[d]) (e t)
  unfold bringCluster
  split
  · rfl
  · split
    · dsimp only
      split
      · rw [State.joinTrim_trimmed, e']; rfl
      · rw [e']; rfl
    · split
      · rfl
      · exact s.modCluster_trimmed _ _ _ fun _ => rfl

theorem bringCluster_board (start : Bool) (s : State) (c : ClusterId) : (bringCluster start s c).board.still = s.board.still :=
  congrArg (fun r => r.2.2.2.2.2.2.1) (bringCluster_core0 start s c)

theorem State.clusterLinked_of {s t : State} (h : t.board.still = s.board.still) (c : ClusterId) : t.clusterLinked c = s.clusterLinked c := by
  have h1 : t.board.svcOn = s.board.svcOn := by have := congrArg Board.svcOn h; exact this
  have h2 : t.board.mainOn = s.board.mainOn := by have := congrArg Board.mainOn h; exact this
  have h3 : t.board.afeLink = s.board.afeLink := by have := congrArg Board.afeLink h; exact this
  have h4 : t.board.holdover = s.board.holdover := by have := congrArg Board.holdover h; exact this
  have h5 : t.board.resetLow = s.board.resetLow := by have := congrArg Board.resetLow h; exact this
  simp only [State.clusterLinked, State.hubRuns, h1, h2, h3, h4, h5]

/-- Bringing several clusters: a bit that is set stays, and each linked cluster of the list whose trim has completed is ready. -/
theorem bringAll_mono (start : Bool) (i : Nat) : ∀ (l : List ClusterId) (s : State), s.ready i = true → (l.foldl (bringCluster start) s).ready i = true
  | [], _, h => h
  | c :: l, s, h => by rw [List.foldl_cons]; exact bringAll_mono start i l _ (bringCluster_mono start s c i h)

theorem bringAll_core0 (start : Bool) (l : List ClusterId) (s : State) : (l.foldl (bringCluster start) s).core0 = s.core0 :=
  foldl_core0 _ (fun t c => bringCluster_core0 start t c) l s

theorem bringAll_ready (start : Bool) (c : ClusterId) : ∀ (l : List ClusterId) (s : State), c ∈ l → s.clusterLinked c = true →
    s.coreReady 8 = true → (s.cluster c).trimmed = true → (l.foldl (bringCluster start) s).clusterReady c.val = true
  | [], _, h, _, _, _ => by simp at h
  | d :: l, s, h, h1, h2, h3 => by
    rw [List.foldl_cons]
    by_cases e : c = d
    · subst e; exact bringAll_mono start _ l _ (bringCluster_ready start s c h1 h2 h3)
    · refine bringAll_ready start c l _ (by simpa [e] using h) ?_ ?_ ?_
      · rw [State.clusterLinked_of (bringCluster_board start s d)]; exact h1
      · exact bringCluster_mono start s d _ h2
      · rw [bringCluster_trimmed]; exact h3

theorem bringAll_false_ports : ∀ (l : List ClusterId) (s : State), (l.foldl (bringCluster false) s).ports = s.ports
  | [], _ => rfl
  | c :: l, s => by rw [List.foldl_cons, bringAll_false_ports l, bringCluster_false_ports]

end Sys2Proof.Machine
end

