-- ==== Sys2Proof/Laws/Serve.lean ====
section
/-! SUPPORT. A command that passes every check is answered by its row alone. -/

namespace Sys2Proof.Machine

/-- A command that its cluster's core takes, or that S8 carries out itself, is not held up (R17). -/
theorem State.handOff_eq {u : State} {c : Cmd} (h : c.handed = false ∨ (u.handFree c = true ∧ u.handRuns c = true)) (a : Act) :
    u.handOff c a = a := by
  unfold State.handOff
  cases a <;> first | rfl | (rcases h with h | ⟨h1, h2⟩ <;> simp_all)

/-- A command taken whose row is this one: the answer of its run. -/
theorem State.serve_takes {s u : State} {st : Stream} {opc : Nat} {c : Cmd} (h : s.takes st opc c u) (sub : Cmd → Bool)
    (run : Cmd → State → Act) (hs : sub c = true) : s.serve st opc sub run = u.respond c (run c u) := by
  obtain ⟨⟨q, k, h0, h8, hk, hn, hc, hp, hh, hd, hu⟩, ho, hf, hr, hl, hz, ht, hg⟩ := h
  unfold State.serve State.serveWith
  rw [if_neg (by simp [h0, h8]), hk]
  dsimp only
  unfold State.serveNext
  rw [hn]
  subst hc
  dsimp only
  rw [if_neg (by simp [ho, hs]), if_neg (by simp [hp]), if_neg (by rcases hh with h | h <;> simp [h]), if_neg (by simp [hd])]
  unfold State.dispose
  rw [← hu]
  unfold State.judge
  dsimp only
  rw [hf]
  dsimp only
  rw [if_neg (by simp [hr]), if_neg (by rcases hl with h | h <;> simp [h]), hz]
  dsimp only
  rw [if_neg (by omega), State.handOff_eq hg]

/-- Beside the pool and the host port only the origin of a forwarded command is noted. -/
theorem State.takes_state {s u : State} {st : Stream} {opc : Nat} {c : Cmd} (h : s.takes st opc c u) :
    u.board = s.board ∧ u.dev = s.dev ∧ u.ports = s.ports ∧ u.clusters = s.clusters ∧ u.cores = s.cores ∧ u.shared = s.shared
      ∧ u.faults = s.faults ∧ u.feed = s.feed ∧ u.budget = s.budget ∧ u.policy = s.policy ∧ u.store = s.store ∧ u.svc = s.svc
      ∧ u.pending = s.pending := by
  obtain ⟨⟨q, k, _, _, _, _, _, _, _, _, hu⟩, _⟩ := h
  subst hu
  simp [State.takeCommand]

theorem State.takes_stream {s u : State} {st : Stream} {opc : Nat} {c : Cmd} (h : s.takes st opc c u) : c.stream = st := by
  obtain ⟨⟨q, k, _, _, _, _, hc, _⟩, _⟩ := h
  subst hc; unfold Cmd.of; split <;> rfl

theorem State.takes_opc {s u : State} {st : Stream} {opc : Nat} {c : Cmd} (h : s.takes st opc c u) : c.opc = opc := by
  obtain ⟨_, ho, _⟩ := h; exact ho

/-- The answer to a refusal, whatever the row. -/
theorem State.serve_comes {s u : State} {st : Stream} {c : Cmd} (h : s.comes st c u) (sub : Cmd → Bool) (run : Cmd → State → Act)
    (hs : sub c = true) : s.serve st c.opc sub run = u.respond c (u.judge c run) := by
  obtain ⟨q, k, h0, h8, hk, hn, hc, hp, hh, hd, hu⟩ := h
  unfold State.serve State.serveWith
  rw [if_neg (by simp [h0, h8]), hk]
  dsimp only
  unfold State.serveNext
  rw [hn]
  subst hc
  dsimp only
  rw [if_neg (by simp [hs]), if_neg (by simp [hp]), if_neg (by rcases hh with h | h <;> simp [h]), if_neg (by simp [hd])]
  unfold State.dispose
  rw [← hu]

/-- ACCEPTED. -/
theorem State.respond_accepted (u : State) (c : Cmd) (eff : State → State) : u.respond c (.accepted eff) = eff (u.accept c) := by
  unfold State.respond State.accept Act.accepted
  dsimp only
  rw [if_neg (by simp)]
  simp

/-- A reply that comes later. -/
theorem State.respond_later (u : State) (c : Cmd) (eff : State → State) : u.respond c (.later eff) = eff (u.hold c) := rfl

/-- The answer to a refusal. -/
@[simp] theorem State.respond_refuse (u : State) (c : Cmd) (r : Refuse) : u.respond c (.refuse r) = u.sendReply c false r.status r.data := rfl

/-- The answer OK of at most 4,084 bytes. -/
theorem State.respond_answer (u : State) (c : Cmd) (data : List Byte) (eff : State → State)
    (h : c.stream ≠ .forwarded ∨ data.length ≤ 4084) : u.respond c (.answer 0 data eff) = eff (u.sendReply c false 0 data) := by
  unfold State.respond
  dsimp only
  rw [if_neg (by rcases h with h | h
                 · simp [h]
                 · simp; intro _; omega), if_neg (by simp)]

end Sys2Proof.Machine
end

