-- ==== Sys2Proof/WellFormed.lean ====
section
/-! DEFINITION. Which commands are well formed: the counts that a command's observation must have by the rule it
reports under. Register, port and queue numbers are bounded by their types. -/

namespace Sys2Proof

/-- The observation of a command has the size its rule gives: 16 slot samples a beat (R31, R92), seven impedances and two
offsets a sweep (R120), 256 zero conversions of each ADC in an initial trim (R152), 8 slots for the stop of the feed guard die
(R60), a frame of at most 1,040 payload bytes (R326), a PD packet of at most 7 objects (R159), ports of the cluster named (R15). -/
def Instr.wf : Instr → Bool
  | .ccStateUpdate _ l _ => l.line1.length == 16 && l.line2.length == 16
  | .moistureSweepEnd _ z o _ _ => z.length == 7 && o.length == 2
  | .feedGuardStop xs => xs.length == 8
  | .yarrowFrameReceive _ fr _ _ => Nat.ble fr.payload.length 1040
  | .packetReceive _ w => Nat.ble w.body.length 28
  | .clusterTrimComplete c rp rd z0 z1 => (rp ++ rd).all (fun p => p.val / 12 == c.val) && z0.length == 256 && z1.length == 256
  | _ => true

end Sys2Proof
end

