-- ==== Sys2Proof/Tests/Slice0.lean ====
section
/-! SUPPORT. The model's own tests: a smoke test of the well-formedness checks, one small step per command, and with each a state and
operands that meet the hypotheses of the statements. -/

namespace Sys2Proof.Tests

open Machine

-- One theorem is checked at a time: each takes a thread with its stack otherwise.
set_option Elab.async false
set_option linter.unusedVariables false

theorem test_wf_cc_short : Instr.wf (.ccStateUpdate 0 ⟨[], []⟩ 0) = false := by decide
theorem test_wf_sweep_short : Instr.wf (.moistureSweepEnd 0 [] [] false false) = false := by decide
theorem test_wf_trim_zeros : Instr.wf (.clusterTrimComplete 0 [] [] [] []) = false := by decide +kernel
theorem test_wf_stop_samples : Instr.wf (.feedGuardStop []) = false := by decide
theorem test_wf_frame_long :
    Instr.wf (.yarrowFrameReceive .ya ⟨0, 0, 0, 0, 0, 0, List.replicate 1041 0⟩ ⟨24, 0, .sound⟩ false) = false := by decide +kernel
theorem test_wf_packet_long :
    Instr.wf (.packetReceive 0 ⟨.sop .sop, 0, List.replicate 29 0, true, true, .sound⟩) = false := by decide
theorem test_wf_trim_port : Instr.wf (.clusterTrimComplete 0 [12] [] (List.replicate 256 0) (List.replicate 256 0)) = false := by decide +kernel

/-- The command answers a next state with `q`. -/
def sat (i : Instr) (s : State) (q : State → Bool) : Bool :=
  match exec i s with | .next t => q t | _ => false

/-- A module that runs: both domains powered, every link up, every unit ready, the pool initialised, port P0 enabled. -/
def live : State :=
  { State.reset with
    board := { Board.reset with svcOn := true, mainOn := true, afeLink := Vector.replicate 4 true, beat := 1000 }
    dev := { Dev.reset with ready0 := 0x007FFFFF#32 }
    pool := { Pool.reset with capacity := 15856, pdReserve := 512 }
    host := { HostPort.reset with maskHost := 0 } }

def onP (b : State) (f : Port → Port) : State := b.modPort 0 f
def onTc (b : State) (st : Tc) (f : TypeC → TypeC) : State := onP b fun x => { x with tc := { f x.tc with st := st } }
/-- P0 in state `st` with timer `i` expired carrying `u`. -/
def expd (b : State) (st : Tc) (i : Fin 12) (u : Use) : State :=
  (onTc b st id).modPort 0 fun x => x.setTimer i ⟨0, false, false, true, u⟩

/-! ### The block as a whole -/
/-- P0 and P4 stand in attached states. -/
def busy (b : State) : State := { b with pool := .reset, store := { b.store with op := none, flash := [(5, 1)] } }
set_option maxRecDepth 20000 in
theorem test_front : { live with pending := [.refLoss, .beat] }.pending = [.refLoss, .beat]
    ∧ sat .refLoss { live with pending := [.beat] } (fun t => t.pending == [.beat]) = true := by decide +kernel
theorem test_idle : State.reset.pending = [] := rfl
set_option maxRecDepth 20000 in
theorem test_flash_frame : Instr.beat.writesFlash = false ∧ sat .beat { live with store := { live.store with flash := [(5, 1)] } }
    (fun t => t.store.flash == [(5, 1)]) = true := by decide +kernel
theorem test_ports_alone : (Instr.pdDebounceExpiry 5).portAlone = some 5
    ∧ sat (.pdDebounceExpiry 5) live (fun t => t.port 6 == live.port 6) = true := by decide +kernel
theorem test_ports_frame : (Instr.vconnOc 0 true).onPort = true ∧ sat (.vconnOc 0 true) live (fun t => t.cores == live.cores) = true := by
  decide +kernel
set_option maxRecDepth 20000 in
theorem test_sound : State.reset.flashSound = true ∧ State.reset.coresSound = true ∧ sat .beat live (fun t => t.flashSound && t.coresSound) = true := by
  decide +kernel
set_option maxRecDepth 20000 in
theorem test_beatCounter : sat .beat live (fun t => t.board.beat == 1001 && t.mirror.toNat / 2 ^ 16 % 256 == 1001 % 256) = true := by decide +kernel

/-! ### Power, resets and links -/

theorem test_powerOn :
    (let b := live
     let held : Bool := false
     let testen : Bool := false
     let edges : Bool := true
     let s : State := { State.reset with board := b.board }
     let s : State := s |>.modBoard fun x => { x with svcOn := false, mainOn := true }
     (decide (s.board.svcOn = false
      ∧ (held = true ∨ s.board.mainOn = true)),
     sat (.serviceDomainPowerOn held testen edges) s fun t => decide (t.board.svcOn = true ∧ t.board.beat = 0 ∧ t.board.testen = testen ∧ t.board.refExternal = edges ∧ t.board.bootPending = true
        ∧ t.board.cause = 0 ∧ t.board.holdover = false ∧ (∀ d : Fin 4, t.board.afeLink[d] = (s.board.mainOn || d.val == 0))
        ∧ t.board.mainOn = s.board.mainOn ∧ t.dev.ready0 = s.dev.ready0 ∧ t.feed.on = s.feed.on))) = (true, true) := by decide +kernel

theorem test_powerOn_late :
    (let b := live
     let testen : Bool := true
     let edges : Bool := true
     let s : State := b.modBoard fun x => { x with svcOn := true, vsvcGood := false }
     (decide (s.board.svcOn = true),
     sat (.serviceDomainPowerOn true testen edges) s fun t => decide (t.board.vsvcGood = true))) = (true, true) := by decide +kernel

theorem test_powerOff :
    (let b := live
     let s : State := { b with store := { b.store with op := none } }
     (decide (s.board.svcOn = true),
     sat (.serviceDomainPowerOff) s fun t => decide (t.board.svcOn = false ∧ t.dev.ready0 = 0 ∧ t.dev.keyRevoked = s.dev.keyRevoked ∧ t.feed.on = s.feed.on ∧ t.feed.linkUp = false ∧ t.store.op = none))) = (true, true) := by decide +kernel

theorem test_resetN :
    (let b := live
     let s : State := b.modBoard fun x => { x with resetLow := false }
     (decide (s.board.resetLow = false
      ∧ s.board.svcOn = true),
     sat (.resetNAssert) s fun t => decide (t.board.resetLow = true ∧ t.board.cause = 1 ∧ t.board.beat = s.board.beat ∧ t.dev.ready0 = 0))) = (true, true) := by decide +kernel

theorem test_resetN_off :
    (let b := live
     let s : State := b.modBoard fun x => { x with resetLow := false, svcOn := false }
     (decide (s.board.resetLow = false
      ∧ s.board.svcOn = false),
     sat (.resetNAssert) s fun t => decide (t.board.resetLow = true))) = (true, true) := by decide +kernel

theorem test_resetN_release :
    (let b := live
     let s : State := b.modBoard fun x => { x with resetLow := true }
     (decide (s.board.resetLow = true),
     sat (.resetNRelease) s fun t => decide (t.board.resetLow = false ∧ t.board.beat = s.board.beat ∧ (s.board.svcOn = true → ∀ c : ClusterId, (s.board.mainOn = true ∨ c = 0) → (t.cluster c).senLow = true)))) = (true, true) := by decide +kernel

theorem test_warmStart :
    (let b := live
     let r : ResetReq := ⟨false, .host, 1, 0, true⟩
     let s : State := b.modBoard fun x => { x with resetReq := some ⟨false, .host, 1, 0, true⟩ }
     (decide (s.board.resetReq = some r
      ∧ r.cold = false
      ∧ (r.read = true ∨ 25000 ≤ Beat.since s.now r.queued)),
     sat (.resetDeferredStart) s fun t => decide (t.board.cause = 2))) = (true, true) := by decide +kernel

theorem test_coldStart :
    (let b := live
     let r : ResetReq := ⟨true, .host, 1, 0, true⟩
     let s : State := b.modBoard fun x => { x with resetReq := some ⟨true, .host, 1, 0, true⟩ }
     (decide (s.board.resetReq = some r
      ∧ r.cold = true
      ∧ (r.read = true ∨ 25000 ≤ Beat.since s.now r.queued)),
     sat (.resetDeferredStart) s fun t => decide (t.board.cause = 3 ∧ (∀ c : ClusterId, (t.cluster c).trimmed = false)))) = (true, true) := by decide +kernel

theorem test_mainRelease_off :
    (let b := live
     let s : State := b.modBoard fun x => { x with mainOn := false, svcOn := false }
     (decide (s.board.mainOn = false
      ∧ s.board.svcOn = false),
     sat (.mainDomainRelease) s fun t => decide (t.board.mainOn = true))) = (true, true) := by decide +kernel

theorem test_mainRelease_rom :
    (let b := live
     let s : State := { b with dev := { b.dev with ready0 := 7 }, pool := { b.pool with capacity := 4048, pdReserve := 32 } }
     let s : State := s |>.modBoard fun x => { x with mainOn := false, svcOn := true }
     (decide (s.board.mainOn = false
      ∧ s.board.svcOn = true
      ∧ s.coreReady 8 = false
      ∧ s.pool.capacity ≠ 0),
     sat (.mainDomainRelease) s fun t => decide (t.board.mainOn = true ∧ t.board.mainLost = false ∧ t.board.beat = s.board.beat
        ∧ t.board.bootPending = s.board.bootPending ∧ t.pool.capacity = 15856 ∧ t.pool.pdReserve = 512))) = (true, true) := by decide +kernel

theorem test_mainRelease_join :
    (let b := live
     let s : State := b.modBoard fun x => { x with mainOn := false, svcOn := true }
     (decide (s.board.mainOn = false
      ∧ s.board.svcOn = true
      ∧ s.coreReady 8 = true),
     sat (.mainDomainRelease) s fun t => decide (t.board.mainOn = true ∧ t.board.beat = s.board.beat ∧ t.budget.due = true
        ∧ (∀ k : Fin 7, t.coreReady (k.val + 1) = true)))) = (true, true) := by decide +kernel

theorem test_mainLoss_svc :
    (let b := live
     let s : State := b.modBoard fun x => { x with vsvcGood := false }
     (decide (s.board.mainOn = true
      ∧ s.board.svcOn = true
      ∧ s.board.vsvcGood = false),
     sat (.mainLoss) s fun t => decide (t.board.svcOn = false))) = (true, true) := by decide +kernel

set_option maxRecDepth 20000 in
theorem test_mainLoss :
    (let b := live
     let s : State := ({ b with faults := .reset } : State).modBoard fun x => { x with vsvcGood := true }
     (decide (s.board.mainOn = true
      ∧ s.board.svcOn = true
      ∧ s.board.resetLow = false
      ∧ s.board.vsvcGood = true),
     sat (.mainLoss) s fun t => decide (t.board.mainOn = false ∧ t.board.svcOn = true ∧ t.board.beat = s.board.beat
        ∧ t.dev.ready0 &&& 0x007FE7F0#32 = 0 ∧ t.raisedAt 18 = true))) = (true, true) := by decide +kernel

set_option maxRecDepth 20000 in
theorem test_refLoss :
    (let b := live
     let s : State := { b with faults := .reset }
     let s : State := s |>.modBoard fun x => { x with holdover := false }
     (decide (s.board.svcOn = true
      ∧ s.board.resetLow = false
      ∧ s.board.holdover = false),
     sat (.refLoss) s fun t => decide (t.board.holdover = true ∧ t.dev.ready0 &&& 0x000FF000#32 = 0 ∧ t.raisedAt 0 = true))) = (true, true) := by decide +kernel

theorem test_refRestored :
    (let b := live
     let s : State := b.modBoard fun x => { x with holdover := true }
     (decide (s.board.svcOn = true
      ∧ s.board.holdover = true),
     sat (.refRestored) s fun t => decide (t.board.holdover = false))) = (true, true) := by decide +kernel

theorem test_afeLink :
    (let b := live
     let d : Fin 4 := 1
     let s : State := { b with faults := .reset }
     (decide (s.board.svcOn = true
      ∧ s.board.resetLow = false
      ∧ s.board.afeLink[d] = true
      ∧ (s.board.mainOn = true ∨ d = 0)),
     sat (.afeLink d) s fun t => decide (t.board.afeLink[d] = false ∧ t.raisedAt (1 + d.val) = true
        ∧ t.clusterReady (2 * d.val) = false ∧ t.clusterReady (2 * d.val + 1) = false))) = (true, true) := by decide +kernel

theorem test_afeLinkRestore :
    (let b := live
     let d : Fin 4 := 1
     let s : State := b.modBoard fun x => { x with afeLink := x.afeLink.set 1 false }
     (decide (s.board.svcOn = true
      ∧ s.board.afeLink[d] = false
      ∧ (s.board.mainOn = true ∨ d = 0)),
     sat (.afeLinkRestore d) s fun t => decide (t.board.afeLink[d] = true))) = (true, true) := by decide +kernel

theorem test_boot_testen :
    (let b := live
     let s : State := { b with pool := .reset }
     let s : State := s |>.modBoard fun x => { x with bootPending := true, resetLow := false, testen := true }
     (decide (s.board.svcOn = true
      ∧ s.board.bootPending = true
      ∧ s.board.resetLow = false
      ∧ s.pool = Pool.reset
      ∧ s.board.testen = true),
     sat (.bootRomStart) s fun t => decide (t.board.bootPending = false ∧ t.dev.ready0 = s.dev.ready0 ||| 1
        ∧ t.pool.capacity = (if s.board.mainOn then 15856 else 4048)
        ∧ ((t.pool.queues[qEvent]).closed.map Packet.data).head? = some (eventBytes 0xC0 0x7F false (bootReport t.board))))) = (true, true) := by decide +kernel

theorem test_boot_recovery :
    (let b := live
     let s : State := { b with pool := .reset, faults := .reset, store := { b.store with flash := [] } }
     let s : State := s |>.modBoard fun x => { x with bootPending := true, resetLow := false, testen := false }
     (decide (s.board.svcOn = true
      ∧ s.board.bootPending = true
      ∧ s.board.resetLow = false
      ∧ s.pool = Pool.reset
      ∧ s.board.testen = false
      ∧ (s.store.choose s.dev.keyRevoked).1 = none),
     sat (.bootRomStart) s fun t => decide (t.board.bootPending = false ∧ t.board.recovery = true ∧ t.board.runSlot = none
        ∧ t.ready 0 = true ∧ t.ready 1 = true ∧ t.ready 2 = true ∧ t.store.flash = s.store.flash
        ∧ (s.store.newest = none → t.raisedAt 16 = true)))) = (true, true) := by decide +kernel

set_option maxRecDepth 20000 in
theorem test_beat :
    (let b := live
     let s : State := b
     (decide (s.board.svcOn = true
      ∧ s.board.resetLow = false),
     sat (.beat) s fun t => decide (t.board.beat = s.board.beat + 1 ∧ t.board.passIdx = (s.board.passIdx + 1) % 9
        ∧ t.board.oddPass = (if s.board.passIdx = 8 then !s.board.oddPass else s.board.oddPass)
        ∧ t.policy.writes = [] ∧ t.faults.forceDue = [] ∧ t.faults.sevNext = none ∧ t.pending = s.pending))) = (true, true) := by decide +kernel

theorem test_beat_reset :
    (let b := live
     let s : State := b.modBoard fun x => { x with resetLow := true }
     (decide (s.board.svcOn = true
      ∧ s.board.resetLow = true),
     sat (.beat) s fun t => decide (t.board.beat = s.board.beat + 1))) = (true, true) := by decide +kernel

theorem test_beat_off :
    (let b := live
     let s : State := b.modBoard fun x => { x with svcOn := false }
     (decide (s.board.svcOn = false),
     sat (.beat) s fun t => decide (t.board.beat = s.board.beat))) = (true, true) := by decide +kernel

theorem test_beatEntry :
    (let b := live
     let k : CoreId := 0
     let s : State := { b with cores := b.cores.map fun c => { c with running := false, paused := false, extStop := false, extStart := false, flagFirst := true } }
     (decide (s.coreReady k.val = true
      ∧ (s.core k).running = false
      ∧ (s.core k).paused = false
      ∧ (s.core k).extStop = false
      ∧ (s.core k).extStart = false
      ∧ ((s.core k).beatLat ≠ s.now ∨ (s.core k).flagFirst = true)
      ∧ (s.core k).stopped = false),
     sat (.beatEntry k) s fun t => decide ((t.core k).running = true ∧ (t.core k).pc = 0 ∧ (t.core k).a[(7 : Fin 8)] = 0x8000#16
        ∧ (t.core k).beatLat = s.now ∧ (t.core k).cycles = 0 ∧ (t.core k).rstack = [] ∧ (t.core k).data = (s.core k).data
        ∧ (t.core k).flagFirst = false))) = (true, true) := by decide +kernel

theorem test_beatEntry_resume :
    (let b := live
     let k : CoreId := 0
     let s : State := { b with cores := b.cores.map fun c => { c with running := false, paused := false, flagFirst := true, flagTrap := true, rep := none } }
     (decide (s.coreReady k.val = true
      ∧ (s.core k).stopped = true
      ∧ ((s.core k).beatLat ≠ s.now ∨ (s.core k).flagFirst = true)),
     sat (.beatEntry k) s fun t => decide ((t.core k).running = true))) = (true, true) := by decide +kernel

theorem test_repeatPause :
    (let b := live
     let k : CoreId := 0
     let s : State := b.modCore 0 fun c => { c with running := true, rep := some ⟨[(⟨⟨true, some ⟨true, .inl 4⟩, false, none, false⟩, .nop⟩, 3)], [], [], .fall, 4⟩ }
     (decide ((s.core k).running = true
      ∧ (s.core k).pausable = true),
     sat (.repeatPause k) s fun t => decide ((t.core k).running = false ∧ (t.core k).paused = true ∧ (t.core k).rep = (s.core k).rep
        ∧ (t.core k).a = (s.core k).a ∧ (t.core k).data = (s.core k).data))) = (true, true) := by decide +kernel

theorem test_beatOverrun :
    (let b := live
     let k : CoreId := 0
     let s : State := { b with faults := .reset }
     let s : State := s |>.modCore 0 fun c => { c with running := true, rep := none, inflight := [] }
     (decide ((s.core k).running = true
      ∧ (s.core k).pausable = false
      ∧ (s.core k).inflight = []),
     sat (.beatOverrun k) s fun t => decide ((t.core k).running = false ∧ (t.core k).flagOverrun = true ∧ (t.core k).trapAddr = (s.core k).pc
        ∧ (t.core k).overruns = satIncr (s.core k).overruns ∧ (t.core k).data = (s.core k).data
        ∧ t.raisedAt (192 + k.val) = true))) = (true, true) := by decide +kernel

theorem test_extensionCall :
    (let b := live
     let k : CoreId := 0
     let s : State := b.modCore 0 fun c => { c with running := true, rep := none, inflight := [], extState := 2, extCalled := false, waiting := false, bundle := [], delay := none, pc := 0x40, rstack := [] }
     (decide ((s.core k).running = true
      ∧ (s.core k).extState = 2
      ∧ (s.core k).extCalled = false
      ∧ (s.core k).rep = none
      ∧ (s.core k).waiting = false
      ∧ (s.core k).bundle = []
      ∧ (s.core k).delay = none
      ∧ (s.core k).pc.toNat < 0xE000
      ∧ (s.core k).rstack.length ≤ 7
      ∧ (s.core k).inflight = []),
     sat (.extensionCall k) s fun t => decide ((t.core k).pc = 0xE000#16 ∧ (t.core k).rstack = (s.core k).pc :: (s.core k).rstack
        ∧ (t.core k).extLeft = 1875 - (s.core k).cycles ∧ (t.core k).a[(0 : Fin 8)] = BitVec.ofNat 16 (1875 - (s.core k).cycles)
        ∧ (t.core k).inExt = true ∧ (t.core k).data = (s.core k).data))) = (true, true) := by decide +kernel

theorem test_illegalOperation :
    (let b := live
     let k : CoreId := 0
     let why : IllegalWhy := .tooLong
     let s : State := { b with faults := .reset, cores := b.cores.map fun c => { c with waiting := false } }
     let s : State := s |>.modCore 0 fun c => { c with running := true, rep := none, inflight := [], cycles := 3 }
     (decide ((s.core k).running = true
      ∧ (s.core k).rep = none
      ∧ (s.core k).waiting = false
      ∧ (s.core k).cycles < 1875
      ∧ (s.core k).inflight = []
      ∧ (∀ j : CoreId, j ≠ k → (s.core j).waiting = false)),
     sat (.illegalOperation k why) s fun t => decide ((t.core k).running = false ∧ (t.core k).flagTrap = true
        ∧ (t.core k).trapAddr = (s.core k).pc ∧ (t.core k).traps = satIncr (s.core k).traps ∧ t.raisedAt (201 + k.val) = true
        ∧ (t.core k).data = (s.core k).data))) = (true, true) := by decide +kernel

/-! ### Attach and detach -/
def rd8 : List CcSample := List.replicate 16 ⟨400000, false, false⟩
def withVbs (v : Int) (x : Port) : Port := { x with stage := { x.stage with conv := { x.stage.conv with vbs := v } } }
def plain (x : Port) : Port := { x with cfg := .reset }
/-- P0 in state `st`, its lines presenting `q`, no transition for 128 slots, without harness resistance. -/
def linesOf (b : State) (st : Tc) (q : Pres) : State :=
  (onTc b st fun t => { t with pres1 := q, pres2 := q, cc1 := .opened, cc2 := .opened, ccChanged := false, mute := false }).modPort 0 fun x =>
    { plain x with pd := { x.pd with onLine := none }, phy := { x.phy with since1 := 128, since2 := 128 }, harn := { x.harn with rCc := 0 } }

/-! ### Attach, orientation and detach (chapter 05) -/

theorem test_ccStateUpdate :
    (let b := live
     let p : PortId := 0
     let l1 : List CcSample := rd8
     let l2 : List CcSample := rd8
     let s : State := linesOf b .unattachedSrc (.rp 0)
     let gsn : Int := 5001 + (s.port 0).harn.gsnOfs.toInt
     (decide (s.hubRuns = true),
     sat (.ccStateUpdate p ⟨l1, l2⟩ gsn) s fun t => decide ((t.port p).tc.cc1 = s.line1 p l1
      ∧ (t.port p).tc.cc2 = s.line2 p l2
      ∧ (t.port p).phy.gsnClamp = decide (gsn - (s.port p).harn.gsnOfs.toInt < -2500 ∨ 5000 < gsn - (s.port p).harn.gsnOfs.toInt)))) = (true, true) := by decide +kernel

theorem test_ccStateUpdate_src :
    (let b := live
     let p : PortId := 0
     let l1 : List CcSample := rd8
     let l2 : List CcSample := []
     let gsn : Int := 0
     let s : State := linesOf b .unattachedSrc (.rp 0)
     (decide (s.hubRuns = true
      ∧ s.fw p = true
      ∧ (s.port p).tc.st = .unattachedSrc
      ∧ (s.port p).tc.mute = false
      ∧ ((s.line1 p l1).termSrc = true ∨ (s.line2 p l2).termSrc = true)),
     sat (.ccStateUpdate p ⟨l1, l2⟩ gsn) s fun t => decide ((t.port p).tc.st = .attachWaitSrc
      ∧ (t.port p).timers[tCc] = Timer.armed' .ccDebounce (s.port p).tCcDeb))) = (true, true) := by decide +kernel

theorem test_ccStateUpdate_snk :
    (let b := live
     let p : PortId := 0
     let l1 : List CcSample := []
     let l2 : List CcSample := rd8
     let gsn : Int := 0
     let s : State := linesOf b .unattachedSnk .rd
     (decide (s.hubRuns = true
      ∧ s.fw p = true
      ∧ (s.port p).tc.st = .unattachedSnk
      ∧ (s.port p).tc.mute = false
      ∧ ((s.line1 p l1).isRp = true ∨ (s.line2 p l2).isRp = true)),
     sat (.ccStateUpdate p ⟨l1, l2⟩ gsn) s fun t => decide ((t.port p).tc.st = .attachWaitSnk
      ∧ (t.port p).timers[tCc] = Timer.armed' .ccDebounce (s.port p).tCcDeb))) = (true, true) := by decide +kernel

theorem test_ccStateUpdate_lost :
    (let b := live
     let p : PortId := 0
     let l1 : List CcSample := []
     let l2 : List CcSample := []
     let gsn : Int := 0
     let s : State := linesOf b .attachWaitSrc (.rp 0)
     (decide (s.hubRuns = true
      ∧ s.fw p = true
      ∧ (s.port p).tc.st = .attachWaitSrc
      ∧ (s.line1 p l1).termSrc = false
      ∧ (s.line2 p l2).termSrc = false
      ∧ (s.port p).use tCc ≠ .pdDebounce),
     sat (.ccStateUpdate p ⟨l1, l2⟩ gsn) s fun t => decide ((t.port p).tc.st = .attachWaitSrc
      ∧ (t.port p).timers[tCc] = Timer.armed' .pdDebounce (s.port p).tPdDeb
      ∧ (t.port p).tc.rdCheck = none))) = (true, true) := by decide +kernel

theorem test_ccStateUpdate_open :
    (let b := live
     let p : PortId := 0
     let l1 : List CcSample := []
     let l2 : List CcSample := rd8
     let gsn : Int := 0
     let s : State := (linesOf b .attachedSrc (.rp 0)).modPort 0 fun x => { x with tc := { x.tc with orient := false }, pd := .reset }
     (decide (s.hubRuns = true
      ∧ s.fw p = true
      ∧ (s.port p).tc.st = .attachedSrc
      ∧ (s.port p).srcHeld = false
      ∧ (s.port p).use tCc ≠ .srcDisconnect
      ∧ (if (s.port p).tc.orient then s.line2 p l2 else s.line1 p l1) = .opened),
     sat (.ccStateUpdate p ⟨l1, l2⟩ gsn) s fun t => decide ((t.port p).tc.st = .attachedSrc
      ∧ (t.port p).timers[tCc] = Timer.armed' .srcDisconnect (s.port p).tSrcDisc))) = (true, true) := by decide +kernel

theorem test_ccStateUpdate_stay :
    (let b := live
     let p : PortId := 0
     let l1 : List CcSample := rd8
     let l2 : List CcSample := rd8
     let gsn : Int := 0
     let s : State := linesOf b (if (b.port 0).tc.wet then .dryWait else .lockout) .none
     (decide (s.fw p = false ∨ (s.port p).tc.st = .disabled ∨ (s.port p).tc.st = .calibrating ∨ (s.port p).tc.st = .calFailed ∨ (s.port p).tc.st = .errorRecovery ∨ (s.port p).tc.st = .dryWait ∨ (s.port p).tc.st = .lockout),
     sat (.ccStateUpdate p ⟨l1, l2⟩ gsn) s fun t => decide ((t.port p).tc.st = (s.port p).tc.st
      ∧ (t.port p).timers = (s.port p).timers))) = (true, true) := by decide +kernel

theorem test_ccDebounce_rd1 :
    (let b := live
     let p : PortId := 0
     let s : State := (expd b .attachWaitSrc tCc .ccDebounce).modPort 0 fun x => { x with tc := { x.tc with cc1 := .rd, cc2 := .opened, role := 0 } }
     (decide (s.due p tCc .ccDebounce = true
      ∧ (s.port p).tc.st = .attachWaitSrc
      ∧ (s.port p).tc.cc1 = .rd
      ∧ (s.port p).tc.cc2 ≠ .rd
      ∧ ((s.port p).tc.role ≠ 2 ∨ (s.port p).tc.tryMode ≠ 2)),
     sat (.ccDebounceExpiry p) s fun t => decide ((t.port p).tc.st = .attachWaitSrc
      ∧ (t.port p).tc.rdCheck = some ⟨some false, none, 0, 0⟩
      ∧ (t.port p).timers[tCc] = Timer.idle))) = (true, true) := by decide +kernel

theorem test_ccDebounce_rd2 :
    (let b := live
     let p : PortId := 0
     let s : State := (expd b .attachWaitSrc tCc .ccDebounce).modPort 0 fun x => { x with tc := { x.tc with cc1 := .ra, cc2 := .rd, role := 0 } }
     (decide (s.due p tCc .ccDebounce = true
      ∧ (s.port p).tc.st = .attachWaitSrc
      ∧ (s.port p).tc.cc1 ≠ .rd
      ∧ (s.port p).tc.cc2 = .rd
      ∧ ((s.port p).tc.role ≠ 2 ∨ (s.port p).tc.tryMode ≠ 2)),
     sat (.ccDebounceExpiry p) s fun t => decide ((t.port p).tc.st = .attachWaitSrc
      ∧ (t.port p).tc.rdCheck = some ⟨none, some false, 0, 0⟩
      ∧ (t.port p).timers[tCc] = Timer.idle))) = (true, true) := by decide +kernel

theorem test_ccDebounce_rdBoth :
    (let b := live
     let p : PortId := 0
     let s : State := (expd b .attachWaitSrc tCc .ccDebounce).modPort 0 fun x => { x with tc := { x.tc with cc1 := .rd, cc2 := .rd } }
     (decide (s.due p tCc .ccDebounce = true
      ∧ (s.port p).tc.st = .attachWaitSrc
      ∧ (s.port p).tc.cc1 = .rd
      ∧ (s.port p).tc.cc2 = .rd
      ∧ isService p = true),
     sat (.ccDebounceExpiry p) s fun t => decide ((t.port p).tc.st = .attachWaitSrc
      ∧ (t.port p).tc.rdCheck = some ⟨some false, some false, 0, 0⟩))) = (true, true) := by decide +kernel

theorem test_ccDebounce_debug :
    (let b := live
     let p : PortId := 4
     let s : State := b.modPort 4 fun x => { x.setTimer tCc ⟨0, false, false, true, .ccDebounce⟩ with tc := { x.tc with st := .attachWaitSrc, cc1 := .rd, cc2 := .rd } }
     (decide (s.due p tCc .ccDebounce = true
      ∧ (s.port p).tc.st = .attachWaitSrc
      ∧ (s.port p).tc.cc1 = .rd
      ∧ (s.port p).tc.cc2 = .rd
      ∧ isService p = false),
     sat (.ccDebounceExpiry p) s fun t => decide ((t.port p).tc.st = .debugAccSrc
      ∧ (t.port p).tc.orient = false
      ∧ (t.port p).pd.dfp = true
      ∧ (t.port p).phy.cal = .safe
      ∧ (t.port p).stage.want = (s.port p).stage.want))) = (true, true) := by decide +kernel

theorem test_ccDebounce_trySnk :
    (let b := live
     let p : PortId := 0
     let s : State := (expd b .attachWaitSrc tCc .ccDebounce).modPort 0 fun x => { x with tc := { x.tc with cc1 := .rd, cc2 := .ra, role := 2, tryMode := 2 } }
     (decide (s.due p tCc .ccDebounce = true
      ∧ (s.port p).tc.st = .attachWaitSrc
      ∧ (((s.port p).tc.cc1 = .rd ∧ (s.port p).tc.cc2 ≠ .rd) ∨ ((s.port p).tc.cc1 ≠ .rd ∧ (s.port p).tc.cc2 = .rd))
      ∧ (s.port p).tc.role = 2
      ∧ (s.port p).tc.tryMode = 2),
     sat (.ccDebounceExpiry p) s fun t => decide ((t.port p).tc.st = .trySnk
      ∧ (t.port p).timers[tCc] = Timer.armed' .drpTry (s.port p).tDrpTry
      ∧ (t.port p).timers[tHealth] = Timer.armed' .tryWait (s.port p).tTryWait))) = (true, true) := by decide +kernel

theorem test_ccDebounce_audio :
    (let b := live
     let p : PortId := 0
     let s : State := (expd b .attachWaitSrc tCc .ccDebounce).modPort 0 fun x => { x with tc := { x.tc with cc1 := .ra, cc2 := .ra } }
     (decide (s.due p tCc .ccDebounce = true
      ∧ (s.port p).tc.st = .attachWaitSrc
      ∧ (s.port p).tc.cc1 = .ra
      ∧ (s.port p).tc.cc2 = .ra),
     sat (.ccDebounceExpiry p) s fun t => decide ((t.port p).tc.st = .audioAcc
      ∧ (t.port p).pd = (s.port p).pd
      ∧ (t.port p).phy = (s.port p).phy
      ∧ (t.port p).stage = (s.port p).stage))) = (true, true) := by decide +kernel

theorem test_ccDebounce_snk :
    (let b := live
     let p : PortId := 0
     let s : State := (expd b .attachWaitSnk tCc .ccDebounce).modPort 0 fun x => withVbs 50000 { x with tc := { x.tc with cc1 := .rp1A5, cc2 := .opened, role := 1 } }
     (decide (s.due p tCc .ccDebounce = true
      ∧ (((s.port p).tc.st = .attachWaitSnk ∧ ((s.port p).tc.cc1.isRp = false ∨ (s.port p).tc.cc2.isRp = false) ∧ ((s.port p).tc.role ≠ 2 ∨ (s.port p).tc.tryMode ≠ 1)) ∨ (s.port p).tc.st = .tryWaitSnk)
      ∧ (s.port p).vbusPresent = true),
     sat (.ccDebounceExpiry p) s fun t => decide ((t.port p).tc.st = .attachedSnk
      ∧ (t.port p).tc.orient = ((s.port p).tc.cc1 == .opened || (s.port p).tc.cc1 == .ra)
      ∧ (t.port p).pd.powerSource = false
      ∧ (t.port p).pd.dfp = false
      ∧ (t.port p).pd.attachSource = false
      ∧ (t.port p).phy.cal = .safe
      ∧ (t.port p).phy.applied = (s.port p).phy.safe
      ∧ (t.port p).timers[tCaps] = Timer.armed' .sinkWaitCap (ms 465)))) = (true, true) := by decide +kernel

theorem test_ccDebounce_debugSnk :
    (let b := live
     let p : PortId := 0
     let s : State := (expd b .attachWaitSnk tCc .ccDebounce).modPort 0 fun x => withVbs 50000 { x with tc := { x.tc with cc1 := .rp1A5, cc2 := .rpDefault } }
     (decide (s.due p tCc .ccDebounce = true
      ∧ (s.port p).tc.st = .attachWaitSnk
      ∧ (s.port p).tc.cc1.isRp = true
      ∧ (s.port p).tc.cc2.isRp = true
      ∧ (s.port p).vbusPresent = true),
     sat (.ccDebounceExpiry p) s fun t => decide ((t.port p).tc.st = .debugAccSnk
      ∧ (t.port p).pd.powerSource = false
      ∧ (t.port p).pd.dfp = false
      ∧ (t.port p).stage.want = (s.port p).stage.want))) = (true, true) := by decide +kernel

theorem test_ccDebounce_trySrc :
    (let b := live
     let p : PortId := 0
     let s : State := (expd b .attachWaitSnk tCc .ccDebounce).modPort 0 fun x => withVbs 50000 { x with tc := { x.tc with cc1 := .rp1A5, cc2 := .opened, role := 2, tryMode := 1 } }
     (decide (s.due p tCc .ccDebounce = true
      ∧ (s.port p).tc.st = .attachWaitSnk
      ∧ ((s.port p).tc.cc1.isRp = false ∨ (s.port p).tc.cc2.isRp = false)
      ∧ (s.port p).tc.role = 2
      ∧ (s.port p).tc.tryMode = 1
      ∧ (s.port p).vbusPresent = true),
     sat (.ccDebounceExpiry p) s fun t => decide ((t.port p).tc.st = .trySrc
      ∧ (t.port p).timers[tCc] = Timer.armed' .drpTry (s.port p).tDrpTry
      ∧ (t.port p).timers[tHealth] = Timer.armed' .tryTimeout (s.port p).tTryTimeout))) = (true, true) := by decide +kernel

theorem test_ccDebounce_wait :
    (let b := live
     let p : PortId := 0
     let s : State := (expd b .attachWaitSnk tCc .ccDebounce).modPort 0 (withVbs 0)
     (decide (s.due p tCc .ccDebounce = true
      ∧ ((s.port p).tc.st = .attachWaitSnk ∨ (s.port p).tc.st = .tryWaitSnk)
      ∧ (s.port p).vbusPresent = false),
     sat (.ccDebounceExpiry p) s fun t => decide ((t.port p).tc = { (s.port p).tc with debounced := true }
      ∧ (t.port p).timers[tCc] = Timer.idle))) = (true, true) := by decide +kernel

theorem test_pdDebounce_src :
    (let b := live
     let p : PortId := 0
     let s : State := expd b .attachWaitSrc tCc .pdDebounce
     (decide (s.due p tCc .pdDebounce = true
      ∧ (s.port p).tc.st = .attachWaitSrc),
     sat (.pdDebounceExpiry p) s fun t => decide ((t.port p).tc.st = (if (s.port p).entrySide false then .unattachedSnk else .unattachedSrc)
      ∧ (t.port p).tc.role = (s.port p).roleOf))) = (true, true) := by decide +kernel

theorem test_pdDebounce_snk :
    (let b := live
     let p : PortId := 0
     let s : State := expd b .tryWaitSnk tCc .pdDebounce
     (decide (s.due p tCc .pdDebounce = true
      ∧ ((s.port p).tc.st = .attachWaitSnk ∨ (s.port p).tc.st = .tryWaitSnk)),
     sat (.pdDebounceExpiry p) s fun t => decide ((t.port p).tc.st = (if (s.port p).entrySide true then .unattachedSnk else .unattachedSrc)
      ∧ (t.port p).tc.role = (s.port p).roleOf))) = (true, true) := by decide +kernel

theorem test_pdDebounce_recovery :
    (let b := live
     let p : PortId := 0
     let s : State := (expd b .attachedSnk tCc .pdDebounce).modPort 0 fun x => { x with pd := { Pd.reset with recov := some (.snkRise 5) } }
     (decide (s.due p tCc .pdDebounce = true
      ∧ ((s.port p).tc.st = .attachedSnk ∨ (s.port p).tc.st = .debugAccSnk)
      ∧ (s.port p).pd.recov ≠ none
      ∧ (s.port p).srcHeld = false),
     sat (.pdDebounceExpiry p) s fun t => decide ((t.port p).tc.st = (if (s.port p).entrySide true then .unattachedSnk else .unattachedSrc)
      ∧ (t.port p).pd.contract = Contract.none
      ∧ (t.port p).guard.gateOn = false))) = (true, true) := by decide +kernel

theorem test_tryCcDebounce_src :
    (let b := live
     let p : PortId := 0
     let s : State := (expd b .trySrc tCc .tryDebounce).modPort 0 (withVbs 0)
     (decide (s.due p tCc .tryDebounce = true
      ∧ ((s.port p).tc.st = .trySrc ∨ (s.port p).tc.st = .tryWaitSrc)
      ∧ (s.port p).vSafe0 = true),
     sat (.tryCcDebounceExpiry p) s fun t => decide ((t.port p).tc.st = .attachedSrc
      ∧ (t.port p).tc.orient = ((s.port p).tc.cc1 != .rd)
      ∧ (t.port p).pd.powerSource = true
      ∧ (t.port p).stage.want = .forward
      ∧ (t.port p).stage.vTgt = 250))) = (true, true) := by decide +kernel

theorem test_tryCcDebounce_srcWaits :
    (let b := live
     let p : PortId := 0
     let s : State := (expd b .tryWaitSrc tCc .tryDebounce).modPort 0 (withVbs 9000)
     (decide (s.due p tCc .tryDebounce = true
      ∧ ((s.port p).tc.st = .trySrc ∨ (s.port p).tc.st = .tryWaitSrc)
      ∧ (s.port p).vSafe0 = false),
     sat (.tryCcDebounceExpiry p) s fun t => decide ((t.port p).tc = { (s.port p).tc with debounced := true }))) = (true, true) := by decide +kernel

theorem test_tryCcDebounce_snk :
    (let b := live
     let p : PortId := 0
     let s : State := (expd b .trySnk tCc .tryDebounce).modPort 0 (withVbs 50000)
     (decide (s.due p tCc .tryDebounce = true
      ∧ (s.port p).tc.st = .trySnk
      ∧ (s.port p).vbusPresent = true),
     sat (.tryCcDebounceExpiry p) s fun t => decide ((t.port p).tc.st = .attachedSnk
      ∧ (t.port p).pd.powerSource = false))) = (true, true) := by decide +kernel

theorem test_tryCcDebounce_snkWaits :
    (let b := live
     let p : PortId := 0
     let s : State := (expd b .trySnk tCc .tryDebounce).modPort 0 (withVbs 0)
     (decide (s.due p tCc .tryDebounce = true
      ∧ (s.port p).tc.st = .trySnk
      ∧ (s.port p).vbusPresent = false),
     sat (.tryCcDebounceExpiry p) s fun t => decide ((t.port p).tc = { (s.port p).tc with tryHeld := true }))) = (true, true) := by decide +kernel

theorem test_drpToggle_src :
    (let b := live
     let p : PortId := 0
     let s : State := (expd b .unattachedSrc tCc .drpToggle).modPort 0 fun x => { x with cfg := { x.cfg with roleCfg := 0x0CCB3262#32 } }
     (decide (s.due p tCc .drpToggle = true
      ∧ (s.port p).roleOf = 2
      ∧ (s.port p).tc.st = .unattachedSrc),
     sat (.drpToggleExpiry p) s fun t => decide ((t.port p).tc.st = .unattachedSnk
      ∧ (t.port p).timers[tCc] = Timer.armed' .drpToggle ((s.port p).tDrp - (s.port p).srcPart)))) = (true, true) := by decide +kernel

theorem test_drpToggle_snk :
    (let b := live
     let p : PortId := 0
     let s : State := (expd b .unattachedSnk tCc .drpToggle).modPort 0 fun x => { x with cfg := { x.cfg with roleCfg := 0x0CCB3262#32 } }
     (decide (s.due p tCc .drpToggle = true
      ∧ (s.port p).roleOf = 2
      ∧ (s.port p).tc.st = .unattachedSnk),
     sat (.drpToggleExpiry p) s fun t => decide ((t.port p).tc.st = .unattachedSrc
      ∧ (t.port p).timers[tCc] = Timer.armed' .drpToggle (s.port p).srcPart))) = (true, true) := by decide +kernel

theorem test_drpToggle_role :
    (let b := live
     let p : PortId := 0
     let s : State := (expd b .unattachedSnk tCc .drpToggle).modPort 0 fun x => { x with cfg := { x.cfg with roleCfg := 0x0CCB3261#32 } }
     (decide (s.due p tCc .drpToggle = true
      ∧ ((s.port p).roleOf = 0 ∨ (s.port p).roleOf = 1)
      ∧ (s.port p).tc.st.unattached = true),
     sat (.drpToggleExpiry p) s fun t => decide ((t.port p).tc.st = (if (s.port p).roleOf = 1 then .unattachedSnk else .unattachedSrc)
      ∧ (t.port p).tc.role = (s.port p).roleOf
      ∧ (t.port p).timers[tCc] = Timer.idle))) = (true, true) := by decide +kernel

theorem test_drpTry_src :
    (let b := live
     let p : PortId := 0
     let s : State := expd b .trySrc tCc .drpTry
     (decide (s.due p tCc .drpTry = true
      ∧ (s.port p).tc.st = .trySrc),
     sat (.drpTryExpiry p) s fun t => decide ((t.port p).tc.st = .tryWaitSnk
      ∧ (t.port p).timers[tCc] = Timer.armed' .pdDebounce (s.port p).tPdDeb))) = (true, true) := by decide +kernel

theorem test_drpTry_snk :
    (let b := live
     let p : PortId := 0
     let s : State := (expd b .trySnk tCc .drpTry).modPort 0 fun x => { x with tc := { x.tc with cc1 := .rp3A0 } }
     (decide (s.due p tCc .drpTry = true
      ∧ (s.port p).tc.st = .trySnk),
     sat (.drpTryExpiry p) s fun t => decide ((t.port p).tc = { (s.port p).tc with debounced := true }
      ∧ (t.port p).timers[tCc] = (if ((s.port p).tc.cc1.isRp || (s.port p).tc.cc2.isRp) = true then Timer.armed' .tryDebounce (s.port p).tTryDeb else Timer.idle)))) = (true, true) := by decide +kernel

theorem test_drpTry_wait :
    (let b := live
     let p : PortId := 0
     let s : State := expd b .tryWaitSrc tCc .drpTry
     (decide (s.due p tCc .drpTry = true
      ∧ (s.port p).tc.st = .tryWaitSrc),
     sat (.drpTryExpiry p) s fun t => decide ((t.port p).tc.st = (if (s.port p).entrySide true then .unattachedSnk else .unattachedSrc)))) = (true, true) := by decide +kernel

theorem test_tryWait :
    (let b := live
     let p : PortId := 0
     let s : State := expd b .trySnk tHealth .tryWait
     (decide (s.due p tHealth .tryWait = true
      ∧ (s.port p).tc.st = .trySnk),
     sat (.tryWaitExpiry p) s fun t => decide ((t.port p).tc.st = .tryWaitSrc
      ∧ (t.port p).timers[tCc] = Timer.armed' .drpTry (s.port p).tDrpTry))) = (true, true) := by decide +kernel

theorem test_tryTimeout :
    (let b := live
     let p : PortId := 0
     let s : State := expd b .trySrc tHealth .tryTimeout
     (decide (s.due p tHealth .tryTimeout = true
      ∧ (s.port p).tc.st = .trySrc),
     sat (.tryTimeoutExpiry p) s fun t => decide ((t.port p).tc.st = .tryWaitSnk
      ∧ (t.port p).timers[tCc] = Timer.armed' .pdDebounce (s.port p).tPdDeb))) = (true, true) := by decide +kernel

theorem test_attachSrcEntry :
    (let b := live
     let p : PortId := 0
     let s : State := (onTc b .attachWaitSrc fun t => { t with debounced := true, rdDone := true, cc1 := .ra, cc2 := .rd }).modPort 0 (withVbs 10)
     (decide (s.fw p = true
      ∧ (s.port p).srcEntryDue = true
      ∧ (s.port p).vSafe0 = true),
     sat (.attachSrcEntry p) s fun t => decide ((t.port p).tc.st = .attachedSrc
      ∧ (t.port p).tc.orient = ((s.port p).tc.cc1 != .rd)
      ∧ (t.port p).pd.powerSource = true
      ∧ (t.port p).pd.dfp = true
      ∧ (t.port p).pd.attachSource = true
      ∧ (t.port p).pd.capsDue = true
      ∧ (t.port p).phy.cal = .safe
      ∧ (t.port p).phy.applied = (s.port p).phy.safe
      ∧ (t.port p).stage.want = .forward
      ∧ (t.port p).stage.vTgt = 250))) = (true, true) := by decide +kernel

theorem test_rdCheck_pass1 :
    (let b := live
     let p : PortId := 0
     let k : RdCheck := ⟨some false, none, 2, 0⟩
     let s : State := (onTc b .attachWaitSrc fun t => { t with rdCheck := some ⟨some false, none, 2, 0⟩, cc1 := .rd, cc2 := .ra }).modPort 0 fun x => { x with grant := 30, cfg := .reset, harn := { x.harn with rCc := 0 } }
     let uv1 : Int := if (s.port 0).rpLevel == 0 then 408000 else if (s.port 0).rpLevel == 1 then 918000 else 1683000
     let uv2 : Int := if (s.port 0).rpLevel == 0 then 1683000 else 408000
     (decide (s.fw p = true
      ∧ (s.port p).tc.st = .attachWaitSrc
      ∧ (s.port p).tc.rdCheck = some k
      ∧ k.line1 = some false
      ∧ k.n1 = 2
      ∧ k.line2 ≠ some false
      ∧ ((s.port p).tc.cc1 ≠ .rd ∨ (s.port p).tc.cc2 ≠ .rd)
      ∧ rdPass (s.port p).rpLevel ((s.port p).rpOf == 0) (s.port p).harn.rCc.toNat uv1 uv2 = true),
     sat (.rdCheckComplete p .cc1 uv1 uv2) s fun t => decide ((t.port p).tc = { (s.port p).tc with rdCheck := none, rdDone := true }))) = (true, true) := by decide +kernel

theorem test_rdCheck_pass2 :
    (let b := live
     let p : PortId := 0
     let k : RdCheck := ⟨none, some false, 0, 2⟩
     let s : State := (onTc b .attachWaitSrc fun t => { t with rdCheck := some ⟨none, some false, 0, 2⟩, cc1 := .ra, cc2 := .rd }).modPort 0 fun x => { x with grant := 30, cfg := .reset, harn := { x.harn with rCc := 0 } }
     let uv1 : Int := if (s.port 0).rpLevel == 0 then 408000 else if (s.port 0).rpLevel == 1 then 918000 else 1683000
     let uv2 : Int := if (s.port 0).rpLevel == 0 then 1683000 else 408000
     (decide (s.fw p = true
      ∧ (s.port p).tc.st = .attachWaitSrc
      ∧ (s.port p).tc.rdCheck = some k
      ∧ k.line2 = some false
      ∧ k.n2 = 2
      ∧ k.line1 ≠ some false
      ∧ ((s.port p).tc.cc1 ≠ .rd ∨ (s.port p).tc.cc2 ≠ .rd)
      ∧ rdPass (s.port p).rpLevel ((s.port p).rpOf == 0) (s.port p).harn.rCc.toNat uv1 uv2 = true),
     sat (.rdCheckComplete p .cc2 uv1 uv2) s fun t => decide ((t.port p).tc = { (s.port p).tc with rdCheck := none, rdDone := true }))) = (true, true) := by decide +kernel

theorem test_rdCheck_first :
    (let b := live
     let p : PortId := 0
     let k : RdCheck := ⟨some false, some false, 2, 1⟩
     let s : State := (onTc b .attachWaitSrc fun t => { t with rdCheck := some ⟨some false, some false, 2, 1⟩, cc1 := .rd, cc2 := .rd }).modPort 0 fun x => { x with grant := 30, cfg := .reset, harn := { x.harn with rCc := 0 } }
     let uv1 : Int := if (s.port 0).rpLevel == 0 then 408000 else if (s.port 0).rpLevel == 1 then 918000 else 1683000
     let uv2 : Int := if (s.port 0).rpLevel == 0 then 1683000 else 408000
     (decide (s.fw p = true
      ∧ (s.port p).tc.st = .attachWaitSrc
      ∧ (s.port p).tc.rdCheck = some k
      ∧ k.line1 = some false
      ∧ k.n1 = 2
      ∧ k.line2 = some false
      ∧ rdPass (s.port p).rpLevel ((s.port p).rpOf == 0) (s.port p).harn.rCc.toNat uv1 uv2 = true),
     sat (.rdCheckComplete p .cc1 uv1 uv2) s fun t => decide ((t.port p).tc = { (s.port p).tc with rdCheck := some { k with line1 := some true } }))) = (true, true) := by decide +kernel

theorem test_rdCheck_both :
    (let b := live
     let p : PortId := 0
     let k : RdCheck := ⟨some true, some false, 2, 2⟩
     let s : State := (onTc b .attachWaitSrc fun t => { t with rdCheck := some ⟨some true, some false, 2, 2⟩, cc1 := .rd, cc2 := .rd }).modPort 0 fun x => { x with grant := 30, cfg := .reset, harn := { x.harn with rCc := 0 } }
     let uv1 : Int := if (s.port 0).rpLevel == 0 then 408000 else if (s.port 0).rpLevel == 1 then 918000 else 1683000
     let uv2 : Int := if (s.port 0).rpLevel == 0 then 1683000 else 408000
     (decide (s.fw p = true
      ∧ (s.port p).tc.st = .attachWaitSrc
      ∧ (s.port p).tc.rdCheck = some k
      ∧ k.line2 = some false
      ∧ k.n2 = 2
      ∧ k.line1 ≠ some false
      ∧ (s.port p).tc.cc1 = .rd
      ∧ (s.port p).tc.cc2 = .rd
      ∧ rdPass (s.port p).rpLevel ((s.port p).rpOf == 0) (s.port p).harn.rCc.toNat uv1 uv2 = true),
     sat (.rdCheckComplete p .cc2 uv1 uv2) s fun t => decide ((t.port p).tc.st = .debugAccSrc
      ∧ (t.port p).pd.powerSource = true))) = (true, true) := by decide +kernel

theorem test_rdCheck_fail :
    (let b := live
     let p : PortId := 0
     let l : Line := .cc1
     let uv1 : Int := 100
     let uv2 : Int := 100
     let k : RdCheck := ⟨some false, none, 2, 0⟩
     let s : State := (onTc b .attachWaitSrc fun t => { t with rdCheck := some ⟨some false, none, 2, 0⟩, cc1 := .rd, cc2 := .ra }).modPort 0 plain
     (decide (s.fw p = true
      ∧ (s.port p).tc.st = .attachWaitSrc
      ∧ (s.port p).tc.rdCheck = some k
      ∧ ((l = .cc1 ∧ k.line1 = some false ∧ k.n1 = 2) ∨ (l = .cc2 ∧ k.line2 = some false ∧ k.n2 = 2))
      ∧ rdPass (s.port p).rpLevel ((s.port p).rpOf == 0) (s.port p).harn.rCc.toNat uv1 uv2 = false),
     sat (.rdCheckComplete p l uv1 uv2) s fun t => decide ((t.port p).tc.st = .dryWait
      ∧ (t.port p).moist.rdImplausible = true
      ∧ (t.port p).moist.why = some .rdImplausible
      ∧ (t.port p).timers[tHealth] = Timer.armed' .dryRecheck (25000 * fld (s.port p).cfg.dryRecheck 0 16)))) = (true, true) := by decide +kernel

theorem test_srcDisconnect :
    (let b := live
     let p : PortId := 0
     let s : State := (expd b .attachedSrc tCc .srcDisconnect).modPort 0 fun x => { plain x with pd := { x.pd with swap := none } }
     (decide (s.due p tCc .srcDisconnect = true
      ∧ ((s.port p).tc.st = .attachedSrc ∨ (s.port p).tc.st = .debugAccSrc ∨ (s.port p).tc.st = .audioAcc)
      ∧ (s.port p).srcHeld = false),
     sat (.srcDisconnectExpiry p) s fun t => decide ((t.port p).tc.st = (if (s.port p).entrySide ((s.port p).roleOf == 2) then .unattachedSnk else .unattachedSrc)
      ∧ (t.port p).tc.role = (s.port p).roleOf
      ∧ (t.port p).pd.contract = Contract.none
      ∧ (t.port p).tc.vconnOn = false
      ∧ (t.port p).guard.gateOn = false
      ∧ (t.port p).stage.mode = .idle
      ∧ (t.port p).phy.cal = .off
      ∧ (t.port p).stage.disH = true))) = (true, true) := by decide +kernel

theorem test_srcDisconnect_held :
    (let b := live
     let p : PortId := 0
     let s : State := (expd b .attachedSrc tCc .srcDisconnect).modPort 0 fun x => { x with pd := { x.pd with swap := some ⟨.pr, true, 0, 0, 0, none, false⟩ } }
     (decide ((s.port p).srcHeld = true),
     sat (.srcDisconnectExpiry p) s fun t => decide ((t.port p).tc = (s.port p).tc))) = (true, true) := by decide +kernel

theorem test_sinkDetach :
    (let b := live
     let p : PortId := 0
     let s : State := (onTc b .attachedSnk id).modPort 0 fun x => { x with stage := { x.stage with runs := { x.stage.runs with sinkLow := 3 } }, pd := { x.pd with swap := none, recov := none } }
     (decide (s.fw p = true
      ∧ ((s.port p).tc.st = .attachedSnk ∨ (s.port p).tc.st = .debugAccSnk)
      ∧ (s.port p).detachHeld = false
      ∧ 3 ≤ (s.port p).stage.runs.sinkLow),
     sat (.sinkDetach p) s fun t => decide ((t.port p).tc.st = (if (s.port p).entrySide true then .unattachedSnk else .unattachedSrc)
      ∧ (t.port p).tc.role = (s.port p).roleOf
      ∧ (t.port p).pd.contract = Contract.none
      ∧ (t.port p).tc.vconnOn = false
      ∧ (t.port p).guard.gateOn = false
      ∧ (t.port p).phy.cal = .off))) = (true, true) := by decide +kernel

theorem test_errorRecovery_role :
    (let b := live
     let p : PortId := 0
     let s : State := (expd { b with faults := { b.faults with hold := false } } .errorRecovery tCc .errorRecovery).modPort 0 fun x => { plain x with tc := { x.tc with errFromCal := false, tripWait := false } }
     (decide (s.due p tCc .errorRecovery = true
      ∧ (s.port p).tc.st = .errorRecovery
      ∧ s.faults.hold = false
      ∧ ((s.port p).tc.tripWait = false ∨ (s.port p).coolEnough = true)
      ∧ (s.port p).tc.errFromCal = false),
     sat (.errorRecoveryExpiry p) s fun t => decide ((t.port p).tc.st.unattached = true
      ∧ ((s.port p).roleOf = 0 → (t.port p).tc.st = .unattachedSrc)
      ∧ ((s.port p).roleOf = 1 → (t.port p).tc.st = .unattachedSnk)
      ∧ (t.port p).tc.role = (s.port p).roleOf))) = (true, true) := by decide +kernel

theorem test_errorRecovery_cal :
    (let b := live
     let p : PortId := 0
     let s : State := (expd { b with faults := { b.faults with hold := false } } .errorRecovery tCc .errorRecovery).modPort 0 fun x => { x with tc := { x.tc with errFromCal := true, tripWait := false } }
     (decide (s.due p tCc .errorRecovery = true
      ∧ (s.port p).tc.st = .errorRecovery
      ∧ s.faults.hold = false
      ∧ ((s.port p).tc.tripWait = false ∨ (s.port p).coolEnough = true)
      ∧ (s.port p).tc.errFromCal = true),
     sat (.errorRecoveryExpiry p) s fun t => decide ((t.port p).tc.st = .calibrating
      ∧ (t.port p).harn.step = some .s1
      ∧ (t.port p).harn.status = 1))) = (true, true) := by decide +kernel

theorem test_errorRecovery_waits :
    (let b := live
     let p : PortId := 0
     let s : State := (expd { b with faults := { b.faults with hold := true } } .errorRecovery tCc .errorRecovery)
     (decide (s.faults.hold = true ∨ ((s.port p).tc.tripWait = true ∧ (s.port p).coolEnough = false)),
     sat (.errorRecoveryExpiry p) s fun t => decide ((t.port p).tc = (s.port p).tc))) = (true, true) := by decide +kernel

theorem test_vconnOc :
    (let b := live
     let p : PortId := 0
     let lim : Bool := true
     let s : State := onTc b .attachedSrc fun t => { t with vconnOn := true }
     (decide ((s.port p).tc.vconnOn = true),
     sat (.vconnOc p lim) s fun t => decide ((t.port p).tc.vconnOn = false
      ∧ (t.port p).tc.vconnOc = true
      ∧ (t.port p).tc.st = (s.port p).tc.st
      ∧ ((t.port p).ctxOf .sop1).vconnOk = false
      ∧ ((t.port p).ctxOf .sop2).vconnOk = false
      ∧ t.raisedAt (64 + p.val) = true))) = (true, true) := by decide +kernel

theorem test_cnVconn_good :
    (let b := live
     let c : ClusterId := 0
     let xs : List Int := List.replicate 8 5000
     let s : State := b.modCluster 0 fun c => { c with vconnGood := false }
     (decide (s.senDriven c = true
      ∧ xs.length = 8
      ∧ (s.cluster c).vconnGood = false
      ∧ xs.all vconnGoodSample = true),
     sat (.cnVconnMonitor c xs) s fun t => decide ((t.cluster c).vconnGood = true))) = (true, true) := by decide +kernel

theorem test_cnVconn_bad :
    (let b := live
     let c : ClusterId := 0
     let xs : List Int := List.replicate 8 4000
     let s : State := (onTc b .attachedSrc fun t => { t with vconnOn := true }).modCluster 0 fun c => { c with vconnGood := true }
     (decide (s.senDriven c = true
      ∧ xs.length = 8
      ∧ (s.cluster c).vconnGood = true
      ∧ xs.all vconnBadSample = true),
     sat (.cnVconnMonitor c xs) s fun t => decide ((t.cluster c).vconnGood = false
      ∧ (∀ i : Fin 12, (t.port (portOf c i)).tc.vconnOn = false)
      ∧ (∀ i : Fin 12, (s.port (portOf c i)).tc.vconnOn = true → t.raisedAt (64 + (portOf c i).val) = true)))) = (true, true) := by decide +kernel

/-! ### Calibration, moisture, trims, Planish -/
def onHarn (b : State) (k : CalStep) : State :=
  onP b fun x => { x with harn := { Harness.reset with step := some k, status := 1 }, tc := { x.tc with st := .calibrating } }

/-! ### Harness calibration and moisture -/

theorem test_cal_offsets :
    (let b := live
     let p : PortId := 0
     let v : Int := 500
     let g : Int := -500
     let s : State := onHarn b .s1
     (decide ((s.port p).harn.step = some .s1
      ∧ (s.port p).harn.complete = false
      ∧ v.natAbs ≤ 500
      ∧ g.natAbs ≤ 500
      ∧ s.fw p = true),
     sat (.harnCalStep p (.offsets v g)) s fun t => decide ((t.port p).harn.vbsOfs = half v
      ∧ (t.port p).harn.gsnOfs = half g
      ∧ (t.port p).harn.step = some .s2
      ∧ (t.port p).tc.st = (s.port p).tc.st))) = (true, true) := by decide +kernel

theorem test_cal_offsets_kept :
    (let b := live
     let p : PortId := 0
     let v : Int := 500
     let g : Int := -500
     let s : State := (onHarn b .s1).modPort 0 fun x => { x with harn := { x.harn with keep2 := some 77, keep3 := some (5, 6), keep4a := some 65000, keep4b := some 9 } }
     (decide ((s.port p).harn.step = some .s1
      ∧ (s.port p).harn.complete = true
      ∧ v.natAbs ≤ 500
      ∧ g.natAbs ≤ 500
      ∧ s.fw p = true),
     sat (.harnCalStep p (.offsets v g)) s fun t => decide ((t.port p).harn.step = none
      ∧ (t.port p).harn.status = 2
      ∧ (t.port p).harn.rCc = (s.port p).harn.keep2.getD 0
      ∧ (t.port p).harn.rDrop = (s.port p).harn.keep4b.getD 0
      ∧ (t.port p).tc.pReady = true
      ∧ ((t.port p).tc.st.unattached = true ∨ ((t.port p).tc.st = .attachedSnk ∧ isService p = true))))) = (true, true) := by decide +kernel

theorem test_cal_offsets_fail :
    (let b := live
     let p : PortId := 0
     let v : Int := 0
     let g : Int := -501
     let s : State := onHarn b .s1
     (decide ((s.port p).harn.step = some .s1
      ∧ (500 < v.natAbs ∨ 500 < g.natAbs)
      ∧ s.fw p = true),
     sat (.harnCalStep p (.offsets v g)) s fun t => decide ((t.port p).tc.st = .calFailed
      ∧ (t.port p).tc.pReady = false
      ∧ (t.port p).harn.status = 4
      ∧ (t.port p).harn.cause = 1
      ∧ t.raisedAt (64 + p.val) = true))) = (true, true) := by decide +kernel

theorem test_cal_conductor :
    (let b := live
     let p : PortId := 0
     let v0 : Int := 0
     let v10 : Int := 200000
     let s : State := onHarn b .s2
     (decide ((s.port p).harn.step = some .s2
      ∧ 0 ≤ v10 - v0
      ∧ v10 - v0 ≤ 200000
      ∧ s.fw p = true),
     sat (.harnCalStep p (.conductor v0 v10)) s fun t => decide ((t.port p).harn.rCc = half ((v10 - v0) / 10)
      ∧ (t.port p).harn.step = none
      ∧ (t.port p).harn.status = 3
      ∧ ((t.port p).tc.st.unattached = true ∨ ((t.port p).tc.st = .attachedSnk ∧ isService p = true))))) = (true, true) := by decide +kernel

theorem test_cal_conductor_fail :
    (let b := live
     let p : PortId := 0
     let v0 : Int := 0
     let v10 : Int := 200010
     let s : State := onHarn b .s2
     (decide ((s.port p).harn.step = some .s2
      ∧ 200010 ≤ v10 - v0
      ∧ s.fw p = true),
     sat (.harnCalStep p (.conductor v0 v10)) s fun t => decide ((t.port p).tc.st = .calFailed
      ∧ (t.port p).harn.cause = 2
      ∧ t.raisedAt (64 + p.val) = true))) = (true, true) := by decide +kernel

theorem test_cal_capacitance :
    (let b := live
     let p : PortId := 0
     let v1 : Nat := 110000
     let v2 : Nat := 1000000
     let s : State := onHarn b .s3
     (decide ((s.port p).harn.step = some .s3
      ∧ 110000 ≤ v1
      ∧ 110000 ≤ v2
      ∧ s.fw p = true),
     sat (.harnCalStep p (.capacitance v1 v2)) s fun t => decide ((t.port p).harn.step = some .s4a
      ∧ (t.port p).harn.cCc1 = BitVec.ofNat 16 ((165000000 + v1 / 2) / v1)
      ∧ (t.port p).harn.cCc2 = BitVec.ofNat 16 ((165000000 + v2 / 2) / v2)
      ∧ (t.port p).harn.capHigh = decide (1200 < (165000000 + v1 / 2) / v1 ∨ 1200 < (165000000 + v2 / 2) / v2)
      ∧ (t.port p).stage.vTgt = 35))) = (true, true) := by decide +kernel

theorem test_cal_gain :
    (let b := live
     let p : PortId := 0
     let vbh : Int := 7000
     let raw : Int := 7100
     let s : State := (onHarn b .s4a).modPort 0 fun x => { x with harn := { x.harn with vbsOfs := 100 } }
     (decide ((s.port p).harn.step = some .s4a
      ∧ 3500 ≤ vbh
      ∧ ((raw - (s.port p).harn.vbsOfs.toInt) * 100 - vbh * 100).natAbs ≤ vbh.natAbs * 2
      ∧ s.fw p = true),
     sat (.harnCalStep p (.gain vbh raw)) s fun t => decide ((t.port p).harn.step = some .s4b
      ∧ (t.port p).harn.gain = (vbh * 65536 / (raw - (s.port p).harn.vbsOfs.toInt)).toNat
      ∧ (t.port p).harn.bleeder = true))) = (true, true) := by decide +kernel

theorem test_cal_drop :
    (let b := live
     let p : PortId := 0
     let vbh : Int := 7000
     let raw : Int := 6900
     let s : State := (onHarn b .s4b).modPort 0 fun x => { x with harn := { x.harn with bleeder := true, gain := 65536 } }
     let v : Int := (s.port 0).corrected 6900
     (decide ((s.port p).harn.step = some .s4b
      ∧ (s.port p).harn.bleeder = true
      ∧ v = (s.port p).corrected raw
      ∧ 1000 ≤ v
      ∧ 0 ≤ ((vbh - v) * 20 * 1000 + v / 2) / v
      ∧ ((vbh - v) * 20 * 1000 + v / 2) / v ≤ 2000
      ∧ s.fw p = true),
     sat (.harnCalStep p (.drop vbh raw)) s fun t => decide ((t.port p).harn.step = some .s4c
      ∧ (t.port p).harn.rDrop = half (((vbh - v) * 20 * 1000 + v / 2) / v)
      ∧ (t.port p).stage.vTgt = 0
      ∧ (t.port p).stage.mode = .idle
      ∧ (t.port p).guard.gateOn = false))) = (true, true) := by decide +kernel

theorem test_cal_late_fail :
    (let b := live
     let p : PortId := 0
     let vbh : Int := 3499
     let raw : Int := 3499
     let s : State := onHarn b .s4a
     (decide ((s.port p).harn.step = some .s4a
      ∧ vbh < 3500
      ∧ s.fw p = true),
     sat (.harnCalStep p (.gain vbh raw)) s fun t => decide ((t.port p).tc.st = .calFailed
      ∧ (t.port p).harn.cause = 5
      ∧ t.raisedAt (64 + p.val) = true))) = (true, true) := by decide +kernel

theorem test_cal_release :
    (let b := live
     let p : PortId := 0
     let n : Nat := 50
     let s : State := onHarn b .s4c
     (decide ((s.port p).harn.step = some .s4c
      ∧ n ≤ 50
      ∧ s.fw p = true),
     sat (.harnCalStep p (.release n)) s fun t => decide ((t.port p).harn.step = none
      ∧ (t.port p).harn.status = 2
      ∧ (t.port p).tc.pReady = true
      ∧ (t.port p).harn.bleeder = false
      ∧ (t.port p).tc.st = (s.port p).tc.st))) = (true, true) := by decide +kernel

theorem test_cal_termination :
    (let b := live
     let p : PortId := 0
     let k : CalStep := .s4b
     let s : State := onHarn b .s4b
     (decide ((s.port p).harn.step = some k
      ∧ k ≠ .s1
      ∧ k ≠ .s2
      ∧ s.fw p = true),
     sat (.harnCalStep p .termination) s fun t => decide ((t.port p).harn.step = none
      ∧ (t.port p).harn.status = 3
      ∧ (t.port p).harn.resume = k
      ∧ (t.port p).harn.bleeder = false
      ∧ (t.port p).tc.st = (s.port p).tc.st))) = (true, true) := by decide +kernel

theorem test_cal_deferred :
    (let b := live
     let p : PortId := 0
     let s : State := onP { b with dev := live.dev } fun x => { x with harn := { Harness.reset with status := 3, resume := .s3 }, tc := { x.tc with st := .unattachedSrc, cc1 := .opened, cc2 := .opened }, guard := .reset, stage := .reset, moist := .reset }
     (decide ((s.port p).calMayRun s.feedOn = true
      ∧ s.fw p = true),
     sat (.harnCalDeferredStart p) s fun t => decide ((t.port p).harn.step = some (s.port p).harn.resume
      ∧ (t.port p).harn.status = 1
      ∧ (t.port p).tc = (s.port p).tc))) = (true, true) := by decide +kernel

theorem test_bleeder :
    (let b := live
     let p : PortId := 0
     let s : State := onP b fun x => { x with harn := { x.harn with bleeder := true } }
     (decide (True),
     sat (.bleederOvervoltage p) s fun t => decide ((t.port 0).harn.bleeder = false))) = (true, true) := by decide +kernel

theorem test_drift :
    (let b := live
     let p : PortId := 0
     let s : State := (onTc b .attachedSrc id).modPort 0 fun x => { x with pd := { x.pd with contract := { x.pd.contract with pos := 1 } }, stage := { x.stage with runs := { x.stage.runs with drift := 8 } } }
     (decide ((s.port p).pd.contract.pos ≠ 0
      ∧ (s.port p).stage.runs.drift = 8),
     sat (.harnDrift p) s fun t => decide (t.raisedAt (64 + p.val) = true
      ∧ (t.port p).tc.st = (s.port p).tc.st
      ∧ (t.port p).pd = (s.port p).pd))) = (true, true) := by decide +kernel

theorem test_sweep_invalid :
    (let b := live
     let p : PortId := 0
     let z : List Nat := List.replicate 7 200000
     let o : List Int := [0, 0]
     let rd1 : Bool := true
     let rd2 : Bool := true
     let s : State := (onTc b .unattachedSrc id).modPort 0 fun x => { x with moist := { x.moist with running := true, pass := 32, term := true }, cfg := .reset }
     (decide (s.fw p = true
      ∧ (s.port p).sweepOver = true
      ∧ (s.port p).moist.term = true),
     sat (.moistureSweepEnd p z o rd1 rd2) s fun t => decide ((t.port p).moist.cls = 5
      ∧ (t.port p).moist.sweeps = (s.port p).moist.sweeps
      ∧ (t.port p).moist.beat = s.now
      ∧ (t.port p).tc = (s.port p).tc
      ∧ (t.port p).moist.pass = 0))) = (true, true) := by decide +kernel

theorem test_sweep_classified :
    (let b := live
     let p : PortId := 0
     let z : List Nat := [900000, 900000, 900000, 900000, 900000, if (b.port 0).tc.wet then 300000 else 900000, 900000]
     let o : List Int := [0, 0]
     let rd1 : Bool := false
     let rd2 : Bool := false
     let s : State := (onTc b .unattachedSrc id).modPort 0 fun x => { x with moist := { x.moist with running := true, pass := 32, term := false, skipped := [] }, cfg := .reset }
     let v : Verdict := (s.port 0).judgeSweep false false z [0, 0]
     (decide (s.fw p = true
      ∧ (s.port p).sweepOver = true
      ∧ (s.port p).moist.term = false
      ∧ v = (s.port p).judgeSweep rd1 rd2 z o
      ∧ v.wet = none
      ∧ v.corr = none
      ∧ (s.port p).tc.st ≠ .dryWait),
     sat (.moistureSweepEnd p z o rd1 rd2) s fun t => decide ((t.port p).moist.cls = (if v.dry then 1 else 2)
      ∧ (t.port p).moist.sweeps = satIncr (s.port p).moist.sweeps
      ∧ (t.port p).moist.beat = s.now
      ∧ (t.port p).moist.pass = 0
      ∧ (t.port p).tc.wet = false
      ∧ (t.port p).tc.corroded = false
      ∧ (t.port p).tc.mute = ((s.port p).tc.mute && !(v.dry || v.clear))
      ∧ (t.port p).tc.st = (s.port p).tc.st
      ∧ (t.port p).moist.z = Vector.ofFn (fun i => BitVec.ofNat 16 (zReport (s.port p).moist.skipped z i.val))
      ∧ (t.port p).moist.ofs = Vector.ofFn (fun i => half (o.getD i.val 0))))) = (true, true) := by decide +kernel

theorem test_sweep_wet :
    (let b := live
     let p : PortId := 0
     let z : List Nat := [60000, 900000, 900000, 900000, 900000, 900000, 900000]
     let o : List Int := [0, 0]
     let rd1 : Bool := false
     let rd2 : Bool := false
     let i : Nat := 0
     let s : State := (onTc { b with policy := .reset } .unattachedSrc id).modPort 0 fun x => { x with moist := { x.moist with running := true, pass := 32, term := false, skipped := [], prevWet := [0] }, cfg := .reset, pd := .reset }
     (decide (s.fw p = true
      ∧ (s.port p).sweepOver = true
      ∧ (s.port p).moist.term = false
      ∧ ((s.port p).judgeSweep rd1 rd2 z o).wet = some i
      ∧ ((s.port p).judgeSweep rd1 rd2 z o).corr = none
      ∧ s.moistOutcome p ptMoistWet = ocDryWait
      ∧ (s.port p).tc.st ≠ .dryWait),
     sat (.moistureSweepEnd p z o rd1 rd2) s fun t => decide ((t.port p).tc.st = .dryWait
      ∧ (t.port p).moist.why = some .wet
      ∧ (t.port p).moist.cls = 3
      ∧ (t.port p).moist.sweeps = satIncr (s.port p).moist.sweeps
      ∧ (t.port p).tc.wet = true
      ∧ (t.port p).tc.pres1 = .none
      ∧ (t.port p).tc.pres2 = .none
      ∧ (t.port p).timers[tHealth] = Timer.armed' .dryRecheck (25000 * fld (s.port p).cfg.dryRecheck 0 16)))) = (true, true) := by decide +kernel

theorem test_sweep_lockout :
    (let b := live
     let p : PortId := 0
     let z : List Nat := [60000, 900000, 900000, 900000, 900000, 900000, 900000]
     let o : List Int := [0, 0]
     let rd1 : Bool := false
     let rd2 : Bool := false
     let i : Nat := 0
     let s : State := (onTc b .dryWait id).modPort 0 fun x => { x with moist := { x.moist with running := true, pass := 32, term := false, skipped := [], prevWet := [0] }, cfg := .reset, pd := .reset }
     let s : State := s |>.modPolicy fun q => { q with classes := q.classes.map fun _ => { Class.reset with header := { Class.reset.header with noMatch := 0x08000000#32 } } }
     (decide (s.fw p = true
      ∧ (s.port p).sweepOver = true
      ∧ (s.port p).moist.term = false
      ∧ ((s.port p).judgeSweep rd1 rd2 z o).wet = some i
      ∧ s.moistOutcome p ptMoistWet = ocLockout),
     sat (.moistureSweepEnd p z o rd1 rd2) s fun t => decide ((t.port p).tc.st = .lockout
      ∧ (t.port p).moist.cls = 3
      ∧ (t.port p).guard.gateOn = false
      ∧ (t.port p).tc.pReady = false))) = (true, true) := by decide +kernel

theorem test_sweep_recheck :
    (let b := live
     let p : PortId := 0
     let z : List Nat := List.replicate 7 900000
     let o : List Int := [0, 0]
     let rd1 : Bool := false
     let rd2 : Bool := false
     let s : State := (onTc b .dryWait id).modPort 0 fun x => { x with moist := { x.moist with running := true, pass := 32, term := false, skipped := [] }, cfg := .reset }
     (decide (s.fw p = true
      ∧ (s.port p).sweepOver = true
      ∧ (s.port p).moist.term = false
      ∧ ((s.port p).judgeSweep rd1 rd2 z o).wet = none
      ∧ ((s.port p).judgeSweep rd1 rd2 z o).corr = none
      ∧ ((s.port p).judgeSweep rd1 rd2 z o).dry = true
      ∧ (s.port p).tc.st = .dryWait
      ∧ ((s.port p).moist.why ≠ some .corroded ∨ corrIdx (s.port p).corrMv (s.port p).moist.skipped o = [])),
     sat (.moistureSweepEnd p z o rd1 rd2) s fun t => decide ((t.port p).tc.st.unattached = true
      ∧ (t.port p).tc.role = (s.port p).roleOf
      ∧ (t.port p).moist.why = none
      ∧ (t.port p).moist.cls = 1
      ∧ (t.port p).moist.sweeps = satIncr (s.port p).moist.sweeps
      ∧ (t.port p).tc.mute = false))) = (true, true) := by decide +kernel

theorem test_sweep_recheckAgain :
    (let b := live
     let p : PortId := 0
     let z : List Nat := List.replicate 7 300000
     let o : List Int := [0, 0]
     let rd1 : Bool := false
     let rd2 : Bool := false
     let s : State := (onTc b .dryWait id).modPort 0 fun x => { x with moist := { x.moist with running := true, pass := 32, term := false, skipped := [], prevWet := [] }, cfg := .reset }
     (decide (s.fw p = true
      ∧ (s.port p).sweepOver = true
      ∧ (s.port p).moist.term = false
      ∧ ((s.port p).judgeSweep rd1 rd2 z o).wet = none
      ∧ ((s.port p).judgeSweep rd1 rd2 z o).corr = none
      ∧ (s.port p).tc.st = .dryWait
      ∧ (((s.port p).judgeSweep rd1 rd2 z o).dry = false ∨ ((s.port p).moist.why = some .corroded ∧ corrIdx (s.port p).corrMv (s.port p).moist.skipped o ≠ []))),
     sat (.moistureSweepEnd p z o rd1 rd2) s fun t => decide ((t.port p).tc.st = .dryWait
      ∧ (t.port p).moist.running = false
      ∧ (t.port p).moist.sweeps = satIncr (s.port p).moist.sweeps
      ∧ (t.port p).timers[tHealth] = Timer.armed' .dryRecheck (25000 * fld (s.port p).cfg.dryRecheck 0 16)))) = (true, true) := by decide +kernel

theorem test_sweep_early :
    (let b := live
     let p : PortId := 0
     let z : List Nat := List.replicate 7 900000
     let o : List Int := [0, 0]
     let rd1 : Bool := false
     let rd2 : Bool := false
     let s : State := (onTc b .unattachedSrc id).modPort 0 fun x => { x with moist := { x.moist with running := true, pass := 31 } }
     (decide ((s.port p).sweepOver = false),
     sat (.moistureSweepEnd p z o rd1 rd2) s fun t => decide ((t.port 0).moist = (s.port 0).moist))) = (true, true) := by decide +kernel

theorem test_dryRecheck :
    (let b := live
     let p : PortId := 0
     let s : State := expd b .dryWait tHealth .dryRecheck
     (decide (s.due p tHealth .dryRecheck = true
      ∧ (s.port p).tc.st = .dryWait),
     sat (.dryRecheckExpiry p) s fun t => decide ((t.port p).moist.running = true
      ∧ (t.port p).moist.pass = 0
      ∧ (t.port p).timers[tHealth] = Timer.idle
      ∧ (t.port p).tc = (s.port p).tc))) = (true, true) := by decide +kernel

theorem test_vbusLeak :
    (let b := live
     let p : PortId := 0
     let sbu2 : Bool := true
     let mv1 : Int := 4000
     let mv2 : Int := 4000
     let s : State := (onTc b .attachedSrc id).modPort 0 fun x => { plain x with moist := { x.moist with leakRun := Vector.replicate 2 2 } }
     (decide ((s.port p).leakEn = true
      ∧ (s.port p).tc.st.pd = true
      ∧ (s.port p).moist.leakRun.get (if sbu2 then 1 else 0) = 2
      ∧ 4000 ≤ mv1
      ∧ 4000 ≤ mv2),
     sat (.vbusLeak p sbu2 mv1 mv2) s fun t => decide (t.raisedAt (64 + p.val) = true
      ∧ (t.port p).tc.st = (s.port p).tc.st
      ∧ (t.port p).pd = (s.port p).pd))) = (true, true) := by decide +kernel

theorem test_ccLeak :
    (let b := live
     let p : PortId := 0
     let l : Line := .cc2
     let xs : List Int := [6001, 0, 6001, 0, 6001]
     let s : State := (onTc b .attachedSrc fun t => { t with pres1 := .rp 1, pres2 := .rp 1, vconnOn := true, orient := false }).modPort 0 plain
     (decide ((s.port p).leakEn = true
      ∧ (s.port p).tc.st.pd = true
      ∧ xs.length = 5
      ∧ 3 ≤ (xs.filter fun v => decide (6000 < v)).length),
     sat (.ccLeakTrip p l xs) s fun t => decide (t.raisedAt (64 + p.val) = true
      ∧ (t.port p).tc.st = (s.port p).tc.st
      ∧ (l = .cc1 → ∀ v : BitVec 2, (t.port p).tc.pres1 ≠ .rp v)
      ∧ (l = .cc2 → ∀ v : BitVec 2, (t.port p).tc.pres2 ≠ .rp v)
      ∧ ((s.port p).vconnOnLine l = true → (t.port p).tc.vconnOn = false)))) = (true, true) := by decide +kernel

/-! ### Trims and Planish (chapter 06) -/

theorem test_trimComplete :
    (let b := live
     let c : ClusterId := 0
     let z0 : List Int := List.replicate 256 100
     let z1 : List Int := List.replicate 256 (-100)
     let s : State := (b.modCluster 0 fun c => { Cluster.reset with trimming := true, trimBeat := b.now - 1250 }).clearReady 0x1000#32
     (decide ((s.cluster c).trimming = true
      ∧ s.clusterLinked c = true
      ∧ 1250 ≤ Beat.since s.now (s.cluster c).trimBeat
      ∧ (s.cluster c).trimPart = .whole
      ∧ trimBad z0 = false
      ∧ trimBad z1 = false
      ∧ (s.cluster c).trimStart = false),
     sat (.clusterTrimComplete c [] [] z0 z1) s fun t => decide ((t.cluster c).trimming = false
      ∧ (t.cluster c).trimmed = true
      ∧ t.clusterReady c.val = true
      ∧ ((t.cluster c).adcAt false).trim = trimCode z0
      ∧ ((t.cluster c).adcAt true).trim = trimCode z1))) = (true, true) := by decide +kernel

theorem test_trimComplete_bad :
    (let b := live
     let c : ClusterId := 0
     let rp : List PortId := []
     let rd : List PortId := []
     let z0 : List Int := List.replicate 256 3213
     let z1 : List Int := []
     let s : State := ({ b with faults := .reset } : State).modCluster 0 fun c => { Cluster.reset with trimming := true, trimBeat := b.now - 1250 }
     (decide ((s.cluster c).trimming = true
      ∧ s.clusterLinked c = true
      ∧ 1250 ≤ Beat.since s.now (s.cluster c).trimBeat
      ∧ (s.cluster c).trimPart.coversAdc false = true
      ∧ trimBad z0 = true
      ∧ ((s.cluster c).adcAt false).atEnd = false
      ∧ ((s.cluster c).adcAt false).refBad = false),
     sat (.clusterTrimComplete c rp rd z0 z1) s fun t => decide (t.raisedAt (8 + c.val) = true
      ∧ t.dev.ready0 = s.dev.ready0))) = (true, true) := by decide +kernel

theorem test_adcTrimUpdate :
    (let b := live
     let c : ClusterId := 0
     let second : Bool := true
     let zeros : List Int := [51]
     let refs : List Int := []
     let s : State := b.modCluster 0 fun c => c.modAdc true fun a => { a with zeros := List.replicate 15 51, trim := 5, refRun := 0, refBad := false }
     (decide (s.adcPowered c second = true
      ∧ (((s.cluster c).adcAt second).zeros ++ zeros).length = 16
      ∧ (trimStep ((s.cluster c).adcAt second).trim (((s.cluster c).adcAt second).zeros ++ zeros)).natAbs < 127
      ∧ ((s.cluster c).adcAt second).refRun < 4
      ∧ refs = []),
     sat (.adcTrimUpdate c second zeros refs) s fun t => decide (((t.cluster c).adcAt second).trimNext = trimStep ((s.cluster c).adcAt second).trim (((s.cluster c).adcAt second).zeros ++ zeros)
      ∧ ((t.cluster c).adcAt second).trim = ((s.cluster c).adcAt second).trim
      ∧ ((t.cluster c).adcAt second).zeros = []
      ∧ ((t.cluster c).adcAt second).stale = false))) = (true, true) := by decide +kernel

theorem test_adcTrimUpdate_end :
    (let b := live
     let c : ClusterId := 0
     let second : Bool := false
     let zeros : List Int := [0]
     let refs : List Int := []
     let s : State := ({ b with faults := .reset } : State).modCluster 0 fun c => c.modAdc false fun a => { a with zeros := List.replicate 15 0, trim := 127, refBad := false, atEnd := false }
     (decide (s.adcPowered c second = true
      ∧ (((s.cluster c).adcAt second).zeros ++ zeros).length = 16
      ∧ 127 ≤ (trimStep ((s.cluster c).adcAt second).trim (((s.cluster c).adcAt second).zeros ++ zeros)).natAbs
      ∧ ((s.cluster c).adcAt second).atEnd = false
      ∧ ((s.cluster c).adcAt second).refBad = false),
     sat (.adcTrimUpdate c second zeros refs) s fun t => decide (t.raisedAt (8 + c.val) = true))) = (true, true) := by decide +kernel

theorem test_adcStale :
    (let b := live
     let c : ClusterId := 0
     let second : Bool := false
     let s : State := b.modCluster 0 fun c => c.modAdc false fun a => { a with lastZero := b.now - 250000 }
     (decide (s.adcPowered c second = true
      ∧ 250000 ≤ Beat.since s.now ((s.cluster c).adcAt second).lastZero),
     sat (.adcStale c second) s fun t => decide (((t.cluster c).adcAt second).stale = true))) = (true, true) := by decide +kernel

def onPhy (b : State) (cal : PhyCal) : State :=
  (onP b fun x => { x with phy := { x.phy with cal := cal, trainEn := true } }).modCluster 0 fun c => { c with sampler := some 0 }

theorem test_training_off :
    (let b := live
     let p : PortId := 0
     let o : TrainObs := .tx true false 3000 3000 1125 0
     let s : State := onPhy b .off
     (decide ((s.cluster (clusterOf p)).sampler = some p
      ∧ ((s.port p).phy.cal = .off ∨ (s.port p).phy.trainEn = false)),
     sat (.trainingSample p o) s fun t => decide ((t.cluster (clusterOf p)).sampler = none))) = (true, true) := by decide +kernel

theorem test_training_discarded :
    (let b := live
     let p : PortId := 0
     let o : TrainObs := .tx true true 3000 3000 1125 0
     let s : State := onPhy b .safe
     (decide ((s.cluster (clusterOf p)).sampler = some p
      ∧ (s.port p).phy.cal ≠ .off
      ∧ (s.port p).phy.trainEn = true
      ∧ judgeSample o = .discarded),
     sat (.trainingSample p o) s fun t => decide ((t.port p).phy = { (s.port p).phy with discarded := satIncr (s.port p).phy.discarded }
      ∧ (t.cluster (clusterOf p)).sampler = none))) = (true, true) := by decide +kernel

theorem test_training_other :
    (let b := live
     let p : PortId := 0
     let o : TrainObs := .rx false true true 1125 0 1 1
     let s : State := onPhy b .safe
     (decide ((s.cluster (clusterOf p)).sampler = some p
      ∧ judgeSample o = .noSample),
     sat (.trainingSample p o) s fun t => decide ((t.port p).phy = (s.port p).phy
      ∧ (t.cluster (clusterOf p)).sampler = none))) = (true, true) := by decide +kernel

theorem test_training_fallback :
    (let b := live
     let p : PortId := 0
     let o : TrainObs := .tx true false 3000 3000 1125 0
     let s : State := onPhy b .fallback
     (decide ((s.cluster (clusterOf p)).sampler = some p
      ∧ (s.port p).phy.cal = .fallback
      ∧ (s.port p).phy.trainEn = true
      ∧ judgeSample o = .accepted),
     sat (.trainingSample p o) s fun t => decide ((t.port p).phy = (s.port p).phy.accept o
      ∧ (t.cluster (clusterOf p)).sampler = none))) = (true, true) := by decide +kernel

theorem test_training_accepted :
    (let b := live
     let p : PortId := 0
     let o : TrainObs := .tx true false 3000 3000 1125 0
     let s : State := (onPhy b .training).modPort 0 fun x => { x with phy := { Phy.reset with cal := .training, trainEn := true } }
     (decide ((s.cluster (clusterOf p)).sampler = some p
      ∧ ((s.port p).phy.cal = .safe ∨ (s.port p).phy.cal = .training ∨ (s.port p).phy.cal = .converged)
      ∧ (s.port p).phy.trainEn = true
      ∧ judgeSample o = .accepted
      ∧ (s.port p).phy.whole = false
      ∧ outOfRange s.dev (((s.port p).phy.accept o).rebuild s.dev) = none),
     sat (.trainingSample p o) s fun t => decide ((t.port p).phy.shadow = (((s.port p).phy.accept o).rebuild s.dev).shadow
      ∧ (t.port p).phy.applied = (s.port p).phy.applied
      ∧ (t.port p).phy.txs = ((s.port p).phy.accept o).txs
      ∧ (t.port p).phy.rxs = ((s.port p).phy.accept o).rxs
      ∧ (t.cluster (clusterOf p)).sampler = none))) = (true, true) := by decide +kernel

theorem test_shadowApply :
    (let b := live
     let p : PortId := 0
     let idle : Nat := 100
     let s : State := (onPhy b .training).modPort 0 fun x => { x with phy := { Phy.reset with cal := .training, trainEn := true, shadow := 0x00217A57#32 }, cfg := .reset, pd := .reset }
     (decide (100 ≤ idle
      ∧ (s.port p).phyQuiet = true
      ∧ (s.port p).phy.cal ≠ .off
      ∧ (s.port p).phy.shadow ≠ (s.port p).phy.applied
      ∧ ((s.port p).phyHold = false ∨ (s.port p).phy.whole = true)),
     sat (.shadowApply p idle) s fun t => decide ((t.port p).phy.applied = (s.port p).phy.shadow
      ∧ (t.port p).phy.steps = satIncr (s.port p).phy.steps
      ∧ (t.port p).phy.lastApply = s.now
      ∧ (t.port p).tc.st = (s.port p).tc.st
      ∧ (t.port p).pd = (s.port p).pd))) = (true, true) := by decide +kernel

theorem test_shadowApply_hold :
    (let b := live
     let p : PortId := 0
     let idle : Nat := 100
     let s : State := (onPhy b .training).modPort 0 fun x => { x with cfg := { x.cfg with phyCfg := 3 }, phy := { x.phy with whole := false } }
     (decide ((s.port p).phyHold = true
      ∧ (s.port p).phy.whole = false),
     sat (.shadowApply p idle) s fun t => decide ((t.port 0).phy = (s.port 0).phy))) = (true, true) := by decide +kernel

/-! ### The protocol layer -/
/-- P0 in state `st` with a fresh Policy Engine `f`, fresh contexts and timers, an initialised pool and class rules at reset. -/
def pdOn (b : State) (st : Tc) (f : Pd → Pd) : State :=
  ({ b with pool := live.pool, policy := .reset } : State).modPort 0 fun x =>
    { x with tc := { x.tc with st := st }, pd := f Pd.reset, ctx := Vector.replicate 3 .reset, timers := Vector.replicate 12 .reset, phy := { x.phy with since1 := 100, since2 := 100 } }
/-- A message of P0 that waits. -/
def withRx (h : Half) (body : List Byte) (s : State) : State :=
  { s with pool := s.pool.append (qRx 0) (mkPacket s.pool (.rx 0 .sop 0 s.now) (u16 h.toNat ++ body)) }
def msg (s : State) (h : Half) (body : List Byte) : RxMsg := ⟨.sop, 0, s.now, h, 0, body⟩
/-- A message of P0 in flight. -/
def flying (f : Flight) (s : State) : State :=
  { s with pool := s.pool.append (qTx 0) f.packet }.modPort 0 fun x => { x with pd := { x.pd with flight := some f } }
def flight1 (b : State) (t : Tgt) (why : Purpose) (onWire : Bool) (n : Nat) : Flight :=
  ⟨t, mkPacket live.pool (.tx 0 t why) (ctlMsg 16), why, n, onWire, b.now, b.now⟩
/-- The same with its attempt begun long enough ago for tReceive. -/
def flightOld (b : State) (t : Tgt) (why : Purpose) (n : Nat) : Flight := { flight1 b t why true n with begun := b.now - 1000 }

/-! ### The PHY (chapters 06 and 07) -/

theorem test_packetReceive_new :
    (let b := live
     let p : PortId := 0
     let w : WirePacket := ⟨.sop .sop, 0x1082#16, [1, 2, 3, 4], true, true, .sound⟩
     let g : Tgt := .sop
     let s : State := pdOn b .attachedSrc fun d => d
     let r : RxMsg := msg s 0x1082#16 [1, 2, 3, 4]
     let m : Pool := (s.pool.pushPd (qRx 0) 0 (mkPacket s.pool (.rx 0 .sop 0 s.now) (u16 0x1082 ++ [1, 2, 3, 4]))).getD s.pool
     (decide (w.sop = .sop g
      ∧ (s.port p).accepts s.now w g = true
      ∧ ((hType w.header ≠ 1 ∧ hType w.header ≠ 13) ∨ hObjs w.header ≠ 0 ∨ hExt w.header = true)
      ∧ (((s.port p).ctxOf g).rxValid = false ∨ hId w.header ≠ ((s.port p).ctxOf g).rxId)
      ∧ (s.port p).inPower = false
      ∧ ((s.port p).ctxOf g).asm = none
      ∧ s.txIdle p = true
      ∧ s.rxCount p = 0
      ∧ s.pool.pushPd (qRx (clusterOf p)) p { mkPacket s.pool (.rx p g ((s.port p).ctxOf g).epoch s.now) (u16 w.header.toNat ++ w.body) with flaw := w.flaw } = some m
      ∧ msgOf (mkPacket s.pool (.rx p g ((s.port p).ctxOf g).epoch s.now) (u16 w.header.toNat ++ w.body)) = some r
      ∧ kindOf (s.port p) r ≠ .plain),
     sat (.packetReceive p w) s fun t => decide ((t.port p).pd.owed = some ⟨g, hId w.header⟩
      ∧ ((t.port p).ctxOf g).rxId = hId w.header
      ∧ ((t.port p).ctxOf g).rxValid = true
      ∧ t.rxCount p = 1
      ∧ (t.port p).tc = (s.port p).tc))) = (true, true) := by decide +kernel

theorem test_packetReceive_again :
    (let b := live
     let p : PortId := 0
     let w : WirePacket := ⟨.sop .sop, 0x1682#16, [1, 2, 3, 4], true, true, .sound⟩
     let g : Tgt := .sop
     let s : State := (pdOn b .attachedSrc fun d => d).modPort 0 fun x => x.modCtx .sop fun c => { c with rxValid := true, rxId := 3 }
     (decide (w.sop = .sop g
      ∧ (s.port p).accepts s.now w g = true
      ∧ ((hType w.header ≠ 1 ∧ hType w.header ≠ 13) ∨ hObjs w.header ≠ 0 ∨ hExt w.header = true)
      ∧ ((s.port p).ctxOf g).rxValid = true
      ∧ hId w.header = ((s.port p).ctxOf g).rxId
      ∧ s.rxCount p = 0),
     sat (.packetReceive p w) s fun t => decide ((t.port p).pd.owed = some ⟨g, hId w.header⟩
      ∧ t.rxCount p = 0
      ∧ (t.port p).ctx = (s.port p).ctx))) = (true, true) := by decide +kernel

theorem test_packetReceive_broken :
    (let b := live
     let p : PortId := 0
     let w : WirePacket := ⟨.sop .sop, 0x1682#16, [1, 2, 3, 4], true, false, .sound⟩
     let s : State := pdOn b .attachedSrc fun d => d
     (decide (w.crcOk = false ∨ w.wellFormed = false),
     sat (.packetReceive p w) s fun t => decide ((t.port p).pd = (s.port p).pd
      ∧ (t.port p).ctx = (s.port p).ctx
      ∧ (t.port p).timers = (s.port p).timers))) = (true, true) := by decide +kernel

theorem test_packetReceive_noCell :
    (let b := live
     let p : PortId := 0
     let w : WirePacket := ⟨.sop .sop, 0x1082#16, [1, 2, 3, 4], true, true, .sound⟩
     let g : Tgt := .sop
     let s : State := { (pdOn b .attachedSrc fun d => d) with pool := { live.pool with capacity := 0, pdReserve := 0 } }
     (decide (w.sop = .sop g
      ∧ (s.port p).accepts s.now w g = true
      ∧ ((hType w.header ≠ 1 ∧ hType w.header ≠ 13) ∨ hObjs w.header ≠ 0 ∨ hExt w.header = true)
      ∧ (((s.port p).ctxOf g).rxValid = false ∨ hId w.header ≠ ((s.port p).ctxOf g).rxId)
      ∧ s.rxCount p = 0
      ∧ s.pool.pushPd (qRx (clusterOf p)) p { mkPacket s.pool (.rx p g ((s.port p).ctxOf g).epoch s.now) (u16 w.header.toNat ++ w.body) with flaw := w.flaw } = none),
     sat (.packetReceive p w) s fun t => decide ((t.port p).pd = (s.port p).pd
      ∧ (t.port p).ctx = (s.port p).ctx
      ∧ t.pool.rxNoCell = satIncr s.pool.rxNoCell
      ∧ t.rxCount p = 0))) = (true, true) := by decide +kernel

theorem test_goodcrcTransmit :
    (let b := live
     let p : PortId := 0
     let idle : Nat := 100
     let o : Owed := ⟨.sop, 5⟩
     let s : State := pdOn b .attachedSrc fun d => { d with owed := some ⟨.sop, 5⟩ }
     (decide ((s.port p).pd.owed = some o
      ∧ 100 ≤ idle
      ∧ 84 ≤ (s.port p).sinceLine
      ∧ (s.port p).transmits s.now = false
      ∧ (s.port p).pd.start = none),
     sat (.goodcrcTransmit p idle) s fun t => decide ((t.port p).pd = { (s.port p).pd with owed := none, onLine := some (s.now, 149), lastOut := some (o.tgt, wireHeader (s.port p) o.tgt o.id 1) }
      ∧ (t.port p).ctx = (s.port p).ctx
      ∧ (t.port p).timers = (s.port p).timers))) = (true, true) := by decide +kernel

theorem test_txAttemptStart :
    (let b := live
     let p : PortId := 0
     let idle : Nat := 100
     let f : Flight := flight1 b .sop .plain false 0
     let s : State := (pdOn b .attachedSrc fun d => d) |> flying (flight1 b .sop .plain false 0)
     (decide ((s.port p).pd.flight = some f
      ∧ (s.port p).mayTransmit s.now idle = true),
     sat (.txAttemptStart p idle) s fun t => decide ((t.port p).pd = { (s.port p).pd with first := false, flight := some { f with attempts := f.attempts + 1, onWire := true, begun := s.now }, onLine := some (s.now, f.bits), unsent := (if f.tgt == .sop && (f.why == .sourceCaps || f.why == .capsReply || f.why == .chunk) then none else (s.port p).pd.unsent), lastOut := some (f.tgt, wireHeader (s.port p) f.tgt ((s.port p).ctxOf f.tgt).txId (rdNat f.packet.data 0 2) ++ f.packet.data.drop 2) }
      ∧ (t.port p).ctx = (s.port p).ctx
      ∧ (t.port p).timers = (s.port p).timers))) = (true, true) := by decide +kernel

theorem test_goodcrcReceived :
    (let b := live
     let p : PortId := 0
     let f : Flight := flight1 b .sop .plain true 1
     let cp : Bool := false
     let s : State := (pdOn b .attachedSrc fun d => { d with partnerAms := true }) |> flying (flight1 b .sop .plain true 1)
     (decide ((s.port p).pd.flight = some f
      ∧ f.tgt = .sop
      ∧ f.why = .plain
      ∧ f.onWire = true
      ∧ (s.port p).transmits s.now = false
      ∧ 0 < f.attempts
      ∧ (s.port p).pd.held = []
      ∧ (s.txPending p fun _ => true) = [(f.tgt, f.why)]
      ∧ (s.port p).pd.start = none
      ∧ (s.port p).pd.vdm = none
      ∧ s.fw p = true),
     sat (.goodcrcReceived p f.tgt ⟨((s.port p).ctxOf f.tgt).txId, cp⟩) s fun t => decide ((t.port p).pd = { (s.port p).pd with flight := none, first := false, lastTx := some .ok, partnerAms := false }
      ∧ ((t.port p).ctxOf .sop).txId = ((s.port p).ctxOf .sop).txId + 1
      ∧ t.txIdle p = true
      ∧ (t.port p).timers = (s.port p).timers))) = (true, true) := by decide +kernel

theorem test_goodcrcReceived_plug :
    (let b := live
     let p : PortId := 0
     let f : Flight := flight1 b .sop1 .plain true 1
     let s : State := ((pdOn b .attachedSrc fun d => d) |> flying (flight1 b .sop1 .plain true 1)).modPort 0 fun x => x.modCtx .sop1 fun c => { c with vconnOk := true }
     (decide ((s.port p).pd.flight = some f
      ∧ f.tgt ≠ .sop
      ∧ f.why = .plain
      ∧ f.onWire = true
      ∧ (s.port p).transmits s.now = false
      ∧ 0 < f.attempts
      ∧ ((s.port p).ctxOf f.tgt).vconnOk = true),
     sat (.goodcrcReceived p f.tgt ⟨((s.port p).ctxOf f.tgt).txId, true⟩) s fun t => decide ((t.port p).pd.lastTx = some .ok
      ∧ (t.port p).pd.plugAt = some s.now
      ∧ ((t.port p).ctxOf f.tgt).txId = ((s.port p).ctxOf f.tgt).txId + 1))) = (true, true) := by decide +kernel

theorem test_goodcrcReceived_noVconn :
    (let b := live
     let p : PortId := 0
     let g : Tgt := .sop1
     let id : BitVec 3 := 0
     let cp : Bool := true
     let s : State := ((pdOn b .attachedSrc fun d => d) |> flying (flight1 b .sop1 .plain true 1)).modPort 0 fun x => x.modCtx .sop1 fun c => { c with vconnOk := false }
     (decide (g ≠ .sop
      ∧ (((s.port p).ctxOf g).vconnOk = false ∨ cp = false)),
     sat (.goodcrcReceived p g ⟨id, cp⟩) s fun t => decide ((t.port 0).pd = (s.port 0).pd))) = (true, true) := by decide +kernel

theorem test_goodcrcReceived_other :
    (let b := live
     let p : PortId := 0
     let g : Tgt := .sop
     let id : BitVec 3 := 4
     let cp : Bool := false
     let s : State := (pdOn b .attachedSrc fun d => d) |> flying (flight1 b .sop .plain true 1)
     (decide (id ≠ ((s.port p).ctxOf g).txId),
     sat (.goodcrcReceived p g ⟨id, cp⟩) s fun t => decide ((t.port 0).pd = (s.port 0).pd))) = (true, true) := by decide +kernel

theorem test_receiveTimeout_retry :
    (let b := live
     let p : PortId := 0
     let f : Flight := flightOld b .sop .plain 2
     let s : State := (pdOn b .attachedSrc fun d => d) |> flying (flightOld b .sop .plain 2)
     (decide ((s.port p).pd.flight = some f
      ∧ f.onWire = true
      ∧ f.receiveOver s.now = true
      ∧ f.attempts ≤ ((s.port p).ctxOf f.tgt).nRetry.toNat),
     sat (.receiveTimeout p) s fun t => decide ((t.port 0).pd.flight = some { f with onWire := false }))) = (true, true) := by decide +kernel

theorem test_receiveTimeout_early :
    (let b := live
     let p : PortId := 0
     let f : Flight := flight1 b .sop .plain true 2
     let s : State := (pdOn b .attachedSrc fun d => d) |> flying (flight1 b .sop .plain true 2)
     (decide ((s.port p).pd.flight = some f
      ∧ f.receiveOver s.now = false),
     sat (.receiveTimeout p) s fun t => decide ((t.port 0).pd = (s.port 0).pd))) = (true, true) := by decide +kernel

theorem test_txCollision_retry :
    (let b := live
     let p : PortId := 0
     let f : Flight := flight1 b .sop .plain true 2
     let s : State := (pdOn b .attachedSrc fun d => d) |> flying (flight1 b .sop .plain true 2)
     (decide ((s.port p).pd.flight = some f
      ∧ f.onWire = true
      ∧ f.inPreamble s.now = true
      ∧ f.attempts ≤ ((s.port p).ctxOf f.tgt).nRetry.toNat),
     sat (.txCollisionAbort p) s fun t => decide ((t.port p).pd = { (s.port p).pd with flight := some { f with onWire := false }, onLine := none }
      ∧ (t.port p).ctx = (s.port p).ctx
      ∧ (t.port p).timers = (s.port p).timers))) = (true, true) := by decide +kernel

theorem test_txCollision_late :
    (let b := live
     let p : PortId := 0
     let f : Flight := flightOld b .sop .plain 2
     let s : State := (pdOn b .attachedSrc fun d => d) |> flying (flightOld b .sop .plain 2)
     (decide ((s.port p).pd.flight = some f
      ∧ f.inPreamble s.now = false),
     sat (.txCollisionAbort p) s fun t => decide ((t.port 0).pd = (s.port 0).pd))) = (true, true) := by decide +kernel

theorem test_txCollision_fail :
    (let b := live
     let p : PortId := 0
     let f : Flight := flight1 b .sop1 .plain true 3
     let s : State := (pdOn b .attachedSrc fun d => d) |> flying (flight1 b .sop1 .plain true 3)
     (decide ((s.port p).pd.flight = some f
      ∧ f.onWire = true
      ∧ f.inPreamble s.now = true
      ∧ f.tgt ≠ .sop
      ∧ f.why = .plain
      ∧ ((s.port p).ctxOf f.tgt).nRetry.toNat < f.attempts),
     sat (.txCollisionAbort p) s fun t => decide (((t.port p).ctxOf f.tgt).txFails = satIncr ((s.port p).ctxOf f.tgt).txFails
      ∧ (t.port p).pd.lastTx = some .fail))) = (true, true) := by decide +kernel

theorem test_receiveTimeout_fail :
    (let b := live
     let p : PortId := 0
     let f : Flight := flightOld b .sop .plain 3
     let s : State := (pdOn b .attachedSrc fun d => d) |> flying (flightOld b .sop .plain 3)
     (decide ((s.port p).pd.flight = some f
      ∧ f.onWire = true
      ∧ f.receiveOver s.now = true
      ∧ f.tgt = .sop
      ∧ f.why = .plain
      ∧ ((s.port p).ctxOf f.tgt).nRetry.toNat < f.attempts
      ∧ (s.port p).inPower = false
      ∧ s.fw p = true),
     sat (.receiveTimeout p) s fun t => decide (((t.port p).ctxOf .sop).txFails = satIncr ((s.port p).ctxOf .sop).txFails
      ∧ t.txWaits p .sop (ctlMsg 13) = true
      ∧ ((t.port p).ctxOf .sop).txId = 0))) = (true, true) := by decide +kernel

theorem test_receiveTimeout_plug :
    (let b := live
     let p : PortId := 0
     let f : Flight := flightOld b .sop1 .plain 3
     let s : State := (pdOn b .attachedSrc fun d => d) |> flying (flightOld b .sop1 .plain 3)
     (decide ((s.port p).pd.flight = some f
      ∧ f.onWire = true
      ∧ f.receiveOver s.now = true
      ∧ f.tgt ≠ .sop
      ∧ f.why = .plain
      ∧ ((s.port p).ctxOf f.tgt).nRetry.toNat < f.attempts),
     sat (.receiveTimeout p) s fun t => decide (((t.port p).ctxOf f.tgt).txFails = satIncr ((s.port p).ctxOf f.tgt).txFails
      ∧ ((t.port p).ctxOf f.tgt).txId = ((s.port p).ctxOf f.tgt).txId + 1
      ∧ (t.port p).pd.lastTx = some .fail
      ∧ (t.port p).timers = (s.port p).timers))) = (true, true) := by decide +kernel

theorem test_txIntegrity :
    (let b := live
     let p : PortId := 0
     let f : Flight := flight1 b .sop1 .plain true 1
     let o : CellObs := .crc
     let s : State := (pdOn b .attachedSrc fun d => d) |> flying (flight1 b .sop1 .plain true 1)
     (decide ((s.port p).pd.flight = some f
      ∧ f.onWire = true
      ∧ f.tgt ≠ .sop
      ∧ f.why = .plain
      ∧ o ≠ .sound),
     sat (.txIntegrity ⟨p, o⟩) s fun t => decide (t.raisedAt 210 = true
      ∧ (t.port p).pd.lastTx = some .integrity))) = (true, true) := by decide +kernel

/-! ### Hard Reset -/

theorem test_hardResetReceived :
    (let b := live
     let p : PortId := 0
     let s : State := (onTc b .attachedSnk id).modPort 0 fun x => { x with pd := { x.pd with attachSource := false } }
     (decide ((s.port p).tc.st.pd = true
      ∧ (s.port p).hrSending s.now = false
      ∧ s.fw p = true
      ∧ (s.port p).pd.hrDue = none),
     sat (.hardResetReceived p) s fun t => decide ((t.port p).pd.contract = Contract.none
      ∧ (t.port p).pd.recov.isSome = true
      ∧ (t.port p).pd.hrOrder = none
      ∧ (t.port p).pd.flight = none
      ∧ (t.port p).pd.swap = none
      ∧ (t.port p).pd.powerSource = (s.port p).pd.attachSource
      ∧ (t.port p).pd.dfp = (s.port p).pd.attachSource
      ∧ (t.port p).guard.gateOn = false
      ∧ (t.port p).stage.mode = .idle
      ∧ ((t.port p).ctxOf .sop).txId = 0
      ∧ ((t.port p).ctxOf .sop).rxValid = false
      ∧ ((t.port p).ctxOf .sop).rev = 0
      ∧ ((t.port p).ctxOf .sop).hrCnt = ((s.port p).ctxOf .sop).hrCnt
      ∧ ((t.port p).ctxOf .sop1).rev = 0
      ∧ (t.port p).tc.st.pd = true))) = (true, true) := by decide +kernel

theorem test_hardResetReceived_stopped :
    (let b := live
     let p : PortId := 0
     let s : State := (onTc b .attachedSnk id) |> fun z => z.modCore 0 fun c => { c with running := false, flagTrap := true }
     (decide ((s.port p).tc.st.pd = true
      ∧ (s.port p).hrSending s.now = false
      ∧ s.fw p = false),
     sat (.hardResetReceived p) s fun t => decide ((t.port p).pd.hrDue.isSome = true
      ∧ (t.port p).pd.hrOrder = none
      ∧ (t.port p).pd.flight = none
      ∧ ((t.port p).ctxOf .sop).txId = 0
      ∧ ((t.port p).ctxOf .sop).rxValid = false
      ∧ ((t.port p).ctxOf .sop1).rev = 0
      ∧ (t.port p).pd.contract = (s.port p).pd.contract
      ∧ (t.port p).guard.gateOn = (s.port p).guard.gateOn))) = (true, true) := by decide +kernel

theorem test_hardResetReceived_own :
    (let b := live
     let p : PortId := 0
     let s : State := onP b fun x => { x with pd := { x.pd with hrSent := some (b.now - 69) } }
     (decide ((s.port p).hrSending s.now = true),
     sat (.hardResetReceived p) s fun t => decide ((t.port 0).pd = (s.port 0).pd))) = (true, true) := by decide +kernel

theorem test_hardResetSend :
    (let b := live
     let p : PortId := 0
     let idle : Nat := 100
     let s : State := (onTc b .attachedSrc id).modPort 0 fun x => { x with pd := { x.pd with hrOrder := some 5 }, phy := { x.phy with since1 := 100, since2 := 100 } }
     (decide ((s.port p).pd.hrOrder ≠ none
      ∧ 100 ≤ idle
      ∧ s.fw p = true
      ∧ 84 ≤ (s.port p).sinceLine
      ∧ (s.port p).transmits s.now = false
      ∧ (s.port p).pd.hrDue = none),
     sat (.hardResetSend p idle) s fun t => decide ((t.port p).pd.contract = Contract.none
      ∧ (t.port p).pd.recov.isSome = true
      ∧ (t.port p).pd.hrOrder = none
      ∧ (t.port p).pd.powerSource = (s.port p).pd.attachSource
      ∧ (t.port p).guard.gateOn = false
      ∧ (t.port p).stage.mode = .idle
      ∧ ((t.port p).ctxOf .sop).hrCnt = min 2 (((s.port p).ctxOf .sop).hrCnt + 1)
      ∧ ((t.port p).ctxOf .sop).txId = 0))) = (true, true) := by decide +kernel

theorem test_hrTimeout :
    (let b := live
     let p : PortId := 0
     let b0 : Beat := b.now - 1125
     let s : State := (onTc b .attachedSrc id).modPort 0 fun x => { x with pd := { x.pd with hrOrder := some (b.now - 1125) } }
     (decide ((s.port p).pd.hrOrder = some b0
      ∧ 1125 ≤ Beat.since s.now b0
      ∧ s.fw p = true
      ∧ (s.port p).pd.hrDue = none),
     sat (.hrTimeout p) s fun t => decide ((t.port p).pd.contract = Contract.none
      ∧ (t.port p).pd.recov.isSome = true
      ∧ (t.port p).pd.hrOrder = none
      ∧ (t.port p).guard.gateOn = false
      ∧ ((t.port p).ctxOf .sop).hrCnt = min 2 (((s.port p).ctxOf .sop).hrCnt + 1)))) = (true, true) := by decide +kernel

theorem test_hrTimeout_early :
    (let b := live
     let p : PortId := 0
     let b0 : Beat := b.now - 1124
     let s : State := (onTc b .attachedSrc id).modPort 0 fun x => { x with pd := { x.pd with hrOrder := some (b.now - 1124) } }
     (decide ((s.port p).pd.hrOrder = some b0
      ∧ Beat.since s.now b0 < 1125),
     sat (.hrTimeout p) s fun t => decide ((t.port 0).pd = (s.port 0).pd))) = (true, true) := by decide +kernel

/-! ### Messages of the partner -/
/-- A rule table whose every swap and EPR entry is accepted. -/
def lenient : Machine.Class := { Machine.Class.reset with header := { Header.reset with noMatch := 0x67400000#32 } }
def accepting (s : State) : State := { s with policy := { Policy.reset with classes := Vector.replicate 16 lenient } }
/-- Source_Capabilities with 5 V at 3 A. -/
def caps5 : List Word := [mkWord [(300, 0), (100, 10)]]
def rdo (pos i : Nat) : Word := mkWord [(i, 0), (i, 10), (pos, 28)]
def tran (src : Bool) (acc : Bool) : Transition :=
  ⟨src, 1, 1, 250, 300, 250, 50, false, false, mkWord [(300, 0), (100, 10)], if acc then some 0 else none, acc, false⟩
def con1 : Contract := { Contract.none with pos := 1, type := 1, vSet := 250, iOp := 300 }

/-! ### Messages of the partner (chapters 08 and 09) -/

theorem test_request_invalid :
    (let b := live
     let p : PortId := 0
     let s : State := (pdOn b .attachedSrc fun d => { d with sentCaps := caps5, await := .requestAfterCaps, ownAms := true }) |> withRx 0x1082#16 (wordBytes (rdo 2 100))
     let m : RxMsg := msg s 0x1082#16 (wordBytes (rdo 2 100))
     (decide (s.onlyMsg p m
      ∧ m.tgt = .sop
      ∧ kindOf (s.port p) m = .request
      ∧ (s.port p).pd.powerSource = true
      ∧ (s.port p).inPower = false
      ∧ (s.port p).pd.await = .requestAfterCaps
      ∧ (readRequest (s.port p).lastCaps (s.port p).pd.contract.eprMode (m.word 0) (if m.type = 9 then some (m.word 1) else none)).valid = false
      ∧ ((s.port p).ctxOf m.tgt).asm = none),
     sat (.request p) s fun t => decide (t.txWaits p .sop (ctlMsg 4) = true
      ∧ (t.port p).pd.trans = none
      ∧ (t.port p).pd.contract = (s.port p).pd.contract
      ∧ (t.port p).pd.rejectHard = !(s.port p).contractValid
      ∧ (t.port p).pd.await = .none))) = (true, true) := by decide +kernel

theorem test_request_accept :
    (let b := live
     let p : PortId := 0
     let s : State := (pdOn b .attachedSrc fun d => { d with sentCaps := caps5, await := .requestAfterCaps, ownAms := true }) |> withRx 0x1082#16 (wordBytes (rdo 1 100))
     let m : RxMsg := msg s 0x1082#16 (wordBytes (rdo 1 100))
     let q : Req := readRequest (s.port 0).lastCaps (s.port 0).pd.contract.eprMode ((msg s 0x1082#16 (wordBytes (rdo 1 100))).word 0) none
     (decide (s.onlyMsg p m
      ∧ m.tgt = .sop
      ∧ kindOf (s.port p) m = .request
      ∧ (s.port p).pd.powerSource = true
      ∧ (s.port p).inPower = false
      ∧ (s.port p).pd.await = .requestAfterCaps
      ∧ q = readRequest (s.port p).lastCaps (s.port p).pd.contract.eprMode (m.word 0) (if m.type = 9 then some (m.word 1) else none)
      ∧ q.valid = true
      ∧ ((s.classOf (s.port p)).lookup ptSrcRequest (srcRuleMatches (s.port p) q)).outcome = ocAccept
      ∧ ((s.port p).ctxOf m.tgt).asm = none),
     sat (.request p) s fun t => decide (t.txWaits p .sop (ctlMsg 3) = true
      ∧ ((t.port p).pd.trans.map fun e => (e.source, e.v, e.i, e.accepted, e.obj)) = some (true, q.v, q.i, false, (s.port p).lastCaps.getD (q.pos - 1) 0)
      ∧ (t.port p).pd.request = m.word 0
      ∧ (t.port p).pd.lastReqBeat = s.now
      ∧ (t.port p).pd.contract = (s.port p).pd.contract))) = (true, true) := by decide +kernel

theorem test_decisionDeadline :
    (let b := live
     let id : Nat := 7
     let s : State := let z := (pdOn b .attachedSrc fun d => { d with partnerAms := true }); { z with policy := { z.policy with decisions := [⟨7, 0, 0, 3, (Machine.Class.reset).rules[0], 0, 2, z.now, 0, 0⟩] } }
     let d : Decision := ⟨7, 0, 0, 3, (Machine.Class.reset).rules[0], 0, 2, s.now, 0, 0⟩
     (decide (s.policy.decisions.find? (fun d => d.id == id && !(d.deadline.later s.now) && s.fw d.port) = some d
      ∧ d.point = ptSrcRequest
      ∧ d.dflt ≤ 2),
     sat (.decisionDeadline id) s fun t => decide (t.txWaits d.port .sop (ctlMsg (if d.dflt = ocAccept then 3 else if d.dflt = ocWait then 12 else 4)) = true
      ∧ t.policy.decisions = s.policy.decisions.filter (fun e => e.id != id)
      ∧ (d.dflt ≠ ocAccept → (t.port d.port).pd.trans = none)
      ∧ (t.port d.port).pd.contract = (s.port d.port).pd.contract))) = (true, true) := by decide +kernel

theorem test_sourceCapabilities :
    (let b := live
     let p : PortId := 0
     let s : State := (pdOn b .attachedSnk fun d => { d with powerSource := false }) |> withRx 0x1081#16 (caps5.flatMap wordBytes)
     let m : RxMsg := msg s 0x1081#16 (caps5.flatMap wordBytes)
     (decide (s.onlyMsg p m
      ∧ m.tgt = .sop
      ∧ kindOf (s.port p) m = .sourceCaps
      ∧ (s.port p).pd.powerSource = false
      ∧ (s.port p).inPower = false
      ∧ (s.port p).pd.await = .none
      ∧ (s.classOf (s.port p)).lookup ptSnkSelect (snkRuleMatches (s.classOf (s.port p)) m.words) = ⟨ocFive, none, 0⟩
      ∧ ((s.port p).ctxOf m.tgt).asm = none),
     sat (.sourceCapabilities p) s fun t => decide ((t.port p).pd.rxCaps = m.words
      ∧ (t.port p).pd.request = requestFive m.words (s.port p) s.serviceDomain false
      ∧ t.txWaits p .sop (datMsg 2 [requestFive m.words (s.port p) s.serviceDomain false]) = true))) = (true, true) := by decide +kernel

theorem test_sourceCapabilities_match :
    (let b := live
     let p : PortId := 0
     let i : Option (Fin 32) := none
     let d : Nat := 0
     let s : State := (pdOn b .attachedSnk fun d => { d with powerSource := false }) |> accepting |> withRx 0x1081#16 (caps5.flatMap wordBytes)
     let m : RxMsg := msg s 0x1081#16 (caps5.flatMap wordBytes)
     (decide (s.onlyMsg p m
      ∧ m.tgt = .sop
      ∧ kindOf (s.port p) m = .sourceCaps
      ∧ (s.port p).pd.powerSource = false
      ∧ (s.port p).inPower = false
      ∧ (s.port p).pd.await = .none
      ∧ (s.classOf (s.port p)).lookup ptSnkSelect (snkRuleMatches (s.classOf (s.port p)) m.words) = ⟨ocMatch, i, d⟩
      ∧ ((s.port p).ctxOf m.tgt).asm = none),
     sat (.sourceCapabilities p) s fun t => decide ((t.port p).pd.rxCaps = m.words
      ∧ (t.port p).pd.request = requestMatch (s.classOf (s.port p)) (i.map fun j => (s.classOf (s.port p)).rules[j]) m.words (s.port p) s.serviceDomain
      ∧ t.txWaits p .sop (datMsg 2 [(t.port p).pd.request]) = true))) = (true, true) := by decide +kernel

theorem test_accept_source :
    (let b := live
     let p : PortId := 0
     let e : Transition := tran true false
     let s : State := pdOn b .attachedSrc fun d => { d with accAck := true, trans := some (tran true false) }
     (decide ((s.port p).pd.accAck = true
      ∧ (s.port p).pd.swapMsg = none
      ∧ (s.port p).pd.trans = some e
      ∧ (s.port p).pd.contract.pos ≠ e.pos
      ∧ s.pdRuns p = true),
     sat (.accept p) s fun t => decide ((t.port p).pd.trans = some { e with accepted := true, moving := none }
      ∧ (t.port p).pd.accAck = false
      ∧ (t.port p).pd.contract.inTransition = true
      ∧ (t.port p).timers[tPower] = Timer.armed' .srcTransition (s.port p).tSrcTrans
      ∧ (t.port p).stage = (s.port p).stage))) = (true, true) := by decide +kernel

theorem test_accept_sink :
    (let b := live
     let p : PortId := 0
     let s : State := (pdOn b .attachedSnk fun d => { d with powerSource := false, await := .answerToRequest, ownAms := true, rxCaps := caps5, request := rdo 1 100 }) |> withRx 0x0083#16 []
     let m : RxMsg := msg s 0x0083#16 []
     (decide (s.onlyMsg p m
      ∧ m.tgt = .sop
      ∧ kindOf (s.port p) m = .accept
      ∧ (s.port p).pd.accAck = false
      ∧ (s.port p).pd.owed = none
      ∧ (s.port p).pd.await = .answerToRequest
      ∧ ((s.port p).ctxOf m.tgt).asm = none),
     sat (.accept p) s fun t => decide (((t.port p).pd.trans.map fun e => (e.source, e.accepted, e.v, e.i)) = some (false, true, (readRequest (s.port p).pd.rxCaps false (s.port p).pd.request none).v, (readRequest (s.port p).pd.rxCaps false (s.port p).pd.request none).i)
      ∧ (t.port p).pd.await = .none
      ∧ (t.port p).pd.contract.inTransition = true
      ∧ (t.port p).timers[tPower] = Timer.armed' .psTransition (s.port p).tPsTrans))) = (true, true) := by decide +kernel

theorem test_accept_drSwap :
    (let b := live
     let p : PortId := 0
     let r : SwapReq := ⟨.dr, 0, 1, .host, 9, 0, true, false⟩
     let s : State := (pdOn b .attachedSrc fun d => { d with await := .swapAnswer, ownAms := true, swapReq := some ⟨.dr, 0, 1, .host, 9, 0, true, false⟩ }) |> withRx 0x0083#16 []
     let m : RxMsg := msg s 0x0083#16 []
     (decide (s.onlyMsg p m
      ∧ m.tgt = .sop
      ∧ kindOf (s.port p) m = .accept
      ∧ (s.port p).pd.accAck = false
      ∧ (s.port p).pd.owed = none
      ∧ (s.port p).pd.await = .swapAnswer
      ∧ (s.port p).pd.swapReq = some r
      ∧ r.kind = .dr
      ∧ (s.port p).pd.start = none
      ∧ (s.port p).pd.vdm = none
      ∧ ((s.port p).ctxOf m.tgt).asm = none),
     sat (.accept p) s fun t => decide ((t.port p).pd.dfp = !(s.port p).pd.dfp
      ∧ (t.port p).pd.powerSource = (s.port p).pd.powerSource
      ∧ (t.port p).pd.swapReq = none
      ∧ (t.port p).pd.ownAms = false
      ∧ (t.port p).pd.await = .none))) = (true, true) := by decide +kernel

theorem test_reject_swap :
    (let b := live
     let p : PortId := 0
     let r : SwapReq := ⟨.pr, 0, 1, .host, 9, 0, true, false⟩
     let s : State := (pdOn b .attachedSrc fun d => { d with await := .swapAnswer, ownAms := true, swapReq := some ⟨.pr, 0, 1, .host, 9, 0, true, false⟩ }) |> withRx 0x0084#16 []
     let m : RxMsg := msg s 0x0084#16 []
     (decide (s.onlyMsg p m
      ∧ m.tgt = .sop
      ∧ kindOf (s.port p) m = .reject
      ∧ (s.port p).pd.await = .swapAnswer
      ∧ (s.port p).pd.swapReq = some r
      ∧ (s.port p).pd.vdm = none
      ∧ ((s.port p).ctxOf m.tgt).asm = none),
     sat (.reject p) s fun t => decide ((t.port p).pd.swapReq = none
      ∧ ((s.port p).pd.start = none → (t.port p).pd.ownAms = false)
      ∧ (t.port p).pd.await = .none
      ∧ (t.port p).pd.powerSource = (s.port p).pd.powerSource
      ∧ (t.port p).pd.dfp = (s.port p).pd.dfp
      ∧ (t.port p).pd.contract = (s.port p).pd.contract))) = (true, true) := by decide +kernel

theorem test_wait_request :
    (let b := live
     let p : PortId := 0
     let s : State := (pdOn b .attachedSnk fun d => { d with powerSource := false, await := .answerToRequest, ownAms := true }) |> withRx 0x008C#16 []
     let m : RxMsg := msg s 0x008C#16 []
     (decide (s.onlyMsg p m
      ∧ m.tgt = .sop
      ∧ kindOf (s.port p) m = .wait
      ∧ (s.port p).pd.await = .answerToRequest
      ∧ (s.port p).pd.powerSource = false
      ∧ (s.port p).pd.vdm = none
      ∧ ((s.port p).ctxOf m.tgt).asm = none),
     sat (.wait p) s fun t => decide ((t.port p).timers[tCaps] = Timer.armed' .sinkRequest 25000
      ∧ (t.port p).pd.ownAms = false
      ∧ (t.port p).pd.await = .none
      ∧ (t.port p).pd.contract = (s.port p).pd.contract))) = (true, true) := by decide +kernel

theorem test_wait_swap :
    (let b := live
     let p : PortId := 0
     let r : SwapReq := ⟨.pr, 2, 1, .host, 9, 0, true, false⟩
     let s : State := (pdOn b .attachedSrc fun d => { d with await := .swapAnswer, ownAms := true, swapReq := some ⟨.pr, 2, 1, .host, 9, 0, true, false⟩ }) |> withRx 0x008C#16 []
     let m : RxMsg := msg s 0x008C#16 []
     (decide (s.onlyMsg p m
      ∧ m.tgt = .sop
      ∧ kindOf (s.port p) m = .wait
      ∧ (s.port p).pd.await = .swapAnswer
      ∧ (s.port p).pd.powerSource = true
      ∧ (s.port p).pd.swapReq = some r
      ∧ (s.port p).pd.vdm = none
      ∧ ((s.port p).use tCaps = .idle ∨ (s.port p).use tCaps = .swapBackoff)
      ∧ ((s.port p).ctxOf m.tgt).asm = none),
     sat (.wait p) s fun t => decide ((t.port p).timers[tCaps] = Timer.armed' .swapBackoff (1000 * fld (s.port p).cfg.swapRetrySrc 0 8)
      ∧ ((s.port p).pd.start = none → (t.port p).pd.swapReq = some { r with crossed := false })
      ∧ ((s.port p).pd.start = none → (t.port p).pd.ownAms = false)
      ∧ (t.port p).pd.powerSource = true))) = (true, true) := by decide +kernel

theorem test_psRdy_sink :
    (let b := live
     let p : PortId := 0
     let e : Transition := tran false true
     let s : State := (pdOn b .attachedSnk fun d => { d with powerSource := false, trans := some (tran false true), ownAms := true }) |> withRx 0x0086#16 []
     let m : RxMsg := msg s 0x0086#16 []
     (decide (s.onlyMsg p m
      ∧ m.tgt = .sop
      ∧ kindOf (s.port p) m = .psRdy
      ∧ (s.port p).pd.owed = none
      ∧ (s.port p).pd.swap = none
      ∧ (s.port p).pd.trans = some e
      ∧ e.accepted = true
      ∧ e.source = false
      ∧ s.deciding p = false
      ∧ (s.port p).pd.powerSource = false
      ∧ (s.port p).pd.vdm = none
      ∧ s.pdRuns p = true
      ∧ ((s.port p).ctxOf m.tgt).asm = none),
     sat (.psRdy p) s fun t => decide ((t.port p).pd.contract.pos = e.pos
      ∧ (t.port p).pd.contract.type = e.type
      ∧ (t.port p).pd.contract.vSet = e.v
      ∧ (t.port p).pd.contract.iOp = e.i
      ∧ (t.port p).pd.contract.obj = e.obj
      ∧ (t.port p).pd.contract.inTransition = false
      ∧ (t.port p).pd.trans = none
      ∧ ((t.port p).ctxOf .sop).hrCnt = 0
      ∧ (t.port p).timers[tPower] = Timer.idle))) = (true, true) := by decide +kernel

theorem test_psRdy_prSwap :
    (let b := live
     let p : PortId := 0
     let w : Swap := ⟨.pr, true, 5, 0, 0, none, false⟩
     let s : State := (pdOn b .attachedSrc fun d => { d with swap := some ⟨.pr, true, 5, 0, 0, none, false⟩, ownAms := true }) |> withRx 0x0086#16 []
     let m : RxMsg := msg s 0x0086#16 []
     (decide (s.onlyMsg p m
      ∧ m.tgt = .sop
      ∧ kindOf (s.port p) m = .psRdy
      ∧ (s.port p).pd.owed = none
      ∧ (s.port p).pd.swap = some w
      ∧ w.kind = .pr
      ∧ w.wasSource = true
      ∧ w.step = 5
      ∧ s.pdRuns p = true
      ∧ ((s.port p).ctxOf m.tgt).asm = none),
     sat (.psRdy p) s fun t => decide ((t.port p).tc.st = .attachedSnk
      ∧ (t.port p).pd.swap = none
      ∧ (t.port p).pd.vbusWait = true))) = (true, true) := by decide +kernel

theorem test_prSwap_refused :
    (let b := live
     let p : PortId := 0
     let s : State := ((pdOn b .attachedSrc fun d => { d with contract := con1 }).modPort 0 fun x => { x with cfg := .reset }) |> accepting |> withRx 0x008A#16 []
     let m : RxMsg := msg s 0x008A#16 []
     (decide (s.onlyMsg p m
      ∧ m.tgt = .sop
      ∧ kindOf (s.port p) m = .prSwap
      ∧ (s.port p).calm = true
      ∧ (s.port p).pd.contract.pos ≠ 0
      ∧ (s.port p).tc.role ≠ 2
      ∧ (s.port p).rev ≠ 1
      ∧ ((s.port p).ctxOf m.tgt).asm = none),
     sat (.prSwap p) s fun t => decide (t.txWaits p .sop (ctlMsg 16) = true
      ∧ (t.port p).pd.powerSource = (s.port p).pd.powerSource
      ∧ (t.port p).pd.swap = (s.port p).pd.swap
      ∧ (t.port p).pd.contract = (s.port p).pd.contract))) = (true, true) := by decide +kernel

theorem test_prSwap_accepted :
    (let b := live
     let p : PortId := 0
     let s : State := (({ (pdOn b .attachedSrc fun d => { d with contract := con1 }) with svc := .reset } : State).modPort 0 fun x => { x with cfg := { x.cfg with roleCfg := 0x0CCB3262#32 }, tc := { x.tc with role := 2 } }) |> accepting |> withRx 0x008A#16 []
     let m : RxMsg := msg s 0x008A#16 []
     (decide (s.onlyMsg p m
      ∧ m.tgt = .sop
      ∧ kindOf (s.port p) m = .prSwap
      ∧ (s.port p).calm = true
      ∧ (s.port p).pd.contract.pos ≠ 0
      ∧ s.swapPrecheck p .pr = none
      ∧ ((s.classOf (s.port p)).lookup ptPrSwap (fun r => r.roleSel = 0 || (r.roleSel = 1 && (s.port p).holdsRole .pr) || (r.roleSel = 2 && !(s.port p).holdsRole .pr))).outcome = ocAccept
      ∧ ((s.port p).ctxOf m.tgt).asm = none),
     sat (.prSwap p) s fun t => decide (t.txWaits p .sop (ctlMsg 3) = true
      ∧ (t.port p).pd.swapMsg = some .pr
      ∧ (t.port p).pd.powerSource = (s.port p).pd.powerSource
      ∧ (t.port p).pd.contract = (s.port p).pd.contract))) = (true, true) := by decide +kernel

theorem test_drSwap_mode :
    (let b := live
     let p : PortId := 0
     let s : State := (pdOn b .attachedSrc fun d => { d with contract := con1, mode := some (7, 1) }) |> withRx 0x0089#16 []
     let m : RxMsg := msg s 0x0089#16 []
     (decide (s.onlyMsg p m
      ∧ m.tgt = .sop
      ∧ kindOf (s.port p) m = .drSwap
      ∧ (s.port p).calm = true
      ∧ (s.port p).pd.contract.pos ≠ 0
      ∧ (s.port p).pd.mode ≠ none
      ∧ (s.port p).pd.hrOrder = none
      ∧ (s.port p).tc.st.pd = true
      ∧ ((s.port p).ctxOf m.tgt).asm = none),
     sat (.drSwap p) s fun t => decide ((t.port p).pd.hrOrder = some s.now
      ∧ (t.port p).pd.dfp = (s.port p).pd.dfp))) = (true, true) := by decide +kernel

theorem test_drSwap_accepted :
    (let b := live
     let p : PortId := 0
     let s : State := ({ (pdOn b .attachedSrc fun d => { d with contract := con1 }) with svc := .reset } : State) |> accepting |> withRx 0x0089#16 []
     let m : RxMsg := msg s 0x0089#16 []
     (decide (s.onlyMsg p m
      ∧ m.tgt = .sop
      ∧ kindOf (s.port p) m = .drSwap
      ∧ (s.port p).calm = true
      ∧ (s.port p).pd.contract.pos ≠ 0
      ∧ s.swapPrecheck p .dr = none
      ∧ ((s.classOf (s.port p)).lookup ptDrSwap (fun r => r.roleSel = 0 || (r.roleSel = 1 && (s.port p).holdsRole .dr) || (r.roleSel = 2 && !(s.port p).holdsRole .dr))).outcome = ocAccept
      ∧ ((s.port p).ctxOf m.tgt).asm = none),
     sat (.drSwap p) s fun t => decide (t.txWaits p .sop (ctlMsg 3) = true
      ∧ (t.port p).pd.swapMsg = some .dr
      ∧ (t.port p).pd.dfp = (s.port p).pd.dfp))) = (true, true) := by decide +kernel

theorem test_vconnSwap_refused :
    (let b := live
     let p : PortId := 0
     let s : State := ((pdOn b .attachedSrc fun d => { d with contract := con1 }).modPort 0 fun x => { x with tc := { x.tc with vconnOn := false, vconnOc := true } }) |> withRx 0x008B#16 []
     let m : RxMsg := msg s 0x008B#16 []
     (decide (s.onlyMsg p m
      ∧ m.tgt = .sop
      ∧ kindOf (s.port p) m = .vconnSwap
      ∧ (s.port p).calm = true
      ∧ (s.port p).pd.contract.pos ≠ 0
      ∧ (s.port p).tc.vconnOn = false
      ∧ (s.port p).tc.vconnOc = true
      ∧ ((s.port p).ctxOf m.tgt).asm = none),
     sat (.vconnSwap p) s fun t => decide (t.txWaits p .sop (ctlMsg 4) = true
      ∧ (t.port p).tc.vconnOn = false))) = (true, true) := by decide +kernel

theorem test_vconnSwap_accepted :
    (let b := live
     let p : PortId := 0
     let s : State := ((pdOn b .attachedSrc fun d => { d with contract := con1 }).modPort 0 fun x => { x with tc := { x.tc with vconnOn := true } }) |> accepting |> withRx 0x008B#16 []
     let m : RxMsg := msg s 0x008B#16 []
     (decide (s.onlyMsg p m
      ∧ m.tgt = .sop
      ∧ kindOf (s.port p) m = .vconnSwap
      ∧ (s.port p).calm = true
      ∧ (s.port p).pd.contract.pos ≠ 0
      ∧ (s.port p).tc.vconnOn = true
      ∧ ((s.classOf (s.port p)).lookup ptVconnSwap (fun r => r.roleSel = 0 || (r.roleSel = 1 && (s.port p).holdsRole .vconn) || (r.roleSel = 2 && !(s.port p).holdsRole .vconn))).outcome = ocAccept
      ∧ ((s.port p).ctxOf m.tgt).asm = none),
     sat (.vconnSwap p) s fun t => decide (t.txWaits p .sop (ctlMsg 3) = true
      ∧ (t.port p).pd.swapMsg = some .vconn
      ∧ (t.port p).tc.vconnOn = true))) = (true, true) := by decide +kernel

theorem test_softReset :
    (let b := live
     let p : PortId := 0
     let s : State := (pdOn b .attachedSrc fun d => { d with contract := con1, ownAms := true, await := .hostResponse, eprStep := 2 }) |> withRx 0x008D#16 []
     let m : RxMsg := msg s 0x008D#16 []
     (decide (s.onlyMsg p m
      ∧ m.tgt = .sop
      ∧ kindOf (s.port p) m = .softReset
      ∧ (s.port p).pd.hrOrder = none
      ∧ ((s.port p).ctxOf m.tgt).asm = none),
     sat (.softReset p) s fun t => decide (t.txWaits p .sop (ctlMsg 3) = true
      ∧ (t.port p).pd.ownAms = false
      ∧ (t.port p).pd.await = .none
      ∧ (t.port p).pd.eprStep = 0
      ∧ (t.port p).pd.trans = none
      ∧ (t.port p).pd.contract = (s.port p).pd.contract
      ∧ (t.port p).timers[tResponse] = Timer.idle))) = (true, true) := by decide +kernel

theorem test_eprModeEnter :
    (let b := live
     let p : PortId := 0
     let s : State := (pdOn b .attachedSrc fun d => { d with contract := { con1 with eprCapable := true }, sentCaps := [mkWord [(300, 0), (100, 10), (1, 23)]] }) |> withRx 0x108A#16 (wordBytes 0x01640000#32)
     let m : RxMsg := msg s 0x108A#16 (wordBytes 0x01640000#32)
     (decide (s.onlyMsg p m
      ∧ m.tgt = .sop
      ∧ kindOf (s.port p) m = .eprEnter
      ∧ (s.port p).calm = true
      ∧ (s.port p).pd.powerSource = true
      ∧ (s.port p).pd.contract.eprMode = false
      ∧ ((s.port p).ctxOf m.tgt).asm = none),
     sat (.eprModeEnter p) s fun t => decide ((t.port p).pd.eprStep = (if (s.port p).eprCause = none then 1 else 0)
      ∧ t.txWaits p .sop (datMsg 10 [match (s.port p).eprCause with | none => eprWord 2 0 | some e => eprWord 4 e]) = true
      ∧ (t.port p).pd.contract = (s.port p).pd.contract))) = (true, true) := by decide +kernel

theorem test_eprModeEnter_refused :
    (let b := live
     let p : PortId := 0
     let s : State := (pdOn b .attachedSrc fun d => { d with contract := con1 }) |> withRx 0x108A#16 (wordBytes 0x01640000#32)
     let m : RxMsg := msg s 0x108A#16 (wordBytes 0x01640000#32)
     (decide (s.onlyMsg p m
      ∧ m.tgt = .sop
      ∧ kindOf (s.port p) m = .eprEnter
      ∧ (s.port p).calm = true
      ∧ (s.port p).pd.powerSource = true
      ∧ (s.port p).pd.contract.eprMode = false
      ∧ (s.port p).pd.contract.eprCapable = false
      ∧ (s.port p).pd.contract.pos ≠ 0
      ∧ (s.port p).pd.contract.pos.toNat < 8
      ∧ ((s.port p).ctxOf m.tgt).asm = none),
     sat (.eprModeEnter p) s fun t => decide (t.txWaits p .sop (datMsg 10 [eprWord 4 3]) = true
      ∧ (t.port p).pd.eprStep = 0))) = (true, true) := by decide +kernel

theorem test_eprModeExit :
    (let b := live
     let p : PortId := 0
     let s : State := (pdOn b .attachedSrc fun d => { d with contract := { con1 with eprMode := true } }) |> withRx 0x108A#16 (wordBytes 0x05000000#32)
     let m : RxMsg := msg s 0x108A#16 (wordBytes 0x05000000#32)
     (decide (s.onlyMsg p m
      ∧ m.tgt = .sop
      ∧ kindOf (s.port p) m = .eprExit
      ∧ (s.port p).calm = true
      ∧ (s.port p).pd.powerSource = true
      ∧ (s.port p).pd.contract.eprMode = true
      ∧ (s.port p).pd.contract.pos ≠ 0
      ∧ (s.port p).pd.contract.pos.toNat < 8
      ∧ (s.port p).pd.start = none
      ∧ (s.port p).pd.vdm = none
      ∧ ((s.port p).ctxOf m.tgt).asm = none),
     sat (.eprModeExit p) s fun t => decide ((t.port p).pd.contract = { (s.port p).pd.contract with eprMode := false }
      ∧ (t.port p).pd.capsDue = true))) = (true, true) := by decide +kernel

theorem test_chunkRequest :
    (let b := live
     let p : PortId := 0
     let a : Assembly := ⟨true, 17, 30, List.replicate 30 7, 1, .plain⟩
     let s : State := ((pdOn b .attachedSrc fun d => d).modPort 0 fun x => x.modCtx .sop fun c => { c with chunking := true, asm := some ⟨true, 17, 30, List.replicate 30 7, 1, .plain⟩ }) |> withRx 0x9091#16 (u16 (0x8000 + 0x400 + 1 * 2048) ++ [0, 0])
     let m : RxMsg := ⟨.sop, 0, s.now, 0x9091#16, BitVec.ofNat 16 (0x8000 + 0x400 + 1 * 2048), [0, 0]⟩
     (decide (s.onlyMsg p m
      ∧ m.tgt = .sop
      ∧ kindOf (s.port p) m = .chunkRequest
      ∧ ((s.port p).ctxOf .sop).asm = some a
      ∧ a.sending = true
      ∧ m.ext.toNat / 2048 % 16 = a.next
      ∧ 26 * a.next < a.size),
     sat (.chunkRequest p) s fun t => decide (((t.port p).ctxOf .sop).asm = some { a with next := a.next + 1 }
      ∧ ((t.port p).ctxOf .sop).chunkNum = BitVec.ofNat 4 a.next
      ∧ t.txWaits p .sop (chunkMsg a.header.toNat a.size a.next false ((a.data.drop (26 * a.next)).take 26)) = true
      ∧ (t.port p).timers[tResponse] = Timer.idle))) = (true, true) := by decide +kernel

theorem test_extendedChunk :
    (let b := live
     let p : PortId := 0
     let s : State := (pdOn b .attachedSrc fun d => d) |> withRx 0xF081#16 (u16 (0x8000 + 40) ++ List.replicate 26 9)
     let m : RxMsg := ⟨.sop, 0, s.now, 0xF081#16, BitVec.ofNat 16 (0x8000 + 40), List.replicate 26 9⟩
     (decide (s.onlyMsg p m
      ∧ m.tgt = .sop
      ∧ kindOf (s.port p) m = .chunk
      ∧ m.ext.toNat / 2048 % 16 = 0
      ∧ 26 < m.ext.toNat % 512
      ∧ (s.port p).calm = true),
     sat (.extendedChunk p) s fun t => decide (((t.port p).ctxOf .sop).asm = some ⟨false, m.header, m.ext.toNat % 512, m.body.take 26, 1, .plain⟩
      ∧ ((t.port p).ctxOf .sop).chunking = true
      ∧ (t.port p).timers[tResponse] = Timer.armed' .chunkResponse 6750
      ∧ t.txWaits p .sop (chunkMsg m.type 0 1 true []) = true))) = (true, true) := by decide +kernel

theorem test_getRevision :
    (let b := live
     let p : PortId := 0
     let s : State := (pdOn b .attachedSrc fun d => d) |> withRx 0x0098#16 []
     let m : RxMsg := msg s 0x0098#16 []
     (decide (s.onlyMsg p m
      ∧ m.tgt = .sop
      ∧ kindOf (s.port p) m = .getRevision
      ∧ (s.port p).calm = true
      ∧ ((s.port p).ctxOf m.tgt).asm = none),
     sat (.getRevision p) s fun t => decide (t.txWaits p .sop (datMsg 12 [0x32110000#32]) = true
      ∧ (t.port p).pd.contract = (s.port p).pd.contract))) = (true, true) := by decide +kernel

theorem test_unsupportedMessage :
    (let b := live
     let p : PortId := 0
     let s : State := (pdOn b .attachedSrc fun d => d) |> withRx 0x0082#16 []
     let m : RxMsg := msg s 0x0082#16 []
     (decide (s.onlyMsg p m
      ∧ m.tgt = .sop
      ∧ kindOf (s.port p) m = .unsupported
      ∧ (s.port p).rev ≠ 1
      ∧ ((s.port p).ctxOf m.tgt).asm = none),
     sat (.unsupportedMessage p) s fun t => decide (t.txWaits p .sop (ctlMsg 16) = true
      ∧ (t.port p).pd.contract = (s.port p).pd.contract))) = (true, true) := by decide +kernel

theorem test_unsupportedMessage_rev2 :
    (let b := live
     let p : PortId := 0
     let s : State := ((pdOn b .attachedSrc fun d => d).modPort 0 fun x => x.modCtx .sop fun c => { c with rev := 1 }) |> withRx 0x0058#16 []
     let m : RxMsg := msg s 0x0058#16 []
     (decide (s.onlyMsg p m
      ∧ m.tgt = .sop
      ∧ kindOf (s.port p) m = .unsupported
      ∧ (s.port p).rev = 1
      ∧ s.deciding p = false
      ∧ ((s.port p).ctxOf m.tgt).asm = none),
     sat (.unsupportedMessage p) s fun t => decide (((s.port p).pd.start = none → (t.port p).pd = (s.port p).pd)
      ∧ (t.port p).pd.contract = (s.port p).pd.contract
      ∧ t.rxCount p = 0))) = (true, true) := by decide +kernel

theorem test_unexpectedMessage_power :
    (let b := live
     let p : PortId := 0
     let s : State := (pdOn b .attachedSrc fun d => { d with trans := some (tran true true) }) |> withRx 0x0083#16 []
     let m : RxMsg := msg s 0x0083#16 []
     (decide (s.onlyMsg p m
      ∧ m.tgt = .sop
      ∧ (s.port p).surprises (kindOf (s.port p) m) = true
      ∧ (s.port p).inPower = true
      ∧ s.deciding p = false
      ∧ (s.port p).pd.hrOrder = none
      ∧ (s.port p).tc.st.pd = true
      ∧ ((s.port p).ctxOf m.tgt).asm = none),
     sat (.unexpectedMessage p) s fun t => decide ((t.port p).pd.hrOrder = some s.now
      ∧ (t.port p).pd.contract = (s.port p).pd.contract))) = (true, true) := by decide +kernel

theorem test_unexpectedMessage_ams :
    (let b := live
     let p : PortId := 0
     let s : State := (pdOn b .attachedSrc fun d => { d with ownAms := true, await := .hostResponse }) |> withRx 0x0083#16 []
     let m : RxMsg := msg s 0x0083#16 []
     (decide (s.onlyMsg p m
      ∧ m.tgt = .sop
      ∧ (s.port p).surprises (kindOf (s.port p) m) = true
      ∧ (s.port p).inPower = false
      ∧ (s.port p).pd.ownAms = true
      ∧ ((s.port p).ctxOf m.tgt).asm = none),
     sat (.unexpectedMessage p) s fun t => decide (t.txWaits p .sop (ctlMsg 13) = true
      ∧ (t.port p).pd.hrOrder = (s.port p).pd.hrOrder
      ∧ ((t.port p).ctxOf .sop).txId = 0))) = (true, true) := by decide +kernel

/-! ### VDMs and the service mode -/
/-- A VDM header: command type, command, object position, SVID. -/
def vdmW (type cmd pos svid : Nat) : Word := mkWord [(cmd, 0), (type, 6), (pos, 8), (1, 13), (1, 15), (svid, 16)]
/-- P0 in DEBUG_ACC_SRC or attached with a contract, the service mode permitted. -/
def svcOn0 (b : State) (st : Tc) (inMode : Bool) : State :=
  { (pdOn b st fun d => { d with contract := con1, dfp := false }) with
    dev := { b.dev with svcCfg := 15 }, svc := { Service.reset with port := if inMode then some 0 else none }
    board := { b.board with recovery := false } }
def enterReq (mode : VdmWhy) : VdmReq := ⟨mode, .sop, wordBytes (vdmW 0 4 1 0x1234), .host, 9, true, true, true, none, 0, []⟩

/-! ### VDMs and the service mode (chapters 10 and 20) -/

theorem test_vdm_ack_enter :
    (let b := live
     let p : PortId := 0
     let r : VdmReq := enterReq .modeEnter
     let s : State := (pdOn b .attachedSrc fun d => { d with await := .vdmAnswer, ownAms := true, vdm := some (enterReq .modeEnter) }) |> withRx 0x108F#16 (wordBytes (vdmW 1 4 1 0x1234))
     let m : RxMsg := msg s 0x108F#16 (wordBytes (vdmW 1 4 1 0x1234))
     (decide (s.onlyMsg p m
      ∧ kindOf (s.port p) m = .svdm
      ∧ (s.port p).answersVdm m = true
      ∧ (s.port p).pd.vdm = some r
      ∧ r.why = .modeEnter
      ∧ vdmType (m.word 0) = 1
      ∧ ((s.port p).ctxOf m.tgt).asm = none),
     sat (.structuredVdmRx p) s fun t => decide ((t.port p).pd.mode = some (BitVec.ofNat 16 (vdmSvid (rdWord r.message 0)), BitVec.ofNat 3 (vdmPos (rdWord r.message 0)))
      ∧ ((s.port p).pd.vdmNext = none → (t.port p).pd.vdm = none)
      ∧ ((s.port p).pd.vdmNext = none → (s.port p).pd.start = none → (t.port p).pd.ownAms = false)
      ∧ (t.port p).timers[(respTimer r.tgt)] = Timer.idle))) = (true, true) := by decide +kernel

theorem test_unstructuredVdm :
    (let b := live
     let p : PortId := 0
     let s : State := ({ (pdOn b .attachedSrc fun d => d) with host := .reset, svc := .reset } : State) |> withRx 0x208F#16 (wordBytes 0x12340001#32 ++ [1, 2, 3, 4])
     let m : RxMsg := msg s 0x208F#16 (wordBytes 0x12340001#32 ++ [1, 2, 3, 4])
     (decide (s.onlyMsg p m
      ∧ kindOf (s.port p) m = .uvdm
      ∧ s.deciding p = false
      ∧ s.hears 0xC7 p.val m.event
      ∧ ((s.port p).ctxOf m.tgt).asm = none
      ∧ s.coreStopped 8 = false),
     sat (.unstructuredVdmRx p) s fun t => decide (t.lastEvent = some (eventBytes 0xC7 p.val false m.event)
      ∧ ((s.port p).pd.start = none → (t.port p).pd = (s.port p).pd)
      ∧ (t.port p).pd.contract = (s.port p).pd.contract
      ∧ (t.port p).pd.mode = (s.port p).pd.mode
      ∧ (t.port p).pd.vdm = (s.port p).pd.vdm
      ∧ t.rxCount p = 0))) = (true, true) := by decide +kernel

theorem test_attention :
    (let b := live
     let p : PortId := 0
     let s : State := ({ (pdOn b .attachedSrc fun d => d) with host := .reset, svc := .reset } : State) |> withRx 0x108F#16 (wordBytes (vdmW 0 6 1 0x1234))
     let m : RxMsg := msg s 0x108F#16 (wordBytes (vdmW 0 6 1 0x1234))
     (decide (s.onlyMsg p m
      ∧ kindOf (s.port p) m = .attention
      ∧ s.deciding p = false
      ∧ s.hears 0xC8 p.val m.event
      ∧ ((s.port p).ctxOf m.tgt).asm = none
      ∧ s.coreStopped 8 = false),
     sat (.attention p) s fun t => decide (t.lastEvent = some (eventBytes 0xC8 p.val false m.event)
      ∧ ((s.port p).pd.start = none → (t.port p).pd = (s.port p).pd)
      ∧ (t.port p).pd.contract = (s.port p).pd.contract
      ∧ (t.port p).pd.mode = (s.port p).pd.mode
      ∧ (t.port p).pd.vdm = (s.port p).pd.vdm
      ∧ t.rxCount p = 0))) = (true, true) := by decide +kernel

theorem test_svcEnter_debug :
    (let b := live
     let p : PortId := 0
     let s : State := svcOn0 b .debugAccSrc false
     (decide ((s.port p).debugEnters = true
      ∧ s.svcMayEnter p = true
      ∧ s.fw p = true),
     sat (.serviceEnterMode p) s fun t => decide (t.svc.port = some (Fin.ofNat 4 p.val)
      ∧ t.host.maskSvc = 3
      ∧ t.host.tagsSvc = []
      ∧ (t.port p).pd = { (s.port p).pd.orphan with svcDone := true }))) = (true, true) := by decide +kernel

/-! ### Timers and sequences of the Policy Engine (chapters 08 and 09) -/

theorem test_capabilityBuild :
    (let b := live
     let p : PortId := 0
     let s : State := (pdOn b .attachedSrc fun d => { d with capsDue := true, discovered := true, sentCaps := caps5 }).modPort 0 fun x => x.modCtx .sop fun c => { c with rev := 2 }
     (decide (s.free p = true
      ∧ (s.port p).pd.powerSource = true
      ∧ (s.port p).tc.st = .attachedSrc
      ∧ (s.port p).use tPower ≠ .swapSourceStart
      ∧ (s.port p).pd.contract.eprMode = false
      ∧ (s.port p).pd.capsDue = true
      ∧ (s.port p).capsReady = true
      ∧ (s.port p).capsHeld s.now = false
      ∧ (s.port p).rev = 2),
     sat (.capabilityBuild p) s fun t => decide ((t.port p).pd.sinkNg = true
      ∧ (t.port p).pd.start = some (.sop, .sourceCaps, [])
      ∧ (t.port p).timers[tCaps] = Timer.armed' .sinkTx (s.port p).tSinkTx))) = (true, true) := by decide +kernel

theorem test_capabilityBuild_rev0 :
    (let b := live
     let p : PortId := 0
     let s : State := pdOn b .attachedSrc fun d => { d with capsDue := true, discovered := true, sentCaps := caps5 }
     (decide (s.free p = true
      ∧ (s.port p).pd.powerSource = true
      ∧ (s.port p).tc.st = .attachedSrc
      ∧ (s.port p).use tPower ≠ .swapSourceStart
      ∧ (s.port p).pd.contract.eprMode = false
      ∧ (s.port p).pd.capsDue = true
      ∧ (s.port p).capsReady = true
      ∧ (s.port p).capsHeld s.now = false
      ∧ (s.port p).rev ≠ 2),
     sat (.capabilityBuild p) s fun t => decide ((t.port p).pd.sentCaps = buildCaps (s.classOf (s.port p)) (s.port p) false
      ∧ t.txWaits p .sop (datMsg 1 (buildCaps (s.classOf (s.port p)) (s.port p) false)) = true
      ∧ (t.port p).pd.capsDue = false
      ∧ (t.port p).pd.capsBeat = s.now))) = (true, true) := by decide +kernel

theorem test_sinkAmsStart :
    (let b := live
     let p : PortId := 0
     let bytes : List Byte := datMsg 2 [5]
     let s : State := (pdOn b .attachedSnk fun d => { d with powerSource := false, start := some (.sop, .request, datMsg 2 [5]) }).modPort 0 fun x => { x.modCtx .sop (fun c => { c with rev := 2 }) with tc := { x.tc with cc1 := .rp3A0, cc2 := .rp3A0 } }
     (decide (s.fw p = true
      ∧ (s.port p).pd.start = some (.sop, .request, bytes)
      ∧ (s.port p).pd.powerSource = false
      ∧ (s.port p).rev = 2
      ∧ (s.port p).sinkTxOk = true
      ∧ (s.port p).pd.partnerAms = false
      ∧ (s.port p).pd.ownAms = false
      ∧ s.rxHead p = none),
     sat (.sinkAmsStart p) s fun t => decide ((t.port p).pd.start = none
      ∧ (t.port p).pd.ownAms = true
      ∧ (t.port p).pd.first = true
      ∧ t.txWaits p .sop bytes = true))) = (true, true) := by decide +kernel

theorem test_sinkFirstWithdraw :
    (let b := live
     let p : PortId := 0
     let f : Flight := { flight1 b .sop .request false 0 with stamp := b.now - 1000 }
     let s : State := ((pdOn b .attachedSnk fun d => { d with powerSource := false, first := true, ownAms := true }).modPort 0 fun x => x.modCtx .sop (fun c => { c with rev := 2 })) |> flying { flight1 b .sop .request false 0 with stamp := b.now - 1000 }
     (decide (s.fw p = true
      ∧ (s.port p).pd.flight = some f
      ∧ f.why = .request
      ∧ f.attempts = 0
      ∧ (s.port p).pd.first = true
      ∧ (s.port p).pd.powerSource = false
      ∧ (s.port p).rev = 2
      ∧ 1000 ≤ Beat.since s.now f.stamp
      ∧ s.txPending p (fun _ => true) = [(f.tgt, f.why)]
      ∧ (s.port p).pd.held = []),
     sat (.sinkFirstMessageWithdraw p) s fun t => decide ((t.port p).pd.flight = none
      ∧ (t.port p).pd.start = some (f.tgt, f.why, f.packet.data)
      ∧ (t.port p).pd.lastTx = some .discarded
      ∧ (t.port p).pd.ownAms = false
      ∧ (t.port p).ctx = (s.port p).ctx))) = (true, true) := by decide +kernel

theorem test_sinkTxExpiry :
    (let b := live
     let p : PortId := 0
     let s : State := (pdOn b .attachedSrc fun d => { d with sinkNg := true, start := some (.sop, .sourceCaps, []) }).modPort 0 fun x => x.setTimer tCaps ⟨0, false, false, true, .sinkTx⟩
     (decide (s.due p tCaps .sinkTx = true
      ∧ (s.port p).pd.start = some (.sop, .sourceCaps, [])
      ∧ (s.port p).pd.partnerAms = false
      ∧ s.rxHead p = none
      ∧ (s.port p).pd.contract.eprMode = false
      ∧ (s.port p).pd.capsWait = none),
     sat (.sinkTxExpiry p) s fun t => decide ((t.port p).pd.start = none
      ∧ (t.port p).pd.ownAms = true
      ∧ t.txWaits p .sop (datMsg 1 (buildCaps (s.classOf (s.port p)) (s.port p) false)) = true
      ∧ ((s.port p).pd.backUntil = none → (t.port p).timers[tCaps] = Timer.idle)))) = (true, true) := by decide +kernel

theorem test_senderResponse_hr :
    (let b := live
     let p : PortId := 0
     let s : State := (pdOn b .attachedSrc fun d => { d with await := .requestAfterCaps, ownAms := true }).modPort 0 fun x => x.setTimer tResponse ⟨0, false, false, true, .senderResponse⟩
     (decide (s.due p tResponse .senderResponse = true
      ∧ ((s.port p).pd.await = .requestAfterCaps ∨ (s.port p).pd.await = .answerToRequest)
      ∧ (s.port p).tc.st.pd = true
      ∧ (s.port p).pd.hrOrder = none),
     sat (.senderResponseTimeout p) s fun t => decide ((t.port p).pd.hrOrder = some s.now
      ∧ (t.port p).timers[tResponse] = Timer.idle
      ∧ (t.port p).pd.contract = (s.port p).pd.contract))) = (true, true) := by decide +kernel

theorem test_hardResetByTimer :
    (let b := live
     let p : PortId := 0
     let c : Instr := .sourceEprKeepaliveTimeout 0
     let i : Fin 12 := tKeep
     let u : Use := .sourceEprKeep
     let s : State := expd (pdOn b .attachedSnk fun d => d) .attachedSnk tKeep .sourceEprKeep
     (decide ((c, i, u) ∈ [(.psTransitionTimeout p, tPower, .psTransition), (.psSourceOffTimeout p, tPower, .psSourceOff), (.sourceEprKeepaliveTimeout p, tKeep, .sourceEprKeep), (.ppsTimeout p, tKeep, .ppsTimeout), (.vconnSourceTimeout p, tPower, .vconnSource)]
      ∧ s.due p i u = true
      ∧ (s.port p).tc.st.pd = true
      ∧ s.pdRuns p = true),
     sat (c) s fun t => decide ((t.port p).pd.hrOrder = some s.now
      ∧ (t.port p).timers[i] = Timer.idle
      ∧ (t.port p).pd.contract = (s.port p).pd.contract
      ∧ (t.port p).tc = (s.port p).tc))) = (true, true) := by decide +kernel

theorem test_sinkWaitCapTimeout :
    (let b := live
     let p : PortId := 0
     let s : State := expd (pdOn b .attachedSnk fun d => { d with powerSource := false }) .attachedSnk tCaps .sinkWaitCap
     (decide (s.due p tCaps .sinkWaitCap = true
      ∧ ((s.port p).ctxOf .sop).hrCnt < 2
      ∧ (s.port p).tc.st.pd = true
      ∧ (s.port p).pd.hrOrder = none),
     sat (.sinkWaitCapTimeout p) s fun t => decide ((t.port p).pd.hrOrder = some s.now
      ∧ (t.port p).pd.contract = (s.port p).pd.contract
      ∧ (t.port p).tc = (s.port p).tc
      ∧ ((s.port p).pd.capsWait = none → (s.port p).pd.backUntil = none → (t.port p).timers[tCaps] = Timer.idle)))) = (true, true) := by decide +kernel

theorem test_typecSendSourceCap :
    (let b := live
     let p : PortId := 0
     let s : State := (expd (pdOn b .attachedSrc fun d => d) .attachedSrc tCaps .sendSourceCap)
     (decide (s.due p tCaps .sendSourceCap = true
      ∧ s.free p = true
      ∧ (s.port p).pd.powerSource = true
      ∧ (s.port p).pd.contract.eprMode = false
      ∧ (s.port p).rev ≠ 2),
     sat (.typecSendSourceCapExpiry p) s fun t => decide (t.txWaits p .sop (datMsg 1 (buildCaps (s.classOf (s.port p)) (s.port p) false)) = true
      ∧ (t.port p).timers[tCaps] = Timer.idle
      ∧ (t.port p).pd.ownAms = true))) = (true, true) := by decide +kernel

theorem test_sinkRequestExpiry :
    (let b := live
     let p : PortId := 0
     let c : Instr := .sinkRequestExpiry 0
     let s : State := (expd (pdOn b .attachedSnk fun d => { d with powerSource := false, request := rdo 1 50, rxCaps := caps5 }) .attachedSnk tCaps .sinkRequest)
     (decide (((c = .sinkRequestExpiry p ∧ s.due p tCaps .sinkRequest = true) ∨ (c = .ppsRequestExpiry p ∧ s.due p tKeep .ppsRequest = true))
      ∧ s.free p = true
      ∧ (s.port p).pd.powerSource = false
      ∧ (s.port p).pd.rxCaps ≠ []
      ∧ (s.port p).rev ≠ 2),
     sat (c) s fun t => decide (t.txWaits p .sop (datMsg 2 [(s.port p).pd.request]) = true
      ∧ (t.port p).pd.ownAms = true
      ∧ (t.port p).pd.contract = (s.port p).pd.contract))) = (true, true) := by decide +kernel

theorem test_ppsUndervoltage :
    (let b := live
     let p : PortId := 0
     let s : State := (pdOn b .attachedSrc fun d => { d with contract := { con1 with type := 2, clActive := true } }).modPort 0 fun x => { x with stage := { x.stage with runs := { x.stage.runs with ppsLow := 250 } } }
     (decide (s.fw p = true
      ∧ (s.port p).pd.powerSource = true
      ∧ (s.port p).pd.contract.type = 2
      ∧ (s.port p).pd.contract.clActive = true
      ∧ 250 ≤ (s.port p).stage.runs.ppsLow
      ∧ (s.port p).tc.st.pd = true
      ∧ (s.port p).pd.hrOrder = none),
     sat (.ppsUndervoltage p) s fun t => decide ((t.port p).pd.hrOrder = some s.now
      ∧ (t.port p).pd.contract = (s.port p).pd.contract))) = (true, true) := by decide +kernel

theorem test_dropExcess :
    (let b := live
     let p : PortId := 0
     let s : State := (pdOn b .attachedSrc fun d => { d with contract := { con1 with dropLimit := true } }).modPort 0 fun x => { x with stage := { x.stage with runs := { x.stage.runs with dropLow := 2500 } } }
     (decide (s.fw p = true
      ∧ (s.port p).pd.powerSource = true
      ∧ (s.port p).pd.contract.pos ≠ 0
      ∧ (s.port p).pd.contract.type ≠ 2
      ∧ (s.port p).pd.contract.dropLimit = true
      ∧ (s.port p).stage.runs.dropLow = 2500),
     sat (.dropExcess p) s fun t => decide (t.raisedAt (64 + p.val) = true
      ∧ (t.port p).pd = (s.port p).pd
      ∧ (t.port p).tc.st = (s.port p).tc.st))) = (true, true) := by decide +kernel

theorem test_chunkRequestTimeout :
    (let b := live
     let p : PortId := 0
     let g : Tgt := .sop1
     let a : Assembly := ⟨true, 17, 30, [], 1, .plain⟩
     let s : State := (expd (pdOn b .attachedSrc fun d => d) .attachedSrc tResponse1 .chunkRequest).modPort 0 fun x => x.modCtx .sop1 fun c => { c with chunking := true, asm := some ⟨true, 17, 30, [], 1, .plain⟩ }
     (decide (s.due p (respTimer g) .chunkRequest = true
      ∧ ((s.port p).ctxOf g).asm = some a
      ∧ g ≠ .sop
      ∧ a.why = .plain),
     sat (.chunkSenderRequestTimeout p g) s fun t => decide (((t.port p).ctxOf g).asm = none
      ∧ ((t.port p).ctxOf g).chunking = false
      ∧ ((t.port p).ctxOf g).txFails = satIncr ((s.port p).ctxOf g).txFails
      ∧ (t.port p).timers[(respTimer g)] = Timer.idle))) = (true, true) := by decide +kernel

theorem test_chunkResponseTimeout :
    (let b := live
     let p : PortId := 0
     let g : Tgt := .sop
     let a : Assembly := ⟨false, 17, 30, [], 1, .plain⟩
     let s : State := (expd (pdOn b .attachedSrc fun d => d) .attachedSrc tResponse .chunkResponse).modPort 0 fun x => x.modCtx .sop fun c => { c with chunking := true, asm := some ⟨false, 17, 30, [], 1, .plain⟩ }
     (decide (s.due p (respTimer g) .chunkResponse = true
      ∧ ((s.port p).ctxOf g).asm = some a
      ∧ a.sending = false
      ∧ (g = .sop → (s.port p).pd.await ≠ .hostResponse)),
     sat (.chunkSenderResponseTimeout p g) s fun t => decide (((t.port p).ctxOf g).asm = none
      ∧ ((t.port p).ctxOf g).chunking = false
      ∧ ((t.port p).ctxOf g).txFails = ((s.port p).ctxOf g).txFails
      ∧ (t.port p).timers[(respTimer g)] = Timer.idle
      ∧ (t.port p).pd = (s.port p).pd))) = (true, true) := by decide +kernel

theorem test_chunkResponseTimeout_send :
    (let b := live
     let p : PortId := 0
     let a : Assembly := ⟨false, 17, 30, [], 1, .plain⟩
     let h : HostSend := ⟨[], true, .host, 9, .sop, true, some .ok⟩
     let s : State := (expd (pdOn b .attachedSrc fun d => { d with await := .hostResponse, ownAms := true, send := some ⟨[], true, .host, 9, .sop, true, some .ok⟩ }) .attachedSrc tResponse .chunkResponse).modPort 0 fun x => x.modCtx .sop fun c => { c with chunking := true, asm := some ⟨false, 17, 30, [], 1, .plain⟩ }
     (decide (s.due p tResponse .chunkResponse = true
      ∧ ((s.port p).ctxOf .sop).asm = some a
      ∧ a.sending = false
      ∧ (s.port p).pd.await = .hostResponse
      ∧ (s.port p).pd.send = some h),
     sat (.chunkSenderResponseTimeout p .sop) s fun t => decide ((t.port p).pd.send = none
      ∧ (t.port p).pd.await = .none
      ∧ ((t.port p).ctxOf .sop).asm = none
      ∧ ((t.port p).ctxOf .sop).chunking = false))) = (true, true) := by decide +kernel

theorem test_vdmTimeouts :
    (let b := live
     let p : PortId := 0
     let c : Instr := .vdmWaitModeTimeout 0
     let i : Fin 12 := tResponse
     let u : Use := .vdmWaitMode
     let r : VdmReq := enterReq .modeEnter
     let s : State := (expd (pdOn b .attachedSrc fun d => { d with await := .vdmAnswer, ownAms := true, vdm := some (enterReq .modeEnter) }) .attachedSrc tResponse .vdmWaitMode)
     (decide ((c, i, u) ∈ [(.vdmWaitModeTimeout p, tResponse, .vdmWaitMode), (.vdmSenderResponseTimeout p .sop, tResponse, .vdmResponse), (.vdmSenderResponseTimeout p .sop1, tResponse1, .vdmResponse), (.vdmSenderResponseTimeout p .sop2, tResponse2, .vdmResponse)]
      ∧ s.due p i u = true
      ∧ (s.port p).pd.vdm = some r
      ∧ r.why ≠ .discover),
     sat (c) s fun t => decide (((s.port p).pd.vdmNext = none → (t.port p).pd.vdm = none)
      ∧ ((s.port p).pd.vdmNext = none → (s.port p).pd.start = none → (t.port p).pd.ownAms = false)
      ∧ (t.port p).pd.await = .none
      ∧ (t.port p).timers[i] = Timer.idle
      ∧ (t.port p).pd.mode = (s.port p).pd.mode))) = (true, true) := by decide +kernel

theorem test_vdmBusyRetry :
    (let b := live
     let p : PortId := 0
     let b0 : Beat := b.now - 12500
     let r : VdmReq := { enterReq (.hostSend true) with sent := false, busyAt := some (b.now - 12500) }
     let s : State := pdOn b .attachedSrc fun d => { d with vdm := some { enterReq (.hostSend true) with sent := false, busyAt := some (b.now - 12500) } }
     (decide ((s.port p).pd.vdm = some r
      ∧ r.busyAt = some b0
      ∧ 12500 ≤ Beat.since s.now b0
      ∧ r.tgt = .sop
      ∧ s.free p = true
      ∧ (s.port p).rev ≠ 2),
     sat (.vdmBusyRetry p) s fun t => decide ((t.port p).pd.vdm = some { r with busyAt := none, sent := true, acked := false, ams := true }
      ∧ (t.port p).pd.ownAms = true
      ∧ t.txWaits p .sop (u16 (15 + r.message.length / 4 * 4096) ++ r.message) = true))) = (true, true) := by decide +kernel

theorem test_discoverIdentity :
    (let b := live
     let p : PortId := 0
     let s : State := (expd (pdOn b .attachedSrc fun d => d) .attachedSrc tDiscover .discover).modPort 0 fun x => x.modCtx .sop1 fun c => { c with vconnOk := true, discCnt := 3 }
     (decide (s.due p tDiscover .discover = true
      ∧ (s.port p).pd.cable.state ≠ 2
      ∧ ((s.port p).ctxOf .sop1).vconnOk = true
      ∧ ((s.port p).ctxOf .sop1).discCnt < 20
      ∧ (s.port p).pd.vdm = none
      ∧ s.free p = true
      ∧ (s.port p).rev ≠ 2),
     sat (.discoverIdentityExpiry p) s fun t => decide ((t.port p).pd.vdm = some { discoverReq with sent := true, ams := true }
      ∧ ((t.port p).ctxOf .sop1).discCnt = ((s.port p).ctxOf .sop1).discCnt + 1
      ∧ (t.port p).timers[tDiscover] = Timer.idle
      ∧ t.txWaits p .sop1 (u16 (15 + 4096) ++ wordBytes discoverHeader) = true))) = (true, true) := by decide +kernel

theorem test_sinkEprEnterTimeout :
    (let b := live
     let p : PortId := 0
     let s : State := (expd (pdOn b .attachedSnk fun d => d) .attachedSnk tPower .sinkEprEnter)
     (decide (s.due p tPower .sinkEprEnter = true),
     sat (.sinkEprEnterTimeout p) s fun t => decide (t.txWaits p .sop (ctlMsg 13) = true
      ∧ (t.port p).timers[tPower] = Timer.idle
      ∧ ((t.port p).ctxOf .sop).txId = 0))) = (true, true) := by decide +kernel

theorem test_sinkEprKeepalive :
    (let b := live
     let p : PortId := 0
     let s : State := (expd (pdOn b .attachedSnk fun d => { d with powerSource := false }) .attachedSnk tKeep .sinkEprKeep)
     (decide (s.due p tKeep .sinkEprKeep = true
      ∧ s.free p = true
      ∧ (s.port p).rev ≠ 2),
     sat (.sinkEprKeepaliveExpiry p) s fun t => decide (t.txWaits p .sop (chunkMsg 16 2 0 false [3, 0]) = true
      ∧ (t.port p).timers[tKeep] = Timer.idle
      ∧ (t.port p).pd.ownAms = true))) = (true, true) := by decide +kernel

/-! ### Transitions, swaps, recovery -/
def steady (v : Nat) (x : Port) : Port :=
  { x with stage := { x.stage with vTgt := v, vRef := v * 200, runs := { x.stage.runs with window := 16, idle := 4, vconnOn := 64 } }
           guard := { x.guard with gateOn := true, fullyOn := true, timer := none, gst := .on } }
def idled (x : Port) : Port :=
  withVbs 0 { x with stage := { x.stage with mode := .idle, disRun := false, vRef := 0, runs := { x.stage.runs with idle := 4 } }, guard := { x.guard with gateOn := false, belowOff := true } }
def swapAt (k : SwapKind) (src : Bool) (n : Nat) (f : Option Beat) : Swap := ⟨k, src, n, 0, 0, f, false⟩

/-! ### Transitions, swaps and recovery (chapter 09) -/

theorem test_srcTransitionExpiry :
    (let b := live
     let p : PortId := 0
     let e : Transition := { tran true true with moving := none }
     let s : State := (expd (pdOn b .attachedSrc fun d => { d with trans := some { tran true true with moving := none } }) .attachedSrc tPower .srcTransition)
     (decide (s.due p tPower .srcTransition = true
      ∧ (s.port p).pd.swap = none
      ∧ (s.port p).pd.trans = some e
      ∧ s.pdRuns p = true),
     sat (.srcTransitionExpiry p) s fun t => decide ((t.port p).stage = { (s.port p).stage with vTgt := e.v, iTgt := e.i }
      ∧ (t.port p).pd.trans = some { e with moving := some (s.now + 1) }
      ∧ (t.port p).timers[tPower] = Timer.idle))) = (true, true) := by decide +kernel

theorem test_srcTransitionExpiry_swap :
    (let b := live
     let p : PortId := 0
     let w : Swap := swapAt .pr true 1 none
     let s : State := (expd (pdOn b .attachedSrc fun d => { d with swap := some (swapAt .pr true 1 none) }) .attachedSrc tPower .srcTransition)
     (decide (s.due p tPower .srcTransition = true
      ∧ (s.port p).pd.swap = some w
      ∧ s.pdRuns p = true),
     sat (.srcTransitionExpiry p) s fun t => decide ((t.port p).stage.vTgt = 0
      ∧ (t.port p).pd.swap = some { w with step := 2, mark := s.now }
      ∧ (t.port p).stage.disH = true
      ∧ (t.port p).timers[tPower] = Timer.idle))) = (true, true) := by decide +kernel

theorem test_srcTransitionComplete :
    (let b := live
     let p : PortId := 0
     let e : Transition := { tran true true with moving := some b.now }
     let s : State := (pdOn b .attachedSrc fun d => { d with trans := some { tran true true with moving := some b.now } }).modPort 0 (steady 250)
     (decide (s.pdRuns p = true
      ∧ (s.port p).pd.trans = some e
      ∧ (s.port p).transitionDone s.now = true),
     sat (.srcTransitionComplete p) s fun t => decide (t.txWaits p .sop (ctlMsg 6) = true
      ∧ (t.port p).pd.trans = some { e with sent := true }
      ∧ (t.port p).pd.contract = (s.port p).pd.contract))) = (true, true) := by decide +kernel

theorem test_transFail :
    (let b := live
     let p : PortId := 0
     let b0 : Beat := b.now - 12500
     let e : Transition := { tran true true with moving := some (b.now - 12500) }
     let s : State := ({ (pdOn b .attachedSrc fun d => { d with trans := some { tran true true with moving := some (b.now - 12500) } }) with faults := .reset } : State)
     (decide (s.pdRuns p = true
      ∧ (s.port p).pd.trans = some e
      ∧ e.moving = some b0
      ∧ e.accepted = true
      ∧ e.source = true
      ∧ e.sent = false
      ∧ 12500 ≤ Beat.since s.now b0
      ∧ Beat.since s.now b0 < 140737488355328
      ∧ (s.port p).tc.st.pd = true),
     sat (.transFail p) s fun t => decide (t.raisedAt (64 + p.val) = true
      ∧ (t.port p).pd.hrOrder = some s.now))) = (true, true) := by decide +kernel

theorem test_noResponse :
    (let b := live
     let p : PortId := 0
     let s : State := (expd (pdOn b .attachedSrc fun d => d) .attachedSrc tPower .noResponse)
     (decide (s.due p tPower .noResponse = true
      ∧ ((s.port p).ctxOf .sop).hrCnt < 2
      ∧ (s.port p).tc.st.pd = true
      ∧ (s.port p).pd.hrOrder = none),
     sat (.noResponseTimeout p) s fun t => decide ((t.port p).pd.hrOrder = some s.now
      ∧ (t.port p).timers[tPower] = Timer.idle))) = (true, true) := by decide +kernel

theorem test_noResponse_error :
    (let b := live
     let p : PortId := 0
     let s : State := (expd (pdOn b .attachedSrc fun d => d) .attachedSrc tPower .noResponse).modPort 0 fun x => x.modCtx .sop fun c => { c with hrCnt := 2 }
     (decide (s.due p tPower .noResponse = true
      ∧ ((s.port p).ctxOf .sop).hrCnt = 2),
     sat (.noResponseTimeout p) s fun t => decide ((t.port p).tc.st = .errorRecovery
      ∧ (t.port p).pd.contract = Contract.none
      ∧ (t.port p).guard.gateOn = false
      ∧ (t.port p).stage.mode = .idle
      ∧ ((t.port p).ctxOf .sop).hrCnt = 0))) = (true, true) := by decide +kernel

theorem test_swapMessageSend :
    (let b := live
     let p : PortId := 0
     let r : SwapReq := ⟨.vconn, 1, 0, .host, 9, b.now, false, false⟩
     let s : State := pdOn b .attachedSrc fun d => { d with swapReq := some ⟨.vconn, 1, 0, .host, 9, b.now, false, false⟩ }
     (decide ((s.port p).pd.swapReq = some r
      ∧ r.sent = false
      ∧ s.free p = true
      ∧ (s.port p).use tCaps ≠ .swapBackoff
      ∧ (s.port p).pd.backUntil = none
      ∧ (s.port p).rev ≠ 2),
     sat (.swapMessageSend p) s fun t => decide (t.txWaits p .sop (ctlMsg (match r.kind with | .pr => 10 | .dr => 9 | .vconn => 11)) = true
      ∧ (t.port p).pd.swapReq = some { r with sent := true, attempts := r.attempts + 1 }
      ∧ (t.port p).pd.ownAms = true))) = (true, true) := by decide +kernel

theorem test_swapRequestTimeout :
    (let b := live
     let p : PortId := 0
     let r : SwapReq := ⟨.vconn, 1, 0, .host, 9, b.now - 25000, false, false⟩
     let s : State := pdOn b .attachedSrc fun d => { d with partnerAms := true, swapReq := some ⟨.vconn, 1, 0, .host, 9, b.now - 25000, false, false⟩ }
     (decide (s.fw p = true
      ∧ (s.port p).pd.swapReq = some r
      ∧ r.sent = false
      ∧ r.attempts = 0
      ∧ (s.port p).use tCaps ≠ .swapBackoff
      ∧ 25000 ≤ Beat.since s.now r.from_
      ∧ (s.port p).pd.start = none),
     sat (.swapRequestTimeout p) s fun t => decide ((t.port p).pd = { (s.port p).pd with swapReq := none, backUntil := none }
      ∧ (t.port p).timers = (s.port p).timers))) = (true, true) := by decide +kernel

theorem test_swapRequestTimeout_queued :
    (let b := live
     let p : PortId := 0
     let g : Tgt := .sop
     let xs : List Byte := ctlMsg 11
     let r : SwapReq := ⟨.vconn, 1, 0, .host, 9, b.now - 25000, false, false⟩
     let s : State := pdOn b .attachedSrc fun d => { d with partnerAms := true, ownAms := true, start := some (.sop, .swapRequest, ctlMsg 11), swapReq := some ⟨.vconn, 1, 0, .host, 9, b.now - 25000, false, false⟩ }
     (decide (s.fw p = true
      ∧ (s.port p).pd.swapReq = some r
      ∧ r.sent = false
      ∧ r.attempts = 0
      ∧ (s.port p).use tCaps ≠ .swapBackoff
      ∧ 25000 ≤ Beat.since s.now r.from_
      ∧ (s.port p).pd.start = some (g, .swapRequest, xs)),
     sat (.swapRequestTimeout p) s fun t => decide ((t.port p).pd.swapReq = none
      ∧ (t.port p).pd.contract = (s.port p).pd.contract))) = (true, true) := by decide +kernel

theorem test_swapBackoff_again :
    (let b := live
     let p : PortId := 0
     let r : SwapReq := ⟨.vconn, 1, 1, .host, 9, b.now, true, true⟩
     let s : State := expd (pdOn b .attachedSrc fun d => { d with swapReq := some ⟨.vconn, 1, 1, .host, 9, b.now, true, true⟩ }) .attachedSrc tCaps .swapBackoff
     (decide (s.due p tCaps .swapBackoff = true
      ∧ (s.port p).pd.swapReq = some r
      ∧ 0 < r.retries),
     sat (.swapBackoffExpiry p) s fun t => decide ((t.port p).pd = { (s.port p).pd with swapReq := some { r with retries := r.retries - 1, sent := false, crossed := false }, backUntil := none }
      ∧ (t.port p).timers[tCaps] = Timer.idle))) = (true, true) := by decide +kernel

theorem test_swapBackoff_over :
    (let b := live
     let p : PortId := 0
     let r : SwapReq := ⟨.vconn, 0, 1, .host, 9, b.now, true, true⟩
     let s : State := expd (pdOn b .attachedSrc fun d => { d with swapReq := some ⟨.vconn, 0, 1, .host, 9, b.now, true, true⟩ }) .attachedSrc tCaps .swapBackoff
     (decide (s.due p tCaps .swapBackoff = true
      ∧ (s.port p).pd.swapReq = some r
      ∧ r.retries = 0),
     sat (.swapBackoffExpiry p) s fun t => decide ((t.port p).pd = { (s.port p).pd with swapReq := none, backUntil := none }
      ∧ (t.port p).timers[tCaps] = Timer.idle))) = (true, true) := by decide +kernel

theorem test_prSwapVbusOff :
    (let b := live
     let p : PortId := 0
     let w : Swap := swapAt .pr true 2 none
     let s : State := (pdOn b .attachedSrc fun d => { d with swap := some (swapAt .pr true 2 none) }).modPort 0 idled
     (decide (s.pdRuns p = true
      ∧ (s.port p).pd.swap = some w
      ∧ (s.port p).prStep true 2 = true
      ∧ (s.port p).stage.vRef = 0
      ∧ (s.port p).vSafe0 = true),
     sat (.prSwapVbusOff p) s fun t => decide ((t.port p).pd.swap = some { w with step := 3 }
      ∧ (t.port p).stage.mode = .idle
      ∧ (t.port p).guard.gateOn = false
      ∧ (t.port p).stage.disS = false
      ∧ (t.port p).stage.runs.idle = 0))) = (true, true) := by decide +kernel

theorem test_prSwapIdleHeld :
    (let b := live
     let p : PortId := 0
     let w : Swap := swapAt .pr true 3 none
     let s : State := (pdOn b .attachedSrc fun d => { d with swap := some (swapAt .pr true 3 none) }).modPort 0 idled
     (decide (s.pdRuns p = true
      ∧ (s.port p).pd.swap = some w
      ∧ (s.port p).prStep true 3 = true
      ∧ (s.port p).definedIdle = true
      ∧ 4 ≤ (s.port p).stage.runs.idle),
     sat (.prSwapIdleHeld p) s fun t => decide ((t.port p).pd.swap = some { w with step := 4 }
      ∧ (t.port p).pd.powerSource = false
      ∧ (t.port p).tc.pres1 = (if (s.port p).tc.orient then .none else .rd)
      ∧ (t.port p).tc.pres2 = (if (s.port p).tc.orient then .rd else .none)
      ∧ t.txWaits p .sop (ctlMsg 6) = true))) = (true, true) := by decide +kernel

theorem test_swapFail :
    (let b := live
     let p : PortId := 0
     let w : Swap := { swapAt .pr true 2 none with mark := b.now - 150000 }
     let s : State := { (pdOn b .attachedSrc fun d => { d with swap := some { swapAt .pr true 2 none with mark := b.now - 150000 } }) with faults := .reset }
     (decide (s.pdRuns p = true
      ∧ (s.port p).pd.swap = some w
      ∧ (s.port p).prStep true 2 = true
      ∧ 150000 ≤ Beat.since s.now w.mark
      ∧ (s.port p).tc.st.pd = true),
     sat (.swapFail p) s fun t => decide (t.raisedAt (64 + p.val) = true
      ∧ (t.port p).pd.hrOrder = some s.now))) = (true, true) := by decide +kernel

theorem test_prSwapSinkGateOn :
    (let b := live
     let p : PortId := 0
     let s : State := (pdOn b .attachedSnk fun d => { d with vbusWait := true }).modPort 0 (withVbs 50000)
     (decide (s.pdRuns p = true
      ∧ (s.port p).pd.vbusWait = true
      ∧ (s.port p).vbusPresent = true),
     sat (.prSwapSinkGateOn p) s fun t => decide ((t.port p).pd = { (s.port p).pd with vbusWait := false }
      ∧ (t.port p).stage.iTgt = rpSeenAmps (s.port p).tc.rpSeen
      ∧ ((s.port p).guard.gst ≠ .tripped → (s.port p).guard.gst ≠ .locked → (t.port p).guard.gateWant = true)))) = (true, true) := by decide +kernel

theorem test_prSwapSourceRamp :
    (let b := live
     let p : PortId := 0
     let w : Swap := swapAt .pr false 2 (some 0)
     let s : State := (pdOn b .attachedSnk fun d => { d with swap := some (swapAt .pr false 2 (some 0)) }).modPort 0 idled
     (decide (s.pdRuns p = true
      ∧ (s.port p).pd.swap = some w
      ∧ (s.port p).prStep false 2 = true
      ∧ (s.port p).definedIdle = true
      ∧ 4 ≤ (s.port p).stage.runs.idle
      ∧ (s.port p).vSafe0 = true),
     sat (.prSwapSourceRamp p) s fun t => decide ((t.port p).pd.swap = some { w with step := 3 }
      ∧ (t.port p).stage.vTgt = 250
      ∧ (t.port p).stage.want = .forward))) = (true, true) := by decide +kernel

theorem test_prSwapSourceReady :
    (let b := live
     let p : PortId := 0
     let w : Swap := swapAt .pr false 3 (some 0)
     let s : State := (pdOn b .attachedSnk fun d => { d with swap := some (swapAt .pr false 3 (some 0)) }).modPort 0 (steady 250)
     (decide (s.pdRuns p = true
      ∧ (s.port p).pd.swap = some w
      ∧ (s.port p).prStep false 3 = true
      ∧ (s.port p).atTarget = true
      ∧ (s.port p).powerGood = true
      ∧ 16 ≤ (s.port p).stage.runs.window),
     sat (.prSwapSourceReady p) s fun t => decide ((t.port p).pd.swap = some { w with step := 4 }
      ∧ t.txWaits p .sop (ctlMsg 6) = true))) = (true, true) := by decide +kernel

theorem test_swapSourceStart :
    (let b := live
     let p : PortId := 0
     let s : State := (expd (pdOn b .attachedSrc fun d => { d with partnerAms := true }) .attachedSrc tPower .swapSourceStart)
     (decide (s.due p tPower .swapSourceStart = true
      ∧ s.free p = false
      ∧ (s.port p).pd.discovered = false),
     sat (.swapSourceStartExpiry p) s fun t => decide ((t.port p).pd = { (s.port p).pd with capsDue := true, capsRaise := false, capsForce := true }
      ∧ (t.port p).timers[tPower] = Timer.idle))) = (true, true) := by decide +kernel

theorem test_swapSourceStart_caps :
    (let b := live
     let p : PortId := 0
     let s : State := (expd (pdOn b .attachedSrc fun d => { d with discovered := true }) .attachedSrc tPower .swapSourceStart)
     (decide (s.due p tPower .swapSourceStart = true
      ∧ s.free p = true
      ∧ (s.port p).pd.discovered = true
      ∧ (s.port p).pd.contract.eprMode = false
      ∧ (s.port p).rev ≠ 2),
     sat (.swapSourceStartExpiry p) s fun t => decide (t.txWaits p .sop (datMsg 1 (buildCaps (s.classOf (s.port p)) (s.port p) false)) = true
      ∧ (t.port p).pd.capsDue = false))) = (true, true) := by decide +kernel

theorem test_swapToErrorRecovery :
    (let b := live
     let p : PortId := 0
     let b0 : Beat := b.now - 200000
     let w : Swap := swapAt .pr false 3 (some (b.now - 200000))
     let s : State := pdOn b .attachedSrc fun d => { d with swap := some (swapAt .pr false 3 (some (b.now - 200000))) }
     (decide (s.pdRuns p = true
      ∧ (s.port p).pd.swap = some w
      ∧ w.windowFrom = some b0
      ∧ 120000 + 250 * fld (s.port p).cfg.swapMargin 0 8 < Beat.since s.now b0),
     sat (.swapWindowExceeded p) s fun t => decide ((t.port p).tc.st = .errorRecovery
      ∧ (t.port p).pd.swap = none
      ∧ (t.port p).guard.gateOn = false
      ∧ (t.port p).stage.mode = .idle))) = (true, true) := by decide +kernel

theorem test_psSourceOnTimeout :
    (let b := live
     let p : PortId := 0
     let s : State := (expd (pdOn b .attachedSrc fun d => { d with swap := some (swapAt .pr true 5 none) }) .attachedSrc tPower .psSourceOn)
     (decide (s.due p tPower .psSourceOn = true
      ∧ s.pdRuns p = true),
     sat (.psSourceOnTimeout p) s fun t => decide ((t.port p).tc.st = .errorRecovery
      ∧ (t.port p).pd.swap = none
      ∧ (t.port p).guard.gateOn = false
      ∧ (t.port p).stage.mode = .idle))) = (true, true) := by decide +kernel

theorem test_vconnSwapOnConfirm :
    (let b := live
     let p : PortId := 0
     let w : Swap := swapAt .vconn false 1 none
     let s : State := (pdOn b .attachedSrc fun d => { d with swap := some (swapAt .vconn false 1 none) }).modPort 0 fun x => steady 250 { x with tc := { x.tc with vconnOn := true } }
     (decide (s.pdRuns p = true
      ∧ (s.port p).pd.swap = some w
      ∧ (s.port p).vconnTurning = true
      ∧ (s.port p).tc.vconnOn = true
      ∧ 64 ≤ (s.port p).stage.runs.vconnOn),
     sat (.vconnSwapOnConfirm p) s fun t => decide ((t.port p).pd.swap = some { w with step := 2 }
      ∧ t.txWaits p .sop (ctlMsg 6) = true
      ∧ ((t.port p).ctxOf .sop1).txId = 0
      ∧ ((t.port p).ctxOf .sop1).rev = 0
      ∧ ((t.port p).ctxOf .sop1).vconnOk = true
      ∧ (t.port p).tc.vconnOn = true))) = (true, true) := by decide +kernel

theorem test_vconnSwapOnTimeout :
    (let b := live
     let p : PortId := 0
     let w : Swap := { swapAt .vconn false 1 none with beatA := b.now - 2500 }
     let s : State := ({ (pdOn b .attachedSrc fun d => { d with swap := some { swapAt .vconn false 1 none with beatA := b.now - 2500 } }) with faults := .reset } : State).modPort 0 fun x => { x with tc := { x.tc with vconnOn := true }, stage := { x.stage with runs := { x.stage.runs with vconnOn := 0 } } }
     (decide (s.pdRuns p = true
      ∧ (s.port p).pd.swap = some w
      ∧ (s.port p).vconnTurning = true
      ∧ (s.port p).stage.runs.vconnOn = 0
      ∧ 2500 ≤ Beat.since s.now w.beatA
      ∧ (s.port p).tc.st.pd = true),
     sat (.vconnSwapOnTimeout p) s fun t => decide (t.raisedAt (64 + p.val) = true
      ∧ (t.port p).tc.vconnOn = false
      ∧ (t.port p).pd.hrOrder = some s.now
      ∧ (t.port p).tc.vconnOc = true))) = (true, true) := by decide +kernel

theorem test_psHardReset :
    (let b := live
     let p : PortId := 0
     let s : State := (expd (pdOn b .attachedSrc fun d => { d with recov := some .srcHold }) .attachedSrc tPower .psHardReset)
     (decide (s.due p tPower .psHardReset = true
      ∧ (s.port p).pd.recov = some .srcHold),
     sat (.psHardResetExpiry p) s fun t => decide ((t.port p).pd.recov = some .srcFall
      ∧ (t.port p).tc.vconnOn = false
      ∧ (t.port p).stage.disH = true
      ∧ (t.port p).timers[tPower] = Timer.armed' .safe0v 150000
      ∧ (t.port p).tc.st = (s.port p).tc.st))) = (true, true) := by decide +kernel

theorem test_safe0vReached :
    (let b := live
     let p : PortId := 0
     let s : State := (pdOn b .attachedSrc fun d => { d with recov := some .srcFall }).modPort 0 (withVbs 7999)
     (decide (s.fw p = true
      ∧ (s.port p).pd.recov = some .srcFall
      ∧ (s.port p).vSafe0 = true),
     sat (.safe0vReached p) s fun t => decide ((t.port 0).pd.recov = some .srcWait
      ∧ (t.port 0).timers[tPower] = Timer.armed' .srcRecover 200000))) = (true, true) := by decide +kernel

theorem test_safe0vTimeout :
    (let b := live
     let p : PortId := 0
     let s : State := (expd (pdOn b .attachedSrc fun d => { d with recov := some .srcFall }) .attachedSrc tPower .safe0v)
     (decide (s.due p tPower .safe0v = true
      ∧ (s.port p).pd.recov = some .srcFall),
     sat (.safe0vTimeout p) s fun t => decide (t.raisedAt (64 + p.val) = true
      ∧ (t.port p).pd.recov = none
      ∧ (t.port p).guard.gateOn = false))) = (true, true) := by decide +kernel

theorem test_srcRecover :
    (let b := live
     let p : PortId := 0
     let s : State := (expd (pdOn b .attachedSrc fun d => { d with recov := some .srcWait }) .attachedSrc tPower .srcRecover)
     (decide (s.due p tPower .srcRecover = true
      ∧ (s.port p).pd.recov = some .srcWait),
     sat (.srcRecoverExpiry p) s fun t => decide ((t.port p).pd.recov = some .srcRise
      ∧ (t.port p).stage.vTgt = 250
      ∧ (t.port p).stage.want = .forward
      ∧ ((s.port p).guard.gst ≠ .tripped → (s.port p).guard.gst ≠ .locked → (t.port p).guard.gateWant = true)
      ∧ (t.port p).timers[tPower] = Timer.armed' .safe5v 62500
      ∧ (t.port p).tc.st = (s.port p).tc.st))) = (true, true) := by decide +kernel

theorem test_vsafe5vReady :
    (let b := live
     let p : PortId := 0
     let s : State := (pdOn b .attachedSrc fun d => { d with recov := some .srcRise }).modPort 0 (steady 250)
     (decide (s.fw p = true
      ∧ (s.port p).pd.recov = some .srcRise
      ∧ (s.port p).atTarget = true
      ∧ (s.port p).powerGood = true
      ∧ 16 ≤ (s.port p).stage.runs.window),
     sat (.vsafe5vReady p) s fun t => decide ((t.port p).pd.recov = none
      ∧ (t.port p).pd.capsDue = true
      ∧ (t.port p).timers[tPower] = Timer.armed' .noResponse 1250000
      ∧ (t.port p).tc = (s.port p).tc))) = (true, true) := by decide +kernel

theorem test_sinkVbusReturn :
    (let b := live
     let p : PortId := 0
     let b0 : Beat := 5
     let s : State := (pdOn b .attachedSnk fun d => { d with recov := some (.snkRise 5) }).modPort 0 (withVbs 50000)
     (decide (s.fw p = true
      ∧ (s.port p).pd.recov = some (.snkRise b0)
      ∧ (s.port p).vbusPresent = true
      ∧ (s.port p).tc.st = .attachedSnk),
     sat (.sinkVbusReturn p) s fun t => decide ((t.port p).pd.recov = none
      ∧ ((s.port p).guard.gst ≠ .tripped → (s.port p).guard.gst ≠ .locked → (t.port p).guard.gateWant = true)
      ∧ (t.port p).stage.iTgt = rpSeenAmps (s.port p).tc.rpSeen
      ∧ (t.port p).timers[tCaps] = Timer.armed' .sinkWaitCap 116250
      ∧ (t.port p).tc = (s.port p).tc))) = (true, true) := by decide +kernel

theorem test_sinkRecoveryBound :
    (let b := live
     let p : PortId := 0
     let b0 : Beat := b.now - 481250
     let s : State := pdOn b .attachedSnk fun d => { d with recov := some (.snkFall (b.now - 481250)) }
     (decide (s.fw p = true
      ∧ ((s.port p).pd.recov = some (.snkFall b0) ∨ (s.port p).pd.recov = some (.snkRise b0))
      ∧ 481250 ≤ Beat.since s.now b0),
     sat (.sinkRecoveryBound p) s fun t => decide ((t.port p).tc.st = (if (s.port p).entrySide true then .unattachedSnk else .unattachedSrc)
      ∧ (t.port p).pd.recov = none
      ∧ (t.port p).guard.gateOn = false
      ∧ (t.port p).pd.contract = Contract.none))) = (true, true) := by decide +kernel

/-! ### The power stage and its guard -/
def forwardAt (v : Nat) (x : Port) : Port :=
  { x with cfg := { x.cfg with stage := PortCfg.reset.stage, guard := PortCfg.reset.guard, guardNext := none }
           stage := { x.stage with mode := .forward, want := .forward, vTgt := v, startAt := 0, clamped := false, region := .buck } }
def quietFaults (s : State) : State := { s with faults := .reset }
def powered (s : State) : State :=
  { s with board := { s.board with svcOn := true, resetLow := false, mainOn := true }, dev := live.dev
           feed := { s.feed with trunkSeen := true, trunkAge := 0, vTrunk := 24000 } }

/-! ### The power stage (chapter 11) -/

theorem test_loopUpdate :
    (let b := live
     let p : PortId := 0
     let vbs : Int := 50000
     let ibus : Int := 1000
     let aux : Int := 5000
     let s : State := powered b
     (decide (s.hubRuns = true
      ∧ (s.board.mainOn = true ∨ isService p = true)
      ∧ s.clusterReady (clusterOf p).val = true
      ∧ (s.port p).harn.step ≠ some .s1 ∧ (s.port p).harn.step ≠ some .s3),
     sat (.loopUpdate p vbs ibus aux) s fun t => decide ((t.port p).stage.conv.vbs = (s.port p).corrected vbs
      ∧ (t.port p).stage.conv.ibus = (s.port p).shuntMa ibus
      ∧ (t.port p).stage.conv.beat = s.now
      ∧ (t.port p).tc.st = (s.port p).tc.st
      ∧ ((s.port p).tc.rdCheck = none → (t.port p).tc = (s.port p).tc)
      ∧ (t.port p).harn = (s.port p).harn))) = (true, true) := by decide +kernel

theorem test_loopUpdate_calibrating :
    (let b := live
     let p : PortId := 0
     let vbs : Int := 50000
     let ibus : Int := 1000
     let aux : Int := 5000
     let s : State := (powered b).modPort 0 fun x => { x with harn := { x.harn with step := some .s3 } }
     (decide (s.hubRuns = true
      ∧ (s.board.mainOn = true ∨ isService p = true)
      ∧ s.clusterReady (clusterOf p).val = true
      ∧ ((s.port p).harn.step = some .s1 ∨ (s.port p).harn.step = some .s3)),
     sat (.loopUpdate p vbs ibus aux) s fun t => decide ((t.port p).stage.conv.vbs = (s.port p).stage.conv.vbs
      ∧ (t.port p).stage.conv.ibus = (s.port p).stage.conv.ibus
      ∧ (t.port p).harn = (s.port p).harn
      ∧ (t.port p).tc.st = (s.port p).tc.st
      ∧ ((s.port p).tc.rdCheck = none → (t.port p).tc = (s.port p).tc)))) = (true, true) := by decide +kernel

theorem test_loopUpdate_forward :
    (let b := live
     let p : PortId := 0
     let vbs : Int := 50000
     let ibus : Int := 1000
     let aux : Int := 5000
     let s : State := (powered b).modPort 0 (forwardAt 500)
     (decide (s.hubRuns = true
      ∧ s.board.mainOn = true
      ∧ s.clusterReady (clusterOf p).val = true
      ∧ s.feed.trunkAge < 4
      ∧ (s.port p).stage.mode = .forward
      ∧ (s.port p).stage.want = .forward
      ∧ (s.port p).stage.startAt.later (s.now + 1) = false),
     sat (.loopUpdate p vbs ibus aux) s fun t => decide ((t.port p).stage.vRef = slewRef (s.port p).slewRate ((s.port p).stage.vTgt * 200) (s.port p).stage.vRef
      ∧ (t.port p).stage.dacNext ≤ (s.port p).ilMax
      ∧ (t.port p).stage.mode = .forward
      ∧ (t.port p).stage.slope ≤ 4096))) = (true, true) := by decide +kernel

theorem test_loopUpdate_stop :
    (let b := live
     let p : PortId := 0
     let vbs : Int := 50000
     let ibus : Int := 1000
     let aux : Int := 5000
     let s : State := ((powered b).modPort 0 (forwardAt 500)).modPort 0 fun x => { x with stage := { x.stage with want := .idle } }
     (decide (s.hubRuns = true
      ∧ s.board.mainOn = true
      ∧ s.clusterReady (clusterOf p).val = true
      ∧ (s.port p).stage.mode = .forward
      ∧ (s.port p).stage.want ≠ .forward),
     sat (.loopUpdate p vbs ibus aux) s fun t => decide ((t.port p).stage.mode = .idle
      ∧ (t.port p).stage.dacNext = 0
      ∧ (t.port p).stage.e = Vector.replicate 3 0
      ∧ (t.port p).stage.slope = 0
      ∧ (t.port p).stage.cmd = (s.port p).stage.cmd))) = (true, true) := by decide +kernel

theorem test_loopUpdate_dark :
    (let b := live
     let p : PortId := 0
     let vbs : Int := 50000
     let ibus : Int := 1000
     let aux : Int := 5000
     let s : State := { b with board := { b.board with svcOn := false } }
     (decide (s.hubRuns = false ∨ (s.board.mainOn = false ∧ isService p = false) ∨ (s.clusterReady (clusterOf p).val = false ∧ (s.cluster (clusterOf p)).trimming = true)),
     sat (.loopUpdate p vbs ibus aux) s fun t => decide ((t.port 0).stage = (s.port 0).stage))) = (true, true) := by decide +kernel

theorem test_loopUpdate_boot :
    (let b := live
     let p : PortId := 0
     let vbs : Int := 50000
     let ibus : Int := 1000
     let aux : Int := 5000
     let s : State := { powered b with dev := { live.dev with ready0 := 0 } } |>.modCluster 0 fun k => { k with trimming := false }
     (decide (s.hubRuns = true
      ∧ (s.board.mainOn = true ∨ isService p = true)
      ∧ s.clusterReady (clusterOf p).val = false
      ∧ (s.cluster (clusterOf p)).trimming = false
      ∧ (s.port p).harn.step = none),
     sat (.loopUpdate p vbs ibus aux) s fun t => decide ((t.port p).stage.conv.vbs = (s.port p).corrected vbs
      ∧ (t.port p).stage.conv.ibus = (s.port p).shuntMa ibus
      ∧ (t.port p).stage.mode = (s.port p).stage.mode
      ∧ (t.port p).tc = (s.port p).tc))) = (true, true) := by decide +kernel

theorem test_peakCurrentTrip :
    (let b := live
     let p : PortId := 0
     let mv : Int := 2500
     let ns : Nat := 200
     let q : Period := ⟨none, none⟩
     let qs : List Period := []
     let s : State := (b.modPort 0 fun x => { forwardAt 500 x with stage := { (forwardAt 500 x).stage with cur := ⟨.forward, .buck, 1000, 0⟩, nowP := [⟨none, none⟩] } })
     (decide ((s.port p).stage.cur.mode = .forward
      ∧ (s.port p).stage.cur.region = .buck
      ∧ (s.port p).stage.nowP = q :: qs
      ∧ q.trip = none
      ∧ q.low = none
      ∧ beforeBeat (s.port p).stage.fsw p s.now ns = false
      ∧ (s.port p).leb ≤ ns
      ∧ ns ≤ periodNs (s.port p).stage.fsw * 90 / 100
      ∧ 2500 ≤ mv),
     sat (.peakCurrentTrip p mv ns) s fun t => decide ((t.port 0).stage.nowP = [⟨some 200, none⟩]
      ∧ (Period.pwm 4000 ⟨.forward, .buck, 1000, 0⟩ ⟨some 200, none⟩ 199).1 = true
      ∧ (Period.pwm 4000 ⟨.forward, .buck, 1000, 0⟩ ⟨some 200, none⟩ 200).1 = false))) = (true, true) := by decide +kernel

theorem test_peakCurrentTrip_negative :
    (let b := live
     let p : PortId := 0
     let mv : Int := 0
     let ns : Nat := 3000
     let q : Period := ⟨some 200, none⟩
     let qs : List Period := []
     let s : State := (b.modPort 0 fun x => { forwardAt 500 x with stage := { (forwardAt 500 x).stage with cur := ⟨.forward, .buck, 1000, 0⟩, nowP := [⟨some 200, none⟩] } })
     (decide ((s.port p).stage.cur.mode ≠ .idle
      ∧ (s.port p).stage.nowP = q :: qs
      ∧ q.trip ≠ none
      ∧ q.low = none
      ∧ beforeBeat (s.port p).stage.fsw p s.now ns = false
      ∧ (s.port p).tooNegative (s.port p).stage.cur mv = true),
     sat (.peakCurrentTrip p mv ns) s fun t => decide ((t.port 0).stage.nowP = [⟨some 200, some 3000⟩]
      ∧ Period.pwm 4000 ⟨.forward, .buck, 1000, 0⟩ ⟨some 200, some 3000⟩ 3000 = (false, false)))) = (true, true) := by decide +kernel

theorem test_peakCurrentTrip_none :
    (let b := live
     let p : PortId := 0
     let mv : Int := 2500
     let ns : Nat := 200
     let s : State := b.modPort 0 fun x => { forwardAt 500 x with stage := { (forwardAt 500 x).stage with cur := ⟨.idle, .buck, 0, 0⟩, last := ⟨.idle, .buck, 0, 0⟩ } }
     (decide ((s.port p).stage.cur.mode = .idle
      ∧ (s.port p).stage.last.mode = .idle),
     sat (.peakCurrentTrip p mv ns) s fun t => decide ((t.port p).stage = (s.port p).stage))) = (true, true) := by decide +kernel

theorem test_stageStart :
    (let b := live
     let p : PortId := 0
     let s : State := ((powered (quietFaults b)).modPort 0 idled).modPort 0 fun x => { x with guard := { x.guard with gateWant := false }, stage := { x.stage with want := .forward, vTgt := 250, dir := .idle, uvHold := false, conv := { x.stage.conv with vbl := 0 }, runs := { x.stage.runs with ilsBad := 0 } } }
     (decide (s.startReady p = true
      ∧ (s.port p).wants s.feedOn = .forward),
     sat (.stageStart p) s fun t => decide ((t.port p).stage.mode = .forward
      ∧ (t.port p).stage.region = startRegion (s.port p).vMeas s.feed.vTrunk
      ∧ (t.port p).stage.vRef = min (10 * (s.port p).vMeas.toNat) (200 * (s.port p).stage.vTgt)
      ∧ (t.port p).stage.disH = false
      ∧ (t.port p).stage.disS = false
      ∧ (t.port p).stage.yI = 0
      ∧ (t.cluster (clusterOf p)).senLow = false))) = (true, true) := by decide +kernel

theorem test_stageStart_waits :
    (let b := live
     let p : PortId := 0
     let s : State := b
     (decide (s.startReady p = false),
     sat (.stageStart p) s fun t => decide ((t.port 0).stage.mode = (s.port 0).stage.mode))) = (true, true) := by decide +kernel

theorem test_harnessDischargeEnd :
    (let b := live
     let p : PortId := 0
     let s : State := b.modPort 0 fun x => { x with stage := { x.stage with disH := true, runs := { x.stage.runs with disLow := 16 } } }
     (decide ((s.port p).stage.disH = true
      ∧ 16 ≤ (s.port p).stage.runs.disLow),
     sat (.harnessDischargeEnd p) s fun t => decide ((t.port p).stage = { (s.port p).stage with disH := false }
      ∧ (t.port p).tc = (s.port p).tc))) = (true, true) := by decide +kernel

theorem test_dischargeRunEnd :
    (let b := live
     let p : PortId := 0
     let s : State := b.modPort 0 fun x => { x with stage := { x.stage with disRun := true, conv := { x.stage.conv with vbl := 599 } } }
     (decide ((s.port p).stage.disRun = true
      ∧ (s.port p).stage.conv.vbl < 600),
     sat (.dischargeRunEnd p) s fun t => decide ((t.port p).stage = { (s.port p).stage with disS := false, disRun := false, dacNext := 0, slope := 0, slopeSat := false }
      ∧ (t.port p).tc = (s.port p).tc))) = (true, true) := by decide +kernel

theorem test_senIdleTimeout :
    (let b := live
     let c : ClusterId := 0
     let s : State := { b with board := { b.board with svcOn := true, resetLow := false }, ports := b.ports.map fun x => { idled x with stage := { (idled x).stage with runs := { x.stage.runs with idle := 250 } } } }
     (decide (s.senDriven c = true
      ∧ (∀ i : Fin 12, (s.port (portOf c i)).definedIdle = true ∧ 250 ≤ (s.port (portOf c i)).stage.runs.idle)),
     sat (.senIdleTimeout c) s fun t => decide ((t.cluster 0).senLow = true))) = (true, true) := by decide +kernel

theorem test_trunkValue :
    (let b := live
     let mv : Nat := 24000
     let s : State := { b with board := { b.board with svcOn := true, resetLow := false }, feed := { b.feed with on := true, linkUp := true } }
     (decide (s.hubRuns = true
      ∧ s.feed.on = true
      ∧ s.feed.linkUp = true),
     sat (.trunkValueDelivery mv) s fun t => decide (t.feed.vTrunk = 24000
      ∧ t.feed.trunkAge = 0))) = (true, true) := by decide +kernel

theorem test_dischargeFail :
    (let b := live
     let p : PortId := 0
     let s : State := (quietFaults b).modPort 0 fun x => { x with stage := { x.stage with disH := true, disBeat := b.now - 12500 } }
     (decide ((s.port p).stage.disH = true ∧ 12500 ≤ Beat.since s.now (s.port p).stage.disBeat ∨ (s.port p).stage.disS = true ∧ 12500 ≤ Beat.since s.now (s.port p).stage.disBeatS),
     sat (.dischargeFail p) s fun t => decide (t.raisedAt (64 + p.val) = true
      ∧ (t.port p).guard.gateOn = false))) = (true, true) := by decide +kernel

theorem test_trunkStale :
    (let b := live
     let s : State := { (quietFaults b).modPort 0 (forwardAt 500) with feed := { b.feed with trunkAge := 25 } }
     (decide (25 ≤ s.feed.trunkAge),
     sat (.trunkStale) s fun t => decide (∀ p : PortId, (s.port p).stage.mode ≠ .idle → (t.port p).stage.mode = .idle ∧ (t.port p).guard.gateOn = false ∧ t.raisedAt (64 + p.val) = true))) = (true, true) := by decide +kernel

theorem test_stageUv :
    (let b := live
     let p : PortId := 0
     let s : State := ((quietFaults b).modPort 0 (forwardAt 500)).modPort 0 fun x => { x with stage := { x.stage with runs := { x.stage.runs with uv := 4 } } }
     (decide ((s.port p).stage.mode ≠ .idle
      ∧ 4 ≤ (s.port p).stage.runs.uv),
     sat (.stageUv p) s fun t => decide (t.raisedAt (64 + p.val) = true
      ∧ (t.port p).stage.mode = .idle
      ∧ (t.port p).guard.gateOn = false))) = (true, true) := by decide +kernel

theorem test_stageUvRestart :
    (let b := live
     let p : PortId := 0
     let s : State := b.modPort 0 fun x => { x with stage := { x.stage with uvHold := true, runs := { x.stage.runs with uvOk := 250 } } }
     (decide ((s.port p).stage.uvHold = true
      ∧ 250 ≤ (s.port p).stage.runs.uvOk),
     sat (.stageUvRestart p) s fun t => decide ((t.port 0).stage.uvHold = false))) = (true, true) := by decide +kernel

theorem test_ilsFault :
    (let b := live
     let p : PortId := 0
     let s : State := ((quietFaults b).modPort 0 (forwardAt 500)).modPort 0 fun x => { x with stage := { x.stage with runs := { x.stage.runs with ilsBad := 2 } } }
     (decide ((s.port p).stage.runs.ilsBad = 2),
     sat (.ilsFault p) s fun t => decide (t.raisedAt (64 + p.val) = true
      ∧ (t.port p).stage.mode = .idle
      ∧ ((s.port p).stage.mode ≠ .idle → (t.port p).guard.gateOn = false)))) = (true, true) := by decide +kernel

theorem test_stageWarnings :
    (let b := live
     let p : PortId := 0
     let c : Instr := .loopSat 0
     let s : State := (quietFaults b).modPort 0 fun x => { x with stage := { x.stage with runs := { x.stage.runs with upper := 250, sat := 2500 } } }
     (decide ((c = .stageHeadroom p ∧ (s.port p).stage.runs.upper = 250) ∨ (c = .loopSat p ∧ (s.port p).stage.runs.sat = 2500)),
     sat (c) s fun t => decide (t.raisedAt (64 + p.val) = true
      ∧ ((t.port p).tc.st = .disabled ∨ (t.port p).tc.st = .errorRecovery ∨ (t.port p).stage.mode = (s.port p).stage.mode ∨ (t.port p).stage.mode = .idle)))) = (true, true) := by decide +kernel

/-! ### The path guards (chapter 12) -/

theorem test_windowMonitor :
    (let b := live
     let p : PortId := 0
     let xs : List MonSample := [⟨1, 9000⟩, ⟨1, 9000⟩, ⟨1, 9000⟩]
     let s : State := powered b
     (decide (s.portPowered p = true
      ∧ (s.port p).guard.vbs.sawHigh (s.port p).vbsWindow (s.port p).monBlank xs = false),
     sat (.windowMonitorDecision p .vbs xs) s fun t => decide ((t.port 0).guard.vbs = (s.port 0).guard.vbs.run (s.port 0).vbsWindow (s.port 0).monBlank xs))) = (true, true) := by decide +kernel

theorem test_windowMonitor_high :
    (let b := live
     let p : PortId := 0
     let m : PortMon := .vbs
     let xs : List MonSample := [⟨9000, 9000⟩, ⟨9000, 9000⟩, ⟨9000, 9000⟩]
     let s : State := (powered (quietFaults b)).modPort 0 fun x => { x with guard := { x.guard with vbs := ⟨true, .none, [], false, false, false⟩, vHi := 50000, vLo := 0 } }
     (decide (s.portPowered p = true
      ∧ ((m = .vbs ∧ (s.port p).guard.vbs.sawHigh (s.port p).vbsWindow (s.port p).monBlank xs = true) ∨ (m = .vbl ∧ (s.port p).guard.vbl.sawHigh (s.port p).vblWindow (s.port p).monBlank xs = true))),
     sat (.windowMonitorDecision p m xs) s fun t => decide (t.raisedAt (64 + p.val) = true
      ∧ (t.port p).guard.gateOn = false
      ∧ (t.port p).stage.mode = .idle))) = (true, true) := by decide +kernel

theorem test_gateMonitor :
    (let b := live
     let p : PortId := 0
     let xs : List MonSample := [⟨7000, 9000⟩, ⟨7000, 9000⟩, ⟨7000, 9000⟩]
     let c : Instr := .windowMonitorDecision 0 .gate [⟨7000, 9000⟩, ⟨7000, 9000⟩, ⟨7000, 9000⟩]
     let s : State := (powered b).modPort 0 fun x => { x with guard := { x.guard with gateOn := true, fullyOn := false, fullMon := [] } }
     (decide (s.portPowered p = true
      ∧ (c = .windowMonitorDecision p .gate xs ∨ c = .gateFullyOn (.port p) xs ∨ c = .gateBelowOff (.port p) xs)
      ∧ (s.port p).guard.gateOn = true
      ∧ (s.port p).guard.fullyOn = false
      ∧ (s.port p).guard.fullMon = []
      ∧ xs = List.replicate 3 ⟨7000, 9000⟩),
     sat (c) s fun t => decide ((t.port p).guard.fullyOn = true
      ∧ (t.port p).guard.beenFull = true
      ∧ (t.port p).guard.gateBlanked = false
      ∧ (t.port p).stage = (s.port p).stage))) = (true, true) := by decide +kernel

theorem test_monBlanked :
    (let b := live
     let p : PortId := 0
     let m : PortMon := .vbl
     let s : State := (quietFaults b).modPort 0 fun x => { x with guard := { x.guard with blankRun := #v[4, 4, 4] } }
     (decide ((s.port p).guard.blankRun[monDetail m] = 4),
     sat (.monBlanked (.port p m)) s fun t => decide (t.raisedAt (64 + p.val) = true))) = (true, true) := by decide +kernel

theorem test_fetGate :
    (let b := live
     let p : PortId := 0
     let s : State := (quietFaults b).modPort 0 fun x => { x with guard := { x.guard with gateOn := true, belowOff := true, beenFull := true, gst := .on } }
     (decide ((s.port p).guard.gateOn = true
      ∧ (s.port p).guard.belowOff = true
      ∧ (s.port p).guard.beenFull = true
      ∧ (s.port p).guard.gst ≠ .limit),
     sat (.fetGate p) s fun t => decide (t.raisedAt (64 + p.val) = true
      ∧ (t.port p).tc.st = .lockout
      ∧ (t.port p).guard.gateOn = false
      ∧ (t.port p).stage.mode = .idle))) = (true, true) := by decide +kernel

theorem test_currentLimit :
    (let b := live
     let p : PortId := 0
     let ma : Int := -3000
     let s : State := b.modPort 0 fun x => { x with guard := { x.guard with gateOn := true, gst := .on, iLim := 300, timer := none } }
     (decide ((s.port p).guard.gateOn = true
      ∧ ((s.port p).guard.gst = .ramp ∨ (s.port p).guard.gst = .on ∨ (s.port p).guard.gst = .limit)
      ∧ 10 * (s.port p).guard.iLim ≤ ma.natAbs),
     sat (.currentLimitEnter p ma) s fun t => decide ((t.port p).guard.gst = .limit
      ∧ (t.port p).guard.timer = some ((s.port p).guard.timer.getD 0)
      ∧ (t.port p).guard.fullyOn = false
      ∧ (t.port p).guard.gateOn = true
      ∧ (t.port p).tc = (s.port p).tc))) = (true, true) := by decide +kernel

theorem test_ilimTimeout :
    (let b := live
     let p : PortId := 0
     let n : Nat := 1000000000
     let s : State := (quietFaults b).modPort 0 fun x => { x with guard := { x.guard with gateOn := true, gst := .limit, timer := some 1000000000 } }
     (decide ((s.port p).guard.timer = some n
      ∧ (s.port p).faultBound s.feed.brownout ≤ n),
     sat (.ilimTimeout p) s fun t => decide (t.raisedAt (64 + p.val) = true
      ∧ (t.port p).guard.gateOn = false
      ∧ (t.port p).stage.mode = .idle
      ∧ (t.port p).guard.timer = none))) = (true, true) := by decide +kernel

theorem test_faultTimerClear :
    (let b := live
     let p : PortId := 0
     let n : Nat := 7
     let s : State := b.modPort 0 fun x => { x with guard := { x.guard with timer := some 7 }, stage := { x.stage with runs := { x.stage.runs with limitFree := 16 } } }
     (decide ((s.port p).guard.timer = some n
      ∧ 16 ≤ (s.port p).stage.runs.limitFree),
     sat (.faultTimerClear p) s fun t => decide ((t.port 0).guard.timer = none))) = (true, true) := by decide +kernel

theorem test_fastTrip :
    (let b := live
     let p : PortId := 0
     let ma : Int := 100000
     let s : State := (quietFaults b).modPort 0 fun x => { x with guard := { x.guard with gateOn := true, gst := .on, iLim := 300 }, cfg := .reset }
     (decide ((s.port p).guard.gateOn = true
      ∧ 25 * fld (s.port p).cfg.guard[0] 24 8 * (10 * (s.port p).guard.iLim) < 100 * ma.natAbs),
     sat (.fastTrip p ma) s fun t => decide (t.raisedAt (64 + p.val) = true
      ∧ (t.port p).guard.gateOn = false
      ∧ (t.port p).stage.mode = .idle))) = (true, true) := by decide +kernel

theorem test_fastTrip_below :
    (let b := live
     let p : PortId := 0
     let ma : Int := 1
     let s : State := b.modPort 0 fun x => { x with guard := { x.guard with gateOn := true, iLim := 300 }, cfg := .reset }
     (decide (100 * ma.natAbs ≤ 25 * fld (s.port p).cfg.guard[0] 24 8 * (10 * (s.port p).guard.iLim)),
     sat (.fastTrip p ma) s fun t => decide ((t.port 0).guard = (s.port 0).guard))) = (true, true) := by decide +kernel

theorem test_tripCountReset :
    (let b := live
     let p : PortId := 0
     let s : State := b.modPort 0 fun x => { x with guard := { x.guard with trips := 3 }, stage := { x.stage with runs := { x.stage.runs with good := 15000000 } } }
     (decide (15000000 ≤ (s.port p).stage.runs.good),
     sat (.tripCountReset p) s fun t => decide ((t.port 0).guard.trips = 0))) = (true, true) := by decide +kernel

theorem test_thermalModel :
    (let b := live
     let p : PortId := 0
     let s : State := powered { b with board := { b.board with svcOn := true, resetLow := false } } |>.modPort 0 fun x => { x with cfg := { PortCfg.reset with enable := 1, guard := PortCfg.reset.guard.set 3 0 }, guard := { x.guard with gst := .tripped, tsnHot := 0, hotDue := false } }
     (decide (s.portPowered p = true
      ∧ (s.port p).enabled = true
      ∧ (((s.port p).thermalStep).tooHot = false ∨ (s.port p).thermalStep.tripIdle = true)),
     sat (.thermalModelUpdate p) s fun t => decide ((t.port 0).guard.gst = .tripped))) = (true, true) := by decide +kernel

theorem test_thermalModel_hot :
    (let b := live
     let p : PortId := 0
     let s : State := powered { b with board := { b.board with svcOn := true, resetLow := false } } |>.modPort 0 fun x => { x with cfg := { PortCfg.reset with enable := 1, guard := PortCfg.reset.guard.set 3 0 }, tc := { x.tc with st := .attachedSrc }, guard := { x.guard with gst := .on, tsnHot := 2 } }
     (decide (s.portPowered p = true
      ∧ (s.port p).enabled = true
      ∧ ((s.port p).thermalStep).tooHot = true
      ∧ (s.port p).thermalStep.tripIdle = false),
     sat (.thermalModelUpdate p) s fun t => decide ((t.port p).guard.hotDue = true
      ∧ (t.port p).guard.tEst = ((s.port p).thermalStep).guard.tEst
      ∧ (t.port p).guard.gst = (s.port p).guard.gst
      ∧ (t.port p).stage = (s.port p).stage))) = (true, true) := by decide +kernel

theorem test_tsnFault :
    (let b := live
     let p : PortId := 0
     let s : State := (quietFaults b).modPort 0 fun x => { x with guard := { x.guard with tsnBad := 2 } }
     (decide ((s.port p).guard.tsnBad = 2),
     sat (.tsnFault p) s fun t => decide (t.raisedAt (64 + p.val) = true
      ∧ ((s.port p).tMode = 0 → (t.port p).guard.gateOn = false)))) = (true, true) := by decide +kernel

/-! ### The feed guard die -/
def feedIn (t : FeedSt) : FeedState :=
  { FeedState.reset with st := t, mon := { Monitor.reset with good := true }, gateOn := t.driven, full := t == .on || t == .qual, belowOff := !t.driven, temp := 250, vin := 24000 }
/-- The die runs with its link up, feeds A and B in these states. -/
def withFeeds (b : State) (x y : FeedSt) : State :=
  b.modFeed fun d => { d with on := true, linkUp := true, change := none, changeBlank := false, noFeed := false, inForce := strapSet (Vector.replicate 4 0), a := feedIn x, b := feedIn y }
def goodSamples (mv : Int) : List MonSample := List.replicate 5 ⟨mv, 1000000⟩

/-! ### The feed guard die (chapter 13) -/

theorem test_feedVinWindow_good :
    (let b := live
     let f : Feed := .a
     let xs : List MonSample := goodSamples 24000
     let s : State := withFeeds b .off .off
     let s : State := s |>.modFeed fun d => { d with a := { d.a with mon := .reset } }
     (decide (s.feed.on = true
      ∧ (s.feed.feed f).st = .off
      ∧ (s.feed.feed f).mon.good = false
      ∧ ((s.feed.feed f).mon.run (s.feed.vinWindow f) s.feed.chgBlank xs).good = true),
     sat (.feedVinWindow f xs) s fun t => decide ((t.feed.feed f).st = .delay
      ∧ (t.feed.feed f).mon.good = true
      ∧ (t.feed.feed f).gateOn = (s.feed.feed f).gateOn))) = (true, true) := by decide +kernel

theorem test_feedVinWindow_bad :
    (let b := live
     let f : Feed := .a
     let xs : List MonSample := goodSamples 5000
     let s : State := withFeeds b .on .standby
     (decide (s.feed.on = true
      ∧ (s.feed.feed f).mon.good = true
      ∧ ((s.feed.feed f).mon.run (s.feed.vinWindow f) s.feed.chgBlank xs).good = false
      ∧ (s.feed.feed f).st ≠ .latched
      ∧ (s.feed.feed f).st ≠ .disabled),
     sat (.feedVinWindow f xs) s fun t => decide ((t.feed.feed f).st = .off
      ∧ (t.feed.feed f).gateOn = false
      ∧ (t.feed.feed f).timer = false
      ∧ (t.feed.feed f).held = false
      ∧ (t.feed.feed f).mon.good = false
      ∧ (t.feed.feed f).trips = (s.feed.feed f).trips
      ∧ (s.feed.selected = some f → s.feed.linkUp = true → s.hubRuns = true → t.raisedAt (feedSrc f 0) = true)))) = (true, true) := by decide +kernel

theorem test_feedVinWindow_latched :
    (let b := live
     let f : Feed := .a
     let xs : List MonSample := goodSamples 5000
     let s : State := withFeeds b .latched .standby
     (decide (s.feed.on = true
      ∧ ((s.feed.feed f).st = .latched ∨ (s.feed.feed f).st = .disabled)),
     sat (.feedVinWindow f xs) s fun t => decide ((t.feed.feed f).st = (s.feed.feed f).st
      ∧ (t.feed.feed f).mon = (s.feed.feed f).mon.run (s.feed.vinWindow f) s.feed.chgBlank xs))) = (true, true) := by decide +kernel

theorem test_insertionDelayExpiry :
    (let b := live
     let f : Feed := .a
     let us : Nat := 100000
     let s : State := withFeeds b .standby .off
     let s : State := s |>.modFeed fun d => { d with a := { d.a with st := .delay } }
     (decide (s.feed.on = true
      ∧ (s.feed.feed f).st = .delay
      ∧ (s.feed.feed f).mon.good = true
      ∧ s.feed.insDelay f ≤ us
      ∧ s.feed.change = none
      ∧ (s.feed.feed f).held = false
      ∧ (f = .a ∨ s.feed.a.st.standing = false)
      ∧ (s.feed.feed (otherFeed f)).st.driven = false
      ∧ (s.feed.feed (otherFeed f)).gateOn = false
      ∧ (s.feed.feed (otherFeed f)).belowOff = true),
     sat (.insertionDelayExpiry f us) s fun t => decide ((t.feed.feed f).st = .ramp
      ∧ (t.feed.feed f).gateOn = true
      ∧ t.feed.selected = some f
      ∧ t.feed.feed (otherFeed f) = s.feed.feed (otherFeed f)))) = (true, true) := by decide +kernel

theorem test_insertionDelayExpiry_takesOver :
    (let b := live
     let us : Nat := 100000
     let s : State := withFeeds b .delay .on
     (decide (s.feed.on = true
      ∧ s.feed.a.st = .delay
      ∧ s.feed.a.mon.good = true
      ∧ s.feed.insDelay .a ≤ us
      ∧ s.feed.change = none
      ∧ s.feed.a.held = false
      ∧ s.feed.b.st.driven = true
      ∧ s.feed.linkUp = true
      ∧ s.hubRuns = true),
     sat (.insertionDelayExpiry .a us) s fun t => decide (t.feed.a.st = .standby
      ∧ t.feed.b.st = .standby
      ∧ t.feed.b.gateOn = false
      ∧ t.feed.change = some ⟨.b, false, false⟩
      ∧ t.feed.changeBlank = true
      ∧ t.feed.fpg = false
      ∧ t.feed.lastChange = s.now
      ∧ t.raisedAt 176 = true))) = (true, true) := by decide +kernel

theorem test_insertionDelayExpiry_early :
    (let b := live
     let f : Feed := .a
     let us : Nat := 1
     let s : State := withFeeds b .delay .on
     (decide (us < s.feed.insDelay f),
     sat (.insertionDelayExpiry f us) s fun t => decide (t.feed.a = s.feed.a))) = (true, true) := by decide +kernel

theorem test_bbmExpiry :
    (let b := live
     let us : Nat := 20
     let c : Changeover := ⟨.a, true, false⟩
     let f : Feed := .b
     let s : State := withFeeds b .off .standby
     let s : State := s |>.modFeed fun d => { d with change := some ⟨.a, true, false⟩ }
     (decide (s.feed.on = true
      ∧ s.feed.change = some c
      ∧ c.confirmed = true
      ∧ fld s.feed.inForce.bbm 0 10 ≤ us
      ∧ s.feed.pick = some f
      ∧ (s.feed.feed f).st = .standby
      ∧ (s.feed.feed (otherFeed f)).st.driven = false
      ∧ (s.feed.feed (otherFeed f)).gateOn = false
      ∧ (s.feed.feed (otherFeed f)).belowOff = true),
     sat (.bbmExpiry us) s fun t => decide (t.feed.change = none
      ∧ (t.feed.feed f).st = .ramp
      ∧ (t.feed.feed f).gateOn = true
      ∧ (t.feed.feed f).full = false
      ∧ t.feed.selected = some f
      ∧ t.feed.feed (otherFeed f) = s.feed.feed (otherFeed f)))) = (true, true) := by decide +kernel

theorem test_bbmExpiry_waits :
    (let b := live
     let us : Nat := 20
     let c : Changeover := ⟨.a, false, false⟩
     let s : State := withFeeds b .off .standby
     let s : State := s |>.modFeed fun d => { d with change := some ⟨.a, false, false⟩ }
     (decide (s.feed.on = true
      ∧ s.feed.change = some c
      ∧ c.confirmed = false
      ∧ fld s.feed.inForce.bbm 0 10 ≤ us),
     sat (.bbmExpiry us) s fun t => decide (t.feed.change = some { c with bbm := true }
      ∧ t.feed.a = s.feed.a
      ∧ t.feed.b = s.feed.b))) = (true, true) := by decide +kernel

theorem test_changeoverGateTimeout :
    (let b := live
     let us : Nat := 1000
     let c : Changeover := ⟨.a, false, true⟩
     let s : State := withFeeds b .off .standby
     let s : State := s |>.modFeed fun d => { d with change := some ⟨.a, false, true⟩, a := { d.a with belowOff := false } }
     (decide (s.feed.on = true
      ∧ s.feed.change = some c
      ∧ c.confirmed = false
      ∧ 1000 ≤ us
      ∧ (s.feed.feed c.out).st.driven = false
      ∧ (s.feed.feed c.out).belowOff = false),
     sat (.changeoverGateTimeout us) s fun t => decide ((t.feed.feed c.out).st = .latched
      ∧ (t.feed.feed c.out).gateOn = false
      ∧ (t.feed.feed c.out).stuck = true
      ∧ (t.feed.feed c.out).trips = satIncr (s.feed.feed c.out).trips
      ∧ t.feed.change = none
      ∧ t.feed.feed (otherFeed c.out) = s.feed.feed (otherFeed c.out)
      ∧ (s.feed.linkUp = true → s.hubRuns = true → t.raisedAt (feedSrc c.out 4) = true)))) = (true, true) := by decide +kernel

theorem test_feedRampTimeout :
    (let b := live
     let f : Feed := .a
     let us : Nat := 100000
     let s : State := withFeeds b .ramp .off
     (decide (s.feed.on = true
      ∧ (s.feed.feed f).st = .ramp
      ∧ (s.feed.feed f).full = false
      ∧ 2 * ((s.feed.feed f).vin.toNat * 20 / max 1 (s.feed.dvdt f)) + 10000 ≤ us),
     sat (.feedRampTimeout f us) s fun t => decide ((t.feed.feed f).st = .latched
      ∧ (t.feed.feed f).gateOn = false
      ∧ (t.feed.feed f).trips = satIncr (s.feed.feed f).trips
      ∧ (s.feed.linkUp = true → s.hubRuns = true → t.raisedAt (feedSrc f 4) = true)))) = (true, true) := by decide +kernel

theorem test_pgQualExpiry :
    (let b := live
     let f : Feed := .a
     let us : Nat := 10000
     let s : State := withFeeds b .qual .off
     (decide (s.feed.on = true
      ∧ (s.feed.feed f).st = .qual
      ∧ (s.feed.feed f).timer = false
      ∧ 1000 * fld s.feed.inForce.pgQual 0 8 ≤ us
      ∧ s.feed.pick = some f
      ∧ (s.feed.feed (otherFeed f)).st.driven = false),
     sat (.pgQualExpiry f us) s fun t => decide ((t.feed.feed f).st = .on
      ∧ t.feed.fpg = true
      ∧ t.feed.selected = some f
      ∧ (s.feed.linkUp = true → s.hubRuns = true → s.board.testen = false → s.coreReady 8 = true → t.ready (match f with | .a => 20 | .b => 21) = true)
      ∧ t.feed.feed (otherFeed f) = s.feed.feed (otherFeed f)))) = (true, true) := by decide +kernel

theorem test_feedLimitStart :
    (let b := live
     let f : Feed := .a
     let uv : Int := 75000
     let s : State := withFeeds b .on .standby
     (decide (s.feed.on = true
      ∧ s.feed.pick = some f
      ∧ (s.feed.feed f).st.driven = true
      ∧ (s.feed.feed (otherFeed f)).st.driven = false
      ∧ 1000 * (s.feed.ilimMv f : Int) ≤ uv),
     sat (.feedLimitStart f uv) s fun t => decide (t.feed.feed f = { (s.feed.feed f) with limiting := true, timer := true, full := false, fullMon := [], shunt := uv }
      ∧ t.feed.fpg = false
      ∧ (s.feed.linkUp = true → s.hubRuns = true → s.board.testen = false → s.coreReady 8 = true → t.ready (match f with | .a => 20 | .b => 21) = false)
      ∧ t.feed.feed (otherFeed f) = s.feed.feed (otherFeed f)))) = (true, true) := by decide +kernel

theorem test_feedFaultTimerExpiry :
    (let b := live
     let f : Feed := .a
     let us : Nat := 10000
     let s : State := withFeeds b .on .standby
     let s : State := s |>.modFeed fun d => { d with a := { d.a with timer := true } }
     (decide (s.feed.on = true
      ∧ (s.feed.feed f).timer = true
      ∧ s.feed.faultT f ≤ us),
     sat (.feedFaultTimerExpiry f us) s fun t => decide ((t.feed.feed f).st = (if s.feed.latchOff f then .latched else .cool)
      ∧ (t.feed.feed f).gateOn = false
      ∧ (t.feed.feed f).timer = false
      ∧ (t.feed.feed f).limiting = false
      ∧ (t.feed.feed f).trips = satIncr (s.feed.feed f).trips
      ∧ (s.feed.linkUp = true → s.hubRuns = true → t.raisedAt (feedSrc f 1) = true)))) = (true, true) := by decide +kernel

theorem test_feedFaultTimerClear :
    (let b := live
     let f : Feed := .a
     let us : Nat := 64
     let s : State := withFeeds b .on .standby
     let s : State := s |>.modFeed fun d => { d with a := { d.a with timer := true } }
     (decide (s.feed.on = true
      ∧ (s.feed.feed f).timer = true
      ∧ (s.feed.feed f).limiting = false
      ∧ 64 ≤ us
      ∧ s.feed.pick = some f
      ∧ (s.feed.feed f).st.driven = true
      ∧ (s.feed.feed (otherFeed f)).st.driven = false),
     sat (.feedFaultTimerClear f us) s fun t => decide ((t.feed.feed f).timer = false
      ∧ (t.feed.feed f).st = (if (s.feed.feed f).st = .on then .qual else (s.feed.feed f).st)
      ∧ (t.feed.feed f).gateOn = (s.feed.feed f).gateOn
      ∧ t.feed.feed (otherFeed f) = s.feed.feed (otherFeed f)))) = (true, true) := by decide +kernel

theorem test_feedFastTrip :
    (let b := live
     let f : Feed := .a
     let uv : Int := 150000
     let s : State := withFeeds b .ramp .standby
     (decide (s.feed.on = true
      ∧ (s.feed.feed f).st.driven = true
      ∧ 1000 * (s.feed.ft f * s.feed.ilimMv f : Int) ≤ 4 * uv),
     sat (.feedFastTrip f uv) s fun t => decide ((t.feed.feed f).st = (if s.feed.latchOff f then .latched else .cool)
      ∧ (t.feed.feed f).gateOn = false
      ∧ (t.feed.feed f).shunt = uv
      ∧ (t.feed.feed f).trips = satIncr (s.feed.feed f).trips
      ∧ (s.feed.linkUp = true → s.hubRuns = true → t.raisedAt (feedSrc f 2) = true)))) = (true, true) := by decide +kernel

theorem test_feedOvertemp :
    (let b := live
     let f : Feed := .a
     let t1 : Int := 100
     let t2 : Int := 100
     let s : State := withFeeds b .on .standby
     (decide (s.feed.on = true
      ∧ (s.feed.feed f).mon.good = true
      ∧ (s.feed.feed f).st.driven = true
      ∧ s.feed.tmpTrip f ≤ feedTemp t1
      ∧ s.feed.tmpTrip f ≤ feedTemp t2),
     sat (.feedOvertemp f t1 t2) s fun t => decide ((t.feed.feed f).st = (if s.feed.latchOff f then .latched else .cool)
      ∧ (t.feed.feed f).gateOn = false
      ∧ (t.feed.feed f).temp = feedTemp t2
      ∧ (t.feed.feed f).hot = true
      ∧ (t.feed.feed f).trips = satIncr (s.feed.feed f).trips
      ∧ (s.feed.linkUp = true → s.hubRuns = true → t.raisedAt (feedSrc f 3) = true)))) = (true, true) := by decide +kernel

theorem test_feedOvertemp_held :
    (let b := live
     let f : Feed := .a
     let t1 : Int := 100
     let t2 : Int := 100
     let s : State := withFeeds b .delay .standby
     (decide (s.feed.on = true
      ∧ (s.feed.feed f).mon.good = true
      ∧ ((s.feed.feed f).st = .delay ∨ (s.feed.feed f).st = .standby)
      ∧ s.feed.tmpTrip f ≤ feedTemp t1
      ∧ s.feed.tmpTrip f ≤ feedTemp t2),
     sat (.feedOvertemp f t1 t2) s fun t => decide ((t.feed.feed f).held = true
      ∧ (t.feed.feed f).hot = true
      ∧ (t.feed.feed f).st = (s.feed.feed f).st
      ∧ t.feed.selected ≠ some f
      ∧ (t.feed.feed f).trips = (s.feed.feed f).trips))) = (true, true) := by decide +kernel

theorem test_feedOvertemp_cool :
    (let b := live
     let f : Feed := .a
     let t1 : Int := 10000
     let t2 : Int := 10000
     let s : State := withFeeds b .on .standby
     (decide (s.feed.on = true
      ∧ (s.feed.feed f).mon.good = true
      ∧ (feedTemp t1 < s.feed.tmpTrip f ∨ feedTemp t2 < s.feed.tmpTrip f)),
     sat (.feedOvertemp f t1 t2) s fun t => decide (t.feed.a.temp = feedTemp 10000))) = (true, true) := by decide +kernel

theorem test_feedCoolExpiry :
    (let b := live
     let f : Feed := .a
     let us : Nat := 10000000
     let s : State := withFeeds b .cool .standby
     (decide (s.feed.on = true
      ∧ (s.feed.feed f).st = .cool
      ∧ s.feed.coolUs f ≤ us
      ∧ (s.feed.feed f).temp < s.feed.tmpBack f),
     sat (.feedCoolExpiry f us) s fun t => decide ((t.feed.feed f).st = .off
      ∧ (t.feed.feed f).trips = (s.feed.feed f).trips))) = (true, true) := by decide +kernel

theorem test_feedCoolExpiry_hot :
    (let b := live
     let f : Feed := .a
     let us : Nat := 10000000
     let s : State := withFeeds b .cool .standby
     let s : State := s |>.modFeed fun d => { d with a := { d.a with temp := 1200 } }
     (decide (s.feed.on = true
      ∧ (s.feed.feed f).st = .cool
      ∧ s.feed.coolUs f ≤ us
      ∧ s.feed.tmpBack f ≤ (s.feed.feed f).temp),
     sat (.feedCoolExpiry f us) s fun t => decide ((t.feed.feed f).st = .cool
      ∧ (t.feed.feed f).held = true))) = (true, true) := by decide +kernel

theorem test_feedTemperatureRelease :
    (let b := live
     let f : Feed := .a
     let v : Int := 10000
     let s : State := withFeeds b .cool .off
     let s : State := s |>.modFeed fun d => { d with a := { d.a with held := true } }
     (decide (s.feed.on = true
      ∧ (s.feed.feed f).mon.good = true
      ∧ (s.feed.feed f).held = true
      ∧ (s.feed.feed f).st = .cool
      ∧ feedTemp v < s.feed.tmpBack f),
     sat (.feedTemperatureRelease f v) s fun t => decide ((t.feed.feed f).st = .off
      ∧ (t.feed.feed f).held = false
      ∧ (t.feed.feed f).hot = false
      ∧ (t.feed.feed f).temp = feedTemp v))) = (true, true) := by decide +kernel

theorem test_noFeedOn :
    (let b := live
     let us : Nat := 10000
     let s : State := withFeeds b .qual .off
     (decide (s.feed.on = true
      ∧ s.feed.noFeed = false
      ∧ 10000 ≤ us
      ∧ s.feed.a.st ≠ .on
      ∧ s.feed.b.st ≠ .on
      ∧ (s.feed.a.mon.good = true ∨ s.feed.b.mon.good = true)),
     sat (.noFeedOn us) s fun t => decide (t.feed.noFeed = true
      ∧ t.feed.a = s.feed.a
      ∧ t.feed.b = s.feed.b
      ∧ (s.feed.linkUp = true → s.hubRuns = true → t.raisedAt 177 = true)
      ∧ (s.feed.linkUp = false → s.feed.deferred.length < 16 → t.feed.deferred = s.feed.deferred ++ [{ devRaise 177 0 0 with deferred := true }])))) = (true, true) := by decide +kernel

theorem test_gateFullyOn_feed :
    (let b := live
     let f : Feed := .a
     let s : State := withFeeds b .ramp .off
     (decide (s.feed.on = true
      ∧ s.feed.pick = some f
      ∧ (s.feed.feed (otherFeed f)).st.driven = false
      ∧ s.feed.change = none
      ∧ (s.feed.feed f).st = .ramp
      ∧ (s.feed.feed f).full = false
      ∧ (s.feed.feed f).gateOn = true
      ∧ (s.feed.feed f).fullMon = []),
     sat (.gateFullyOn (.feed f) (List.replicate 3 ⟨7000, 1000000⟩)) s fun t => decide ((t.feed.feed f).st = .qual
      ∧ (t.feed.feed f).full = true
      ∧ (t.feed.feed f).limiting = false
      ∧ t.feed.feed (otherFeed f) = s.feed.feed (otherFeed f)))) = (true, true) := by decide +kernel

theorem test_gateBelowOff_feed :
    (let b := live
     let f : Feed := .a
     let c : Changeover := ⟨.a, false, false⟩
     let s : State := withFeeds b .off .standby
     let s : State := s |>.modFeed fun d => { d with change := some ⟨.a, false, false⟩, a := { d.a with belowOff := false } }
     (decide (s.feed.on = true
      ∧ s.feed.change = some c
      ∧ c.out = f
      ∧ c.bbm = false
      ∧ (s.feed.feed f).belowOff = false
      ∧ (s.feed.feed f).offMon = []),
     sat (.gateBelowOff (.feed f) (List.replicate 3 ⟨1499, 1000000⟩)) s fun t => decide ((t.feed.feed f).belowOff = true
      ∧ t.feed.change = some { c with confirmed := true }
      ∧ t.feed.feed (otherFeed f) = s.feed.feed (otherFeed f)))) = (true, true) := by decide +kernel

theorem test_gateBelowOff_stuck :
    (let b := live
     let f : Feed := .a
     let xs : List MonSample := List.replicate 3 ⟨1499, 1000000⟩
     let s : State := withFeeds b .latched .standby
     let s : State := s |>.modFeed fun d => { d with a := { d.a with belowOff := false, stuck := true } }
     (decide (s.feed.on = true
      ∧ s.feed.change = none
      ∧ (s.feed.feed f).st = .latched
      ∧ (s.feed.feed f).stuck = true
      ∧ (s.feed.feed (otherFeed f)).st = .standby),
     sat (.gateBelowOff (.feed f) xs) s fun t => decide (t.feed.feed (otherFeed f) = s.feed.feed (otherFeed f)
      ∧ (t.feed.feed f).st = .latched))) = (true, true) := by decide +kernel

theorem test_monBlanked_feed :
    (let b := live
     let f : Feed := .a
     let us : Nat := 1000
     let s : State := withFeeds b .on .off
     let s : State := s |>.modFeed fun d => { d with a := { d.a with mon := { d.a.mon with blanked := true, raised := false } } }
     (decide (s.feed.on = true
      ∧ (s.feed.feed f).mon.blanked = true
      ∧ (s.feed.feed f).mon.raised = false
      ∧ s.feed.chgBlank + 16000 ≤ 1000 * us),
     sat (.monBlanked (.feed f us)) s fun t => decide ((s.feed.linkUp = true → s.hubRuns = true → t.raisedAt (feedSrc f 5) = true)
      ∧ t.feed.feed f = { s.feed.feed f with mon := { (s.feed.feed f).mon with raised := true } }
      ∧ t.feed.feed (otherFeed f) = s.feed.feed (otherFeed f)))) = (true, true) := by decide +kernel

theorem test_monBlanked_trunk :
    (let b := live
     let us : Nat := 1000
     let s : State := withFeeds b .on .off
     let s : State := s |>.modFeed fun d => { d with trunkMon := { d.trunkMon with blanked := true, raised := false } }
     (decide (s.feed.on = true
      ∧ s.feed.trunkMon.blanked = true
      ∧ s.feed.trunkMon.raised = false
      ∧ s.feed.chgBlank + 16000 ≤ 1000 * us),
     sat (.monBlanked (.trunk us)) s fun t => decide ((s.feed.linkUp = true → s.hubRuns = true → t.raisedAt 181 = true)
      ∧ t.feed.trunkMon = { s.feed.trunkMon with raised := true }
      ∧ t.feed.brownout = s.feed.brownout))) = (true, true) := by decide +kernel

theorem test_feedGuardStart :
    (let b := live
     let va : Int := 24000
     let vb : Int := 0
     let s0 : Fin 8 := 0
     let s1 : Fin 8 := 0
     let s2 : Fin 8 := 0
     let s3 : Fin 8 := 0
     let s : State := b.modFeed fun d => { d with on := false }
     (decide (s.feed.on = false
      ∧ 12000 < max va vb
      ∧ s0.val < 4),
     sat (.feedGuardStart va vb s0 s1 s2 s3) s fun t => decide (t.feed.on = true
      ∧ t.feed.straps = #v[s0, s1, s2, s3]
      ∧ t.feed.strapInvalid = false
      ∧ t.feed.inForce = strapSet #v[s0, s1, s2, s3]
      ∧ t.feed.a = { FeedState.reset with st := .off, vin := va }
      ∧ t.feed.b = { FeedState.reset with st := .off, vin := vb }
      ∧ t.feed.selected = none
      ∧ t.feed.fpg = false
      ∧ t.feed.linkUp = false
      ∧ t.feed.fromHub = false))) = (true, true) := by decide +kernel

theorem test_feedGuardStart_reserved :
    (let b := live
     let va : Int := 24000
     let vb : Int := 0
     let s0 : Fin 8 := 4
     let s1 : Fin 8 := 0
     let s2 : Fin 8 := 0
     let s3 : Fin 8 := 0
     let s : State := b.modFeed fun d => { d with on := false }
     (decide (s.feed.on = false
      ∧ 12000 < max va vb
      ∧ 4 ≤ s0.val),
     sat (.feedGuardStart va vb s0 s1 s2 s3) s fun t => decide (t.feed.on = true
      ∧ t.feed.strapInvalid = true
      ∧ t.feed.a = { FeedState.reset with st := .disabled, vin := va }
      ∧ t.feed.b = { FeedState.reset with st := .disabled, vin := vb }
      ∧ t.feed.deferred = [{ devRaise 179 0 0 with deferred := true }]))) = (true, true) := by decide +kernel

theorem test_feedGuardStart_low :
    (let b := live
     let va : Int := 12000
     let vb : Int := 0
     let s0 : Fin 8 := 0
     let s1 : Fin 8 := 0
     let s2 : Fin 8 := 0
     let s3 : Fin 8 := 0
     let s : State := b.modFeed fun d => { d with on := false }
     (decide (s.feed.on = true ∨ max va vb ≤ 12000),
     sat (.feedGuardStart va vb s0 s1 s2 s3) s fun t => decide (t.feed.on = s.feed.on))) = (true, true) := by decide +kernel

theorem test_feedGuardStop :
    (let b := live
     let xs : List Int := List.replicate 8 9999
     let s : State := withFeeds b .on .standby
     (decide (s.feed.on = true
      ∧ 8 ≤ xs.length
      ∧ (∀ v ∈ xs, v < 10000)),
     sat (.feedGuardStop xs) s fun t => decide (t.feed.on = false
      ∧ t.feed.a = { FeedState.reset with vin := s.feed.a.vin }
      ∧ t.feed.b = { FeedState.reset with vin := s.feed.b.vin }
      ∧ t.feed.fpg = false
      ∧ t.feed.fromHub = false
      ∧ t.feed.linkUp = false
      ∧ t.feed.selected = none
      ∧ t.feed.inForce = strapSet s.feed.straps
      ∧ t.ready 20 = false
      ∧ t.ready 21 = false
      ∧ (s.feed.linkUp = true → s.hubRuns = true → t.raisedAt 180 = true)))) = (true, true) := by decide +kernel

theorem test_feedLinkLost :
    (let b := live
     let s : State := withFeeds b .on .standby
     (decide (s.feed.linkUp = true
      ∧ s.hubRuns = true),
     sat (.feedLinkLost) s fun t => decide (t.feed.linkUp = false
      ∧ t.feed.a = s.feed.a
      ∧ t.feed.b = s.feed.b
      ∧ t.feed.brownout = s.feed.brownout
      ∧ t.feed.vTrunk = s.feed.vTrunk
      ∧ t.ready 20 = s.ready 20
      ∧ t.ready 21 = s.ready 21
      ∧ t.raisedAt 180 = true))) = (true, true) := by decide +kernel

theorem test_feedLinkUp :
    (let b := live
     let s : State := { withFeeds b .on .standby with board := { b.board with svcOn := true, resetLow := false } }
     let s : State := s |>.modFeed fun d => { d with linkUp := false, workSet := false, cfgDue := none, selected := some .a, trunkMon := { d.trunkMon with good := true } }
     (decide (s.feed.on = true
      ∧ s.hubRuns = true
      ∧ s.feed.linkUp = false
      ∧ s.feed.workSet = false
      ∧ s.feed.cfgDue = none
      ∧ s.feed.trunkMon.good = true),
     sat (.feedLinkUp) s fun t => decide (t.feed.linkUp = true
      ∧ t.feed.work = strapSet s.feed.straps
      ∧ t.feed.workSet = true
      ∧ t.feed.inForce = s.feed.inForce
      ∧ t.feed.deferred = []
      ∧ t.feed.brownout = false
      ∧ t.feed.fpg = s.feed.power
      ∧ (s.board.testen = false → s.coreReady 8 = true → t.ready 20 = (s.feed.power && s.feed.selected == some .a) ∧ t.ready 21 = (s.feed.power && s.feed.selected == some .b))))) = (true, true) := by decide +kernel

theorem test_feedLinkUp_set :
    (let b := live
     let s : State := { withFeeds b .on .standby with board := { b.board with svcOn := true, resetLow := false } }
     let s : State := s |>.modFeed fun d => { d with linkUp := false, workSet := true, cfgDue := some d.work }
     let c : FeedCfg := s.feed.work
     (decide (s.feed.on = true
      ∧ s.hubRuns = true
      ∧ s.feed.linkUp = false
      ∧ s.feed.workSet = true
      ∧ s.feed.cfgDue = some c),
     sat (.feedLinkUp) s fun t => decide (t.feed.linkUp = true
      ∧ t.feed.inForce = c
      ∧ t.feed.fromHub = true
      ∧ t.feed.cfgDue = none
      ∧ t.feed.work = s.feed.work))) = (true, true) := by decide +kernel

theorem test_brownoutEnter :
    (let b := live
     let xs : List MonSample := goodSamples 12000
     let s : State := (withFeeds b .on .standby).modFeed fun d => { d with selected := some .a, brownout := false, trunkMon := { Monitor.reset with good := true } }
     (decide (s.feed.on = true
      ∧ s.feed.linkUp = true
      ∧ s.hubRuns = true
      ∧ s.feed.brownout = false
      ∧ s.feed.trunkMon.good = true
      ∧ (s.feed.trunkMon.run s.feed.trunkWindow s.feed.chgBlank xs).good = false),
     sat (.brownoutEnter xs) s fun t => decide (t.feed.brownout = true
      ∧ t.feed.trunkMon.good = false
      ∧ t.raisedAt 178 = true
      ∧ (t.port 0).grant = s.floors.getD 0 0))) = (true, true) := by decide +kernel

theorem test_brownoutExit :
    (let b := live
     let xs : List MonSample := goodSamples 24000
     let s : State := (withFeeds b .on .standby).modFeed fun d => { d with selected := some .a, brownout := true, trunkMon := Monitor.reset }
     (decide (s.feed.on = true
      ∧ s.feed.linkUp = true
      ∧ s.hubRuns = true
      ∧ s.feed.brownout = true
      ∧ s.feed.trunkMon.good = false
      ∧ (s.feed.trunkMon.run s.feed.trunkWindow s.feed.chgBlank xs).good = true),
     sat (.brownoutExit xs) s fun t => decide (t.feed.brownout = false
      ∧ t.feed.trunkMon.good = true
      ∧ t.budget.beat = s.now
      ∧ t.budget.due = false
      ∧ t.feed.a = s.feed.a
      ∧ t.feed.b = s.feed.b))) = (true, true) := by decide +kernel

theorem test_brownout_noLink :
    (let b := live
     let xs : List MonSample := goodSamples 12000
     let s : State := (withFeeds b .on .standby).modFeed fun d => { d with selected := some .a, brownout := false, linkUp := false, trunkMon := { Monitor.reset with good := true } }
     (decide (s.feed.on = true
      ∧ s.feed.linkUp = false),
     sat (.brownoutEnter xs) s fun t => decide (t.feed.brownout = s.feed.brownout
      ∧ t.feed.trunkMon = s.feed.trunkMon.run s.feed.trunkWindow s.feed.chgBlank xs))) = (true, true) := by decide +kernel

theorem test_budgetAllocation :
    (let b := live
     let s : State := { b with board := { b.board with svcOn := true, resetLow := false }, budget := { b.budget with due := true, dueAt := b.now - 1, device := 200#32, reserve := 0 } }
     let s : State := s |>.modFeed fun d => { d with brownout := false }
     let d : Division := divide (s.bEff - s.reserve) s.floors s.wants
     (decide (d = divide (s.bEff - s.reserve) s.floors s.wants
      ∧ s.hubRuns = true
      ∧ s.budget.due = true
      ∧ s.budget.dueAt ≠ s.now
      ∧ s.feed.brownout = false
      ∧ s.budgetHeld = true
      ∧ s.coreStopped 8 = false),
     sat (.budgetAllocation) s fun t => decide (t.budget.due = false
      ∧ t.budget.beat = s.now
      ∧ t.budget.short = d.short
      ∧ t.budget.floorSum = d.floorSum
      ∧ t.budget.poolP = d.pool
      ∧ t.budget.level = d.level
      ∧ (t.budget.short = true → s.budget.short = false → t.raisedAt 48 = true)))) = (true, true) := by decide +kernel

theorem test_budgetAllocation_waits :
    (let b := live
     let s : State := { b with budget := { b.budget with due := true } }
     let s : State := s |>.modFeed fun d => { d with brownout := true }
     (decide (s.budget.due = false ∨ s.budget.dueAt = s.now ∨ s.feed.brownout = true ∨ s.coreStopped 8 = true),
     sat (.budgetAllocation) s fun t => decide (t.budget.due = s.budget.due))) = (true, true) := by decide +kernel

theorem test_budgetAllocation_none :
    (let b := live
     let s : State := { b with board := { b.board with svcOn := true, resetLow := false }, budget := { b.budget with due := true, dueAt := b.now - 1, device := 0#32, hostB := none, grantG := none } }
     let s : State := s |>.modFeed fun d => { d with brownout := false }
     let s : State := s |>.modYarrow fun w => { w with gstate := .none }
     (decide (s.hubRuns = true
      ∧ s.budget.due = true
      ∧ s.budget.dueAt ≠ s.now
      ∧ s.feed.brownout = false
      ∧ s.budgetHeld = false
      ∧ s.yarrow.gstate ≠ .member
      ∧ s.yarrow.gstate ≠ .root
      ∧ s.coreStopped 8 = false),
     sat (.budgetAllocation) s fun t => decide (t.budget.due = false
      ∧ t.budget.beat = s.now
      ∧ t.budget.short = false))) = (true, true) := by decide +kernel

theorem test_dieTemp :
    (let b := live
     let k : Fin 5 := 0
     let x0 : Int := 1400
     let x1 : Int := 1400
     let x2 : Int := 1400
     let x3 : Int := 1400
     let s : State := { b with board := { b.board with svcOn := true, resetLow := false, dieHot := Vector.replicate 5 false } }
     (decide (s.hubRuns = true
      ∧ s.board.dieHot[k] = false
      ∧ 1400 ≤ x0
      ∧ 1400 ≤ x1
      ∧ 1400 ≤ x2
      ∧ 1400 ≤ x3),
     sat (.dieTemp k [x0, x1, x2, x3]) s fun t => decide (t.board.dieHot[k] = true
      ∧ t.board.dieWarm[k] = true
      ∧ active t 5 = true
      ∧ t.raisedAt 5 = true))) = (true, true) := by decide +kernel

theorem test_dieTemp_cools :
    (let b := live
     let k : Fin 5 := 0
     let v : Int := 1249
     let s : State := { b with board := { b.board with svcOn := true, resetLow := false, dieHot := Vector.replicate 5 true, dieWarm := Vector.replicate 5 true } }
     (decide (s.hubRuns = true
      ∧ v < 1250),
     sat (.dieTemp k [v]) s fun t => decide (t.board.dieHot[k] = false
      ∧ t.board.dieWarm[k] = false))) = (true, true) := by decide +kernel

theorem test_dieTemp_warm :
    (let b := live
     let k : Fin 5 := 0
     let v : Int := 1250
     let s : State := { b with board := { b.board with svcOn := true, resetLow := false, dieHot := Vector.replicate 5 false, dieWarm := Vector.replicate 5 false } }
     (decide (s.hubRuns = true
      ∧ 1250 ≤ v),
     sat (.dieTemp k [v]) s fun t => decide (t.board.dieWarm[k] = true
      ∧ active t 5 = true
      ∧ t.board.dieHot[k] = s.board.dieHot[k]))) = (true, true) := by decide +kernel

theorem test_snapshotWrite :
    (let b := live
     let body : List Byte := []
     let more : List (List Byte) := [[]]
     let s : State := { b with faults := { b.faults with snap := [[], []], snapSeq := 7, snapPos := 255 }, dev := live.dev }
     (decide (s.faults.snap = body :: more
      ∧ s.ready 2 = true
      ∧ s.faults.snapSeq ≠ 0xFFFFFFFE#32
      ∧ s.coreStopped 8 = false),
     sat (.snapshotWrite true) s fun t => decide (t.faults.snap = more
      ∧ t.faults.snapSeq = BitVec.ofNat 32 (s.faults.snapSeq.toNat + 1)
      ∧ t.faults.snapPos = (s.faults.snapPos + 1) % 256))) = (true, true) := by decide +kernel

theorem test_snapshotWrite_fails :
    (let b := live
     let body : List Byte := []
     let more : List (List Byte) := [[]]
     let ok : Bool := true
     let s : State := { b with faults := { b.faults with snap := [[], []], snapSeq := 0xFFFFFFFE#32, snapPos := 255 }, dev := live.dev }
     (decide (s.faults.snap = body :: more
      ∧ s.ready 2 = true
      ∧ (ok = false ∨ s.faults.snapSeq = 0xFFFFFFFE#32)
      ∧ s.coreStopped 8 = false),
     sat (.snapshotWrite ok) s fun t => decide (t.faults.snapSeq = s.faults.snapSeq
      ∧ t.raisedAt 214 = true))) = (true, true) := by decide +kernel

theorem test_snapshotWrite_none :
    (let b := live
     let ok : Bool := true
     let s : State := { b with faults := { b.faults with snap := [] } }
     (decide (s.faults.snap = []),
     sat (.snapshotWrite ok) s fun t => decide (t.faults.snapSeq = s.faults.snapSeq))) = (true, true) := by decide +kernel

/-! ### The host port and its commands -/
def quiet128 : Pool :=
  { Pool.reset with queues := Vector.replicate 128 (Queue.reset 8), capacity := 15856, pdReserve := 512 }
/-- S8 and the ports serve; this command's packet waits in Q0, or for a forwarded command in Q88. -/
def asked (b : State) (st : Stream) (bytes : List Byte) : State :=
  { b with
    board := { b.board with svcOn := true, mainOn := true, testen := false, recovery := false, bootPending := false }
    dev := { b.dev with ready0 := 0x00FFFFFF#32, svcCfg := 0 }
    host := { HostPort.reset with maskHost := 0 }
    svc := .reset
    pool := match st with
      | .forwarded => quiet128.modQ qFwd fun x => { x with closed := [mkPacket quiet128 (.fwd 9 false) bytes] }
      | .service | .ended => quiet128.modQ qSvc fun x => { x with closed := [mkPacket quiet128 (.cmd false) bytes] }
      | .host => quiet128.modQ qHost fun x => { x with closed := [mkPacket quiet128 (.cmd false) bytes] } }.modPort 0 fun x => { x with tc := { x.tc with pReady := true } }
/-- A command packet without its trailer. -/
def packetOf (opc port tgt : Nat) (data : List Byte) : List Byte :=
  padTo4 (leBytes 1 opc ++ [0x11, 0, 0] ++ u16 (port + 128 * tgt) ++ u16 data.length ++ data)
def takenFrom (s : State) (st : Stream) : Option (Cmd × State) :=
  (s.nextCommand st).map fun e => (Cmd.of st e.2, ((s.takeCommand e.1 e.2).modHost fun h => h.addTag (Cmd.of st e.2)).modYarrow
    fun w => if (Cmd.of st e.2).stream = .forwarded then { w with fwdFrom := w.fwdFrom ++ [((Cmd.of st e.2).tag, (Cmd.of st e.2).node)] } else w)
def cmdOf (s : State) (st : Stream) : Cmd := match takenFrom s st with | some e => e.1 | none => ⟨st, 0, false, []⟩
def afterTake (s : State) (st : Stream) : State := match takenFrom s st with | some e => e.2 | none => s
def comesB (s : State) (st : Stream) : Bool :=
  match s.nextCommand st with
  | some e => s.ready 0 && !s.coreStopped 8 && (s.parked st).isNone && !e.2.bad && (!st.reserves || s.pool.holdsFor (Cmd.of st e.2))
    && !(s.takeCommand e.1 e.2).dupRefused (Cmd.of st e.2)
  | none => false
def takesB (s : State) (st : Stream) (opc : Nat) : Bool :=
  comesB s st && (cmdOf s st).opc == opc && ((cmdOf s st).headerFault (afterTake s st).yarrow.id).isNone && (afterTake s st).readyFor (cmdOf s st)
    && (!(afterTake s st).restricted (cmdOf s st) || (cmdOf s st).readOnly)
    && (firstNonzero (cmdOf s st).payload (cmdOf s st).reservedBytes).isNone && decide ((cmdOf s st).tgt ≤ (cmdOf s st).maxTgt)
    && (!(cmdOf s st).handed || ((afterTake s st).handFree (cmdOf s st) && (afterTake s st).handRuns (cmdOf s st)))
theorem comesB_comes {s : State} {st : Stream} (h : comesB s st = true) : s.comes st (cmdOf s st) (afterTake s st) := by
  unfold comesB at h
  split at h
  · rename_i e he
    refine ⟨e.1, e.2, ?_⟩
    simp only [cmdOf, afterTake, takenFrom, he, Option.map_some]
    simp only [Bool.and_eq_true, Bool.or_eq_true, Bool.not_eq_true', Option.isNone_iff_eq_none] at h
    exact ⟨h.1.1.1.1.1, h.1.1.1.1.2, h.1.1.1.2, trivial, trivial, h.1.1.2, h.1.2, h.2, trivial⟩
  · cases h
theorem takesB_takes {s : State} {st : Stream} {opc : Nat} (h : takesB s st opc = true) :
    s.takes st opc (cmdOf s st) (afterTake s st) := by
  simp only [takesB, Bool.and_eq_true, beq_iff_eq, Option.isNone_iff_eq_none, Bool.or_eq_true, Bool.not_eq_true', decide_eq_true_eq] at h
  obtain ⟨⟨⟨⟨⟨⟨⟨h1, h2⟩, h3⟩, h4⟩, h5⟩, h6⟩, h7⟩, h8⟩ := h
  exact ⟨comesB_comes h1, h2, h3, h4, h5, h6, h7, h8⟩
def lastReply (t : State) : List Byte := (((t.pool.queues[qReply]).closed.getLast?).map Packet.data).getD []
/-- A whole packet with its trailer. -/
def wire (bs : List Byte) : List Byte := bs ++ wordBytes (crc32 bs)
def port0 (b : State) : State := { (asked b .host []) with pool := quiet128 }

/-! ### The host port (chapter 15) -/

theorem test_write_none :
    (let b := live
     let m : Bool := true
     let fl : CellObs := .sound
     let s : State := { (port0 b) with host := { b.host with withheld := 3 } }
     (decide (s.ready 0 = true),
     sat (.write m ⟨[], fl⟩) s fun t => decide (t.host.withheld = 0
      ∧ t.host.driven = wordBytes s.mirror))) = (true, true) := by decide +kernel

theorem test_write_bad :
    (let b := live
     let m : Bool := true
     let pk : List Byte := List.replicate 12 1
     let fl : CellObs := .sound
     let s : State := { (port0 b) with host := b.host }
     (decide (s.ready 0 = true
      ∧ pk ≠ []
      ∧ (framed pk.length = false ∨ hostCrcOk pk = false)),
     sat (.write m ⟨pk, fl⟩) s fun t => decide (t.host.withheld = 1
      ∧ t.host.hcrcErr = true))) = (true, true) := by decide +kernel

theorem test_write_taken :
    (let b := live
     let m : Bool := true
     let pk : List Byte := wire (packetOf 0x08 127 0 [])
     let q : QueueId := qHost
     let fl : CellObs := .sound
     let s : State := port0 b
     (decide (s.ready 0 = true
      ∧ framed pk.length = true
      ∧ hostCrcOk pk = true
      ∧ (pk.length + 255) / 256 ≤ s.credit
      ∧ q = (if (pk.getD 2 0).getLsbD 0 then qUrgent else qHost)
      ∧ s.pool.room q (cellsFor (pk.length - 4)) = true),
     sat (.write m ⟨pk, fl⟩) s fun t => decide ((t.pool.queues[q]).closed.map Packet.data = (s.pool.queues[q]).closed.map Packet.data ++ [pk.take (pk.length - 4)]
      ∧ t.host.lastTag = pk.getD 1 0
      ∧ t.host.unitsUsed = s.host.unitsUsed + (pk.length + 255) / 256
      ∧ t.host.driven = wordBytes s.mirror
      ∧ t.host.hcrcErr = false
      ∧ t.host.withheld = 0
      ∧ t.host.transfer = .write pk.length
      ∧ t.host.transferQuad = s.host.quad
      ∧ (t.host.tagsHost.contains (pk.getD 1 0) = true ∨ s.pool.tagWaits [qHost, qUrgent] (pk.getD 1 0) = true)))) = (true, true) := by decide +kernel

theorem test_write_refused :
    (let b := live
     let m : Bool := true
     let pk : List Byte := wire (packetOf 0x08 127 0 [])
     let q : QueueId := qHost
     let fl : CellObs := .sound
     let s : State := { (port0 b) with host := { HostPort.reset with cfg := 0 } }
     (decide (s.ready 0 = true
      ∧ framed pk.length = true
      ∧ hostCrcOk pk = true
      ∧ (s.credit < (pk.length + 255) / 256 ∨ s.pool.room q (cellsFor (pk.length - 4)) = false)
      ∧ q = (if (pk.getD 2 0).getLsbD 0 then qUrgent else qHost)
      ∧ s.pool.refusalUsed < 16),
     sat (.write m ⟨pk, fl⟩) s fun t => decide ((t.pool.queues[qReply]).closed.map Packet.data = (s.pool.queues[qReply]).closed.map Packet.data ++ [replyBytes (pk.getD 0 0).toNat (pk.getD 1 0).toNat 0x8C ((pk.getD 2 0).getLsbD 0) false (rdNat pk 4 2 % 512) []]
      ∧ (t.pool.queues[q]).closed = (s.pool.queues[q]).closed
      ∧ t.host.tagsHost = s.host.tagsHost
      ∧ t.host.unitsUsed = s.host.unitsUsed
      ∧ t.host.inDrop = false))) = (true, true) := by decide +kernel

theorem test_write_dropped :
    (let b := live
     let m : Bool := true
     let pk : List Byte := wire (packetOf 0x08 127 0 [])
     let fl : CellObs := .sound
     let s : State := { (port0 b) with host := { HostPort.reset with cfg := 0 } }
     let s : State := s |>.modPool fun m => m.modQ qReply fun x => { x with closed := List.replicate 16 { mkPacket quiet128 .none [0, 0, 0, 0] with refusal := true } }
     (decide (s.ready 0 = true
      ∧ framed pk.length = true
      ∧ hostCrcOk pk = true
      ∧ s.credit < (pk.length + 255) / 256
      ∧ 16 ≤ s.pool.refusalUsed),
     sat (.write m ⟨pk, fl⟩) s fun t => decide (t.host.inDrop = true))) = (true, true) := by decide +kernel

theorem test_write_notReady :
    (let b := live
     let m : Bool := true
     let pk : List Byte := []
     let fl : CellObs := .sound
     let s : State := { b with dev := { b.dev with ready0 := 0 } }
     (decide (s.ready 0 = false),
     sat (.write m ⟨pk, fl⟩) s fun t => decide (t.host.driven = s.host.driven))) = (true, true) := by decide +kernel

theorem test_read_none :
    (let b := live
     let n : Nat := 4
     let obs : CellObs := .sound
     let s : State := { (port0 b) with host := b.host }
     (decide (s.ready 0 = true
      ∧ s.pool.head qReply = none
      ∧ s.pool.head qEvent = none),
     sat (.read true n obs) s fun t => decide (t.host.driven = wordBytes s.mirror ++ [0, 0, 0, 0]))) = (true, true) := by decide +kernel

theorem test_read_short :
    (let b := live
     let n : Nat := 4
     let obs : CellObs := .sound
     let s : State := { (port0 b) with host := b.host }
     (decide (s.ready 0 = true),
     sat (.read false n obs) s fun t => decide (t.host.driven = wordBytes s.mirror))) = (true, true) := by decide +kernel

theorem test_read_reply :
    (let b := live
     let n : Nat := 12
     let k : Packet := mkPacket quiet128 .none (replyBytes 8 0x11 0 false false 127 [])
     let s : State := (port0 b).modPool fun m => m.modQ qReply fun x => { x with closed := [mkPacket quiet128 .none (replyBytes 8 0x11 0 false false 127 [])] }
     let s : State := s |>.modHost fun h => { h with tagsHost := [0x11], unitsUsed := 1 }
     (decide (s.ready 0 = true
      ∧ s.pool.head qReply = some k
      ∧ k.bad = false
      ∧ k.data.length + 4 ≤ n),
     sat (.read true n .sound) s fun t => decide (t.host.driven = wordBytes s.mirror ++ k.data ++ wordBytes (crc32 k.data) ++ zeros (n - (k.data.length + 4))
      ∧ (t.pool.queues[qReply]).closed = (s.pool.queues[qReply]).closed.tail
      ∧ t.host.tagsHost = (match replyTag k with | some g => s.host.tagsHost.erase g | none => s.host.tagsHost)
      ∧ t.host.outBad = false
      ∧ t.host.transfer = .read
      ∧ t.host.transferQuad = s.host.quad))) = (true, true) := by decide +kernel

theorem test_read_bad :
    (let b := live
     let n : Nat := 12
     let k : Packet := mkPacket quiet128 .none (replyBytes 8 0x11 0 false false 127 [])
     let o : CellObs := .crc
     let s : State := (port0 b).modPool fun m => m.modQ qReply fun x => { x with closed := [mkPacket quiet128 .none (replyBytes 8 0x11 0 false false 127 [])] }
     let s : State := s |>.modHost fun h => { h with tagsHost := [0x11], unitsUsed := 1 }
     (decide (s.ready 0 = true
      ∧ s.pool.head qReply = some k
      ∧ k.flaw = .sound
      ∧ (o = .crc ∨ (o = .sound ∧ k.poison = true))
      ∧ k.data.length + 4 ≤ n),
     sat (.read true n o) s fun t => decide (t.host.driven = wordBytes s.mirror ++ k.data ++ wordBytes (~~~crc32 k.data) ++ zeros (n - (k.data.length + 4))
      ∧ (t.pool.queues[qReply]).closed = (s.pool.queues[qReply]).closed.tail
      ∧ t.host.outBad = true))) = (true, true) := by decide +kernel

theorem test_read_event :
    (let b := live
     let n : Nat := 16
     let k : Packet := mkPacket quiet128 .none (eventBytes 0xC2 3 false [1])
     let s : State := (port0 b).modPool fun m => m.modQ qEvent fun x => { x with closed := [mkPacket quiet128 .none (eventBytes 0xC2 3 false [1])] }
     (decide (s.ready 0 = true
      ∧ s.pool.head qReply = none
      ∧ s.pool.head qEvent = some k
      ∧ k.bad = false
      ∧ k.data.length + 4 ≤ n),
     sat (.read true n .sound) s fun t => decide (t.host.driven = wordBytes s.mirror ++ k.data ++ wordBytes (crc32 k.data) ++ zeros (n - (k.data.length + 4))
      ∧ (t.pool.queues[qEvent]).closed = (s.pool.queues[qEvent]).closed.tail
      ∧ t.host.tagsHost = s.host.tagsHost))) = (true, true) := by decide +kernel

theorem test_read_part :
    (let b := live
     let n : Nat := 11
     let k : Packet := mkPacket quiet128 .none (replyBytes 8 0x11 0 false false 127 [])
     let s : State := (port0 b).modPool fun m => m.modQ qReply fun x => { x with closed := [mkPacket quiet128 .none (replyBytes 8 0x11 0 false false 127 [])] }
     (decide (s.ready 0 = true
      ∧ s.pool.head qReply = some k
      ∧ k.bad = false
      ∧ n < k.data.length + 4),
     sat (.read true n .sound) s fun t => decide ((t.pool.queues[qReply]).closed.length = 1
      ∧ t.host.driven.length = 15))) = (true, true) := by decide +kernel

theorem test_read_notReady :
    (let b := live
     let m : Bool := true
     let n : Nat := 4
     let obs : CellObs := .sound
     let s : State := { b with dev := { b.dev with ready0 := 0 } }
     (decide (s.ready 0 = false),
     sat (.read m n obs) s fun t => decide (t.host.driven = s.host.driven))) = (true, true) := by decide +kernel

theorem test_status :
    (let b := live
     let m : Bool := true
     let s : State := { (port0 b) with host := b.host }
     (decide (s.ready 0 = true),
     sat (.status m) s fun t => decide (t.host.driven = wordBytes s.mirror))) = (true, true) := by decide +kernel

theorem test_unknownTypeByte :
    (let b := live
     let m : Bool := true
     let x : Byte := 0x5B
     let s : State := { (port0 b) with host := b.host }
     (decide (s.ready 0 = true
      ∧ x ≠ 0x5A#8
      ∧ x ≠ 0xA5#8
      ∧ x ≠ 0x3C#8),
     sat (.unknownTypeByte m x) s fun t => decide (t.host.hcrcErr = true
      ∧ t.host.driven = []))) = (true, true) := by decide +kernel

theorem test_unknownOpcode :
    (let b := live
     let st : Stream := .host
     let s : State := asked b .host (packetOf 0x7F 127 0 [])
     let c : Cmd := cmdOf s .host
     let u : State := afterTake s .host
     (decide (comesB s st = true
      ∧ assignedOpc c.opc = false
      ∧ c.opc < 0xF0),
     sat (.unknownOpcode st) s fun t => decide (lastReply t = c.reply false 0x81 []))) = (true, true) := by decide +kernel

theorem test_factory_testenLow :
    (let b := live
     let st : Stream := .host
     let s : State := asked b .host (packetOf 0xF1 127 0 [])
     let c : Cmd := cmdOf s .host
     let u : State := afterTake s .host
     (decide (comesB s st = true
      ∧ 0xF0 ≤ c.opc
      ∧ s.board.testen = false),
     sat (.factoryCommand st) s fun t => decide (lastReply t = c.reply false 0x81 []))) = (true, true) := by decide +kernel

theorem test_header :
    (let b := live
     let st : Stream := .host
     let i : Instr := .echo .host
     let r : Refuse := .badPort
     let s : State := asked b .host (packetOf 0x00 5 0 [])
     let c : Cmd := cmdOf s .host
     let u : State := afterTake s .host
     (decide (comesB s st = true
      ∧ assignedOpc c.opc = true
      ∧ c.headerFault u.yarrow.id = some r),
     sat (i) s fun t => decide (lastReply t = c.reply false 0x84 []))) = (true, true) := by decide +kernel

theorem test_notReady :
    (let b := live
     let st : Stream := .host
     let i : Instr := .echo .host
     let s : State := asked b .host (packetOf 0x00 127 0 [])
     let s : State := s |>.modBoard fun x => { x with testen := true }
     let c : Cmd := cmdOf s .host
     let u : State := afterTake s .host
     (decide (comesB s st = true
      ∧ assignedOpc c.opc = true
      ∧ c.headerFault u.yarrow.id = none
      ∧ u.readyFor c = false),
     sat (i) s fun t => decide (lastReply t = c.reply false 0x85 []))) = (true, true) := by decide +kernel

theorem test_level1 :
    (let b := live
     let st : Stream := .service
     let i : Instr := .budgetSet .service
     let s : State := asked b .service (packetOf 0x50 127 0 [1, 0, 0, 0])
     let s : State := s |>.modDev fun d => { d with svcCfg := 0x10 }
     let c : Cmd := cmdOf s .service
     let u : State := afterTake s .service
     (decide (comesB s st = true
      ∧ assignedOpc c.opc = true
      ∧ c.headerFault u.yarrow.id = none
      ∧ u.readyFor c = true
      ∧ u.restricted c = true
      ∧ c.readOnly = false),
     sat (i) s fun t => decide (t.budget.hostB = s.budget.hostB))) = (true, true) := by decide +kernel

theorem test_reserved :
    (let b := live
     let st : Stream := .host
     let i : Instr := .budgetSet .host
     let n : Nat := 3
     let s : State := asked b .host (packetOf 0x50 127 0 [1, 0, 0, 7])
     let c : Cmd := cmdOf s .host
     let u : State := afterTake s .host
     (decide (comesB s st = true
      ∧ assignedOpc c.opc = true
      ∧ c.headerFault u.yarrow.id = none
      ∧ u.readyFor c = true
      ∧ (u.restricted c = false ∨ c.readOnly = true)
      ∧ firstNonzero c.payload c.reservedBytes = some n),
     sat (i) s fun t => decide (lastReply t = c.reply false 0x82 [11, 0, 0, 0]))) = (true, true) := by decide +kernel

theorem test_target :
    (let b := live
     let st : Stream := .host
     let i : Instr := .echo .host
     let s : State := asked b .host (packetOf 0x00 127 1 [])
     let c : Cmd := cmdOf s .host
     let u : State := afterTake s .host
     (decide (comesB s st = true
      ∧ assignedOpc c.opc = true
      ∧ c.headerFault u.yarrow.id = none
      ∧ u.readyFor c = true
      ∧ (u.restricted c = false ∨ c.readOnly = true)
      ∧ firstNonzero c.payload c.reservedBytes = none
      ∧ c.maxTgt < c.tgt),
     sat (i) s fun t => decide (lastReply t = c.reply false 0x88 []))) = (true, true) := by decide +kernel

theorem test_poisoned :
    (let b := live
     let st : Stream := .host
     let q : QueueId := qHost
     let k : Packet := { mkPacket quiet128 (.cmd false) (packetOf 0x00 127 0 []) with poison := true }
     let i : Instr := .echo .host
     let s : State := asked b .host (packetOf 0x00 127 0 [])
     let s : State := s |>.modPool fun m => m.modQ qHost fun x => { x with closed := x.closed.map fun k => { k with poison := true } }
     (decide (s.ready 0 = true
      ∧ s.nextCommand st = some (q, k)
      ∧ assignedOpc (Cmd.of st k).opc = true
      ∧ k.bad = true
      ∧ (k.flaw = .sound ∨ k.flaw = .crc)
      ∧ s.coreStopped 8 = false
      ∧ s.parked st = none),
     sat (i) s fun t => decide ((t.pool.queues[q]).closed = (s.pool.queues[q]).closed.tail
      ∧ (st = .host → t.host.hcrcErr = true)
      ∧ (st = .service → t.svc.hcrc = true)))) = (true, true) := by decide +kernel

theorem test_unsound :
    (let b := live
     let st : Stream := .host
     let q : QueueId := qHost
     let k : Packet := { mkPacket quiet128 (.cmd false) (packetOf 0x00 127 0 []) with flaw := .parity }
     let i : Instr := .echo .host
     let s : State := asked b .host (packetOf 0x00 127 0 [])
     let s : State := s |>.modPool fun m => m.modQ qHost fun x => { x with closed := x.closed.map fun k => { k with flaw := .parity } }
     (decide (s.ready 0 = true
      ∧ s.nextCommand st = some (q, k)
      ∧ assignedOpc (Cmd.of st k).opc = true
      ∧ k.flaw = .parity
      ∧ s.coreStopped 8 = false
      ∧ s.parked st = none),
     sat (i) s fun t => decide ((t.pool.queues[q]).closed = (s.pool.queues[q]).closed.tail
      ∧ (st = .host → t.host.hcrcErr = true)
      ∧ (st = .service → t.svc.hcrc = true)
      ∧ t.raisedAt 211 = true))) = (true, true) := by decide +kernel

theorem test_duplicate :
    (let b := live
     let st : Stream := .host
     let q : QueueId := qHost
     let k : Packet := mkPacket quiet128 (.cmd true) (packetOf 0x00 127 0 [])
     let i : Instr := .echo .host
     let s : State := asked b .host (packetOf 0x00 127 0 [])
     let s : State := s |>.modPool fun m => m.modQ qHost fun x => { x with closed := x.closed.map fun k => { k with carried := .cmd true } }
     let s : State := s |>.modHost fun h => { h with tagsHost := [0x11] }
     (decide (s.ready 0 = true
      ∧ s.nextCommand st = some (q, k)
      ∧ assignedOpc (Cmd.of st k).opc = true
      ∧ k.bad = false
      ∧ (st = .forwarded ∨ s.pool.holdsFor (Cmd.of st k) = true)
      ∧ (s.takeCommand q k).dupRefused (Cmd.of st k) = true
      ∧ s.coreStopped 8 = false
      ∧ s.parked st = none),
     sat (i) s fun t => decide (lastReply t = (cmdOf s .host).reply true 0x86 []
      ∧ t.host.tagsHost = s.host.tagsHost))) = (true, true) := by decide +kernel

theorem test_noCells :
    (let b := live
     let st : Stream := .host
     let q : QueueId := qHost
     let k : Packet := mkPacket quiet128 (.cmd false) (packetOf 0x00 127 0 [])
     let i : Instr := .echo .host
     let s : State := asked b .host (packetOf 0x00 127 0 [])
     let s : State := s |>.modPool fun m => { m with capacity := 1 }
     (decide (s.ready 0 = true
      ∧ s.nextCommand st = some (q, k)
      ∧ assignedOpc (Cmd.of st k).opc = true
      ∧ k.bad = false
      ∧ st ≠ .forwarded
      ∧ s.pool.holdsFor (Cmd.of st k) = false
      ∧ s.pool.refusalUsed < 16
      ∧ s.coreStopped 8 = false
      ∧ s.parked st = none),
     sat (i) s fun t => decide ((t.pool.queues[(replyQ st)]).closed.map Packet.data = (s.pool.queues[(replyQ st)]).closed.map Packet.data ++ [(Cmd.of st k).reply ((Cmd.of st k).dup && (s.host.tags st).contains (Cmd.of st k).tag) 0x8C []]
      ∧ (t.pool.queues[q]).closed = (s.pool.queues[q]).closed.tail))) = (true, true) := by decide +kernel

def gen1 : Generation := State.reset.capture 1
def entryBytes (id : Nat) (v : Word) : List Byte := u16 id ++ [0, 0] ++ wordBytes v
/-- The copy of the working set that a commit writes waits. -/
def committing : State := { live with store := { live.store with op := some (.params 0x11 .host gen1) } }
theorem test_committing : committing.store.op = some (.params 0x11 .host gen1) := rfl
theorem test_paramCommitComplete :
    sat (.paramCommitComplete true) committing (fun t => t.store.op.isNone && (t.store.genA.isSome || t.store.genB.isSome)) = true := by decide +kernel
theorem test_paramCommitComplete_fails :
    sat (.paramCommitComplete false) committing (fun t => t.store.op.isNone && t.raisedAt 16) = true := by decide +kernel

/-! ### Commands of the device (chapter 16) -/

theorem test_echo :
    (let b := live
     let st : Stream := .host
     let s : State := asked b .host (packetOf 0x00 127 0 ([1, 2, 3]))
     let c : Cmd := cmdOf s .host
     let u : State := afterTake s .host
     (decide (takesB s st 0x00 = true
      ∧ c.fits c.payload = true),
     sat (.echo st) s fun t => decide (lastReply t = c.reply false 0 [1, 2, 3]))) = (true, true) := by decide +kernel

theorem test_echo_long :
    (let b := live
     let st : Stream := .forwarded
     let s : State := asked b .host (packetOf 0x00 127 0 ([]))
     let s : State := asked b .forwarded (packetOf 0x00 127 0 (List.replicate 4088 1))
     let c : Cmd := cmdOf s .forwarded
     let u : State := afterTake s .forwarded
     (decide (takesB s st 0x00 = true
      ∧ c.fits c.payload = false),
     sat (.echo st) s fun t => decide (t.host.tagsFwd = []))) = (true, true) := by decide +kernel

theorem test_identify :
    (let b := live
     let st : Stream := .host
     let s : State := asked b .host (packetOf 0x01 127 0 ([]))
     let c : Cmd := cmdOf s .host
     let u : State := afterTake s .host
     (decide (takesB s st 0x01 = true
      ∧ c.fits u.identity = true),
     sat (.identify st) s fun t => decide ((lastReply t).length = 56))) = (true, true) := by decide +kernel

theorem test_readyMap :
    (let b := live
     let st : Stream := .host
     let s : State := asked b .host (packetOf 0x02 127 0 ([]))
     let c : Cmd := cmdOf s .host
     let u : State := afterTake s .host
     (decide (takesB s st 0x02 = true
      ∧ c.fits u.readyBytes = true),
     sat (.readyMap st) s fun t => decide (t.dev.notReadyAny = false
      ∧ t.dev.ready0 = s.dev.ready0))) = (true, true) := by decide +kernel

theorem test_timeGet :
    (let b := live
     let st : Stream := .host
     let s : State := asked b .host (packetOf 0x08 127 0 ([]))
     let c : Cmd := cmdOf s .host
     let u : State := afterTake s .host
     (decide (takesB s st 0x08 = true),
     sat (.timeGet st) s fun t => decide (lastReply t = c.reply false 0 (beatBytes s.now ++ [0, 0])))) = (true, true) := by decide +kernel

theorem test_coldReq :
    (let b := live
     let st : Stream := .host
     let s : State := asked b .host (packetOf 0x06 127 0 ([0, 0, 0, 0]))
     let s : State := s |>.modBoard fun x => { x with resetReq := none }
     let c : Cmd := cmdOf s .host
     let u : State := afterTake s .host
     (decide (takesB s st 0x06 = true
      ∧ c.b 0 = 0
      ∧ s.board.resetReq = none),
     sat (.coldReq st) s fun t => decide (t.board.resetReq = some ⟨true, .host, 0x11, s.now, false⟩))) = (true, true) := by decide +kernel

theorem test_warm :
    (let b := live
     let st : Stream := .host
     let s : State := asked b .host (packetOf 0x06 127 0 ([1, 0, 0, 0]))
     let s : State := s |>.modBoard fun x => { x with resetReq := none }
     let c : Cmd := cmdOf s .host
     let u : State := afterTake s .host
     (decide (takesB s st 0x06 = true
      ∧ c.b 0 = 1
      ∧ s.board.resetReq = none),
     sat (.warm st) s fun t => decide (t.board.resetReq = some ⟨false, .host, 0x11, s.now, false⟩))) = (true, true) := by decide +kernel

theorem test_reset_busy :
    (let b := live
     let st : Stream := .host
     let s : State := asked b .host (packetOf 0x06 127 0 ([0, 0, 0, 0]))
     let s : State := s |>.modBoard fun x => { x with resetReq := some ⟨false, .host, 1, 0, false⟩ }
     let c : Cmd := cmdOf s .host
     let u : State := afterTake s .host
     (decide (takesB s st 0x06 = true
      ∧ c.b 0 = 0
      ∧ s.board.resetReq.isSome = true),
     sat (.coldReq st) s fun t => decide (t.board.resetReq = s.board.resetReq))) = (true, true) := by decide +kernel

theorem test_ports :
    (let b := live
     let st : Stream := .host
     let s : State := asked b .host (packetOf 0x06 127 0 ([2, 0, 0, 0]))
     let c : Cmd := cmdOf s .host
     let u : State := afterTake s .host
     (decide (takesB s st 0x06 = true
      ∧ c.b 0 = 2),
     sat (.ports st) s fun t => decide (t.board.portsDue = true))) = (true, true) := by decide +kernel

theorem test_reset_range :
    (let b := live
     let st : Stream := .host
     let s : State := asked b .host (packetOf 0x06 127 0 ([3, 0, 0, 0]))
     let c : Cmd := cmdOf s .host
     let u : State := afterTake s .host
     (decide (takesB s st 0x06 = true
      ∧ 2 < c.b 0),
     sat (.warm st) s fun t => decide (t.board.resetReq = s.board.resetReq))) = (true, true) := by decide +kernel

theorem test_paramGet :
    (let b := live
     let st : Stream := .host
     let s : State := asked b .host (packetOf 0x03 127 0 ((u16 0x0010 ++ u16 3)))
     let c : Cmd := cmdOf s .host
     let u : State := afterTake s .host
     let d : List Byte := c.payload ++ (List.range (c.h 2)).flatMap fun i => wordBytes (u.param c.port c.tgtOf (c.h 0 + i))
     (decide (takesB s st 0x03 = true
      ∧ 1 ≤ c.h 2
      ∧ c.h 2 ≤ 64
      ∧ runFault (c.h 0) 0 (c.h 2) = none
      ∧ (c.tgt = 0 ∨ (0x1030 ≤ c.h 0 ∧ c.h 0 + c.h 2 ≤ 0x1033 ∧ c.tgt ≤ 2))
      ∧ (d = c.payload ++ (List.range (c.h 2)).flatMap fun i => wordBytes (u.param c.port c.tgtOf (c.h 0 + i)))
      ∧ c.fits d = true),
     sat (.paramGet st) s fun t => decide (lastReply t = c.reply false 0 d))) = (true, true) := by decide +kernel

theorem test_paramGet_count :
    (let b := live
     let st : Stream := .host
     let s : State := asked b .host (packetOf 0x03 127 0 ((u16 0x0010 ++ u16 65)))
     let c : Cmd := cmdOf s .host
     let u : State := afterTake s .host
     (decide (takesB s st 0x03 = true
      ∧ (c.h 2 = 0 ∨ 64 < c.h 2)),
     sat (.paramGet st) s fun t => decide (lastReply t = c.reply false 0x88 [0x10, 0, 0xFF, 0]))) = (true, true) := by decide +kernel

theorem test_paramGet_run :
    (let b := live
     let st : Stream := .host
     let r : Refuse := ⟨0x8D, [0x13, 0, 1, 0]⟩
     let s : State := asked b .host (packetOf 0x03 127 0 ((u16 0x0012 ++ u16 3)))
     let c : Cmd := cmdOf s .host
     let u : State := afterTake s .host
     (decide (takesB s st 0x03 = true
      ∧ 1 ≤ c.h 2
      ∧ c.h 2 ≤ 64
      ∧ runFault (c.h 0) 0 (c.h 2) = some r),
     sat (.paramGet st) s fun t => decide (lastReply t = c.reply false 0x8D [0x13, 0, 1, 0]))) = (true, true) := by decide +kernel

theorem test_paramSet :
    (let b := live
     let st : Stream := .host
     let s : State := asked b .host (packetOf 0x04 127 0 ((entryBytes 0x0010 0x3F#32 ++ entryBytes 0x0022 3#32)))
     let c : Cmd := cmdOf s .host
     let u : State := afterTake s .host
     (decide (takesB s st 0x04 = true
      ∧ c.tgt = 0
      ∧ checkEntries c.stream c.tag c.port (rangeOf (c.h 0)) 0 c.entries u = none),
     sat (.paramSet st) s fun t => decide (t.dev.readyExpect = 0x3F#32
      ∧ t.dev.svcCfg = 3#32))) = (true, true) := by decide +kernel

theorem test_paramSet_rows :
    (let b := live
     let st : Stream := .host
     let i : Instr := .keyRevokeBurn .host
     let s : State := asked b .host (packetOf 0x04 127 0 ((entryBytes 0x0010 0x3F#32 ++ entryBytes 0x0012 2#32)))
     let s : State := { s with dev := { s.dev with keyRevoked := 0 }, board := { s.board with runSlot := none } }
     let c : Cmd := cmdOf s .host
     let u : State := afterTake s .host
     (decide (takesB s st 0x04 = true
      ∧ c.tgt = 0
      ∧ checkEntries c.stream c.tag c.port (rangeOf (c.h 0)) 0 c.entries u = none
      ∧ ((i = .keyRevokeBurn st ∧ (c.entries.any fun e => e.1 == 0x0012) = true) ∨ (i = .phyRetrain st ∧ (c.entries.any fun e => e.1 == 0x1020 && bit1 e.2.2 2) = true) ∨ (i = .hostCfgWrite st ∧ (c.entries.any fun e => e.1 == 0x0030) = true))),
     sat (i) s fun t => decide (t.dev.readyExpect = 0x3F#32
      ∧ t.dev.keyRevoked = 2#4))) = (true, true) := by decide +kernel

theorem test_paramSet_refused :
    (let b := live
     let st : Stream := .host
     let r : Refuse := ⟨0x87, [0x11, 0, 1, 0]⟩
     let s : State := asked b .host (packetOf 0x04 127 0 ((entryBytes 0x0022 3#32 ++ entryBytes 0x0011 0#32)))
     let c : Cmd := cmdOf s .host
     let u : State := afterTake s .host
     (decide (takesB s st 0x04 = true
      ∧ c.tgt = 0
      ∧ checkEntries c.stream c.tag c.port (rangeOf (c.h 0)) 0 c.entries u = some r),
     sat (.paramSet st) s fun t => decide (t.dev.svcCfg = s.dev.svcCfg
      ∧ lastReply t = c.reply false 0x87 [0x11, 0, 1, 0]))) = (true, true) := by decide +kernel

theorem test_keyRevokeBurn :
    (let b := live
     let st : Stream := .host
     let z : List Byte := [0, 0]
     let v : Word := 2#32
     let s : State := asked b .host (packetOf 0x04 127 0 ((entryBytes 0x0012 2#32)))
     let s : State := { s with dev := { s.dev with keyRevoked := 0 }, board := { s.board with runSlot := none } }
     let c : Cmd := cmdOf s .host
     let u : State := afterTake s .host
     (decide (takesB s st 0x04 = true
      ∧ c.tgt = 0
      ∧ checkEntries c.stream c.tag c.port (rangeOf (c.h 0)) 0 c.entries u = none
      ∧ c.entries = [(0x0012, z, v)]),
     sat (.keyRevokeBurn st) s fun t => decide (t.dev.keyRevoked = 2#4))) = (true, true) := by decide +kernel

theorem test_phyRetrain :
    (let b := live
     let st : Stream := .host
     let z : List Byte := [0, 0]
     let v : Word := 7#32
     let s : State := asked b .host (packetOf 0x04 0 0 ((entryBytes 0x1020 7#32)))
     let c : Cmd := cmdOf s .host
     let u : State := afterTake s .host
     (decide (takesB s st 0x04 = true
      ∧ c.tgt = 0
      ∧ checkEntries c.stream c.tag c.port (rangeOf (c.h 0)) 0 c.entries u = none
      ∧ c.entries = [(0x1020, z, v)]
      ∧ bit1 v 2 = true),
     sat (.phyRetrain st) s fun t => decide ((t.port 0).cfg.phyCfg = 3#32))) = (true, true) := by decide +kernel

theorem test_hostCfgWrite :
    (let b := live
     let st : Stream := .host
     let z : List Byte := [0, 0]
     let v : Word := 0x2001#32
     let s : State := asked b .host (packetOf 0x04 127 0 ((entryBytes 0x0030 0x2001#32)))
     let c : Cmd := cmdOf s .host
     let u : State := afterTake s .host
     (decide (takesB s st 0x04 = true
      ∧ c.tgt = 0
      ∧ checkEntries c.stream c.tag c.port (rangeOf (c.h 0)) 0 c.entries u = none
      ∧ c.entries = [(0x0030, z, v)]
      ∧ st ≠ .ended),
     sat (.hostCfgWrite st) s fun t => decide (t.host.cfg = 0x2001#32
      ∧ t.host.quad = false))) = (true, true) := by decide +kernel

theorem test_paramCommit :
    (let b := live
     let st : Stream := .host
     let s : State := asked b .host (packetOf 0x05 127 0 ([]))
     let s : State := { s with store := { s.store with op := none }, yarrow := { s.yarrow with fwd := [] } }
     let c : Cmd := cmdOf s .host
     let u : State := afterTake s .host
     (decide (takesB s st 0x05 = true
      ∧ s.allAnswered = true
      ∧ s.store.op = none),
     sat (.paramCommit st) s fun t => decide (t.store.op.isSome = true
      ∧ t.store.genA = s.store.genA))) = (true, true) := by decide +kernel

theorem test_paramCommit_busy :
    (let b := live
     let st : Stream := .host
     let s : State := asked b .host (packetOf 0x05 127 0 ([]))
     let s : State := { s with store := { s.store with op := some (.erase 1 .host) }, yarrow := { s.yarrow with fwd := [] } }
     let c : Cmd := cmdOf s .host
     let u : State := afterTake s .host
     (decide (takesB s st 0x05 = true
      ∧ s.allAnswered = true
      ∧ s.store.op.isSome = true),
     sat (.paramCommit st) s fun t => decide (t.store.op = s.store.op))) = (true, true) := by decide +kernel

theorem test_paramCommit_waits :
    (let b := live
     let st : Stream := .host
     let s : State := { (asked b .host (packetOf 0x05 127 0 [])) with yarrow := { b.yarrow with fwd := [⟨9, .host, [], 0, 0, []⟩] } }
     (decide (s.allAnswered = false),
     sat (.paramCommit st) s fun t => decide ((t.pool.queues[qHost]).closed.length = 1))) = (true, true) := by decide +kernel

theorem test_queueStatus :
    (let b := live
     let st : Stream := .host
     let s : State := asked b .host (packetOf 0x70 127 0 ([0, 2, 0, 0]))
     let c : Cmd := cmdOf s .host
     let u : State := afterTake s .host
     let d : List Byte := u16 u.pool.free ++ u16 u.pool.resFree ++ wordBytes u.pool.rxNoCell ++ leBytes 1 (c.b 0) ++ leBytes 1 (c.b 1) ++ u16 u.pool.retired ++ ((u.pool.queues.toList.drop (c.b 0)).take (c.b 1)).flatMap queueEntry
     (decide (takesB s st 0x70 = true
      ∧ 1 ≤ c.b 1
      ∧ c.b 0 + c.b 1 ≤ 128
      ∧ d = u16 u.pool.free ++ u16 u.pool.resFree ++ wordBytes u.pool.rxNoCell ++ leBytes 1 (c.b 0) ++ leBytes 1 (c.b 1) ++ u16 u.pool.retired ++ ((u.pool.queues.toList.drop (c.b 0)).take (c.b 1)).flatMap queueEntry
      ∧ c.fits d = true),
     sat (.queueStatus st) s fun t => decide (lastReply t = c.reply false 0 d))) = (true, true) := by decide +kernel

theorem test_queueStatus_range :
    (let b := live
     let st : Stream := .host
     let s : State := asked b .host (packetOf 0x70 127 0 ([100, 29, 0, 0]))
     let c : Cmd := cmdOf s .host
     let u : State := afterTake s .host
     (decide (takesB s st 0x70 = true
      ∧ (c.b 1 = 0 ∨ 128 < c.b 0 + c.b 1)),
     sat (.queueStatus st) s fun t => decide (lastReply t = c.reply false 0x88 []))) = (true, true) := by decide +kernel

theorem test_queueFlush :
    (let b := live
     let st : Stream := .host
     let q : QueueId := qEvent
     let s : State := asked b .host (packetOf 0x71 127 0 ([9, 0, 0, 0]))
     let s : State := s |>.modPool fun m => m.modQ qEvent fun x => { x with closed := [mkPacket quiet128 .none [0, 0, 0, 0], mkPacket quiet128 .none [0, 0, 0, 0]] }
     let c : Cmd := cmdOf s .host
     let u : State := afterTake s .host
     (decide (takesB s st 0x71 = true
      ∧ c.b 0 = q.val
      ∧ flushable q.val = true),
     sat (.queueFlush st) s fun t => decide ((t.pool.queues[q]).closed.length = 0
      ∧ lastReply t = c.reply false 0 [2, 0, 0, 0]))) = (true, true) := by decide +kernel

theorem test_queueFlush_denied :
    (let b := live
     let st : Stream := .host
     let s : State := asked b .host (packetOf 0x71 127 0 ([2, 0, 0, 0]))
     let c : Cmd := cmdOf s .host
     let u : State := afterTake s .host
     (decide (takesB s st 0x71 = true
      ∧ flushable (c.b 0) = false),
     sat (.queueFlush st) s fun t => decide (lastReply t = c.reply false 0x87 []))) = (true, true) := by decide +kernel

theorem test_queueFlushAct :
    (let b := live
     let q : QueueId := qEvent
     let f : Flush := ⟨1, []⟩
     let s : State := (asked b .host []).modPool fun m => m.modQ qEvent fun x => { x with closed := [mkPacket quiet128 .none [0, 0, 0, 0], mkPacket quiet128 .none [1, 0, 0, 0]], flush := some ⟨1, []⟩ }
     (decide ((s.pool.queues[q]).popped = 0
      ∧ (s.pool.queues[q]).flush = some f
      ∧ f.replies = []),
     sat (.queueFlushAct q) s fun t => decide ((t.pool.queues[q]).closed = (s.pool.queues[q]).closed.drop f.count
      ∧ (t.pool.queues[q]).flush = none))) = (true, true) := by decide +kernel

theorem test_queueFlushAct_replies :
    (let b := live
     let q : QueueId := qEvent
     let f : Flush := ⟨1, [(.host, [0x71, 1, 0, 0, 0, 0]), (.host, [0x71, 2, 0, 0, 0, 0])]⟩
     let r : Stream × List Byte := (.host, [0x71, 1, 0, 0, 0, 0])
     let rs : List (Stream × List Byte) := [(.host, [0x71, 2, 0, 0, 0, 0])]
     let s : State := (asked b .host []).modPool fun m => m.modQ qEvent fun x => { x with closed := [mkPacket quiet128 .none [0, 0, 0, 0], mkPacket quiet128 .none [1, 0, 0, 0]], flush := some ⟨1, [(.host, [0x71, 1, 0, 0, 0, 0]), (.host, [0x71, 2, 0, 0, 0, 0])]⟩ }
     (decide ((s.pool.queues[q]).popped = 0
      ∧ (s.pool.queues[q]).flush = some f
      ∧ f.replies = r :: rs),
     sat (.queueFlushAct q) s fun t => decide ((t.pool.queues[qReply]).closed.length = 2
      ∧ (t.pool.queues[qEvent]).closed.length = 1))) = (true, true) := by decide +kernel

theorem test_queueFlushAct_waits :
    (let b := live
     let q : QueueId := qEvent
     let s : State := b.modPool fun m => m.modQ qEvent fun x => { x with popped := 1 }
     (decide (0 < (s.pool.queues[q]).popped),
     sat (.queueFlushAct q) s fun t => decide ((t.pool.queues[q]).popped = 1))) = (true, true) := by decide +kernel

theorem test_quarantineScanEnd :
    (let b := live
     let q : QueueId := qEvent
     let s : State := (asked b .host []).modPool fun m => m.modQ qEvent fun x => { x with closed := [mkPacket quiet128 .none [0, 0, 0, 0]], quarantine := true, scanAt := b.board.beat - 64 }
     (decide ((s.pool.queues[q]).quarantine = true
      ∧ 64 ≤ Beat.since s.now (s.pool.queues[q]).scanAt
      ∧ (s.pool.queues[q]).flush = none),
     sat (.quarantineScanEnd q) s fun t => decide ((t.pool.queues[q]).quarantine = false
      ∧ (t.pool.queues[q]).closed = []
      ∧ t.pool.retired = s.pool.retired + 1))) = (true, true) := by decide +kernel

theorem test_coalescingEnd :
    (let b := live
     let s : State := (asked b .host []).modPool fun m => { m with coalescing := true, coal := [] }
     (decide (s.pool.coalescing = true
      ∧ s.pool.wmark + s.pool.hyst ≤ s.pool.free
      ∧ s.pool.coal = []
      ∧ s.hubRuns = true
      ∧ s.coreStopped 8 = false),
     sat (.coalescingEnd) s fun t => decide (t.pool.coalescing = false))) = (true, true) := by decide +kernel

theorem test_coalescingEnd_counts :
    (let b := live
     let e : CoalEntry := ⟨false, 3, Vector.replicate 7 1, 5, 9⟩
     let s : State := { (asked b .host []) with host := .reset }
     let s : State := s |>.modPool fun m => { m with coalescing := true, coal := [⟨false, 3, Vector.replicate 7 1, 5, 9⟩] }
     (decide (s.pool.coalescing = true
      ∧ s.pool.wmark + s.pool.hyst ≤ s.pool.free
      ∧ s.pool.coal = [e]
      ∧ e.service = false
      ∧ e.port.toNat < 128
      ∧ bit1 s.host.maskHost 10 = true
      ∧ s.hubRuns = true
      ∧ s.coreStopped 8 = false),
     sat (.coalescingEnd) s fun t => decide (t.pool.coal = []
      ∧ (s.pool.room qEvent 1 = true → t.lastEvent = some (eventBytes 0xCA 0x7F true (coalPayload [e])))))) = (true, true) := by decide +kernel

theorem test_eventSubscribe :
    (let b := live
     let st : Stream := .host
     let s : State := asked b .host (packetOf 0x72 127 0 ([0, 0, 0, 1, 0, 0, 0, 0]))
     let c : Cmd := cmdOf s .host
     let u : State := afterTake s .host
     (decide (takesB s st 0x72 = true
      ∧ st = .host),
     sat (.eventSubscribe st) s fun t => decide (t.host.maskHost = 0x01000003#32
      ∧ lastReply t = c.reply false 0 [0, 0, 0, 0]))) = (true, true) := by decide +kernel

theorem test_eventSubscribe_svc :
    (let b := live
     let st : Stream := .service
     let s : State := asked b .host (packetOf 0x72 127 0 ([]))
     let s : State := asked b .service (packetOf 0x72 127 0 [0, 0, 0, 1, 0, 0, 0, 0])
     let s : State := { s with dev := { s.dev with svcCfg := 0 } }
     let c : Cmd := cmdOf s .service
     let u : State := afterTake s .service
     (decide (takesB s st 0x72 = true
      ∧ st = .service),
     sat (.eventSubscribe st) s fun t => decide (t.host.maskSvc = 0x01000003#32))) = (true, true) := by decide +kernel

theorem test_eventSubscribe_fwd :
    (let b := live
     let st : Stream := .forwarded
     let s : State := asked b .host (packetOf 0x72 127 0 ([]))
     let s : State := asked b .forwarded (packetOf 0x72 127 0 [0, 0, 0, 1, 0, 0, 0, 0])
     let c : Cmd := cmdOf s .forwarded
     let u : State := afterTake s .forwarded
     (decide (takesB s st 0x72 = true
      ∧ st = .forwarded),
     sat (.eventSubscribe st) s fun t => decide (t.host.maskHost = s.host.maskHost))) = (true, true) := by decide +kernel

def upP (s : State) (f : Port → Port) : State := s.modPort 0 f
def hdrBytes : List Byte := State.reset.policy.classes[(0 : Fin 16)].header.bytes
def tmplBytes (t a b l : Nat) : List Byte := leBytes 1 t ++ [0] ++ u16 a ++ u16 b ++ u16 l
def fiveVolt : List Byte := tmplBytes 1 100 0 300 ++ (List.replicate 10 (tmplBytes 0 0 0 0)).flatten
def decision : Decision := { id := 7, port := 0, point := 2, rule := 0, cls := 0, dflt := 0, deadline := 0xFFFFFF#48, obj := 0, pdo := 0, asked := (Machine.Class.reset).rules[0] }

/-! ### Commands of a port and of the policy (chapters 05, 09, 16) -/

theorem test_portConfig :
    (let b := live
     let st : Stream := .host
     let s : State := asked b .host (packetOf 0x10 0 0 ((wordBytes 0x0CCB3260#32 ++ wordBytes 3#32 ++ wordBytes 0x00501E14#32 ++ wordBytes 60#32)))
     let c : Cmd := cmdOf s .host
     let u : State := afterTake s .host
     (decide (takesB s st 0x10 = true
      ∧ checkEntries c.stream c.tag c.port 1 0 c.configWords u = none),
     sat (.portConfig st) s fun t => decide ((t.port 0).cfg.classSel = 3#32
      ∧ (t.port 0).cfg.dryRecheck = 60#32))) = (true, true) := by decide +kernel

theorem test_portConfig_refused :
    (let b := live
     let st : Stream := .host
     let r : Refuse := ⟨0x88, [4, 0x10, 3, 0]⟩
     let s : State := asked b .host (packetOf 0x10 0 0 ((wordBytes 0x0CCB3260#32 ++ wordBytes 3#32 ++ wordBytes 0x00501E14#32 ++ wordBytes 1#32)))
     let c : Cmd := cmdOf s .host
     let u : State := afterTake s .host
     (decide (takesB s st 0x10 = true
      ∧ checkEntries c.stream c.tag c.port 1 0 c.configWords u = some r),
     sat (.portConfig st) s fun t => decide ((t.port 0).cfg.classSel = (s.port 0).cfg.classSel))) = (true, true) := by decide +kernel

theorem test_portDisable :
    (let b := live
     let st : Stream := .host
     let s : State := asked b .host (packetOf 0x11 0 0 ([0, 0, 0, 0]))
     let s : State := upP { s with faults := .reset } fun x => { x with tc := { x.tc with trimFail := none, st := .unattachedSrc } }
     let c : Cmd := cmdOf s .host
     let u : State := afterTake s .host
     (decide (takesB s st 0x11 = true
      ∧ c.b 0 = 0
      ∧ (s.port c.port).tc.trimFail = none
      ∧ s.faults.hold = false
      ∧ (s.port c.port).tc.st ≠ .disabled),
     sat (.portDisable st) s fun t => decide ((t.port 0).tc.st = .disabled
      ∧ (t.port 0).cfg.enable = 0#32
      ∧ (t.port 0).guard.gateOn = false))) = (true, true) := by decide +kernel

theorem test_portDisable_again :
    (let b := live
     let st : Stream := .host
     let s : State := asked b .host (packetOf 0x11 0 0 ([0, 0, 0, 0]))
     let s : State := upP { s with faults := .reset } fun x => { x with tc := { x.tc with trimFail := none, st := .disabled } }
     let c : Cmd := cmdOf s .host
     let u : State := afterTake s .host
     (decide (takesB s st 0x11 = true
      ∧ c.b 0 = 0
      ∧ (s.port c.port).tc.trimFail = none
      ∧ s.faults.hold = false
      ∧ (s.port c.port).tc.st = .disabled),
     sat (.portDisable st) s fun t => decide ((t.port 0).tc.st = .disabled))) = (true, true) := by decide +kernel

theorem test_portEnable :
    (let b := live
     let st : Stream := .host
     let s : State := asked b .host (packetOf 0x11 0 0 ([1, 0, 0, 0]))
     let s : State := upP { s with faults := .reset, clusters := Vector.replicate 8 { Cluster.reset with trimmed := true, trimPart := .whole } } fun x => { x with tc := { x.tc with trimFail := none, st := .disabled } }
     let c : Cmd := cmdOf s .host
     let u : State := afterTake s .host
     (decide (takesB s st 0x11 = true
      ∧ c.b 0 = 1
      ∧ (s.port c.port).tc.trimFail = none
      ∧ s.faults.hold = false
      ∧ (s.port c.port).tc.st.down = true
      ∧ u.portTrimmed c.port = true),
     sat (.portEnable st) s fun t => decide ((t.port 0).tc.st = .calibrating
      ∧ (t.port 0).cfg.enable = 1#32
      ∧ (t.port 0).harn.rDrop = (s.port 0).harn.rDrop))) = (true, true) := by decide +kernel

theorem test_portEnable_untrimmed :
    (let b := live
     let st : Stream := .host
     let s : State := asked b .host (packetOf 0x11 5 0 ([1, 0, 0, 0]))
     let s : State := { s with faults := .reset, clusters := Vector.replicate 8 { Cluster.reset with trimmed := true, trimPart := .service } }
     let s : State := s |>.modPort 5 fun x => { x with tc := { x.tc with trimFail := none, st := .disabled } }
     let c : Cmd := cmdOf s .host
     let u : State := afterTake s .host
     (decide (takesB s st 0x11 = true
      ∧ c.b 0 = 1
      ∧ (s.port c.port).tc.trimFail = none
      ∧ s.faults.hold = false
      ∧ (s.port c.port).tc.st.down = true
      ∧ u.portTrimmed c.port = false),
     sat (.portEnable st) s fun t => decide ((t.port 5).tc.st = .disabled
      ∧ (t.port 5).cfg.enable = 1#32
      ∧ (t.cluster 0).trimStart = true))) = (true, true) := by decide +kernel

theorem test_portEnable_up :
    (let b := live
     let st : Stream := .host
     let s : State := asked b .host (packetOf 0x11 0 0 ([1, 0, 0, 0]))
     let s : State := upP { s with faults := .reset } fun x => { x with tc := { x.tc with trimFail := none, st := .attachedSrc } }
     let c : Cmd := cmdOf s .host
     let u : State := afterTake s .host
     (decide (takesB s st 0x11 = true
      ∧ c.b 0 = 1
      ∧ (s.port c.port).tc.trimFail = none
      ∧ s.faults.hold = false
      ∧ (s.port c.port).tc.st.down = false),
     sat (.portEnable st) s fun t => decide ((t.port 0).tc.st = .attachedSrc))) = (true, true) := by decide +kernel

theorem test_portEnableRecalibrate :
    (let b := live
     let st : Stream := .host
     let s : State := asked b .host (packetOf 0x11 0 0 ([2, 0, 0, 0]))
     let s : State := upP { s with faults := .reset, clusters := Vector.replicate 8 { Cluster.reset with trimmed := true, trimPart := .whole } } fun x => { x with tc := { x.tc with trimFail := none, st := .lockout } }
     let c : Cmd := cmdOf s .host
     let u : State := afterTake s .host
     (decide (takesB s st 0x11 = true
      ∧ c.b 0 = 2
      ∧ (s.port c.port).tc.trimFail = none
      ∧ s.faults.hold = false
      ∧ (s.port c.port).tc.st.down = true
      ∧ u.portTrimmed c.port = true),
     sat (.portEnableRecalibrate st) s fun t => decide ((t.port 0).tc.st = .calibrating
      ∧ (t.port 0).guard.trips = 0))) = (true, true) := by decide +kernel

theorem test_portEnableRecalibrate_up :
    (let b := live
     let st : Stream := .host
     let s : State := asked b .host (packetOf 0x11 0 0 ([2, 0, 0, 0]))
     let s : State := upP { s with faults := .reset } fun x => { x with tc := { x.tc with trimFail := none, st := .attachedSrc } }
     let c : Cmd := cmdOf s .host
     let u : State := afterTake s .host
     (decide (takesB s st 0x11 = true
      ∧ c.b 0 = 2
      ∧ (s.port c.port).tc.trimFail = none
      ∧ s.faults.hold = false
      ∧ (s.port c.port).tc.st.down = false),
     sat (.portEnableRecalibrate st) s fun t => decide ((t.port 0).tc.st = .attachedSrc))) = (true, true) := by decide +kernel

theorem test_portEnable_trim :
    (let b := live
     let st : Stream := .host
     let s : State := asked b .host (packetOf 0x11 0 0 ([1, 0, 0, 0]))
     let s : State := upP s fun x => { x with tc := { x.tc with trimFail := some false, st := .disabled } }
     let c : Cmd := cmdOf s .host
     let u : State := afterTake s .host
     (decide (takesB s st 0x11 = true
      ∧ c.b 0 = 1
      ∧ (s.port c.port).tc.trimFail.isSome = true),
     sat (.portEnable st) s fun t => decide ((t.port 0).tc.st = .disabled))) = (true, true) := by decide +kernel

theorem test_portEnable_hold :
    (let b := live
     let st : Stream := .host
     let s : State := asked b .host (packetOf 0x11 0 0 ([1, 0, 0, 0]))
     let s : State := upP { s with faults := { s.faults with hold := true } } fun x => { x with tc := { x.tc with trimFail := none } }
     let c : Cmd := cmdOf s .host
     let u : State := afterTake s .host
     (decide (takesB s st 0x11 = true
      ∧ c.b 0 = 1
      ∧ (s.port c.port).tc.trimFail = none
      ∧ s.faults.hold = true),
     sat (.portEnable st) s fun t => decide ((t.port 0).tc.st = (s.port 0).tc.st))) = (true, true) := by decide +kernel

theorem test_portStatus :
    (let b := live
     let st : Stream := .host
     let s : State := asked b .host (packetOf 0x12 0 0 ([]))
     let c : Cmd := cmdOf s .host
     let u : State := afterTake s .host
     (decide (takesB s st 0x12 = true
      ∧ c.fits (u.portStatusBytes c.port) = true),
     sat (.portStatus st) s fun t => decide ((lastReply t).length = 48))) = (true, true) := by decide +kernel

theorem test_portCalStatus :
    (let b := live
     let st : Stream := .host
     let s : State := asked b .host (packetOf 0x13 0 0 ([]))
     let c : Cmd := cmdOf s .host
     let u : State := afterTake s .host
     (decide (takesB s st 0x13 = true
      ∧ c.fits (calStatusBytes (u.cluster (clusterOf c.port)) c.port (u.port c.port)) = true),
     sat (.portCalStatus st) s fun t => decide ((lastReply t).length = 60))) = (true, true) := by decide +kernel

theorem test_portMoistureRead :
    (let b := live
     let st : Stream := .host
     let s : State := asked b .host (packetOf 0x14 0 0 ([0, 0, 0, 0]))
     let c : Cmd := cmdOf s .host
     let u : State := afterTake s .host
     (decide (takesB s st 0x14 = true
      ∧ c.b 0 = 0
      ∧ c.fits (u.port c.port).moistBytes = true),
     sat (.portMoistureRead st) s fun t => decide ((lastReply t).length = 40))) = (true, true) := by decide +kernel

theorem test_portMoistureRecheck :
    (let b := live
     let st : Stream := .host
     let s : State := asked b .host (packetOf 0x14 0 0 ([1, 0, 0, 0]))
     let s : State := upP s fun x => { x with tc := { x.tc with st := .dryWait } }
     let c : Cmd := cmdOf s .host
     let u : State := afterTake s .host
     (decide (takesB s st 0x14 = true
      ∧ c.b 0 = 1
      ∧ (s.port c.port).tc.st = .dryWait
      ∧ c.fits (u.port c.port).moistBytes = true),
     sat (.portMoistureRecheck st) s fun t => decide ((t.port 0).timers[tHealth].armed = true
      ∧ (t.port 0).timers[tHealth].count = 1#16))) = (true, true) := by decide +kernel

theorem test_portMoistureRecheck_state :
    (let b := live
     let st : Stream := .host
     let s : State := asked b .host (packetOf 0x14 0 0 ([1, 0, 0, 0]))
     let s : State := upP s fun x => { x with tc := { x.tc with st := .attachedSrc } }
     let c : Cmd := cmdOf s .host
     let u : State := afterTake s .host
     (decide (takesB s st 0x14 = true
      ∧ c.b 0 = 1
      ∧ (s.port c.port).tc.st ≠ .dryWait),
     sat (.portMoistureRecheck st) s fun t => decide ((t.port 0).timers = (s.port 0).timers))) = (true, true) := by decide +kernel

theorem test_portErrorRecovery :
    (let b := live
     let st : Stream := .host
     let s : State := asked b .host (packetOf 0x18 0 0 ([]))
     let s : State := upP { s with faults := .reset } fun x => { x with tc := { x.tc with st := .attachedSrc } }
     let c : Cmd := cmdOf s .host
     let u : State := afterTake s .host
     (decide (takesB s st 0x18 = true
      ∧ s.faults.hold = false
      ∧ (s.port c.port).tc.st.recovers = true),
     sat (.portErrorRecovery st) s fun t => decide ((t.port 0).tc.st = .errorRecovery
      ∧ (t.port 0).guard.gateOn = false))) = (true, true) := by decide +kernel

theorem test_portErrorRecovery_state :
    (let b := live
     let st : Stream := .host
     let s : State := asked b .host (packetOf 0x18 0 0 ([]))
     let s : State := upP { s with faults := .reset } fun x => { x with tc := { x.tc with st := .lockout } }
     let c : Cmd := cmdOf s .host
     let u : State := afterTake s .host
     (decide (takesB s st 0x18 = true
      ∧ (s.faults.hold = true ∨ (s.port c.port).tc.st.down = true)),
     sat (.portErrorRecovery st) s fun t => decide ((t.port 0).tc.st = .lockout))) = (true, true) := by decide +kernel

theorem test_portErrorRecovery_there :
    (let b := live
     let st : Stream := .host
     let s : State := asked b .host (packetOf 0x18 0 0 ([]))
     let s : State := upP { s with faults := .reset } fun x => { x with tc := { x.tc with st := .errorRecovery } }
     let c : Cmd := cmdOf s .host
     let u : State := afterTake s .host
     (decide (takesB s st 0x18 = true
      ∧ s.faults.hold = false
      ∧ (s.port c.port).tc.st = .errorRecovery),
     sat (.portErrorRecovery st) s fun t => decide ((t.port 0).timers = (s.port 0).timers))) = (true, true) := by decide +kernel

theorem test_policyWrite_header :
    (let b := live
     let st : Stream := .host
     let s : State := asked b .host (packetOf 0x20 127 0 (([3, 0, 0, 0] ++ hdrBytes)))
     let c : Cmd := cmdOf s .host
     let u : State := afterTake s .host
     (decide (takesB s st 0x20 = true
      ∧ c.policyOk = true
      ∧ c.b 1 = 0
      ∧ (headerOf (c.payload.drop 4)).ok = true),
     sat (.policyWrite st) s fun t => decide (t.policy.writes.length = s.policy.writes.length + 1))) = (true, true) := by decide +kernel

theorem test_policyWrite_rules :
    (let b := live
     let st : Stream := .host
     let s : State := asked b .host (packetOf 0x20 127 0 (([3, 1, 2, 1] ++ zeros 16)))
     let c : Cmd := cmdOf s .host
     let u : State := afterTake s .host
     (decide (takesB s st 0x20 = true
      ∧ c.policyOk = true
      ∧ c.b 1 ≠ 0
      ∧ c.rules.all Rule.ok = true),
     sat (.policyWrite st) s fun t => decide (t.policy.writes.length = s.policy.writes.length + 1))) = (true, true) := by decide +kernel

theorem test_policyWrite_range :
    (let b := live
     let st : Stream := .host
     let s : State := asked b .host (packetOf 0x20 127 0 (([16, 0, 0, 0] ++ hdrBytes)))
     let c : Cmd := cmdOf s .host
     let u : State := afterTake s .host
     (decide (takesB s st 0x20 = true
      ∧ (c.policyOk = false ∨ (c.b 1 = 0 ∧ (headerOf (c.payload.drop 4)).ok = false) ∨ (c.b 1 ≠ 0 ∧ c.rules.all Rule.ok = false))),
     sat (.policyWrite st) s fun t => decide (t.policy.writes = s.policy.writes))) = (true, true) := by decide +kernel

theorem test_policyRead :
    (let b := live
     let st : Stream := .host
     let s : State := asked b .host (packetOf 0x21 127 0 ([3, 0, 0, 0]))
     let c : Cmd := cmdOf s .host
     let u : State := afterTake s .host
     (decide (takesB s st 0x21 = true
      ∧ c.policyOk = true
      ∧ c.b 1 = 0
      ∧ c.fits (c.payload.take 4 ++ s.policy.written[c.cls].header.bytes) = true),
     sat (.policyRead st) s fun t => decide ((lastReply t).length = 28))) = (true, true) := by decide +kernel

theorem test_policyRead_rules :
    (let b := live
     let st : Stream := .host
     let s : State := asked b .host (packetOf 0x21 127 0 ([3, 1, 2, 2]))
     let c : Cmd := cmdOf s .host
     let u : State := afterTake s .host
     let d : List Byte := c.payload.take 4 ++ ((s.policy.written[c.cls].rules.toList.drop (c.b 2)).take (c.b 3)).flatMap Rule.bytes
     (decide (takesB s st 0x21 = true
      ∧ c.policyOk = true
      ∧ c.b 1 ≠ 0
      ∧ d = c.payload.take 4 ++ ((s.policy.written[c.cls].rules.toList.drop (c.b 2)).take (c.b 3)).flatMap Rule.bytes
      ∧ c.fits d = true),
     sat (.policyRead st) s fun t => decide ((lastReply t).length = 44))) = (true, true) := by decide +kernel

theorem test_policyRead_range :
    (let b := live
     let st : Stream := .host
     let s : State := asked b .host (packetOf 0x21 127 0 ([3, 2, 0, 0]))
     let c : Cmd := cmdOf s .host
     let u : State := afterTake s .host
     (decide (takesB s st 0x21 = true
      ∧ c.policyOk = false),
     sat (.policyRead st) s fun t => decide (lastReply t = c.reply false 0x88 []))) = (true, true) := by decide +kernel

theorem test_pdoTemplateWrite :
    (let b := live
     let st : Stream := .host
     let s : State := asked b .host (packetOf 0x28 127 0 (([3, 0, 0, 0] ++ fiveVolt)))
     let c : Cmd := cmdOf s .host
     let u : State := afterTake s .host
     (decide (takesB s st 0x28 = true
      ∧ c.b 0 ≤ 15
      ∧ c.b 1 ≤ 1
      ∧ templateOk (c.b 1 == 1) c.template.toList = true),
     sat (.pdoTemplateWrite st) s fun t => decide (t.policy.writes.length = s.policy.writes.length + 1))) = (true, true) := by decide +kernel

theorem test_pdoTemplateWrite_range :
    (let b := live
     let st : Stream := .host
     let s : State := asked b .host (packetOf 0x28 127 0 (([3, 0, 0, 0] ++ (List.replicate 11 (tmplBytes 0 0 0 0)).flatten)))
     let c : Cmd := cmdOf s .host
     let u : State := afterTake s .host
     (decide (takesB s st 0x28 = true
      ∧ (15 < c.b 0 ∨ 1 < c.b 1 ∨ templateOk (c.b 1 == 1) c.template.toList = false)),
     sat (.pdoTemplateWrite st) s fun t => decide (t.policy.writes = s.policy.writes))) = (true, true) := by decide +kernel

theorem test_decideOpen :
    (let b := live
     let st : Stream := .host
     let d : Decision := decision
     let s : State := asked b .host (packetOf 0x22 0 0 ([7, 0, 0, 0, 0, 0, 0, 0]))
     let s : State := { s with policy := { s.policy with decisions := [decision], answers := [] }, board := { s.board with beat := 1000 } }
     let c : Cmd := cmdOf s .host
     let u : State := afterTake s .host
     (decide (takesB s st 0x22 = true
      ∧ (s.policy.decisions.find? fun d => d.id == c.h 0 && d.port == c.port && !decide (d.deadline ≤ s.now)) = some d
      ∧ permitted d.point (c.b 2) = true
      ∧ c.b 2 ≠ ocAsk
      ∧ c.w 4 = 0),
     sat (.decide st) s fun t => decide (t.policy.decisions.length = 0
      ∧ t.policy.answers.length = 1))) = (true, true) := by decide +kernel

theorem test_decide_unknown :
    (let b := live
     let st : Stream := .host
     let s : State := asked b .host (packetOf 0x22 0 0 ([8, 0, 0, 0, 0, 0, 0, 0]))
     let s : State := { s with policy := { s.policy with decisions := [decision], answers := [] }, board := { s.board with beat := 1000 } }
     let c : Cmd := cmdOf s .host
     let u : State := afterTake s .host
     (decide (takesB s st 0x22 = true
      ∧ (s.policy.decisions.find? fun d => d.id == c.h 0 && d.port == c.port && !decide (d.deadline ≤ s.now)) = none),
     sat (.decide st) s fun t => decide (t.policy.decisions.length = 1))) = (true, true) := by decide +kernel

theorem test_decide_range :
    (let b := live
     let st : Stream := .host
     let d : Decision := decision
     let s : State := asked b .host (packetOf 0x22 0 0 ([7, 0, 9, 0, 0, 0, 0, 0]))
     let s : State := { s with policy := { s.policy with decisions := [decision], answers := [] }, board := { s.board with beat := 1000 } }
     let c : Cmd := cmdOf s .host
     let u : State := afterTake s .host
     (decide (takesB s st 0x22 = true
      ∧ (s.policy.decisions.find? fun d => d.id == c.h 0 && d.port == c.port && !decide (d.deadline ≤ s.now)) = some d
      ∧ (permitted d.point (c.b 2) = false ∨ c.b 2 = ocAsk)),
     sat (.decide st) s fun t => decide (t.policy.decisions.length = 1))) = (true, true) := by decide +kernel

/-- P0 is attached as Source under contract and idle. -/
def pdReady (s : State) (f : Pd → Pd) : State :=
  ({ s with policy := .reset, faults := .reset } : State).modPort 0 fun x =>
    { x with tc := { x.tc with st := .attachedSrc }, pd := f { Pd.reset with powerSource := true, dfp := true, contract := { Pd.reset.contract with pos := 1 } }
             ctx := Vector.replicate 3 { Ctx.reset with rev := 2, vconnOk := true }, timers := Vector.replicate 12 .reset }
def pdDown (s : State) : State := (pdReady s id).modPort 0 fun x => { x with tc := { x.tc with st := .disabled } }
def aVdm : VdmReq := { why := .modeExit, tgt := .sop, message := [], stream := .host, tag := 1, sent := false, acked := false, ams := false, busyAt := none, busy := 0, got := [] }
def aSwap : SwapReq := { kind := .dr, retries := 0, attempts := 0, stream := .host, tag := 1, from_ := 0, sent := false, crossed := false }
def known1234 : SvidEntry := { tgt1 := false, svid := 0x1234#16, known := true, modes := [1#32, 2#32] }

/-! ### PD commands of the host (chapters 08, 10, 16) -/

theorem test_pdSend :
    (let b := live
     let st : Stream := .host
     let h : Half := 7#16
     let s : State := asked b .host (packetOf 0x30 0 0 ((u16 7 ++ [0, 0])))
     let s : State := pdReady s id
     let c : Cmd := cmdOf s .host
     let u : State := afterTake s .host
     (decide (takesB s st 0x30 = true
      ∧ h = BitVec.ofNat 16 (c.h 0)
      ∧ c.sendOk = true
      ∧ hExt h = false
      ∧ ((u.port c.port).rev = 1 → c.sendRev1 = true)
      ∧ u.free c.port = true
      ∧ (u.port c.port).pd.send = none),
     sat (.pdSend st) s fun t => decide ((t.port 0).pd.send.isSome = true))) = (true, true) := by decide +kernel

theorem test_pdSend_extended :
    (let b := live
     let st : Stream := .host
     let h : Half := 0x8006#16
     let s : State := asked b .host (packetOf 0x30 0 0 ((u16 0x8006 ++ [2, 0, 1, 1, 0, 0])))
     let s : State := pdReady s id
     let c : Cmd := cmdOf s .host
     let u : State := afterTake s .host
     (decide (takesB s st 0x30 = true
      ∧ h = BitVec.ofNat 16 (c.h 0)
      ∧ c.sendOk = true
      ∧ hExt h = true
      ∧ ((u.port c.port).rev = 1 → c.sendRev1 = true)
      ∧ u.free c.port = true
      ∧ (u.port c.port).pd.send = none),
     sat (.pdSend st) s fun t => decide ((t.port 0).pd.send.isSome = true))) = (true, true) := by decide +kernel

theorem test_pdSend_range :
    (let b := live
     let st : Stream := .host
     let s : State := asked b .host (packetOf 0x30 0 0 ((u16 13 ++ [0, 0])))
     let c : Cmd := cmdOf s .host
     let u : State := afterTake s .host
     (decide (takesB s st 0x30 = true
      ∧ c.sendOk = false),
     sat (.pdSend st) s fun t => decide (lastReply t = c.reply false 0x88 []))) = (true, true) := by decide +kernel

theorem test_pdSend_state :
    (let b := live
     let st : Stream := .host
     let s : State := asked b .host (packetOf 0x30 0 0 ((u16 7 ++ [0, 0])))
     let s : State := pdDown s
     let c : Cmd := cmdOf s .host
     let u : State := afterTake s .host
     (decide (takesB s st 0x30 = true
      ∧ c.sendOk = true
      ∧ (((u.port c.port).rev = 1 ∧ c.sendRev1 = false) ∨ u.free c.port = false ∨ (u.port c.port).pd.send ≠ none)),
     sat (.pdSend st) s fun t => decide ((t.port 0).pd.send.isSome = false))) = (true, true) := by decide +kernel

theorem test_pdLastRx :
    (let b := live
     let st : Stream := .host
     let s : State := asked b .host (packetOf 0x31 0 1 ([]))
     let c : Cmd := cmdOf s .host
     let u : State := afterTake s .host
     (decide (takesB s st 0x31 = true
      ∧ c.fits ((u.port c.port).ctxOf c.tgtOf).lastBytes = true),
     sat (.pdLastRx st) s fun t => decide ((lastReply t).length = 24))) = (true, true) := by decide +kernel

theorem test_pdSoftReset :
    (let b := live
     let st : Stream := .host
     let s : State := asked b .host (packetOf 0x32 0 0 ([]))
     let s : State := pdReady s id
     let c : Cmd := cmdOf s .host
     let u : State := afterTake s .host
     (decide (takesB s st 0x32 = true
      ∧ (u.port c.port).tc.st.pd = true
      ∧ (c.tgtOf = .sop ∨ ((u.port c.port).ctxOf c.tgtOf).vconnOk = true)
      ∧ (u.port c.port).inPower = false
      ∧ (u.port c.port).pd.soft = none),
     sat (.pdSoftReset st) s fun t => decide (t.txWaits 0 .sop (ctlMsg 13) = true))) = (true, true) := by decide +kernel

theorem test_pdSoftReset_state :
    (let b := live
     let st : Stream := .host
     let s : State := asked b .host (packetOf 0x32 0 0 ([]))
     let s : State := pdDown s
     let c : Cmd := cmdOf s .host
     let u : State := afterTake s .host
     (decide (takesB s st 0x32 = true
      ∧ ((u.port c.port).tc.st.pd = false ∨ (c.tgtOf ≠ .sop ∧ ((u.port c.port).ctxOf c.tgtOf).vconnOk = false) ∨ (u.port c.port).inPower = true)),
     sat (.pdSoftReset st) s fun t => decide ((t.port 0).pd.soft.isSome = false))) = (true, true) := by decide +kernel

theorem test_pdSoftReset_busy :
    (let b := live
     let st : Stream := .host
     let s : State := asked b .host (packetOf 0x32 0 0 ([]))
     let s : State := pdReady s fun d => { d with soft := some { message := [], expects := true, stream := .host, tag := 1, tgt := .sop, queued := true, done := none } }
     let c : Cmd := cmdOf s .host
     let u : State := afterTake s .host
     (decide (takesB s st 0x32 = true
      ∧ (u.port c.port).tc.st.pd = true
      ∧ (c.tgtOf = .sop ∨ ((u.port c.port).ctxOf c.tgtOf).vconnOk = true)
      ∧ (u.port c.port).inPower = false
      ∧ (u.port c.port).pd.soft ≠ none),
     sat (.pdSoftReset st) s fun t => decide (lastReply t = c.reply false 0x86 []))) = (true, true) := by decide +kernel

theorem test_pdHardReset :
    (let b := live
     let st : Stream := .host
     let s : State := asked b .host (packetOf 0x33 0 0 ([]))
     let s : State := pdReady s id
     let c : Cmd := cmdOf s .host
     let u : State := afterTake s .host
     (decide (takesB s st 0x33 = true
      ∧ (u.port c.port).tc.st.pd = true),
     sat (.pdHardReset st) s fun t => decide (lastReply t = c.reply false 0 []))) = (true, true) := by decide +kernel

theorem test_pdHardReset_state :
    (let b := live
     let st : Stream := .host
     let s : State := asked b .host (packetOf 0x33 0 0 ([]))
     let s : State := pdDown s
     let c : Cmd := cmdOf s .host
     let u : State := afterTake s .host
     (decide (takesB s st 0x33 = true
      ∧ (u.port c.port).tc.st.pd = false),
     sat (.pdHardReset st) s fun t => decide (lastReply t = c.reply false 0x8B []))) = (true, true) := by decide +kernel

theorem test_pdCableReset :
    (let b := live
     let st : Stream := .host
     let s : State := asked b .host (packetOf 0x34 0 0 ([]))
     let s : State := (pdReady s id).modPort 0 fun x => { x with phy := { x.phy with since1 := 128, since2 := 128 } }
     let c : Cmd := cmdOf s .host
     let u : State := afterTake s .host
     (decide (takesB s st 0x34 = true
      ∧ ((u.port c.port).ctxOf .sop1).vconnOk = true
      ∧ (u.port c.port).pd.dfp = true
      ∧ (u.port c.port).lineIdle = true
      ∧ (u.port c.port).transmits s.now = false
      ∧ (u.port c.port).pd.flight.any Flight.onWire = false),
     sat (.pdCableReset st) s fun t => decide (((t.port 0).ctxOf .sop1).txId = 0#3
      ∧ (t.port 0).pd.cableDue = false))) = (true, true) := by decide +kernel

theorem test_pdCableReset_waits :
    (let b := live
     let st : Stream := .host
     let s : State := asked b .host (packetOf 0x34 0 0 ([]))
     let s : State := (pdReady s id).modPort 0 fun x => { x with phy := { x.phy with since1 := 0, since2 := 0 } }
     let c : Cmd := cmdOf s .host
     let u : State := afterTake s .host
     (decide (takesB s st 0x34 = true
      ∧ ((u.port c.port).ctxOf .sop1).vconnOk = true
      ∧ (u.port c.port).pd.dfp = true
      ∧ ((u.port c.port).lineIdle = false ∨ (u.port c.port).transmits s.now = true ∨ (u.port c.port).pd.flight.any Flight.onWire = true)),
     sat (.pdCableReset st) s fun t => decide ((t.port 0).pd.cableDue = true))) = (true, true) := by decide +kernel

theorem test_pdCableReset_state :
    (let b := live
     let st : Stream := .host
     let s : State := asked b .host (packetOf 0x34 0 0 ([]))
     let s : State := pdReady s fun d => { d with dfp := false }
     let c : Cmd := cmdOf s .host
     let u : State := afterTake s .host
     (decide (takesB s st 0x34 = true
      ∧ (((u.port c.port).ctxOf .sop1).vconnOk = false ∨ (u.port c.port).pd.dfp = false)),
     sat (.pdCableReset st) s fun t => decide ((t.port 0).ctx = (s.port 0).ctx))) = (true, true) := by decide +kernel

theorem test_swapRequestPr :
    (let b := live
     let st : Stream := .host
     let s : State := asked b .host (packetOf 0x38 0 0 ([0, 7, 0, 0]))
     let s : State := (pdReady s id).modPort 0 fun x => { x with cfg := { x.cfg with roleCfg := 0x0CCB3262#32 }, tc := { x.tc with role := 2 } }
     let c : Cmd := cmdOf s .host
     let u : State := afterTake s .host
     (decide (takesB s st 0x38 = true
      ∧ c.b 0 = 0
      ∧ c.b 1 ≤ 7
      ∧ (u.port c.port).pd.swapReq = none
      ∧ (u.port c.port).pd.contract.pos ≠ 0
      ∧ u.swapPrecheck c.port .pr = none),
     sat (.swapRequestPr st) s fun t => decide ((t.port 0).pd.swapReq.isSome = true))) = (true, true) := by decide +kernel

theorem test_swapRequestDr :
    (let b := live
     let st : Stream := .host
     let s : State := asked b .host (packetOf 0x38 0 0 ([1, 7, 0, 0]))
     let s : State := pdReady s id
     let c : Cmd := cmdOf s .host
     let u : State := afterTake s .host
     (decide (takesB s st 0x38 = true
      ∧ c.b 0 = 1
      ∧ c.b 1 ≤ 7
      ∧ (u.port c.port).pd.swapReq = none
      ∧ (u.port c.port).pd.contract.pos ≠ 0
      ∧ u.swapPrecheck c.port .dr = none),
     sat (.swapRequestDr st) s fun t => decide ((t.port 0).pd.swapReq.isSome = true))) = (true, true) := by decide +kernel

theorem test_swapRequestVconn :
    (let b := live
     let st : Stream := .host
     let s : State := asked b .host (packetOf 0x38 0 0 ([2, 7, 0, 0]))
     let s : State := (pdReady s id).modPort 0 fun x => { x with tc := { x.tc with vconnOn := true } }
     let c : Cmd := cmdOf s .host
     let u : State := afterTake s .host
     (decide (takesB s st 0x38 = true
      ∧ c.b 0 = 2
      ∧ c.b 1 ≤ 7
      ∧ (u.port c.port).pd.swapReq = none
      ∧ (u.port c.port).pd.contract.pos ≠ 0
      ∧ u.swapPrecheck c.port .vconn = none),
     sat (.swapRequestVconn st) s fun t => decide ((t.port 0).pd.swapReq.isSome = true))) = (true, true) := by decide +kernel

theorem test_swapRequest_range :
    (let b := live
     let st : Stream := .host
     let i : Instr := .swapRequestDr .host
     let s : State := asked b .host (packetOf 0x38 0 0 ([1, 8, 0, 0]))
     let c : Cmd := cmdOf s .host
     let u : State := afterTake s .host
     (decide (takesB s st 0x38 = true
      ∧ ((i = .swapRequestPr st ∧ c.b 0 = 0) ∨ (i = .swapRequestDr st ∧ c.b 0 = 1) ∨ (i = .swapRequestVconn st ∧ c.b 0 = 2))
      ∧ 7 < c.b 1),
     sat (i) s fun t => decide (lastReply t = c.reply false 0x88 []))) = (true, true) := by decide +kernel

theorem test_swapRequest_busy :
    (let b := live
     let st : Stream := .host
     let i : Instr := .swapRequestDr .host
     let s : State := asked b .host (packetOf 0x38 0 0 ([1, 7, 0, 0]))
     let s : State := pdReady s fun d => { d with swapReq := some aSwap }
     let c : Cmd := cmdOf s .host
     let u : State := afterTake s .host
     (decide (takesB s st 0x38 = true
      ∧ ((i = .swapRequestPr st ∧ c.b 0 = 0) ∨ (i = .swapRequestDr st ∧ c.b 0 = 1) ∨ (i = .swapRequestVconn st ∧ c.b 0 = 2))
      ∧ c.b 1 ≤ 7
      ∧ (u.port c.port).pd.swapReq ≠ none),
     sat (i) s fun t => decide (lastReply t = c.reply false 0x86 []))) = (true, true) := by decide +kernel

theorem test_swapRequest_state :
    (let b := live
     let st : Stream := .host
     let s : State := asked b .host (packetOf 0x38 0 0 ([1, 7, 0, 0]))
     let s : State := pdReady s fun d => { d with mode := some (1, 1) }
     let c : Cmd := cmdOf s .host
     let u : State := afterTake s .host
     (decide (takesB s st 0x38 = true
      ∧ c.b 0 = 1
      ∧ c.b 1 ≤ 7
      ∧ (u.port c.port).pd.swapReq = none
      ∧ ((u.port c.port).pd.contract.pos = 0 ∨ u.swapPrecheck c.port .dr ≠ none)),
     sat (.swapRequestDr st) s fun t => decide (lastReply t = c.reply false 0x8B []))) = (true, true) := by decide +kernel

theorem test_vdmDiscoverIdentity :
    (let b := live
     let st : Stream := .host
     let s : State := asked b .host (packetOf 0x40 0 0 ([0, 0, 0, 0]))
     let s : State := pdReady s id
     let c : Cmd := cmdOf s .host
     let u : State := afterTake s .host
     (decide (takesB s st 0x40 = true
      ∧ c.b 0 = 0
      ∧ c.h 2 = 0
      ∧ if c.tgtOf = .sop then (u.port c.port).pd.contract.pos ≠ 0 else ((u.port c.port).ctxOf .sop1).vconnOk = true
      ∧ (u.port c.port).pd.vdm = none),
     sat (.vdmDiscoverIdentity st) s fun t => decide ((t.port 0).pd.vdm.isSome = true))) = (true, true) := by decide +kernel

theorem test_vdmDiscoverSvids :
    (let b := live
     let st : Stream := .host
     let s : State := asked b .host (packetOf 0x40 0 1 ([1, 0, 0, 0]))
     let s : State := pdReady s id
     let c : Cmd := cmdOf s .host
     let u : State := afterTake s .host
     (decide (takesB s st 0x40 = true
      ∧ c.b 0 = 1
      ∧ c.h 2 = 0
      ∧ if c.tgtOf = .sop then (u.port c.port).pd.contract.pos ≠ 0 else ((u.port c.port).ctxOf .sop1).vconnOk = true
      ∧ (u.port c.port).pd.vdm = none),
     sat (.vdmDiscoverSvids st) s fun t => decide ((t.port 0).pd.vdm.isSome = true))) = (true, true) := by decide +kernel

theorem test_vdmDiscoverModes :
    (let b := live
     let st : Stream := .host
     let s : State := asked b .host (packetOf 0x40 0 0 ([2, 0, 0x34, 0x12]))
     let s : State := pdReady s id
     let c : Cmd := cmdOf s .host
     let u : State := afterTake s .host
     (decide (takesB s st 0x40 = true
      ∧ c.b 0 = 2
      ∧ if c.tgtOf = .sop then (u.port c.port).pd.contract.pos ≠ 0 else ((u.port c.port).ctxOf .sop1).vconnOk = true
      ∧ (u.port c.port).pd.vdm = none),
     sat (.vdmDiscoverModes st) s fun t => decide ((t.port 0).pd.vdm.isSome = true))) = (true, true) := by decide +kernel

theorem test_vdmDiscover_range :
    (let b := live
     let st : Stream := .host
     let s : State := asked b .host (packetOf 0x40 0 0 ([0, 0, 1, 0]))
     let c : Cmd := cmdOf s .host
     let u : State := afterTake s .host
     (decide (takesB s st 0x40 = true
      ∧ (2 < c.b 0 ∨ (c.b 0 = 0 ∧ c.h 2 ≠ 0))),
     sat (.vdmDiscoverIdentity st) s fun t => decide (lastReply t = c.reply false 0x88 []))) = (true, true) := by decide +kernel

theorem test_vdmDiscover_state :
    (let b := live
     let st : Stream := .host
     let s : State := asked b .host (packetOf 0x40 0 0 ([0, 0, 0, 0]))
     let s : State := pdReady s fun d => { d with contract := { d.contract with pos := 0 } }
     let c : Cmd := cmdOf s .host
     let u : State := afterTake s .host
     (decide (takesB s st 0x40 = true
      ∧ c.b 0 = 0
      ∧ c.h 2 = 0
      ∧ if c.tgtOf = .sop then (u.port c.port).pd.contract.pos = 0 else ((u.port c.port).ctxOf .sop1).vconnOk = false),
     sat (.vdmDiscoverIdentity st) s fun t => decide ((t.port 0).pd.vdm.isSome = false))) = (true, true) := by decide +kernel

theorem test_vdmSend :
    (let b := live
     let st : Stream := .host
     let s : State := asked b .host (packetOf 0x41 0 0 ((wordBytes 0x12340001#32)))
     let s : State := pdReady s id
     let c : Cmd := cmdOf s .host
     let u : State := afterTake s .host
     (decide (takesB s st 0x41 = true
      ∧ (vdmStructured (c.w 0) = false ∨ vdmCmd (c.w 0) = 0 ∨ 5 < vdmCmd (c.w 0))
      ∧ (u.port c.port).tc.st.pd = true
      ∧ (u.port c.port).pd.vdm = none),
     sat (.vdmSend st) s fun t => decide ((t.port 0).pd.vdm.isSome = true))) = (true, true) := by decide +kernel

theorem test_vdmSend_range :
    (let b := live
     let st : Stream := .host
     let s : State := asked b .host (packetOf 0x41 0 0 ((wordBytes 0x12348001#32)))
     let c : Cmd := cmdOf s .host
     let u : State := afterTake s .host
     (decide (takesB s st 0x41 = true
      ∧ vdmStructured (c.w 0) = true
      ∧ 1 ≤ vdmCmd (c.w 0)
      ∧ vdmCmd (c.w 0) ≤ 5),
     sat (.vdmSend st) s fun t => decide (lastReply t = c.reply false 0x88 []))) = (true, true) := by decide +kernel

theorem test_vdmSend_busy :
    (let b := live
     let st : Stream := .host
     let s : State := asked b .host (packetOf 0x41 0 0 ((wordBytes 0x12340001#32)))
     let s : State := pdReady s fun d => { d with vdm := some aVdm }
     let c : Cmd := cmdOf s .host
     let u : State := afterTake s .host
     (decide (takesB s st 0x41 = true
      ∧ (vdmStructured (c.w 0) = false ∨ vdmCmd (c.w 0) = 0 ∨ 5 < vdmCmd (c.w 0))
      ∧ (u.port c.port).tc.st.pd = true
      ∧ (u.port c.port).pd.vdm ≠ none),
     sat (.vdmSend st) s fun t => decide (lastReply t = c.reply false 0x86 []))) = (true, true) := by decide +kernel

theorem test_modeEnter :
    (let b := live
     let st : Stream := .host
     let s : State := asked b .host (packetOf 0x42 0 0 ([0x34, 0x12, 1, 0]))
     let s : State := pdReady s fun d => { d with svids := [known1234] }
     let c : Cmd := cmdOf s .host
     let u : State := afterTake s .host
     (decide (takesB s st 0x42 = true
      ∧ 1 ≤ c.b 2
      ∧ c.b 2 ≤ 6
      ∧ (u.port c.port).pd.dfp = true
      ∧ (u.port c.port).pd.contract.pos ≠ 0
      ∧ (u.port c.port).modeKnown (BitVec.ofNat 16 (c.h 0)) (c.b 2) = true
      ∧ (u.port c.port).pd.mode = none
      ∧ (u.port c.port).pd.vdm = none),
     sat (.modeEnter st) s fun t => decide ((t.port 0).pd.vdm.isSome = true))) = (true, true) := by decide +kernel

theorem test_modeEnter_state :
    (let b := live
     let st : Stream := .host
     let s : State := asked b .host (packetOf 0x42 0 0 ([0x34, 0x12, 3, 0]))
     let s : State := pdReady s fun d => { d with svids := [known1234] }
     let c : Cmd := cmdOf s .host
     let u : State := afterTake s .host
     (decide (takesB s st 0x42 = true
      ∧ 1 ≤ c.b 2
      ∧ c.b 2 ≤ 6
      ∧ ((u.port c.port).pd.dfp = false ∨ (u.port c.port).pd.contract.pos = 0 ∨ (u.port c.port).modeKnown (BitVec.ofNat 16 (c.h 0)) (c.b 2) = false ∨ (u.port c.port).pd.mode ≠ none)),
     sat (.modeEnter st) s fun t => decide ((t.port 0).pd.vdm.isSome = false))) = (true, true) := by decide +kernel

theorem test_modeExit :
    (let b := live
     let st : Stream := .host
     let s : State := asked b .host (packetOf 0x43 0 0 ([0x34, 0x12, 1, 0]))
     let s : State := pdReady s fun d => { d with mode := some (0x1234#16, 1#3) }
     let c : Cmd := cmdOf s .host
     let u : State := afterTake s .host
     (decide (takesB s st 0x43 = true
      ∧ 1 ≤ c.b 2
      ∧ c.b 2 ≤ 6
      ∧ (u.port c.port).pd.mode = some (BitVec.ofNat 16 (c.h 0), BitVec.ofNat 3 (c.b 2))
      ∧ (u.port c.port).pd.vdm = none),
     sat (.modeExit st) s fun t => decide ((t.port 0).pd.vdm.isSome = true))) = (true, true) := by decide +kernel

theorem test_modeExit_state :
    (let b := live
     let st : Stream := .host
     let s : State := asked b .host (packetOf 0x43 0 0 ([0x34, 0x12, 2, 0]))
     let s : State := pdReady s fun d => { d with mode := some (0x1234#16, 1#3) }
     let c : Cmd := cmdOf s .host
     let u : State := afterTake s .host
     (decide (takesB s st 0x43 = true
      ∧ 1 ≤ c.b 2
      ∧ c.b 2 ≤ 6
      ∧ (u.port c.port).pd.mode ≠ some (BitVec.ofNat 16 (c.h 0), BitVec.ofNat 3 (c.b 2))),
     sat (.modeExit st) s fun t => decide ((t.port 0).pd.vdm.isSome = false))) = (true, true) := by decide +kernel

theorem test_svidTableRead :
    (let b := live
     let st : Stream := .host
     let s : State := asked b .host (packetOf 0x48 0 0 ([]))
     let c : Cmd := cmdOf s .host
     let u : State := afterTake s .host
     (decide (takesB s st 0x48 = true
      ∧ c.fits (u.port c.port).svidBytes = true),
     sat (.svidTableRead st) s fun t => decide ((lastReply t).length = 460))) = (true, true) := by decide +kernel

def coefBytes : List Byte := (List.replicate 8 (wordBytes 5#32)).flatten
/-- GUARD_CONFIG of the reset set. -/
def guardBytes : List Byte := PortCfg.reset.guard.toList.flatMap wordBytes

/-! ### Commands of stages, guards, budget, feeds, faults and logs (chapters 11 to 14, 16) -/

theorem test_stageConfig :
    (let b := live
     let st : Stream := .host
     let s : State := asked b .host (packetOf 0x58 0 0 (([0, 0, 0, 0] ++ coefBytes)))
     let c : Cmd := cmdOf s .host
     let u : State := afterTake s .host
     (decide (takesB s st 0x58 = true
      ∧ c.b 0 = 0
      ∧ c.coefs.toList.all signExtended = true),
     sat (.stageConfig st) s fun t => decide ((t.port 0).cfg.coefNext.isSome = true
      ∧ (t.port 0).cfg.coef = (s.port 0).cfg.coef))) = (true, true) := by decide +kernel

theorem test_stageConfig_cluster :
    (let b := live
     let st : Stream := .host
     let s : State := asked b .host (packetOf 0x58 0 0 (([1, 0, 0, 0] ++ coefBytes)))
     let c : Cmd := cmdOf s .host
     let u : State := afterTake s .host
     (decide (takesB s st 0x58 = true
      ∧ c.b 0 = 1
      ∧ c.coefs.toList.all signExtended = true),
     sat (.stageConfig st) s fun t => decide ((t.port 11).cfg.coefNext.isSome = true
      ∧ (t.port 12).cfg.coefNext = (s.port 12).cfg.coefNext))) = (true, true) := by decide +kernel

theorem test_stageConfig_range :
    (let b := live
     let st : Stream := .host
     let s : State := asked b .host (packetOf 0x58 0 0 (([2, 0, 0, 0] ++ coefBytes)))
     let c : Cmd := cmdOf s .host
     let u : State := afterTake s .host
     (decide (takesB s st 0x58 = true
      ∧ (1 < c.b 0 ∨ c.coefs.toList.all signExtended = false)),
     sat (.stageConfig st) s fun t => decide ((t.port 0).cfg.coefNext = (s.port 0).cfg.coefNext))) = (true, true) := by decide +kernel

theorem test_stageStatus :
    (let b := live
     let st : Stream := .host
     let s : State := asked b .host (packetOf 0x59 0 0 ([]))
     let c : Cmd := cmdOf s .host
     let u : State := afterTake s .host
     (decide (takesB s st 0x59 = true
      ∧ c.fits (u.stageStatusBytes c.port) = true),
     sat (.stageStatus st) s fun t => decide ((lastReply t).length = 40))) = (true, true) := by decide +kernel

theorem test_guardConfig :
    (let b := live
     let st : Stream := .host
     let s : State := asked b .host (packetOf 0x5A 0 0 (guardBytes))
     let s : State := upP s fun x => { x with cfg := .reset }
     let c : Cmd := cmdOf s .host
     let u : State := afterTake s .host
     (decide (takesB s st 0x5A = true
      ∧ ((List.range 8).all fun i => match specOf (0x1070 + i) with | some sp => fieldsOk (c.w (4 * i)) sp.fields | none => false) = true
      ∧ u.writeBlocked c.port 0x1072 (c.w 8) = false),
     sat (.guardConfig st) s fun t => decide ((t.port 0).cfg.guardNext.isSome = true
      ∧ (t.port 0).cfg.guard[(0 : Fin 8)] = (s.port 0).cfg.guard[(0 : Fin 8)]))) = (true, true) := by decide +kernel

theorem test_guardConfig_range :
    (let b := live
     let st : Stream := .host
     let s : State := asked b .host (packetOf 0x5A 0 0 ((zeros 32)))
     let c : Cmd := cmdOf s .host
     let u : State := afterTake s .host
     (decide (takesB s st 0x5A = true
      ∧ ((List.range 8).all fun i => match specOf (0x1070 + i) with | some sp => fieldsOk (c.w (4 * i)) sp.fields | none => false) = false),
     sat (.guardConfig st) s fun t => decide ((t.port 0).cfg.guardNext = (s.port 0).cfg.guardNext))) = (true, true) := by decide +kernel

theorem test_budgetSet :
    (let b := live
     let st : Stream := .host
     let s : State := asked b .host (packetOf 0x50 127 0 ((u16 300 ++ [0, 0])))
     let c : Cmd := cmdOf s .host
     let u : State := afterTake s .host
     (decide (takesB s st 0x50 = true
      ∧ c.h 0 ≠ 0),
     sat (.budgetSet st) s fun t => decide (t.budget.hostB = some 300
      ∧ t.budget.due = true))) = (true, true) := by decide +kernel

theorem test_budgetSet_withdrawn :
    (let b := live
     let st : Stream := .host
     let s : State := asked b .host (packetOf 0x50 127 0 ([0, 0, 0, 0]))
     let c : Cmd := cmdOf s .host
     let u : State := afterTake s .host
     (decide (takesB s st 0x50 = true
      ∧ c.h 0 = 0),
     sat (.budgetSet st) s fun t => decide (t.budget.hostB = none
      ∧ t.budget.due = true))) = (true, true) := by decide +kernel

theorem test_budgetStatus :
    (let b := live
     let st : Stream := .host
     let s : State := asked b .host (packetOf 0x51 127 0 ([]))
     let c : Cmd := cmdOf s .host
     let u : State := afterTake s .host
     (decide (takesB s st 0x51 = true
      ∧ c.fits u.budgetStatusBytes = true),
     sat (.budgetStatus st) s fun t => decide ((lastReply t).length = 228))) = (true, true) := by decide +kernel

theorem test_budgetGroupConfig :
    (let b := live
     let st : Stream := .host
     let s : State := asked b .host (packetOf 0x52 127 0 (([5, 1, 0, 0] ++ wordBytes 4000#32)))
     let c : Cmd := cmdOf s .host
     let u : State := afterTake s .host
     (decide (takesB s st 0x52 = true
      ∧ (c.w 4).toNat ≤ 0xFFFFFF),
     sat (.budgetGroupConfig st) s fun t => decide (t.yarrow.groupB = 4000#32
      ∧ t.yarrow.group = 0x105#32))) = (true, true) := by decide +kernel

theorem test_budgetGroupConfig_range :
    (let b := live
     let st : Stream := .host
     let s : State := asked b .host (packetOf 0x52 127 0 (([5, 1, 0, 0] ++ wordBytes 0x01000000#32)))
     let c : Cmd := cmdOf s .host
     let u : State := afterTake s .host
     (decide (takesB s st 0x52 = true
      ∧ 0xFFFFFF < (c.w 4).toNat),
     sat (.budgetGroupConfig st) s fun t => decide (t.yarrow.group = s.yarrow.group))) = (true, true) := by decide +kernel

theorem test_feedConfigApply :
    (let b := live
     let st : Stream := .host
     let s : State := asked b .host (packetOf 0x5B 127 0 ([1, 0, 0, 0]))
     let s : State := { s with feed := { (withFeeds s .on .standby).feed with work := strapSet (Vector.replicate 4 0) } }
     let c : Cmd := cmdOf s .host
     let u : State := afterTake s .host
     (decide (takesB s st 0x5B = true
      ∧ c.b 0 = 1
      ∧ s.feed.work.ok = true
      ∧ s.feed.on = true
      ∧ s.feed.linkUp = true),
     sat (.feedConfigApply st) s fun t => decide (t.feed.fromHub = true))) = (true, true) := by decide +kernel

theorem test_feedConfigApply_range :
    (let b := live
     let st : Stream := .host
     let s : State := asked b .host (packetOf 0x5B 127 0 ([1, 0, 0, 0]))
     let s : State := { s with feed := { (withFeeds s .on .standby).feed with work := { strapSet (Vector.replicate 4 0) with brownout := 0x00800080#32 } } }
     let c : Cmd := cmdOf s .host
     let u : State := afterTake s .host
     (decide (takesB s st 0x5B = true
      ∧ c.b 0 % 2 = 1
      ∧ s.feed.work.ok = false),
     sat (.feedConfigApply st) s fun t => decide (t.feed.fromHub = s.feed.fromHub))) = (true, true) := by decide +kernel

theorem test_feedReleaseA :
    (let b := live
     let st : Stream := .host
     let s : State := asked b .host (packetOf 0x5B 127 0 ([2, 0, 0, 0]))
     let s : State := withFeeds s .latched .standby
     let c : Cmd := cmdOf s .host
     let u : State := afterTake s .host
     (decide (takesB s st 0x5B = true
      ∧ c.b 0 = 2
      ∧ s.feed.a.st = .latched),
     sat (.feedReleaseA st) s fun t => decide (t.feed.a.st = .off
      ∧ t.feed.b.st = .standby))) = (true, true) := by decide +kernel

theorem test_feedReleaseB :
    (let b := live
     let st : Stream := .host
     let s : State := asked b .host (packetOf 0x5B 127 0 ([4, 0, 0, 0]))
     let s : State := withFeeds s .on .latched
     let c : Cmd := cmdOf s .host
     let u : State := afterTake s .host
     (decide (takesB s st 0x5B = true
      ∧ c.b 0 = 4
      ∧ s.feed.b.st = .latched),
     sat (.feedReleaseB st) s fun t => decide (t.feed.b.st = .off
      ∧ t.feed.a.st = .on))) = (true, true) := by decide +kernel

theorem test_feedConfig_together :
    (let b := live
     let st : Stream := .host
     let i : Instr := .feedReleaseB .host
     let s : State := asked b .host (packetOf 0x5B 127 0 ([7, 0, 0, 0]))
     let s : State := { s with feed := { (withFeeds s .latched .latched).feed with work := strapSet (Vector.replicate 4 0) } }
     let c : Cmd := cmdOf s .host
     let u : State := afterTake s .host
     (decide (takesB s st 0x5B = true
      ∧ (i = .feedConfigApply st ∨ i = .feedReleaseA st ∨ i = .feedReleaseB st)
      ∧ c.b 0 = 7
      ∧ s.feed.work.ok = true),
     sat (i) s fun t => decide (t.feed.a.st = .off
      ∧ t.feed.b.st = .off))) = (true, true) := by decide +kernel

theorem test_feedStatus :
    (let b := live
     let st : Stream := .host
     let s : State := asked b .host (packetOf 0x5C 127 0 ([]))
     let s : State := { s with feed := { s.feed with linkUp := true } }
     let c : Cmd := cmdOf s .host
     let u : State := afterTake s .host
     (decide (takesB s st 0x5C = true
      ∧ c.fits u.feed.statusBytes = true),
     sat (.feedStatus st) s fun t => decide ((lastReply t).length = 48))) = (true, true) := by decide +kernel

theorem test_faultStatus :
    (let b := live
     let st : Stream := .host
     let s : State := asked b .host (packetOf 0x60 127 0 ([]))
     let c : Cmd := cmdOf s .host
     let u : State := afterTake s .host
     (decide (takesB s st 0x60 = true
      ∧ c.fits u.faultStatusBytes = true),
     sat (.faultStatus st) s fun t => decide ((lastReply t).length = 120))) = (true, true) := by decide +kernel

theorem test_faultClearLatch :
    (let b := live
     let st : Stream := .host
     let s : State := asked b .host (packetOf 0x61 127 0 ([1, 0, 0, 0]))
     let s : State := { s with faults := { s.faults with sev := Vector.replicate 256 1, hold := true } }
     let c : Cmd := cmdOf s .host
     let u : State := afterTake s .host
     (decide (takesB s st 0x61 = true
      ∧ c.b 0 = 1
      ∧ s.holder = none),
     sat (.faultClearLatch st) s fun t => decide (t.faults.latch.isNone = true
      ∧ t.faults.hold = false))) = (true, true) := by decide +kernel

theorem test_faultClearLatch_held :
    (let b := live
     let st : Stream := .host
     let n : Nat := 0
     let s : State := asked b .host (packetOf 0x61 127 0 ([1, 0, 0, 0]))
     let s : State := { s with faults := { s.faults with sev := Vector.replicate 256 3, force := 1 }, board := { s.board with holdover := true } }
     let c : Cmd := cmdOf s .host
     let u : State := afterTake s .host
     (decide (takesB s st 0x61 = true
      ∧ c.b 0 % 2 = 1
      ∧ u.holder = some n),
     sat (.faultClearLatch st) s fun t => decide (lastReply t = c.reply false 0x8B [0, 0, 0, 0]))) = (true, true) := by decide +kernel

theorem test_faultClearRaised :
    (let b := live
     let st : Stream := .host
     let s : State := asked b .host (packetOf 0x61 127 0 ([2, 0, 0, 0]))
     let c : Cmd := cmdOf s .host
     let u : State := afterTake s .host
     (decide (takesB s st 0x61 = true
      ∧ c.b 0 = 2),
     sat (.faultClearRaised st) s fun t => decide (t.faults.raised = 0
      ∧ t.faults.log = s.faults.log))) = (true, true) := by decide +kernel

theorem test_faultClearLog :
    (let b := live
     let st : Stream := .host
     let s : State := asked b .host (packetOf 0x61 127 0 ([4, 0, 0, 0]))
     let c : Cmd := cmdOf s .host
     let u : State := afterTake s .host
     (decide (takesB s st 0x61 = true
      ∧ c.b 0 = 4),
     sat (.faultClearLog st) s fun t => decide (t.faults.log = []
      ∧ t.faults.raised = s.faults.raised))) = (true, true) := by decide +kernel

theorem test_faultClear_together :
    (let b := live
     let st : Stream := .host
     let i : Instr := .faultClearLog .host
     let s : State := asked b .host (packetOf 0x61 127 0 ([7, 0, 0, 0]))
     let s : State := { s with faults := { s.faults with sev := Vector.replicate 256 1 } }
     let c : Cmd := cmdOf s .host
     let u : State := afterTake s .host
     (decide (takesB s st 0x61 = true
      ∧ (i = .faultClearLatch st ∨ i = .faultClearRaised st ∨ i = .faultClearLog st)
      ∧ c.b 0 = 7
      ∧ s.holder = none),
     sat (i) s fun t => decide (t.faults.log = []))) = (true, true) := by decide +kernel

theorem test_faultSeverityRead :
    (let b := live
     let st : Stream := .host
     let s : State := asked b .host (packetOf 0x62 127 0 ([0, 0, 4, 0]))
     let c : Cmd := cmdOf s .host
     let u : State := afterTake s .host
     let d : List Byte := c.payload.take 4 ++ ((s.faults.sevWork.toList.drop (c.b 0)).take (c.h 2)).map fun v => BitVec.ofNat 8 v.toNat
     (decide (takesB s st 0x62 = true
      ∧ c.b 1 = 0
      ∧ 1 ≤ c.h 2
      ∧ c.b 0 + c.h 2 ≤ 256
      ∧ (d = c.payload.take 4 ++ ((s.faults.sevWork.toList.drop (c.b 0)).take (c.h 2)).map fun v => BitVec.ofNat 8 v.toNat)
      ∧ c.fits d = true),
     sat (.faultSeverityRead st) s fun t => decide (lastReply t = c.reply false 0 d))) = (true, true) := by decide +kernel

theorem test_faultSeverityWrite :
    (let b := live
     let st : Stream := .host
     let s : State := asked b .host (packetOf 0x62 127 0 ([0, 1, 2, 0, 1, 3, 0, 0]))
     let s : State := { s with faults := { s.faults with sevNext := none } }
     let c : Cmd := cmdOf s .host
     let u : State := afterTake s .host
     (decide (takesB s st 0x62 = true
      ∧ c.b 1 = 1
      ∧ 1 ≤ c.h 2
      ∧ c.b 0 + c.h 2 ≤ 256
      ∧ ((List.range (c.h 2)).all fun i => decide (c.b (4 + i) ≤ 3) && sevOk (c.b 0 + i) (c.b (4 + i))) = true),
     sat (.faultSeverityWrite st) s fun t => decide (t.faults.sevNext.isSome = true
      ∧ t.sevOf 1 = s.sevOf 1))) = (true, true) := by decide +kernel

theorem test_faultSeverityWrite_range :
    (let b := live
     let st : Stream := .host
     let s : State := asked b .host (packetOf 0x62 127 0 ([0, 1, 2, 0, 1, 4, 0, 0]))
     let c : Cmd := cmdOf s .host
     let u : State := afterTake s .host
     (decide (takesB s st 0x62 = true
      ∧ c.b 1 = 1
      ∧ (c.h 2 = 0 ∨ 256 < c.b 0 + c.h 2 ∨ ((List.range (c.h 2)).all fun i => decide (c.b (4 + i) ≤ 3) && sevOk (c.b 0 + i) (c.b (4 + i))) = false)),
     sat (.faultSeverityWrite st) s fun t => decide (lastReply t = c.reply false 0x88 []))) = (true, true) := by decide +kernel

theorem test_faultForceSet :
    (let b := live
     let st : Stream := .host
     let s : State := asked b .host (packetOf 0x63 127 0 ([64, 1, 5, 2]))
     let s : State := { s with faults := { s.faults with force := 0, forceDue := [] } }
     let c : Cmd := cmdOf s .host
     let u : State := afterTake s .host
     (decide (takesB s st 0x63 = true
      ∧ c.b 1 = 1
      ∧ reservedSource (c.b 0) = false
      ∧ forceCodeOk (c.b 0) (c.b 2) = true
      ∧ s.faults.force.getLsbD (c.b 0) = false),
     sat (.faultForceSet st) s fun t => decide (t.faults.force.getLsbD 64 = true
      ∧ t.faults.forceDue.length = 1))) = (true, true) := by decide +kernel

theorem test_faultForceSet_again :
    (let b := live
     let st : Stream := .host
     let s : State := asked b .host (packetOf 0x63 127 0 ([64, 1, 5, 2]))
     let s : State := { s with faults := { s.faults with force := setBit256 0 64, forceDue := [] } }
     let c : Cmd := cmdOf s .host
     let u : State := afterTake s .host
     (decide (takesB s st 0x63 = true
      ∧ c.b 1 = 1
      ∧ reservedSource (c.b 0) = false
      ∧ forceCodeOk (c.b 0) (c.b 2) = true
      ∧ s.faults.force.getLsbD (c.b 0) = true),
     sat (.faultForceSet st) s fun t => decide (t.faults.forceDue = []))) = (true, true) := by decide +kernel

theorem test_faultForceClear :
    (let b := live
     let st : Stream := .host
     let s : State := asked b .host (packetOf 0x63 127 0 ([64, 0, 5, 2]))
     let s : State := { s with faults := { s.faults with force := setBit256 0 64, forceDue := [] } }
     let c : Cmd := cmdOf s .host
     let u : State := afterTake s .host
     (decide (takesB s st 0x63 = true
      ∧ c.b 1 = 0
      ∧ reservedSource (c.b 0) = false
      ∧ forceCodeOk (c.b 0) (c.b 2) = true),
     sat (.faultForceClear st) s fun t => decide (t.faults.force.getLsbD 64 = false))) = (true, true) := by decide +kernel

theorem test_faultForce_range :
    (let b := live
     let st : Stream := .host
     let i : Instr := .faultForceSet .host
     let s : State := asked b .host (packetOf 0x63 127 0 ([6, 1, 0, 0]))
     let c : Cmd := cmdOf s .host
     let u : State := afterTake s .host
     (decide (takesB s st 0x63 = true
      ∧ (i = .faultForceSet st ∧ c.b 1 = 1 ∨ i = .faultForceClear st ∧ c.b 1 = 0)
      ∧ (reservedSource (c.b 0) = true ∨ forceCodeOk (c.b 0) (c.b 2) = false)),
     sat (i) s fun t => decide (t.faults.force = s.faults.force))) = (true, true) := by decide +kernel

theorem test_logReadFault :
    (let b := live
     let st : Stream := .host
     let s : State := asked b .host (packetOf 0x68 127 0 (([0, 0, 2, 0] ++ wordBytes 3#32 ++ wordBytes 0#32)))
     let s : State := { s with faults := { s.faults with log := [⟨0, 1, 2, 3⟩, ⟨1, 1, 2, 3⟩, ⟨2, 1, 2, 3⟩], logFirst := 4 } }
     let c : Cmd := cmdOf s .host
     let u : State := afterTake s .host
     let start : Nat := max (c.w 4).toNat s.faults.logFirst
     let recs : List FaultRec := (s.faults.log.drop (max (c.w 4).toNat s.faults.logFirst - s.faults.logFirst)).take (c.h 2)
     (decide (takesB s st 0x68 = true
      ∧ c.b 0 = 0
      ∧ c.b 1 = 0
      ∧ 1 ≤ c.h 2
      ∧ c.h 2 ≤ 255
      ∧ (c.w 8).toNat = 0
      ∧ start = max (c.w 4).toNat s.faults.logFirst
      ∧ recs = (s.faults.log.drop (start - s.faults.logFirst)).take (c.h 2)
      ∧ c.fits (logHead 0 recs.length (BitVec.ofNat 32 start) (BitVec.ofNat 32 (start + recs.length)) (start - (c.w 4).toNat) ++ recs.flatMap recBytes) = true),
     sat (.logReadFault st) s fun t => decide ((lastReply t).length = 56))) = (true, true) := by decide +kernel

theorem test_logReadStage :
    (let b := live
     let st : Stream := .host
     let q : QueueId := qLog 0
     let s : State := asked b .host (packetOf 0x68 127 0 (([1, 0, 2, 0] ++ wordBytes 0#32 ++ wordBytes 0#32)))
     let s : State := s.modPool fun m => m.modQ (qLog 0) fun x => { x with closed := [mkPacket m .none (zeros 16), mkPacket m .none (zeros 16), mkPacket m .none (zeros 16)] }
     let c : Cmd := cmdOf s .host
     let u : State := afterTake s .host
     let ks : List Packet := (s.pool.queues[(qLog 0)]).closed.take (c.h 2)
     (decide (takesB s st 0x68 = true
      ∧ c.b 0 = 1
      ∧ c.b 1 ≤ 7
      ∧ 1 ≤ c.h 2
      ∧ c.h 2 ≤ 255
      ∧ c.w 4 = 0
      ∧ c.w 8 = 0
      ∧ q = qLog ⟨c.b 1 % 8, Nat.mod_lt _ (by decide)⟩
      ∧ (u.pool.queues[q]).quarantine = false
      ∧ ks = (u.pool.queues[q]).closed.take (c.h 2)
      ∧ c.fits (logHead 1 (((ks.filter fun k => !k.bad).flatMap fun k => k.data).length / 16) (Config.freeWord (s.board.free + 0)) (Config.freeWord (s.board.free + 1)) 0 ++ (ks.filter fun k => !k.bad).flatMap fun k => k.data) = true),
     sat (.logReadStage st) s fun t => decide ((t.pool.queues[q]).closed.length = 1))) = (true, true) := by decide +kernel

theorem test_logReadSnapshotList :
    (let b := live
     let st : Stream := .host
     let s : State := asked b .host (packetOf 0x68 127 0 (([2, 0, 2, 0] ++ wordBytes 0#32 ++ wordBytes 0#32)))
     let c : Cmd := cmdOf s .host
     let u : State := afterTake s .host
     let es : List (Nat × Nat) := (s.store.snaps.foldr insertSnap []).take (c.h 2)
     (decide (takesB s st 0x68 = true
      ∧ c.b 0 = 2
      ∧ c.b 1 = 0
      ∧ 1 ≤ c.h 2
      ∧ c.h 2 ≤ 255
      ∧ c.w 4 = 0
      ∧ c.w 8 = 0
      ∧ es = (s.store.snaps.foldr insertSnap []).take (c.h 2)
      ∧ c.fits (logHead 2 es.length (Config.freeWord (s.board.free + 0)) (Config.freeWord (s.board.free + 1)) 0 ++ es.flatMap fun e => u32 e.1 ++ leBytes 1 e.2 ++ [1, 0, 0]) = true),
     sat (.logReadSnapshotList st) s fun t => decide ((lastReply t).length = 24))) = (true, true) := by decide +kernel

theorem test_logReadSnapshot_none :
    (let b := live
     let st : Stream := .host
     let s : State := asked b .host (packetOf 0x68 127 0 (([3, 0, 4, 0] ++ wordBytes 7#32 ++ wordBytes 8#32)))
     let s : State := { s with store := { s.store with flash := [] } }
     let c : Cmd := cmdOf s .host
     let u : State := afterTake s .host
     (decide (takesB s st 0x68 = true
      ∧ c.b 0 = 3
      ∧ c.b 1 = 0
      ∧ (s.store.snaps.find? fun x => x.1 == (c.w 4).toNat) = none),
     sat (.logReadSnapshot st) s fun t => decide (lastReply t = c.reply false 0x88 []))) = (true, true) := by decide +kernel

/-- The stepped operation `o` runs, or none. -/
def storing (s : State) (o : Option StoreOp) : State := { s with store := { Store.reset with op := o } }
def seg256 : List Byte := List.replicate 256 0x5A#8

/-! ### Commands of images, cores and the link (chapters 04, 16, 18, 19) -/

theorem test_imageBeginNew :
    (let b := live
     let st : Stream := .host
     let s : State := asked b .host (packetOf 0x80 127 0 ([0, 0, 0, 0]))
     let s : State := storing s none
     let c : Cmd := cmdOf s .host
     let u : State := afterTake s .host
     (decide (takesB s st 0x80 = true
      ∧ c.b 0 = 0
      ∧ s.store.op = none),
     sat (.imageBeginNew st) s fun t => decide (t.store.op = some (.erase 0x11 .host)))) = (true, true) := by decide +kernel

theorem test_imageBeginResume :
    (let b := live
     let st : Stream := .host
     let n : Nat := 512
     let s : State := asked b .host (packetOf 0x80 127 0 ([1, 0, 0, 0]))
     let s : State := { s with store := { Store.reset with op := none, journal := some (s.idleSlot, 512) } }
     let c : Cmd := cmdOf s .host
     let u : State := afterTake s .host
     (decide (takesB s st 0x80 = true
      ∧ c.b 0 = 1
      ∧ s.store.op = none
      ∧ u.journalAt = some n),
     sat (.imageBeginResume st) s fun t => decide (lastReply t = c.reply false 0 [0, 2, 0, 0]))) = (true, true) := by decide +kernel

theorem test_imageBeginResume_none :
    (let b := live
     let st : Stream := .host
     let s : State := asked b .host (packetOf 0x80 127 0 ([1, 0, 0, 0]))
     let s : State := storing s none
     let c : Cmd := cmdOf s .host
     let u : State := afterTake s .host
     (decide (takesB s st 0x80 = true
      ∧ c.b 0 = 1
      ∧ s.store.op = none
      ∧ u.journalAt = none),
     sat (.imageBeginResume st) s fun t => decide (lastReply t = c.reply false 0x8B []))) = (true, true) := by decide +kernel

theorem test_image_busy :
    (let b := live
     let st : Stream := .host
     let opc : Nat := 0x80
     let i : Instr := .imageBeginNew .host
     let s : State := asked b .host (packetOf 0x80 127 0 [0, 0, 0, 0])
     let s : State := storing s (some (.verify 1 .host))
     let c : Cmd := cmdOf s .host
     let u : State := afterTake s .host
     (decide (takesB s st opc = true
      ∧ ((i = .imageBeginNew st ∧ opc = 0x80 ∧ c.b 0 = 0) ∨ (i = .imageBeginResume st ∧ opc = 0x80 ∧ c.b 0 = 1) ∨ (i = .imageData st ∧ opc = 0x81) ∨ (i = .imageVerify st ∧ opc = 0x82) ∨ (i = .imageCommit st ∧ opc = 0x83))
      ∧ s.store.op ≠ none),
     sat (i) s fun t => decide (t.store.op = s.store.op))) = (true, true) := by decide +kernel

theorem test_imageEraseComplete :
    (let b := live
     let tag : Byte := 5
     let st : Stream := .host
     let s : State := storing (asked b .host []) (some (.erase 5 .host))
     (decide (s.store.op = some (.erase tag st)
      ∧ s.storeRuns = true),
     sat (.imageEraseComplete true) s fun t => decide (t.store.op = none
      ∧ t.store.journal = some (s.idleSlot, 0)))) = (true, true) := by decide +kernel

theorem test_imageEraseComplete_fails :
    (let b := live
     let tag : Byte := 5
     let st : Stream := .host
     let s : State := storing (asked b .host []) (some (.erase 5 .host))
     (decide (s.store.op = some (.erase tag st)
      ∧ s.storeRuns = true),
     sat (.imageEraseComplete false) s fun t => decide (t.store.op = none
      ∧ t.store.journal = s.store.journal
      ∧ t.store.verified = s.store.verified))) = (true, true) := by decide +kernel

theorem test_imageData :
    (let b := live
     let st : Stream := .host
     let s : State := asked b .host (packetOf 0x81 127 0 ((u32 512 ++ seg256)))
     let s : State := { s with store := { Store.reset with op := none, journal := some (s.idleSlot, 512) } }
     let c : Cmd := cmdOf s .host
     let u : State := afterTake s .host
     (decide (takesB s st 0x81 = true
      ∧ s.store.op = none
      ∧ u.journalAt = some (c.w 0).toNat
      ∧ c.segment.length % 256 = 0
      ∧ (c.w 0).toNat + c.segment.length ≤ slotSize
      ∧ c.commitClear = true),
     sat (.imageData st) s fun t => decide (t.store.op.isSome = true
      ∧ t.store.journal = s.store.journal))) = (true, true) := by decide +kernel

theorem test_imageData_range :
    (let b := live
     let st : Stream := .host
     let s : State := asked b .host (packetOf 0x81 127 0 ((u32 256 ++ seg256)))
     let s : State := { s with store := { Store.reset with op := none, journal := some (s.idleSlot, 512) } }
     let c : Cmd := cmdOf s .host
     let u : State := afterTake s .host
     (decide (takesB s st 0x81 = true
      ∧ s.store.op = none
      ∧ (u.journalAt ≠ some (c.w 0).toNat ∨ c.segment.length % 256 ≠ 0 ∨ slotSize < (c.w 0).toNat + c.segment.length ∨ c.commitClear = false)),
     sat (.imageData st) s fun t => decide (t.store.op.isSome = false))) = (true, true) := by decide +kernel

theorem test_imageDataReadBack :
    (let b := live
     let hdr : List Byte := [0x81, 5, 0, 0, 127, 0]
     let st : Stream := .host
     let off : Nat := 512
     let data : List Byte := [1, 2, 3, 4]
     let s : State := storing (asked b .host []) (some (.program [0x81, 5, 0, 0, 127, 0] .host 512 [1, 2, 3, 4]))
     (decide (s.store.op = some (.program hdr st off data)
      ∧ (s.store.flash.program (slotBase s.idleSlot + off) data).readN erased (slotBase s.idleSlot + off) data.length = data
      ∧ s.storeRuns = true),
     sat (.imageDataReadBack true) s fun t => decide (t.store.op = none
      ∧ t.store.journal = some (s.idleSlot, 516)
      ∧ lastReply t = [0x81, 5, 0, 0, 127, 0, 4, 0, 4, 2, 0, 0]))) = (true, true) := by decide +kernel

theorem test_imageDataReadBack_differs :
    (let b := live
     let hdr : List Byte := [0x81, 5, 0, 0, 127, 0]
     let st : Stream := .host
     let off : Nat := 512
     let data : List Byte := [1, 2, 3, 4]
     let s : State := storing (asked b .host []) (some (.program [0x81, 5, 0, 0, 127, 0] .host 512 [1, 2, 3, 4]))
     let s : State := s.modStore fun r => { r with flash := [(slotBase s.idleSlot + 512, 0)] }
     (decide (s.store.op = some (.program hdr st off data)
      ∧ (s.store.flash.program (slotBase s.idleSlot + off) data).readN erased (slotBase s.idleSlot + off) data.length ≠ data
      ∧ s.storeRuns = true),
     sat (.imageDataReadBack true) s fun t => decide (t.store.op = none
      ∧ t.store.journal = s.store.journal))) = (true, true) := by decide +kernel

theorem test_imageVerify :
    (let b := live
     let st : Stream := .host
     let s : State := asked b .host (packetOf 0x82 127 0 ([]))
     let s : State := storing s none
     let c : Cmd := cmdOf s .host
     let u : State := afterTake s .host
     (decide (takesB s st 0x82 = true
      ∧ s.store.op = none),
     sat (.imageVerify st) s fun t => decide (t.store.op = some (.verify 0x11 .host)))) = (true, true) := by decide +kernel

theorem test_imageVerifyComplete :
    (let b := live
     let tag : Byte := 5
     let st : Stream := .host
     let n : Nat := 1
     let s : State := storing (asked b .host []) (some (.verify 5 .host))
     (decide (s.store.op = some (.verify tag st)
      ∧ s.checkSlot = n
      ∧ s.storeRuns = true),
     sat (.imageVerifyComplete) s fun t => decide (t.store.op = none
      ∧ t.store.verified = s.store.verified))) = (true, true) := by decide +kernel

theorem test_imageCommit :
    (let b := live
     let st : Stream := .host
     let s : State := asked b .host (packetOf 0x83 127 0 ([1, 0, 0, 0]))
     let s : State := { s with store := { Store.reset with op := none, verified := some s.idleSlot } }
     let c : Cmd := cmdOf s .host
     let u : State := afterTake s .host
     (decide (takesB s st 0x83 = true
      ∧ s.store.op = none
      ∧ s.store.verified = some u.idleSlot),
     sat (.imageCommit st) s fun t => decide (t.store.op.isSome = true))) = (true, true) := by decide +kernel

theorem test_imageCommit_state :
    (let b := live
     let st : Stream := .host
     let s : State := asked b .host (packetOf 0x83 127 0 ([1, 0, 0, 0]))
     let s : State := storing s none
     let c : Cmd := cmdOf s .host
     let u : State := afterTake s .host
     (decide (takesB s st 0x83 = true
      ∧ s.store.op = none
      ∧ s.store.verified ≠ some u.idleSlot),
     sat (.imageCommit st) s fun t => decide (t.store.op.isSome = false))) = (true, true) := by decide +kernel

theorem test_imageCommitProgrammed :
    (let b := live
     let hdr : List Byte := [0x83, 5, 0, 0, 127, 0]
     let st : Stream := .host
     let act : Bool := true
     let s : State := storing (asked b .host []) (some (.commit [0x83, 5, 0, 0, 127, 0] .host true))
     let s : State := s.modBoard fun x => { x with resetReq := none }
     (decide (s.store.op = some (.commit hdr st act)
      ∧ (s.store.flash.program (slotBase s.idleSlot + 0xFFC) (u32 (s.store.slotSeq s.idleSlot))).readN erased (slotBase s.idleSlot + 0xFFC) 4 = u32 (s.store.slotSeq s.idleSlot)
      ∧ s.storeRuns = true),
     sat (.imageCommitProgrammed true) s fun t => decide (t.store.op = none
      ∧ t.board.resetReq = (if act = true ∧ s.board.resetReq = none then some ⟨false, st, hdr.getD 1 0, s.now, false⟩ else s.board.resetReq)))) = (true, true) := by decide +kernel

theorem test_imageStatus :
    (let b := live
     let st : Stream := .host
     let s : State := asked b .host (packetOf 0x84 127 0 ([]))
     let c : Cmd := cmdOf s .host
     let u : State := afterTake s .host
     (decide (takesB s st 0x84 = true
      ∧ c.fits u.imageBytes = true),
     sat (.imageStatus st) s fun t => decide (lastReply t ≠ []))) = (true, true) := by decide +kernel

theorem test_sorrelLoadExt :
    (let b := live
     let st : Stream := .host
     let s : State := asked b .host (packetOf 0x88 127 0 (([2, 0, 0, 0] ++ u32 0x100 ++ u32 7)))
     let s : State := s.modCore 2 fun k => { k with extState := 0 }
     let c : Cmd := cmdOf s .host
     let u : State := afterTake s .host
     (decide (takesB s st 0x88 = true
      ∧ c.b 0 ≤ 8
      ∧ (c.w 4).toNat % 4 = 0
      ∧ (c.w 4).toNat + (c.payload.drop 8).length ≤ 0x2000
      ∧ (u.core c.core).extState ≠ 2),
     sat (.sorrelLoadExt st) s fun t => decide ((t.core 2).extState = 1
      ∧ (t.core 2).bundleMem.read zeroByte 0xE100 = 7))) = (true, true) := by decide +kernel

theorem test_sorrelLoadExt_range :
    (let b := live
     let st : Stream := .host
     let s : State := asked b .host (packetOf 0x88 127 0 (([2, 0, 0, 0] ++ u32 0x1FFE ++ u32 7)))
     let c : Cmd := cmdOf s .host
     let u : State := afterTake s .host
     (decide (takesB s st 0x88 = true
      ∧ (8 < c.b 0 ∨ (c.w 4).toNat % 4 ≠ 0 ∨ 0x2000 < (c.w 4).toNat + (c.payload.drop 8).length)),
     sat (.sorrelLoadExt st) s fun t => decide ((t.core 2).extState = (s.core 2).extState))) = (true, true) := by decide +kernel

theorem test_sorrelLoadExt_state :
    (let b := live
     let st : Stream := .host
     let s : State := asked b .host (packetOf 0x88 127 0 (([2, 0, 0, 0] ++ u32 0x100 ++ u32 7)))
     let s : State := s.modCore 2 fun k => { k with extState := 2 }
     let c : Cmd := cmdOf s .host
     let u : State := afterTake s .host
     (decide (takesB s st 0x88 = true
      ∧ c.b 0 ≤ 8
      ∧ (c.w 4).toNat % 4 = 0
      ∧ (c.w 4).toNat + (c.payload.drop 8).length ≤ 0x2000
      ∧ (u.core c.core).extState = 2),
     sat (.sorrelLoadExt st) s fun t => decide ((t.core 2).extState = 2))) = (true, true) := by decide +kernel

theorem test_sorrelCtrlStatus :
    (let b := live
     let st : Stream := .host
     let s : State := asked b .host (packetOf 0x89 127 0 (([2, 0, 0, 0] ++ zeros 8)))
     let c : Cmd := cmdOf s .host
     let u : State := afterTake s .host
     (decide (takesB s st 0x89 = true
      ∧ c.b 0 ≤ 8
      ∧ c.b 1 = 0
      ∧ c.w 4 = 0
      ∧ c.w 8 = 0
      ∧ c.fits (u.core c.core).extBytes = true),
     sat (.sorrelCtrlStatus st) s fun t => decide ((lastReply t).length = 24
      ∧ (t.core 2).worst = 0))) = (true, true) := by decide +kernel

theorem test_sorrelCtrlStop :
    (let b := live
     let st : Stream := .host
     let s : State := asked b .host (packetOf 0x89 127 0 (([2, 1, 0, 0] ++ zeros 8)))
     let c : Cmd := cmdOf s .host
     let u : State := afterTake s .host
     (decide (takesB s st 0x89 = true
      ∧ c.b 0 ≤ 8
      ∧ c.b 1 = 1
      ∧ c.w 4 = 0
      ∧ c.w 8 = 0
      ∧ c.fits (u.core c.core).extBytes = true),
     sat (.sorrelCtrlStop st) s fun t => decide ((t.core 2).extStop = true))) = (true, true) := by decide +kernel

theorem test_sorrelCtrlStart :
    (let b := live
     let st : Stream := .host
     let s : State := asked b .host (packetOf 0x89 127 0 (([2, 2, 0, 0] ++ zeros 8)))
     let s : State := { s with cores := Vector.replicate 9 .reset }
     let c : Cmd := cmdOf s .host
     let u : State := afterTake s .host
     (decide (takesB s st 0x89 = true
      ∧ c.b 0 ≤ 8
      ∧ c.b 1 = 2
      ∧ (c.w 4).toNat ≤ 0x2000
      ∧ crc32c ((u.core c.core).bundleMem.readN zeroByte 0xE000 (c.w 4).toNat) = c.w 8
      ∧ c.fits (u.core c.core).extBytes = true),
     sat (.sorrelCtrlStart st) s fun t => decide ((t.core 2).extStart = true))) = (true, true) := by decide +kernel

theorem test_sorrelCtrlStart_crc :
    (let b := live
     let st : Stream := .host
     let s : State := asked b .host (packetOf 0x89 127 0 (([2, 2, 0, 0] ++ zeros 4 ++ u32 1)))
     let s : State := { s with cores := Vector.replicate 9 .reset }
     let c : Cmd := cmdOf s .host
     let u : State := afterTake s .host
     (decide (takesB s st 0x89 = true
      ∧ c.b 0 ≤ 8
      ∧ c.b 1 = 2
      ∧ (c.w 4).toNat ≤ 0x2000
      ∧ crc32c ((u.core c.core).bundleMem.readN zeroByte 0xE000 (c.w 4).toNat) ≠ c.w 8),
     sat (.sorrelCtrlStart st) s fun t => decide ((t.core 2).extStart = false))) = (true, true) := by decide +kernel

theorem test_yarrowStatus :
    (let b := live
     let st : Stream := .host
     let s : State := asked b .host (packetOf 0x90 127 0 ([]))
     let s : State := { s with yarrow := .reset }
     let c : Cmd := cmdOf s .host
     let u : State := afterTake s .host
     (decide (takesB s st 0x90 = true
      ∧ c.fits u.yarrowStatusBytes = true),
     sat (.yarrowStatus st) s fun t => decide (lastReply t ≠ []))) = (true, true) := by decide +kernel

theorem test_yarrowNodeAssignSet :
    (let b := live
     let st : Stream := .host
     let s : State := asked b .host (packetOf 0x91 127 0 ([0, 0, 9, 0]))
     let c : Cmd := cmdOf s .host
     let u : State := afterTake s .host
     (decide (takesB s st 0x91 = true
      ∧ c.b 0 = 0
      ∧ 1 ≤ c.h 2
      ∧ c.h 2 ≤ 4000),
     sat (.yarrowNodeAssignSet st) s fun t => decide (t.yarrow.id = 9#12))) = (true, true) := by decide +kernel

theorem test_yarrowNodeAssignChain :
    (let b := live
     let st : Stream := .host
     let s : State := asked b .host (packetOf 0x91 127 0 ([1, 0, 9, 0]))
     let c : Cmd := cmdOf s .host
     let u : State := afterTake s .host
     (decide (takesB s st 0x91 = true
      ∧ c.b 0 = 1
      ∧ 1 ≤ c.h 2
      ∧ c.h 2 ≤ 4000),
     sat (.yarrowNodeAssignChain st) s fun t => decide (t.yarrow.id = 9#12))) = (true, true) := by decide +kernel

theorem test_yarrowNodeAssign_range :
    (let b := live
     let st : Stream := .host
     let i : Instr := .yarrowNodeAssignSet .host
     let s : State := asked b .host (packetOf 0x91 127 0 ([0, 0, 0, 0]))
     let c : Cmd := cmdOf s .host
     let u : State := afterTake s .host
     (decide (takesB s st 0x91 = true
      ∧ (i = .yarrowNodeAssignSet st ∧ c.b 0 = 0 ∨ i = .yarrowNodeAssignChain st ∧ c.b 0 = 1)
      ∧ (c.h 2 = 0 ∨ 4000 < c.h 2)),
     sat (i) s fun t => decide (t.yarrow.id = s.yarrow.id))) = (true, true) := by decide +kernel

theorem test_yarrowForward :
    (let b := live
     let st : Stream := .host
     let s : State := asked b .host (packetOf 0x92 127 0 ((zeros 12)))
     let s : State := asked { b with yarrow := { Yarrow.reset with id := 3, seen := [{ src := 9, h := 0, stamp := 0 }] }, board := { b.board with beat := 1000 } } .host ([0x92, 0x11, 0x90, 0, 127, 0, 12, 0] ++ zeros 12)
     let c : Cmd := cmdOf s .host
     let u : State := afterTake s .host
     (decide (takesB s st 0x92 = true
      ∧ 1 ≤ c.nodeField
      ∧ c.nodeField ≤ 4000
      ∧ BitVec.ofNat 12 c.nodeField ≠ s.yarrow.id
      ∧ c.h 2 < 16
      ∧ (s.yarrow.seen.any fun e => e.src == BitVec.ofNat 12 c.nodeField && decide (Beat.since s.now e.stamp ≤ 750000)) = true
      ∧ u.yarrow.fwd.length < 16),
     sat (.yarrowForward st) s fun t => decide (t.yarrow.fwd.length = 1))) = (true, true) := by decide +kernel

theorem test_yarrowForward_unseen :
    (let b := live
     let st : Stream := .host
     let s : State := asked b .host (packetOf 0x92 127 0 ((zeros 12)))
     let s : State := asked { b with yarrow := { Yarrow.reset with id := 3 } } .host ([0x92, 0x11, 0x90, 0, 127, 0, 12, 0] ++ zeros 12)
     let c : Cmd := cmdOf s .host
     let u : State := afterTake s .host
     (decide (takesB s st 0x92 = true
      ∧ 1 ≤ c.nodeField
      ∧ c.nodeField ≤ 4000
      ∧ BitVec.ofNat 12 c.nodeField ≠ u.yarrow.id
      ∧ c.h 2 < 16
      ∧ (u.yarrow.seen.any fun e => e.src == BitVec.ofNat 12 c.nodeField && decide (Beat.since s.now e.stamp ≤ 750000)) = false),
     sat (.yarrowForward st) s fun t => decide (lastReply t = c.reply false 0x89 []))) = (true, true) := by decide +kernel

theorem test_yarrowForward_busy :
    (let b := live
     let st : Stream := .host
     let s : State := asked b .host (packetOf 0x92 127 0 ((zeros 12)))
     let s : State := asked { b with yarrow := { Yarrow.reset with id := 3, seen := [{ src := 9, h := 0, stamp := 0 }], fwd := List.replicate 16 ⟨9, .host, [], 0, 0, []⟩ }, board := { b.board with beat := 1000 } } .host ([0x92, 0x11, 0x90, 0, 127, 0, 12, 0] ++ zeros 12)
     let c : Cmd := cmdOf s .host
     let u : State := afterTake s .host
     (decide (takesB s st 0x92 = true
      ∧ 1 ≤ c.nodeField
      ∧ c.nodeField ≤ 4000
      ∧ BitVec.ofNat 12 c.nodeField ≠ s.yarrow.id
      ∧ c.h 2 < 16
      ∧ (s.yarrow.seen.any fun e => e.src == BitVec.ofNat 12 c.nodeField && decide (Beat.since s.now e.stamp ≤ 750000)) = true
      ∧ 16 ≤ u.yarrow.fwd.length),
     sat (.yarrowForward st) s fun t => decide (lastReply t = c.reply false 0x86 []))) = (true, true) := by decide +kernel

theorem test_yarrowForward_range :
    (let b := live
     let st : Stream := .host
     let s : State := asked b .host (packetOf 0x92 127 0 ((zeros 12)))
     let c : Cmd := cmdOf s .host
     let u : State := afterTake s .host
     (decide (takesB s st 0x92 = true
      ∧ (c.nodeField = 0 ∨ 4000 < c.nodeField ∨ BitVec.ofNat 12 c.nodeField = u.yarrow.id ∨ 16 ≤ c.h 2)),
     sat (.yarrowForward st) s fun t => decide (lastReply t = c.reply false 0x88 []))) = (true, true) := by decide +kernel

/-! ### The Yarrow link -/
/-- The link runs, YA and YB linked, this module's ID 3. -/
def yOn (b : State) (f : Yarrow → Yarrow) : State :=
  { (asked b .host []) with pool := quiet128, faults := .reset
                            yarrow := f { Yarrow.reset with id := 3, pa := { YPortSt.reset with valid := 3, linked := true }, pb := { YPortSt.reset with valid := 3, linked := true } } }
def fr (dst src : BitVec 12) (t : Byte) (pl : List Byte) : YFrame := ⟨dst, src, 7, t, 1, 5, pl⟩
def withFrame (f : YFrame) (s : State) : State := { s with pool := s.pool.append 80 (mkPacket s.pool .none (frameBytes f)) }
def inGroup (g : GroupSt) (w : Yarrow) : Yarrow := { w with groupNow := 5, group := 0x105#32, gstate := g, root := 2, term := 9, termMax := 9 }

/-! ### The Yarrow link (chapter 19) -/

theorem test_yarrowFrameReceive_off :
    (let b := live
     let y : YPort := .ya
     let f : YFrame := fr 3 9 0x12 []
     let r : YRecv := ⟨24, crc32 (frameBytes (fr 3 9 0x12 [])), .sound⟩
     let busy : Bool := false
     let s : State := { b with board := { b.board with mainOn := false } }
     (decide (s.hubRuns = false ∨ s.board.mainOn = false ∨ r.preamble < 24),
     sat (.yarrowFrameReceive y f r busy) s fun t => decide (t.yarrow.crcErr = s.yarrow.crcErr))) = (true, true) := by decide +kernel

theorem test_yarrowFrameReceive_crc :
    (let b := live
     let y : YPort := .ya
     let f : YFrame := fr 3 9 0x12 []
     let r : YRecv := ⟨24, ~~~crc32 (frameBytes (fr 3 9 0x12 [])), .sound⟩
     let busy : Bool := false
     let s : State := yOn b id
     (decide (s.hubRuns = true
      ∧ s.board.mainOn = true
      ∧ 24 ≤ r.preamble
      ∧ crc32 (frameBytes f) ≠ r.crc),
     sat (.yarrowFrameReceive y f r busy) s fun t => decide (t.yarrow.crcErr = satIncr s.yarrow.crcErr
      ∧ ((busy = false ∧ s.yarrow.id ≠ 0 ∧ f.dst ≠ 0 ∧ f.dst ≠ s.yarrow.id ∧ f.src ≠ s.yarrow.id ∧ f.hops ≠ 0) → (t.yarrow.port (yOther y)).wire = ⟨36, frameWire false (frameBytes { f with hops := f.hops - 1 })⟩)
      ∧ (t.yarrow.port y).linked = (s.yarrow.port y).linked
      ∧ (t.yarrow.port y).lastRx = (s.yarrow.port y).lastRx
      ∧ t.yarrow.seen = s.yarrow.seen
      ∧ t.yarrow.id = s.yarrow.id))) = (true, true) := by decide +kernel

theorem test_yarrowFrameReceive_neighbour :
    (let b := live
     let y : YPort := .ya
     let f : YFrame := fr 0 9 1 [9, 0, 0, 0]
     let r : YRecv := ⟨24, crc32 (frameBytes (fr 0 9 1 [9, 0, 0, 0])), .sound⟩
     let busy : Bool := false
     let s : State := yOn b fun w => { w with pa := { w.pa with linked := false, valid := 2 } }
     (decide (s.hubRuns = true
      ∧ s.board.mainOn = true
      ∧ 24 ≤ r.preamble
      ∧ crc32 (frameBytes f) = r.crc
      ∧ f.dst = 0
      ∧ (s.yarrow.id = 0 ∨ f.src ≠ s.yarrow.id)
      ∧ knownType f.type.toNat = true
      ∧ f.flags.toNat / 2 = 0
      ∧ 2 ≤ (s.yarrow.port y).valid
      ∧ s.pool.room (yRx y) (cellsFor (frameBytes f).length) = true),
     sat (.yarrowFrameReceive y f r busy) s fun t => decide ((t.pool.queues[(yRx y)]).closed.map Packet.data = (s.pool.queues[(yRx y)]).closed.map Packet.data ++ [frameBytes f]
      ∧ (t.yarrow.port y).linked = true
      ∧ (t.yarrow.port y).lastRx = s.now
      ∧ (s.yarrow.id ≠ 0 → t.ready 22 = true)
      ∧ (busy = false → (t.yarrow.port (yOther y)).wire = ⟨36, []⟩)))) = (true, true) := by decide +kernel

theorem test_yarrowFrameReceive_stripped :
    (let b := live
     let y : YPort := .ya
     let f : YFrame := fr 4095 3 0x12 []
     let r : YRecv := ⟨24, crc32 (frameBytes (fr 4095 3 0x12 [])), .sound⟩
     let busy : Bool := false
     let s : State := yOn b fun w => { w with seq := 9, sentN := 4 }
     (decide (s.hubRuns = true
      ∧ s.board.mainOn = true
      ∧ 24 ≤ r.preamble
      ∧ crc32 (frameBytes f) = r.crc
      ∧ f.dst ≠ 0
      ∧ s.yarrow.id ≠ 0
      ∧ f.src = s.yarrow.id
      ∧ (s.yarrow.seq - 1 - f.seq).toNat < s.yarrow.sentN),
     sat (.yarrowFrameReceive y f r busy) s fun t => decide (t.yarrow.ring = true
      ∧ t.yarrow.id = s.yarrow.id
      ∧ (busy = false → (t.yarrow.port (yOther y)).wire = ⟨36, []⟩)))) = (true, true) := by decide +kernel

theorem test_yarrowFrameReceive_conflict :
    (let b := live
     let y : YPort := .ya
     let f : YFrame := fr 4095 3 0x12 []
     let r : YRecv := ⟨24, crc32 (frameBytes (fr 4095 3 0x12 [])), .sound⟩
     let busy : Bool := false
     let s : State := yOn b fun w => { w with seq := 9, sentN := 3, idSrc := 2 }
     (decide (s.hubRuns = true
      ∧ s.board.mainOn = true
      ∧ 24 ≤ r.preamble
      ∧ crc32 (frameBytes f) = r.crc
      ∧ s.yarrow.id ≠ 0
      ∧ f.src = s.yarrow.id
      ∧ s.yarrow.sentN ≤ (s.yarrow.seq - 1 - f.seq).toNat),
     sat (.yarrowFrameReceive y f r busy) s fun t => decide (t.raisedAt 51 = true
      ∧ t.yarrow.id = (if s.yarrow.idSrc = 2 then 0 else s.yarrow.id)
      ∧ t.yarrow.ring = s.yarrow.ring))) = (true, true) := by decide +kernel

theorem test_yarrowFrameReceive_mine :
    (let b := live
     let y : YPort := .ya
     let f : YFrame := { fr 3 9 0x12 [] with flags := 0 }
     let r : YRecv := ⟨24, crc32 (frameBytes ({ fr 3 9 0x12 [] with flags := 0 })), .sound⟩
     let busy : Bool := true
     let s : State := yOn b fun w => { w with seen := [⟨9, 4, 0⟩] }
     (decide (s.hubRuns = true
      ∧ s.board.mainOn = true
      ∧ 24 ≤ r.preamble
      ∧ crc32 (frameBytes f) = r.crc
      ∧ f.dst = s.yarrow.id
      ∧ s.yarrow.id ≠ 0
      ∧ s.yarrow.id ≠ 4095
      ∧ f.src ≠ s.yarrow.id
      ∧ knownType f.type.toNat = true
      ∧ f.flags.toNat / 2 = 0
      ∧ (s.yarrow.seqCheck s.now f).1 = true
      ∧ s.pool.room (yRx y) (cellsFor (frameBytes f).length) = true),
     sat (.yarrowFrameReceive y f r busy) s fun t => decide ((t.pool.queues[(yRx y)]).closed.map Packet.data = (s.pool.queues[(yRx y)]).closed.map Packet.data ++ [frameBytes f]
      ∧ t.yarrow.seen = s.yarrow.seen.filter (fun e => e.src != f.src) ++ [⟨f.src, f.seq, s.now⟩]
      ∧ t.yarrow.seqDrop = s.yarrow.seqDrop))) = (true, true) := by decide +kernel

theorem test_yarrowFrameReceive_repeated :
    (let b := live
     let y : YPort := .ya
     let f : YFrame := { fr 3 9 0x12 [] with flags := 0 }
     let r : YRecv := ⟨24, crc32 (frameBytes ({ fr 3 9 0x12 [] with flags := 0 })), .sound⟩
     let busy : Bool := true
     let s : State := yOn b fun w => { w with seen := [⟨9, 5, 0⟩] }
     (decide (s.hubRuns = true
      ∧ s.board.mainOn = true
      ∧ 24 ≤ r.preamble
      ∧ crc32 (frameBytes f) = r.crc
      ∧ f.dst = s.yarrow.id
      ∧ s.yarrow.id ≠ 0
      ∧ s.yarrow.id ≠ 4095
      ∧ f.src ≠ s.yarrow.id
      ∧ knownType f.type.toNat = true
      ∧ f.flags.toNat / 2 = 0
      ∧ (s.yarrow.seqCheck s.now f).1 = false),
     sat (.yarrowFrameReceive y f r busy) s fun t => decide (t.yarrow.seqDrop = satIncr s.yarrow.seqDrop
      ∧ t.yarrow.seen = s.yarrow.seen))) = (true, true) := by decide +kernel

theorem test_yarrowFrameReceive_transit :
    (let b := live
     let y : YPort := .ya
     let f : YFrame := fr 8 9 0x20 []
     let r : YRecv := ⟨24, crc32 (frameBytes (fr 8 9 0x20 [])), .sound⟩
     let s : State := yOn b id
     (decide (s.hubRuns = true
      ∧ s.board.mainOn = true
      ∧ 24 ≤ r.preamble
      ∧ crc32 (frameBytes f) = r.crc
      ∧ f.dst ≠ 0
      ∧ f.dst ≠ 4095
      ∧ s.yarrow.id ≠ 0
      ∧ f.dst ≠ s.yarrow.id
      ∧ f.src ≠ s.yarrow.id
      ∧ f.hops ≠ 0
      ∧ s.pool.room (yTransit (yOther y)) (cellsFor (frameBytes { f with hops := f.hops - 1 }).length) = true),
     sat (.yarrowFrameReceive y f r true) s fun t => decide ((t.pool.queues[(yTransit (yOther y))]).closed.map Packet.data = (s.pool.queues[(yTransit (yOther y))]).closed.map Packet.data ++ [frameBytes { f with hops := f.hops - 1 }]
      ∧ t.yarrow.heldN = satIncr s.yarrow.heldN
      ∧ t.yarrow.seen = s.yarrow.seen
      ∧ (t.yarrow.port (yOther y)).wire = (s.yarrow.port (yOther y)).wire))) = (true, true) := by decide +kernel

theorem test_yarrowFrameReceive_forward :
    (let b := live
     let y : YPort := .ya
     let f : YFrame := fr 8 9 0x20 []
     let r : YRecv := ⟨24, crc32 (frameBytes (fr 8 9 0x20 [])), .sound⟩
     let s : State := yOn b id
     (decide (s.hubRuns = true
      ∧ s.board.mainOn = true
      ∧ 24 ≤ r.preamble
      ∧ crc32 (frameBytes f) = r.crc
      ∧ f.dst ≠ 0
      ∧ s.yarrow.id ≠ 0
      ∧ f.dst ≠ s.yarrow.id
      ∧ f.src ≠ s.yarrow.id
      ∧ f.hops ≠ 0),
     sat (.yarrowFrameReceive y f r false) s fun t => decide ((t.yarrow.port (yOther y)).wire = ⟨36, frameWire true (frameBytes { f with hops := f.hops - 1 })⟩
      ∧ t.pool.queues[(yTransit (yOther y))] = s.pool.queues[(yTransit (yOther y))]
      ∧ t.yarrow.heldN = s.yarrow.heldN))) = (true, true) := by decide +kernel

theorem test_yarrowFrameReceive_broadcast :
    (let b := live
     let y : YPort := .ya
     let f : YFrame := fr 4095 9 0x10 [5, 0, 0, 0, 0, 0, 0, 0, 0, 0, 0, 0]
     let r : YRecv := ⟨24, crc32 (frameBytes (fr 4095 9 0x10 [5, 0, 0, 0, 0, 0, 0, 0, 0, 0, 0, 0])), .sound⟩
     let s : State := yOn b id
     (decide (s.hubRuns = true
      ∧ s.board.mainOn = true
      ∧ 24 ≤ r.preamble
      ∧ crc32 (frameBytes f) = r.crc
      ∧ f.dst = 4095
      ∧ f.src ≠ s.yarrow.id
      ∧ knownType f.type.toNat = true
      ∧ f.flags = 1
      ∧ f.hops ≠ 0
      ∧ s.pool.room (yRx y) (cellsFor (frameBytes f).length) = true
      ∧ (s.pool.queues[(yTransit (yOther y))]).closed = []),
     sat (.yarrowFrameReceive y f r true) s fun t => decide ((t.pool.queues[(yRx y)]).closed.map Packet.data = (s.pool.queues[(yRx y)]).closed.map Packet.data ++ [frameBytes f]
      ∧ t.yarrow.heldN = satIncr s.yarrow.heldN))) = (true, true) := by decide +kernel

theorem test_yarrowTransmitStart :
    (let b := live
     let y : YPort := .ya
     let n : Nat := 32
     let o : CellObs := .sound
     let q : QueueId := 82
     let k : Packet := mkPacket quiet128 .none (frameBytes (fr 8 9 0x20 []))
     let s : State := (yOn b id).modPool fun m => m.append 82 (mkPacket m .none (frameBytes (fr 8 9 0x20 [])))
     (decide (s.hubRuns = true
      ∧ s.board.mainOn = true
      ∧ 32 ≤ n
      ∧ (s.yarrow.port y).backoff = 0
      ∧ q = (if (s.pool.head (yTransit y)).isSome then yTransit y else yTx y)
      ∧ s.pool.head q = some k
      ∧ o = .sound
      ∧ k.bad = false),
     sat (.yarrowTransmitStart y n (.clear o)) s fun t => decide ((t.pool.queues[q]).closed = (s.pool.queues[q]).closed.tail
      ∧ (q = yTx y → (t.yarrow.port y).lastTx = s.now)
      ∧ (t.yarrow.port y).wire = ⟨if (s.pool.head (yTransit y)).isSome then 36 else 32, frameWire true k.data⟩))) = (true, true) := by decide +kernel

theorem test_yarrowTransmitStart_integrity :
    (let b := live
     let y : YPort := .ya
     let n : Nat := 32
     let o : CellObs := .sound
     let q : QueueId := 82
     let k : Packet := { mkPacket quiet128 .none (frameBytes (fr 8 9 0x20 [])) with poison := true }
     let s : State := (yOn b id).modPool fun m => m.append 82 { mkPacket m .none (frameBytes (fr 8 9 0x20 [])) with poison := true }
     (decide (s.hubRuns = true
      ∧ s.board.mainOn = true
      ∧ 32 ≤ n
      ∧ (s.yarrow.port y).backoff = 0
      ∧ q = (if (s.pool.head (yTransit y)).isSome then yTransit y else yTx y)
      ∧ s.pool.head q = some k
      ∧ (o ≠ .sound ∨ k.bad = true)),
     sat (.yarrowTransmitStart y n (.clear o)) s fun t => decide (t.raisedAt 210 = true
      ∧ ((if o = .sound then k.flaw else o) = .parity → t.raisedAt 211 = true)
      ∧ (t.pool.queues[q]).closed = (s.pool.queues[q]).closed.tail
      ∧ (t.yarrow.port y).wire = ⟨if (s.pool.head (yTransit y)).isSome then 36 else 32, frameWire false k.data⟩))) = (true, true) := by decide +kernel

theorem test_yarrowTransmitStart_waits :
    (let b := live
     let y : YPort := .ya
     let n : Nat := 31
     let o : YLine := .carrier
     let s : State := (yOn b id).modPool fun m => m.append 82 (mkPacket m .none (frameBytes (fr 8 9 0x20 [])))
     (decide (n < 32 ∨ 0 < (s.yarrow.port y).backoff),
     sat (.yarrowTransmitStart y n o) s fun t => decide ((t.pool.queues[(82 : QueueId)]).closed.length = 1))) = (true, true) := by decide +kernel

theorem test_poisonedFrame :
    (let b := live
     let y : YPort := .ya
     let k : Packet := { mkPacket quiet128 .none (frameBytes (fr 0 9 1 [9, 0, 0, 0])) with poison := true }
     let i : Instr := .link .ya
     let s : State := (yOn b id).modPool fun m => m.append 80 { mkPacket m .none (frameBytes (fr 0 9 1 [9, 0, 0, 0])) with poison := true }
     (decide (s.yarrowOn = true
      ∧ s.pool.head (yRx y) = some k
      ∧ k.bad = true
      ∧ (s.pool.queues[(yRx y)]).quarantine = false
      ∧ (i = .link y ∨ i = .idAssign y ∨ i = .heartbeat y ∨ i = .elect y ∨ i = .report y ∨ i = .grant y ∨ i = .fwdCmd y ∨ i = .fwdReply y)),
     sat (i) s fun t => decide (t.yarrow.pa.neigh = s.yarrow.pa.neigh))) = (true, true) := by decide +kernel

theorem test_link :
    (let b := live
     let y : YPort := .ya
     let f : YFrame := fr 0 9 1 [9, 0, 0, 0]
     let s : State := withFrame (fr 0 9 1 [9, 0, 0, 0]) (yOn b id)
     (decide (s.frameIs y 0x01 f),
     sat (.link y) s fun t => decide (t.yarrow.pa.neigh = 9#12
      ∧ (t.pool.queues[(80 : QueueId)]).closed.length = 0))) = (true, true) := by decide +kernel

theorem test_frames_wait :
    (let b := live
     let y : YPort := .ya
     let i : Instr := .heartbeat .ya
     let n : Nat := 0x10
     let f : YFrame := fr 0 9 1 [9, 0, 0, 0]
     let s : State := withFrame (fr 0 9 1 [9, 0, 0, 0]) (yOn b id)
     (decide (((i = .link y ∧ n = 0x01) ∨ (i = .idAssign y ∧ n = 0x02) ∨ (i = .heartbeat y ∧ n = 0x10) ∨ (i = .elect y ∧ n = 0x11) ∨ (i = .report y ∧ n = 0x12) ∨ (i = .grant y ∧ n = 0x13) ∨ (i = .fwdCmd y ∧ n = 0x20) ∨ (i = .fwdReply y ∧ n = 0x21))
      ∧ s.frameAt y = some f
      ∧ f.type.toNat ≠ n),
     sat (i) s fun t => decide ((t.pool.queues[(80 : QueueId)]).closed.length = 1))) = (true, true) := by decide +kernel

theorem test_linkSend :
    (let b := live
     let y : YPort := .ya
     let s : State := yOn b fun w => { w with pa := { w.pa with lastTx := b.board.beat - 2500 } }
     (decide (s.yarrowOn = true
      ∧ 2500 ≤ Beat.since s.now (s.yarrow.port y).lastTx),
     sat (.linkSend y) s fun t => decide ((t.pool.queues[(81 : QueueId)]).closed.length = 1
      ∧ t.yarrow.pa.lastTx = s.now))) = (true, true) := by decide +kernel

theorem test_yarrowLink :
    (let b := live
     let y : YPort := .ya
     let s : State := yOn b fun w => { w with pa := { w.pa with lastRx := b.board.beat - 7500 } }
     (decide (s.yarrowOn = true
      ∧ (s.yarrow.port y).linked = true
      ∧ 7500 ≤ Beat.since s.now (s.yarrow.port y).lastRx),
     sat (.yarrowLink y) s fun t => decide ((t.yarrow.port y).linked = false
      ∧ (t.yarrow.port y).valid = 0
      ∧ t.raisedAt 49 = true
      ∧ (bit1 s.yarrow.link 1 = true → s.yarrow.ringBroken = false → t.raisedAt 52 = true)
      ∧ ((s.yarrow.port (yOther y)).linked = false → t.ready 22 = false)))) = (true, true) := by decide +kernel

theorem test_yarrowLink_holds :
    (let b := live
     let y : YPort := .ya
     let s : State := yOn b fun w => { w with pa := { w.pa with lastRx := b.board.beat } }
     (decide ((s.yarrow.port y).linked = false ∨ Beat.since s.now (s.yarrow.port y).lastRx < 7500),
     sat (.yarrowLink y) s fun t => decide (t.yarrow.pa.linked = true))) = (true, true) := by decide +kernel

theorem test_idAssign :
    (let b := live
     let y : YPort := .ya
     let f : YFrame := fr 0 9 2 [9, 0, 0, 0]
     let s : State := withFrame (fr 0 9 2 [9, 0, 0, 0]) (yOn b fun w => { w with id := 0, node := 0 })
     (decide (s.frameIs y 0x02 f
      ∧ rdNat f.payload 0 2 ≤ 4000
      ∧ (s.yarrow.head && y == .ya) = false
      ∧ fld s.yarrow.node 0 12 = 0),
     sat (.idAssign y) s fun t => decide (t.yarrow.id = 9#12
      ∧ (t.pool.queues[(85 : QueueId)]).closed.length = 1))) = (true, true) := by decide +kernel

theorem test_idAssign_configured :
    (let b := live
     let y : YPort := .ya
     let f : YFrame := fr 0 9 2 [9, 0, 0, 0]
     let s : State := withFrame (fr 0 9 2 [9, 0, 0, 0]) (yOn b fun w => { w with id := 5, node := 5 })
     (decide (s.frameIs y 0x02 f
      ∧ rdNat f.payload 0 2 ≤ 4000
      ∧ (s.yarrow.head && y == .ya) = false
      ∧ fld s.yarrow.node 0 12 ≠ 0),
     sat (.idAssign y) s fun t => decide (t.yarrow.id = 5#12))) = (true, true) := by decide +kernel

theorem test_idAssign_head :
    (let b := live
     let y : YPort := .ya
     let f : YFrame := fr 0 9 2 [9, 0, 0, 0]
     let s : State := withFrame (fr 0 9 2 [9, 0, 0, 0]) (yOn b fun w => { w with head := true })
     (decide (s.frameIs y 0x02 f
      ∧ s.yarrow.head = true
      ∧ y = .ya),
     sat (.idAssign y) s fun t => decide (t.yarrow.id = 3#12))) = (true, true) := by decide +kernel

theorem test_idAssign_above :
    (let b := live
     let y : YPort := .ya
     let f : YFrame := fr 0 9 2 [0xA1, 0x0F, 0, 0]
     let s : State := withFrame (fr 0 9 2 [0xA1, 0x0F, 0, 0]) (yOn b id)
     (decide (s.frameIs y 0x02 f
      ∧ 4000 < rdNat f.payload 0 2
      ∧ (s.yarrow.head && y == .ya) = false),
     sat (.idAssign y) s fun t => decide (t.yarrow.id = 3#12))) = (true, true) := by decide +kernel

theorem test_seqSourceExpiry :
    (let b := live
     let n : Fin 4096 := 9
     let s : State := yOn b fun w => { w with seen := [⟨9, 0, b.board.beat - 750000⟩, ⟨8, 0, b.board.beat⟩] }
     (decide (s.hubRuns = true
      ∧ s.coreStopped 8 = false),
     sat (.seqSourceExpiry n) s fun t => decide (t.yarrow.seen = [⟨8, 0, s.now⟩]))) = (true, true) := by decide +kernel

theorem test_fwdCmd_disabled :
    (let b := live
     let y : YPort := .ya
     let f : YFrame := fr 3 9 0x20 (zeros 12)
     let s : State := withFrame (fr 3 9 0x20 (zeros 12)) (yOn b fun w => { w with link := 0 })
     (decide (s.frameIs y 0x20 f
      ∧ bit1 s.yarrow.link 0 = false),
     sat (.fwdCmd y) s fun t => decide ((t.pool.queues[qFwd]).closed.length = 0
      ∧ (t.pool.queues[(81 : QueueId)]).closed.length = 1))) = (true, true) := by decide +kernel

theorem test_fwdCmd :
    (let b := live
     let y : YPort := .ya
     let f : YFrame := fr 3 9 0x20 (wire (packetOf 0x00 127 0 []))
     let s : State := withFrame (fr 3 9 0x20 (wire (packetOf 0x00 127 0 []))) (yOn b fun w => { w with link := 1 })
     (decide (s.frameIs y 0x20 f
      ∧ bit1 s.yarrow.link 0 = true
      ∧ 12 ≤ f.payload.length
      ∧ f.payload.length ≤ 1024
      ∧ f.payload.length % 4 = 0
      ∧ crc32 (f.payload.take (f.payload.length - 4)) = rdWord f.payload (f.payload.length - 4)
      ∧ s.host.tagsFwd.contains (f.payload.getD 1 0) = false
      ∧ (s.pool.queues[qFwd]).closed = []
      ∧ (s.pool.modQ (yRx y) Queue.tail).room qFwd (cellsFor (f.payload.length - 4)) = true),
     sat (.fwdCmd y) s fun t => decide ((t.pool.queues[qFwd]).closed.map Packet.data = [f.payload.take (f.payload.length - 4)]
      ∧ (t.pool.queues[qFwd]).closed.map Packet.carried = [.fwd f.src false]
      ∧ t.host.tagsFwd = s.host.tagsFwd ++ [f.payload.getD 1 0]))) = (true, true) := by decide +kernel

theorem test_fwdReply_denied :
    (let b := live
     let y : YPort := .ya
     let f : YFrame := fr 3 9 0x21 [0x10, 0, 0, 0]
     let o : FwdOut := ⟨9, .host, [0x92, 5, 0, 0, 127, 0, 0, 0], 0, 0, []⟩
     let s : State := withFrame (fr 3 9 0x21 [0x10, 0, 0, 0]) (yOn b fun w => { w with fwd := [⟨9, .host, [0x92, 5, 0, 0, 127, 0, 0, 0], 0, 0, []⟩] })
     (decide (s.frameIs y 0x21 f
      ∧ s.yarrow.fwd.find? (FwdOut.answeredBy f) = some o
      ∧ rdNat f.payload 2 2 = 0),
     sat (.fwdReply y) s fun t => decide (t.yarrow.fwd = []
      ∧ lastReply t = [0x92, 5, 0x87, 0, 127, 0, 0, 0]))) = (true, true) := by decide +kernel

theorem test_fwdReply_whole :
    (let b := live
     let y : YPort := .ya
     let f : YFrame := fr 3 9 0x21 ([0x10, 0, 12, 0] ++ wire (zeros 8))
     let o : FwdOut := ⟨9, .host, [0x92, 5, 0, 0, 127, 0, 0, 0], 0, 0, []⟩
     let s : State := withFrame (fr 3 9 0x21 ([0x10, 0, 12, 0] ++ wire (zeros 8))) (yOn b fun w => { w with fwd := [⟨9, .host, [0x92, 5, 0, 0, 127, 0, 0, 0], 0, 0, []⟩] })
     (decide (s.frameIs y 0x21 f
      ∧ s.yarrow.fwd.find? (FwdOut.answeredBy f) = some o
      ∧ o.frags = []
      ∧ rdByte f.payload 0 = 16
      ∧ rdNat f.payload 2 2 = (f.payload.drop 4).length
      ∧ 4 ≤ rdNat f.payload 2 2
      ∧ crc32 ((f.payload.drop 4).take (rdNat f.payload 2 2 - 4)) = rdWord (f.payload.drop 4) (rdNat f.payload 2 2 - 4)),
     sat (.fwdReply y) s fun t => decide (t.yarrow.fwd = []
      ∧ (lastReply t).length = 20))) = (true, true) := by decide +kernel

theorem test_fwdReply_unknown :
    (let b := live
     let y : YPort := .ya
     let f : YFrame := fr 3 9 0x21 ([0x10, 0, 12, 0] ++ wire (zeros 8))
     let s : State := withFrame (fr 3 9 0x21 ([0x10, 0, 12, 0] ++ wire (zeros 8))) (yOn b fun w => { w with fwd := [⟨9, .host, [0x92, 5, 0, 0, 127, 0, 0, 0], 0, 5, []⟩] })
     (decide (s.frameIs y 0x21 f
      ∧ s.yarrow.fwd.find? (FwdOut.answeredBy f) = none),
     sat (.fwdReply y) s fun t => decide ((t.pool.queues[qReply]).closed.length = 0))) = (true, true) := by decide +kernel

theorem test_forwardTimeout :
    (let b := live
     let n : Fin 4096 := 9
     let o : FwdOut := ⟨9, .host, [0x92, 5, 0, 0, 127, 0, 0, 0], b.board.beat - 125000, 0, []⟩
     let s : State := yOn b fun w => { w with link := 0x01F40001#32, fwd := [⟨9, .host, [0x92, 5, 0, 0, 127, 0, 0, 0], b.board.beat - 125000, 0, []⟩] }
     (decide ((s.yarrow.fwd.find? fun x => x.node == BitVec.ofFin n && decide (ms (fld s.yarrow.link 16 16) ≤ Beat.since s.now x.sent)) = some o
      ∧ s.hubRuns = true
      ∧ s.coreStopped 8 = false),
     sat (.forwardTimeout n) s fun t => decide (t.yarrow.fwd = []
      ∧ lastReply t = [0x92, 5, 0x8A, 0, 127, 0, 0, 0]))) = (true, true) := by decide +kernel

/-! ### Yarrow groups and the ledger (chapter 20) -/

theorem test_heartbeat_other :
    (let b := live
     let y : YPort := .ya
     let f : YFrame := fr 4095 2 0x10 [6, 0, 9, 0, 0, 0, 0, 0, 0, 0, 0, 0]
     let s : State := withFrame (fr 4095 2 0x10 [6, 0, 9, 0, 0, 0, 0, 0, 0, 0, 0, 0]) (yOn b (inGroup .member))
     (decide (s.frameIs y 0x10 f
      ∧ (s.yarrow.groupNow = 0 ∨ (f.payload.getD 0 0) ≠ s.yarrow.groupNow)),
     sat (.heartbeat y) s fun t => decide (t.yarrow.missed = s.yarrow.missed))) = (true, true) := by decide +kernel

theorem test_heartbeat_adopted :
    (let b := live
     let y : YPort := .ya
     let f : YFrame := fr 4095 2 0x10 [5, 0, 10, 0, 0, 0, 0, 0, 0, 0, 0, 0]
     let s : State := withFrame (fr 4095 2 0x10 [5, 0, 10, 0, 0, 0, 0, 0, 0, 0, 0, 0]) (yOn b (inGroup .listening))
     (decide (s.frameIs y 0x10 f
      ∧ s.yarrow.groupNow ≠ 0
      ∧ (f.payload.getD 0 0) = s.yarrow.groupNow
      ∧ s.yarrow.groupCfg = s.yarrow.groupNow
      ∧ (s.yarrow.gstate = .listening ∨ (s.yarrow.gstate = .root ∧ f.src.toNat < s.yarrow.id.toNat))),
     sat (.heartbeat y) s fun t => decide (t.yarrow.gstate = .member
      ∧ t.yarrow.root = f.src
      ∧ t.yarrow.term = BitVec.ofNat 16 (rdNat f.payload 2 2)
      ∧ t.yarrow.lastHb = s.now
      ∧ t.yarrow.missed = 0
      ∧ t.budget.decaying = (s.budget.decaying && !s.yarrow.current f)
      ∧ t.yarrow.repDue = some (s.now + BitVec.ofNat 48 (16 * (s.yarrow.id.toNat % 256)))))) = (true, true) := by decide +kernel

theorem test_heartbeat_member :
    (let b := live
     let y : YPort := .ya
     let f : YFrame := fr 4095 2 0x10 [5, 0, 9, 0, 0, 0, 0, 0, 0, 0, 0, 0]
     let s : State := withFrame (fr 4095 2 0x10 [5, 0, 9, 0, 0, 0, 0, 0, 0, 0, 0, 0]) (yOn b fun w => { inGroup .member w with missed := 2, hbCount := 4, lastHb := 7 })
     (decide (s.frameIs y 0x10 f
      ∧ s.yarrow.groupNow ≠ 0
      ∧ (f.payload.getD 0 0) = s.yarrow.groupNow
      ∧ s.yarrow.groupCfg = s.yarrow.groupNow
      ∧ s.yarrow.gstate = .member
      ∧ f.src = s.yarrow.root
      ∧ BitVec.ofNat 16 (rdNat f.payload 2 2) = s.yarrow.term
      ∧ (s.yarrow.rootEl = false ∨ s.yarrow.root.toNat ≤ s.yarrow.id.toNat)
      ∧ (s.yarrow.hbBeat ≠ s.now ∨ s.yarrow.hbSrcs.all (fun n => decide (f.src.toNat ≤ n.toNat)) = true)),
     sat (.heartbeat y) s fun t => decide (t.yarrow.lastHb = s.now
      ∧ t.yarrow.missed = 0
      ∧ t.yarrow.rootLost = false
      ∧ t.budget.decaying = false
      ∧ t.yarrow.hbCount = s.yarrow.hbCount + 1
      ∧ ((s.yarrow.hbCount + 1) % 10 = 0 → t.yarrow.repDue = some (s.now + BitVec.ofNat 48 (16 * (s.yarrow.id.toNat % 256))))))) = (true, true) := by decide +kernel

theorem test_heartbeat_newer :
    (let b := live
     let y : YPort := .ya
     let f : YFrame := fr 4095 9 0x10 [5, 0, 10, 0, 0, 0, 0, 0, 0, 0, 0, 0]
     let s : State := withFrame (fr 4095 9 0x10 [5, 0, 10, 0, 0, 0, 0, 0, 0, 0, 0, 0]) (yOn b fun w => { inGroup .member w with hbBeat := b.board.beat + 5 })
     (decide (s.frameIs y 0x10 f
      ∧ s.yarrow.groupNow ≠ 0
      ∧ (f.payload.getD 0 0) = s.yarrow.groupNow
      ∧ s.yarrow.groupCfg = s.yarrow.groupNow
      ∧ s.yarrow.gstate = .member
      ∧ termNewer (BitVec.ofNat 16 (rdNat f.payload 2 2)) s.yarrow.term = true
      ∧ (s.yarrow.rootEl = false ∨ s.yarrow.root.toNat ≤ s.yarrow.id.toNat)
      ∧ (s.yarrow.hbBeat ≠ s.now ∨ s.yarrow.hbSrcs.all (fun n => decide (f.src.toNat ≤ n.toNat)) = true)),
     sat (.heartbeat y) s fun t => decide (t.yarrow.root = f.src
      ∧ t.yarrow.term = BitVec.ofNat 16 (rdNat f.payload 2 2)
      ∧ t.yarrow.lastHb = s.now
      ∧ t.yarrow.missed = 0
      ∧ t.budget.decaying = false
      ∧ t.yarrow.repDue = some (s.now + BitVec.ofNat 48 (16 * (s.yarrow.id.toNat % 256)))))) = (true, true) := by decide +kernel

theorem test_heartbeat_passed :
    (let b := live
     let y : YPort := .ya
     let f : YFrame := fr 4095 9 0x10 [5, 0, 8, 0, 0, 0, 0, 0, 0, 0, 0, 0]
     let s : State := withFrame (fr 4095 9 0x10 [5, 0, 8, 0, 0, 0, 0, 0, 0, 0, 0, 0]) (yOn b fun w => { inGroup .member w with missed := 1 })
     (decide (s.frameIs y 0x10 f
      ∧ s.yarrow.groupNow ≠ 0
      ∧ (f.payload.getD 0 0) = s.yarrow.groupNow
      ∧ s.yarrow.groupCfg = s.yarrow.groupNow
      ∧ s.yarrow.gstate = .member
      ∧ BitVec.ofNat 16 (rdNat f.payload 2 2) ≠ s.yarrow.term
      ∧ termNewer (BitVec.ofNat 16 (rdNat f.payload 2 2)) s.yarrow.term = false),
     sat (.heartbeat y) s fun t => decide (t.yarrow.missed = s.yarrow.missed
      ∧ t.budget.decaying = s.budget.decaying))) = (true, true) := by decide +kernel

theorem test_heartbeat_claims :
    (let b := live
     let y : YPort := .ya
     let f : YFrame := fr 4095 7 0x10 [5, 0, 9, 0, 0, 0, 0, 0, 0, 0, 0, 0]
     let s : State := withFrame (fr 4095 7 0x10 [5, 0, 9, 0, 0, 0, 0, 0, 0, 0, 0, 0]) (yOn b fun w => { inGroup .member w with root := 7 })
     (decide (s.frameIs y 0x10 f
      ∧ s.yarrow.groupNow ≠ 0
      ∧ (f.payload.getD 0 0) = s.yarrow.groupNow
      ∧ s.yarrow.groupCfg = s.yarrow.groupNow
      ∧ s.yarrow.gstate = .member
      ∧ s.yarrow.rootEl = true
      ∧ s.yarrow.id ≠ 0
      ∧ s.yarrow.id.toNat < s.yarrow.root.toNat
      ∧ (BitVec.ofNat 16 (rdNat f.payload 2 2) = s.yarrow.term ∨ termNewer (BitVec.ofNat 16 (rdNat f.payload 2 2)) s.yarrow.term = true)),
     sat (.heartbeat y) s fun t => decide (t.yarrow.gstate = .root
      ∧ t.yarrow.root = s.yarrow.id
      ∧ t.yarrow.term = BitVec.ofNat 16 (rdNat f.payload 2 2) + 1))) = (true, true) := by decide +kernel

theorem test_heartbeat_stays :
    (let b := live
     let y : YPort := .ya
     let f : YFrame := fr 4095 7 0x10 [5, 0, 9, 0, 0, 0, 0, 0, 0, 0, 0, 0]
     let s : State := withFrame (fr 4095 7 0x10 [5, 0, 9, 0, 0, 0, 0, 0, 0, 0, 0, 0]) (yOn b (inGroup .root))
     (decide (s.frameIs y 0x10 f
      ∧ s.yarrow.groupNow ≠ 0
      ∧ (f.payload.getD 0 0) = s.yarrow.groupNow
      ∧ s.yarrow.groupCfg = s.yarrow.groupNow
      ∧ ((s.yarrow.gstate = .root ∧ s.yarrow.id.toNat ≤ f.src.toNat) ∨ s.yarrow.gstate = .electing)),
     sat (.heartbeat y) s fun t => decide (t.yarrow.gstate = s.yarrow.gstate
      ∧ (s.yarrow.gstate = .electing → t.yarrow.heard = s.yarrow.heard ++ [f.src])))) = (true, true) := by decide +kernel

theorem test_heartbeat_group :
    (let b := live
     let y : YPort := .ya
     let f : YFrame := fr 4095 2 0x10 [5, 0, 9, 0, 0, 0, 0, 0, 0, 0, 0, 0]
     let s : State := withFrame (fr 4095 2 0x10 [5, 0, 9, 0, 0, 0, 0, 0, 0, 0, 0, 0]) (yOn b fun w => { inGroup .member w with group := 0x106#32 })
     (decide (s.frameIs y 0x10 f
      ∧ s.yarrow.groupNow ≠ 0
      ∧ (f.payload.getD 0 0) = s.yarrow.groupNow
      ∧ s.yarrow.groupCfg ≠ s.yarrow.groupNow),
     sat (.heartbeat y) s fun t => decide (t.yarrow.groupNow = s.yarrow.groupCfg
      ∧ t.yarrow.gstate = (if s.yarrow.groupCfg = 0 then .none else .listening)
      ∧ t.yarrow.ledger = []))) = (true, true) := by decide +kernel

theorem test_heartbeatSend :
    (let b := live
     let s : State := yOn b fun w => { inGroup .root w with lastHb := b.board.beat - 25000 }
     (decide (s.yarrowOn = true
      ∧ s.yarrow.gstate = .root
      ∧ 25000 ≤ Beat.since s.now s.yarrow.lastHb
      ∧ s.yarrow.groupCfg = s.yarrow.groupNow
      ∧ s.yarrow.rootEl = true),
     sat (.heartbeatSend) s fun t => decide ((t.pool.queues[(81 : QueueId)]).closed.length = 1
      ∧ (t.pool.queues[(85 : QueueId)]).closed.length = 1))) = (true, true) := by decide +kernel

theorem test_heartbeatSend_yields :
    (let b := live
     let s : State := yOn b fun w => { inGroup .root w with group := 0x005#32, lastHb := b.board.beat - 25000 }
     (decide (s.yarrowOn = true
      ∧ s.yarrow.gstate = .root
      ∧ 25000 ≤ Beat.since s.now s.yarrow.lastHb
      ∧ s.yarrow.groupCfg = s.yarrow.groupNow
      ∧ s.yarrow.rootEl = false),
     sat (.heartbeatSend) s fun t => decide (t.yarrow.gstate = .listening))) = (true, true) := by decide +kernel

theorem test_heartbeatSend_waits :
    (let b := live
     let s : State := yOn b fun w => { inGroup .root w with lastHb := b.board.beat }
     (decide (s.yarrow.gstate ≠ .root ∨ Beat.since s.now s.yarrow.lastHb < 25000),
     sat (.heartbeatSend) s fun t => decide ((t.pool.queues[(81 : QueueId)]).closed.length = 0))) = (true, true) := by decide +kernel

theorem test_heartbeatMissed :
    (let b := live
     let g : Nat := 60000
     let s : State := (yOn b fun w => { inGroup .member w with lastHb := b.board.beat - 31250, missed := 0 }).modBudget fun x => { x with grantG := some 60000 }
     (decide (s.yarrowOn = true
      ∧ s.yarrow.gstate = .member
      ∧ s.yarrow.groupCfg = s.yarrow.groupNow
      ∧ 31250 + 25000 * s.yarrow.missed ≤ Beat.since s.now s.yarrow.lastHb
      ∧ s.yarrow.missed < 2
      ∧ s.budget.grantG = some g
      ∧ s.floorT < g),
     sat (.heartbeatMissed) s fun t => decide (t.yarrow.missed = s.yarrow.missed + 1
      ∧ t.yarrow.gstate = .member
      ∧ t.budget.grantG = some (max s.floorT (g - fld s.budget.decay 0 16))
      ∧ t.budget.due = true))) = (true, true) := by decide +kernel

theorem test_heartbeatMissed_left :
    (let b := live
     let g : Nat := 60000
     let s : State := (yOn b fun w => { inGroup .none w with groupNow := 0, group := 0, lastHb := b.board.beat - 31250, missed := 0 }).modBudget fun x => { x with grantG := some 60000 }
     (decide (s.yarrowOn = true
      ∧ s.yarrow.gstate ≠ .member
      ∧ s.yarrow.gstate ≠ .root
      ∧ 31250 + 25000 * s.yarrow.missed ≤ Beat.since s.now s.yarrow.lastHb
      ∧ s.budget.grantG = some g
      ∧ s.floorT < g),
     sat (.heartbeatMissed) s fun t => decide (t.yarrow.missed = s.yarrow.missed + 1
      ∧ t.budget.grantG = some (max s.floorT (g - fld s.budget.decay 0 16))
      ∧ t.budget.due = true))) = (true, true) := by decide +kernel

theorem test_heartbeatMissed_lost :
    (let b := live
     let s : State := yOn b fun w => { inGroup .member w with lastHb := b.board.beat - 81250, missed := 2 }
     (decide (s.yarrowOn = true
      ∧ s.yarrow.gstate = .member
      ∧ s.yarrow.groupCfg = s.yarrow.groupNow
      ∧ s.yarrow.missed = 2
      ∧ 81250 ≤ Beat.since s.now s.yarrow.lastHb),
     sat (.heartbeatMissed) s fun t => decide (t.raisedAt 50 = true
      ∧ t.yarrow.rootLost = true
      ∧ t.yarrow.gstate = (if s.yarrow.groupNow = 0 then .none else .listening)))) = (true, true) := by decide +kernel

theorem test_heartbeatMissed_waits :
    (let b := live
     let s : State := yOn b fun w => { inGroup .member w with lastHb := b.board.beat, missed := 0 }
     (decide (s.yarrow.gstate = .root ∨ Beat.since s.now s.yarrow.lastHb < 31250 + 25000 * s.yarrow.missed),
     sat (.heartbeatMissed) s fun t => decide (t.yarrow.missed = 0))) = (true, true) := by decide +kernel

theorem test_listenWindowEnd :
    (let b := live
     let s : State := yOn b fun w => { inGroup .listening w with listenFrom := b.board.beat - 75000 }
     (decide (s.yarrowOn = true
      ∧ s.yarrow.gstate = .listening
      ∧ 75000 ≤ Beat.since s.now s.yarrow.listenFrom
      ∧ s.yarrow.groupCfg = s.yarrow.groupNow
      ∧ s.yarrow.rootEl = true
      ∧ s.yarrow.id ≠ 0),
     sat (.listenWindowEnd) s fun t => decide (t.yarrow.gstate = .electing
      ∧ t.yarrow.term = 10#16
      ∧ (t.pool.queues[(81 : QueueId)]).closed.length = 1))) = (true, true) := by decide +kernel

theorem test_listenWindowEnd_again :
    (let b := live
     let s : State := yOn b fun w => { inGroup .listening w with listenFrom := b.board.beat - 75000, group := 5 }
     (decide (s.yarrowOn = true
      ∧ s.yarrow.gstate = .listening
      ∧ 75000 ≤ Beat.since s.now s.yarrow.listenFrom
      ∧ s.yarrow.groupCfg = s.yarrow.groupNow
      ∧ (s.yarrow.rootEl = false ∨ s.yarrow.id = 0)),
     sat (.listenWindowEnd) s fun t => decide (t.yarrow.gstate = .listening))) = (true, true) := by decide +kernel

theorem test_listenWindowEnd_moves :
    (let b := live
     let s : State := yOn b fun w => { inGroup .listening w with listenFrom := b.board.beat - 75000, group := 6 }
     (decide (s.yarrowOn = true
      ∧ s.yarrow.gstate = .listening
      ∧ 75000 ≤ Beat.since s.now s.yarrow.listenFrom
      ∧ s.yarrow.groupCfg ≠ s.yarrow.groupNow),
     sat (.listenWindowEnd) s fun t => decide (t.yarrow.groupNow = s.yarrow.groupCfg
      ∧ t.yarrow.gstate = (if s.yarrow.groupCfg = 0 then .none else .listening)
      ∧ t.yarrow.ledger = []
      ∧ t.budget.grantG = s.budget.grantG))) = (true, true) := by decide +kernel

theorem test_elect :
    (let b := live
     let y : YPort := .ya
     let f : YFrame := fr 4095 2 0x11 [5, 0, 12, 0]
     let s : State := withFrame (fr 4095 2 0x11 [5, 0, 12, 0]) (yOn b (inGroup .electing))
     (decide (s.frameIs y 0x11 f
      ∧ s.yarrow.groupNow ≠ 0
      ∧ (f.payload.getD 0 0) = s.yarrow.groupNow),
     sat (.elect y) s fun t => decide (t.yarrow.termMax = 12#16
      ∧ t.yarrow.heard = [2#12]))) = (true, true) := by decide +kernel

theorem test_elect_other :
    (let b := live
     let y : YPort := .ya
     let f : YFrame := fr 4095 2 0x11 [6, 0, 12, 0]
     let s : State := withFrame (fr 4095 2 0x11 [6, 0, 12, 0]) (yOn b (inGroup .electing))
     (decide (s.frameIs y 0x11 f
      ∧ (s.yarrow.groupNow = 0 ∨ (f.payload.getD 0 0) ≠ s.yarrow.groupNow)),
     sat (.elect y) s fun t => decide (t.yarrow.termMax = 9#16))) = (true, true) := by decide +kernel

theorem test_electWindowEnd :
    (let b := live
     let s : State := yOn b fun w => { inGroup .electing w with electFrom := b.board.beat - 50000, heard := [5, 4], term := 10 }
     (decide (s.yarrowOn = true
      ∧ s.yarrow.gstate = .electing
      ∧ 50000 ≤ Beat.since s.now s.yarrow.electFrom
      ∧ s.yarrow.heard.all (fun n => decide (s.yarrow.id.toNat < n.toNat)) = true),
     sat (.electWindowEnd) s fun t => decide (t.yarrow.gstate = .root
      ∧ t.yarrow.root = s.yarrow.id
      ∧ t.yarrow.term = s.yarrow.term))) = (true, true) := by decide +kernel

theorem test_electWindowEnd_loses :
    (let b := live
     let s : State := yOn b fun w => { inGroup .electing w with electFrom := b.board.beat - 50000, heard := [5, 2] }
     (decide (s.yarrowOn = true
      ∧ s.yarrow.gstate = .electing
      ∧ 50000 ≤ Beat.since s.now s.yarrow.electFrom
      ∧ s.yarrow.heard.all (fun n => decide (s.yarrow.id.toNat < n.toNat)) = false),
     sat (.electWindowEnd) s fun t => decide (t.yarrow.gstate = .listening))) = (true, true) := by decide +kernel

theorem test_windows_wait :
    (let b := live
     let i : Instr := .electWindowEnd
     let s : State := yOn b fun w => { inGroup .electing w with electFrom := b.board.beat }
     (decide ((i = .listenWindowEnd ∧ (s.yarrow.gstate ≠ .listening ∨ Beat.since s.now s.yarrow.listenFrom < 75000)) ∨ (i = .electWindowEnd ∧ (s.yarrow.gstate ≠ .electing ∨ Beat.since s.now s.yarrow.electFrom < 50000))),
     sat (i) s fun t => decide (t.yarrow.gstate = .electing))) = (true, true) := by decide +kernel

theorem test_report :
    (let b := live
     let y : YPort := .ya
     let f : YFrame := fr 3 9 0x12 ([5, 1, 0, 0] ++ u32 100 ++ u32 300 ++ u32 0)
     let s : State := withFrame (fr 3 9 0x12 ([5, 1, 0, 0] ++ u32 100 ++ u32 300 ++ u32 0)) (yOn b fun w => { inGroup .root w with ledger := [⟨9, 2, 5, 0, 0, 0, 77, 0⟩] })
     (decide (s.frameIs y 0x12 f
      ∧ s.yarrow.groupNow ≠ 0
      ∧ (f.payload.getD 0 0) = s.yarrow.groupNow),
     sat (.report y) s fun t => decide (t.yarrow.ledger = [⟨9, 1, 5, 1, 100, 300, 77, s.now⟩]))) = (true, true) := by decide +kernel

theorem test_reportSend :
    (let b := live
     let d : Beat := b.board.beat
     let s : State := yOn b fun w => { inGroup .member w with repDue := some b.board.beat }
     (decide (s.yarrowOn = true
      ∧ s.yarrow.gstate = .member
      ∧ s.yarrow.repDue = some d
      ∧ (s.now = d ∨ Beat.later s.now d = true)),
     sat (.reportSend) s fun t => decide (t.yarrow.repDue = none
      ∧ (t.pool.queues[(85 : QueueId)]).closed.length = 1))) = (true, true) := by decide +kernel

theorem test_reportSend_none :
    (let b := live
     let s : State := yOn b (inGroup .member)
     (decide (s.yarrow.repDue = none),
     sat (.reportSend) s fun t => decide ((t.pool.queues[(85 : QueueId)]).closed.length = 0))) = (true, true) := by decide +kernel

theorem test_ledgerScan :
    (let b := live
     let k : Nat := 0
     let s : State := yOn b fun w => { inGroup .root w with scanPos := some 0, scanBeat := b.board.beat - 1, groupB := 1000, ledger := [⟨9, 1, 5, 0, 20, 300, 0, 0⟩] }
     (decide (s.yarrowOn = true
      ∧ s.yarrow.gstate = .root
      ∧ s.yarrow.scanPos = some k
      ∧ s.yarrow.scanBeat ≠ s.now),
     sat (.ledgerScan) s fun t => decide (t.yarrow.scanPos = (if k < 63 then some (k + 1) else none)
      ∧ t.yarrow.scanBeat = s.now
      ∧ t.yarrow.scan = (if k = 0 then s.startScan.yarrow.scan else s.yarrow.scan)
      ∧ (∀ e ∈ t.yarrow.ledger, e.node.toNat / 64 = k → ∀ g ∈ (t.yarrow.scan.find? (fun x : BitVec 12 × Nat => x.1 == e.node)).toList, e.grant = g.2)
      ∧ (∀ e ∈ s.yarrow.ledger, e.node ≠ s.yarrow.id ∧ e.node.toNat / 64 ≠ k ∧ e.state ≠ 3 → e ∈ t.yarrow.ledger)))) = (true, true) := by decide +kernel

theorem test_ledgerScan_frame :
    (let b := live
     let k : Nat := 1
     let s : State := yOn b fun w => { inGroup .root w with scanPos := some 1, scanBeat := b.board.beat - 1, scan := [(70, 900), (9, 20)], ledger := [⟨70, 1, 5, 0, 20, 300, 0, 0⟩] }
     (decide (s.yarrowOn = true
      ∧ s.yarrow.gstate = .root
      ∧ s.yarrow.scanPos = some k
      ∧ k ≠ 0
      ∧ s.yarrow.scanBeat ≠ s.now
      ∧ s.yarrow.id.toNat / 64 ≠ k
      ∧ s.yarrow.scan.any (fun e => e.1.toNat / 64 == k) = true),
     sat (.ledgerScan) s fun t => decide ((t.pool.queues[(81 : QueueId)]).closed.length = 1
      ∧ t.yarrow.ledger = [⟨70, 1, 5, 0, 20, 300, 900, 0⟩]))) = (true, true) := by decide +kernel

theorem test_ledgerScan_own :
    (let b := live
     let k : Nat := 1
     let g : Nat := 900
     let s : State := (yOn b fun w => { inGroup .root w with id := 70, scanPos := some 1, scanBeat := b.board.beat - 1, scan := [(70, 900)] }).modFeed fun f => { f with brownout := false }
     (decide (s.yarrowOn = true
      ∧ s.yarrow.gstate = .root
      ∧ s.yarrow.scanPos = some k
      ∧ k ≠ 0
      ∧ s.yarrow.scanBeat ≠ s.now
      ∧ s.yarrow.id.toNat / 64 = k
      ∧ s.yarrow.scan.find? (fun e => e.1 == s.yarrow.id) = some (s.yarrow.id, g)
      ∧ s.feed.brownout = false),
     sat (.ledgerScan) s fun t => decide (t.budget.grantG = some g
      ∧ t.budget.due = true
      ∧ t.budget.decaying = false))) = (true, true) := by decide +kernel

theorem test_ledgerScan_waits :
    (let b := live
     let s : State := yOn b fun w => { inGroup .root w with scanPos := none }
     (decide (s.yarrow.gstate ≠ .root ∨ s.yarrow.scanPos = none ∨ s.yarrow.scanBeat = s.now),
     sat (.ledgerScan) s fun t => decide (t.yarrow.ledger = []))) = (true, true) := by decide +kernel

theorem test_ledgerStale :
    (let b := live
     let n : Fin 4096 := 9
     let e : LedgerEntry := ⟨9, 1, 5, 0, 20, 300, 44, b.board.beat - 750000⟩
     let s : State := yOn b fun w => { inGroup .root w with ledger := [⟨9, 1, 5, 0, 20, 300, 44, b.board.beat - 750000⟩] }
     (decide (s.yarrowOn = true
      ∧ s.yarrow.gstate = .root
      ∧ ledgerGet s.yarrow.ledger (BitVec.ofFin n) = some e
      ∧ BitVec.ofFin n ≠ s.yarrow.id
      ∧ 750000 ≤ Beat.since s.now e.last
      ∧ Beat.since s.now e.last < 2500000),
     sat (.ledgerStale n) s fun t => decide (t.yarrow.ledger = [⟨9, 2, 5, 0, 20, 300, 44, b.board.beat - 750000⟩]))) = (true, true) := by decide +kernel

theorem test_ledgerStale_frees :
    (let b := live
     let n : Fin 4096 := 9
     let e : LedgerEntry := ⟨9, 1, 5, 0, 20, 300, 44, b.board.beat - 2500000⟩
     let s : State := yOn b fun w => { inGroup .root w with ledger := [⟨9, 1, 5, 0, 20, 300, 44, b.board.beat - 2500000⟩] }
     (decide (s.yarrowOn = true
      ∧ s.yarrow.gstate = .root
      ∧ ledgerGet s.yarrow.ledger (BitVec.ofFin n) = some e
      ∧ BitVec.ofFin n ≠ s.yarrow.id
      ∧ 2500000 ≤ Beat.since s.now e.last),
     sat (.ledgerStale n) s fun t => decide (t.yarrow.ledger = []))) = (true, true) := by decide +kernel

theorem test_ledgerStale_own :
    (let b := live
     let n : Fin 4096 := 3
     let s : State := yOn b fun w => { inGroup .root w with ledger := [⟨3, 3, 5, 0, 20, 300, 44, b.board.beat - 2500000⟩] }
     (decide (BitVec.ofFin n = s.yarrow.id),
     sat (.ledgerStale n) s fun t => decide (t.yarrow.ledger.length = 1))) = (true, true) := by decide +kernel

theorem test_grant :
    (let b := live
     let y : YPort := .ya
     let f : YFrame := fr 4095 2 0x13 ([5, 1, 9, 0] ++ u32 (3 + 500 * 4096))
     let e : BitVec 12 × Nat := (3, 500)
     let s : State := withFrame (fr 4095 2 0x13 ([5, 1, 9, 0] ++ u32 (3 + 500 * 4096))) (yOn b (inGroup .member))
     (decide (s.frameIs y 0x13 f
      ∧ s.yarrow.groupNow ≠ 0
      ∧ (f.payload.getD 0 0) = s.yarrow.groupNow
      ∧ s.yarrow.gstate = .member
      ∧ rdNat f.payload 2 2 = s.yarrow.term.toNat
      ∧ (grantEntries f).find? (fun x => x.1 == s.yarrow.id) = some e
      ∧ s.feed.brownout = false),
     sat (.grant y) s fun t => decide (t.budget.grantG = some e.2
      ∧ t.budget.due = true
      ∧ t.budget.decaying = false))) = (true, true) := by decide +kernel

theorem test_grant_brownout :
    (let b := live
     let y : YPort := .ya
     let f : YFrame := fr 4095 2 0x13 ([5, 1, 9, 0] ++ u32 (3 + 500 * 4096))
     let e : BitVec 12 × Nat := (3, 500)
     let s : State := withFrame (fr 4095 2 0x13 ([5, 1, 9, 0] ++ u32 (3 + 500 * 4096))) { yOn b (inGroup .member) with feed := { b.feed with brownout := true } }
     (decide (s.frameIs y 0x13 f
      ∧ s.yarrow.groupNow ≠ 0
      ∧ (f.payload.getD 0 0) = s.yarrow.groupNow
      ∧ s.yarrow.gstate = .member
      ∧ rdNat f.payload 2 2 = s.yarrow.term.toNat
      ∧ (grantEntries f).find? (fun x => x.1 == s.yarrow.id) = some e
      ∧ s.feed.brownout = true),
     sat (.grant y) s fun t => decide (t.budget.grantNext = some e.2))) = (true, true) := by decide +kernel

theorem test_grant_other :
    (let b := live
     let y : YPort := .ya
     let f : YFrame := fr 4095 2 0x13 ([5, 1, 8, 0] ++ u32 (3 + 500 * 4096))
     let s : State := withFrame (fr 4095 2 0x13 ([5, 1, 8, 0] ++ u32 (3 + 500 * 4096))) (yOn b (inGroup .member))
     (decide (s.frameIs y 0x13 f
      ∧ ((f.payload.getD 0 0) ≠ s.yarrow.groupNow ∨ rdNat f.payload 2 2 ≠ s.yarrow.term.toNat ∨ s.yarrow.gstate ≠ .member)),
     sat (.grant y) s fun t => decide ((t.pool.queues[(yRx y)]).closed = (s.pool.queues[(yRx y)]).closed.tail))) = (true, true) := by decide +kernel

/-! ### Sorrel cores -/
/-- One unprefixed operation as a bundle of its own. -/
def one : Pre := ⟨true, none, false, none, false⟩
/-- Core `k` runs with cycles left and no bundle open, and no core waits for a queue. -/
def runs (k : CoreId) (b : State) (f : CoreSt → CoreSt) : State :=
  State.modCore { b with faults := .reset, cores := b.cores.map fun c => { c with waiting := false } } k fun c =>
    f { c with running := true, bundle := [], rep := none, cycles := 10, delay := none, inflight := [(1, .reg 3 7), (2, .reg 4 9)], pc := 0x100#16 }
/-- The core's queue `q` holds these packets, and an open packet of this core. -/
def withQ (q : QueueId) (ps : List Packet) (o : Option (List Byte)) (s : State) : State :=
  { s with pool := quiet128.modQ q fun x => { x with closed := ps, opened := o.map fun d => ⟨.core 0, mkPacket quiet128 .none d⟩ } }

/-! ### Sorrel cores (chapters 22 to 24) -/

theorem test_xTwo :
    (let b := live
     let k : CoreId := 0
     let h : Pre := one
     let f : XForm := .three (.reg 0) (.reg 1) (.imm 0 5)
     let o : XBin := .sub
     let i : Instr := .sub k h f
     let s : State := runs k b id
     (decide ((i, o) ∈ [(.add k h f, .add), (.adc k h f, .adc), (.sub k h f, .sub), (.sbc k h f, .sbc), (.and k h f, .and), (.or k h f, .or), (.xor k h f, .xor), (.andn k h f, .andn), (.shl k h f, .shl), (.shr k h f, .shr), (.sar k h f, .sar), (.rol k h f, .rol), (.ror k h f, .ror), (.mul k h f, .mul), (.mulh k h f, .mulh), (.mulhu k h f, .mulhu), (.div k h f, .div), (.divu k h f, .divu), (.rem k h f, .rem), (.remu k h f, .remu)]
      ∧ s.sole k h (.xbin o f)
      ∧ (divides o = true → (s.core k).dzt = false ∨ s.source k h (widthBits h.width) f.srcs.2 ≠ 0)),
     sat (i) s fun t => decide ((t.core 0).pc = 0x105#16
      ∧ (t.core 0).inflight.length = 3))) = (true, true) := by decide +kernel

theorem test_xMinMax :
    (let b := live
     let k : CoreId := 0
     let h : Pre := one
     let d : Opnd := .reg 0
     let x : Opnd := .reg 1
     let y : Opnd := .imm 0 5
     let o : XBin := .min
     let i : Instr := .min k h d x y
     let s : State := runs k b id
     (decide (((i, o) = (.min k h d x y, .min) ∨ (i, o) = (.max k h d x y, .max))
      ∧ s.sole k h (.xbin o (.three d x y))),
     sat (i) s fun t => decide ((t.core 0).inflight.length = 3))) = (true, true) := by decide +kernel

theorem test_xOne :
    (let b := live
     let k : CoreId := 0
     let h : Pre := one
     let d : Opnd := .reg 0
     let x : Opnd := .imm 0 5
     let o : XUn := .neg
     let i : Instr := .neg k h d x
     let s : State := runs k b id
     (decide ((i, o) ∈ [(.neg k h d x, .neg), (.not k h d x, .not), (.abs k h d x, .abs), (.clz k h d x, .clz)]
      ∧ s.sole k h (.xun o d x)),
     sat (i) s fun t => decide ((t.core 0).inflight.length = 3))) = (true, true) := by decide +kernel

theorem test_xFlagsOnly :
    (let b := live
     let k : CoreId := 0
     let h : Pre := one
     let x : Opnd := .reg 0
     let y : Opnd := .imm 0 5
     let o : XBin := .sub
     let op : SOp := .cmp x y
     let i : Instr := .cmp k h x y
     let s : State := runs k b id
     (decide (((i, o, op) = (.cmp k h x y, .sub, .cmp x y) ∨ (i, o, op) = (.tst k h x y, .and, .tst x y))
      ∧ s.sole k h op),
     sat (i) s fun t => decide ((t.core 0).inflight.length = 2))) = (true, true) := by decide +kernel

theorem test_xRegister :
    (let b := live
     let k : CoreId := 0
     let h : Pre := one
     let d : Fin 8 := 2
     let x : Opnd := .abs 0x6000
     let y : Opnd := .imm 0 1
     let s : State := runs k b fun c => { c with inflight := [] }
     (decide (s.sole k h (.xbin .add (.three (.reg d) x y))
      ∧ (s.core k).inflight = []),
     sat (.add k h (.three (.reg d) x y)) s fun t => decide ((t.core k).inflight.filter (fun e => e.1 = 1) = [(1, .reg d (BitVec.ofNat 16 ((s.source k h (widthBits h.width) x + s.source k h (widthBits h.width) y) % 2 ^ widthBits h.width)))] ++ (if h.nf then [] else (t.core k).inflight.drop 1)))) = (true, true) := by decide +kernel

theorem test_xDivideTrap :
    (let b := live
     let k : CoreId := 0
     let h : Pre := one
     let f : XForm := .three (.reg 0) (.reg 1) (.imm 0 0)
     let i : Instr := .div k h f
     let o : XBin := .div
     let s : State := runs k b fun c => { c with dzt := true, inflight := [] }
     (decide ((i, o) ∈ [(.div k h f, .div), (.divu k h f, .divu), (.rem k h f, .rem), (.remu k h f, .remu)]
      ∧ s.sole k h (.xbin o f)
      ∧ (s.core k).dzt = true
      ∧ s.source k h (widthBits h.width) f.srcs.2 = 0
      ∧ (s.core k).inflight = []),
     sat (i) s fun t => decide (t.raisedAt (201 + k.val) = true
      ∧ (t.core k).running = false
      ∧ (t.core k).flagTrap = true
      ∧ (t.core k).trapAddr = (s.core k).pc
      ∧ (t.core k).traps = satIncr (s.core k).traps))) = (true, true) := by decide +kernel

theorem test_xIllegal :
    (let b := live
     let k : CoreId := 0
     let h : Pre := one
     let f : XForm := .three (.imm 0 3) (.reg 1) (.imm 0 0)
     let s : State := runs k b fun c => { c with inflight := [] }
     (decide ((s.core k).running = true
      ∧ (s.core k).bundle = []
      ∧ (s.core k).rep = none
      ∧ (s.core k).cycles < 1875
      ∧ (∀ j : CoreId, (s.core j).waiting = false)
      ∧ (s.core k).inflight = []
      ∧ badBundle [⟨h, .xbin .add f⟩] = true),
     sat (.add k h f) s fun t => decide (t.raisedAt (201 + k.val) = true
      ∧ (t.core k).running = false
      ∧ (t.core k).flagTrap = true
      ∧ (t.core k).trapAddr = (s.core k).pc))) = (true, true) := by decide +kernel

theorem test_xGathers :
    (let b := live
     let k : CoreId := 0
     let h : Pre := { one with last := false }
     let f : XForm := .three (.reg 0) (.reg 1) (.imm 0 0)
     let s : State := runs k b fun c => { c with inflight := [] }
     (decide ((s.core k).running = true
      ∧ (s.core k).rep = none
      ∧ (s.core k).waiting = false
      ∧ (s.core k).cycles < 1875
      ∧ h.last = false
      ∧ badBundle ((s.core k).bundle ++ [⟨h, .xbin .add f⟩]) = false),
     sat (.add k h f) s fun t => decide ((t.core 0).bundle.length = 1))) = (true, true) := by decide +kernel

theorem test_xIdle :
    (let b := live
     let k : CoreId := 0
     let h : Pre := one
     let f : XForm := .three (.reg 0) (.reg 1) (.imm 0 0)
     let s : State := runs k b fun c => { c with running := false }
     (decide ((s.core k).running = false ∨ (s.core k).rep ≠ none ∨ (s.core k).waiting = true ∨ 1875 ≤ (s.core k).cycles),
     sat (.add k h f) s fun t => decide ((t.core 0).bundle.length = 0))) = (true, true) := by decide +kernel

theorem test_bOps :
    (let b := live
     let k : CoreId := 0
     let h : Pre := one
     let d : Opnd := .bit 200
     let x : Opnd := .bit 200
     let i : Instr := .tset k h x
     let o : SOp := .tset x
     let es : List (Nat × Effect) := [(0, .flags none none (some (readBit b 0 200)) none), (0, .bitv 200 true)]
     let s : State := runs k b id
     (decide ((i, o, es) ∈ [(.set k h x, .set x, [(0, .bitv (x.bitNo s k) true)]), (.clr k h x, .clr x, [(0, .bitv (x.bitNo s k) false)]), (.inv k h x, .inv x, [(0, .bitv (x.bitNo s k) (!readBit s k (x.bitNo s k)))]), (.tset k h x, .tset x, [(0, .flags none none (some (readBit s k (x.bitNo s k))) none), (0, .bitv (x.bitNo s k) true)]), (.btst k h x, .btst x, [(0, .flags none none (some (readBit s k (x.bitNo s k))) none)]), (.bst k h x, .bst x, [(0, .bitv (x.bitNo s k) (s.core k).c)]), (.bmov k h d x, .bmov d x, [(0, .bitv (d.bitNo s k) (readBit s k (x.bitNo s k)))])]
      ∧ s.sole k h o),
     sat (i) s fun t => decide ((t.core 0).bits.getLsbD 200 = true
      ∧ (t.core 0).c = false))) = (true, true) := by decide +kernel

theorem test_bLocal :
    (let b := live
     let k : CoreId := 0
     let h : Pre := one
     let n : BitVec 13 := 200
     let s : State := runs k b fun c => { c with inflight := [] }
     (decide (s.sole k h (.set (.bit n))
      ∧ n.toNat < 256
      ∧ (s.core k).inflight = []),
     sat (.set k h (.bit n)) s fun t => decide ((t.core k).bits.getLsbD n.toNat = true
      ∧ (∀ m : Fin 256, m.val ≠ n.toNat → (t.core k).bits.getLsbD m.val = (s.core k).bits.getLsbD m.val)))) = (true, true) := by decide +kernel

theorem test_bShared :
    (let b := live
     let k : CoreId := 0
     let h : Pre := one
     let n : BitVec 13 := 300
     let s : State := runs k b fun c => { c with inflight := [] }
     (decide (s.sole k h (.tset (.bit n))
      ∧ 256 ≤ n.toNat
      ∧ n.toNat < 1024
      ∧ (s.core k).inflight = []),
     sat (.tset k h (.bit n)) s fun t => decide ((t.core k).c = s.shared.getLsbD n.toNat
      ∧ t.shared.getLsbD n.toNat = true))) = (true, true) := by decide +kernel

theorem test_bReadOnly :
    (let b := live
     let k : CoreId := 0
     let h : Pre := one
     let n : BitVec 13 := 1500
     let s : State := runs k b fun c => { c with inflight := [] }
     (decide (s.sole k h (.set (.bit n))
      ∧ 1024 ≤ n.toNat),
     sat (.set k h (.bit n)) s fun t => decide (t.shared = s.shared))) = (true, true) := by decide +kernel

theorem test_moves :
    (let b := live
     let k : CoreId := 0
     let h : Pre := { one with width := some .w8 }
     let d : Opnd := .reg 1
     let x : Opnd := .imm 0 0x85
     let i : Instr := .movs k h d x
     let o : SOp := .movs d x
     let w : Nat := 32
     let v : Nat := 0xFFFFFF85
     let s : State := runs k b id
     (decide (((i, o, w, v) = (.mov k h d x, .mov d x, widthBits h.width, s.source k h (widthBits h.width) x) ∨ (i, o, w, v) = (.movz k h d x, .movz d x, 32, s.source k h (widthBits h.width) x) ∨ (i, o, w, v) = (.movs k h d x, .movs d x, 32, ((BitVec.ofNat (widthBits h.width) (s.source k h (widthBits h.width) x)).signExtend 32).toNat))
      ∧ s.sole k h o),
     sat (i) s fun t => decide ((t.core 0).inflight = [(1, .reg 4 9), (2, .reg 1 0xFF85#16)]))) = (true, true) := by decide +kernel

theorem test_lea :
    (let b := live
     let k : CoreId := 0
     let h : Pre := one
     let d : Opnd := .reg 1
     let x : Opnd := .based 5 1 0xFC
     let a : Half := 0x5FFC
     let s : State := runs k b fun c => { c with a := c.a.set 5 0x6000#16 }
     (decide (s.sole k h (.lea d x)
      ∧ x.addr (s.core k).a 4 = some a),
     sat (.lea k h d x) s fun t => decide ((t.core 0).inflight = [(1, .reg 4 9), (2, .reg 1 0x5FFC#16)]))) = (true, true) := by decide +kernel

theorem test_push :
    (let b := live
     let k : CoreId := 0
     let h : Pre := one
     let x : Opnd := .imm 0 5
     let s : State := runs k b id
     (decide (s.sole k h (.push x)),
     sat (.push k h x) s fun t => decide ((t.core 0).a[(7 : Fin 8)] = 0x7FFC#16
      ∧ (t.core 0).inflight.length = 2))) = (true, true) := by decide +kernel

theorem test_pop :
    (let b := live
     let k : CoreId := 0
     let h : Pre := one
     let d : Opnd := .reg 2
     let s : State := runs k b fun c => { c with a := c.a.set 7 0x7FFC#16, data := [(0x7FFC, 9)] }
     (decide (s.sole k h (.pop d)),
     sat (.pop k h d) s fun t => decide ((t.core 0).a[(7 : Fin 8)] = 0x8000#16
      ∧ (t.core 0).inflight = [(1, .reg 4 9), (2, .reg 2 9)]))) = (true, true) := by decide +kernel

theorem test_nop :
    (let b := live
     let k : CoreId := 0
     let h : Pre := one
     let s : State := runs k b id
     (decide (s.sole k h .nop),
     sat (.nop k h) s fun t => decide ((t.core 0).a[(3 : Fin 8)] = 7#16
      ∧ (t.core 0).inflight = [(1, .reg 4 9)]))) = (true, true) := by decide +kernel

theorem test_commitReg :
    (let b := live
     let k : CoreId := 0
     let h : Pre := one
     let n : Fin 8 := 2
     let u : Half := 5
     let v : Half := 6
     let s : State := runs k b fun c => { c with inflight := [(1, .reg 2 5), (1, .reg 2 6)] }
     (decide (s.sole k h .nop
      ∧ (s.core k).inflight = [(1, .reg n u), (1, .reg n v)]),
     sat (.nop k h) s fun t => decide ((t.core k).a = (s.core k).a.set n v
      ∧ (t.core k).inflight = []))) = (true, true) := by decide +kernel

theorem test_commitLater :
    (let b := live
     let k : CoreId := 0
     let h : Pre := one
     let e : Effect := .reg 2 5
     let n : Nat := 2
     let s : State := runs k b fun c => { c with inflight := [(2, .reg 2 5)] }
     (decide (s.sole k h .nop
      ∧ (s.core k).inflight = [(n, e)]
      ∧ 2 ≤ n),
     sat (.nop k h) s fun t => decide ((t.core k).inflight = [(n - 1, e)]))) = (true, true) := by decide +kernel

theorem test_commitFlags :
    (let b := live
     let k : CoreId := 0
     let h : Pre := one
     let z : Bool := true
     let n : Bool := true
     let c : Bool := true
     let v : Bool := true
     let s : State := runs k b fun c => { c with inflight := [(1, .flags (some true) (some true) (some true) (some true))] }
     (decide (s.sole k h .nop
      ∧ (s.core k).inflight = [(1, .flags (some z) (some n) (some c) (some v))]),
     sat (.nop k h) s fun t => decide ((t.core k).z = z
      ∧ (t.core k).n = n
      ∧ (t.core k).c = c
      ∧ (t.core k).v = v))) = (true, true) := by decide +kernel

theorem test_repeatWhole :
    (let b := live
     let k : CoreId := 0
     let r : RepPre := ⟨true, .inl 3⟩
     let n : Half := 3
     let h : Pre := { one with rep := some r }
     let s : State := runs k b fun c => { c with inflight := [] }
     (decide (s.sole k { h with rep := none } .nop
      ∧ h.last = true
      ∧ h.rep = some r
      ∧ r.count = .inl n
      ∧ badBundle [⟨h, .nop⟩] = false
      ∧ 1 ≤ n.toNat
      ∧ n.toNat ≤ 1875 - (s.core k).cycles),
     sat (.nop k h) s fun t => decide ((t.core 0).cycles = 13
      ∧ (t.core 0).pc = 0x104#16))) = (true, true) := by decide +kernel

theorem test_repeatNone :
    (let b := live
     let k : CoreId := 0
     let r : RepPre := ⟨false, .inl 0⟩
     let h : Pre := { one with rep := some r }
     let d : Opnd := .reg 1
     let x : Opnd := .imm 0 4
     let s : State := runs k b fun c => { c with inflight := [] }
     (decide (s.sole k { h with rep := none } (.mov d x)
      ∧ h.last = true
      ∧ h.rep = some r
      ∧ r.count = .inl 0
      ∧ badBundle [⟨h, .mov d x⟩] = false),
     sat (.mov k h d x) s fun t => decide ((t.core 0).cycles = 11))) = (true, true) := by decide +kernel

theorem test_repeatPart :
    (let b := live
     let k : CoreId := 0
     let r : RepPre := ⟨true, .inl 5⟩
     let n : Half := 5
     let h : Pre := { one with rep := some r }
     let s : State := runs k b fun c => { c with inflight := [], cycles := 1873 }
     (decide (s.sole k { h with rep := none } .nop
      ∧ h.last = true
      ∧ h.rep = some r
      ∧ r.count = .inl n
      ∧ r.interruptible = true
      ∧ badBundle [⟨h, .nop⟩] = false
      ∧ 1875 - (s.core k).cycles < n.toNat),
     sat (.nop k h) s fun t => decide ((t.core k).cycles = 1875
      ∧ (t.core k).rep.map (fun x => x.reps.map (fun e => e.2)) = some [n.toNat - (1875 - (s.core k).cycles)]
      ∧ (t.core k).pausable = true))) = (true, true) := by decide +kernel

theorem test_branches :
    (let b := live
     let k : CoreId := 0
     let h : Pre := one
     let x : Opnd := .bit 3
     let g : Opnd := .imm 0 0x20
     let i : Instr := .bz k h g
     let o : SOp := .branch .z g
     let taken : Bool := true
     let s : State := runs k b fun c => { c with z := true }
     (decide ((i, o, taken) ∈ [(.br k h g, .branch .always g, true), (.bz k h g, .branch .z g, (s.core k).z), (.bnz k h g, .branch .nz g, !(s.core k).z), (.bc k h g, .branch .c g, (s.core k).c), (.bnc k h g, .branch .nc g, !(s.core k).c), (.bn k h g, .branch .n g, (s.core k).n), (.bnn k h g, .branch .nn g, !(s.core k).n), (.bv k h g, .branch .v g, (s.core k).v), (.bnv k h g, .branch .nv g, !(s.core k).v), (.bslt k h g, .branch .slt g, (s.core k).n != (s.core k).v), (.bsge k h g, .branch .sge g, (s.core k).n == (s.core k).v), (.bsle k h g, .branch .sle g, (s.core k).z || (s.core k).n != (s.core k).v), (.bsgt k h g, .branch .sgt g, !(s.core k).z && (s.core k).n == (s.core k).v), (.bule k h g, .branch .ule g, (s.core k).c || (s.core k).z), (.bugt k h g, .branch .ugt g, !(s.core k).c && !(s.core k).z), (.bb1 k h x g, .branchBit true x g, readBit s k (x.bitNo s k)), (.bb0 k h x g, .branchBit false x g, !readBit s k (x.bitNo s k))]
      ∧ s.sole k h o),
     sat (i) s fun t => decide ((t.core 0).delay = some (0x120#16, false)
      ∧ (t.core 0).pc = 0x103#16))) = (true, true) := by decide +kernel

theorem test_loop :
    (let b := live
     let k : CoreId := 0
     let h : Pre := one
     let r : Fin 8 := 2
     let g : Opnd := .imm 0 0x20
     let s : State := runs k b fun c => { c with a := c.a.set 2 1#16 }
     (decide (s.sole k h (.loop (.reg r) g)),
     sat (.loop k h (.reg r) g) s fun t => decide ((t.core 0).delay = none
      ∧ (t.core 0).a[(2 : Fin 8)] = 0#16))) = (true, true) := by decide +kernel

theorem test_call :
    (let b := live
     let k : CoreId := 0
     let h : Pre := one
     let g : Opnd := .imm 1 0x20
     let s : State := runs k b fun c => { c with rstack := [] }
     (decide (s.sole k h (.call g)
      ∧ (s.core k).rstack.length < 32),
     sat (.call k h g) s fun t => decide ((t.core 0).delay = some (0x120#16, true)))) = (true, true) := by decide +kernel

theorem test_ret :
    (let b := live
     let k : CoreId := 0
     let h : Pre := one
     let a : Half := 0x40
     let as : List Half := [0x80]
     let s : State := runs k b fun c => { c with rstack := [0x40, 0x80], inExt := false }
     (decide (s.sole k h .ret
      ∧ (s.core k).rstack = a :: as),
     sat (.ret k h) s fun t => decide ((t.core 0).delay = some (0x40#16, false)
      ∧ (t.core 0).rstack = [0x80#16]))) = (true, true) := by decide +kernel

theorem test_stackTraps :
    (let b := live
     let k : CoreId := 0
     let h : Pre := one
     let g : Opnd := .reg 1
     let i : Instr := .ret k h
     let o : SOp := .ret
     let s : State := runs k b fun c => { c with rstack := [], inflight := [] }
     (decide (((i = .ret k h ∧ o = .ret ∧ (s.core k).rstack = []) ∨ (i = .call k h g ∧ o = .call g ∧ 32 ≤ (s.core k).rstack.length) ∨ (i = .beatend k h ∧ o = .beatend ∧ 0xE000 ≤ (s.core k).pc.toNat))
      ∧ s.sole k h o
      ∧ (s.core k).inflight = []),
     sat (i) s fun t => decide (t.raisedAt (201 + k.val) = true
      ∧ (t.core k).running = false
      ∧ (t.core k).flagTrap = true
      ∧ (t.core k).trapAddr = (s.core k).pc))) = (true, true) := by decide +kernel

theorem test_beatend :
    (let b := live
     let k : CoreId := 0
     let h : Pre := one
     let n : Fin 8 := 3
     let v : Half := 77
     let s : State := runs k b fun c => { c with inflight := [(2, .reg 3 77)] }
     (decide (s.sole k h .beatend
      ∧ (s.core k).pc.toNat < 0xE000
      ∧ (s.core k).inflight = [(2, .reg n v)]),
     sat (.beatend k h) s fun t => decide ((t.core k).running = false
      ∧ (t.core k).flagOverrun = false
      ∧ (t.core k).a = (s.core k).a.set n v
      ∧ (t.core k).inflight = []
      ∧ (t.core k).worst = max (s.core k).worst ((s.core k).cycles + 1)))) = (true, true) := by decide +kernel

theorem test_delaySlot :
    (let b := live
     let k : CoreId := 0
     let h : Pre := one
     let a : Half := 0x200
     let call : Bool := true
     let s : State := runs k b fun c => { c with inflight := [], delay := some (0x200#16, true), rstack := [] }
     (decide (s.sole k h .nop
      ∧ (s.core k).delay = some (a, call)
      ∧ (s.core k).inflight = []),
     sat (.nop k h) s fun t => decide ((t.core k).pc = a
      ∧ (t.core k).delay = none
      ∧ (t.core k).rstack = (if call then ((s.core k).pc + BitVec.ofNat 16 (BundleOp.len ⟨h, .nop⟩)) :: (s.core k).rstack else (s.core k).rstack)))) = (true, true) := by decide +kernel

/-! ### Sorrel queue operations (R479) -/

theorem test_qopen :
    (let b := live
     let k : CoreId := 0
     let h : Pre := one
     let x : Opnd := .imm 0 22
     let q : QueueId := 22
     let r : Nat := 0
     let s : State := withQ 22 [] none (runs k b id)
     (decide (s.sole k h (.qopen x)
      ∧ s.source k h 32 x = q.val
      ∧ mayPush k.val q.val = true
      ∧ (s.pool.queues[q]).opened = none
      ∧ s.pool.draw q 0 1 = some r),
     sat (.qopen k h x) s fun t => decide ((t.pool.queues[q]).opened = some ⟨.core k, { mkPacket s.pool .none [] with res := r }⟩
      ∧ (t.pool.queues[q]).closed = (s.pool.queues[q]).closed
      ∧ t.cores = (s.issued k (BundleOp.len ⟨h, .qopen x⟩) 1 (x.stepEffects s k 4 ++ [(2, .flags (some false) (some false) (some false) (some false))])).cores))) = (true, true) := by decide +kernel

theorem test_qopen_refused :
    (let b := live
     let k : CoreId := 0
     let h : Pre := one
     let x : Opnd := .imm 0 22
     let q : QueueId := 22
     let s : State := withQ 22 [] (some []) (runs k b id)
     (decide (s.sole k h (.qopen x)
      ∧ s.source k h 32 x = q.val
      ∧ mayPush k.val q.val = true
      ∧ (s.pool.queues[q]).openBy k = true),
     sat (.qopen k h x) s fun t => decide ((t.pool.queues[(22 : QueueId)]).opened.isSome = true))) = (true, true) := by decide +kernel

theorem test_qopen_full :
    (let b := live
     let k : CoreId := 0
     let h : Pre := one
     let x : Opnd := .imm 0 22
     let q : QueueId := 22
     let s : State := (withQ 22 [] none (runs k b id)).modPool fun m => { m with capacity := 0, pdReserve := 0 }
     (decide (s.sole k h (.qopen x)
      ∧ s.source k h 32 x = q.val
      ∧ mayPush k.val q.val = true
      ∧ (s.pool.queues[q]).opened = none
      ∧ s.pool.draw q 0 1 = none),
     sat (.qopen k h x) s fun t => decide ((t.pool.queues[(22 : QueueId)]).refused = true
      ∧ (t.pool.queues[(22 : QueueId)]).opened = none))) = (true, true) := by decide +kernel

theorem test_qopen_none :
    (let b := live
     let k : CoreId := 0
     let h : Pre := one
     let x : Opnd := .imm 1 128
     let s : State := withQ 22 [] none (runs k b id)
     (decide (s.sole k h (.qopen x)
      ∧ 128 ≤ s.source k h 32 x),
     sat (.qopen k h x) s fun t => decide ((t.core 0).pc = 0x104#16))) = (true, true) := by decide +kernel

theorem test_qopen_role :
    (let b := live
     let k : CoreId := 0
     let h : Pre := one
     let x : Opnd := .imm 0 30
     let q : QueueId := 30
     let s : State := withQ 22 [] none (runs k b id)
     (decide (s.sole k h (.qopen x)
      ∧ s.source k h 32 x = q.val
      ∧ mayPush k.val q.val = false),
     sat (.qopen k h x) s fun t => decide ((t.pool.queues[(30 : QueueId)]).refused = true))) = (true, true) := by decide +kernel

theorem test_qopen_waits :
    (let b := live
     let k : CoreId := 0
     let h : Pre := one
     let x : Opnd := .imm 0 112
     let q : QueueId := 112
     let s : State := (withQ 100 [] none (runs k b id)).modPool fun m => m.modQ 112 fun y => { y with opened := some ⟨.core 3, mkPacket quiet128 .none []⟩ }
     (decide (s.sole k h (.qopen x)
      ∧ s.source k h 32 x = q.val
      ∧ mayPush k.val q.val = true
      ∧ (s.pool.queues[q]).opened.isSome = true
      ∧ (s.pool.queues[q]).openBy k = false),
     sat (.qopen k h x) s fun t => decide ((t.core 0).waiting = true))) = (true, true) := by decide +kernel

theorem test_qpush :
    (let b := live
     let k : CoreId := 0
     let h : Pre := one
     let x : Opnd := .imm 0 22
     let y : Opnd := .imm 2 0x04030201
     let q : QueueId := 22
     let o : OpenPacket := ⟨.core 0, mkPacket quiet128 .none [1, 2]⟩
     let s : State := withQ 22 [] (some [1, 2]) (runs k b id)
     (decide (s.sole k h (.qpush x y)
      ∧ s.source k h 32 x = q.val
      ∧ mayPush k.val q.val = true
      ∧ (s.pool.queues[q]).opened = some o
      ∧ o.owner = .core k
      ∧ o.packet.data.length ≤ 4100
      ∧ (cellsFor (o.packet.data.length + 4) - cellsFor o.packet.data.length = 0 ∨ (s.pool.draw q o.packet.res (cellsFor (o.packet.data.length + 4) - cellsFor o.packet.data.length)).isSome = true)),
     sat (.qpush k h x y) s fun t => decide ((t.pool.queues[q]).opened.map (fun p => p.packet.data) = some (o.packet.data ++ u32 (s.source k h 32 y))
      ∧ (t.pool.queues[q]).closed = (s.pool.queues[q]).closed
      ∧ t.cores = (s.issued k (BundleOp.len ⟨h, .qpush x y⟩) 1 (s.stepping k 4 [x, y] ++ [(2, .flags (some false) (some false) (some false) (some false)), (2, .qport q true 0)])).cores))) = (true, true) := by decide +kernel

theorem test_qpush_full :
    (let b := live
     let k : CoreId := 0
     let h : Pre := one
     let x : Opnd := .imm 0 22
     let y : Opnd := .imm 2 0x04030201
     let q : QueueId := 22
     let o : OpenPacket := ⟨.core 0, mkPacket quiet128 .none (zeros 52)⟩
     let s : State := (withQ 22 [] (some (zeros 52)) (runs k b id)).modPool fun m => { m with capacity := 1, pdReserve := 0 }
     (decide (s.sole k h (.qpush x y)
      ∧ s.source k h 32 x = q.val
      ∧ mayPush k.val q.val = true
      ∧ (s.pool.queues[q]).opened = some o
      ∧ o.owner = .core k
      ∧ (4100 < o.packet.data.length ∨ (0 < cellsFor (o.packet.data.length + 4) - cellsFor o.packet.data.length ∧ s.pool.draw q o.packet.res (cellsFor (o.packet.data.length + 4) - cellsFor o.packet.data.length) = none))),
     sat (.qpush k h x y) s fun t => decide ((t.pool.queues[q]).opened = none
      ∧ (t.pool.queues[q]).refused = true
      ∧ (t.pool.queues[q]).closed = (s.pool.queues[q]).closed ++ (s.pool.queues[q]).waiting
      ∧ t.cores = (s.issued k (BundleOp.len ⟨h, .qpush x y⟩) 1 (s.stepping k 4 [x, y] ++ [(2, .flags (some false) (some false) (some true) (some false)), (2, .qport q true 1)])).cores))) = (true, true) := by decide +kernel

theorem test_qpush_none :
    (let b := live
     let k : CoreId := 0
     let h : Pre := one
     let x : Opnd := .imm 0 22
     let y : Opnd := .imm 2 0x04030201
     let n : Opnd := .imm 0 0
     let q : QueueId := 22
     let i : Instr := .qpush k h x y
     let op : SOp := .qpush x y
     let s : State := withQ 22 [] none (runs k b id)
     (decide (((i, op) = (.qpush k h x y, .qpush x y) ∨ (i, op) = (.qend k h x y n, .qend x y n))
      ∧ s.sole k h op
      ∧ s.source k h 32 x = q.val
      ∧ mayPush k.val q.val = true
      ∧ (s.pool.queues[q]).openBy k = false),
     sat (i) s fun t => decide ((t.pool.queues[(22 : QueueId)]).opened = none))) = (true, true) := by decide +kernel

theorem test_qend :
    (let b := live
     let k : CoreId := 0
     let h : Pre := one
     let x : Opnd := .imm 0 22
     let y : Opnd := .imm 2 0x04030201
     let n : Opnd := .imm 0 3
     let q : QueueId := 22
     let o : OpenPacket := ⟨.core 0, mkPacket quiet128 .none [1, 2]⟩
     let bs : List Byte := [1, 2, 3]
     let s : State := withQ 22 [] (some [1, 2]) (runs k b id)
     (decide (s.sole k h (.qend x y n)
      ∧ s.source k h 32 x = q.val
      ∧ mayPush k.val q.val = true
      ∧ (s.pool.queues[q]).opened = some o
      ∧ o.owner = .core k
      ∧ (s.pool.queues[q]).discardOpen = false
      ∧ bs = (u32 (s.source k h 32 y)).take (if s.source k h 32 n % 4 = 0 then 4 else s.source k h 32 n % 4)
      ∧ o.packet.data.length + bs.length ≤ 4104
      ∧ (cellsFor (o.packet.data.length + bs.length) - cellsFor o.packet.data.length = 0 ∨ (s.pool.draw q o.packet.res (cellsFor (o.packet.data.length + bs.length) - cellsFor o.packet.data.length)).isSome = true)),
     sat (.qend k h x y n) s fun t => decide ((t.pool.queues[q]).closed.map Packet.data = (s.pool.queues[q]).closed.map Packet.data ++ [o.packet.data ++ bs] ++ (s.pool.queues[q]).waiting.map Packet.data
      ∧ (t.pool.queues[q]).opened = none
      ∧ t.cores = (s.issued k (BundleOp.len ⟨h, .qend x y n⟩) 1 (s.stepping k 4 [x, y, n] ++ [(2, .flags (some false) (some false) (some false) (some false)), (2, .qport q true 0)])).cores))) = (true, true) := by decide +kernel

theorem test_qabort :
    (let b := live
     let k : CoreId := 0
     let h : Pre := one
     let x : Opnd := .imm 0 22
     let q : QueueId := 22
     let s : State := withQ 22 [] (some [1, 2]) (runs k b id)
     (decide (s.sole k h (.qabort x)
      ∧ s.source k h 32 x = q.val),
     sat (.qabort k h x) s fun t => decide ((t.pool.queues[q]).opened = (if (s.pool.queues[q]).openBy k then none else (s.pool.queues[q]).opened)
      ∧ (t.pool.queues[q]).closed = (s.pool.queues[q]).closed ++ (if (s.pool.queues[q]).openBy k then (s.pool.queues[q]).waiting else [])
      ∧ t.cores = (s.issued k (BundleOp.len ⟨h, .qabort x⟩) 1 (x.stepEffects s k 4 ++ [(2, .flags (some false) (some false) (some false) (some false))])).cores))) = (true, true) := by decide +kernel

theorem test_qpop_length :
    (let b := live
     let k : CoreId := 0
     let h : Pre := one
     let d : Opnd := .reg 1
     let x : Opnd := .imm 0 22
     let q : QueueId := 22
     let p : Packet := mkPacket quiet128 .none [1, 2, 3, 4, 5]
     let ps : List Packet := []
     let s : State := withQ 22 [mkPacket quiet128 .none [1, 2, 3, 4, 5]] none (runs k b id)
     (decide (s.sole k h (.qpop d x .sound)
      ∧ s.source k h 32 x = q.val
      ∧ mayPop k.val q.val = true
      ∧ (s.pool.queues[q]).quarantine = false
      ∧ (s.pool.queues[q]).flush = none
      ∧ (s.pool.queues[q]).closed = p :: ps
      ∧ (s.pool.queues[q]).popped = 0),
     sat (.qpop k h d x .sound) s fun t => decide ((t.pool.queues[q]).popped = 1
      ∧ (t.pool.queues[q]).closed = (s.pool.queues[q]).closed
      ∧ t.cores = (s.issued k (BundleOp.len ⟨h, .qpop d x .sound⟩) 1 (d.writeEffects s k 2 32 (p.data.length + p.data.length % 4 * 2 ^ 13 + bw p.poison 16) ++ x.stepEffects s k 4 ++ [(2, .flags (some false) (some false) (some false) (some p.poison)), (2, .qport q false (1 + bw p.poison 1))])).cores))) = (true, true) := by decide +kernel

theorem test_qpop_last :
    (let b := live
     let k : CoreId := 0
     let h : Pre := one
     let d : Opnd := .reg 1
     let x : Opnd := .imm 0 22
     let q : QueueId := 22
     let p : Packet := mkPacket quiet128 .none [1, 2, 3, 4, 5]
     let ps : List Packet := []
     let s : State := (withQ 22 [mkPacket quiet128 .none [1, 2, 3, 4, 5]] none (runs k b id)).modPool fun m => m.modQ 22 fun y => { y with popped := 2 }
     (decide (s.sole k h (.qpop d x .sound)
      ∧ s.source k h 32 x = q.val
      ∧ mayPop k.val q.val = true
      ∧ (s.pool.queues[q]).quarantine = false
      ∧ (s.pool.queues[q]).closed = p :: ps
      ∧ (s.pool.queues[q]).popped = (p.data.length + 3) / 4
      ∧ 0 < (s.pool.queues[q]).popped
      ∧ p.flaw = .sound),
     sat (.qpop k h d x .sound) s fun t => decide ((t.pool.queues[q]).closed = ps
      ∧ (t.pool.queues[q]).popped = 0
      ∧ t.cores = (s.issued k (BundleOp.len ⟨h, .qpop d x .sound⟩) 1 (d.writeEffects s k 2 32 (rdNat p.data (4 * ((s.pool.queues[q]).popped - 1)) 4) ++ x.stepEffects s k 4 ++ [(2, .flags (some false) (some false) (some true) (some p.poison)), (2, .qport q false (5 + bw p.poison 1 + p.data.length % 4 * 8))])).cores))) = (true, true) := by decide +kernel

theorem test_qpop_crc :
    (let b := live
     let k : CoreId := 0
     let h : Pre := one
     let d : Opnd := .reg 1
     let x : Opnd := .imm 0 22
     let q : QueueId := 22
     let p : Packet := mkPacket quiet128 .none [1, 2, 3, 4, 5]
     let ps : List Packet := []
     let o : CellObs := .crc
     let s : State := (withQ 22 [mkPacket quiet128 .none [1, 2, 3, 4, 5]] none (runs k b id)).modPool fun m => m.modQ 22 fun y => { y with popped := 2 }
     (decide (s.sole k h (.qpop d x o)
      ∧ s.source k h 32 x = q.val
      ∧ mayPop k.val q.val = true
      ∧ (s.pool.queues[q]).quarantine = false
      ∧ (s.pool.queues[q]).closed = p :: ps
      ∧ (s.pool.queues[q]).popped = (p.data.length + 3) / 4
      ∧ 0 < (s.pool.queues[q]).popped
      ∧ (o = .crc ∨ (o = .sound ∧ p.flaw = .crc))),
     sat (.qpop k h d x o) s fun t => decide ((t.pool.queues[q]).closed = ps
      ∧ (t.pool.queues[q]).popped = 0
      ∧ t.cores = (s.issued k (BundleOp.len ⟨h, .qpop d x o⟩) 1 (d.writeEffects s k 2 32 (rdNat p.data (4 * ((s.pool.queues[q]).popped - 1)) 4) ++ x.stepEffects s k 4 ++ [(2, .flags (some false) (some false) (some true) (some true)), (2, .qport q false (5 + 2 + p.data.length % 4 * 8))])).cores))) = (true, true) := by decide +kernel

theorem test_qpop_parity :
    (let b := live
     let k : CoreId := 0
     let h : Pre := one
     let d : Opnd := .reg 1
     let x : Opnd := .imm 0 22
     let q : QueueId := 22
     let p : Packet := mkPacket quiet128 .none [1, 2, 3, 4, 5]
     let ps : List Packet := []
     let s : State := withQ 22 [mkPacket quiet128 .none [1, 2, 3, 4, 5]] none (runs k b id)
     (decide (s.sole k h (.qpop d x .parity)
      ∧ s.source k h 32 x = q.val
      ∧ mayPop k.val q.val = true
      ∧ (s.pool.queues[q]).quarantine = false
      ∧ (s.pool.queues[q]).flush = none
      ∧ (s.pool.queues[q]).closed = p :: ps
      ∧ (s.pool.queues[q]).popped = 0),
     sat (.qpop k h d x .parity) s fun t => decide (t.raisedAt 211 = true
      ∧ (t.pool.queues[q]).popped = 1
      ∧ (t.pool.queues[q]).closed.map Packet.poison = true :: ps.map Packet.poison))) = (true, true) := by decide +kernel

theorem test_qpop_link :
    (let b := live
     let k : CoreId := 0
     let h : Pre := one
     let d : Opnd := .reg 1
     let x : Opnd := .imm 0 22
     let q : QueueId := 22
     let p : Packet := mkPacket quiet128 .none [1, 2, 3, 4, 5]
     let ps : List Packet := []
     let s : State := withQ 22 [mkPacket quiet128 .none [1, 2, 3, 4, 5]] none (runs k b id)
     (decide (s.sole k h (.qpop d x .link)
      ∧ s.source k h 32 x = q.val
      ∧ mayPop k.val q.val = true
      ∧ (s.pool.queues[q]).quarantine = false
      ∧ (s.pool.queues[q]).flush = none
      ∧ (s.pool.queues[q]).closed = p :: ps
      ∧ (s.pool.queues[q]).popped = 0),
     sat (.qpop k h d x .link) s fun t => decide (t.raisedAt 211 = true
      ∧ (t.pool.queues[q]).quarantine = true
      ∧ (t.pool.queues[q]).scanAt = s.now
      ∧ (t.pool.queues[q]).opened = none))) = (true, true) := by decide +kernel

theorem test_qpop_idle :
    (let b := live
     let k : CoreId := 0
     let h : Pre := one
     let d : Opnd := .reg 1
     let x : Opnd := .imm 0 22
     let q : QueueId := 22
     let obs : CellObs := .sound
     let s : State := withQ 22 [] (some [1, 2]) (runs k b id)
     (decide (s.sole k h (.qpop d x obs)
      ∧ s.source k h 32 x = q.val
      ∧ ((s.pool.queues[q]).closed = [] ∨ (s.pool.queues[q]).quarantine = true ∨ mayPop k.val q.val = false ∨ ((s.pool.queues[q]).flush.isSome = true ∧ (s.pool.queues[q]).popped = 0))),
     sat (.qpop k h d x obs) s fun t => decide ((t.core 0).inflight.length = 4))) = (true, true) := by decide +kernel

theorem leNat_word (n : Nat) : leNat (leBytes 4 n) = n % 2 ^ 32 := by
  simp only [leBytes, leNat, BitVec.toNat_ofNat]; omega

theorem rdWord_head (w : Word) (r : List Byte) : rdWord (wordBytes w ++ r) 0 = w := by
  have h : ((wordBytes w ++ r).drop 0).take 4 = leBytes 4 w.toNat := rfl
  apply BitVec.eq_of_toNat_eq
  have := w.isLt
  rw [rdWord, rdNat, h, leNat_word, BitVec.toNat_ofNat]; omega

theorem kind_vdm (x : Port) (m : RxMsg) (h : m.header = 0x108F ∨ m.header = 0x208F ∨ m.header = 0x308F) : kindOf x m = vdmKind (m.word 0) := by
  have h1 : m.isExt = false := by rcases h with h | h | h <;> simp [RxMsg.isExt, h, hExt]
  have h2 : m.objs ≠ 0 := by rcases h with h | h | h <;> simp [RxMsg.objs, h, hObjs]
  have h3 : m.type = 15 := by rcases h with h | h | h <;> simp [RxMsg.type, h, hType]
  simp [kindOf, h1, h2, h3, dataKind]

theorem vdmW_nat (c pos : Nat) (v : Half) (hc : c < 32) (hp : pos < 8) :
    (vdmW 0 c pos v.toNat).toNat = c + pos * 256 + 40960 + v.toNat * 65536 := by
  have := v.isLt
  simp [vdmW, mkWord]; omega

/-- A structured request on the service SVID, whatever the SVID is. -/
theorem kind_svc (c pos : Nat) (hc : c < 32) (hp : pos < 8) (h6 : c ≠ 6) :
    vdmKind (vdmW 0 c pos Config.svcSvid.toNat) = (if c = 4 then .svcEnter else if c = 5 then .svcExit else if c = 16 then .svcXfer
      else if c = 17 then .svcSync else .svdm) ∧ vdmPos (vdmW 0 c pos Config.svcSvid.toNat) = pos := by
  have hw := vdmW_nat c pos Config.svcSvid hc hp
  have h := Config.svcSvid.isLt
  have h1 : vdmStructured (vdmW 0 c pos Config.svcSvid.toNat) = true := by
    simp only [vdmStructured, bit1, BitVec.getLsbD, hw, Nat.testBit_eq_decide_div_mod_eq]; simp; omega
  have h2 : vdmCmd (vdmW 0 c pos Config.svcSvid.toNat) = c := by simp [vdmCmd, fld, hw]; omega
  have h3 : vdmType (vdmW 0 c pos Config.svcSvid.toNat) = 0 := by simp [vdmType, fld, hw, Nat.shiftRight_eq_div_pow]; omega
  have h4 : vdmSvid (vdmW 0 c pos Config.svcSvid.toNat) = Config.svcSvid.toNat := by simp [vdmSvid, fld, hw, Nat.shiftRight_eq_div_pow]; omega
  refine ⟨?_, by simp [vdmPos, fld, hw, Nat.shiftRight_eq_div_pow]; omega⟩
  simp [vdmKind, h1, h2, h3, h4, svcSvidNat, h6]

/-- Request `c` on the service SVID waits on P0, with `r` behind its header. -/
def svcMsg (hd : Half) (c : Nat) (r : List Byte) (b : State) : State := withRx hd (wordBytes (vdmW 0 c 1 Config.svcSvid.toNat) ++ r) b
def svcM (hd : Half) (c : Nat) (r : List Byte) (s : State) : RxMsg := msg s hd (wordBytes (vdmW 0 c 1 Config.svcSvid.toNat) ++ r)

/-- It is of its kind, with object position 1. -/
theorem svcM_kind (x : Port) (s : State) (hd : Half) (c : Nat) (r : List Byte) (h : hd = 0x108F ∨ hd = 0x208F ∨ hd = 0x308F) (hc : c < 32) (h6 : c ≠ 6) :
    kindOf x (svcM hd c r s) = (if c = 4 then .svcEnter else if c = 5 then .svcExit else if c = 16 then .svcXfer
      else if c = 17 then .svcSync else .svdm) ∧ vdmPos ((svcM hd c r s).word 0) = 1 := by
  have hw : (svcM hd c r s).word 0 = vdmW 0 c 1 Config.svcSvid.toNat := rdWord_head _ r
  rw [kind_vdm x _ h, hw]
  exact kind_svc c 1 hc (by omega) h6

theorem rdNat_head (h : Half) (r : List Byte) : BitVec.ofNat 16 (rdNat (u16 h.toNat ++ r) 0 2) = h := by
  have e : ((u16 h.toNat ++ r).drop 0).take 2 = leBytes 2 h.toNat := rfl
  apply BitVec.eq_of_toNat_eq
  have := h.isLt
  rw [rdNat, e, BitVec.toNat_ofNat]
  simp only [leBytes, leNat, BitVec.toNat_ofNat]; omega

/-- The message that waits is the one put there. -/
theorem only_withRx (b : State) (hd : Half) (body : List Byte)
    (h0 : b.fw 0 = true ∧ (b.pool.queues[(qRx (clusterOf 0))]).quarantine = false ∧ (b.pool.queues[(qRx (clusterOf 0))]).closed = []
      ∧ (b.pool.queues[(qRx (clusterOf 0))]).opened = none)
    (he : ((b.port 0).ctxOf .sop).epoch = 0) (hx : hExt hd = false) :
    (withRx hd body b).onlyMsg 0 (msg (withRx hd body b) hd body) := by
  obtain ⟨h1, h2, h3, h4⟩ := h0
  have hfw : (withRx hd body b).fw 0 = true := h1
  have hQ : (withRx hd body b).pool.queues[(qRx (clusterOf 0))]
      = Queue.join (mkPacket b.pool (.rx 0 .sop 0 b.now) (u16 hd.toNat ++ body)) (b.pool.queues[(qRx (clusterOf 0))]) := by
    simp [withRx, Pool.append, Pool.modQ, qRx, clusterOf]
  have hqu : ((withRx hd body b).pool.queues[(qRx (clusterOf 0))]).quarantine = false := by
    rw [hQ, Queue.join, h4]; exact h2
  have hq' : ((withRx hd body b).pool.queues[(qRx (clusterOf 0))]).closed = [mkPacket b.pool (.rx 0 .sop 0 b.now) (u16 hd.toNat ++ body)] := by
    rw [hQ, Queue.join, h4]; exact congrArg (· ++ _) h3
  have hm : msgOf (mkPacket b.pool (.rx 0 .sop 0 b.now) (u16 hd.toNat ++ body)) = some (msg (withRx hd body b) hd body) := by
    have h2 : (u16 hd.toNat ++ body).drop 2 = body := rfl
    simp [msgOf, mkPacket, rdNat_head, hx, h2, msg]; rfl
  have hc : carriesRx 0 (mkPacket b.pool (.rx 0 .sop 0 b.now) (u16 hd.toNat ++ body)) = true := rfl
  have hf : (withRx hd body b).rxFresh 0 (mkPacket b.pool (.rx 0 .sop 0 b.now) (u16 hd.toNat ++ body)) = true := by
    have e : (((withRx hd body b).port 0).ctxOf .sop).epoch = 0 := he
    have n : Beat.since (withRx hd body b).now (withRx hd body b).now ≤ 2500 := by simp [Beat.since]
    simp only [State.rxFresh, hm, msg, e]; simp; exact ⟨rfl, n⟩
  generalize mkPacket b.pool (.rx 0 .sop 0 b.now) (u16 hd.toNat ++ body) = K at hq' hm hc hf
  constructor
  · rw [State.rxHead, hfw, hqu, hq']; simp [hc, hf, hm]
  · rw [State.rxCount, hq']; simp [hc]

theorem test_svcEnter_mode_hyps :
    let s := svcMsg 0x108F 4 [] (svcOn0 live .attachedSrc false)
    let m := svcM 0x108F 4 [] s
    s.onlyMsg 0 m ∧ m.tgt = .sop ∧ kindOf (s.port 0) m = .svcEnter ∧ (s.port 0).calm = true ∧ s.svcMayEnter 0 = true ∧ vdmPos (m.word 0) = 1
      ∧ (s.port 0).pd.dfp = false ∧ ((s.port 0).tc.st = .attachedSrc ∨ (s.port 0).tc.st = .attachedSnk) := by
  intro s m
  have h := svcM_kind (s.port 0) s 0x108F 4 [] (by simp) (by omega) (by omega)
  exact ⟨only_withRx _ _ _ (by decide +kernel) (by decide +kernel) (by decide), rfl, h.1, rfl, by decide +kernel, h.2, rfl, Or.inl rfl⟩

theorem test_svcEnter_dfp_hyps :
    let s := svcMsg 0x108F 4 [] ((svcOn0 live .attachedSrc false).modPort 0 fun x => { x with pd := { x.pd with dfp := true } })
    let m := svcM 0x108F 4 [] s
    s.onlyMsg 0 m ∧ m.tgt = .sop ∧ kindOf (s.port 0) m = .svcEnter ∧ (s.port 0).calm = true ∧ (s.port 0).debugEnters = false
      ∧ (s.port 0).pd.dfp = true := by
  intro s m
  exact ⟨only_withRx _ _ _ (by decide +kernel) (by decide +kernel) (by decide), rfl, (svcM_kind (s.port 0) s 0x108F 4 [] (by simp) (by omega) (by omega)).1, rfl, rfl, rfl⟩

theorem test_svcExit_hyps :
    let s := svcMsg 0x108F 5 [] (svcOn0 live .attachedSrc true)
    let m := svcM 0x108F 5 [] s
    s.onlyMsg 0 m ∧ m.tgt = .sop ∧ kindOf (s.port 0) m = .svcExit ∧ (s.port 0).calm = true ∧ s.inSvc 0 = true := by
  intro s m
  exact ⟨only_withRx _ _ _ (by decide +kernel) (by decide +kernel) (by decide), rfl, (svcM_kind (s.port 0) s 0x108F 5 [] (by simp) (by omega) (by omega)).1, rfl, rfl⟩

theorem test_svcXfer_hyps :
    let s := svcMsg 0x308F 16 (wordBytes (mkWord [(4, 0), (7, 8)]) ++ [1, 2, 3, 4]) (svcOn0 live .attachedSrc true)
    let m := svcM 0x308F 16 (wordBytes (mkWord [(4, 0), (7, 8)]) ++ [1, 2, 3, 4]) s
    s.onlyMsg 0 m ∧ m.tgt = .sop ∧ kindOf (s.port 0) m = .svcXfer ∧ (s.port 0).calm = true ∧ s.inSvc 0 = true ∧ vdmPos (m.word 0) = 1
      ∧ svcControlOk (m.word 1) (m.objs - 1) = true ∧ (7#8).toNat = fld (m.word 1) 8 4
      ∧ (s.svc.lastSeq = none ∨ s.svc.lastSeq = some (BitVec.ofNat 8 (((7#8).toNat + 15) % 16)))
      ∧ s.svc.part.length + fld (m.word 1) 0 5 ≤ 256 * s.svcCredit := by
  intro s m
  have h := svcM_kind (s.port 0) s 0x308F 16 (wordBytes (mkWord [(4, 0), (7, 8)]) ++ [1, 2, 3, 4]) (by simp) (by omega) (by omega)
  have hw : m.word 1 = mkWord [(4, 0), (7, 8)] := rfl
  refine ⟨only_withRx _ _ _ (by decide +kernel) (by decide +kernel) (by decide), rfl, h.1, rfl, rfl, h.2, ?_, ?_, Or.inl rfl, ?_⟩
  · rw [hw]; decide
  · rw [hw]; decide
  · rw [hw]; decide +kernel

theorem test_svcXfer_again_hyps :
    let s := svcMsg 0x208F 16 (wordBytes (mkWord [(0, 0), (7, 8)])) { (svcOn0 live .attachedSrc true) with svc := { Service.reset with port := some 0, lastSeq := some 7, lastAck := [0, 7, 1, 0] } }
    let m := svcM 0x208F 16 (wordBytes (mkWord [(0, 0), (7, 8)])) s
    s.onlyMsg 0 m ∧ m.tgt = .sop ∧ kindOf (s.port 0) m = .svcXfer ∧ (s.port 0).calm = true ∧ s.inSvc 0 = true ∧ vdmPos (m.word 0) = 1
      ∧ svcControlOk (m.word 1) (m.objs - 1) = true ∧ (7#8).toNat = fld (m.word 1) 8 4 ∧ s.svc.lastSeq = some 7#8 := by
  intro s m
  have h := svcM_kind (s.port 0) s 0x208F 16 (wordBytes (mkWord [(0, 0), (7, 8)])) (by simp) (by omega) (by omega)
  have hw : m.word 1 = mkWord [(0, 0), (7, 8)] := rfl
  refine ⟨only_withRx _ _ _ (by decide +kernel) (by decide +kernel) (by decide), rfl, h.1, rfl, rfl, h.2, ?_, ?_, rfl⟩ <;> rw [hw] <;> decide

theorem test_svcXfer_nak_hyps :
    let s := svcMsg 0x208F 16 (wordBytes (mkWord [(21, 0), (7, 8)])) (svcOn0 live .attachedSrc true)
    let m := svcM 0x208F 16 (wordBytes (mkWord [(21, 0), (7, 8)])) s
    s.onlyMsg 0 m ∧ m.tgt = .sop ∧ kindOf (s.port 0) m = .svcXfer ∧ (s.port 0).calm = true ∧ s.inSvc 0 = true
      ∧ svcControlOk (m.word 1) (m.objs - 1) = false := by
  intro s m
  have h := svcM_kind (s.port 0) s 0x208F 16 (wordBytes (mkWord [(21, 0), (7, 8)])) (by simp) (by omega) (by omega)
  have hw : m.word 1 = mkWord [(21, 0), (7, 8)] := rfl
  refine ⟨only_withRx _ _ _ (by decide +kernel) (by decide +kernel) (by decide), rfl, h.1, rfl, rfl, ?_⟩
  rw [hw]; decide

theorem test_svcSync_hyps :
    let s := svcMsg 0x108F 17 [] { (svcOn0 live .attachedSrc true) with svc := { Service.reset with port := some 0, lastSeq := some 7, part := [1, 2] } }
    let m := svcM 0x108F 17 [] s
    s.onlyMsg 0 m ∧ m.tgt = .sop ∧ kindOf (s.port 0) m = .svcSync ∧ (s.port 0).calm = true ∧ s.inSvc 0 = true ∧ m.objs = 1 := by
  intro s m
  exact ⟨only_withRx _ _ _ (by decide +kernel) (by decide +kernel) (by decide), rfl, (svcM_kind (s.port 0) s 0x108F 17 [] (by simp) (by omega) (by omega)).1, rfl, rfl, by decide⟩

/-- A word of Discover SVIDs is a plain structured VDM whatever the service SVID is. -/
theorem test_vdm_svids_hyps :
    let s := withRx 0x108F (wordBytes (vdmW 0 2 0 0xFF00)) (svcOn0 live .attachedSrc false)
    let m := msg s 0x108F (wordBytes (vdmW 0 2 0 0xFF00))
    s.onlyMsg 0 m ∧ m.tgt = .sop ∧ kindOf (s.port 0) m = .svdm ∧ (s.port 0).calm = true ∧ vdmType (m.word 0) = 0 ∧ vdmSvid (m.word 0) = 0xFF00
      ∧ vdmCmd (m.word 0) = 2 ∧ s.svcEnabled 0 = true := by
  intro s m
  have hw : m.word 0 = 0xFF00A002#32 := rfl
  have hk : kindOf (s.port 0) m = .svdm := by
    rw [kind_vdm _ _ (Or.inl rfl), hw]; simp [vdmKind, vdmStructured, vdmCmd, vdmType, fld, bit1]
  refine ⟨only_withRx _ _ _ (by decide +kernel) (by decide +kernel) (by decide), rfl, hk, rfl, ?_, ?_, ?_, by decide +kernel⟩ <;> rw [hw] <;> decide

/-- An SVID that is neither the service SVID nor the PD SID. -/
def otherSvid : Nat := if svcSvidNat = 0x1234 then 0x1235 else 0x1234
theorem test_vdm_nak_hyps : ∃ w : Word,
    let s := withRx 0x108F (wordBytes w) (pdOn live .attachedSrc fun d => d)
    let m := msg s 0x108F (wordBytes w)
    s.onlyMsg 0 m ∧ m.tgt = .sop ∧ kindOf (s.port 0) m = .svdm ∧ (s.port 0).calm = true ∧ vdmType (m.word 0) = 0 ∧ vdmSvid (m.word 0) ≠ 0xFF00
      ∧ vdmSvid (m.word 0) ≠ svcSvidNat := by
  by_cases h : svcSvidNat = 0x1234
  · refine ⟨vdmW 0 7 0 0x1235, ?_⟩
    intro s m
    have hw : m.word 0 = 0x1235A007#32 := rfl
    have hs : vdmSvid 0x1235A007#32 = 0x1235 := rfl
    refine ⟨only_withRx _ _ _ (by decide +kernel) (by decide +kernel) (by decide), rfl, ?_, rfl, ?_, ?_, ?_⟩
    · rw [kind_vdm _ _ (Or.inl rfl), hw]; simp [vdmKind, vdmStructured, vdmCmd, vdmType, fld, bit1]
    · rw [hw]; decide
    · rw [hw]; decide
    · rw [hw, hs, h]; decide
  · refine ⟨vdmW 0 7 0 0x1234, ?_⟩
    intro s m
    have hw : m.word 0 = 0x1234A007#32 := rfl
    have hs : vdmSvid 0x1234A007#32 = 0x1234 := rfl
    refine ⟨only_withRx _ _ _ (by decide +kernel) (by decide +kernel) (by decide), rfl, ?_, rfl, ?_, ?_, ?_⟩
    · rw [kind_vdm _ _ (Or.inl rfl), hw]; simp [vdmKind, vdmStructured, vdmCmd, vdmType, fld, bit1]
    · rw [hw]; decide
    · rw [hw]; decide
    · rw [hw, hs]; exact fun e => h e.symm


/-! ### Hypotheses that need a proof -/

theorem test_yarrowTransmitStart_carrier_hyps :
    let s := (yOn live id).modPool fun m => m.append 82 (mkPacket m .none (frameBytes (fr 8 9 0x20 [])))
    s.hubRuns = true ∧ s.board.mainOn = true ∧ 32 ≤ 32 ∧ (s.yarrow.port .ya).backoff = 0 ∧ (s.pool.head (yTransit .ya)).isSome = true := by
  decide +kernel

theorem test_commitMemory_hyps :
    let s := runs 0 live fun c => { c with inflight := [(1, .mem 0x6010 [1, 2, 3, 4])] }
    s.sole 0 one .nop ∧ (s.core 0).inflight = [(1, .mem 0x6010 [1, 2, 3, 4])]
      ∧ sat (.nop 0 one) s (fun t => (t.core 0).data == [(0x6010, 1), (0x6011, 2), (0x6012, 3), (0x6013, 4)]) = true := by decide +kernel

theorem test_readAfterReset : (asked live .host [0, 0x11, 0, 0, 127, 0, 0, 0]).hubRuns = true := by decide +kernel

/-- A run of bytes reads back at its own addresses, and the others read as before. -/
theorem read_writeAll (d : Nat → Byte) (i : Nat) : ∀ (bs : List Byte) (a : Nat) (m : Memory), m.wf d = true →
    (m.writeAll d a bs).read d i = if a ≤ i ∧ i < a + bs.length then bs.getD (i - a) 0 else m.read d i
  | [], a, m, _ => by simp [Memory.writeAll]
  | b :: bs, a, m, h => by
    rw [Memory.writeAll, read_writeAll d i bs (a + 1) _ (Memory.wf_write a b h), Memory.read_write a b i h]
    by_cases h1 : i = a
    · subst h1; simp
    · by_cases h2 : a + 1 ≤ i ∧ i < a + 1 + bs.length
      · obtain ⟨k, rfl⟩ : ∃ k, i = a + 1 + k := ⟨i - (a + 1), by omega⟩
        have e : a + 1 + k - a = k + 1 := by omega
        rw [if_pos h2, if_pos ⟨by omega, by simp; omega⟩, e]; simp
      · rw [if_neg h2, if_neg h1, if_neg (by simp; omega)]

theorem readN_writeAll (d : Nat → Byte) (bs : List Byte) (a : Nat) (m : Memory) (h : m.wf d = true) :
    (m.writeAll d a bs).readN d a bs.length = bs := by
  apply List.ext_getElem
  · simp [Memory.readN]
  · intro j h1 h2
    simp only [Memory.readN, List.getElem_map, List.getElem_range]
    rw [read_writeAll d _ bs a m h, if_pos ⟨by omega, by omega⟩]
    simp [List.getD_eq_getElem?_getD, h2]

theorem crc_at (b : List Byte) (r : List Byte) (n : Nat) (h : b.length = n) : rdWord (b ++ (wordBytes (crc32c b) ++ r)) n = crc32c b := by
  have e : rdWord (b ++ (wordBytes (crc32c b) ++ r)) n = rdWord (wordBytes (crc32c b) ++ r) 0 := by
    simp [rdWord, rdNat, ← h]
  rw [e, rdWord_head]

/-- A snapshot of number 7 at position 2, with any body. -/
def snapFlash (body : List Byte) : Memory := Memory.writeAll erased (snapBase + 4096 * 2) (snapBytes 7 body ++ u32 7) []
theorem snapFlash_two (st : Store) (body : List Byte) (h : body.length = 4080) (hf : st.flash = snapFlash body) : st.snapAt 2 = some 7 := by
  have hl : (u32 0xD7A0FA17 ++ u32 7 ++ body).length = 4088 := by rw [List.length_append, h]; rfl
  have e : snapBytes 7 body ++ u32 7 = (u32 0xD7A0FA17 ++ u32 7 ++ body) ++ (wordBytes (crc32c (u32 0xD7A0FA17 ++ u32 7 ++ body)) ++ u32 7) := by
    simp [snapBytes]
  have hn : (snapBytes 7 body ++ u32 7).length = 4096 := by rw [e, List.length_append, hl]; rfl
  have hb : st.flash.readN erased (snapBase + 4096 * 2) 4096 = snapBytes 7 body ++ u32 7 := by
    have := readN_writeAll erased (snapBytes 7 body ++ u32 7) (snapBase + 4096 * 2) [] rfl
    rw [hn] at this
    rw [hf]; exact this
  have h0 : rdNat (snapBytes 7 body ++ u32 7) 0 4 = 0xD7A0FA17 := by
    have : ((snapBytes 7 body ++ u32 7).drop 0).take 4 = leBytes 4 0xD7A0FA17 := by simp [snapBytes, u32, leBytes]
    rw [rdNat, this, leNat_word]; rfl
  have h4 : rdNat (snapBytes 7 body ++ u32 7) 4 4 = 7 := by
    have : ((snapBytes 7 body ++ u32 7).drop 4).take 4 = leBytes 4 7 := by simp [snapBytes, u32, leBytes]
    rw [rdNat, this, leNat_word]; rfl
  have h92 : rdNat (snapBytes 7 body ++ u32 7) 4092 4 = 7 := by
    have hs : (snapBytes 7 body).length = 4092 := by rw [List.length_append] at hn; have : (u32 7).length = 4 := rfl; omega
    have : ((snapBytes 7 body ++ u32 7).drop 4092).take 4 = leBytes 4 7 := by rw [← hs, List.drop_left]; rfl
    rw [rdNat, this, leNat_word]; rfl
  have ht : (snapBytes 7 body ++ u32 7).take 4088 = u32 0xD7A0FA17 ++ u32 7 ++ body := by rw [e, ← hl, List.take_left]
  have hc : rdWord (snapBytes 7 body ++ u32 7) 4088 = crc32c (u32 0xD7A0FA17 ++ u32 7 ++ body) := by rw [e]; exact crc_at _ _ _ hl
  have hv : seqValid 7 = true := rfl
  simp [Store.snapAt, hb, h0, h4, h92, ht, hc, hv]

theorem snapFlash_below (st : Store) (body : List Byte) (hf : st.flash = snapFlash body) (i : Nat) (hi : i < 2) : st.snapAt i = none := by
  have hb (j : Nat) (hj : j < 4) : st.flash.read erased (snapBase + 4096 * i + j) = 0xFF#8 := by
    rw [hf, snapFlash, read_writeAll erased _ _ _ [] rfl, if_neg (by omega)]; rfl
  have hr : (st.flash.readN erased (snapBase + 4096 * i) 4096).take 4 = [0xFF#8, 0xFF#8, 0xFF#8, 0xFF#8] := by
    rw [Memory.readN, ← List.map_take, show (List.range 4096).take 4 = [0, 1, 2, 3] from by rw [List.take_range]; rfl]
    simp only [List.map_cons, List.map_nil, hb 0 (by omega), hb 1 (by omega), hb 2 (by omega), hb 3 (by omega)]
  have h0 : rdNat (st.flash.readN erased (snapBase + 4096 * i) 4096) 0 4 = 0xFFFFFFFF := by
    rw [rdNat, List.drop_zero, hr]; rfl
  simp [Store.snapAt, h0]

theorem snapFlash_find (st : Store) (body : List Byte) (h : body.length = 4080) (hf : st.flash = snapFlash body) :
    st.snaps.find? (fun x => x.1 == 7) = some (7, 2) := by
  have h2 := snapFlash_two st body h hf
  have h0 := snapFlash_below st body hf 0 (by omega)
  have h1 := snapFlash_below st body hf 1 (by omega)
  have hr : List.range 256 = 0 :: 1 :: 2 :: (List.range' 3 253) := by decide +kernel
  simp [Store.snaps, hr, h0, h1, h2]

/-- The snapshot read back by LOG_READ. -/
def snapAsked : State :=
  let s := asked live .host (packetOf 0x68 127 0 ([3, 0, 4, 0] ++ wordBytes 7#32 ++ wordBytes 8#32))
  { s with store := { s.store with flash := snapFlash (zeros 4080) } }
theorem test_logReadSnapshot_hyps :
    let s := snapAsked
    let c := cmdOf s .host
    let u := afterTake s .host
    s.takes .host 0x68 c u ∧ c.b 0 = 3 ∧ c.b 1 = 0 ∧ 4 ≤ c.h 2 ∧ c.h 2 % 4 = 0 ∧ (c.w 8).toNat % 4 = 0 ∧ (c.w 8).toNat + c.h 2 ≤ 4096
      ∧ (s.store.snaps.find? fun x => x.1 == (c.w 4).toNat) = some (7, 2) ∧ ∀ d, c.fits d = true := by
  intro s c u
  have hw : (c.w 4).toNat = 7 := by decide +kernel
  refine ⟨takesB_takes (by decide +kernel), by decide +kernel, by decide +kernel, by decide +kernel, by decide +kernel, by decide +kernel,
    by decide +kernel, ?_, fun d => ?_⟩
  · have hl : (zeros 4080).length = 4080 := by rw [zeros, List.length_replicate]
    have hf : s.store.flash = snapFlash (zeros 4080) := by simp only [s, snapAsked]
    rw [hw]; exact snapFlash_find _ _ hl hf
  · have hs : c.stream = .host := by decide +kernel
    simp [Cmd.fits, hs]

/-! ### Rows that one statement names together -/

def runOne (i : Instr) (len : Nat) : Bool := sat i (runs 0 live id) fun t => decide ((t.core 0).pc = 0x100#16 + BitVec.ofNat 16 len ∧ (t.core 0).running = true)
def three : XForm := .three (.reg 0) (.reg 1) (.imm 0 5)
theorem test_rows_x : ([.add 0 one three, .adc 0 one three, .sub 0 one three, .sbc 0 one three, .and 0 one three, .or 0 one three, .xor 0 one three,
    .andn 0 one three, .shl 0 one three, .shr 0 one three, .sar 0 one three, .rol 0 one three, .ror 0 one three].all fun i => runOne i 5) = true := by
  decide +kernel
theorem test_rows_mul : ([.mul 0 one three, .mulh 0 one three, .mulhu 0 one three, .div 0 one three, .divu 0 one three, .rem 0 one three,
    .remu 0 one three, .min 0 one (.reg 0) (.reg 1) (.imm 0 5), .max 0 one (.reg 0) (.reg 1) (.imm 0 5)].all fun i => runOne i 5) = true := by
  decide +kernel
theorem test_rows_one : ([.neg 0 one (.reg 0) (.imm 0 5), .not 0 one (.reg 0) (.imm 0 5), .abs 0 one (.reg 0) (.imm 0 5), .clz 0 one (.reg 0) (.imm 0 5),
    .cmp 0 one (.reg 0) (.imm 0 5), .tst 0 one (.reg 0) (.imm 0 5)].all fun i => runOne i 4) = true := by decide +kernel
theorem test_rows_bit : ([.set 0 one (.bit 200), .clr 0 one (.bit 200), .inv 0 one (.bit 200), .tset 0 one (.bit 200), .btst 0 one (.bit 200),
    .bst 0 one (.bit 200)].all fun i => runOne i 4) = true := by decide +kernel
theorem test_rows_move : runOne (.bmov 0 one (.bit 200) (.bit 300)) 7 && runOne (.mov 0 one (.reg 1) (.reg 2)) 3 && runOne (.movz 0 one (.reg 1) (.reg 2)) 3 = true := by
  decide +kernel
theorem test_rows_branch : ([.br 0 one (.reg 1), .bz 0 one (.reg 1), .bnz 0 one (.reg 1), .bc 0 one (.reg 1), .bnc 0 one (.reg 1), .bn 0 one (.reg 1),
    .bnn 0 one (.reg 1), .bv 0 one (.reg 1), .bnv 0 one (.reg 1), .bslt 0 one (.reg 1), .bsge 0 one (.reg 1), .bsle 0 one (.reg 1),
    .bsgt 0 one (.reg 1), .bule 0 one (.reg 1), .bugt 0 one (.reg 1)].all fun i => runOne i 2) = true := by decide +kernel
theorem test_rows_bitBranch : runOne (.bb1 0 one (.bit 200) (.reg 1)) 5 && runOne (.bb0 0 one (.bit 200) (.reg 1)) 5 = true := by decide +kernel
/-- R476's example at width 32. -/
theorem test_r476 : xbinRes .sar 32 0x80000010 40 false = ⟨0xFFFFFFFF, false, true, true, false⟩ ∧ (xbinRes .shr 32 0x80000001 32 false).c = true
    ∧ (xbinRes .rol 32 0x80000001 33 false).val = 3 ∧ (xbinRes .div 32 0xFFFFFFF9 2 false).val = 0xFFFFFFFD
    ∧ (xbinRes .rem 32 0xFFFFFFF9 2 false).val = 0xFFFFFFFF := by decide +kernel

/-! ### Stops and images -/

theorem test_factory :
    (match exec (.factoryCommand .host) ((asked live .host (packetOf 0xF1 127 0 [])).modBoard fun b => { b with testen := true }) with
     | .refused r => r == .factoryTest | _ => false) = true := by decide +kernel
/-- A boot that finds an image: wherever a store holds a valid slot, which the key hash and the signature check decide (log 15). -/
theorem test_boot_image (st : Store) (b : Bool) (h : (st.choose 0).1 = some b) :
    let s : State := { live with pool := .reset, store := st, board := { live.board with bootPending := true } }
    s.board.svcOn = true ∧ s.board.bootPending = true ∧ s.board.resetLow = false ∧ s.pool = Pool.reset ∧ s.board.testen = false
      ∧ (s.store.choose s.dev.keyRevoked).1 = some b := ⟨rfl, rfl, rfl, rfl, rfl, h⟩

end Sys2Proof.Tests
end

section
/-! Proofs. The clock of a state: the beat counter and whether the service domain has power. What leaves it, operation by operation. -/

namespace Sys2Proof.Machine

/-! ### The clock of a state -/

/-- The beat counter and whether the service domain has power: the last two of what `State.kept` names. -/
@[simp] abbrev State.clock (s : State) : Beat × Bool := s.kept.2.2.2

theorem clock_of_kept {s t : State} (h : t.kept = s.kept) : t.clock = s.clock := congrArg (fun r => r.2.2.2) h

theorem foldl_clock {α} (f : State → α → State) (h : ∀ t a, (f t a).clock = t.clock) :
    ∀ (l : List α) (s : State), (l.foldl f s).clock = s.clock
  | [], _ => rfl
  | a :: l, s => by rw [List.foldl_cons, foldl_clock f h l, h]

@[simp] theorem State.modCore_clock (s : State) (k : CoreId) (f : CoreSt → CoreSt) : (s.modCore k f).clock = s.clock := rfl

/-- Whatever state the outcome holds has the clock of `s`. -/
def keepsClock (s : State) (o : Host.Outcome State Fault Refusal) : Prop := ∀ t, o = .next t → t.clock = s.clock

theorem keepsClock_next {s t : State} (h : t.clock = s.clock) : keepsClock s (.next t) := by
  rintro _ ⟨⟩; exact h

/-! ### Messages, chunks and the PHY of a port -/

@[simp] theorem State.resumeAms_kept (s : State) (p : PortId) : (s.resumeAms p).kept = s.kept := kept_of_rest (by simp)
@[simp] theorem State.chunkDrop_kept (s : State) (p : PortId) (t : Tgt) (r : TxResult) : (s.chunkDrop p t r).kept = s.kept := kept_of_rest (by simp)
@[simp] theorem State.txDone_kept (s : State) (p : PortId) (t : Tgt) (why : Purpose) (r : TxResult) : (s.txDone p t why r).kept = s.kept :=
  kept_of_rest (by simp)
@[simp] theorem State.eprGo_kept (s : State) (p : PortId) : (s.eprGo p).kept = s.kept := kept_of_rest (by simp)
@[simp] theorem State.chunkLost_kept (s : State) (p : PortId) (t : Tgt) : (s.chunkLost p t).kept = s.kept := by
  unfold State.chunkLost; dsimp only; split <;> simp
@[simp] theorem State.discardWindow_kept (s : State) (p : PortId) : (s.discardWindow p).kept = s.kept := by
  unfold State.discardWindow; dsimp only; (repeat' split) <;> simp
@[simp] theorem State.cutOff_kept (s : State) (p : PortId) : (s.cutOff p).kept = s.kept := by simp [State.cutOff]
@[simp] theorem State.takePhy_kept (s : State) (p : PortId) (r : Phy × Option (Fin 5)) : (s.takePhy p r).kept = s.kept := by
  unfold State.takePhy; dsimp only; split <;> simp
@[simp] theorem State.endVdmOn_kept (s : State) (p : PortId) (only : Tgt → Bool) : (s.endVdmOn p only).kept = s.kept := by
  unfold State.endVdmOn; (repeat' split) <;> simp
@[simp] theorem State.notSupportedOn_kept (s : State) (p : PortId) (t : Tgt) : (s.notSupportedOn p t).kept = s.kept := by
  unfold State.notSupportedOn; (repeat' split) <;> simp
@[simp] theorem State.idleAdc_kept (s : State) (p : PortId) (v : Int) : (s.idleAdc p v).kept = s.kept := by simp [State.idleAdc]
@[simp] theorem State.snapPort_kept (s : State) (p : PortId) : (State.snapPort p s).kept = s.kept := by simp [State.snapPort]

theorem State.onMsg_kept (s : State) (p : PortId) (k : MsgKind) (act : State → RxMsg → State) (h : ∀ t m, (act t m).kept = t.kept) :
    (s.onMsg p k act).kept = s.kept := by
  unfold State.onMsg
  (repeat' split) <;> simp [h]
theorem State.vdmServed_kept (s : State) (p : PortId) (m : RxMsg) (f : State → State) (h : ∀ t, (f t).kept = t.kept) :
    (s.vdmServed p m f).kept = s.kept := by
  unfold State.vdmServed
  dsimp only; (repeat' split) <;> simp [h]

/-- A row that acts on a message keeps the clock where what it does with the message keeps all of `kept`. -/
theorem keepsClock_onMsg {s : State} {p : PortId} {k : MsgKind} {act : State → RxMsg → State} (h : ∀ t m, (act t m).kept = t.kept) :
    keepsClock s (.next (s.onMsg p k act)) := keepsClock_next (clock_of_kept (s.onMsg_kept p k act h))

/-! ### Frames of the Yarrow link -/

@[simp] theorem State.dropPoisoned_kept (s : State) (y : YPort) : (s.dropPoisoned y).kept = s.kept := by
  unfold State.dropPoisoned; (repeat' split) <;> simp
@[simp] theorem State.startScan_kept (s : State) : s.startScan.kept = s.kept := rfl
@[simp] theorem State.scanSlice_kept (s : State) (k : Nat) : (s.scanSlice k).kept = s.kept := by
  unfold State.scanSlice; dsimp only; (repeat' split) <;> simp
@[simp] theorem State.repeatOut_kept (s : State) (y : YPort) (busy sound fwd : Bool) (f : YFrame) :
    (s.repeatOut y busy sound fwd f).kept = s.kept := by
  unfold State.repeatOut; split <;> simp

/-- A row that acts on a received frame keeps the clock where what it does with the frame does. -/
theorem keepsClock_takeFrame {s : State} {y : YPort} {n : Nat} {f : YFrame → State → State} (h : ∀ fr t, (f fr t).kept = t.kept) :
    keepsClock s (.next (s.takeFrame y n f)) := by
  refine keepsClock_next ?_
  unfold State.takeFrame
  (repeat' split) <;> simp [h]

/-! ### The host port -/

@[simp] theorem Board.replyRead_beat (b : Board) (st : Stream) (k : Packet) : (b.replyRead st k).beat = b.beat := rfl
@[simp] theorem Board.replyRead_svcOn (b : Board) (st : Stream) (k : Packet) : (b.replyRead st k).svcOn = b.svcOn := rfl
@[simp] theorem State.transact_kept (s : State) (t : Transfer) : (s.transact t).kept = s.kept := rfl

/-! ### Power -/

@[simp] theorem State.cutStore_clock (s : State) : s.cutStore.clock = s.clock := Prod.ext s.cutStore_beat s.cutStore_svcOn
@[simp] theorem State.hubReset_clock (s : State) (cause : BitVec 3) (cold held : Bool) : (s.hubReset cause cold held).clock = s.clock :=
  s.cutStore_clock

end Sys2Proof.Machine
end

section
/-! Proofs. A Sorrel core leaves the clock: what it issues, repeats and takes up again. -/

namespace Sys2Proof.Machine

@[simp] theorem commit_clock (k : CoreId) (s : State) (e : Effect) : (commit k s e).clock = s.clock := by
  cases e <;> simp only [commit, writeData] <;> (repeat' split) <;> rfl

theorem foldl_commit_clock (k : CoreId) (l : List (Nat × Effect)) (s : State) :
    (l.foldl (fun t e => commit k t e.2) s).clock = s.clock := foldl_clock _ (fun t e => commit_clock k t e.2) l s

@[simp] theorem State.drain_clock (s : State) (k : CoreId) : (s.drain k).clock = s.clock :=
  foldl_commit_clock k _ s

@[simp] theorem State.finish_clock (s : State) (k : CoreId) (es : List (Nat × Effect)) (ctl : Ctl) (len : Nat) :
    (s.finish k es ctl len).clock = s.clock := by
  simp only [State.finish]; split <;> simp [foldl_commit_clock]

@[simp] theorem State.trap_clock (s : State) (k : CoreId) (detail : Nat) : (s.trap k detail).clock = s.clock :=
  (clock_of_kept (State.raise_kept _ _)).trans (s.drain_clock k)

@[simp] theorem State.popped_kept (s : State) (q : QueueId) (k : Packet) (bad : Bool) : (s.popped q k bad).kept = s.kept := by
  unfold State.popped; (repeat' split) <;> simp

@[simp] theorem qPop_kept (k : CoreId) (q : QueueId) (obs : CellObs) (s : State) : (qPop k q obs s).1.kept = s.kept := by
  unfold qPop; dsimp only
  (repeat' split) <;> simp

/-- An operation's results wait for their commit points: at issue it changes queues alone. -/
theorem opRun_kept {view real r : State} {k : CoreId} {n : Nat} {b : BundleOp} {es : List (Nat × Effect)} {ctl : Ctl}
    (h : opRun view real k n b = .ok (r, es, ctl)) : r.kept = real.kept := by
  obtain ⟨pre, op⟩ := b
  cases op
  all_goals
    simp only [opRun, runXbin, runXun, runCompare, runMove, runPush, jumpIf, quiet] at h
    (repeat' split at h) <;> cases h <;> simp

theorem runOnce_kept {k : CoreId} {view : State} : ∀ {bs : List BundleOp} {real r : State} {acc es : List (Nat × Effect)} {c ctl : Ctl},
    runOnce k view bs real acc c = .ok (r, es, ctl) → r.kept = real.kept
  | [], _, _, _, _, _, _, h => by cases h; rfl
  | b :: bs, real, _, _, _, _, _, h => by
    unfold runOnce at h
    split at h
    · cases h
    · next hop => exact (runOnce_kept h).trans (opRun_kept hop)

theorem iterate_kept {k : CoreId} {b : BundleOp} : ∀ {m : Nat} {view real t : State} {acc es : List (Nat × Effect)},
    iterate k b m view real acc = .ok (t, es) → t.kept = real.kept
  | 0, _, _, _, _, _, h => by cases h; rfl
  | m + 1, _, _, _, _, _, h => by
    unfold iterate at h
    split at h
    · cases h
    · next hop => exact (iterate_kept h).trans (opRun_kept hop)

theorem repRun_clock {k : CoreId} {wait : BundleOp → Nat} {len : Nat} {ctl : Ctl} :
    ∀ {reps : List (BundleOp × Nat)} {results mine : List (Nat × Effect)} {cyc : Nat} {s u : State},
      repRun k wait len ctl reps results mine cyc s = .ok u → u.clock = s.clock
  | [], _, _, _, _, _, h => by
    cases h; exact State.finish_clock _ k _ ctl len
  | (b, left) :: rest, results, mine, cyc, s, u, h => by
    unfold repRun at h
    dsimp only at h
    split at h
    · cases h; rfl
    · split at h
      · cases h
      · next hit =>
        have hc := clock_of_kept (iterate_kept hit)
        split at h
        · cases h; exact hc
        · exact (repRun_clock h).trans hc

@[simp] theorem State.issue_clock (s : State) (k : CoreId) : (s.issue k).clock = s.clock := by
  have cores : ∀ v, ({ s with cores := v } : State).clock = s.clock := fun _ => rfl
  simp only [State.issue]
  split
  · exact s.trap_clock k 1
  split
  · exact s.trap_clock k 2
  split
  · exact s.modCore_clock k _
  split
  · exact s.trap_clock k _
  next honce =>
    split
    · exact s.trap_clock k _
    next hrep =>
      split
      · exact cores _
      · rw [repRun_clock hrep]
        exact clock_of_kept ((State.drawn_kept _).trans (runOnce_kept honce))

@[simp] theorem State.wake_clock (s : State) (k : CoreId) : (s.wake k).clock = s.clock := by
  unfold State.wake
  refine foldl_clock _ (fun t j => ?_) _ s
  dsimp only
  (repeat' split) <;> simp

/-- An operation of a core's program moves no clock. -/
@[simp] theorem State.operate_clock (s : State) (k : CoreId) (h : Pre) (o : SOp) : (s.operate k h o).clock = s.clock := by
  unfold State.operate
  dsimp only
  (repeat' split) <;> simp

@[simp] theorem State.enterBeat_clock (s : State) (k : CoreId) : (s.enterBeat k).clock = s.clock := by
  unfold State.enterBeat
  dsimp only
  split
  · rfl
  split
  · simp
  next hrep => exact (clock_of_kept (State.drawn_kept _)).trans ((repRun_clock hrep :).trans (State.modCore_clock s k _))

@[simp] theorem State.resumePort_kept (s : State) (p : PortId) : (s.resumePort p).kept = s.kept := by
  have ends : ∀ (l : List (Tgt × Purpose × TxResult)) (t : State), (l.foldl (fun z e => z.afterTx p e.1 e.2.1 e.2.2) t).kept = t.kept :=
    fun l t => foldl_kept _ (fun _ _ => by simp) l t
  unfold State.resumePort
  dsimp only
  split <;> simp [ends]

@[simp] theorem State.resumeCore_kept (s : State) (k : CoreId) : (s.resumeCore k).kept = s.kept := by
  unfold State.resumeCore
  split
  · exact foldl_kept _ (fun t i => by simp) _ s
  · rfl

end Sys2Proof.Machine
end

section
/-! Proofs. A command of a stream leaves the clock where the effect that its answer carries does. -/

namespace Sys2Proof.Machine

/-! ### Commands of a stream -/

/-- The effect that an answer carries moves no clock. -/
def Act.keepsClock : Act → Prop
  | .refuse _ => True
  | .answer _ _ eff | .later eff => ∀ t, (eff t).clock = t.clock

@[simp] theorem Act.keepsClock_refuse (r : Refuse) : (Act.refuse r).keepsClock := trivial
@[simp] theorem Act.keepsClock_give (data : List Byte) : (Act.give data).keepsClock := fun _ => rfl
@[simp] theorem Act.keepsClock_answer (n : Nat) (data : List Byte) (eff : State → State) :
    (Act.answer n data eff).keepsClock ↔ ∀ t, (eff t).clock = t.clock := Iff.rfl
@[simp] theorem Act.keepsClock_ok (eff : State → State) : (Act.ok eff).keepsClock ↔ ∀ t, (eff t).clock = t.clock := Iff.rfl
@[simp] theorem Act.keepsClock_accepted (eff : State → State) : (Act.accepted eff).keepsClock ↔ ∀ t, (eff t).clock = t.clock := Iff.rfl
@[simp] theorem Act.keepsClock_later (eff : State → State) : (Act.later eff).keepsClock ↔ ∀ t, (eff t).clock = t.clock := Iff.rfl

theorem State.respond_clock (s : State) (c : Cmd) {a : Act} (h : a.keepsClock) : (s.respond c a).clock = s.clock := by
  cases a with
  | refuse r => simp
  | answer status data eff =>
    unfold State.respond
    dsimp only
    split
    · simp
    · rw [h]; split <;> simp
  | later eff =>
    unfold State.respond
    rw [h]; split <;> simp

theorem State.park_kept (c : Cmd) (s : State) : (State.park c s).kept = s.kept := by
  unfold State.park; dsimp only; split <;> simp

theorem State.handOff_keepsClock (s : State) (c : Cmd) {a : Act} (h : a.keepsClock) : (s.handOff c a).keepsClock := by
  unfold State.handOff
  split
  · trivial
  (repeat' split)
  · exact h
  · exact fun t => clock_of_kept (t.modPool_kept _)
  · exact fun t => clock_of_kept (State.park_kept c t)
  · exact h

theorem State.judge_keepsClock (s : State) (c : Cmd) {run : Cmd → State → Act} (h : (run c s).keepsClock) : (s.judge c run).keepsClock := by
  unfold State.judge
  split
  · trivial
  split
  · trivial
  split
  · trivial
  split
  · trivial
  split
  · trivial
  · exact s.handOff_keepsClock c h

theorem State.dispose_clock (s : State) (c : Cmd) {a : State → Act} (h : ∀ t, (a t).keepsClock) : (s.dispose c a).clock = s.clock := by
  unfold State.dispose
  dsimp only
  rw [State.respond_clock _ c (h _)]; simp

theorem State.unpark_clock (s : State) (cl : ClusterId) (k : Packet) (c : Cmd) {a : State → Act} (h : ∀ t, (a t).keepsClock) :
    (s.unpark cl k c a).clock = s.clock := by
  unfold State.unpark
  dsimp only
  split
  · simp
  · rw [State.respond_clock _ c (h _)]; simp

theorem State.serveNext_clock (s : State) (st : Stream) (mine : Cmd → State → Bool) {a : Cmd → State → Act}
    (h : ∀ c t, (a c t).keepsClock) : (s.serveNext st mine a).clock = s.clock := by
  unfold State.serveNext
  (repeat' split) <;> dsimp only <;> (repeat' split) <;> simp [State.dispose_clock _ _ (h _)]

theorem keepsClock_serveWith {s : State} {st : Stream} {mine : Cmd → State → Bool} {a : Cmd → State → Act}
    (h : ∀ c t, (a c t).keepsClock) : keepsClock s (.next (s.serveWith st mine a)) := by
  refine keepsClock_next ?_
  unfold State.serveWith
  split
  · rfl
  split
  · dsimp only
    split
    · exact s.unpark_clock _ _ _ (h _)
    · rfl
  · exact s.serveNext_clock st mine h

/-- A row that serves a command keeps the clock where the command's own effect does. -/
theorem keepsClock_serve {s : State} {st : Stream} {opc : Nat} {sub : Cmd → Bool} {run : Cmd → State → Act}
    (h : ∀ c t, (run c t).keepsClock) : keepsClock s (.next (s.serve st opc sub run)) :=
  keepsClock_serveWith fun c t => t.judge_keepsClock c (h c t)

/-! ### Folds, for `simp` -/

@[simp] theorem clock_fold (s : State) : (s.board.beat, s.board.svcOn) = s.clock := rfl

theorem bringAll_kept (start : Bool) (l : List ClusterId) (s : State) : (l.foldl (bringCluster start) s).kept = s.kept :=
  foldl_kept _ (fun t c => bringCluster_kept start t c) l s

@[simp] theorem State.enable_kept (s : State) (p : PortId) (recal : Bool) : (s.enable p recal).kept = s.kept := by
  unfold State.enable; split <;> simp
@[simp] theorem State.readLog_kept (q : QueueId) (ks : List Packet) (s : State) : (State.readLog q ks s).kept = s.kept :=
  (foldl_kept _ (fun t k => by simp) ks _).trans (s.modPool_kept _)

theorem execFactoryCommand_keepsClock (s : State) (st : Stream) : keepsClock s (execFactoryCommand st s) := by
  unfold execFactoryCommand
  split
  · rintro t ⟨⟩
  · exact keepsClock_serveWith fun _ _ => trivial

end Sys2Proof.Machine
end

section
/-! Proofs. The commands by who carries them out. -/

namespace Sys2Proof

/-- Commands that a stream brings, which the hub die serves. -/
def Instr.isServed : Instr → Bool
  | .echo _ | .identify _ | .readyMap _ | .timeGet _ | .portStatus _ | .portCalStatus _ | .pdLastRx _ | .svidTableRead _ |
    .budgetStatus _ | .stageStatus _ | .feedStatus _ | .faultStatus _ | .imageStatus _ | .yarrowStatus _ | .paramSet _ |
    .keyRevokeBurn _ | .phyRetrain _ | .hostCfgWrite _ | .coldReq _ | .warm _ | .ports _ | .portDisable _ | .portEnable _ |
    .portEnableRecalibrate _ | .swapRequestPr _ | .swapRequestDr _ | .swapRequestVconn _ | .vdmDiscoverIdentity _ |
    .vdmDiscoverSvids _ | .vdmDiscoverModes _ | .feedConfigApply _ | .feedReleaseA _ | .feedReleaseB _ | .faultClearLatch _ |
    .faultClearRaised _ | .faultClearLog _ | .logReadFault _ | .logReadStage _ | .logReadSnapshotList _ | .logReadSnapshot _ |
    .sorrelCtrlStatus _ | .sorrelCtrlStop _ | .sorrelCtrlStart _ | .paramGet _ | .portMoistureRead _ | .portMoistureRecheck _ |
    .portErrorRecovery _ | .policyWrite _ | .policyRead _ | .decide _ | .pdoTemplateWrite _ | .pdSend _ | .pdSoftReset _ |
    .pdHardReset _ | .pdCableReset _ | .vdmSend _ | .modeEnter _ | .modeExit _ | .budgetSet _ | .budgetGroupConfig _ |
    .stageConfig _ | .guardConfig _ | .faultSeverityRead _ | .faultSeverityWrite _ | .faultForceSet _ | .faultForceClear _ |
    .queueStatus _ | .queueFlush _ | .eventSubscribe _ | .imageBeginNew _ | .imageBeginResume _ | .imageData _ | .imageVerify _ |
    .imageCommit _ | .sorrelLoadExt _ | .yarrowNodeAssignSet _ | .yarrowNodeAssignChain _ | .yarrowForward _ | .portConfig _ |
    .paramCommit _ | .unknownOpcode _ | .factoryCommand _ => true
  | _ => false

/-- BEAT and the commands that may switch the service domain on or off. -/
def Instr.setsClock : Instr → Bool
  | .beat | .serviceDomainPowerOn _ _ _ | .serviceDomainPowerOff | .mainLoss => true
  | _ => false

end Sys2Proof
end

section
/-! Proofs. Every command leaves the clock, but for the four of `setsClock`. -/

namespace Sys2Proof.Machine

/-! ### The commands of the ports -/

/-- What the ports, their clusters and their protocol layers carry out leaves the clock. -/
theorem exec_keepsClock_of_onPort {c : Instr} (h : c.onPort = true) (s : State) : keepsClock s (exec c s) := by
  cases c with
  | request | sourceCapabilities | reject | wait | prSwap | drSwap | vconnSwap | softReset | eprModeEnter | eprModeExit | chunkRequest |
      extendedChunk | getRevision | unsupportedMessage | unstructuredVdmRx | attention =>
    refine keepsClock_onMsg fun t m => ?_
    try dsimp only
    (repeat' split) <;> simp
  | accept p =>
    refine keepsClock_next ?_
    dsimp only
    split
    · (repeat' split) <;> simp
    split
    · rfl
    · refine clock_of_kept (State.onMsg_kept _ _ _ _ fun t m => ?_)
      (repeat' split) <;> simp
  | psRdy p =>
    refine keepsClock_next ?_
    split
    · rfl
    · refine clock_of_kept (State.onMsg_kept _ _ _ _ fun t m => ?_)
      dsimp only
      (repeat' split) <;> simp
  | structuredVdmRx p =>
    refine keepsClock_onMsg fun t m => ?_
    split
    · simp
    split
    · exact t.vdmServed_kept p m _ (by simp)
    · rfl
  | serviceEnterMode p =>
    refine keepsClock_next ?_
    dsimp only
    split
    · split <;> simp
    · exact clock_of_kept (State.onMsg_kept _ _ _ _ fun t m => t.vdmServed_kept p m _ (by simp))
  | serviceExitMode p | svcXfer p | svcSync p =>
    exact keepsClock_onMsg fun t m => t.vdmServed_kept p m _ fun u => by split <;> simp
  | cnVconnMonitor | trunkStale =>
    refine keepsClock_next ?_
    try dsimp only
    (repeat' split) <;> simp [foldl_kept]
  | ccStateUpdate | ccDebounceExpiry | pdDebounceExpiry | tryCcDebounceExpiry | drpToggleExpiry | drpTryExpiry | tryWaitExpiry |
      tryTimeoutExpiry | errorRecoveryExpiry | srcDisconnectExpiry | sinkDetach | rdCheckComplete | attachSrcEntry | harnCalStep |
      harnCalDeferredStart | bleederOvervoltage | harnDrift | moistureSweepEnd | dryRecheckExpiry | vbusLeak | ccLeakTrip | vconnOc |
      adcTrimUpdate | adcStale | trainingSample | shadowApply | packetReceive | goodcrcTransmit | hardResetReceived | txAttemptStart |
      goodcrcReceived | receiveTimeout | txCollisionAbort | txIntegrity | hardResetSend | hrTimeout | decisionDeadline |
      unexpectedMessage | capabilityBuild | sinkAmsStart | sinkFirstMessageWithdraw | sinkTxExpiry | senderResponseTimeout |
      typecSendSourceCapExpiry | srcTransitionExpiry | srcTransitionComplete | transFail | psTransitionTimeout | psSourceOffTimeout |
      psSourceOnTimeout | psHardResetExpiry | safe0vReached | safe0vTimeout | srcRecoverExpiry | sinkVbusReturn | sinkRecoveryBound |
      noResponseTimeout | sinkWaitCapTimeout | sinkRequestExpiry | chunkSenderRequestTimeout | chunkSenderResponseTimeout |
      vdmSenderResponseTimeout | vdmWaitModeTimeout | vdmBusyRetry | discoverIdentityExpiry | sinkEprEnterTimeout |
      sourceEprKeepaliveTimeout | sinkEprKeepaliveExpiry | ppsTimeout | ppsRequestExpiry | ppsUndervoltage | dropExcess |
      swapMessageSend | swapRequestTimeout | swapBackoffExpiry | prSwapVbusOff | swapFail | prSwapIdleHeld | prSwapSinkGateOn |
      prSwapSourceRamp | prSwapSourceReady | swapSourceStartExpiry | swapWindowExceeded | vconnSourceTimeout | vconnSwapOnConfirm |
      vconnSwapOnTimeout | loopUpdate | peakCurrentTrip | stageStart | harnessDischargeEnd | dischargeRunEnd | dischargeFail |
      senIdleTimeout | stageUv | stageUvRestart | ilsFault | stageHeadroom | loopSat | windowMonitorDecision | fetGate |
      currentLimitEnter | ilimTimeout | faultTimerClear | fastTrip | tripCountReset | thermalModelUpdate | tsnFault | vsafe5vReady =>
    refine keepsClock_next ?_
    try dsimp only
    (repeat' split) <;> simp
  | _ => cases h

/-! ### The commands of the streams -/

theorem runParamSet_keepsClock (c : Cmd) (s : State) : (runParamSet c s).keepsClock := by
  simp only [runParamSet]
  (repeat' split) <;> simp

theorem runReset_keepsClock (c : Cmd) (s : State) : (runReset c s).keepsClock := by
  unfold runReset resetLater
  (repeat' split) <;> simp

theorem runPortEnable_keepsClock (c : Cmd) (s : State) : (runPortEnable c s).keepsClock := by
  simp only [runPortEnable]
  (repeat' split) <;> simp

theorem runSwapRequest_keepsClock (c : Cmd) (s : State) : (runSwapRequest c s).keepsClock := by
  simp only [runSwapRequest]
  (repeat' split) <;> simp

theorem runVdmDiscover_keepsClock (c : Cmd) (s : State) : (runVdmDiscover c s).keepsClock := by
  simp only [runVdmDiscover]
  (repeat' split) <;> simp

theorem runFeedConfig_keepsClock (c : Cmd) (s : State) : (runFeedConfig c s).keepsClock := by
  simp only [runFeedConfig]
  (repeat' split) <;> simp

theorem runFaultClear_keepsClock (c : Cmd) (s : State) : (runFaultClear c s).keepsClock := by
  simp only [runFaultClear]
  (repeat' split) <;> simp

theorem runLogRead_keepsClock (c : Cmd) (s : State) : (runLogRead c s).keepsClock := by
  simp only [runLogRead]
  (repeat' split) <;> simp

theorem runSorrelCtrl_keepsClock (c : Cmd) (s : State) : (runSorrelCtrl c s).keepsClock := by
  simp only [runSorrelCtrl]
  (repeat' split) <;> simp

/-- What a command of a stream does leaves the clock. -/
theorem exec_keepsClock_of_isServed {c : Instr} (h : c.isServed = true) (s : State) : keepsClock s (exec c s) := by
  cases c with
  | echo | identify | readyMap | timeGet | portStatus | portCalStatus | pdLastRx | svidTableRead | budgetStatus | stageStatus |
      feedStatus | faultStatus | imageStatus | yarrowStatus =>
    exact keepsClock_serve fun c t => by simp
  | paramSet | keyRevokeBurn | phyRetrain | hostCfgWrite => exact keepsClock_serve runParamSet_keepsClock
  | coldReq | warm | ports => exact keepsClock_serve runReset_keepsClock
  | portDisable | portEnable | portEnableRecalibrate => exact keepsClock_serve runPortEnable_keepsClock
  | swapRequestPr | swapRequestDr | swapRequestVconn => exact keepsClock_serve runSwapRequest_keepsClock
  | vdmDiscoverIdentity | vdmDiscoverSvids | vdmDiscoverModes => exact keepsClock_serve runVdmDiscover_keepsClock
  | feedConfigApply | feedReleaseA | feedReleaseB => exact keepsClock_serve runFeedConfig_keepsClock
  | faultClearLatch | faultClearRaised | faultClearLog => exact keepsClock_serve runFaultClear_keepsClock
  | logReadFault | logReadStage | logReadSnapshotList | logReadSnapshot => exact keepsClock_serve runLogRead_keepsClock
  | sorrelCtrlStatus | sorrelCtrlStop | sorrelCtrlStart => exact keepsClock_serve runSorrelCtrl_keepsClock
  | paramGet | portMoistureRead | portMoistureRecheck | portErrorRecovery | policyWrite | policyRead | decide | pdoTemplateWrite |
      pdSend | pdSoftReset | pdHardReset | pdCableReset | vdmSend | modeEnter | modeExit | budgetSet | budgetGroupConfig | stageConfig |
      guardConfig | faultSeverityRead | faultSeverityWrite | faultForceSet | faultForceClear | queueStatus | queueFlush | eventSubscribe
    | imageBeginNew | imageBeginResume | imageData | imageVerify | imageCommit | sorrelLoadExt | yarrowNodeAssignSet |
      yarrowNodeAssignChain | yarrowForward =>
    refine keepsClock_serve fun c t => ?_
    simp only [
      runParamGet, runPortMoisture, runPortErrorRecovery, runPolicyWrite, runPolicyRead, runDecide, runPdoTemplateWrite, runPdSend,
      runPdSoftReset, runPdHardReset, runPdCableReset, runVdmSend, runModeEnter, runModeExit, runBudgetSet, runBudgetGroupConfig,
      runStageConfig, runGuardConfig, runFaultSeverity, runFaultForce, runQueueStatus, runQueueFlush, runEventSubscribe,
      runImageBegin, runImageData, runImageVerify, runImageCommit, runSorrelLoadExt, runYarrowNodeAssign, runYarrowForward]
    (repeat' split) <;> simp
  | portConfig =>
    refine keepsClock_serve fun c t => ?_
    unfold runPortConfig
    split <;> simp
  | paramCommit => exact keepsClock_serveWith fun c t => t.judge_keepsClock c (by unfold runParamCommit; (repeat' split) <;> simp)
  | unknownOpcode => exact keepsClock_serveWith fun _ _ => trivial
  | factoryCommand => exact execFactoryCommand_keepsClock s _
  | _ => cases h

/-! ### All other commands -/

theorem execMainDomainRelease_keepsClock (s : State) : keepsClock s (exec .mainDomainRelease s) := by
  refine keepsClock_next ?_
  dsimp only
  split
  · rfl
  split
  · rfl
  split
  · rfl
  · refine (clock_of_kept ((State.yarrowBoot_kept _).trans ((State.feedBits_kept _).trans (bringAll_kept true _ _)))).trans ?_
    split
    · exact (clock_of_kept (State.joinTrim_kept _ true) :)
    · exact (clock_of_kept (bringCluster_kept true _ 0) :)

theorem execBootRomStart_keepsClock (s : State) : keepsClock s (exec .bootRomStart s) := by
  refine keepsClock_next ?_
  dsimp only
  (repeat' split) <;> simp

theorem execRefLoss_keepsClock (s : State) : keepsClock s (execRefLoss s) := by
  unfold execRefLoss
  -- the list of all ports stays opaque, for the kernel would run through it
  obtain ⟨ps, hps⟩ : ∃ ps, allPorts = ps := ⟨_, rfl⟩
  rw [hps]
  refine keepsClock_next ?_
  dsimp only
  (repeat' split) <;> simp

/-- What neither a port carries out nor a stream brings leaves the clock, but for the four commands of `setsClock`. -/
theorem exec_keepsClock_of_rest {c : Instr} (h : (c.onPort || c.isServed || c.setsClock) = false) (s : State) :
    keepsClock s (exec c s) := by
  cases c with
  | add | adc | sub | sbc | and | or | xor | andn | shl | shr | sar | rol | ror | mul | mulh | mulhu | div | divu | rem | remu | neg |
      not | cmp | tst | min | max | abs | clz | set | clr | inv | tset | btst | bst | bmov | mov | movz | movs | lea | push | pop | nop
    | qopen | qpush | qend | qabort | qpop | br | bz | bnz | bc | bnc | bn | bnn | bv | bnv | bslt | bsge | bsle | bsgt | bule | bugt
    | bb1 | bb0 | loop | call | ret | beatend =>
    exact keepsClock_next (s.operate_clock _ _ _)
  | link | idAssign | heartbeat | elect | report | grant | fwdCmd | fwdReply =>
    refine keepsClock_takeFrame fun fr t => ?_
    try dsimp only
    (repeat' split) <;> simp
  | clusterTrimComplete =>
    refine keepsClock_next ?_
    dsimp only
    (repeat' split) <;> simp [foldl_kept]
  | refRestored =>
    refine keepsClock_next ?_
    (repeat' split) <;> simp [bringAll_kept]
  | mainDomainRelease => exact execMainDomainRelease_keepsClock s
  | bootRomStart => exact execBootRomStart_keepsClock s
  | refLoss => exact execRefLoss_keepsClock s
  | snapshotWrite | paramCommitComplete | imageEraseComplete | imageDataReadBack | imageVerifyComplete | imageCommitProgrammed | read |
      feedGuardStart | feedGuardStop | resetNAssert | resetNRelease | afeLink | afeLinkRestore | feedLinkLost | feedLinkUp | beatEntry |
      beatOverrun | repeatPause | trunkValueDelivery | monBlanked | gateFullyOn | gateBelowOff | feedVinWindow | insertionDelayExpiry |
      bbmExpiry | changeoverGateTimeout | feedRampTimeout | pgQualExpiry | feedLimitStart | feedFaultTimerExpiry | feedFaultTimerClear |
      feedFastTrip | feedOvertemp | feedCoolExpiry | noFeedOn | brownoutEnter | brownoutExit | budgetAllocation | dieTemp | write |
      status | unknownTypeByte | resetDeferredStart | queueFlushAct | extensionCall | yarrowFrameReceive | yarrowTransmitStart |
      linkSend | yarrowLink | heartbeatSend | heartbeatMissed | listenWindowEnd | electWindowEnd | reportSend | ledgerScan | ledgerStale
    | forwardTimeout | seqSourceExpiry | quarantineScanEnd | coalescingEnd | illegalOperation | feedTemperatureRelease =>
    refine keepsClock_next ?_
    try dsimp only
    (repeat' split) <;> simp
  | _ => cases h

theorem exec_keepsClock {c : Instr} (hc : c.setsClock = false) (s : State) : keepsClock s (exec c s) := by
  by_cases hp : c.onPort = true
  · exact exec_keepsClock_of_onPort hp s
  by_cases hs : c.isServed = true
  · exact exec_keepsClock_of_isServed hs s
  · exact exec_keepsClock_of_rest (by simp [hp, hs, hc]) s

end Sys2Proof.Machine
end

section
/-! Proofs. The beat counter (R41). -/

namespace Sys2Proof.Machine

/-! ### The four commands that set the clock -/

/-- The loss of the main domain leaves the clock, where VSVC holds the service domain on. -/
theorem execMainLoss_keepsClock {s : State} (h : s.board.vsvcGood = true) : keepsClock s (execMainLoss s) := by
  unfold execMainLoss
  -- the list of all ports stays opaque, for the kernel would run through it
  obtain ⟨ps, hps⟩ : ∃ ps, allPorts = ps := ⟨_, rfl⟩
  rw [hps]
  refine keepsClock_next ?_
  split
  · next off => simp [h] at off
  split
  · extract_lets b t u v _ _ _ _ _ _ _ w y
    have ht : t.kept = s.kept := State.quietPorts_kept _ _
    have hu : u.kept = t.kept := foldl_kept _ (fun t p => t.updPort_kept p _) _ _
    have hv : v.kept = u.kept := State.poolLoss_kept u
    have hw : w.clock = v.clock := rfl
    have hy : y.kept = w.kept := (State.budgetReady_kept _).trans (w.clearReady_kept _)
    have hr : (if y.hubRuns then y.raise (devRaise 18 0 0) else y).kept = y.kept := by split <;> simp
    calc (if y.hubRuns then y.raise (devRaise 18 0 0) else y).clock
      _ = w.clock := clock_of_kept (hr.trans hy)
      _ = s.clock := hw.trans (clock_of_kept (hv.trans (hu.trans ht)))
  · rfl

/-- The loss of the main domain leaves the clock or takes the service domain's power. -/
theorem execMainLoss_clock {s t : State} (ht : t.board.svcOn = true) (h : execMainLoss s = .next t) : t.clock = s.clock := by
  cases hv : s.board.vsvcGood with
  | true => exact execMainLoss_keepsClock hv t h
  | false =>
    unfold execMainLoss at h
    split at h
    · cases h; cases ht
    · next on =>
      rw [if_neg (by simpa [hv] using on)] at h
      cases h; rfl

theorem execServiceDomainPowerOff_clock {s t : State} (ht : t.board.svcOn = true) (h : execServiceDomainPowerOff s = .next t) :
    t.clock = s.clock := by
  unfold execServiceDomainPowerOff at h
  split at h
  · cases h; cases ht
  · cases h; rfl

theorem execServiceDomainPowerOn_keepsClock {s : State} (hs : s.board.svcOn = true) (held testen edges : Bool) :
    keepsClock s (execServiceDomainPowerOn held testen edges s) := by
  refine keepsClock_next ?_
  rw [if_neg (by simp [hs])]
  split <;> rfl

theorem execServiceDomainPowerOn_beat {s t : State} {held testen edges : Bool} (hs : s.board.svcOn = false) (ht : t.board.svcOn = true)
    (h : execServiceDomainPowerOn held testen edges s = .next t) : t.board.beat = 0 := by
  unfold execServiceDomainPowerOn at h
  split at h
  · cases h; rfl
  · rw [if_neg (by simp [hs])] at h
    cases h; simp [hs] at ht

theorem execBeat_beat {s t : State} (hs : s.board.svcOn = true) (h : execBeat s = .next t) : t.board.beat = s.board.beat + 1 := by
  unfold execBeat at h
  rw [if_pos hs] at h
  cases h
  exact congrArg (fun r => r.2.2.2.1) s.nextBeat_kept

/-- With the service domain powered before and after, no command but BEAT moves the beat counter. -/
theorem exec_clock_of_svcOn {c : Instr} {s t : State} (hc : c ≠ .beat) (hs : s.board.svcOn = true) (ht : t.board.svcOn = true)
    (h : exec c s = .next t) : t.clock = s.clock := by
  by_cases hset : c.setsClock = true
  · cases c with
    | beat => exact absurd rfl hc
    | serviceDomainPowerOn held testen edges => exact execServiceDomainPowerOn_keepsClock hs held testen edges t h
    | serviceDomainPowerOff => exact execServiceDomainPowerOff_clock ht h
    | mainLoss => exact execMainLoss_clock ht h
    | _ => cases hset
  · exact exec_keepsClock (by simpa using hset) s t h

theorem exec_beat {c : Instr} {s t : State} (hs : s.board.svcOn = true) (ht : t.board.svcOn = true) (h : exec c s = .next t) :
    t.board.beat = if c = .beat then s.board.beat + 1 else s.board.beat := by
  split
  · next hc => subst hc; exact execBeat_beat hs h
  · next hc => exact congrArg Prod.fst (exec_clock_of_svcOn hc hs ht h)

/-! ### Where the counter is read -/

theorem bw_le (b : Bool) (i : Nat) : bw b i ≤ 2 ^ i := by
  unfold bw; split <;> simp

theorem State.credit_lt (s : State) : s.credit < 2 ^ 8 := by
  unfold State.credit; omega

/-- A byte at bit 16 of a word, with what stands below and above it. -/
theorem byte2_of_word {flags credit b tag : Nat} (hf : flags < 2 ^ 8) (hc : credit < 2 ^ 8) (hb : b < 2 ^ 8) :
    (BitVec.ofNat 32 (flags + credit * 2 ^ 8 + b * 2 ^ 16 + tag * 2 ^ 24)).toNat / 2 ^ 16 % 2 ^ 8 = b := by
  rw [BitVec.toNat_ofNat]; omega

/-- Bits 23 to 16 of the status mirror are the low byte of the beat counter. -/
theorem State.mirror_beat (s : State) : s.mirror.toNat / 2 ^ 16 % 2 ^ 8 = s.board.beat.toNat % 2 ^ 8 := by
  unfold State.mirror
  refine byte2_of_word ?_ s.credit_lt (Nat.mod_lt _ (by decide))
  have := bw_le s.faults.latch.isSome 0
  have := bw_le (s.pool.head qReply).isSome 1
  have := bw_le (s.pool.head qEvent).isSome 2
  have := bw_le s.readyAll 3
  have := bw_le s.dev.notReadyAny 4
  have := bw_le s.host.hcrcErr 5
  have := bw_le s.host.inDrop 6
  have := bw_le s.host.outBad 7
  omega

/-- TIME_GET answers with the beat counter and whether holdover lasts. -/
theorem execTimeGet_takes {s u : State} {st : Stream} {c : Cmd} (h : s.takes st 0x08 c u) :
    execTimeGet st s = .next (u.okay c (leBytes 6 s.board.beat.toNat ++ [if s.board.holdover then 1 else 0, 0])) := by
  obtain ⟨hboard, -⟩ := State.takes_state h
  unfold execTimeGet
  rw [State.serve_takes h anySub _ rfl, Act.give, State.respond_answer u c _ id (.inr (by simp [beatBytes, leBytes]))]
  rw [show u.now = s.board.beat from congrArg Board.beat hboard, hboard]
  cases s.board.holdover <;> simp [State.okay, beatBytes, leBytes, bw]

end Sys2Proof.Machine
end

section
/-! O9, settled. -/

namespace Sys2Proof
open Machine

/-- Settles O9: every command but the four of `setsClock` leaves the clock, and each of those is looked at by itself. -/
theorem beatCounter : Obligations.BeatCounter := by
  unfold Obligations.BeatCounter
  exact ⟨fun _ _ _ => exec_beat, fun _ _ _ _ _ => execServiceDomainPowerOn_beat, State.mirror_beat, fun _ _ _ _ => execTimeGet_takes⟩

end Sys2Proof
end

section
/-! A reply against the room its stream leaves it, and ECHO (R340, R403). -/

namespace Sys2Proof.Machine

theorem Cmd.fits_iff {c : Cmd} {data : List Byte} : c.fits data = true ↔ c.stream ≠ .forwarded ∨ data.length ≤ 4084 := by
  simp [Cmd.fits]

/-- A payload without effect, where the command's stream has room for it. -/
theorem State.respond_give_of_fits {u : State} {c : Cmd} {data : List Byte} (h : c.fits data = true) :
    u.respond c (.give data) = u.okay c data :=
  State.respond_answer u c data id (Cmd.fits_iff.mp h)

/-- A payload above what the origin of a forwarded command could hold is refused before any effect, whatever the status. -/
theorem State.respond_answer_of_not_fits {u : State} {c : Cmd} {status : Nat} {data : List Byte} {eff : State → State}
    (h : c.fits data = false) : u.respond c (.answer status data eff) = u.deny c 0x83 := by
  have hlong : (decide (c.stream = .forwarded) && decide (4084 < data.length)) = true := by
    simpa [Cmd.fits] using h
  exact if_pos hlong

/-- ECHO, taken, gives back its payload; whether it fits is left to the answer. -/
theorem execEcho_takes {s u : State} {st : Stream} {c : Cmd} (h : s.takes st 0x00 c u) :
    execEcho st s = .next (u.respond c (.give c.payload)) :=
  congrArg Host.Outcome.next (State.serve_takes h anySub _ rfl)

end Sys2Proof.Machine
end

section
/-! O44, settled. -/

namespace Sys2Proof
open Machine

/-- Settles O44: ECHO's answer is its payload, and the two clauses are the two cases of an answer that fits its stream or not. -/
theorem echo : Obligations.Echo := by
  unfold Obligations.Echo
  refine ⟨fun st c u s htakes hfits => ?_, fun st c u s htakes hlong => ?_⟩
  · exact (execEcho_takes htakes).trans (congrArg _ (State.respond_give_of_fits hfits))
  · exact (execEcho_takes htakes).trans (congrArg _ (State.respond_answer_of_not_fits hlong))

end Sys2Proof
end

section
/-! The commit of results against the rest of a core: the place the core stands at, and its open bundle (R456). -/

namespace Sys2Proof.Machine

/-! ### Changes of one core, one after another -/

theorem State.modCore_modCore (s : State) (k : CoreId) (f g : CoreSt → CoreSt) :
    (s.modCore k f).modCore k g = s.modCore k fun c => g (f c) := by
  simp [State.modCore]

/-- A change of a core is what it makes of the core as it stands. -/
theorem State.modCore_congr {s : State} {k : CoreId} {f g : CoreSt → CoreSt} (h : f (s.core k) = g (s.core k)) :
    s.modCore k f = s.modCore k g :=
  congrArg (fun c => { s with cores := s.cores.set k c }) h

@[simp] theorem State.core_drawn (s : State) (k : CoreId) : s.drawn.core k = s.core k := rfl

/-! ### What a commit leaves, and what it does not look at -/

/-- Where a core stands in its program: no result that commits changes it. -/
def CoreSt.place (c : CoreSt) := (c.bundle, c.rep, c.waiting, c.delay, c.pc, c.rstack, c.cycles, c.inflight)

theorem State.core_modCore_place {f : CoreSt → CoreSt} (hf : ∀ c, (f c).place = c.place) (s : State) (k j : CoreId) :
    ((s.modCore k f).core j).place = (s.core j).place := by
  by_cases e : j = k
  · subst e; simp [hf]
  · rw [State.core_modCore_ne s e]

theorem writeData_place (s : State) (k j : CoreId) (a : Nat) (bytes : List Byte) :
    ((writeData s k a bytes).core j).place = (s.core j).place := by
  unfold writeData
  split
  · exact State.core_modCore_place (fun _ => by rfl) s k j
  split
  · rfl
  split
  · dsimp only; split <;> rfl
  split
  · exact State.core_modCore_place (fun _ => by rfl) s k j
  · rfl

theorem commit_place (k j : CoreId) (s : State) (e : Effect) : ((commit k s e).core j).place = (s.core j).place := by
  cases e with
  | reg | flags | qport => exact State.core_modCore_place (fun _ => by rfl) s k j
  | mem a bytes => exact writeData_place s k j a bytes
  | bitv =>
    simp only [commit]
    split
    · exact State.core_modCore_place (fun _ => by rfl) s k j
    · split <;> rfl

theorem foldl_commit_place (k j : CoreId) (l : List (Nat × Effect)) (s : State) :
    ((l.foldl (fun t e => commit k t e.2) s).core j).place = (s.core j).place := by
  induction l generalizing s with
  | nil => rfl
  | cons e l ih => exact (ih _).trans (commit_place k j s e.2)

/-- The core's open bundle and its cycle count set anew. -/
def CoreSt.setBundle (b : List BundleOp) (n : Nat) (c : CoreSt) : CoreSt := { c with bundle := b, cycles := n }

theorem writeData_setBundle (s : State) (k : CoreId) (b : List BundleOp) (n a : Nat) (bytes : List Byte) :
    writeData (s.modCore k (CoreSt.setBundle b n)) k a bytes = (writeData s k a bytes).modCore k (CoreSt.setBundle b n) := by
  unfold writeData
  split
  · simp only [State.modCore_modCore]; rfl
  split
  · rfl
  split
  · dsimp only
    rw [apply_ite (State.modCore · k (CoreSt.setBundle b n))]; rfl
  split
  · simp only [State.modCore_modCore]; rfl
  · rfl

/-- A result commits alike whatever bundle is open and however many cycles have gone. -/
theorem commit_setBundle (k : CoreId) (s : State) (b : List BundleOp) (n : Nat) (e : Effect) :
    commit k (s.modCore k (CoreSt.setBundle b n)) e = (commit k s e).modCore k (CoreSt.setBundle b n) := by
  cases e with
  | reg | flags | qport => simp only [commit, State.modCore_modCore]; rfl
  | mem a bytes => exact writeData_setBundle s k b n a bytes
  | bitv =>
    simp only [commit]
    split
    · simp only [State.modCore_modCore]; rfl
    · split <;> rfl

theorem foldl_commit_setBundle (k : CoreId) (b : List BundleOp) (n : Nat) (l : List (Nat × Effect)) (s : State) :
    l.foldl (fun t e => commit k t e.2) (s.modCore k (CoreSt.setBundle b n))
      = (l.foldl (fun t e => commit k t e.2) s).modCore k (CoreSt.setBundle b n) := by
  induction l generalizing s with
  | nil => rfl
  | cons e l ih => simp only [List.foldl_cons, commit_setBundle, ih]

end Sys2Proof.Machine
end

section
/-! One operation that issues as a bundle of its own (R456–R458, R466). -/

namespace Sys2Proof.Machine

/-! ### The end of the issue -/

/-- A core without a repeat that does not wait, at the end of the issue of a bundle without a branch: its state is `issued`, whatever
bundle stood open. -/
theorem State.finish_fall {s : State} {k : CoreId} (hrep : (s.core k).rep = none) (hwait : (s.core k).waiting = false)
    (hbundle : (s.core k).bundle = []) (b : List BundleOp) (es : List (Nat × Effect)) (len cost : Nat) :
    (s.drawn.modCore k (CoreSt.setBundle b ((s.core k).cycles + cost))).finish k es .fall len = s.issued k len cost es := by
  unfold State.finish State.issued
  simp only [State.core_modCore, State.core_drawn, foldl_commit_setBundle, List.foldl_append, State.modCore_modCore]
  refine State.modCore_congr ?_
  have hplace := (foldl_commit_place k k (es.filter fun e => e.1 == 0) _).trans
    (foldl_commit_place k k ((s.core k).inflight.filter fun e => decide (e.1 ≤ 1)) s.drawn)
  simp only [CoreSt.place, Prod.mk.injEq, State.core_drawn] at hplace
  obtain ⟨hb, hr, hw, hd, hpc, hrs, -, -⟩ := hplace
  rcases hdelay : (s.core k).delay with _ | ⟨target, _ | _⟩ <;>
    simp only [CoreSt.setBundle, hd, hpc, hrs, hb, hr, hw, hrep, hwait, hbundle, hdelay]

theorem State.issued_waiting (s : State) (k j : CoreId) (len cost : Nat) (es : List (Nat × Effect)) :
    ((s.issued k len cost es).core j).waiting = (s.core j).waiting := by
  have hplace := foldl_commit_place k j
    (((s.core k).inflight.filter fun e => decide (e.1 ≤ 1)) ++ es.filter fun e => e.1 == 0) s.drawn
  simp only [CoreSt.place, Prod.mk.injEq] at hplace
  obtain ⟨-, -, hwaiting, -⟩ := hplace
  unfold State.issued
  by_cases e : j = k
  · subst e; rw [State.core_modCore]; exact hwaiting
  · rw [State.core_modCore_ne _ e]; exact hwaiting

/-- With no core waiting for a queue, nothing tries again. -/
theorem State.wake_of_none_waiting {s : State} {k : CoreId} (h : ∀ j, (s.core j).waiting = false) : s.wake k = s :=
  List.foldl_fixed' (fun j => if_neg (by simp [h j])) _

/-! ### The issue -/

/-- The core with the operation as its open bundle. -/
def State.holding (s : State) (k : CoreId) (b : BundleOp) : State := s.modCore k fun c => { c with bundle := [b] }

@[simp] theorem State.core_holding (s : State) (k : CoreId) (b : BundleOp) :
    (s.holding k b).core k = { s.core k with bundle := [b] } := by
  simp [State.holding]

@[simp] theorem State.holding_board (s : State) (k : CoreId) (b : BundleOp) : (s.holding k b).board = s.board := rfl
theorem State.holding_drawn (s : State) (k : CoreId) (b : BundleOp) : (s.holding k b).drawn = s.drawn.holding k b := rfl
@[simp] theorem State.holding_pool (s : State) (k : CoreId) (b : BundleOp) : (s.holding k b).pool = s.pool := rfl

/-- A bundle without a C operation is legal wherever it stands (R458, R461, R462). -/
theorem badPlace_of_not_control {b : BundleOp} (h : b.op.cls ≠ .c) (c : CoreSt) : badPlace c [b] = false ∧ isCall b = false := by
  obtain ⟨pre, op⟩ := b
  cases op with
  | branch | branchBit | loop | call | ret | beatend => exact absurd rfl h
  | _ => simp [badPlace, isRet, isCall, isEnd, SOp.cls]

/-- A bundle of one operation without a repeat issues: the operation runs once, and the bundle ends (R456). -/
theorem State.issue_single {s r : State} {k : CoreId} {b : BundleOp} {es : List (Nat × Effect)} {ctl : Ctl}
    (hbundle : (s.core k).bundle = [b]) (hrep : b.pre.rep = none) (hcls : b.op.cls ≠ .c) (hwait : mustWait s k b = false)
    (hrun : opRun s s k s.board.free b = .ok (r, es, ctl)) :
    s.issue k
      = (r.drawn.modCore k fun c => { c with cycles := (s.core k).cycles + (opCost b - 1 + s.arbWait k b + 1) }).finish k es ctl b.len := by
  obtain ⟨hplace, hcall⟩ := badPlace_of_not_control hcls (s.core k)
  have honce : runOnce k s [b] s [] .fall = .ok (r, es, ctl) := by
    simp only [runOnce, hrun, List.nil_append]; cases ctl <;> rfl
  simp [State.issue, hbundle, hplace, hcall, hwait, hrep, honce, repRun]

/-- A core that takes an operation as a bundle of its own issues it, and no core tries again. -/
theorem State.operate_sole {s : State} {k : CoreId} {h : Pre} {o : SOp} (hs : s.sole k h o) :
    s.operate k h o = ((s.holding k ⟨h, o⟩).issue k).wake k := by
  obtain ⟨hrun, hbundle, hrep, hcyc, hnone, -, hlast, -, hlegal⟩ := hs
  have hhold : (s.modCore k fun c => { c with bundle := c.bundle ++ [⟨h, o⟩] }) = s.holding k ⟨h, o⟩ :=
    State.modCore_congr (by simp [hbundle])
  simp [State.operate, hhold, hrun, hrep, hnone k, hcyc, hlast, hlegal, frame]

/-- An operation that issues as a bundle of its own and changes nothing at once leaves its results to their commit points. -/
theorem State.operate_quiet {s : State} {k : CoreId} {h : Pre} {o : SOp} {es : List (Nat × Effect)} (hs : s.sole k h o)
    (hcls : o.cls ≠ .c) (hwait : mustWait (s.holding k ⟨h, o⟩) k ⟨h, o⟩ = false)
    (hrun : opRun (s.holding k ⟨h, o⟩) (s.holding k ⟨h, o⟩) k s.board.free ⟨h, o⟩ = .ok (s.holding k ⟨h, o⟩, es, .fall)) :
    s.operate k h o
      = s.issued k (BundleOp.len ⟨h, o⟩) (opCost ⟨h, o⟩ - 1 + (s.holding k ⟨h, o⟩).arbWait k ⟨h, o⟩ + 1) es := by
  rw [State.operate_sole hs]
  obtain ⟨-, hbundle, hrep, -, hnone, -, -, hpre, -⟩ := hs
  rw [State.issue_single (by simp) hpre hcls hwait hrun]
  have hset : ∀ n, ((s.holding k ⟨h, o⟩).drawn.modCore k fun c => { c with cycles := n })
      = s.drawn.modCore k (CoreSt.setBundle [⟨h, o⟩] n) := fun n => by
    rw [State.holding_drawn, State.holding, State.modCore_modCore]; rfl
  rw [hset, State.core_holding]
  have hfin := State.finish_fall hrep (hnone k) hbundle [⟨h, o⟩] es (BundleOp.len ⟨h, o⟩)
    (opCost ⟨h, o⟩ - 1 + (s.holding k ⟨h, o⟩).arbWait k ⟨h, o⟩ + 1)
  refine (congrArg (·.wake k) hfin).trans (State.wake_of_none_waiting fun j => ?_)
  rw [State.issued_waiting, hnone]

/-! ### Operands, as the core with its open bundle reads them -/

theorem readData_holding (s : State) (k : CoreId) (b : BundleOp) (n a size : Nat) :
    readData (s.holding k b) k n a size = readData s k n a size := by
  simp only [readData, dataWord, State.core_holding]; rfl

theorem readCode_holding (s : State) (k : CoreId) (b : BundleOp) (a size : Nat) :
    readCode (s.holding k b) k a size = readCode s k a size := by
  simp only [readCode, codeByte, State.core_holding, State.holding_board]

theorem Opnd.read_holding (s : State) (k : CoreId) (b : BundleOp) (n : Nat) (code : Bool) (w : Nat) (o : Opnd) :
    o.read (s.holding k b) k n code w = o.read s k n code w := by
  cases o <;> simp only [Opnd.read, State.core_holding, readData_holding, readCode_holding]

theorem Opnd.stepEffects_holding (s : State) (k : CoreId) (b : BundleOp) (size : Nat) (o : Opnd) :
    o.stepEffects (s.holding k b) k size = o.stepEffects s k size := by
  cases o <;> simp only [Opnd.stepEffects, State.core_holding]

theorem Opnd.writeEffects_holding (s : State) (k : CoreId) (b : BundleOp) (d w val : Nat) (o : Opnd) :
    o.writeEffects (s.holding k b) k d w val = o.writeEffects s k d w val := by
  cases o <;> simp only [Opnd.writeEffects, State.core_holding, Opnd.stepEffects_holding]

end Sys2Proof.Machine
end

section
/-! QPOP where the queue shows no packet (R433, R439, R463, R479). -/

namespace Sys2Proof.Machine

theorem queueOf_val (q : QueueId) : queueOf q.val = some q := dif_pos q.isLt

/-- The queue shows core `k` no packet: none is closed, the queue is quarantined, the core is no consumer of it, or its flush waits at
the boundary of a packet. -/
def Queue.hides (x : Queue) (k : CoreId) (q : QueueId) : Prop :=
  x.closed = [] ∨ x.quarantine = true ∨ mayPop k.val q.val = false ∨ (x.flush.isSome = true ∧ x.popped = 0)

/-- A pop of a queue that shows no packet changes no queue and delivers the idle item. -/
theorem qPop_of_hides {s : State} {k : CoreId} {q : QueueId} (obs : CellObs) (h : (s.pool.queues[q]).hides k q) :
    qPop k q obs s = (s, idleItem) := by
  unfold qPop
  generalize s.pool.queues[q] = x at h
  dsimp only
  split
  · rfl
  next hopen =>
    rcases h with hempty | hquar | hrole | ⟨hflush, hboundary⟩
    · rw [hempty]
    · simp [hquar] at hopen
    · simp [hrole] at hopen
    · simp [hflush, hboundary] at hopen

/-- QPOP of a queue that shows no packet: Z for V, which is 0, the other flags and the sideband clear. -/
theorem opRun_qpop_of_hides {view real : State} {k : CoreId} {n : Nat} {h : Pre} {d x : Opnd} {q : QueueId} (obs : CellObs)
    (hq : x.read view k n h.code 32 = q.val) (hid : (real.pool.queues[q]).hides k q) :
    opRun view real k n ⟨h, .qpop d x obs⟩ = .ok (real, d.writeEffects view k 2 32 0 ++ x.stepEffects view k 4
      ++ [(2, .flags (some true) (some false) (some false) (some false)), (2, .qport q false 0)], .fall) := by
  simp [opRun, hq, queueOf_val, qPop_of_hides obs hid, quiet, idleItem, Popped.side, bw]

/-- QPOP names no bit, so it waits for no grant. -/
theorem State.arbWait_qpop (s : State) (k : CoreId) (h : Pre) (d x : Opnd) (obs : CellObs) :
    s.arbWait k ⟨h, .qpop d x obs⟩ = 0 := rfl

theorem execQpop_of_hides {s : State} {k : CoreId} {h : Pre} {d x : Opnd} {q : QueueId} {obs : CellObs}
    (hs : s.sole k h (.qpop d x obs)) (hq : s.source k h 32 x = q.val) (hid : (s.pool.queues[q]).hides k q) :
    execQpop k h d x obs s = .next (s.issued k (BundleOp.len ⟨h, .qpop d x obs⟩) 1 (d.writeEffects s k 2 32 0 ++ x.stepEffects s k 4
      ++ [(2, .flags (some true) (some false) (some false) (some false)), (2, .qport q false 0)])) := by
  have hread : x.read (s.holding k ⟨h, .qpop d x obs⟩) k s.board.free h.code 32 = q.val := (Opnd.read_holding ..).trans hq
  have hrun := opRun_qpop_of_hides (d := d) (real := s.holding k ⟨h, .qpop d x obs⟩) obs hread hid
  rw [Opnd.writeEffects_holding, Opnd.stepEffects_holding] at hrun
  exact congrArg Host.Outcome.next (State.operate_quiet hs nofun rfl hrun)

end Sys2Proof.Machine
end

section
/-! O60, settled. -/

namespace Sys2Proof
open Machine

/-- Settles O60: each of the four cases hides the queue's packets from the core, and a pop of a hidden queue issues with the idle item. -/
theorem sorrelIdleItem : Obligations.SorrelIdleItem := by
  unfold Obligations.SorrelIdleItem
  exact fun _ _ _ _ _ _ _ hsole hsource hhides => execQpop_of_hides hsole hsource hhides

end Sys2Proof
end

section
/-! The X operations in the library's bit vectors, at every width (R473, R475, R476). -/

namespace Sys2Proof.XBin

/-- The written result of an operation with two sources (R473), its shift counts (R475) and its divisions by zero (R476). -/
def bits {w : Nat} (o : XBin) (x y : BitVec w) (cin : Bool) : BitVec w :=
  match o with
  | .add => x + y
  | .adc => x + y + (BitVec.ofBool cin).setWidth w
  | .sub => x - y
  | .sbc => x - y - (BitVec.ofBool cin).setWidth w
  | .and => x &&& y
  | .or => x ||| y
  | .xor => x ^^^ y
  | .andn => x &&& ~~~y
  | .shl => x <<< y.toNat
  | .shr => x >>> y.toNat
  | .sar => x.sshiftRight y.toNat
  | .rol => x.rotateLeft (y.toNat % w)
  | .ror => x.rotateRight (y.toNat % w)
  | .mul => x * y
  | .mulh => (x.signExtend (2 * w) * y.signExtend (2 * w)).extractLsb' w w
  | .mulhu => (x.setWidth (2 * w) * y.setWidth (2 * w)).extractLsb' w w
  | .div => if y = 0 then if x.msb then BitVec.intMin w else BitVec.intMax w else x.sdiv y
  | .divu => if y = 0 then BitVec.allOnes w else x / y
  | .rem => x.srem y
  | .remu => x % y
  | .min => if x.sle y then x else y
  | .max => if x.sle y then y else x

/-- C of an operation with two sources (R473, R475). -/
def carry {w : Nat} (o : XBin) (x y : BitVec w) (cin : Bool) : Bool :=
  match o with
  | .add => x.uaddOverflow y
  | .adc => decide (2 ^ w ≤ x.toNat + y.toNat + cin.toNat)
  | .sub => x.ult y
  | .sbc => decide (x.toNat < y.toNat + cin.toNat)
  | .shl => decide (1 ≤ y.toNat ∧ y.toNat ≤ w) && x.getLsbD (w - y.toNat)
  | .shr => decide (1 ≤ y.toNat) && x.getLsbD (y.toNat - 1)
  | .sar => decide (1 ≤ y.toNat) && if y.toNat < w then x.getLsbD (y.toNat - 1) else x.msb
  | .rol => decide (y.toNat % w ≠ 0) && (x.rotateLeft (y.toNat % w)).getLsbD 0
  | .ror => decide (y.toNat % w ≠ 0) && (x.rotateRight (y.toNat % w)).msb
  | .mul => x.umulOverflow y
  | .and | .or | .xor | .andn | .mulh | .mulhu | .div | .divu | .rem | .remu | .min | .max => false

/-- V of an operation with two sources (R473, R476). -/
def overflow {w : Nat} (o : XBin) (x y : BitVec w) (cin : Bool) : Bool :=
  match o with
  | .add => x.saddOverflow y
  | .adc => decide (x.toInt + y.toInt + (cin.toNat : Int) < -2 ^ (w - 1) ∨ 2 ^ (w - 1) ≤ x.toInt + y.toInt + (cin.toNat : Int))
  | .sub => x.ssubOverflow y
  | .sbc => decide (x.toInt - y.toInt - (cin.toNat : Int) < -2 ^ (w - 1) ∨ 2 ^ (w - 1) ≤ x.toInt - y.toInt - (cin.toNat : Int))
  | .mul => x.smulOverflow y
  | .div | .rem => y == 0 || (x == BitVec.intMin w && y == BitVec.allOnes w)
  | .divu | .remu => y == 0
  | .and | .or | .xor | .andn | .shl | .shr | .sar | .rol | .ror | .mulh | .mulhu | .min | .max => false

variable {w : Nat} (x y : BitVec w)

/-- DIV by zero gives the end of the range that the dividend's sign names (R476). -/
theorem div_bits_zero (cin : Bool) : XBin.div.bits x 0 cin = if x.msb then BitVec.intMin w else BitVec.intMax w := by
  rw [bits, if_pos rfl]

/-- DIVU by zero gives all ones (R476). -/
theorem divu_bits_zero (cin : Bool) : XBin.divu.bits x 0 cin = BitVec.allOnes w := by
  rw [bits, if_pos rfl]

/-- C is 0 for the operations to which neither R473 nor R475 gives a carry. -/
theorem carry_eq_false {o : XBin} (ho : o ∈ [.mulh, .mulhu, .div, .divu, .rem, .remu, .min, .max]) (cin : Bool) :
    o.carry x y cin = false := by
  fin_cases ho <;> rfl

/-- V is 0 for shifts, rotates, high halves, minimum and maximum (R473). -/
theorem overflow_eq_false {o : XBin} (ho : o ∈ [.shl, .shr, .sar, .rol, .ror, .mulh, .mulhu, .min, .max]) (cin : Bool) :
    o.overflow x y cin = false := by
  fin_cases ho <;> rfl

end Sys2Proof.XBin

namespace Sys2Proof.Machine

/-- A result with its flags: Z where the result is zero, N its top bit, C and V as given (R473). -/
def XRes.ofBits {w : Nat} (r : BitVec w) (c v : Bool) : XRes := ⟨r.toNat, r == 0, r.msb, c, v⟩

variable {w : Nat} (x y : BitVec w)

/-! ### Numbers against bit vectors -/

theorem sgn_toNat : sgn w x.toNat = x.toInt := by
  simp [sgn, BitVec.toInt_eq_msb_cond, BitVec.msb_eq_decide]

theorem toInt_neg_iff_msb : x.toInt < 0 ↔ x.msb = true := by
  simp [BitVec.msb_eq_toInt]

theorem toNat_eq_zero_iff : x.toNat = 0 ↔ x = 0 :=
  (BitVec.toNat_eq : x = 0 ↔ _).symm

theorem narrow_eq_toNat_ofInt (w : Nat) (i : Int) : narrow w i = (BitVec.ofInt w i).toNat := by
  simp [narrow, BitVec.toNat_ofInt]

theorem narrow_toInt : narrow w x.toInt = x.toNat := by
  rw [narrow_eq_toNat_ofInt, BitVec.ofInt_toInt]

theorem outside_eq_decide (w : Nat) (i : Int) : outside w i = decide (i < -2 ^ (w - 1) ∨ 2 ^ (w - 1) ≤ i) :=
  (Bool.decide_or ..).symm

theorem ofInt_natCast_toNat : BitVec.ofInt w (x.toNat : Int) = x := by
  rw [BitVec.ofInt_natCast, BitVec.ofNat_toNat, BitVec.setWidth_eq]

theorem ofInt_toNat_bool (w : Nat) (c : Bool) : BitVec.ofInt w (c.toNat : Int) = (BitVec.ofBool c).setWidth w := by
  rw [BitVec.ofInt_natCast, ← BitVec.toNat_ofBool, BitVec.ofNat_toNat]

theorem toNat_beq (r : BitVec w) : (x.toNat == r.toNat) = (x == r) := by
  rw [Bool.eq_iff_iff, beq_iff_eq, beq_iff_eq, BitVec.toNat_inj]

theorem toNat_beq_zero : (x.toNat == 0) = (x == 0) := toNat_beq x 0

theorem xres_toNat (c v : Bool) : xres w x.toNat c v = .ofBits x c v := by
  simp [xres, XRes.ofBits, BitVec.msb_eq_decide, ← toNat_beq]

theorem XRes.ofBits_z (c v : Bool) : (XRes.ofBits x c v).z = decide ((XRes.ofBits x c v).val = 0) := by
  rw [Bool.eq_iff_iff, decide_eq_true_iff]
  exact beq_iff_eq.trans (toNat_eq_zero_iff x).symm

theorem XRes.ofBits_n (c v : Bool) : (XRes.ofBits x c v).n = (XRes.ofBits x c v).val.testBit (w - 1) :=
  BitVec.msb_eq_getLsbD_last x

/-- The operation widths of R473. -/
theorem pos_of_mem_widths {w : Nat} (hw : w ∈ [8, 16, 32]) : 0 < w := by
  simp only [List.mem_cons, List.not_mem_nil, or_false] at hw
  omega

/-! ### Sums and differences -/

theorem addRes_toNat (c : Bool) :
    addRes w x.toNat y.toNat c.toNat = .ofBits (XBin.adc.bits x y c) (XBin.adc.carry x y c) (XBin.adc.overflow x y c) := by
  have hval : (x.toNat + y.toNat + c.toNat) % 2 ^ w = (XBin.adc.bits x y c).toNat := by simp [XBin.bits]
  rw [addRes, hval, xres_toNat, outside_eq_decide, sgn_toNat, sgn_toNat]
  rfl

theorem subRes_toNat (c : Bool) :
    subRes w x.toNat y.toNat c.toNat = .ofBits (XBin.sbc.bits x y c) (XBin.sbc.carry x y c) (XBin.sbc.overflow x y c) := by
  have hval : BitVec.ofInt w (x.toNat - y.toNat - c.toNat : Int) = XBin.sbc.bits x y c := by
    simp only [Int.sub_eq_add_neg, BitVec.ofInt_add, BitVec.ofInt_neg, ofInt_natCast_toNat, ofInt_toNat_bool,
      XBin.bits, BitVec.sub_eq_add_neg]
  rw [subRes, narrow_eq_toNat_ofInt, hval, xres_toNat, outside_eq_decide, sgn_toNat, sgn_toNat]
  rfl

/-- ADD is ADC of a clear C. -/
theorem addRes_toNat_zero :
    addRes w x.toNat y.toNat 0 = .ofBits (x + y) (x.uaddOverflow y) (x.saddOverflow y) := by
  have h := addRes_toNat x y false
  simpa [XBin.bits, XBin.carry, XBin.overflow, BitVec.uaddOverflow, BitVec.saddOverflow, Bool.or_comm] using h

/-- SUB is SBC of a clear C. -/
theorem subRes_toNat_zero :
    subRes w x.toNat y.toNat 0 = .ofBits (x - y) (x.ult y) (x.ssubOverflow y) := by
  have h := subRes_toNat x y false
  simpa [XBin.bits, XBin.carry, XBin.overflow, BitVec.ult, BitVec.ssubOverflow, Bool.or_comm] using h

/-! ### Shifts and rotates -/

theorem shlRes_toNat (n : Nat) :
    shlRes w x.toNat n = .ofBits (x <<< n) (decide (1 ≤ n ∧ n ≤ w) && x.getLsbD (w - n)) false := by
  unfold shlRes
  split
  case isTrue hzero => simp [hzero, xres_toNat]
  case isFalse hpos =>
    split
    case isTrue hle =>
      rw [← Nat.shiftLeft_eq, ← BitVec.toNat_shiftLeft, xres_toNat]
      simp [hle, Nat.one_le_iff_ne_zero, hpos, BitVec.getLsbD]
    case isFalse hgt =>
      rw [BitVec.shiftLeft_eq_zero (by omega), ← xres_toNat]
      simp [hgt]

theorem shrRes_toNat (n : Nat) :
    shrRes w x.toNat n = .ofBits (x >>> n) (decide (1 ≤ n) && x.getLsbD (n - 1)) false := by
  unfold shrRes
  split
  case isTrue hzero => simp [hzero, xres_toNat]
  case isFalse hpos =>
    split
    case isTrue hle =>
      rw [← Nat.shiftRight_eq_div_pow, ← BitVec.toNat_ushiftRight, xres_toNat]
      simp [Nat.one_le_iff_ne_zero, hpos, BitVec.getLsbD]
    case isFalse hgt =>
      rw [BitVec.ushiftRight_eq_zero (by omega), BitVec.getLsbD_of_ge x _ (by omega), ← xres_toNat]
      simp

theorem sarRes_toNat (n : Nat) :
    sarRes w x.toNat n
      = .ofBits (x.sshiftRight n) (decide (1 ≤ n) && if n < w then x.getLsbD (n - 1) else x.msb) false := by
  have hval : narrow w (x.toInt / 2 ^ n) = (x.sshiftRight n).toNat := by
    rw [BitVec.sshiftRight_eq, narrow_eq_toNat_ofInt, Int.shiftRight_eq_div_pow]
    simp
  have hsign (hn : w ≤ n) : (if x.msb then 2 ^ w - 1 else 0) = (x.sshiftRight n).toNat := by
    cases hm : x.msb
    · simp [BitVec.sshiftRight_eq_of_msb_false hm, BitVec.ushiftRight_eq_zero hn]
    · simp [BitVec.sshiftRight_eq_of_msb_true hm, BitVec.ushiftRight_eq_zero hn]
  simp only [sarRes, sgn_toNat, hval, toInt_neg_iff_msb]
  split
  case isTrue hzero => simp [hzero, xres_toNat]
  case isFalse hpos =>
    split
    case isTrue hlt =>
      rw [xres_toNat]
      simp [Nat.one_le_iff_ne_zero, hpos, BitVec.getLsbD]
    case isFalse hge =>
      rw [hsign (by omega), xres_toNat]
      simp [Nat.one_le_iff_ne_zero, hpos]

/-- What a rotate moves to the left and what it brings in from the right share no bit. -/
theorem rotate_add_eq_or {a m : Nat} (ha : a < 2 ^ w) (hm : m ≤ w) :
    a * 2 ^ m % 2 ^ w + a / 2 ^ (w - m) = a <<< m % 2 ^ w ||| a >>> (w - m) := by
  have hsplit : 2 ^ w = 2 ^ (w - m) * 2 ^ m := by rw [← Nat.pow_add, Nat.sub_add_cancel hm]
  have hlow : a / 2 ^ (w - m) < 2 ^ m := Nat.div_lt_of_lt_mul (hsplit ▸ ha)
  rw [Nat.shiftLeft_eq, Nat.shiftRight_eq_div_pow, hsplit, Nat.mul_mod_mul_right, Nat.mul_comm _ (2 ^ m)]
  exact Nat.two_pow_add_eq_or_of_lt hlow _

theorem rotateLeft_zero : x.rotateLeft 0 = x := by
  simp [BitVec.rotateLeft_def, BitVec.ushiftRight_eq_zero]

theorem rotateRight_zero : x.rotateRight 0 = x := by
  simp [BitVec.rotateRight_def, BitVec.shiftLeft_eq_zero]

theorem rolRes_toNat (hw : 0 < w) (n : Nat) :
    rolRes w x.toNat n
      = .ofBits (x.rotateLeft (n % w)) (decide (n % w ≠ 0) && (x.rotateLeft (n % w)).getLsbD 0) false := by
  have hlt := Nat.mod_lt n hw
  have hval : x.toNat * 2 ^ (n % w) % 2 ^ w + x.toNat / 2 ^ (w - n % w) = (x.rotateLeft (n % w)).toNat := by
    rw [BitVec.toNat_rotateLeft, Nat.mod_eq_of_lt hlt, rotate_add_eq_or x.isLt hlt.le]
  simp only [rolRes, hval, xres_toNat]
  split
  case isTrue hzero => simp [hzero, rotateLeft_zero]
  case isFalse hpos => simp [hpos, BitVec.getLsbD]

theorem rorRes_toNat (hw : 0 < w) (n : Nat) :
    rorRes w x.toNat n
      = .ofBits (x.rotateRight (n % w)) (decide (n % w ≠ 0) && (x.rotateRight (n % w)).msb) false := by
  have hlt := Nat.mod_lt n hw
  have hval : x.toNat / 2 ^ (n % w) + x.toNat * 2 ^ (w - n % w) % 2 ^ w = (x.rotateRight (n % w)).toNat := by
    have hor := rotate_add_eq_or x.isLt (Nat.sub_le w (n % w))
    rw [Nat.sub_sub_self hlt.le] at hor
    rw [BitVec.toNat_rotateRight, Nat.mod_eq_of_lt hlt, Nat.add_comm, hor, Nat.or_comm]
  simp only [rorRes, hval, xres_toNat]
  split
  case isTrue hzero => simp [hzero, rotateRight_zero]
  case isFalse hpos => simp [hpos, BitVec.msb_eq_getLsbD_last, BitVec.getLsbD]

/-! ### Products -/

theorem mulRes_toNat : mulRes w x.toNat y.toNat = .ofBits (x * y) (x.umulOverflow y) (x.smulOverflow y) := by
  rw [mulRes, sgn_toNat, sgn_toNat, outside_eq_decide, ← BitVec.toNat_mul, xres_toNat]
  simp [BitVec.umulOverflow, BitVec.smulOverflow, Bool.or_comm]

/-- The upper half of a number narrowed to `n * n` is the number's quotient by `n`, narrowed to `n`. -/
theorem emod_sq_ediv_emod (i : Int) {n : Int} (hn : n ≠ 0) : i % (n * n) / n % n = i / n % n :=
  calc
    _ = (i % (n * n) / n + n * (i / (n * n))) % n := (Int.add_mul_emod_self_left ..).symm
    _ = (i % (n * n) + n * (n * (i / (n * n)))) / n % n := by rw [Int.add_mul_ediv_left _ _ hn]
    _ = i / n % n := by rw [← Int.mul_assoc, Int.emod_add_mul_ediv]

theorem extractLsb'_ofInt (w : Nat) (i : Int) :
    (BitVec.ofInt (2 * w) i).extractLsb' w w = BitVec.ofInt w (i / 2 ^ w) := by
  have hpos : (0 : Int) < 2 ^ w := by positivity
  have hhalf := emod_sq_ediv_emod i hpos.ne'
  rw [← pow_add, ← two_mul] at hhalf
  apply BitVec.eq_of_toNat_eq
  zify
  rw [BitVec.extractLsb'_toNat, BitVec.toNat_ofInt, BitVec.toNat_ofInt, Nat.shiftRight_eq_div_pow]
  push_cast
  rw [Int.toNat_of_nonneg (Int.emod_nonneg _ (by positivity)), Int.toNat_of_nonneg (Int.emod_nonneg _ hpos.ne'), hhalf]

theorem narrow_mul_ediv : narrow w (x.toInt * y.toInt / 2 ^ w) = (XBin.mulh.bits x y false).toNat := by
  have hx : x.signExtend (2 * w) = BitVec.ofInt (2 * w) x.toInt := by
    rw [← BitVec.toInt_signExtend_of_le (by omega : w ≤ 2 * w), BitVec.ofInt_toInt]
  have hy : y.signExtend (2 * w) = BitVec.ofInt (2 * w) y.toInt := by
    rw [← BitVec.toInt_signExtend_of_le (by omega : w ≤ 2 * w), BitVec.ofInt_toInt]
  rw [XBin.bits, hx, hy, ← BitVec.ofInt_mul, extractLsb'_ofInt, narrow_eq_toNat_ofInt]

theorem mulhu_toNat : x.toNat * y.toNat / 2 ^ w = (XBin.mulhu.bits x y false).toNat := by
  have hsq : 2 ^ (2 * w) = 2 ^ w * 2 ^ w := by rw [two_mul, pow_add]
  have hprod : x.toNat * y.toNat < 2 ^ w * 2 ^ w := Nat.mul_lt_mul'' x.isLt y.isLt
  rw [XBin.bits, BitVec.extractLsb'_toNat, BitVec.toNat_mul, BitVec.toNat_setWidth_of_le (by omega),
    BitVec.toNat_setWidth_of_le (by omega), hsq, Nat.mod_eq_of_lt hprod, Nat.shiftRight_eq_div_pow,
    Nat.mod_eq_of_lt (Nat.div_lt_of_lt_mul hprod)]

/-! ### Quotients and remainders -/

theorem narrow_tdiv : narrow w (x.toInt.tdiv y.toInt) = (x.sdiv y).toNat := by
  rw [narrow_eq_toNat_ofInt, ← narrow_toInt (x.sdiv y), narrow_eq_toNat_ofInt, BitVec.toInt_sdiv, ← BitVec.toInt_ofInt,
    BitVec.ofInt_toInt]

theorem narrow_tmod : narrow w (x.toInt.tmod y.toInt) = (x.srem y).toNat := by
  rw [← BitVec.toInt_srem, narrow_toInt]

theorem toNat_beq_min (hw : 0 < w) : (x.toNat == 2 ^ (w - 1)) = (x == BitVec.intMin w) := by
  rw [← BitVec.toNat_intMin_of_pos hw, toNat_beq]

theorem toNat_beq_max : (x.toNat == 2 ^ w - 1) = (x == BitVec.allOnes w) := by
  rw [← BitVec.toNat_allOnes, toNat_beq]

theorem divRes_toNat (hw : 0 < w) (c : Bool) :
    divRes w x.toNat y.toNat = .ofBits (XBin.div.bits x y c) false (XBin.div.overflow x y c) := by
  have hedge : (if x.msb then 2 ^ (w - 1) else 2 ^ (w - 1) - 1)
      = (if x.msb then BitVec.intMin w else BitVec.intMax w).toNat := by
    split <;> simp [BitVec.toNat_intMin_of_pos hw, BitVec.toNat_intMax]
  simp only [divRes, sgn_toNat, toInt_neg_iff_msb, toNat_eq_zero_iff, hedge, narrow_tdiv, toNat_beq_min x hw, toNat_beq_max,
    xres_toNat, XBin.bits, XBin.overflow]
  split
  case isTrue hzero => simp [hzero]
  case isFalse hne => rw [beq_false_of_ne hne, Bool.false_or]

theorem divuRes_toNat (c : Bool) :
    divuRes w x.toNat y.toNat = .ofBits (XBin.divu.bits x y c) false (XBin.divu.overflow x y c) := by
  simp only [divuRes, toNat_eq_zero_iff, ← BitVec.toNat_udiv, ← BitVec.toNat_allOnes, xres_toNat, XBin.bits, XBin.overflow]
  split
  case isTrue hzero => simp [hzero]
  case isFalse hne => rw [beq_false_of_ne hne]

theorem remRes_toNat (hw : 0 < w) (c : Bool) :
    remRes w x.toNat y.toNat = .ofBits (XBin.rem.bits x y c) false (XBin.rem.overflow x y c) := by
  simp only [remRes, sgn_toNat, toNat_eq_zero_iff, narrow_tmod, toNat_beq_min x hw, toNat_beq_max, xres_toNat, XBin.bits,
    XBin.overflow]
  split
  case isTrue hzero => simp [hzero]
  case isFalse hne => rw [beq_false_of_ne hne, Bool.false_or]

theorem remuRes_toNat (c : Bool) :
    remuRes w x.toNat y.toNat = .ofBits (XBin.remu.bits x y c) false (XBin.remu.overflow x y c) := by
  simp only [remuRes, toNat_eq_zero_iff, ← BitVec.toNat_umod, xres_toNat, XBin.bits, XBin.overflow]
  split
  case isTrue hzero => simp [hzero]
  case isFalse hne => rw [beq_false_of_ne hne]

/-! ### The operations with two sources -/

/-- Every X operation with two sources, on numbers below `2 ^ w`, is the bit vectors' own operation with its flags. -/
theorem xbinRes_toNat (hw : 0 < w) (o : XBin) (c : Bool) :
    xbinRes o w x.toNat y.toNat c = .ofBits (o.bits x y c) (o.carry x y c) (o.overflow x y c) := by
  cases o with
  | add => exact addRes_toNat_zero x y
  | adc => exact addRes_toNat x y c
  | sub => exact subRes_toNat_zero x y
  | sbc => exact subRes_toNat x y c
  | and => exact xres_toNat (x &&& y) false false
  | or => exact xres_toNat (x ||| y) false false
  | xor => exact xres_toNat (x ^^^ y) false false
  | andn =>
    rw [xbinRes, ← BitVec.toNat_not, ← BitVec.toNat_and, xres_toNat]
    rfl
  | shl => exact shlRes_toNat x _
  | shr => exact shrRes_toNat x _
  | sar => exact sarRes_toNat x _
  | rol => exact rolRes_toNat x hw _
  | ror => exact rorRes_toNat x hw _
  | mul => exact mulRes_toNat x y
  | mulh =>
    simp only [xbinRes, sgn_toNat, narrow_mul_ediv, xres_toNat]
    rfl
  | mulhu =>
    simp only [xbinRes, mulhu_toNat, xres_toNat]
    rfl
  | div => exact divRes_toNat x y hw c
  | divu => exact divuRes_toNat x y c
  | rem => exact remRes_toNat x y hw c
  | remu => exact remuRes_toNat x y c
  | min =>
    simp only [xbinRes, sgn_toNat, ← BitVec.sle_iff_toInt_le, ← apply_ite BitVec.toNat, xres_toNat]
    rfl
  | max =>
    simp only [xbinRes, sgn_toNat, ← BitVec.sle_iff_toInt_le, ← apply_ite BitVec.toNat, xres_toNat]
    rfl

/-- A divisor of zero, as a number. -/
theorem xbinRes_zero_toNat (hw : 0 < w) (o : XBin) (c : Bool) :
    xbinRes o w x.toNat 0 c = .ofBits (o.bits x 0 c) (o.carry x 0 c) (o.overflow x 0 c) :=
  xbinRes_toNat x 0 hw o c

/-! ### The operations with one source -/

theorem narrow_neg : narrow w (-(x.toNat : Int)) = (-x).toNat := by
  rw [narrow_eq_toNat_ofInt, BitVec.ofInt_neg, ofInt_natCast_toNat]

theorem narrow_natAbs : narrow w (x.toInt.natAbs : Int) = x.abs.toNat := by
  rw [narrow_eq_toNat_ofInt, BitVec.abs_eq]
  split
  case isTrue hneg =>
    rw [Int.ofNat_natAbs_of_nonpos ((toInt_neg_iff_msb x).mpr hneg).le, BitVec.ofInt_neg, BitVec.ofInt_toInt]
  case isFalse hpos =>
    rw [Int.natAbs_of_nonneg (not_lt.mp fun h => hpos ((toInt_neg_iff_msb x).mp h)), BitVec.ofInt_toInt]

theorem clz_toNat (hw : 0 < w) : clz w x.toNat = x.clz.toNat := by
  have hw2 : w < 2 ^ w := Nat.lt_two_pow_self
  unfold clz
  split
  case isTrue hzero =>
    rw [BitVec.clz_eq_iff_eq_zero.mpr ((toNat_eq_zero_iff x).mp hzero)]
    simp [Nat.mod_eq_of_lt hw2]
  case isFalse hne =>
    have hx : x ≠ 0 := fun h => hne ((toNat_eq_zero_iff x).mpr h)
    have hclz : x.clz.toNat < w := by
      simpa [BitVec.lt_def, Nat.mod_eq_of_lt hw2] using BitVec.clz_lt_iff_ne_zero.mpr hx
    have hlog : x.toNat.log2 = w - 1 - x.clz.toNat := by
      refine (Nat.log2_eq_iff hne).mpr ⟨BitVec.two_pow_sub_clz_le_toNat_of_ne_zero hw hx, ?_⟩
      rw [show w - 1 - x.clz.toNat + 1 = w - x.clz.toNat by omega]
      exact BitVec.toNat_lt_two_pow_sub_clz
    omega

theorem xunRes_neg (hw : 0 < w) : xunRes .neg w x.toNat = .ofBits (-x) (x != 0) (x == BitVec.intMin w) := by
  simp only [xunRes, narrow_neg, bne, toNat_beq_min x hw, xres_toNat, toNat_beq_zero]

theorem xunRes_not : xunRes .not w x.toNat = .ofBits (~~~x) false false := by
  rw [xunRes, ← BitVec.toNat_not, xres_toNat]

theorem xunRes_abs (hw : 0 < w) : xunRes .abs w x.toNat = .ofBits x.abs false (x == BitVec.intMin w) := by
  rw [xunRes, sgn_toNat, narrow_natAbs, toNat_beq_min x hw, xres_toNat]

theorem clz_beq_zero (hw : 0 < w) : (x.clz == 0) = x.msb := by
  rw [Bool.eq_iff_iff, beq_iff_eq, ← toNat_eq_zero_iff, BitVec.clz_eq_zero_iff hw, BitVec.msb_eq_decide, decide_eq_true_iff]

theorem xunRes_clz (hw : 0 < w) : xunRes .clz w x.toNat = ⟨x.clz.toNat, x.msb, false, x == 0, false⟩ := by
  simp only [xunRes, clz_toNat x hw, xres_toNat, XRes.ofBits, clz_beq_zero x hw, toNat_beq_zero]

end Sys2Proof.Machine
end

section
/-! O55, settled. -/

namespace Sys2Proof
open Machine

/-- Settles O55: each operation is the bit vectors' own, and the clauses are read off its result, its C and its V. -/
theorem sorrelResults : Obligations.SorrelResults := by
  unfold Obligations.SorrelResults
  refine ⟨fun w x y hw c => ?_, fun w x y hw c => ?_, fun w x y hw c => ?_, fun w x y hw c o _ => ?_, fun w x hw => ?_⟩
  case refine_1 =>
    simp only [xbinRes_toNat x y (pos_of_mem_widths hw)]
    exact ⟨rfl, rfl, rfl, rfl, rfl, rfl, rfl, rfl, rfl, rfl, rfl, rfl⟩
  case refine_2 =>
    simp only [xbinRes_toNat x y (pos_of_mem_widths hw)]
    exact ⟨rfl, rfl, rfl, rfl, rfl, rfl, rfl, rfl, rfl, rfl⟩
  case refine_3 =>
    simp only [xbinRes_toNat x y (pos_of_mem_widths hw), xbinRes_zero_toNat x (pos_of_mem_widths hw)]
    refine ⟨rfl, rfl, rfl, fun hne => ?_, congrArg BitVec.toNat (XBin.div_bits_zero x c), rfl,
      congrArg BitVec.toNat (XBin.divu_bits_zero x c), rfl, congrArg BitVec.toNat BitVec.srem_zero, rfl,
      congrArg BitVec.toNat BitVec.umod_zero, rfl, rfl, rfl⟩
    simp only [XBin.bits, XBin.carry, XBin.overflow, if_neg hne, beq_false_of_ne hne, Bool.false_or]
    exact ⟨rfl, rfl, rfl, rfl, rfl⟩
  case refine_4 =>
    simp only [xbinRes_toNat x y (pos_of_mem_widths hw)]
    exact ⟨BitVec.isLt _, XRes.ofBits_z .., XRes.ofBits_n ..,
      fun ho => XBin.carry_eq_false x y ho c, fun ho => XBin.overflow_eq_false x y ho c⟩
  case refine_5 =>
    exact ⟨xunRes_neg x (pos_of_mem_widths hw), xunRes_not x, xunRes_abs x (pos_of_mem_widths hw), xunRes_clz x (pos_of_mem_widths hw)⟩

end Sys2Proof
end

section
/-! The memories and the command queue from one state to the next: what a step keeps of them (log 2, 13, 17). -/

namespace Sys2Proof.Machine

/-! ### Steps of the memories -/

/-- Both memories of a core are in canonical form (log 13). -/
def CoreSt.sound (c : CoreSt) : Bool := Memory.wf zeroByte c.data && Memory.wf zeroByte c.bundleMem

theorem CoreSt.sound_iff {c : CoreSt} : c.sound = true ↔ Memory.wf zeroByte c.data = true ∧ Memory.wf zeroByte c.bundleMem = true := by
  simp [CoreSt.sound]

theorem State.coresSound_iff {s : State} : s.coresSound = true ↔ ∀ k : CoreId, (s.core k).sound = true := by
  simp only [State.coresSound, List.all_eq_true, Vector.mem_toList_iff]
  refine ⟨fun h k => h _ (Vector.getElem_mem k.isLt), fun h c hc => ?_⟩
  obtain ⟨i, hi, rfl⟩ := Vector.mem_iff_getElem.1 hc
  exact h ⟨i, hi⟩

/-- From `s` to `t` the command queue stays, and memories in canonical form stay so. -/
structure MemStep (s t : State) : Prop where
  pending : t.pending = s.pending
  flash : s.flashSound = true → t.flashSound = true
  cores : s.coresSound = true → t.coresSound = true

theorem MemStep.refl (s : State) : MemStep s s := ⟨rfl, id, id⟩

theorem MemStep.trans {s t u : State} (h : MemStep s t) (g : MemStep t u) : MemStep s u :=
  ⟨g.pending.trans h.pending, g.flash ∘ h.flash, g.cores ∘ h.cores⟩

theorem CoreSt.sound_of_mem {c d : CoreSt} (h : c.mem = d.mem) : c.sound = d.sound :=
  congrArg (fun m : Memory × Memory => Memory.wf zeroByte m.1 && Memory.wf zeroByte m.2) h

/-- Cores each of which is sound where it was before. -/
theorem coresSound_of_cores {s t : State} (h : ∀ k : CoreId, (s.core k).sound = true → (t.core k).sound = true) (hs : s.coresSound = true) :
    t.coresSound = true :=
  State.coresSound_iff.2 fun k => h k (State.coresSound_iff.1 hs k)

theorem MemStep.of_kept {s t : State} (h : t.kept = s.kept) : MemStep s t := by
  simp only [State.kept, Prod.mk.injEq] at h
  obtain ⟨hmem, hflash, hpend, -, -⟩ := h
  refine ⟨hpend, fun hs => ?_, coresSound_of_cores fun k hs => ?_⟩
  · rwa [State.flashSound, hflash]
  · have hk : (t.core k).mem = (s.core k).mem := by
      have := congrArg (fun v : Vector (Memory × Memory) 9 => v[k]) hmem
      simpa [State.core] using this
    rwa [CoreSt.sound_of_mem hk]

theorem MemStep.foldl {α} {f : State → α → State} (h : ∀ t a, MemStep t (f t a)) : ∀ (l : List α) (s : State), MemStep s (l.foldl f s)
  | [], s => .refl s
  | a :: l, s => (h s a).trans (MemStep.foldl h l _)

/-- A change of one core that keeps its memories sound. -/
theorem MemStep.modCore {s : State} {k : CoreId} {f : CoreSt → CoreSt} (h : ∀ c, c.sound = true → (f c).sound = true) :
    MemStep s (s.modCore k f) :=
  ⟨rfl, id, coresSound_of_cores fun j hj => by
    by_cases e : j = k
    · subst e; rw [State.core_modCore]; exact h _ hj
    · rwa [State.core_modCore_ne s e]⟩

/-- A change of one core beside its memories. -/
theorem MemStep.modCore_of_mem {s : State} {k : CoreId} {f : CoreSt → CoreSt} (h : ∀ c, (f c).mem = c.mem := by intro _; rfl) :
    MemStep s (s.modCore k f) :=
  .modCore fun c hc => by rwa [CoreSt.sound_of_mem (h c)]

theorem MemStep.modBoard (s : State) (f : Board → Board) : MemStep s (s.modBoard f) := ⟨rfl, id, id⟩

/-- A change of the store that keeps its flash sound. -/
theorem MemStep.modStore {s : State} {f : Store → Store} (h : Memory.wf erased s.store.flash = true → Memory.wf erased (f s.store).flash = true) :
    MemStep s (s.modStore f) :=
  ⟨rfl, h, id⟩

/-- A change of the store that keeps its flash sound, and what follows it beside the memories. -/
theorem MemStep.of_modStore {s u : State} {f : Store → Store} (hu : u.kept = (s.modStore f).kept)
    (h : Memory.wf erased s.store.flash = true → Memory.wf erased (f s.store).flash = true) : MemStep s u :=
  (MemStep.modStore h).trans (.of_kept hu)

/-- Whatever state the outcome holds is a step of the memories away. -/
structure stepsMem (s : State) (o : Host.Outcome State Fault Refusal) : Prop where
  reaches : ∀ t, o = .next t → MemStep s t

theorem stepsMem_next {s t : State} (h : MemStep s t) : stepsMem s (.next t) :=
  ⟨by rintro _ ⟨⟩; exact h⟩

theorem stepsMem_of_kept {s t : State} (h : t.kept = s.kept) : stepsMem s (.next t) := stepsMem_next (.of_kept h)

end Sys2Proof.Machine
end

section
/-! What the ports carry out, and what a stream brings, against the memories. -/

namespace Sys2Proof.Machine

/-! ### The commands of the ports -/

/-- What the ports, their clusters and their protocol layers carry out reaches no memory and not the command queue. -/
theorem exec_kept_of_onPort {c : Instr} (h : c.onPort = true) {s t : State} (he : exec c s = .next t) : t.kept = s.kept := by
  cases c with
  | request | sourceCapabilities | reject | wait | prSwap | drSwap | vconnSwap | softReset | eprModeEnter | eprModeExit | chunkRequest |
      extendedChunk | getRevision | unsupportedMessage | unstructuredVdmRx | attention =>
    cases he
    refine State.onMsg_kept _ _ _ _ fun t m => ?_
    try dsimp only
    (repeat' split) <;> simp
  | accept p =>
    cases he
    dsimp only
    split
    · (repeat' split) <;> simp
    split
    · rfl
    · refine State.onMsg_kept _ _ _ _ fun t m => ?_
      (repeat' split) <;> simp
  | psRdy p =>
    cases he
    split
    · rfl
    · refine State.onMsg_kept _ _ _ _ fun t m => ?_
      dsimp only
      (repeat' split) <;> simp
  | structuredVdmRx p =>
    cases he
    refine State.onMsg_kept _ _ _ _ fun t m => ?_
    split
    · simp
    split
    · exact t.vdmServed_kept p m _ (by simp)
    · rfl
  | serviceEnterMode p =>
    cases he
    dsimp only
    split
    · split <;> simp
    · exact State.onMsg_kept _ _ _ _ fun t m => t.vdmServed_kept p m _ (by simp)
  | serviceExitMode p | svcXfer p | svcSync p =>
    cases he
    exact State.onMsg_kept _ _ _ _ fun t m => t.vdmServed_kept p m _ fun u => by split <;> simp
  | cnVconnMonitor =>
    cases he
    dsimp only
    (repeat' split) <;> simp [foldl_kept]
  | trunkStale =>
    cases he
    split
    · exact (State.raiseAll_kept _ _).trans (foldl_kept _ (fun t p => t.updPort_kept p _) _ _)
    · rfl
  | ccStateUpdate | ccDebounceExpiry | pdDebounceExpiry | tryCcDebounceExpiry | drpToggleExpiry | drpTryExpiry | tryWaitExpiry |
      tryTimeoutExpiry | errorRecoveryExpiry | srcDisconnectExpiry | sinkDetach | rdCheckComplete | attachSrcEntry | harnCalStep |
      harnCalDeferredStart | bleederOvervoltage | harnDrift | moistureSweepEnd | dryRecheckExpiry | vbusLeak | ccLeakTrip | vconnOc |
      adcTrimUpdate | adcStale | trainingSample | shadowApply | packetReceive | goodcrcTransmit | hardResetReceived | txAttemptStart |
      goodcrcReceived | receiveTimeout | txCollisionAbort | txIntegrity | hardResetSend | hrTimeout | decisionDeadline |
      unexpectedMessage | capabilityBuild | sinkAmsStart | sinkFirstMessageWithdraw | sinkTxExpiry | senderResponseTimeout |
      typecSendSourceCapExpiry | srcTransitionExpiry | srcTransitionComplete | transFail | psTransitionTimeout | psSourceOffTimeout |
      psSourceOnTimeout | psHardResetExpiry | safe0vReached | safe0vTimeout | srcRecoverExpiry | sinkVbusReturn | sinkRecoveryBound |
      noResponseTimeout | sinkWaitCapTimeout | sinkRequestExpiry | chunkSenderRequestTimeout | chunkSenderResponseTimeout |
      vdmSenderResponseTimeout | vdmWaitModeTimeout | vdmBusyRetry | discoverIdentityExpiry | sinkEprEnterTimeout |
      sourceEprKeepaliveTimeout | sinkEprKeepaliveExpiry | ppsTimeout | ppsRequestExpiry | ppsUndervoltage | dropExcess |
      swapMessageSend | swapRequestTimeout | swapBackoffExpiry | prSwapVbusOff | swapFail | prSwapIdleHeld | prSwapSinkGateOn |
      prSwapSourceRamp | prSwapSourceReady | swapSourceStartExpiry | swapWindowExceeded | vconnSourceTimeout | vconnSwapOnConfirm |
      vconnSwapOnTimeout | loopUpdate | peakCurrentTrip | stageStart | harnessDischargeEnd | dischargeRunEnd | dischargeFail |
      senIdleTimeout | stageUv | stageUvRestart | ilsFault | stageHeadroom | loopSat | windowMonitorDecision | fetGate |
      currentLimitEnter | ilimTimeout | faultTimerClear | fastTrip | tripCountReset | thermalModelUpdate | tsnFault | vsafe5vReady =>
    cases he
    try dsimp only
    (repeat' split) <;> simp
  | _ => cases h

/-! ### The commands of the streams -/

/-- The effect that an answer carries is a step of the memories. -/
def Act.stepsMem : Act → Prop
  | .refuse _ => True
  | .answer _ _ eff | .later eff => ∀ t, MemStep t (eff t)

/-- The effect that an answer carries reaches no memory and not the command queue. -/
def Act.keepsKept : Act → Prop
  | .refuse _ => True
  | .answer _ _ eff | .later eff => ∀ t, (eff t).kept = t.kept

@[simp] theorem Act.keepsKept_refuse (r : Refuse) : (Act.refuse r).keepsKept := trivial
@[simp] theorem Act.keepsKept_give (data : List Byte) : (Act.give data).keepsKept := fun _ => rfl
@[simp] theorem Act.keepsKept_answer (n : Nat) (data : List Byte) (eff : State → State) :
    (Act.answer n data eff).keepsKept ↔ ∀ t, (eff t).kept = t.kept := Iff.rfl
@[simp] theorem Act.keepsKept_ok (eff : State → State) : (Act.ok eff).keepsKept ↔ ∀ t, (eff t).kept = t.kept := Iff.rfl
@[simp] theorem Act.keepsKept_accepted (eff : State → State) : (Act.accepted eff).keepsKept ↔ ∀ t, (eff t).kept = t.kept := Iff.rfl
@[simp] theorem Act.keepsKept_later (eff : State → State) : (Act.later eff).keepsKept ↔ ∀ t, (eff t).kept = t.kept := Iff.rfl

theorem Act.stepsMem_of_keepsKept {a : Act} (h : a.keepsKept) : a.stepsMem := by
  cases a with
  | refuse => trivial
  | answer _ _ eff | later eff => exact fun t => .of_kept (h t)

theorem State.respond_memStep (s : State) (c : Cmd) {a : Act} (h : a.stepsMem) : MemStep s (s.respond c a) := by
  cases a with
  | refuse r => exact .of_kept (by simp)
  | answer status data eff =>
    unfold State.respond
    dsimp only
    split
    · exact .of_kept (by simp)
    · exact .trans (.of_kept (by split <;> simp)) (h _)
  | later eff =>
    unfold State.respond
    exact .trans (.of_kept (by split <;> simp)) (h _)

theorem State.handOff_stepsMem (s : State) (c : Cmd) {a : Act} (h : a.stepsMem) : (s.handOff c a).stepsMem := by
  unfold State.handOff
  split
  · trivial
  (repeat' split)
  · exact h
  · exact fun t => .of_kept (t.modPool_kept _)
  · exact fun t => .of_kept (State.park_kept c t)
  · exact h

theorem State.judge_stepsMem (s : State) (c : Cmd) {run : Cmd → State → Act} (h : (run c s).stepsMem) : (s.judge c run).stepsMem := by
  unfold State.judge
  (repeat' split) <;> first | trivial | exact s.handOff_stepsMem c h

theorem State.dispose_memStep (s : State) (c : Cmd) {a : State → Act} (h : ∀ t, (a t).stepsMem) : MemStep s (s.dispose c a) :=
  .trans (.of_kept (by simp)) (State.respond_memStep _ c (h _))

theorem State.unpark_memStep (s : State) (cl : ClusterId) (k : Packet) (c : Cmd) {a : State → Act} (h : ∀ t, (a t).stepsMem) :
    MemStep s (s.unpark cl k c a) := by
  unfold State.unpark
  dsimp only
  split
  · exact .of_kept (by simp)
  · exact .trans (.of_kept (by simp)) (State.respond_memStep _ c (h _))

theorem State.serveNext_memStep (s : State) (st : Stream) (mine : Cmd → State → Bool) {a : Cmd → State → Act}
    (h : ∀ c t, (a c t).stepsMem) : MemStep s (s.serveNext st mine a) := by
  unfold State.serveNext
  (repeat' split) <;> (try dsimp only) <;> (repeat' split) <;>
    first | exact .of_kept (by simp [-clock_fold]) | exact .trans (.of_kept (State.takeCommand_kept ..)) (State.dispose_memStep _ _ (h _))

theorem stepsMem_serveWith {s : State} {st : Stream} {mine : Cmd → State → Bool} {a : Cmd → State → Act}
    (h : ∀ c t, (a c t).stepsMem) : stepsMem s (.next (s.serveWith st mine a)) := by
  refine stepsMem_next ?_
  unfold State.serveWith
  split
  · exact .refl s
  split
  · dsimp only
    split
    · exact s.unpark_memStep _ _ _ (h _)
    · exact .refl s
  · exact s.serveNext_memStep st mine h

/-- A row that serves a command is a step of the memories where the command's own effect is. -/
theorem stepsMem_serve {s : State} {st : Stream} {opc : Nat} {sub : Cmd → Bool} {run : Cmd → State → Act}
    (h : ∀ c t, (run c t).stepsMem) : stepsMem s (.next (s.serve st opc sub run)) :=
  stepsMem_serveWith fun c t => t.judge_stepsMem c (h c t)

theorem stepsMem_serve_of_kept {s : State} {st : Stream} {opc : Nat} {sub : Cmd → Bool} {run : Cmd → State → Act}
    (h : ∀ c t, (run c t).keepsKept) : stepsMem s (.next (s.serve st opc sub run)) :=
  stepsMem_serve fun c t => Act.stepsMem_of_keepsKept (h c t)

@[simp] theorem Store.touch_flash (r : Store) (b : Bool) : (r.touch b).flash = r.flash := by
  unfold Store.touch; split <;> rfl

/-- Bytes loaded into the extension region leave the code memory canonical (R419). -/
theorem runSorrelLoadExt_stepsMem (c : Cmd) (s : State) : (runSorrelLoadExt c s).stepsMem := by
  simp only [runSorrelLoadExt]
  split
  · trivial
  split
  · trivial
  · refine fun t => MemStep.modCore fun k hk => ?_
    obtain ⟨hdata, hcode⟩ := CoreSt.sound_iff.1 hk
    exact CoreSt.sound_iff.2 ⟨hdata, Memory.wf_writeAll _ _ hcode⟩

theorem runSorrelCtrl_keepsKept (c : Cmd) (s : State) : (runSorrelCtrl c s).keepsKept := by
  simp only [runSorrelCtrl]
  (repeat' split) <;> first | trivial | exact fun t => t.modCore_kept _ _ fun _ => rfl

theorem execFactoryCommand_stepsMem (s : State) (st : Stream) : stepsMem s (execFactoryCommand st s) := by
  unfold execFactoryCommand
  split
  · exact ⟨fun _ h => nomatch h⟩
  · exact stepsMem_serveWith fun _ _ => trivial

/-- What a command of a stream does is a step of the memories. -/
theorem exec_stepsMem_of_isServed {c : Instr} (h : c.isServed = true) (s : State) : stepsMem s (exec c s) := by
  cases c with
  | echo | identify | readyMap | timeGet | portStatus | portCalStatus | pdLastRx | svidTableRead | budgetStatus | stageStatus |
      feedStatus | faultStatus | imageStatus | yarrowStatus =>
    exact stepsMem_serve_of_kept fun c t => by simp
  | paramSet | keyRevokeBurn | phyRetrain | hostCfgWrite | coldReq | warm | ports | portDisable | portEnable | portEnableRecalibrate
    | swapRequestPr | swapRequestDr | swapRequestVconn | vdmDiscoverIdentity | vdmDiscoverSvids | vdmDiscoverModes | feedConfigApply
    | feedReleaseA | feedReleaseB | faultClearLatch | faultClearRaised | faultClearLog | logReadFault | logReadStage | logReadSnapshotList
    | logReadSnapshot | paramGet | portMoistureRead | portMoistureRecheck | portErrorRecovery | policyWrite | policyRead | decide
    | pdoTemplateWrite | pdSend | pdSoftReset | pdHardReset | pdCableReset | vdmSend | modeEnter | modeExit | budgetSet
    | budgetGroupConfig | stageConfig | guardConfig | faultSeverityRead | faultSeverityWrite | faultForceSet | faultForceClear
    | queueStatus | queueFlush | eventSubscribe | imageBeginNew | imageBeginResume | imageData | imageVerify | imageCommit
    | yarrowNodeAssignSet | yarrowNodeAssignChain | yarrowForward =>
    refine stepsMem_serve_of_kept fun c t => ?_
    simp only [runParamSet, runReset, resetLater, runPortEnable, runSwapRequest, runVdmDiscover, runFeedConfig, runFaultClear, runLogRead,
      runParamGet, runPortMoisture, runPortErrorRecovery, runPolicyWrite, runPolicyRead, runDecide, runPdoTemplateWrite, runPdSend,
      runPdSoftReset, runPdHardReset, runPdCableReset, runVdmSend, runModeEnter, runModeExit, runBudgetSet, runBudgetGroupConfig,
      runStageConfig, runGuardConfig, runFaultSeverity, runFaultForce, runQueueStatus, runQueueFlush, runEventSubscribe,
      runImageBegin, runImageData, runImageVerify, runImageCommit, runYarrowNodeAssign, runYarrowForward]
    (repeat' split) <;> simp [-clock_fold]
  | sorrelCtrlStatus | sorrelCtrlStop | sorrelCtrlStart => exact stepsMem_serve_of_kept runSorrelCtrl_keepsKept
  | sorrelLoadExt => exact stepsMem_serve runSorrelLoadExt_stepsMem
  | portConfig =>
    refine stepsMem_serve_of_kept fun c t => ?_
    unfold runPortConfig
    split <;> simp [-clock_fold]
  | paramCommit =>
    refine stepsMem_serveWith fun c t => t.judge_stepsMem c (Act.stepsMem_of_keepsKept ?_)
    unfold runParamCommit
    (repeat' split) <;> simp [-clock_fold]
  | unknownOpcode => exact stepsMem_serveWith fun _ _ => trivial
  | factoryCommand => exact execFactoryCommand_stepsMem s _
  | _ => cases h

end Sys2Proof.Machine
end

section
/-! A Sorrel core's program against the memories: what it issues, repeats and takes up again (R448, R456). -/

namespace Sys2Proof.Machine

/-- Bytes that core `k` writes into DATA leave the memories canonical (R448). -/
theorem writeData_memStep (s : State) (k : CoreId) (a : Nat) (bytes : List Byte) : MemStep s (writeData s k a bytes) := by
  unfold writeData
  split
  · refine MemStep.modCore fun c hc => ?_
    obtain ⟨hdata, hcode⟩ := CoreSt.sound_iff.1 hc
    exact CoreSt.sound_iff.2 ⟨Memory.wf_writeAll _ _ hdata, hcode⟩
  split
  · exact .of_kept (by simp)
  split
  · dsimp only
    split
    · exact .refl s
    · exact .of_kept (by simp)
  split
  · exact .modCore_of_mem
  · exact .refl s

theorem commit_memStep (k : CoreId) (s : State) (e : Effect) : MemStep s (commit k s e) := by
  cases e with
  | reg n v | flags z n c v | qport q refused v =>
    simp only [commit]
    exact .modCore_of_mem
  | bitv b v =>
    simp only [commit]
    split
    · exact .modCore_of_mem
    split
    · exact .of_kept rfl
    · exact .refl s
  | mem a bytes => exact writeData_memStep s k a bytes

theorem foldl_commit_memStep (k : CoreId) (l : List (Nat × Effect)) (s : State) : MemStep s (l.foldl (fun t e => commit k t e.2) s) :=
  MemStep.foldl (fun t e => commit_memStep k t e.2) l s

theorem State.drain_memStep (s : State) (k : CoreId) : MemStep s (s.drain k) := by
  unfold State.drain
  exact (foldl_commit_memStep k _ s).trans .modCore_of_mem

theorem State.trap_memStep (s : State) (k : CoreId) (detail : Nat) : MemStep s (s.trap k detail) :=
  ((s.drain_memStep k).trans .modCore_of_mem).trans (.of_kept (State.raise_kept _ _))

theorem State.finish_memStep (s : State) (k : CoreId) (es : List (Nat × Effect)) (ctl : Ctl) (len : Nat) :
    MemStep s (s.finish k es ctl len) := by
  have issued := ((foldl_commit_memStep k ((s.core k).inflight.filter fun e => decide (e.1 ≤ 1)) s).trans
    (foldl_commit_memStep k (es.filter fun e => e.1 == 0) _))
  unfold State.finish
  cases ctl with
  | fall => exact issued.trans .modCore_of_mem
  | jump | callTo | retTo => exact (issued.trans .modCore_of_mem).trans .modCore_of_mem
  | done =>
    exact ((issued.trans .modCore_of_mem).trans (State.drain_memStep _ k)).trans .modCore_of_mem

theorem repRun_memStep {k : CoreId} {wait : BundleOp → Nat} {len : Nat} {ctl : Ctl} :
    ∀ {reps : List (BundleOp × Nat)} {results mine : List (Nat × Effect)} {cyc : Nat} {s u : State},
      repRun k wait len ctl reps results mine cyc s = .ok u → MemStep s u
  | [], results, _, cyc, s, _, h => by
    cases h
    exact .trans .modCore_of_mem (State.finish_memStep _ k results ctl len)
  | (b, left) :: rest, results, mine, cyc, s, u, h => by
    unfold repRun at h
    dsimp only at h
    split at h
    · cases h; exact .modCore_of_mem
    · split at h
      · cases h
      · next hit =>
        have hc := MemStep.of_kept (iterate_kept hit)
        split at h
        · cases h; exact hc.trans .modCore_of_mem
        · exact hc.trans (repRun_memStep h)

theorem State.issue_memStep (s : State) (k : CoreId) : MemStep s (s.issue k) := by
  simp only [State.issue]
  split
  · exact s.trap_memStep k 1
  split
  · exact s.trap_memStep k 2
  split
  · exact .modCore_of_mem
  split
  · exact s.trap_memStep k _
  next honce =>
    split
    · exact s.trap_memStep k _
    next hrep =>
      have run := (MemStep.of_kept ((State.drawn_kept _).trans (runOnce_kept honce))).trans (repRun_memStep hrep)
      split
      · exact ⟨rfl, id, run.cores⟩
      · exact run

theorem State.wake_memStep (s : State) (k : CoreId) : MemStep s (s.wake k) := by
  refine MemStep.foldl (fun t j => ?_) _ s
  split
  · dsimp only
    split
    · exact .trans .modCore_of_mem (State.issue_memStep _ j)
    · exact .modCore_of_mem
  · exact .refl t

/-- An operation of a core's program is a step of the memories. -/
theorem State.operate_memStep (s : State) (k : CoreId) (h : Pre) (o : SOp) : MemStep s (s.operate k h o) := by
  unfold State.operate
  dsimp only
  split
  · have joined : MemStep s (s.modCore k fun c => { c with bundle := c.bundle ++ [⟨h, o⟩] }) := .modCore_of_mem
    split
    · exact (joined.trans (State.trap_memStep _ k 1)).trans (State.wake_memStep _ k)
    split
    · exact (joined.trans (State.issue_memStep _ k)).trans (State.wake_memStep _ k)
    · exact joined
  · exact .refl s

/-- The extension's turn at beat entry clears its part of the data memory at a start. -/
theorem CoreSt.extTurn_sound {c : CoreSt} (h : c.sound = true) : c.extTurn.sound = true := by
  obtain ⟨hdata, hcode⟩ := CoreSt.sound_iff.1 h
  unfold CoreSt.extTurn
  refine CoreSt.sound_iff.2 ?_
  dsimp only
  (repeat' split) <;> first | exact ⟨Memory.wf_clear _ _ hdata, hcode⟩ | exact ⟨hdata, hcode⟩

theorem State.enterBeat_memStep (s : State) (k : CoreId) : MemStep s (s.enterBeat k) := by
  unfold State.enterBeat
  extract_lets t
  have ht : MemStep s t := .modCore fun c hc => by
    have := CoreSt.extTurn_sound hc
    dsimp only
    split <;> exact this
  split
  · exact ht
  split
  · exact ht.trans (t.trap_memStep k _)
  · next hrep => exact (ht.trans (repRun_memStep hrep)).trans (.of_kept (State.drawn_kept _))

theorem execBeatEntry_stepsMem (k : CoreId) (s : State) : stepsMem s (execBeatEntry k s) := by
  refine stepsMem_next ?_
  split
  · split
    · exact (s.enterBeat_memStep k).trans (.of_kept (State.resumeCore_kept _ k))
    · exact s.enterBeat_memStep k
  · exact .refl s

theorem execBeatOverrun_stepsMem (k : CoreId) (s : State) : stepsMem s (execBeatOverrun k s) := by
  refine stepsMem_next ?_
  split
  · exact ((s.drain_memStep k).trans .modCore_of_mem).trans (.of_kept (State.raise_kept _ _))
  · exact .refl s

theorem execRepeatPause_stepsMem (k : CoreId) (s : State) : stepsMem s (execRepeatPause k s) := by
  refine stepsMem_next ?_
  split
  · exact .modCore_of_mem
  · exact .refl s

theorem execExtensionCall_stepsMem (k : CoreId) (s : State) : stepsMem s (execExtensionCall k s) := by
  refine stepsMem_next ?_
  dsimp only
  split
  · exact (s.drain_memStep k).trans .modCore_of_mem
  · exact .refl s

theorem execIllegalOperation_stepsMem (k : CoreId) (why : IllegalWhy) (s : State) : stepsMem s (execIllegalOperation k why s) := by
  refine stepsMem_next ?_
  split
  · exact (s.trap_memStep k 1).trans (State.wake_memStep _ k)
  · exact .refl s

end Sys2Proof.Machine
end

section
/-! Power, resets, boot and the image store against the memories. -/

namespace Sys2Proof.Machine

/-! ### What a reset cuts short -/

theorem Memory.wf_tearCommit (n a : Nat) (seq : List Byte) {m : Memory} (h : Memory.wf erased m = true) :
    Memory.wf erased (m.tearCommit n a seq) = true := by
  unfold Memory.tearCommit
  dsimp only
  split
  · exact h
  · exact Memory.wf_tear _ _ _ h

theorem State.cutSnap_memStep (s : State) : MemStep s s.cutSnap := by
  unfold State.cutSnap
  split
  · exact .refl s
  split
  · exact .refl s
  · exact .trans (.modStore fun h => Memory.wf_tear _ _ _ (wf_snapErase _ h)) (.of_kept (State.drawn_kept _))

theorem State.cutOp_memStep (s : State) : MemStep s s.cutOp := by
  unfold State.cutOp
  dsimp only
  split
  · exact .refl s
  · exact .trans (.modStore fun h => Memory.wf_tornErase _ _ h) (.of_kept (State.drawn_kept _))
  · exact .modStore id
  · exact .trans (.modStore (Memory.wf_tear _ _ _)) (.of_kept (State.drawn_kept _))
  · exact .trans (.modStore (Memory.wf_tearCommit _ _ _)) (.of_kept (State.drawn_kept _))
  · exact .modStore fun h => by split <;> exact h

theorem State.cutStore_memStep (s : State) : MemStep s s.cutStore := s.cutSnap_memStep.trans (State.cutOp_memStep _)

/-! ### Power and resets -/

theorem CoreSt.reset_sound : CoreSt.reset.sound = true := rfl

theorem coresSound_reset : State.reset.coresSound = true := by
  refine State.coresSound_iff.2 fun k => ?_
  simp only [State.core, State.reset, Fin.getElem_fin, Vector.getElem_replicate]
  exact CoreSt.reset_sound

theorem State.hubReset_memStep (s : State) (cause : BitVec 3) (cold held : Bool) : MemStep s (s.hubReset cause cold held) :=
  s.cutStore_memStep.trans ⟨rfl, id, fun _ => coresSound_reset⟩

theorem State.powerOff_memStep (s : State) : MemStep s s.powerOff :=
  s.cutStore_memStep.trans ⟨rfl, id, fun _ => coresSound_reset⟩

/-- Cores given anew, each with a sound one's soundness. -/
theorem MemStep.ofFn_cores {s t : State} {f : CoreId → CoreSt} (hp : t.pending = s.pending) (hf : t.store.flash = s.store.flash)
    (hc : t.cores = Vector.ofFn f) (h : ∀ k, (s.core k).sound = true → (f k).sound = true) : MemStep s t := by
  refine ⟨hp, fun hs => by rwa [State.flashSound, hf], coresSound_of_cores fun k hk => ?_⟩
  have : t.core k = f k := by simp [State.core, hc]
  rw [this]; exact h k hk

/-- What comes back with the main domain, once its cores are there (R422), reaches no memory. -/
theorem mainJoin_kept (w : State) :
    (((List.finRange 8).drop 1).foldl (bringCluster true)
      (if w.clusterReady 0 then w.joinTrim true else bringCluster true w 0)).feedBits.yarrowBoot.wantAllocation.kept = w.kept := by
  rw [State.wantAllocation_kept, State.yarrowBoot_kept, State.feedBits_kept, bringAll_kept]
  split
  · exact State.joinTrim_kept _ true
  · exact bringCluster_kept true _ 0

theorem execMainDomainRelease_stepsMem (s : State) : stepsMem s (execMainDomainRelease s) := by
  refine stepsMem_next ?_
  dsimp only
  split
  · exact .refl s
  split
  · exact .of_kept rfl
  split
  · exact .of_kept rfl
  · refine .trans ?_ (.of_kept (mainJoin_kept _))
    exact .ofFn_cores rfl rfl rfl fun k hk => by split <;> exact hk

theorem execMainLoss_stepsMem (s : State) : stepsMem s (execMainLoss s) := by
  unfold execMainLoss
  -- the list of all ports stays opaque, for the kernel would run through it
  obtain ⟨ps, hps⟩ : ∃ ps, allPorts = ps := ⟨_, rfl⟩
  rw [hps]
  refine stepsMem_next ?_
  split
  · exact s.powerOff_memStep
  split
  · extract_lets b t u v _ _ _ _ _ _ _ w y
    have hv : MemStep s v := .of_kept ((State.poolLoss_kept u).trans
      ((foldl_kept _ (fun t p => t.updPort_kept p _) _ _).trans (State.quietPorts_kept _ _)))
    have hw : MemStep v w := .ofFn_cores rfl rfl rfl fun k hk => by
      split
      · exact hk
      · rfl
    have hy : MemStep w y := .of_kept ((State.budgetReady_kept _).trans (w.clearReady_kept _))
    have hr : MemStep y (if y.hubRuns then y.raise (devRaise 18 0 0) else y) := .of_kept (by split <;> simp)
    exact ((hv.trans hw).trans hy).trans hr
  · exact .refl s

theorem execServiceDomainPowerOff_stepsMem (s : State) : stepsMem s (execServiceDomainPowerOff s) := by
  refine stepsMem_next ?_
  split
  · exact s.powerOff_memStep
  · exact .refl s

theorem execServiceDomainPowerOn_stepsMem (held testen edges : Bool) (s : State) : stepsMem s (execServiceDomainPowerOn held testen edges s) := by
  refine stepsMem_next ?_
  dsimp only
  (repeat' split) <;> exact ⟨rfl, id, id⟩

theorem execResetNAssert_stepsMem (s : State) : stepsMem s (execResetNAssert s) := by
  refine stepsMem_next ?_
  split
  · exact .refl s
  split
  · exact s.hubReset_memStep _ _ _
  · exact ⟨rfl, id, id⟩

theorem execResetDeferredStart_stepsMem (s : State) : stepsMem s (execResetDeferredStart s) := by
  refine stepsMem_next ?_
  split
  · exact .refl s
  split
  · exact s.hubReset_memStep _ _ _
  · exact .refl s

/-- The beat's slot 0 keeps the memories beside the counter that it moves. -/
theorem execBeat_stepsMem (s : State) : stepsMem s (execBeat s) := by
  refine stepsMem_next ?_
  split
  · exact .trans (.modBoard s fun b => { b with beat := b.beat + 1 }) (.of_kept s.nextBeat_kept)
  · exact .refl s

@[simp] theorem Store.setVerdict_flash (t : Store) (b ok : Bool) : (t.setVerdict b ok).flash = t.flash := by
  unfold Store.setVerdict; split <;> rfl

/-- The ROM's choice of a slot notes verdicts beside the flash. -/
theorem Store.choose_flash (t : Store) (revoked : BitVec 4) : (t.choose revoked).2.1.flash = t.flash := by
  unfold Store.choose
  dsimp only
  (repeat' split) <;> simp only [Store.setVerdict_flash]

theorem execBootRomStart_stepsMem (s : State) : stepsMem s (execBootRomStart s) := by
  refine stepsMem_next ?_
  dsimp only
  split
  · split
    · exact .of_kept ((State.setReady_kept _ _).trans (State.report_kept _))
    · refine .trans (t := { s with store := (s.store.choose s.dev.keyRevoked).2.1 }) ⟨rfl, fun h => ?_, id⟩ (.of_kept ?_)
      · exact (congrArg (Memory.wf erased) (Store.choose_flash _ _)).trans h
      · split <;> simp [-clock_fold]
  · exact .refl s

/-! ### The image store -/

theorem execSnapshotWrite_stepsMem (ok : Bool) (s : State) : stepsMem s (execSnapshotWrite ok s) := by
  refine stepsMem_next ?_
  split
  · exact .refl s
  split
  · exact .refl s
  split
  · exact .of_kept (by simp)
  dsimp only
  split
  · exact .trans (.of_kept (by simp)) (.modStore fun h => Memory.wf_program _ _ (wf_snapErase _ h))
  · exact .trans (.of_kept (State.modFaults_kept _ _))
      (.of_modStore ((State.raise_kept ..).trans (State.drawn_kept _)) fun h => Memory.wf_tear _ _ _ (wf_snapErase _ h))

theorem execImageEraseComplete_stepsMem (ok : Bool) (s : State) : stepsMem s (execImageEraseComplete ok s) := by
  refine stepsMem_next ?_
  split
  · dsimp only
    split
    · exact .refl s
    split
    · exact .of_modStore (State.complete_kept ..) fun h => Memory.wf_clear _ _ h
    · exact .of_modStore ((State.complete_kept ..).trans (State.drawn_kept _)) fun h => Memory.wf_tornErase _ _ h
  · exact .refl s

theorem execImageDataReadBack_stepsMem (ok : Bool) (s : State) : stepsMem s (execImageDataReadBack ok s) := by
  refine stepsMem_next ?_
  split
  · dsimp only
    split
    · exact .refl s
    split
    · exact .of_modStore (State.replyHeld_kept ..) fun h => Memory.wf_program _ _ h
    split
    · exact .of_modStore (State.replyHeld_kept ..) fun h => Memory.wf_program _ _ h
    · exact .of_modStore ((State.replyHeld_kept ..).trans (State.drawn_kept _)) fun h => Memory.wf_tear _ _ _ h
  · exact .refl s

theorem execImageVerifyComplete_stepsMem (s : State) : stepsMem s (execImageVerifyComplete s) := by
  refine stepsMem_next ?_
  split
  · dsimp only
    split
    · exact .refl s
    · exact .of_modStore (State.complete_kept ..) fun h => (congrArg (Memory.wf erased) (Store.setVerdict_flash _ _ _)).trans h
  · exact .refl s

/-- A configuration generation is a record beside the flash (log 16). -/
theorem execParamCommitComplete_stepsMem (ok : Bool) (s : State) : stepsMem s (execParamCommitComplete ok s) := by
  refine stepsMem_next ?_
  split
  · dsimp only
    split
    · exact .refl s
    split
    · exact .of_modStore (State.complete_kept ..) fun h => by split <;> exact h
    · exact .of_modStore ((State.raise_kept ..).trans ((State.complete_kept ..).trans (State.drawn_kept _))) fun h => by
        split <;> exact h
  · exact .refl s

theorem execImageCommitProgrammed_stepsMem (ok : Bool) (s : State) : stepsMem s (execImageCommitProgrammed ok s) := by
  refine stepsMem_next ?_
  split
  · dsimp only
    split
    · exact .refl s
    split
    · split
      · refine .trans ?_ (.modBoard _ _)
        exact .of_modStore (State.replyHeld_kept ..) fun h => Memory.wf_program _ _ h
      · exact .of_modStore (State.replyHeld_kept ..) fun h => Memory.wf_program _ _ h
    split
    · exact .of_modStore (State.replyHeld_kept ..) fun h => Memory.wf_program _ _ h
    · exact .of_modStore ((State.replyHeld_kept ..).trans (State.drawn_kept _)) (Memory.wf_tearCommit _ _ _)
  · exact .refl s

end Sys2Proof.Machine
end

section
/-! Every command is a step of the memories. -/

namespace Sys2Proof.Machine

/-- What is canonical in a first state is so in a second: the flash, and the core memories. -/
structure KeepsSound (s t : State) : Prop where
  flash : s.flashSound = true → t.flashSound = true
  cores : s.coresSound = true → t.coresSound = true

theorem State.takeFrame_kept {s : State} {y : YPort} {n : Nat} {f : YFrame → State → State} (h : ∀ fr t, (f fr t).kept = t.kept) :
    (s.takeFrame y n f).kept = s.kept := by
  unfold State.takeFrame
  (repeat' split) <;> simp [h]

theorem execRefLoss_stepsMem (s : State) : stepsMem s (execRefLoss s) := by
  unfold execRefLoss
  -- the list of all ports stays opaque, for the kernel would run through it
  obtain ⟨ps, hps⟩ : ∃ ps, allPorts = ps := ⟨_, rfl⟩
  rw [hps]
  refine stepsMem_of_kept ?_
  dsimp only
  (repeat' split) <;> simp [-clock_fold]

/-- What neither a port carries out nor a stream brings is a step of the memories. -/
theorem exec_stepsMem_of_rest {c : Instr} (h : (c.onPort || c.isServed) = false) (s : State) : stepsMem s (exec c s) := by
  cases c with
  | add | adc | sub | sbc | and | or | xor | andn | shl | shr | sar | rol | ror | mul | mulh | mulhu | div | divu | rem | remu | neg |
      not | cmp | tst | min | max | abs | clz | set | clr | inv | tset | btst | bst | bmov | mov | movz | movs | lea | push | pop | nop
    | qopen | qpush | qend | qabort | qpop | br | bz | bnz | bc | bnc | bn | bnn | bv | bnv | bslt | bsge | bsle | bsgt | bule | bugt
    | bb1 | bb0 | loop | call | ret | beatend =>
    exact stepsMem_next (s.operate_memStep _ _ _)
  | link | idAssign | heartbeat | elect | report | grant | fwdCmd | fwdReply =>
    refine stepsMem_of_kept (State.takeFrame_kept fun fr t => ?_)
    try dsimp only
    (repeat' split) <;> simp
  | clusterTrimComplete =>
    refine stepsMem_of_kept ?_
    dsimp only
    (repeat' split) <;> simp [foldl_kept]
  | refRestored =>
    refine stepsMem_of_kept ?_
    (repeat' split) <;> simp [-clock_fold, bringAll_kept]
  | refLoss => exact execRefLoss_stepsMem s
  | mainDomainRelease => exact execMainDomainRelease_stepsMem s
  | bootRomStart => exact execBootRomStart_stepsMem s
  | mainLoss => exact execMainLoss_stepsMem s
  | serviceDomainPowerOn => exact execServiceDomainPowerOn_stepsMem _ _ _ s
  | serviceDomainPowerOff => exact execServiceDomainPowerOff_stepsMem s
  | resetNAssert => exact execResetNAssert_stepsMem s
  | resetDeferredStart => exact execResetDeferredStart_stepsMem s
  | beat => exact execBeat_stepsMem s
  | snapshotWrite => exact execSnapshotWrite_stepsMem _ s
  | imageEraseComplete => exact execImageEraseComplete_stepsMem _ s
  | imageDataReadBack => exact execImageDataReadBack_stepsMem _ s
  | imageCommitProgrammed => exact execImageCommitProgrammed_stepsMem _ s
  | imageVerifyComplete => exact execImageVerifyComplete_stepsMem s
  | paramCommitComplete => exact execParamCommitComplete_stepsMem _ s
  | beatEntry => exact execBeatEntry_stepsMem _ s
  | beatOverrun => exact execBeatOverrun_stepsMem _ s
  | repeatPause => exact execRepeatPause_stepsMem _ s
  | extensionCall => exact execExtensionCall_stepsMem _ s
  | illegalOperation k why => exact execIllegalOperation_stepsMem k why s
  | read | feedGuardStart | feedGuardStop | resetNRelease | afeLink | afeLinkRestore |
      feedLinkLost | feedLinkUp | trunkValueDelivery | monBlanked | gateFullyOn | gateBelowOff | feedVinWindow | insertionDelayExpiry |
      bbmExpiry | changeoverGateTimeout | feedRampTimeout | pgQualExpiry | feedLimitStart | feedFaultTimerExpiry | feedFaultTimerClear |
      feedFastTrip | feedOvertemp | feedCoolExpiry | noFeedOn | brownoutEnter | brownoutExit | budgetAllocation | dieTemp | write |
      status | unknownTypeByte | queueFlushAct | yarrowFrameReceive | yarrowTransmitStart | linkSend | yarrowLink | heartbeatSend |
      heartbeatMissed | listenWindowEnd | electWindowEnd | reportSend | ledgerScan | ledgerStale | forwardTimeout | seqSourceExpiry |
      quarantineScanEnd | coalescingEnd | feedTemperatureRelease =>
    refine stepsMem_of_kept ?_
    try dsimp only
    (repeat' split) <;> simp [-clock_fold]
  | _ => cases h

/-- Every command is a step of the memories. -/
theorem exec_stepsMem (c : Instr) (s : State) : stepsMem s (exec c s) := by
  by_cases hp : c.onPort = true
  · exact ⟨fun t ht => .of_kept (exec_kept_of_onPort hp ht)⟩
  by_cases hs : c.isServed = true
  · exact exec_stepsMem_of_isServed hs s
  · exact exec_stepsMem_of_rest (by simp [hp, hs]) s

theorem step_of_nil {s : State} (h : s.pending = []) : step s = .next s := by
  unfold step; rw [h]

theorem step_of_cons {s : State} {c : Instr} {rest : List Instr} (h : s.pending = c :: rest) :
    step s = exec c { s with pending := rest } := by
  unfold step; rw [h]

/-- A step keeps memories that are in canonical form so. -/
theorem step_sound {s t : State} (h : step s = .next t) : KeepsSound s t := by
  cases hp : s.pending with
  | nil =>
    rw [step_of_nil hp] at h
    cases h
    exact ⟨id, id⟩
  | cons c rest =>
    rw [step_of_cons hp] at h
    obtain ⟨-, hflash, hcores⟩ := (exec_stepsMem c _).reaches t h
    exact ⟨hflash, hcores⟩

end Sys2Proof.Machine
end

section
/-! O1, O3, O4, O5 and O6, settled. -/

namespace Sys2Proof
open Machine

/-- Settles O1: `step` runs the front command. -/
theorem stepRunsFront : Obligations.StepRunsFront := by
  unfold Obligations.StepRunsFront
  exact fun _ _ _ => step_of_cons

/-- Settles O3: no flash is programmed, and every core is the same fresh one. -/
theorem resetSound : Obligations.ResetSound := by
  unfold Obligations.ResetSound
  exact ⟨Memory.wf_nil, coresSound_reset⟩

/-- Settles O4: every command is a step of the memories, which keeps a canonical flash canonical. -/
theorem stepKeepsFlashSound : Obligations.StepKeepsFlashSound := by
  unfold Obligations.StepKeepsFlashSound
  exact fun _ _ hs h => (step_sound h).flash hs

/-- Settles O5: every command is a step of the memories, which keeps canonical core memories canonical. -/
theorem stepKeepsCoresSound : Obligations.StepKeepsCoresSound := by
  unfold Obligations.StepKeepsCoresSound
  exact fun _ _ hs h => (step_sound h).cores hs

/-- Settles O6: every command is a step of the memories, which leaves the command queue. -/
theorem queueOrder : Obligations.QueueOrder := by
  unfold Obligations.QueueOrder
  exact ⟨fun c rest s t hp h => ((exec_stepsMem c _).reaches t ((step_of_cons hp).symm.trans h)).pending, fun _ => step_of_nil⟩

end Sys2Proof
end

section
/-! The state after reset, field by field of what is kept in vectors, and a command whose outcome is known. -/

namespace Sys2Proof.Machine

/-- A command's outcome, and what holds of it. -/
theorem gives_of_exec {i : Instr} {s t : State} {Q : State → Prop} (h : exec i s = .next t) (q : Q t) : gives i s Q := ⟨t, h, q⟩

/-! ### The state after reset -/

/-- P0–P3 differ from the other ports at reset in what they present alone (R116). -/
theorem State.reset_port (p : PortId) :
    State.reset.port p = Port.reset ∨ State.reset.port p = { Port.reset with tc := { TypeC.reset with pres1 := .clamp, pres2 := .clamp } } := by
  have h : State.reset.port p = Port.resetOf p := by simp [State.port, State.reset]
  rw [h]
  unfold Port.resetOf
  split
  · exact .inr rfl
  · exact .inl rfl

@[simp] theorem State.reset_core (k : CoreId) : State.reset.core k = CoreSt.reset := by
  simp [State.core, State.reset]

@[simp] theorem State.reset_queue (q : QueueId) : State.reset.pool.queues[q] = Queue.reset q.val := by
  simp [State.reset, Pool.reset]

theorem Port.reset_ctxOf (t : Tgt) : Port.reset.ctxOf t = Ctx.reset := by
  cases t <;> rfl

end Sys2Proof.Machine
end

section
/-! O2, settled. -/

namespace Sys2Proof
open Machine

/-- Settles O2: every port, queue and core of the reset state is a fresh one, and the rest is read off. -/
theorem resetState : Obligations.ResetState := by
  unfold Obligations.ResetState
  refine ⟨rfl, rfl, rfl, fun p => ?_, fun p t => ?_, fun q => ?_, fun n => ?_, rfl, fun k => ?_, rfl, rfl⟩
  · obtain h | h := State.reset_port p <;> rw [h] <;> exact ⟨rfl, rfl, rfl, rfl, rfl, rfl⟩
  · have hctx : (State.reset.port p).ctxOf t = Ctx.reset := by
      obtain h | h := State.reset_port p <;> rw [h]
      · exact Port.reset_ctxOf t
      · exact Port.reset_ctxOf t
    rw [hctx]
    exact ⟨rfl, rfl⟩
  · rw [State.reset_queue]
    exact ⟨rfl, rfl⟩
  · exact BitVec.getLsbD_zero
  · rw [State.reset_core]
    exact ⟨rfl, rfl, rfl⟩

end Sys2Proof
end

section
/-! O8, refuted: a lapsed message whose cells fail parity raises POOL_PARITY when the firmware of another port drops it (R25, R438). -/

namespace Sys2Proof.Machine

/-- A module that runs, POOL_PARITY at DEVICE_SAFE, in which a message for P0 stands in the RX queue of C0: it has lapsed, its epoch no longer
the context's, and a word of its cells fails parity. -/
def lapsedParity : State :=
  { State.reset with
    board := { Board.reset with svcOn := true, mainOn := true, afeLink := Vector.replicate 4 true }
    dev := { Dev.reset with ready0 := 0x007FFFFF#32 }
    ports := (Vector.ofFn Port.resetOf).map fun x => { x with tc := { x.tc with st := .unattachedSrc } }
    pool := Pool.reset.modQ (qRx 0) fun q => { q with closed := [{ mkPacket Pool.reset (.rx 0 .sop 5 0) [] with flaw := .parity }] }
    faults := { Faults.reset with sev := Vector.replicate 256 3 } }

/-- What a command leaves at P1 shows that it has been quieted. -/
def mutesP1 (o : Host.Outcome State Fault Refusal) : Bool :=
  match o with
  | .next t => (t.port 1).tc.mute
  | _ => false

/-- REQUEST of P0 finds no message to act on and drops the lapsed one: DEVICE_SAFE quiets P1 with every other port. -/
theorem exec_request_lapsedParity_mutesP1 : mutesP1 (exec (.request 0) lapsedParity) = true := by decide +kernel

theorem lapsedParity_port1_mute : (lapsedParity.port 1).tc.mute = false := by decide +kernel

end Sys2Proof.Machine
end

section
/-! O8, settled. -/

namespace Sys2Proof
open Machine

/-- Refutes O8: REQUEST is a command of P0 alone by `Instr.portAlone`, but a lapsed message of P0 that fails parity, which it drops, raises
POOL_PARITY, and with that source at DEVICE_SAFE the reaction quiets P1. -/
theorem not_portCommandsFrame : ¬ Obligations.PortCommandsFrame := by
  unfold Obligations.PortCommandsFrame
  rintro ⟨-, halone⟩
  have hmute := exec_request_lapsedParity_mutesP1
  cases he : exec (.request 0) lapsedParity with
  | next t =>
    rw [he] at hmute
    have hport : t.port 1 = lapsedParity.port 1 := halone (.request 0) 0 1 _ t rfl (by decide) he
    rw [mutesP1, hport, lapsedParity_port1_mute] at hmute
    cases hmute
  | fault r | refused r =>
    rw [he] at hmute
    cases hmute

end Sys2Proof
end

section
/-! Power of the service domain and resets of the hub die (R29, R41, R62, R77, R79, R497). -/

namespace Sys2Proof.Machine

/-! ### Power of the service domain -/

theorem execServiceDomainPowerOn_of_off {s : State} {held : Bool} (hs : s.board.svcOn = false) (hp : held = true ∨ s.board.mainOn = true)
    (testen edges : Bool) :
    execServiceDomainPowerOn held testen edges s = .next
      { s with
        board := { s.board with svcOn := true, vsvcGood := held, testen := testen, refExternal := edges, holdover := false
                                beat := 0, passIdx := 0, oddPass := false, bootPending := true, cause := 0
                                afeLink := Vector.ofFn fun d => s.board.mainOn || d.val == 0 }
        clusters := Vector.ofFn fun c => { s.clusters[c] with senLow := !s.board.resetLow && (s.board.mainOn || c.val == 0) } } :=
  congrArg Host.Outcome.next (if_pos (by rcases hp with h | h <;> simp [hs, h]))

theorem execServiceDomainPowerOn_of_on {s : State} (hs : s.board.svcOn = true) (testen edges : Bool) :
    execServiceDomainPowerOn true testen edges s = .next (s.modBoard fun b => { b with vsvcGood := true }) := by
  unfold execServiceDomainPowerOn
  rw [if_neg (by simp [hs]), if_pos (by simp [hs])]

theorem execServiceDomainPowerOff_of_on {s : State} (hs : s.board.svcOn = true) : execServiceDomainPowerOff s = .next s.powerOff :=
  congrArg Host.Outcome.next (if_pos hs)

theorem State.powerOff_dev (s : State) : s.powerOff.dev = { Dev.reset with keyRevoked := s.dev.keyRevoked } := by
  simp [State.powerOff]

theorem State.powerOff_feed (s : State) : s.powerOff.feed = { s.feed.hubForget with linkUp := false, brownout := false } := by
  simp [State.powerOff]

/-- Where no operation and no snapshot is under way the store stays through the loss of power. -/
theorem State.powerOff_store (s : State) (hop : s.store.op = none) (hsnap : s.faults.snap = []) : s.powerOff.store = s.store := by
  simp [State.powerOff, State.cutStore_of_none hop hsnap]

end Sys2Proof.Machine
end

section
/-! O10, settled. -/

namespace Sys2Proof
open Machine

/-- Settles O10: the three commands' next states are written out, and what a reset cuts short is nothing where nothing is under way. -/
theorem servicePower : Obligations.ServicePower := by
  unfold Obligations.ServicePower
  refine ⟨fun held testen edges s hs hp => ?_, fun testen edges s hs => ?_, fun s hs => ?_⟩
  · refine gives_of_exec (execServiceDomainPowerOn_of_off hs hp testen edges) ?_
    simp
  · exact execServiceDomainPowerOn_of_on hs testen edges
  · refine gives_of_exec (execServiceDomainPowerOff_of_on hs) ?_
    rw [State.powerOff_dev, State.powerOff_feed]
    exact ⟨rfl, rfl, rfl, rfl, rfl, s.cutStore_op, rfl, rfl, rfl, rfl, rfl, rfl, rfl, rfl, rfl, rfl, rfl, fun ⟨hop, hsnap⟩ =>
      s.powerOff_store hop hsnap⟩

end Sys2Proof
end

section
/-! What a reset of the hub die leaves (R77, R79, R98, R100). -/

namespace Sys2Proof.Machine

theorem State.hubReset_port (s : State) (cause : BitVec 3) (cold held : Bool) (p : PortId) :
    (s.hubReset cause cold held).port p = (s.port p).hubReset (isService p) cold held s.now := by
  simp [State.port, State.hubReset, State.now]

theorem State.hubReset_cluster (s : State) (cause : BitVec 3) (cold held : Bool) (c : ClusterId) :
    (s.hubReset cause cold held).cluster c
      = (s.cluster c).hubReset cold (!held && (s.cutStore.board.mainOn || c.val == 0)) s.now := by
  simp [State.cluster, State.hubReset, State.now]

/-! ### A port after the reset -/

section
variable (svc held : Bool) (x : Port)

@[simp] theorem Port.presentHeld_st : (x.presentHeld svc held).tc.st = x.tc.st := by unfold Port.presentHeld; split <;> rfl
@[simp] theorem Port.presentHeld_pReady : (x.presentHeld svc held).tc.pReady = x.tc.pReady := by unfold Port.presentHeld; split <;> rfl
@[simp] theorem Port.presentHeld_harn : (x.presentHeld svc held).harn = x.harn := by unfold Port.presentHeld; split <;> rfl
@[simp] theorem Port.presentHeld_ctx : (x.presentHeld svc held).ctx = x.ctx := by unfold Port.presentHeld; split <;> rfl
@[simp] theorem Port.presentHeld_stage : (x.presentHeld svc held).stage = x.stage := by unfold Port.presentHeld; split <;> rfl
@[simp] theorem Port.presentHeld_guard : (x.presentHeld svc held).guard = x.guard := by unfold Port.presentHeld; split <;> rfl

end

@[simp] theorem Port.hubReset_st (svc cold held : Bool) (b : Beat) (x : Port) : (x.hubReset svc cold held b).tc.st
    = if !cold && (x.tc.st == .calFailed || x.tc.st == .lockout) then x.tc.st else .disabled := by
  cases cold <;> simp [Port.hubReset, TypeC.keep, TypeC.reset, Tc.kept]

/-- A port in defined idle, its P bit clear and its contexts at reset. -/
structure Port.atRest (x : Port) : Prop where
  pReady : x.tc.pReady = false
  gateOn : x.guard.gateOn = false
  mode : x.stage.mode = .idle
  ctx : x.ctx = Port.reset.ctx

/-- A hub reset leaves the port at rest. -/
theorem Port.hubReset_atRest (svc cold held : Bool) (b : Beat) (x : Port) : (x.hubReset svc cold held b).atRest := by
  cases cold <;> constructor <;> simp [Port.hubReset, TypeC.keep, TypeC.reset, Guard.reset, Stage.reset]

/-- The kept results of harness calibration are in force after a reset that keeps them. -/
theorem Harness.atReset_keep (st : Tc) (h : Harness) :
    (h.atReset st).keep2 = h.keep2 ∧ (h.atReset st).keep3 = h.keep3 ∧ (h.atReset st).keep4a = h.keep4a ∧ (h.atReset st).keep4b = h.keep4b := by
  unfold Harness.atReset
  split
  · exact ⟨rfl, rfl, rfl, rfl⟩
  · exact ⟨rfl, rfl, rfl, rfl⟩

theorem Port.hubReset_keep (svc held : Bool) (b : Beat) (x : Port) :
    (x.hubReset svc false held b).harn.keep2 = x.harn.keep2 ∧ (x.hubReset svc false held b).harn.keep3 = x.harn.keep3
      ∧ (x.hubReset svc false held b).harn.keep4a = x.harn.keep4a ∧ (x.hubReset svc false held b).harn.keep4b = x.harn.keep4b := by
  simp [Port.hubReset, Harness.atReset_keep]

theorem Port.hubReset_cold_harn (svc held : Bool) (b : Beat) (x : Port) : (x.hubReset svc true held b).harn = Harness.reset := by
  simp [Port.hubReset]

/-! ### A cluster after the reset -/

theorem Cluster.hubReset_trimmed (sen : Bool) (b : Beat) (k : Cluster) : (k.hubReset false sen b).trimmed = k.trimmed := rfl

theorem Cluster.hubReset_cold_trimmed (sen : Bool) (b : Beat) (k : Cluster) : (k.hubReset true sen b).trimmed = false := rfl

/-! ### The block after the reset -/

theorem State.hubReset_feed (s : State) (cause : BitVec 3) (cold held : Bool) :
    (s.hubReset cause cold held).feed = if held then { s.feed.hubForget with linkUp := false } else s.feed.hubForget := by
  simp [State.hubReset]

theorem State.hubReset_dev (s : State) (cause : BitVec 3) (cold held : Bool) :
    (s.hubReset cause cold held).dev.keyRevoked = s.dev.keyRevoked ∧ (s.hubReset cause cold held).dev.ready0 = 0 := by
  simp [State.hubReset, Dev.reset]

/-- The kept results of harness calibration stay where the reset is no COLD_REQ (R100). -/
theorem State.hubReset_keep (s : State) (cause : BitVec 3) (held : Bool) (p : PortId) :
    ((s.hubReset cause false held).port p).harn.keep2 = (s.port p).harn.keep2
      ∧ ((s.hubReset cause false held).port p).harn.keep3 = (s.port p).harn.keep3
      ∧ ((s.hubReset cause false held).port p).harn.keep4a = (s.port p).harn.keep4a
      ∧ ((s.hubReset cause false held).port p).harn.keep4b = (s.port p).harn.keep4b := by
  rw [State.hubReset_port]
  exact (s.port p).hubReset_keep (isService p) held s.now

theorem State.hubReset_trimmed (s : State) (cause : BitVec 3) (held : Bool) (c : ClusterId) :
    ((s.hubReset cause false held).cluster c).trimmed = (s.cluster c).trimmed := by
  rw [State.hubReset_cluster, Cluster.hubReset_trimmed]

theorem State.hubReset_store (s : State) (cause : BitVec 3) (cold held : Bool) :
    (s.store.op = none ∧ s.faults.snap = [] → (s.hubReset cause cold held).store = s.store)
      ∧ (s.hubReset cause cold held).store.op = none := by
  refine ⟨fun ⟨hop, hsnap⟩ => ?_, s.cutStore_op⟩
  simp [State.hubReset, State.cutStore_of_none hop hsnap]

/-- A hub reset of any cause leaves what `State.resetBy` names; it is a cold one exactly at cause 3. -/
theorem State.hubReset_resetBy (s : State) {cause : BitVec 3} {cold : Bool} (hc : (cause != 3) = !cold) (held : Bool) :
    State.resetBy cause s (s.hubReset cause cold held) := by
  obtain ⟨hkey, hready⟩ := s.hubReset_dev cause cold held
  obtain ⟨hstore, hop⟩ := s.hubReset_store cause cold held
  have hports (p : PortId) := (s.port p).hubReset_atRest (isService p) cold held s.now
  refine ⟨s.cutStore_beat, rfl, rfl, rfl, hready, hkey, rfl, rfl, rfl, rfl, rfl, rfl, rfl, rfl, ?_, ?_, ?_, ?_, fun p => ?_, hstore, hop⟩
  case refine_5 =>
    rw [State.hubReset_port, Port.hubReset_st, hc]
    exact ⟨rfl, (hports p).pReady, (hports p).gateOn, (hports p).mode, (hports p).ctx⟩
  all_goals
    rw [State.hubReset_feed]
    cases held <;> rfl

end Sys2Proof.Machine
end

section
/-! The commands that reset the hub die (R77–R79). -/

namespace Sys2Proof.Machine

theorem execResetNAssert_of_on {s : State} (hlow : s.board.resetLow = false) (hon : s.board.svcOn = true) :
    execResetNAssert s = .next (s.hubReset 1 false true) := by
  unfold execResetNAssert
  rw [if_neg (by simp [hlow]), if_pos hon]

theorem execResetNAssert_of_off {s : State} (hlow : s.board.resetLow = false) (hoff : s.board.svcOn = false) :
    execResetNAssert s = .next { s with board := { s.board with resetLow := true } } := by
  unfold execResetNAssert
  rw [if_neg (by simp [hlow]), if_neg (by simp [hoff])]
  rfl

theorem execResetNRelease_of_low {s : State} (hlow : s.board.resetLow = true) :
    execResetNRelease s = .next
      { s.modBoard (fun b => { b with resetLow := false }) with
        ports := Vector.ofFn fun p => s.ports[p].present (isService p)
        clusters := Vector.ofFn fun c =>
          if s.board.svcOn && (s.board.mainOn || c.val == 0) then { s.clusters[c] with senLow := true, senBeat := s.now } else s.clusters[c] } := by
  unfold execResetNRelease
  rw [if_pos hlow]
  simp [State.senDriven, State.now]

theorem execResetDeferredStart_of_due {s : State} {r : ResetReq} (hr : s.board.resetReq = some r)
    (hdue : r.read = true ∨ 25000 ≤ Beat.since s.now r.queued) :
    execResetDeferredStart s = .next (s.hubReset (if r.cold then 3 else 2) r.cold false) := by
  unfold execResetDeferredStart
  rw [hr]
  dsimp only
  rw [if_pos (by rcases hdue with h | h <;> simp [h])]

theorem execResetDeferredStart_of_warm {s : State} {r : ResetReq} (hr : s.board.resetReq = some r) (hcold : r.cold = false)
    (hdue : r.read = true ∨ 25000 ≤ Beat.since s.now r.queued) : execResetDeferredStart s = .next (s.hubReset 2 false false) := by
  rw [execResetDeferredStart_of_due hr hdue, hcold, if_neg Bool.false_ne_true]

theorem execResetDeferredStart_of_cold {s : State} {r : ResetReq} (hr : s.board.resetReq = some r) (hcold : r.cold = true)
    (hdue : r.read = true ∨ 25000 ≤ Beat.since s.now r.queued) : execResetDeferredStart s = .next (s.hubReset 3 true false) := by
  rw [execResetDeferredStart_of_due hr hdue, hcold, if_pos rfl]

end Sys2Proof.Machine
end

section
/-! O11, settled. -/

namespace Sys2Proof
open Machine

/-- Settles O11: RESET_N and the deferred start are hub resets, of which `State.hubReset_resetBy` says what they leave. -/
theorem resets : Obligations.Resets := by
  unfold Obligations.Resets
  refine ⟨fun s hlow hon => ?_, fun s hlow hoff => ?_, fun s hlow => ?_, fun r s hr hcold hdue => ?_, fun r s hr hcold hdue => ?_⟩
  · refine gives_of_exec (execResetNAssert_of_on hlow hon) ?_
    have h := s.hubReset_resetBy (cause := 1) (cold := false) rfl true
    exact ⟨rfl, rfl, s.cutStore_beat, rfl, h, rfl, s.hubReset_keep 1 true, s.hubReset_trimmed 1 true⟩
  · exact execResetNAssert_of_off hlow hoff
  · refine gives_of_exec (execResetNRelease_of_low hlow) ⟨rfl, rfl, fun hon c hc => ?_, fun p => ?_, rfl, rfl, rfl⟩
    · rcases hc with hc | rfl <;> simp_all [State.cluster]
    · simp [State.port]
  · refine gives_of_exec (execResetDeferredStart_of_warm hr hcold hdue) ?_
    have h := s.hubReset_resetBy (cause := 2) (cold := false) rfl false
    exact ⟨rfl, h, s.hubReset_keep 2 false, s.hubReset_trimmed 2 false⟩
  · refine gives_of_exec (execResetDeferredStart_of_cold hr hcold hdue) ?_
    have h := s.hubReset_resetBy (cause := 3) (cold := true) rfl false
    refine ⟨rfl, fun c => ?_, h, fun p => ?_⟩
    · rw [State.hubReset_cluster, Cluster.hubReset_cold_trimmed]
    · rw [State.hubReset_port, Port.hubReset_cold_harn]

end Sys2Proof
end

section
/-! O38, refuted: a stage that has counted a fifth bad beat has reported already (R280). -/

namespace Sys2Proof.Machine

/-- P0's stage runs, its undervoltage counted five times: the report of the fourth has gone. -/
def uvReported : State :=
  { State.reset with
    ports := Vector.replicate 96
      { Port.reset with stage := { Stage.reset with mode := .forward, runs := { Stage.reset.runs with uv := 5 } } } }

theorem exec_stageUv_uvReported : exec (.stageUv 0) uvReported = .next uvReported := rfl

end Sys2Proof.Machine
end

section
/-! O38, settled. -/

namespace Sys2Proof
open Machine

/-- Refutes O38: STAGE_UV acts on the fourth bad beat and on no later one, so that with five counted the stage runs on. -/
theorem not_stageConditions : ¬ Obligations.StageConditions := by
  unfold Obligations.StageConditions
  rintro ⟨-, -, huv, -⟩
  obtain ⟨t, he, -, hidle, -⟩ := huv 0 uvReported (by decide) (by decide)
  rw [exec_stageUv_uvReported] at he
  cases he
  exact absurd hidle (by decide)

end Sys2Proof
end

section
/-! O40, refuted: a feed that latched without reporting its gate off keeps the other gate off, BBM or not (R307). -/

namespace Sys2Proof.Machine

/-- Feed A has latched without BELOW_OFF in time, which it reports by now; a changeover to B, in STANDBY, waits for BBM alone. -/
def stuckChangeover : State :=
  { State.reset with
    feed := { FeedDie.reset with
      on := true, change := some ⟨.a, true, false⟩
      a := { FeedState.reset with st := .latched, stuck := true }
      b := { FeedState.reset with st := .standby } } }

/-- The gate of feed B after a command. -/
def gateOfB (o : Host.Outcome State Fault Refusal) : Bool :=
  match o with
  | .next t => t.feed.b.gateOn
  | _ => false

theorem exec_bbmExpiry_stuckChangeover : gateOfB (exec (.bbmExpiry 1023) stuckChangeover) = false := by decide +kernel

end Sys2Proof.Machine
end

section
/-! O40, settled. -/

namespace Sys2Proof
open Machine

/-- Refutes O40: at the end of BBM the feed selected does not ramp while the other is stuck, which the clause leaves open. -/
theorem not_feeds : ¬ Obligations.Feeds := by
  unfold Obligations.Feeds
  rintro ⟨-, -, -, -, -, -, hbbm, -⟩
  obtain ⟨t, he, -, -, hgate, -⟩ := hbbm 1023 ⟨.a, true, false⟩ .b stuckChangeover rfl rfl rfl (by decide) (by decide) rfl rfl rfl rfl
  have hoff := exec_bbmExpiry_stuckChangeover
  rw [he] at hoff
  exact absurd (hoff.symm.trans hgate) (by decide)

end Sys2Proof
end

section
/-! O49, refuted: FEED_RELEASE also ends the hold of a feed that latched without reporting its gate off (R305, R307). -/

namespace Sys2Proof.Machine

/-- FEED_CONFIG with the release of feed A alone, from the host. -/
def releaseA : Packet := mkPacket Pool.reset (.cmd false) [0x5B#8, 1, 0, 0, 0x7F#8, 0, 4#8, 0, 2#8, 0, 0, 0]

/-- A module that runs, in which the command waits in Q0 and feed A has latched without BELOW_OFF in time. -/
def stuckRelease : State :=
  { State.reset with
    board := { Board.reset with svcOn := true, mainOn := true, afeLink := Vector.replicate 4 true }
    dev := { Dev.reset with ready0 := 0x00FFFFFF#32 }
    pool := { Pool.reset with capacity := 15856, pdReserve := 512 }.modQ qHost fun q => { q with closed := [releaseA] }
    feed := { FeedDie.reset with on := true, linkUp := true, a := { FeedState.reset with st := .latched, stuck := true } } }

/-- The state in which S8 carries the command out. -/
def stuckReleaseTaken : State := (stuckRelease.takeCommand qHost releaseA).modHost fun h => h.addTag (Cmd.of .host releaseA)

theorem stuckRelease_takes : stuckRelease.takes .host 0x5B (Cmd.of .host releaseA) stuckReleaseTaken := by
  refine ⟨⟨qHost, releaseA, ?_, ?_, ?_, ?_, rfl, ?_, ?_, ?_, rfl⟩, ?_⟩ <;> decide +kernel

/-- Feed A is stuck after a command. -/
def stuckA (o : Host.Outcome State Fault Refusal) : Bool :=
  match o with
  | .next t => t.feed.a.stuck
  | _ => false

theorem exec_feedReleaseA_stuckRelease : stuckA (exec (.feedReleaseA .host) stuckRelease) = false := by decide +kernel

end Sys2Proof.Machine
end

section
/-! O49, settled. -/

namespace Sys2Proof
open Machine

/-- Refutes O49: beside the state of the feed its release clears that it is stuck, which the clause keeps. -/
theorem not_unitCommands : ¬ Obligations.UnitCommands := by
  unfold Obligations.UnitCommands
  rintro ⟨-, -, -, -, -, -, -, -, -, -, -, -, -, hrelease, -⟩
  have he := hrelease .host _ _ _ stuckRelease_takes (by decide +kernel) rfl
  have hstuck := exec_feedReleaseA_stuckRelease
  rw [he] at hstuck
  exact absurd hstuck (by decide +kernel)

end Sys2Proof
end

section
/-! O51, refuted: the reply to a forwarded command drains Q89 with what stood there before it, and a packet of it that fails parity raises
POOL_PARITY (R25, R328, R438). -/

namespace Sys2Proof.Machine

/-- A module whose link runs, its store at a forwarded IMAGE_COMMIT of tag 1; in Q89 stands a reply a word of which fails parity. -/
def unsoundReply : State :=
  { State.reset with
    board := { Board.reset with svcOn := true, mainOn := true, afeLink := Vector.replicate 4 true }
    dev := { Dev.reset with ready0 := 0x007FFFFF#32 }
    pool := { Pool.reset with capacity := 15856, pdReserve := 512 }.modQ qFwdOut fun q =>
      { q with closed := [{ mkPacket Pool.reset (.fwd 9 false) [] with flaw := .parity }] }
    yarrow := { Yarrow.reset with id := 3, fwdFrom := [(1, 9)] }
    store := { Store.reset with op := some (.commit [0x83#8, 1#8, 0#8, 0#8] .forwarded false) } }

/-- POOL_PARITY is RAISED after a command. -/
def raisesPoolParity (o : Host.Outcome State Fault Refusal) : Bool :=
  match o with
  | .next t => t.raisedAt 211
  | _ => false

theorem exec_imageCommitProgrammed_unsoundReply : raisesPoolParity (exec (.imageCommitProgrammed true) unsoundReply) = true := by
  decide +kernel

end Sys2Proof.Machine
end

section
/-! O51, settled. -/

namespace Sys2Proof
open Machine

/-- Refutes O51: IMAGE_COMMIT_PROGRAMMED of a forwarded commit answers over Yarrow, and the drain of Q89 raises POOL_PARITY for the
unsound reply that stood there, where the clause keeps the fault collector. -/
theorem not_imageCommands : ¬ Obligations.ImageCommands := by
  unfold Obligations.ImageCommands
  rintro ⟨-, -, -, -, -, -, -, -, -, -, -, -, -, -, hcommit, -⟩
  obtain ⟨t, he, -, -, -, -, -, -, hfaults⟩ :=
    hcommit _ .forwarded false unsoundReply rfl (by decide +kernel) (by decide +kernel)
  have hraised := exec_imageCommitProgrammed_unsoundReply
  rw [he, raisesPoolParity, State.raisedAt, hfaults] at hraised
  exact absurd hraised (by decide +kernel)

end Sys2Proof
end

section
/-! A command that is taken, by the kind of its row's answer; and the rows of an opcode that a selector tells apart (R377, R380). -/

namespace Sys2Proof.Machine

section
variable {s u : State} {st : Stream} {opc : Nat} {c : Cmd} {sub : Cmd → Bool} {run : Cmd → State → Act} {eff : State → State}

theorem State.serve_of_refuse {r : Refuse} (h : s.takes st opc c u) (hs : sub c = true) (hr : run c u = .refuse r) :
    s.serve st opc sub run = u.sendReply c false r.status r.data := by
  rw [State.serve_takes h sub run hs, hr, State.respond_refuse]

theorem State.serve_of_answer {data : List Byte} (h : s.takes st opc c u) (hs : sub c = true) (hr : run c u = .answer 0 data eff)
    (hfit : c.fits data = true) : s.serve st opc sub run = eff (u.okay c data) := by
  rw [State.serve_takes h sub run hs, hr, State.respond_answer u c data eff (Cmd.fits_iff.mp hfit)]

theorem State.serve_of_ok (h : s.takes st opc c u) (hs : sub c = true) (hr : run c u = .ok eff) :
    s.serve st opc sub run = eff (u.okay c []) :=
  State.serve_of_answer h hs hr (Cmd.fits_iff.mpr (.inr (Nat.zero_le _)))

theorem State.serve_of_give {data : List Byte} (h : s.takes st opc c u) (hs : sub c = true) (hr : run c u = .give data)
    (hfit : c.fits data = true) : s.serve st opc sub run = u.okay c data :=
  State.serve_of_answer h hs hr hfit

theorem State.serve_of_accepted (h : s.takes st opc c u) (hs : sub c = true) (hr : run c u = .accepted eff) :
    s.serve st opc sub run = eff (u.accept c) := by
  rw [State.serve_takes h sub run hs, hr, State.respond_accepted]

theorem State.serve_of_later (h : s.takes st opc c u) (hs : sub c = true) (hr : run c u = .later eff) :
    s.serve st opc sub run = eff (u.hold c) := by
  rw [State.serve_takes h sub run hs, hr, State.respond_later]

theorem State.takes_store (h : s.takes st opc c u) : u.store = s.store := by
  obtain ⟨-, -, -, -, -, -, -, -, -, -, hstore, -⟩ := State.takes_state h
  exact hstore

theorem State.takes_now (h : s.takes st opc c u) : u.now = s.now := by
  obtain ⟨hboard, -⟩ := State.takes_state h
  exact congrArg Board.beat hboard

/-- Beside the origins of forwarded commands the link is as it was. -/
theorem State.takes_yarrow (h : s.takes st opc c u) :
    u.yarrow.id = s.yarrow.id ∧ u.yarrow.seen = s.yarrow.seen ∧ u.yarrow.fwd = s.yarrow.fwd := by
  obtain ⟨⟨q, k, -, -, -, -, -, -, -, -, rfl⟩, -⟩ := h
  by_cases hf : c.stream = .forwarded <;> simp [State.modYarrow, State.takeCommand, hf]

@[simp] theorem State.hold_now (u : State) (c : Cmd) : (u.hold c).now = u.now := by
  unfold State.hold
  split <;> rfl

end

/-- A command that names its row is the row's. -/
theorem subAt_self {off v : Nat} {c : Cmd} (vs : List Nat) (h : c.b off = v) : subAt off vs v c = true := by
  simp [subAt, h]

/-- A command that names no row is refused by each. -/
theorem subAt_other {off : Nat} {c : Cmd} {vs : List Nat} (v : Nat) (h : c.b off ∉ vs) : subAt off vs v c = true := by
  simp [subAt, h]

/-- A word's bytes fit every stream. -/
theorem Cmd.fits_u32 (c : Cmd) (n : Nat) : c.fits (u32 n) = true :=
  Cmd.fits_iff.mpr (.inr (by simp [u32, leBytes]))

end Sys2Proof.Machine
end

section
/-! The Sorrel and Yarrow rows (R332, R340, R341, R419). -/

namespace Sys2Proof.Machine

section
variable {c : Cmd} {u : State}

/-- What SORREL_LOAD_EXT asks for lies in the extension region (R419). -/
def Cmd.loads (c : Cmd) : Prop :=
  c.b 0 ≤ 8 ∧ (c.w 4).toNat % 4 = 0 ∧ (c.w 4).toNat + (c.payload.drop 8).length ≤ 0x2000

theorem runSorrelLoadExt_of_loads (h : c.loads) :
    runSorrelLoadExt c u = if (u.core c.core).extState = 2 then .refuse .state
      else .ok fun t => t.modCore c.core fun k => { k with
        bundleMem := k.bundleMem.writeAll zeroByte (0xE000 + (c.w 4).toNat) (c.payload.drop 8)
        extState := if k.extState = 0 then 1 else k.extState } := by
  obtain ⟨hcore, halign, hend⟩ := h
  refine if_neg ?_
  simp only [Bool.or_eq_true, decide_eq_true_eq, bne_iff_ne]
  omega

theorem runSorrelLoadExt_of_not_loads (h : ¬ c.loads) : runSorrelLoadExt c u = .refuse .range := by
  refine if_pos ?_
  simp only [Cmd.loads, not_and_or, Nat.not_le] at h
  simpa [or_assoc] using h

theorem runSorrelCtrl_of_status (hcore : c.b 0 ≤ 8) (hop : c.b 1 = 0) (hw : c.w 4 = 0) (hx : c.w 8 = 0) :
    runSorrelCtrl c u = .answer 0 (u.core c.core).extBytes fun t => t.modCore c.core fun d => { d with worst := 0 } := by
  simp [runSorrelCtrl, hop, hw, hx, Nat.not_lt.mpr hcore]

theorem runSorrelCtrl_of_stop (hcore : c.b 0 ≤ 8) (hop : c.b 1 = 1) (hw : c.w 4 = 0) (hx : c.w 8 = 0) :
    runSorrelCtrl c u = .answer 0 (u.core c.core).extBytes fun t => t.modCore c.core fun d => { d with extStop := true, extStart := false } := by
  simp [runSorrelCtrl, hop, hw, hx, Nat.not_lt.mpr hcore]

theorem runSorrelCtrl_of_start (hcore : c.b 0 ≤ 8) (hop : c.b 1 = 2) (hlen : (c.w 4).toNat ≤ 0x2000) :
    runSorrelCtrl c u = if crc32c ((u.core c.core).bundleMem.readN zeroByte 0xE000 (c.w 4).toNat) = c.w 8
      then .answer 0 (u.core c.core).extBytes fun t => t.modCore c.core fun d => { d with extStart := true, extStop := false }
      else .refuse .range := by
  unfold runSorrelCtrl
  dsimp only
  rw [if_neg (by omega), if_pos hop, if_neg (Nat.not_lt.mpr hlen)]
  by_cases h : crc32c ((u.core c.core).bundleMem.readN zeroByte 0xE000 (c.w 4).toNat) = c.w 8
  · rw [if_neg (by simp [h]), if_pos h]
  · rw [if_pos (by simp [h]), if_neg h]

theorem runYarrowNodeAssign_of_range (h : c.h 2 = 0 ∨ 4000 < c.h 2) : runYarrowNodeAssign c u = .refuse .range :=
  if_pos (by omega)

theorem runYarrowNodeAssign_of_set (h0 : c.b 0 = 0) (hlo : 1 ≤ c.h 2) (hhi : c.h 2 ≤ 4000) :
    runYarrowNodeAssign c u = .ok fun t => (t.modYarrow fun w => w.setId (BitVec.ofNat 12 (c.h 2)) 3).yarrowReady :=
  (if_neg (by omega)).trans (if_pos h0)

theorem runYarrowNodeAssign_of_chain (h1 : c.b 0 = 1) (hlo : 1 ≤ c.h 2) (hhi : c.h 2 ≤ 4000) :
    runYarrowNodeAssign c u = .ok fun t => t.startChain (BitVec.ofNat 12 (c.h 2)) 3 :=
  (if_neg (by omega)).trans (if_neg (by omega))

/-- YARROW_FORWARD names a node of the chain other than this module, and a length within its bound (R340). -/
structure Cmd.forwardsFrom (c : Cmd) (own : BitVec 12) : Prop where
  isNode : 1 ≤ c.nodeField
  inChain : c.nodeField ≤ 4000
  elsewhere : BitVec.ofNat 12 c.nodeField ≠ own
  short : c.h 2 < 16

/-- The module has heard of a node in the last 750,000 beats (R340). -/
def State.hasSeen (s : State) (node : BitVec 12) : Bool :=
  s.yarrow.seen.any fun e => e.src == node && decide (Beat.since s.now e.stamp ≤ 750000)

theorem runYarrowForward_of_forwards (h : c.forwardsFrom u.yarrow.id) :
    runYarrowForward c u =
      if u.hasSeen (BitVec.ofNat 12 c.nodeField) = true then
        if 16 ≤ u.yarrow.fwd.length then .refuse .busy
        else .later fun t => (t.modYarrow fun w =>
          { w with fwd := w.fwd ++ [⟨BitVec.ofNat 12 c.nodeField, c.stream, c.hdr, t.now, c.payload.getD 1 0, []⟩] }).originateAll
            (BitVec.ofNat 12 c.nodeField) 0x20 c.payload
      else .refuse (.plain 0x89) := by
  obtain ⟨hlo, hhi, hown, hlen⟩ := h
  unfold runYarrowForward
  dsimp only
  rw [if_neg (by simp [hown]; omega), if_neg (by omega)]
  by_cases hseen : u.hasSeen (BitVec.ofNat 12 c.nodeField) = true
  · rw [if_pos hseen]
    exact if_neg (by simpa [State.hasSeen] using hseen)
  · rw [if_neg hseen]
    exact if_pos (by simpa [State.hasSeen] using hseen)

theorem State.takes_hasSeen {s : State} {st : Stream} {opc : Nat} (h : s.takes st opc c u) (node : BitVec 12) :
    u.hasSeen node = s.yarrow.seen.any fun e => e.src == node && decide (Beat.since s.now e.stamp ≤ 750000) := by
  rw [State.hasSeen, (State.takes_yarrow h).2.1, State.takes_now h]

theorem runYarrowForward_of_range (h : c.nodeField = 0 ∨ 4000 < c.nodeField ∨ BitVec.ofNat 12 c.nodeField = u.yarrow.id ∨ 16 ≤ c.h 2) :
    runYarrowForward c u = .refuse .range := by
  unfold runYarrowForward
  dsimp only
  by_cases hnode : (decide (c.nodeField = 0) || decide (4000 < c.nodeField) || BitVec.ofNat 12 c.nodeField == u.yarrow.id) = true
  · rw [if_pos hnode]
  · rw [if_neg hnode]
    simp only [Bool.or_eq_true, decide_eq_true_eq, beq_iff_eq, not_or] at hnode
    exact if_pos (by tauto)

end

end Sys2Proof.Machine
end

section
/-! O52, settled. -/

namespace Sys2Proof
open Machine

/-- Settles O52: each clause is the answer of its row to a command that is taken. -/
theorem coreAndLinkCommands : Obligations.CoreAndLinkCommands := by
  unfold Obligations.CoreAndLinkCommands
  refine ⟨?loads, ?loadRange, ?loadState, ?ctrlStatus, ?ctrlStop, ?ctrlStart, ?ctrlCrc, ?status, ?assignSet, ?assignChain, ?assignRange,
    ?forward, ?unseen, ?full, ?forwardRange⟩
  case loads =>
    intro st c u s h hcore halign hend hidle
    exact congrArg _ (State.serve_of_ok h rfl ((runSorrelLoadExt_of_loads ⟨hcore, halign, hend⟩).trans (if_neg hidle)))
  case loadRange =>
    intro st c u s h hbad
    refine congrArg _ (State.serve_of_refuse h rfl (runSorrelLoadExt_of_not_loads ?_))
    rintro ⟨hcore, halign, hend⟩
    omega
  case loadState =>
    intro st c u s h hcore halign hend hruns
    exact congrArg _ (State.serve_of_refuse h rfl ((runSorrelLoadExt_of_loads ⟨hcore, halign, hend⟩).trans (if_pos hruns)))
  case ctrlStatus =>
    intro st c u s h hcore hop hw hx hfit
    exact congrArg _ (State.serve_of_answer h (subAt_self _ hop) (runSorrelCtrl_of_status hcore hop hw hx) hfit)
  case ctrlStop =>
    intro st c u s h hcore hop hw hx hfit
    exact congrArg _ (State.serve_of_answer h (subAt_self _ hop) (runSorrelCtrl_of_stop hcore hop hw hx) hfit)
  case ctrlStart =>
    intro st c u s h hcore hop hlen hcrc hfit
    exact congrArg _ (State.serve_of_answer h (subAt_self _ hop) ((runSorrelCtrl_of_start hcore hop hlen).trans (if_pos hcrc)) hfit)
  case ctrlCrc =>
    intro st c u s h hcore hop hlen hcrc
    exact congrArg _ (State.serve_of_refuse h (subAt_self _ hop) ((runSorrelCtrl_of_start hcore hop hlen).trans (if_neg hcrc)))
  case status =>
    intro st c u s h hfit
    exact congrArg _ (State.serve_of_give h rfl rfl hfit)
  case assignSet =>
    intro st c u s h h0 hlo hhi
    exact congrArg _ (State.serve_of_ok h (subAt_self _ h0) (runYarrowNodeAssign_of_set h0 hlo hhi))
  case assignChain =>
    intro st c u s h h1 hlo hhi
    exact congrArg _ (State.serve_of_ok h (subAt_self _ h1) (runYarrowNodeAssign_of_chain h1 hlo hhi))
  case assignRange =>
    rintro st c u i s h (⟨rfl, h0⟩ | ⟨rfl, h1⟩) hrange
    · exact congrArg _ (State.serve_of_refuse h (subAt_self _ h0) (runYarrowNodeAssign_of_range hrange))
    · exact congrArg _ (State.serve_of_refuse h (subAt_self _ h1) (runYarrowNodeAssign_of_range hrange))
  case forward =>
    intro st c u s h hlo hhi hown hlen hseen hroom
    obtain ⟨hid, -, -⟩ := State.takes_yarrow h
    have hrun := (runYarrowForward_of_forwards (u := u) ⟨hlo, hhi, hid ▸ hown, hlen⟩).trans
      ((if_pos ((State.takes_hasSeen h _).trans hseen)).trans (if_neg (Nat.not_le.mpr hroom)))
    refine congrArg Host.Outcome.next ((State.serve_of_later h rfl hrun).trans ?_)
    rw [State.hold_now, State.takes_now h]
  case unseen =>
    intro st c u s h hlo hhi hown hlen hseen
    refine congrArg _ (State.serve_of_refuse h rfl ((runYarrowForward_of_forwards ⟨hlo, hhi, hown, hlen⟩).trans (if_neg ?_)))
    rw [State.hasSeen, State.takes_now h, hseen]
    exact Bool.false_ne_true
  case full =>
    intro st c u s h hlo hhi hown hlen hseen hfull
    obtain ⟨hid, -, -⟩ := State.takes_yarrow h
    exact congrArg _ (State.serve_of_refuse h rfl ((runYarrowForward_of_forwards (u := u) ⟨hlo, hhi, hid ▸ hown, hlen⟩).trans
      ((if_pos ((State.takes_hasSeen h _).trans hseen)).trans (if_pos hfull))))
  case forwardRange =>
    intro st c u s h hrange
    exact congrArg _ (State.serve_of_refuse h rfl (runYarrowForward_of_range hrange))

end Sys2Proof
end

section
/-! O47, refuted: the beat counter wraps, so that a deadline behind its wrap is later than now though its number is smaller (R42). -/

namespace Sys2Proof.Machine

/-- DECIDE from the host: decision 7 of P0 is accepted. -/
def decideAccept : Packet := mkPacket Pool.reset (.cmd false) [0x22#8, 1, 0, 0, 0, 0, 8#8, 0, 7#8, 0, 0, 0, 0, 0, 0, 0]

/-- A module at the last beat before its counter wraps, in which the command waits in Q0 and a decision of P0 on a PR_Swap is open for another
101 beats. -/
def openOverWrap : State :=
  { State.reset with
    board := { Board.reset with svcOn := true, mainOn := true, afeLink := Vector.replicate 4 true, beat := 0xFFFFFFFFFFFF#48 }
    dev := { Dev.reset with ready0 := 0x00FFFFFF#32 }
    pool := { Pool.reset with capacity := 15856, pdReserve := 512 }.modQ qHost fun q => { q with closed := [decideAccept] }
    policy := { Policy.reset with decisions :=
      [{ id := 7, port := 0, point := ptPrSwap, rule := 0, asked := ⟨0, 0, 0, 0, 0, 0, 0, 0, 0, 0⟩, cls := 0, dflt := 0, deadline := 100
         obj := 0, pdo := 0 }] } }

/-- The state in which S8 carries the command out. -/
def openOverWrapTaken : State := (openOverWrap.takeCommand qHost decideAccept).modHost fun h => h.addTag (Cmd.of .host decideAccept)

theorem openOverWrap_takes : openOverWrap.takes .host 0x22 (Cmd.of .host decideAccept) openOverWrapTaken := by
  refine ⟨⟨qHost, decideAccept, ?_, ?_, ?_, ?_, rfl, ?_, ?_, ?_, rfl⟩, ?_⟩ <;> decide +kernel

/-- No decision is open after a command. -/
def allDecided (o : Host.Outcome State Fault Refusal) : Bool :=
  match o with
  | .next t => t.policy.decisions.isEmpty
  | _ => false

theorem exec_decide_openOverWrap : allDecided (exec (.decide .host) openOverWrap) = true := by decide +kernel

end Sys2Proof.Machine
end

section
/-! O47, settled. -/

namespace Sys2Proof
open Machine

/-- Refutes O47: the clause compares the deadline with the beat as numbers, and so refuses with STATE an answer to a decision that is open
over the wrap of the counter, which DECIDE takes. -/
theorem not_policyCommands : ¬ Obligations.PolicyCommands := by
  unfold Obligations.PolicyCommands
  rintro ⟨-, -, -, -, -, -, -, -, -, hclosed, -⟩
  have he := hclosed .host _ _ _ openOverWrap_takes (by decide +kernel)
  have hdecided := exec_decide_openOverWrap
  rw [he] at hdecided
  exact absurd hdecided (by decide +kernel)

end Sys2Proof
end

section
/-! O13, O32 and O45, refuted: a die whose markers return while the main domain is off, and an event for Q9 while a Sorrel core has a packet
open in it. -/

namespace Sys2Proof.Machine

/-- Service-domain operation: the markers of die 0 are lost and with them its clusters' ready bits; cluster 1, which the lost main domain
powers, completed its trim before. -/
def die0Lost : State :=
  { State.reset with
    board := { Board.reset with svcOn := true, afeLink := Vector.replicate 4 false }
    dev := { Dev.reset with ready0 := 0x00000FFF#32 }
    clusters := State.reset.clusters.set 1 { (State.reset.cluster 1) with trimmed := true } }

/-- Cluster 1 is ready after the command. -/
def readies1 (o : Host.Outcome State Fault Refusal) : Bool :=
  match o with
  | .next t => t.clusterReady 1
  | _ => true

theorem exec_afeLinkRestore_die0Lost : readies1 (exec (.afeLinkRestore 0) die0Lost) = false := by decide +kernel

/-- The pool of a module that runs, with the firmware of core 1 writing a packet into Q9. -/
def pool9Open : Pool :=
  { Pool.reset with capacity := 15856, pdReserve := 512 }.modQ qEvent fun q =>
    { q with opened := some ⟨.core 1, mkPacket Pool.reset .none [0xC7#8, 0, 0, 0]⟩ }

/-- The unstructured VDM `0x1234 0001`, received on SOP of P0. -/
def uvdmRx : RxMsg := ⟨.sop, 0, 0, 0x108F#16, 0, wordBytes 0x12340001#32⟩

/-- A module in which core 1 has a packet open in Q9, and an unstructured VDM waits for P0. -/
def uvdmWaits : State :=
  ({ State.reset with
    board := { Board.reset with svcOn := true, mainOn := true, afeLink := Vector.replicate 4 true }
    dev := { Dev.reset with ready0 := 0x00FFFFFF#32 }
    pool := pool9Open.modQ (qRx 0) fun q =>
      { q with closed := [mkPacket pool9Open (.rx 0 .sop 0 0) (u16 0x108F ++ wordBytes 0x12340001#32)] } } : State).modPort 0 fun x =>
    { x with tc := { x.tc with st := .attachedSrc } }

/-- A module in which core 1 has a packet open in Q9, and coalescing has gathered the counts of P3. -/
def countsWait : State :=
  { State.reset with
    board := { Board.reset with svcOn := true, mainOn := true, afeLink := Vector.replicate 4 true }
    dev := { Dev.reset with ready0 := 0x00FFFFFF#32 }
    pool := { pool9Open with coalescing := true, coal := [⟨false, 3, Vector.replicate 7 1, 5, 9⟩] } }

/-- Nothing is closed in Q9 after the command. -/
def noEvent (o : Host.Outcome State Fault Refusal) : Bool :=
  match o with
  | .next t => t.lastEvent.isNone
  | _ => false

theorem exec_unstructuredVdmRx_uvdmWaits : noEvent (exec (.unstructuredVdmRx 0) uvdmWaits) = true := by decide +kernel

theorem exec_coalescingEnd_countsWait : noEvent (exec .coalescingEnd countsWait) = true := by decide +kernel

/-- A command that closes nothing in Q9 leaves no newest event. -/
theorem lastEvent_of_noEvent {i : Instr} {s t : State} (hno : noEvent (exec i s) = true) (he : exec i s = .next t) : t.lastEvent = none := by
  rw [he] at hno
  exact Option.isNone_iff_eq_none.mp hno

end Sys2Proof.Machine
end

section
/-! O13, O32 and O45, settled. -/

namespace Sys2Proof
open Machine

/-- Refutes O13: the last clause does not ask that the main domain be powered, so that for die 0 it claims cluster 1 ready again in
service-domain operation, where only cluster 0 has power (R60). -/
theorem not_links : ¬ Obligations.Links := by
  unfold Obligations.Links
  rintro ⟨-, -, -, hrestore⟩
  obtain ⟨t, he, -, -, -, -, hready⟩ := hrestore 0 die0Lost (by decide +kernel) (by decide +kernel) (by decide +kernel)
  have hr := hready (by decide +kernel) (by decide +kernel) (by decide +kernel) 1 (by decide +kernel) (by decide +kernel)
  have hnot := exec_afeLinkRestore_die0Lost
  rw [he] at hnot
  exact absurd (hr.symm.trans hnot) (by decide)

/-- Refutes O32: the event of an unstructured VDM waits while a packet is open in Q9 (R432), and closes into the queue only after it. -/
theorem not_vdms : ¬ Obligations.Vdms := by
  unfold Obligations.Vdms
  rintro ⟨-, -, -, huvdm, -⟩
  obtain ⟨t, he, hlast, -⟩ := huvdm 0 uvdmRx uvdmWaits (by decide +kernel) (by decide +kernel) (by decide +kernel) (by decide +kernel)
    (by decide +kernel) (by decide +kernel)
  rw [lastEvent_of_noEvent exec_unstructuredVdmRx_uvdmWaits he] at hlast
  exact absurd hlast (by simp)

/-- Refutes O45: so does the event with the counts that coalescing gathered. -/
theorem not_deviceCommands : ¬ Obligations.DeviceCommands := by
  unfold Obligations.DeviceCommands
  rintro ⟨-, -, -, -, -, -, -, -, -, -, -, -, -, -, -, -, -, -, -, -, -, -, -, -, -, -, -, -, -, -, -, hcounts, -⟩
  obtain ⟨t, he, -, hlast, -⟩ := hcounts ⟨false, 3, Vector.replicate 7 1, 5, 9⟩ countsWait (by decide +kernel) (by decide +kernel)
    (by decide +kernel) (by decide +kernel) (by decide +kernel) (by decide +kernel) (by decide +kernel) (by decide +kernel)
  have hevent := hlast (by decide +kernel)
  rw [lastEvent_of_noEvent exec_coalescingEnd_countsWait he] at hevent
  exact absurd hevent (by simp)

end Sys2Proof
end

section
/-! O42 and O56, refuted: a packet that closes into Q0 behind an open one, and a trap whose source has severity PORT_SAFE. -/

namespace Sys2Proof.Machine

/-- TIME_GET from the host, as its WRITE carries it, with its CRC. -/
def timeGetWire : List Byte :=
  let bytes : List Byte := [0x08, 0x11, 0, 0, 0x7F, 0, 0, 0]
  bytes ++ wordBytes (crc32 bytes)

/-- A module ready for its host, in which core 1 has a packet open in Q0. -/
def pool0Open : State :=
  { State.reset with
    board := { Board.reset with svcOn := true, mainOn := true, afeLink := Vector.replicate 4 true }
    dev := { Dev.reset with ready0 := 0x00FFFFFF#32 }
    pool := { Pool.reset with capacity := 15856, pdReserve := 512 }.modQ qHost fun q =>
      { q with opened := some ⟨.core 1, mkPacket Pool.reset .none [0#8, 0, 0, 0]⟩ } }

/-- Nothing is closed in Q0 after the command. -/
def q0Empty (o : Host.Outcome State Fault Refusal) : Bool :=
  match o with
  | .next t => (t.pool.queues[qHost]).closed.isEmpty
  | _ => false

theorem exec_write_pool0Open : q0Empty (exec (.write true ⟨timeGetWire, .sound⟩) pool0Open) = true := by decide +kernel

/-- A divide of one bundle by the constant 0. -/
def divByZero : XForm := .three (.reg 0) (.reg 1) (.imm 0 0)

/-- The encoding of an operation that is a bundle of its own. -/
def wholeBundle : Pre := ⟨true, none, false, none, false⟩

/-- Core 0 runs with DZT set, its trap has severity PORT_SAFE, and the gate of P0 is on. -/
def trapsSafe : State :=
  (({ State.reset with
    board := { Board.reset with svcOn := true, mainOn := true, afeLink := Vector.replicate 4 true }
    dev := { Dev.reset with ready0 := 0x00FFFFFF#32 }
    faults := { Faults.reset with sev := Vector.replicate 256 2 } } : State).modPort 0 fun x =>
      { x with guard := { x.guard with gateOn := true } }).modCore 0 fun c => { c with running := true, dzt := true, cycles := 10 }

/-- The gate of P0 is on after the command. -/
def gate0On (o : Host.Outcome State Fault Refusal) : Bool :=
  match o with
  | .next t => (t.port 0).guard.gateOn
  | _ => true

theorem exec_div_trapsSafe : gate0On (exec (.div 0 wholeBundle divByZero) trapsSafe) = false := by decide +kernel

end Sys2Proof.Machine
end

section
/-! O42 and O56, settled. -/

namespace Sys2Proof
open Machine

/-- Refutes O42: while a packet is open in Q0, the one that a WRITE closes waits for its turn (R427), so that the closed ones stay. -/
theorem not_hostPort : ¬ Obligations.HostPort := by
  unfold Obligations.HostPort
  rintro ⟨-, -, htaken, -⟩
  obtain ⟨t, he, hclosed, -⟩ := htaken true timeGetWire .sound qHost pool0Open (by decide +kernel) (by decide +kernel) (by decide +kernel)
    (by decide +kernel) (by decide +kernel) (by decide +kernel)
  have hempty := exec_write_pool0Open
  rw [he] at hempty
  have hnil : (t.pool.queues[qHost]).closed = [] := List.isEmpty_iff.mp hempty
  rw [hnil] at hclosed
  exact absurd (congrArg List.length hclosed) (by decide +kernel)

/-- Refutes O56: a trap whose source has severity PORT_SAFE quiesces the ports of the core's cluster (R349), so that the ports do not stay. -/
theorem not_sorrelOperations : ¬ Obligations.SorrelOperations := by
  unfold Obligations.SorrelOperations
  rintro ⟨-, -, -, -, -, htrap, -⟩
  obtain ⟨t, he, -, -, -, -, -, -, -, -, -, hports, -⟩ := htrap 0 wholeBundle divByZero (.div 0 wholeBundle divByZero) .div trapsSafe (by decide +kernel)
    (by decide +kernel) (by decide +kernel) (by decide +kernel) (by decide +kernel)
  have hgate := exec_div_trapsSafe
  rw [he] at hgate
  have hsame : (t.port 0).guard.gateOn = (trapsSafe.port 0).guard.gateOn := by
    unfold State.port
    rw [hports]
  rw [gate0On, hsame] at hgate
  exact absurd hgate (by decide +kernel)

end Sys2Proof
end

section
/-! What the messages of a port leave of it: its parameters, connection state, harness, moisture record, stage and guard, but for the Rp it
presents. One lemma per operation (R113, R163, R181, R203). -/

namespace Sys2Proof.Machine

/-- A connection state beside the terminations presented. -/
def TypeC.still (t : TypeC) : TypeC := { t with pres1 := .none, pres2 := .none }

/-- A port beside its messages: its Policy Engine, contexts, timers, PHY, grant, and the level of the Rp presented. -/
def Port.body (x : Port) := (x.cfg, x.tc.still, x.harn, x.moist, x.stage, x.guard)

@[simp] theorem Port.body_mk (cfg tc tm harn moist phy ctx pd stage guard grant) :
    (Port.mk cfg tc tm harn moist phy ctx pd stage guard grant).body = (cfg, tc.still, harn, moist, stage, guard) := rfl
@[simp] theorem Port.body_fold (x : Port) : (x.cfg, x.tc.still, x.harn, x.moist, x.stage, x.guard) = x.body := rfl

theorem Port.st_of_body {x y : Port} (h : x.body = y.body) : x.tc.st = y.tc.st :=
  congrArg (fun r => r.2.1.st) h
theorem Port.cfg_of_body {x y : Port} (h : x.body = y.body) : x.cfg = y.cfg := congrArg (fun r => r.1) h
theorem Port.pReady_of_body {x y : Port} (h : x.body = y.body) : x.tc.pReady = y.tc.pReady :=
  congrArg (fun r => r.2.1.pReady) h
theorem Port.moist_of_body {x y : Port} (h : x.body = y.body) : x.moist = y.moist := congrArg (fun r => r.2.2.2.1) h
theorem Port.stage_of_body {x y : Port} (h : x.body = y.body) : x.stage = y.stage := congrArg (fun r => r.2.2.2.2.1) h
theorem Port.guard_of_body {x y : Port} (h : x.body = y.body) : x.guard = y.guard := congrArg (fun r => r.2.2.2.2.2) h

@[simp] theorem Port.refreshRp_body (x : Port) : x.refreshRp.body = x.body := rfl
@[simp] theorem Port.setTimer_body (x : Port) (i : Fin 12) (t : Timer) : (x.setTimer i t).body = x.body := rfl
@[simp] theorem Port.arm_body (x : Port) (i : Fin 12) (u : Use) (n : Nat) : (x.arm i u n).body = x.body := rfl
@[simp] theorem Port.disarm_body (x : Port) (i : Fin 12) : (x.disarm i).body = x.body := rfl
@[simp] theorem Port.modCtx_body (x : Port) (t : Tgt) (f : Ctx → Ctx) : (x.modCtx t f).body = x.body := rfl
@[simp] theorem Port.endOwn_body (x : Port) : x.endOwn.body = x.body := rfl
@[simp] theorem Port.armSinkTx_body (b : Beat) (x : Port) : (x.armSinkTx b).body = x.body := by
  unfold Port.armSinkTx; dsimp only; split <;> rfl
@[simp] theorem Port.freeCaps_body (b : Beat) (x : Port) : (x.freeCaps b).body = x.body := by
  unfold Port.freeCaps; (repeat' split) <;> rfl
@[simp] theorem Port.endSinkTx_body (b : Beat) (x : Port) : (x.endSinkTx b).body = x.body := by
  unfold Port.endSinkTx; split <;> simp
@[simp] theorem Port.countDiscover_body (x : Port) : x.countDiscover.body = x.body := rfl
@[simp] theorem Port.discoverAgain_body (x : Port) : x.discoverAgain.body = x.body := by
  unfold Port.discoverAgain; split <;> rfl
@[simp] theorem Port.endVdmAms_body (b : Beat) (r : VdmReq) (x : Port) : (x.endVdmAms b r).body = x.body := by
  unfold Port.endVdmAms; (repeat' split) <;> simp

section
variable (s : State) (p q : PortId)

/-- A change of one port reaches the body of that port alone. -/
@[simp] theorem State.body_modPort (f : Port → Port) :
    ((s.modPort p f).port q).body = if q = p then (f (s.port p)).body else (s.port q).body := by
  by_cases e : q = p
  · subst e; rw [if_pos rfl, State.port_modPort]
  · rw [if_neg e, State.port_modPort_ne s e]

@[simp] theorem State.ite_body : (if q = p then (s.port p).body else (s.port q).body) = (s.port q).body := by
  by_cases e : q = p
  · rw [if_pos e, e]
  · rw [if_neg e]

theorem State.modPort_body (f : Port → Port) (h : ∀ x, (f x).body = x.body) : ((s.modPort p f).port q).body = (s.port q).body := by
  rw [State.body_modPort, h, State.ite_body]

@[simp] theorem State.withdraw_body : ((s.withdraw p).port q).body = (s.port q).body :=
  congrArg Port.body (foldl_port q (fun (t : State) (d : Decision) => t.post 0xC3 p.val (closedPayload d.id d.point 3 0xFF s.board.beat))
    (fun _ _ => by simp) (s.policy.decisions.filter (fun d => d.port == p)) s)
@[simp] theorem State.endSwapReq_body (st r : Nat) : ((s.endSwapReq p st r).port q).body = (s.port q).body := by
  unfold State.endSwapReq; split
  · rfl
  · simp
@[simp] theorem State.endSend_body (st tx r : Nat) (d : List Byte) : ((s.endSend p st tx r d).port q).body = (s.port q).body := by
  unfold State.endSend; split
  · rfl
  · simp
@[simp] theorem State.endSoft_body (st tx a : Nat) : ((s.endSoft p st tx a).port q).body = (s.port q).body := by
  unfold State.endSoft; split
  · rfl
  · simp
@[simp] theorem State.endVdm_body (st r : Nat) (d : List Byte) : ((s.endVdm p st r d).port q).body = (s.port q).body := by
  unfold State.endVdm; split
  · rfl
  · dsimp only
    refine (State.modPort_body _ _ _ _ fun x => ?_).trans ?_
    · split <;> rfl
    · split <;> simp
@[simp] theorem State.endWork_body (st r : Nat) : ((s.endWork p st r).port q).body = (s.port q).body := by
  simp [State.endWork]
@[simp] theorem State.loadFlight_body : ((s.loadFlight p).port q).body = (s.port q).body := by
  unfold State.loadFlight
  (repeat' split) <;> simp
@[simp] theorem State.queueTx_body (t : Tgt) (why : Purpose) (bytes : List Byte) :
    ((s.queueTx p t why bytes).port q).body = (s.port q).body := by
  unfold State.queueTx
  split
  · simp
  · dsimp only
    split
    · exact State.loadFlight_body _ _ _
    · simp
@[simp] theorem State.reply_body (why : Purpose) (bytes : List Byte) : ((s.reply p why bytes).port q).body = (s.port q).body := by
  unfold State.reply
  rw [State.queueTx_body]
  simp
@[simp] theorem State.sendExt_body (t : Tgt) (why : Purpose) (n : Nat) (d : List Byte) :
    ((s.sendExt p t why n d).port q).body = (s.port q).body := by
  unfold State.sendExt
  rw [State.queueTx_body]
  simp
@[simp] theorem State.sendCaps_body : ((s.sendCaps p).port q).body = (s.port q).body := by
  unfold State.sendCaps
  dsimp only
  split <;> simp
@[simp] theorem State.launch_body : ((s.launch p).port q).body = (s.port q).body := by
  unfold State.launch
  split
  · rfl
  · dsimp only
    split <;> simp
@[simp] theorem State.beginAms_body (t : Tgt) (why : Purpose) (bytes : List Byte) :
    ((s.beginAms p t why bytes).port q).body = (s.port q).body := by
  unfold State.beginAms
  dsimp only
  (repeat' split) <;> simp
@[simp] theorem State.killTx_body (only : Tgt → Bool) (r : TxResult) : ((s.killTx p only r).port q).body = (s.port q).body := by
  unfold State.killTx
  dsimp only
  rw [State.loadFlight_body, State.modPort_body _ _ _ _ (by simp), State.modPool_port]
  split
  · split
    · exact State.modPort_body _ _ _ _ fun x => by split <;> rfl
    · rfl
  · rfl
@[simp] theorem State.endVdmOn_body (only : Tgt → Bool) : ((s.endVdmOn p only).port q).body = (s.port q).body := by
  unfold State.endVdmOn
  split
  · split
    · rfl
    · refine (State.modPort_body _ _ _ _ ?_).trans (State.endVdm_body _ _ _ _ _ _)
      intro x
      dsimp only
      rw [Port.endVdmAms_body]
      split
      · exact Port.discoverAgain_body _
      · rfl
  · rfl
@[simp] theorem State.dropPlug_body : ((s.dropPlug p).port q).body = (s.port q).body := by
  unfold State.dropPlug
  dsimp only
  rw [State.endVdmOn_body]
  (repeat' split) <;> simp
@[simp] theorem State.kick_body : ((s.kick p).port q).body = (s.port q).body := by
  unfold State.kick
  dsimp only
  (repeat' split) <;> simp
@[simp] theorem State.eprFail_body (n : Nat) : ((s.eprFail p n).port q).body = (s.port q).body := by
  unfold State.eprFail
  rw [State.reply_body]
  simp
@[simp] theorem State.eprCheck_body : ((s.eprCheck p).port q).body = (s.port q).body := by
  unfold State.eprCheck
  dsimp only
  (repeat' split) <;> simp
@[simp] theorem State.eprOutcome_body (oc : Nat) : ((s.eprOutcome p oc).port q).body = (s.port q).body := by
  unfold State.eprOutcome
  dsimp only
  (repeat' split) <;> simp
@[simp] theorem State.requestOutcome_body (oc : Nat) : ((s.requestOutcome p oc).port q).body = (s.port q).body := by
  unfold State.requestOutcome
  dsimp only
  (repeat' split) <;> simp
@[simp] theorem State.swapOutcome_body (k : SwapKind) (oc : Nat) : ((s.swapOutcome p k oc).port q).body = (s.port q).body := by
  unfold State.swapOutcome
  dsimp only
  (repeat' split) <;> simp
@[simp] theorem State.selectOutcome_body (c : Fin 16) (oc : Nat) (r : Option Rule) (v : Word) :
    ((s.selectOutcome p c oc r v).port q).body = (s.port q).body := by
  unfold State.selectOutcome
  dsimp only
  simp

/-- The outcome of a decision point ends in messages alone. -/
@[simp] theorem State.act_body (c : Fin 16) (pt oc : Nat) (r : Option Rule) (v : Word) :
    ((s.act p c pt oc r v).port q).body = (s.port q).body := by
  unfold State.act
  (repeat' split) <;> simp
@[simp] theorem State.decisionDefault_body (id : Nat) : ((s.decisionDefault id).port q).body = (s.port q).body := by
  unfold State.decisionDefault
  split
  · rfl
  · rw [State.act_body, State.closeDefault, State.post_port, State.modPolicy_port]

/-- A discarded packet of any queue leaves every port's body: a lost decision takes its default. -/
@[simp] theorem State.discardQ_body (c : QueueId) (n : Nat) : ((s.discardQ c n).port q).body = (s.port q).body := by
  have fold : ∀ (ks : List Packet) (t : State),
      ((ks.foldl (fun (t : State) k => t.decisionDefault (rdNat k.data 0 2)) t).port q).body = (t.port q).body := by
    intro ks
    induction ks with
    | nil => exact fun _ => rfl
    | cons k ks ih => intro t; rw [List.foldl_cons, ih, State.decisionDefault_body]
  unfold State.discardQ
  dsimp only
  split
  · exact fold _ _
  · rfl
end

end Sys2Proof.Machine
end

section
/-! Ports that go quiet: what each of them shows afterwards (R13, R98, R114). -/

namespace Sys2Proof.Machine

/-- What a port that goes quiet comes to from what it was. -/
structure Port.quietedFrom (x y : Port) : Prop where
  st : y.tc.st = (if x.tc.st.down then x.tc.st else .disabled)
  pReady : y.tc.pReady = false
  gateOn : y.guard.gateOn = false
  mode : y.stage.mode = .idle
  cfg : y.cfg = x.cfg

theorem Port.abandonCal_eq (x : Port) : x.abandonCal = { x with harn := x.abandonCal.harn } := by
  unfold Port.abandonCal
  (repeat' split) <;> rfl

@[simp] theorem Port.enter_gateOn (svc : Bool) (b : Beat) (st : Tc) (x : Port) :
    (Port.enter svc b st x).guard.gateOn = x.guard.gateOn := by
  unfold Port.enter; dsimp only; split <;> rfl
@[simp] theorem Port.enter_stage (svc : Bool) (b : Beat) (st : Tc) (x : Port) : (Port.enter svc b st x).stage = x.stage := by
  unfold Port.enter; dsimp only; split <;> rfl

theorem Port.quiet_quietedFrom (svc : Bool) (b : Beat) (x : Port) : x.quietedFrom (Port.quiet svc b x) := by
  refine ⟨Port.quiet_st svc b x, rfl, ?_, ?_, ?_⟩
  all_goals
    unfold Port.quiet
    dsimp only
    split
    · rfl
    · simp only [Port.enter_gateOn, Port.enter_stage, Port.enter_cfg]
      rw [Port.abandonCal_eq]
      rfl

/-- A new grant and the Rp that goes with it change nothing of what a quiet port shows. -/
theorem Port.quietedFrom_grant {x y : Port} (h : x.quietedFrom y) (g : Nat) : x.quietedFrom ({ y with grant := g } : Port).refreshRp :=
  ⟨h.st, h.pReady, h.gateOn, h.mode, h.cfg⟩

theorem State.svcLeave_body (s : State) (p q : PortId) : ((s.svcLeave p).port q).body = (s.port q).body := by
  rw [State.svcLeave_port]

/-- What a port that goes quiet is left with does not depend on what its messages had come to. -/
theorem Port.quietedFrom_congr {x x' y : Port} (hb : x'.body = x.body) (h : x'.quietedFrom y) : x.quietedFrom y := by
  obtain ⟨hst, hp, hg, hm, hcfg⟩ := h
  rw [Port.st_of_body hb] at hst
  exact ⟨hst, hp, hg, hm, hcfg.trans (Port.cfg_of_body hb)⟩

theorem State.dropPort_quiet (s : State) (p : PortId) (st r : Nat) (b : Beat) :
    (s.port p).quietedFrom ((s.dropPort p st r (Port.quiet (isService p) b)).port p) := by
  have hbody : (((s.endWork p st r).svcLeave p).port p).body = (s.port p).body := by
    rw [State.svcLeave_body, State.endWork_body]
  refine Port.quietedFrom_congr hbody ?_
  obtain h | ⟨g, h⟩ := State.port_updPort ((s.endWork p st r).svcLeave p) p (Port.quiet (isService p) b)
  · rw [State.dropPort, h]
    exact Port.quiet_quietedFrom _ _ _
  · rw [State.dropPort, h]
    have hgrant := Port.quietedFrom_grant (Port.quiet_quietedFrom (isService p) b (((s.endWork p st r).svcLeave p).port p)) g
    exact hgrant

/-- A port that goes quiet twice is as after the first time. -/
theorem Port.quietedFrom_trans {x y z : Port} (h1 : x.quietedFrom y) (h2 : y.quietedFrom z) : x.quietedFrom z := by
  obtain ⟨hst, -, -, -, hcfg⟩ := h1
  obtain ⟨hst', hp, hg, hm, hcfg'⟩ := h2
  refine ⟨?_, hp, hg, hm, hcfg'.trans hcfg⟩
  rw [hst', hst]
  by_cases hd : x.tc.st.down = true
  · rw [if_pos hd, if_pos hd]
  · rw [if_neg hd, ite_self]

/-- Every port of the list goes quiet. -/
theorem State.quietPorts_quietedFrom : ∀ (ps : List PortId) (s : State) (q : PortId), q ∈ ps →
    (s.port q).quietedFrom ((s.quietPorts ps).port q)
  | [], _, _, h => absurd h List.not_mem_nil
  | p :: ps, s, q, h => by
    have step : s.quietPorts (p :: ps) = (s.dropPort p 0x85 8 (Port.quiet (isService p) s.now)).quietPorts ps := rfl
    rw [step]
    by_cases hin : q ∈ ps
    · have ih := State.quietPorts_quietedFrom ps (s.dropPort p 0x85 8 (Port.quiet (isService p) s.now)) q hin
      by_cases e : q = p
      · subst e; exact Port.quietedFrom_trans (s.dropPort_quiet q 0x85 8 s.now) ih
      · rwa [State.dropPort_port_ne _ _ _ _ _ e] at ih
    · obtain rfl : q = p := (List.mem_cons.mp h).resolve_right hin
      rw [(State.quietPorts_port ps _ q).2 hin]
      exact s.dropPort_quiet q 0x85 8 s.now

@[simp] theorem State.quietPorts_rest (s : State) (ps : List PortId) : (s.quietPorts ps).rest = s.rest := by
  induction ps generalizing s with
  | nil => rfl
  | cons p ps ih => exact (ih _).trans (State.dropPort_rest _ _ _ _ _)

/-- A raise leaves quiet ports quiet. -/
theorem Port.quietedFrom_raise {x : Port} (s : State) (r : Raise) (q : PortId) (h : x.quietedFrom (s.port q)) :
    x.quietedFrom ((s.raise r).port q) := by
  obtain ⟨hst, hp, hg, hm, hcfg⟩ := h
  exact ⟨(State.raise_st s r q).trans hst, portKept_pReady.raise s r q hp, portKept_gateOn.raise s r q hg, portKept_idle.raise s r q hm,
    (State.raise_cfg s r q).trans hcfg⟩

end Sys2Proof.Machine
end

section
/-! Entries to connection states, field by field: what each entry writes of the port, and what it leaves (R101, R105, R108–R111, R119, R123). -/

namespace Sys2Proof.Machine

/-! ### Timers -/

variable (x : Port)

@[simp] theorem Port.setTimer_timers (i : Fin 12) (t : Timer) : (x.setTimer i t).timers = x.timers.set i t := rfl
@[simp] theorem Port.arm_timers (i : Fin 12) (u : Use) (n : Nat) : (x.arm i u n).timers = x.timers.set i (Timer.armed' u n) := rfl
@[simp] theorem Port.disarm_timers (i : Fin 12) : (x.disarm i).timers = x.timers.set i Timer.idle := rfl
@[simp] theorem Port.arm_cfg (i : Fin 12) (u : Use) (n : Nat) : (x.arm i u n).cfg = x.cfg := rfl
@[simp] theorem Port.disarm_cfg (i : Fin 12) : (x.disarm i).cfg = x.cfg := rfl
@[simp] theorem Port.arm_pd (i : Fin 12) (u : Use) (n : Nat) : (x.arm i u n).pd = x.pd := rfl
@[simp] theorem Port.disarm_pd (i : Fin 12) : (x.disarm i).pd = x.pd := rfl
@[simp] theorem Port.arm_ctx (i : Fin 12) (u : Use) (n : Nat) : (x.arm i u n).ctx = x.ctx := rfl
@[simp] theorem Port.disarm_ctx (i : Fin 12) : (x.disarm i).ctx = x.ctx := rfl
@[simp] theorem Port.arm_stage (i : Fin 12) (u : Use) (n : Nat) : (x.arm i u n).stage = x.stage := rfl
@[simp] theorem Port.disarm_stage (i : Fin 12) : (x.disarm i).stage = x.stage := rfl
@[simp] theorem Port.arm_guard (i : Fin 12) (u : Use) (n : Nat) : (x.arm i u n).guard = x.guard := rfl
@[simp] theorem Port.disarm_guard (i : Fin 12) : (x.disarm i).guard = x.guard := rfl
@[simp] theorem Port.arm_phy (i : Fin 12) (u : Use) (n : Nat) : (x.arm i u n).phy = x.phy := rfl
@[simp] theorem Port.disarm_phy (i : Fin 12) : (x.disarm i).phy = x.phy := rfl
@[simp] theorem Port.arm_harn (i : Fin 12) (u : Use) (n : Nat) : (x.arm i u n).harn = x.harn := rfl
@[simp] theorem Port.disarm_harn (i : Fin 12) : (x.disarm i).harn = x.harn := rfl
@[simp] theorem Port.arm_moist (i : Fin 12) (u : Use) (n : Nat) : (x.arm i u n).moist = x.moist := rfl
@[simp] theorem Port.disarm_moist (i : Fin 12) : (x.disarm i).moist = x.moist := rfl

/-! ### Any entry -/

variable (svc : Bool) (b : Beat) (st : Tc)

@[simp] theorem Port.enter_orient : (Port.enter svc b st x).tc.orient = x.tc.orient := by
  unfold Port.enter; dsimp only; split <;> rfl
@[simp] theorem Port.enter_role : (Port.enter svc b st x).tc.role = x.tc.role := by
  unfold Port.enter; dsimp only; split <;> rfl
@[simp] theorem Port.enter_vconnOn : (Port.enter svc b st x).tc.vconnOn = x.tc.vconnOn := by
  unfold Port.enter; dsimp only; split <;> rfl
@[simp] theorem Port.enter_phy : (Port.enter svc b st x).phy = x.phy := by
  unfold Port.enter; dsimp only; split <;> rfl
@[simp] theorem Port.enter_ctx : (Port.enter svc b st x).ctx = x.ctx := by
  unfold Port.enter; dsimp only; split <;> rfl
@[simp] theorem Port.enter_pd : (Port.enter svc b st x).pd = x.pd := by
  unfold Port.enter; dsimp only; split <;> rfl

@[simp] theorem Port.enter_cls : (Port.enter svc b st x).moist.cls = x.moist.cls := by
  unfold Port.enter; dsimp only; split <;> rfl
@[simp] theorem Port.enter_sweeps : (Port.enter svc b st x).moist.sweeps = x.moist.sweeps := by
  unfold Port.enter; dsimp only; split <;> rfl
@[simp] theorem Port.enter_wet : (Port.enter svc b st x).tc.wet = x.tc.wet := by
  unfold Port.enter; dsimp only; split <;> rfl

/-- The CC and health timers are idle after an entry, and in DISABLED every timer. -/
@[simp] theorem Port.enter_timers :
    (Port.enter svc b st x).timers
      = if st == .disabled then Vector.replicate 12 Timer.idle else (x.timers.set tCc Timer.idle).set tHealth Timer.idle := by
  unfold Port.enter; dsimp only; split <;> rfl

/-! ### Unattached states -/

variable (snk : Bool) (left : Option Nat)

/-- The port that takes up its role's unattached state: role and TRY of ROLE_CFG, nothing of the partner's. -/
def Port.reroled : Port :=
  { x with tc := { x.tc with
    role := x.roleOf, tryMode := BitVec.ofNat 2 x.tryOf, orient := false, rpSeen := 0, rpCand := 0, rpRun := 0 } }

/-- An unattached entry is the entry to the state of its side, but for the toggle timer of a DRP port. -/
theorem Port.toUnattached_eq :
    ∃ tm, x.toUnattached svc b snk left
      = { Port.enter svc b (if x.entrySide snk then .unattachedSnk else .unattachedSrc) x.reroled with timers := tm } := by
  unfold Port.toUnattached
  dsimp only
  rw [← Port.reroled]
  generalize Port.enter svc b (if x.entrySide snk then .unattachedSnk else .unattachedSrc) x.reroled = y
  split
  · exact ⟨_, rfl⟩
  · exact ⟨_, rfl⟩

@[simp] theorem Port.toUnattached_st : (x.toUnattached svc b snk left).tc.st = if x.entrySide snk then .unattachedSnk else .unattachedSrc := by
  obtain ⟨tm, h⟩ := x.toUnattached_eq svc b snk left
  simp [h, Port.reroled]
@[simp] theorem Port.toUnattached_role : (x.toUnattached svc b snk left).tc.role = x.roleOf := by
  obtain ⟨tm, h⟩ := x.toUnattached_eq svc b snk left
  simp [h, Port.reroled]
@[simp] theorem Port.toUnattached_vconnOn : (x.toUnattached svc b snk left).tc.vconnOn = x.tc.vconnOn := by
  obtain ⟨tm, h⟩ := x.toUnattached_eq svc b snk left
  simp [h, Port.reroled]
@[simp] theorem Port.toUnattached_pd : (x.toUnattached svc b snk left).pd = x.pd := by
  obtain ⟨tm, h⟩ := x.toUnattached_eq svc b snk left
  simp [h, Port.reroled]
@[simp] theorem Port.toUnattached_ctx : (x.toUnattached svc b snk left).ctx = x.ctx := by
  obtain ⟨tm, h⟩ := x.toUnattached_eq svc b snk left
  simp [h, Port.reroled]
@[simp] theorem Port.toUnattached_cfg : (x.toUnattached svc b snk left).cfg = x.cfg := by
  obtain ⟨tm, h⟩ := x.toUnattached_eq svc b snk left
  simp [h, Port.reroled]
@[simp] theorem Port.toUnattached_phy : (x.toUnattached svc b snk left).phy = x.phy := by
  obtain ⟨tm, h⟩ := x.toUnattached_eq svc b snk left
  simp [h, Port.reroled]
@[simp] theorem Port.toUnattached_stage : (x.toUnattached svc b snk left).stage = x.stage := by
  obtain ⟨tm, h⟩ := x.toUnattached_eq svc b snk left
  simp [h, Port.reroled]
@[simp] theorem Port.toUnattached_gateOn : (x.toUnattached svc b snk left).guard.gateOn = x.guard.gateOn := by
  obtain ⟨tm, h⟩ := x.toUnattached_eq svc b snk left
  simp [h, Port.reroled]
@[simp] theorem Port.toUnattached_harn : (x.toUnattached svc b snk left).harn = x.harn := by
  obtain ⟨tm, h⟩ := x.toUnattached_eq svc b snk left
  simp [h, Port.reroled]

@[simp] theorem Port.toUnattached_cls : (x.toUnattached svc b snk left).moist.cls = x.moist.cls := by
  obtain ⟨tm, h⟩ := x.toUnattached_eq svc b snk left
  simp [h, Port.reroled]
@[simp] theorem Port.toUnattached_sweeps : (x.toUnattached svc b snk left).moist.sweeps = x.moist.sweeps := by
  obtain ⟨tm, h⟩ := x.toUnattached_eq svc b snk left
  simp [h, Port.reroled]

/-- The interval that a DRP port toggles after is that of its parameters. -/
theorem Port.drpTimes_of_cfg {x y : Port} (h : y.cfg = x.cfg) : y.tDrp = x.tDrp ∧ y.srcPart = x.srcPart := by
  unfold Port.srcPart Port.tDrp Port.duty
  rw [h]
  exact ⟨rfl, rfl⟩

/-- A DRP port toggles after the part of the cycle that it presents; the timer of a port with one role is idle. -/
theorem Port.toUnattached_tCc :
    (x.toUnattached svc b snk left).timers[tCc]
      = if x.roleOf = 2 then Timer.armed' .drpToggle (left.getD (if x.entrySide snk then x.tDrp - x.srcPart else x.srcPart)) else Timer.idle := by
  unfold Port.toUnattached
  dsimp only
  rw [← Port.reroled]
  obtain ⟨hd, hp⟩ := Port.drpTimes_of_cfg (x := x) (y := Port.enter svc b (if x.entrySide snk then .unattachedSnk else .unattachedSrc) x.reroled)
    (by simp [Port.reroled])
  rw [hd, hp]
  have hrole : (Port.enter svc b (if x.entrySide snk then .unattachedSnk else .unattachedSrc) x.reroled).tc.role = x.roleOf := by
    simp [Port.reroled]
  have hst : ((if x.entrySide snk then Tc.unattachedSnk else Tc.unattachedSrc) == Tc.disabled) = false := by
    split <;> rfl
  rw [hrole]
  by_cases h : x.roleOf = 2
  · simp [h]
  · have hb : ¬ (x.roleOf == 2) = true := fun hb => h (eq_of_beq hb)
    rw [if_neg hb, if_neg h]
    simp [hst, tCc, tHealth]

/-! ### The state of a role -/

/-- The state of a role is one of the two unattached states, with the rest of the port as that entry leaves it. -/
theorem Port.toRoleState_eq (phase : Nat) :
    ∃ snk left, x.toRoleState svc b phase = x.toUnattached svc b snk left ∧ (x.roleOf = 0 → snk = false) ∧ (x.roleOf = 1 → snk = true) := by
  unfold Port.toRoleState
  dsimp only
  split
  · next h0 => exact ⟨_, _, rfl, fun _ => rfl, fun h1 => by simp [h1] at h0⟩
  · next h0 =>
    split
    · next h1 => exact ⟨_, _, rfl, fun h => by simp [h] at h0, fun _ => rfl⟩
    · next h1 =>
      split
      · exact ⟨_, _, rfl, fun h => by simp [h] at h0, fun h => by simp [h] at h1⟩
      · exact ⟨_, _, rfl, fun h => by simp [h] at h0, fun h => by simp [h] at h1⟩

/-! ### Try states -/

@[simp] theorem Port.toTry_st : (x.toTry svc b st).tc.st = st := by
  unfold Port.toTry
  dsimp only
  split <;> simp
@[simp] theorem Port.toTry_pd : (x.toTry svc b st).pd = x.pd := by
  unfold Port.toTry
  dsimp only
  split <;> simp

theorem Port.tcTry_of_cfg {x y : Port} (h : y.cfg = x.cfg) :
    y.tDrpTry = x.tDrpTry ∧ y.tTryWait = x.tTryWait ∧ y.tTryTimeout = x.tTryTimeout ∧ y.tPdDeb = x.tPdDeb := by
  unfold Port.tDrpTry Port.tTryWait Port.tTryTimeout Port.tPdDeb
  rw [h]
  exact ⟨rfl, rfl, rfl, rfl⟩

theorem Port.toTry_trySrc : (x.toTry svc b .trySrc).timers[tCc] = Timer.armed' .drpTry x.tDrpTry
    ∧ (x.toTry svc b .trySrc).timers[tHealth] = Timer.armed' .tryTimeout x.tTryTimeout := by
  obtain ⟨hd, -, ht, -⟩ := Port.tcTry_of_cfg (Port.enter_cfg svc b .trySrc x)
  simp [Port.toTry, hd, ht, tCc, tHealth]
theorem Port.toTry_trySnk : (x.toTry svc b .trySnk).timers[tCc] = Timer.armed' .drpTry x.tDrpTry
    ∧ (x.toTry svc b .trySnk).timers[tHealth] = Timer.armed' .tryWait x.tTryWait := by
  obtain ⟨hd, hw, -, -⟩ := Port.tcTry_of_cfg (Port.enter_cfg svc b .trySnk x)
  simp [Port.toTry, hd, hw, tCc, tHealth]
theorem Port.toTry_tryWaitSrc : (x.toTry svc b .tryWaitSrc).timers[tCc] = Timer.armed' .drpTry x.tDrpTry := by
  obtain ⟨hd, -, -, -⟩ := Port.tcTry_of_cfg (Port.enter_cfg svc b .tryWaitSrc x)
  simp [Port.toTry, hd]
theorem Port.toTry_tryWaitSnk : (x.toTry svc b .tryWaitSnk).timers[tCc] = Timer.armed' .pdDebounce x.tPdDeb := by
  obtain ⟨-, -, -, hp⟩ := Port.tcTry_of_cfg (Port.enter_cfg svc b .tryWaitSnk x)
  simp [Port.toTry, hp]

/-! ### Attached states -/

@[simp] theorem Port.setReady_st : x.setReady.tc.st = x.tc.st := rfl
@[simp] theorem Port.setReady_harn : x.setReady.harn = x.harn := rfl
/-- The port's P bit may be set on the way, and nothing else. -/
theorem Port.readyIfPending_eq : ∃ v, x.readyIfPending = { x with tc := { x.tc with pReady := v } } := by
  unfold Port.readyIfPending
  split
  · exact ⟨_, rfl⟩
  · exact ⟨_, rfl⟩

@[simp] theorem Port.readyIfPending_st : x.readyIfPending.tc.st = x.tc.st := by
  obtain ⟨v, h⟩ := x.readyIfPending_eq
  rw [h]
@[simp] theorem Port.readyIfPending_orient : x.readyIfPending.tc.orient = x.tc.orient := by
  obtain ⟨v, h⟩ := x.readyIfPending_eq
  rw [h]
@[simp] theorem Port.readyIfPending_timers : x.readyIfPending.timers = x.timers := by
  obtain ⟨v, h⟩ := x.readyIfPending_eq
  rw [h]
@[simp] theorem Port.readyIfPending_pd : x.readyIfPending.pd = x.pd := by
  obtain ⟨v, h⟩ := x.readyIfPending_eq
  rw [h]
@[simp] theorem Port.readyIfPending_phy : x.readyIfPending.phy = x.phy := by
  obtain ⟨v, h⟩ := x.readyIfPending_eq
  rw [h]
@[simp] theorem Port.readyIfPending_stage : x.readyIfPending.stage = x.stage := by
  obtain ⟨v, h⟩ := x.readyIfPending_eq
  rw [h]
@[simp] theorem Port.readyIfPending_guard : x.readyIfPending.guard = x.guard := by
  obtain ⟨v, h⟩ := x.readyIfPending_eq
  rw [h]
@[simp] theorem Port.readyIfPending_cfg : x.readyIfPending.cfg = x.cfg := by
  obtain ⟨v, h⟩ := x.readyIfPending_eq
  rw [h]
@[simp] theorem Port.readyIfPending_ctx : x.readyIfPending.ctx = x.ctx := by
  obtain ⟨v, h⟩ := x.readyIfPending_eq
  rw [h]
@[simp] theorem Port.readyIfPending_harn : x.readyIfPending.harn = x.harn := by
  obtain ⟨v, h⟩ := x.readyIfPending_eq
  rw [h]

/-- A gate commanded on changes the guard alone. -/
theorem Port.gateOnCmd_eq : ∃ g, x.gateOnCmd b = { x with guard := g } := by
  unfold Port.gateOnCmd Port.gateDrive
  dsimp only
  split
  · exact ⟨_, rfl⟩
  · split
    · exact ⟨_, rfl⟩
    · exact ⟨_, rfl⟩

/-- The stage that drives VBUS to vSafe5V. -/
theorem Port.driveFive_eq :
    ∃ g, x.driveFive b
      = { x with stage := { x.stage with want := .forward, vTgt := five, iTgt := rpAmps x.advLevel }, guard := g } := by
  obtain ⟨g, h⟩ := Port.gateOnCmd_eq { x with stage := { x.stage with want := .forward, vTgt := five, iTgt := rpAmps x.advLevel } } b
  exact ⟨g, h⟩

/-- Roles of an attach. -/
def Pd.attachedAs (source : Bool) (d : Pd) : Pd := { d with attachSource := source, powerSource := source, dfp := source }

/-- ATTACHED_SNK: the state and the line of its entry, Planish on the safe set, the roles of a Sink, and tSinkWaitCap. -/
theorem Port.toAttachedSnk_eq :
    ∃ y g, x.toAttachedSnk svc b
        = { y with phy := x.attachPhy.phy, pd := x.pd.attachedAs false, guard := g
                   timers := y.timers.set tCaps (Timer.armed' .sinkWaitCap (ms 465)) }
      ∧ y = Port.enter svc b .attachedSnk { x with tc := { x.tc with orient := x.tc.cc1 == .opened || x.tc.cc1 == .ra } } := by
  unfold Port.toAttachedSnk
  dsimp only
  generalize hy : Port.enter svc b .attachedSnk { x with tc := { x.tc with orient := x.tc.cc1 == .opened || x.tc.cc1 == .ra } } = y
  obtain ⟨g, h⟩ := ((y.attachPhy).attachRoles false).gateOnCmd_eq b
  have hphy : y.phy = x.phy := by simp [← hy]
  have hpd : y.pd = x.pd := by simp [← hy]
  have hcfg : y.cfg = x.cfg := by simp [← hy]
  refine ⟨y, g, ?_, rfl⟩
  rw [h]
  unfold Port.attachRoles Port.attachPhy Port.arm Port.setTimer Pd.attachedAs
  rw [hphy, hpd, hcfg]

@[simp] theorem Port.toAttachedSnk_st : (x.toAttachedSnk svc b).tc.st = .attachedSnk := by
  obtain ⟨y, g, h, rfl⟩ := x.toAttachedSnk_eq svc b
  simp [h]
@[simp] theorem Port.toAttachedSnk_orient : (x.toAttachedSnk svc b).tc.orient = (x.tc.cc1 == .opened || x.tc.cc1 == .ra) := by
  obtain ⟨y, g, h, rfl⟩ := x.toAttachedSnk_eq svc b
  simp [h]
@[simp] theorem Port.toAttachedSnk_pd : (x.toAttachedSnk svc b).pd = x.pd.attachedAs false := by
  obtain ⟨y, g, h, rfl⟩ := x.toAttachedSnk_eq svc b
  simp [h]
@[simp] theorem Port.toAttachedSnk_phy : (x.toAttachedSnk svc b).phy = x.attachPhy.phy := by
  obtain ⟨y, g, h, rfl⟩ := x.toAttachedSnk_eq svc b
  simp [h]
@[simp] theorem Port.toAttachedSnk_harn : (x.toAttachedSnk svc b).harn = x.harn := by
  obtain ⟨y, g, h, rfl⟩ := x.toAttachedSnk_eq svc b
  simp [h]
@[simp] theorem Port.toAttachedSnk_tCaps : (x.toAttachedSnk svc b).timers[tCaps] = Timer.armed' .sinkWaitCap (ms 465) := by
  obtain ⟨y, g, h, rfl⟩ := x.toAttachedSnk_eq svc b
  simp [h]

/-- VCONN on, as its entry to ATTACHED_SRC turns it on or not: the state and the line stay, and the Policy Engine but for its discovery. -/
def Port.withVconn (b : Beat) (good : Bool) (z : Port) : Port :=
  if z.vconnWanted good then ((z.vconnOnAt b).syncVconn).startDiscover
  else { z with pd := { z.pd with discovered := true } }

theorem Port.withVconn_eq (good : Bool) :
    ∃ t d c tm, x.withVconn b good = { x with tc := t, pd := { x.pd with discovered := d }, ctx := c, timers := tm }
      ∧ t.st = x.tc.st ∧ t.orient = x.tc.orient := by
  unfold Port.withVconn
  split
  · exact ⟨_, _, _, _, rfl, rfl, rfl⟩
  · exact ⟨_, _, _, _, rfl, rfl, rfl⟩

/-- ATTACHED_SRC: the state and the line of its entry, Planish on the safe set, the roles of a Source, capabilities due, and the stage
told to drive vSafe5V. -/
theorem Port.toAttachedSrc_spec (good : Bool) (imax : Byte) :
    (x.toAttachedSrc svc b good imax).tc.st = .attachedSrc
      ∧ (x.toAttachedSrc svc b good imax).tc.orient = (x.tc.cc1 != .rd)
      ∧ (x.toAttachedSrc svc b good imax).pd.powerSource = true
      ∧ (x.toAttachedSrc svc b good imax).pd.dfp = true
      ∧ (x.toAttachedSrc svc b good imax).pd.attachSource = true
      ∧ (x.toAttachedSrc svc b good imax).pd.capsDue = true
      ∧ (x.toAttachedSrc svc b good imax).phy = x.attachPhy.phy
      ∧ (x.toAttachedSrc svc b good imax).stage.want = .forward
      ∧ (x.toAttachedSrc svc b good imax).stage.vTgt = 250 := by
  unfold Port.toAttachedSrc
  dsimp only
  generalize hy : (Port.enter svc b .attachedSrc { x with tc := { x.tc with orient := x.tc.cc1 != .rd } }).readyIfPending = y
  obtain ⟨g, hg⟩ := (((y.attachPhy).attachRoles true).assumeCable imax).driveFive_eq b
  rw [← Port.withVconn]
  obtain ⟨t, d, c, tm, h, hst, horient⟩ := Port.withVconn_eq ((((y.attachPhy).attachRoles true).assumeCable imax).driveFive b) b good
  rw [h]
  rw [hg] at hst horient ⊢
  have hyst : y.tc.st = .attachedSrc := by simp [← hy]
  have hyor : y.tc.orient = (x.tc.cc1 != .rd) := by simp [← hy]
  have hyphy : y.attachPhy.phy = x.attachPhy.phy := by simp [← hy, Port.attachPhy]
  exact ⟨hst.trans hyst, horient.trans hyor, rfl, rfl, rfl, rfl, hyphy, rfl, rfl⟩

/-! ### Accessory and debug states -/

@[simp] theorem Port.toAccessory_st : (x.toAccessory svc b st).tc.st = st := by
  unfold Port.toAccessory
  dsimp only
  generalize hy : (Port.enter svc b st { x with tc := { x.tc with orient := x.tc.cc1 == .opened || x.tc.cc1 == .ra } }).readyIfPending = y
  obtain ⟨g, hg⟩ := (((y.attachPhy).attachRoles (st == .debugAccSrc))).driveFive_eq b
  have hst : y.tc.st = st := by simp [← hy]
  rw [hg]
  (repeat' split) <;> exact hst
@[simp] theorem Port.toAccessory_orient : (x.toAccessory svc b st).tc.orient = (x.tc.cc1 == .opened || x.tc.cc1 == .ra) := by
  unfold Port.toAccessory
  dsimp only
  generalize hy : (Port.enter svc b st { x with tc := { x.tc with orient := x.tc.cc1 == .opened || x.tc.cc1 == .ra } }).readyIfPending = y
  obtain ⟨g, hg⟩ := (((y.attachPhy).attachRoles (st == .debugAccSrc))).driveFive_eq b
  have horient : y.tc.orient = (x.tc.cc1 == .opened || x.tc.cc1 == .ra) := by simp [← hy]
  rw [hg]
  (repeat' split) <;> exact horient

/-- An audio accessory leaves the Policy Engine, the PHY and the stage alone. -/
theorem Port.toAccessory_audio :
    (x.toAccessory svc b .audioAcc).pd = x.pd ∧ (x.toAccessory svc b .audioAcc).phy = x.phy
      ∧ (x.toAccessory svc b .audioAcc).stage = x.stage := by
  simp [Port.toAccessory]

/-- A debug accessory takes the roles of its side, and its PHY the safe set. -/
theorem Port.toAccessory_debug (h : st ≠ .audioAcc) :
    (x.toAccessory svc b st).pd.powerSource = (st == .debugAccSrc) ∧ (x.toAccessory svc b st).pd.dfp = (st == .debugAccSrc)
      ∧ (x.toAccessory svc b st).phy = x.attachPhy.phy
      ∧ ((svc && st == .debugAccSrc) = false → (x.toAccessory svc b st).stage.want = x.stage.want) := by
  unfold Port.toAccessory
  dsimp only
  generalize hy : (Port.enter svc b st { x with tc := { x.tc with orient := x.tc.cc1 == .opened || x.tc.cc1 == .ra } }).readyIfPending = y
  obtain ⟨g, hg⟩ := (((y.attachPhy).attachRoles (st == .debugAccSrc))).driveFive_eq b
  have hphy : y.attachPhy.phy = x.attachPhy.phy := by simp [← hy, Port.attachPhy]
  have hstage : y.stage = x.stage := by simp [← hy]
  have hwant : y.stage.want = x.stage.want := by rw [hstage]
  rw [hg, if_neg (by simpa using h)]
  split
  · next hs => exact ⟨rfl, rfl, hphy, fun hn => by simp [hn] at hs⟩
  · split
    · exact ⟨rfl, rfl, hphy, fun _ => hwant⟩
    · exact ⟨rfl, rfl, hphy, fun _ => hwant⟩

end Sys2Proof.Machine
end

section
/-! Leaving an attached state, and a change of a port that sends nothing (R109, R111, R123, R181, R229). -/

namespace Sys2Proof.Machine

variable (x : Port) (svc feed : Bool) (b : Beat)

/-! ### The power path falls -/

@[simp] theorem Port.powerDown_st : (x.powerDown b feed).tc.st = x.tc.st := by
  unfold Port.powerDown Port.discharge Port.dropPd Port.vconnOff Port.gateOff Port.stageHalt
  rfl
@[simp] theorem Port.powerDown_cfg : (x.powerDown b feed).cfg = x.cfg := by
  unfold Port.powerDown Port.discharge Port.dropPd Port.vconnOff Port.gateOff Port.stageHalt
  rfl
@[simp] theorem Port.powerDown_harn : (x.powerDown b feed).harn = x.harn := by
  unfold Port.powerDown Port.discharge Port.dropPd Port.vconnOff Port.gateOff Port.stageHalt
  rfl
@[simp] theorem Port.powerDown_moist : (x.powerDown b feed).moist = x.moist := by
  unfold Port.powerDown Port.discharge Port.dropPd Port.vconnOff Port.gateOff Port.stageHalt
  rfl
@[simp] theorem Port.powerDown_vconnOn : (x.powerDown b feed).tc.vconnOn = false := by
  unfold Port.powerDown Port.discharge Port.dropPd Port.vconnOff Port.gateOff Port.stageHalt
  rfl
@[simp] theorem Port.powerDown_gateOn : (x.powerDown b feed).guard.gateOn = false := by
  unfold Port.powerDown Port.discharge Port.dropPd Port.vconnOff Port.gateOff Port.stageHalt
  rfl
@[simp] theorem Port.powerDown_mode : (x.powerDown b feed).stage.mode = .idle := by
  unfold Port.powerDown Port.discharge Port.dropPd Port.vconnOff Port.gateOff Port.stageHalt
  rfl
@[simp] theorem Port.powerDown_disH : (x.powerDown b feed).stage.disH = true := by
  unfold Port.powerDown Port.discharge Port.dropPd Port.vconnOff Port.gateOff Port.stageHalt
  rfl
@[simp] theorem Port.powerDown_cal : (x.powerDown b feed).phy.cal = .off := by
  unfold Port.powerDown Port.discharge Port.dropPd Port.vconnOff Port.gateOff Port.stageHalt
  rfl
@[simp] theorem Port.powerDown_contract : (x.powerDown b feed).pd.contract = Contract.none := by
  unfold Port.powerDown Port.discharge Port.dropPd Port.vconnOff Port.gateOff Port.stageHalt
  rfl
theorem Port.powerDown_entrySide (snk : Bool) : (x.powerDown b feed).entrySide snk = x.entrySide snk := by
  unfold Port.entrySide Port.roleOf
  rw [Port.powerDown_cfg]
  rfl
theorem Port.powerDown_roleOf : (x.powerDown b feed).roleOf = x.roleOf := by
  unfold Port.roleOf
  rw [Port.powerDown_cfg]

/-! ### DRY_WAIT and calibration -/

theorem Port.toDryWait_spec (why : DryWhy) :
    (x.toDryWait svc b feed why).tc.st = .dryWait
      ∧ (x.toDryWait svc b feed why).moist.why = some why
      ∧ (why = .rdImplausible → (x.toDryWait svc b feed why).moist.rdImplausible = true)
      ∧ (x.toDryWait svc b feed why).timers[tHealth] = Timer.armed' .dryRecheck (25000 * fld x.cfg.dryRecheck 0 16)
      ∧ (x.toDryWait svc b feed why).tc.pres1 = .none
      ∧ (x.toDryWait svc b feed why).tc.pres2 = .none := by
  unfold Port.toDryWait
  dsimp only
  refine ⟨by simp, rfl, fun h => by simp [h], by simp, ?_, ?_⟩
  all_goals
    unfold Port.enter
    rfl

/-- The record of the last sweep stays through the entry. -/
theorem Port.toDryWait_record (why : DryWhy) :
    (x.toDryWait svc b feed why).moist.cls = x.moist.cls ∧ (x.toDryWait svc b feed why).moist.sweeps = x.moist.sweeps
      ∧ (x.toDryWait svc b feed why).tc.wet = x.tc.wet := by
  unfold Port.toDryWait
  dsimp only
  rw [Port.arm_tc, Port.enter_cls, Port.enter_sweeps, Port.enter_wet]
  split
  · rw [Port.powerDown_moist]
    exact ⟨rfl, rfl, rfl⟩
  · exact ⟨rfl, rfl, rfl⟩

@[simp] theorem Port.startSteps_st : (x.startSteps svc b).tc.st = .calibrating := by simp [Port.startSteps]

/-! ### A change that moves neither the state nor the parameters -/

/-- The parts of a port that its events, its floor and the budget look at. -/
def Port.shown (x : Port) := (x.tc.st, x.tc.pReady, x.cfg, x.pd.contract, x.pd.cable, x.stage)

theorem floorOf_of_shown {x y : Port} (h : y.shown = x.shown) (s : State) : floorOf (s.classOf y) s.budget y = floorOf (s.classOf x) s.budget x := by
  simp only [Port.shown, Prod.mk.injEq] at h
  obtain ⟨hst, -, hcfg, -⟩ := h
  have hclass : s.classOf y = s.classOf x := by
    have hidx : y.classIdx = x.classIdx := by
      unfold Port.classIdx
      rw [hcfg]
    unfold State.classOf
    simp only [hidx]
  unfold floorOf Port.roleOf
  rw [hclass, hst, hcfg]

theorem budgetTrigger_of_shown {x y : Port} (h : y.shown = x.shown) : budgetTrigger x y = false := by
  simp only [Port.shown, Prod.mk.injEq] at h
  obtain ⟨hst, -, -, hc, hk, -⟩ := h
  simp [budgetTrigger, hst, hc, hk]

theorem logKinds_of_shown {x y : Port} (h : y.shown = x.shown) : logKinds x y = [] := by
  simp only [Port.shown, Prod.mk.injEq] at h
  obtain ⟨-, -, -, hc, -, hg⟩ := h
  unfold logKinds
  rw [hc, hg]
  have hself (a : Bool) : (a && !a) = false := by cases a <;> rfl
  simp only [bne, hself, Bool.and_comm (!_)]
  simp

theorem portEvents_of_shown {x y : Port} (h : y.shown = x.shown) (s : State) (p : PortId) : portEvents p s x y = s.pool := by
  have hst : y.tc.st = x.tc.st := congrArg (fun r => r.1) h
  have hc : y.pd.contract = x.pd.contract := congrArg (fun r => r.2.2.2.1) h
  have hpos : (x.pd.contract.pos != 0 && y.pd.contract.pos == 0) = false := by simp [hc]
  have hev : stateEvent x.tc.st y.tc.st = false := by simp [stateEvent, hst]
  unfold portEvents
  dsimp only
  rw [logKinds_of_shown h, hpos, hev]
  rfl

/-- Such a change is the change of the port alone, without an event, a new grant or an allocation. -/
theorem State.updPort_of_shown {s : State} {p : PortId} {f : Port → Port} (h : (f (s.port p)).shown = (s.port p).shown) :
    s.updPort p f = s.modPort p f := by
  have hst : ((f (s.port p)).tc.pReady) = (s.port p).tc.pReady := congrArg (fun r => r.2.1) h
  unfold State.updPort
  dsimp only
  rw [show s.ports[p] = s.port p from rfl, budgetTrigger_of_shown h, floorOf_of_shown h]
  have hfloor : (false && s.feed.brownout
      || !s.divides && floorOf (s.classOf (s.port p)) s.budget (s.port p) != floorOf (s.classOf (s.port p)) s.budget (s.port p)) = false := by
    simp
  rw [hfloor, if_neg Bool.false_ne_true, if_neg Bool.false_ne_true, portEvents_of_shown h, hst]
  simp [State.modPort, State.port]

theorem State.updPort_timer (s : State) (p : PortId) (f : Port → Port) (i : Fin 12) :
    ((s.updPort p f).port p).timers[i] = (f (s.port p)).timers[i] := by
  rw [State.updPort_port_timers]

/-- A new grant, with the Rp that follows it, changes of the connection state the levels presented alone. -/
theorem State.updPort_still (s : State) (p : PortId) (f : Port → Port) : ((s.updPort p f).port p).tc.still = (f (s.port p)).tc.still := by
  obtain h | ⟨g, h⟩ := s.port_updPort p f
  · rw [h]
  · rw [h]; rfl
@[simp] theorem State.updPort_role (s : State) (p : PortId) (f : Port → Port) : ((s.updPort p f).port p).tc.role = (f (s.port p)).tc.role := by
  have h := congrArg TypeC.role (s.updPort_still p f)
  exact h
@[simp] theorem State.updPort_vconnOn (s : State) (p : PortId) (f : Port → Port) :
    ((s.updPort p f).port p).tc.vconnOn = (f (s.port p)).tc.vconnOn := by
  have h := congrArg TypeC.vconnOn (s.updPort_still p f)
  exact h

@[simp] theorem State.updPort_cc1 (s : State) (p : PortId) (f : Port → Port) : ((s.updPort p f).port p).tc.cc1 = (f (s.port p)).tc.cc1 := by
  have h := congrArg TypeC.cc1 (s.updPort_still p f)
  exact h
@[simp] theorem State.updPort_cc2 (s : State) (p : PortId) (f : Port → Port) : ((s.updPort p f).port p).tc.cc2 = (f (s.port p)).tc.cc2 := by
  have h := congrArg TypeC.cc2 (s.updPort_still p f)
  exact h

@[simp] theorem State.updPort_pReady (s : State) (p : PortId) (f : Port → Port) :
    ((s.updPort p f).port p).tc.pReady = (f (s.port p)).tc.pReady := by
  have h := congrArg TypeC.pReady (s.updPort_still p f)
  exact h

@[simp] theorem State.updPort_wet (s : State) (p : PortId) (f : Port → Port) : ((s.updPort p f).port p).tc.wet = (f (s.port p)).tc.wet := by
  have h := congrArg TypeC.wet (s.updPort_still p f)
  exact h
@[simp] theorem State.updPort_corroded (s : State) (p : PortId) (f : Port → Port) : ((s.updPort p f).port p).tc.corroded = (f (s.port p)).tc.corroded := by
  have h := congrArg TypeC.corroded (s.updPort_still p f)
  exact h
@[simp] theorem State.updPort_mute (s : State) (p : PortId) (f : Port → Port) : ((s.updPort p f).port p).tc.mute = (f (s.port p)).tc.mute := by
  have h := congrArg TypeC.mute (s.updPort_still p f)
  exact h

/-! ### Ending what the host had under way raises nothing -/

section
variable (s : State) (p : PortId)

@[simp] theorem State.completeNow_faults (st : Stream) (opc : Nat) (event : List Byte) : (s.completeNow st opc event).faults = s.faults := rfl
@[simp] theorem State.complete_faults (st : Stream) (opc tag status tgt port : Nat) (result : List Byte) :
    (s.complete st opc tag status tgt port result).faults = s.faults := by
  unfold State.complete State.answerLater
  dsimp only
  (repeat' split) <;> rfl
@[simp] theorem State.withdraw_faults : (s.withdraw p).faults = s.faults := by
  unfold State.withdraw
  dsimp only
  generalize s.policy.decisions.filter (fun d => d.port == p) = ds
  generalize hb : s.board.beat = b
  clear hb
  induction ds generalizing s with
  | nil => rfl
  | cons d ds ih => exact (ih _).trans (State.post_faults ..)
@[simp] theorem State.endSwapReq_faults (st r : Nat) : (s.endSwapReq p st r).faults = s.faults := by
  unfold State.endSwapReq
  split
  · rfl
  · simp
@[simp] theorem State.endSend_faults (st tx r : Nat) (d : List Byte) : (s.endSend p st tx r d).faults = s.faults := by
  unfold State.endSend
  split
  · rfl
  · simp
@[simp] theorem State.endSoft_faults (st tx a : Nat) : (s.endSoft p st tx a).faults = s.faults := by
  unfold State.endSoft
  split
  · rfl
  · simp
@[simp] theorem State.endVdm_faults (st r : Nat) (d : List Byte) : (s.endVdm p st r d).faults = s.faults := by
  unfold State.endVdm
  dsimp only
  (repeat' split) <;> simp
@[simp] theorem State.endWork_faults (st r : Nat) : (s.endWork p st r).faults = s.faults := by
  simp [State.endWork]
@[simp] theorem State.dropPort_faults (st r : Nat) (f : Port → Port) : (s.dropPort p st r f).faults = s.faults := by
  simp [State.dropPort]

/-- A port that is dropped takes the state `f` gives it from what its messages have left, which is its body still. -/
theorem State.dropPort_from (st r : Nat) (f : Port → Port) :
    ∃ x, x.body = (s.port p).body ∧ ((s.dropPort p st r f).port p).tc.st = (f x).tc.st
      ∧ ((s.dropPort p st r f).port p).tc.role = (f x).tc.role ∧ ((s.dropPort p st r f).port p).tc.vconnOn = (f x).tc.vconnOn
      ∧ ((s.dropPort p st r f).port p).cfg = (f x).cfg
      ∧ ((s.dropPort p st r f).port p).pd = (f x).pd ∧ ((s.dropPort p st r f).port p).guard = (f x).guard
      ∧ ((s.dropPort p st r f).port p).stage = (f x).stage ∧ ((s.dropPort p st r f).port p).phy = (f x).phy
      ∧ ((s.dropPort p st r f).port p).moist = (f x).moist ∧ ((s.dropPort p st r f).port p).harn = (f x).harn
      ∧ ((s.dropPort p st r f).port p).timers = (f x).timers := by
  refine ⟨((s.endWork p st r).svcLeave p).port p, by simp, ?_⟩
  unfold State.dropPort
  exact ⟨State.updPort_port_tc_st .., State.updPort_role .., State.updPort_vconnOn .., State.updPort_port_cfg .., State.updPort_port_pd .., State.updPort_port_guard .., State.updPort_port_stage ..,
    State.updPort_port_phy .., State.updPort_port_moist .., State.updPort_port_harn .., State.updPort_port_timers ..⟩

end

end Sys2Proof.Machine
end

section
/-! The Try states and the DRP toggle: what each expiry makes of its port (R105, R108). -/

namespace Sys2Proof.Machine

variable {x : Port} {svc : Bool} {b : Beat} {good : Bool} {imax : Byte}

/-! ### tTryCCDebounce -/

theorem Port.tryDebounced_src (hst : x.tc.st = .trySrc ∨ x.tc.st = .tryWaitSrc) :
    x.tryDebounced svc b good imax
      = if x.vSafe0 then (x.disarm tCc).toAttachedSrc svc b good imax else { x.disarm tCc with tc := { x.tc with debounced := true } } := by
  unfold Port.tryDebounced
  dsimp only
  rcases hst with hst | hst
  · rw [Port.disarm_tc, hst]; rfl
  · rw [Port.disarm_tc, hst]; rfl

theorem Port.tryDebounced_snk (hst : x.tc.st = .trySnk) :
    x.tryDebounced svc b good imax
      = if x.vbusPresent then ((x.disarm tCc).toAttachedSnk svc b).readyIfPending else { x.disarm tCc with tc := { x.tc with tryHeld := true } } := by
  unfold Port.tryDebounced
  dsimp only
  rw [Port.disarm_tc, hst]
  rfl

/-! ### The expiries, each where it acts -/

variable {s : State} {p : PortId}

/-- The other unattached state of a DRP port, or the state of a role that is no longer DRP. -/
def Port.toggled (svc : Bool) (b : Beat) (x : Port) : Port :=
  if x.roleOf == 2 then x.toUnattached svc b (x.tc.st == .unattachedSrc) none else x.toRoleState svc b 0

theorem Port.toggled_drp (h : x.roleOf = 2) : x.toggled svc b = x.toUnattached svc b (x.tc.st == .unattachedSrc) none :=
  if_pos (by rw [h]; rfl)
theorem Port.toggled_single (h : x.roleOf = 0 ∨ x.roleOf = 1) : x.toggled svc b = x.toRoleState svc b 0 :=
  if_neg (by rcases h with h | h <;> simp [h])

theorem exec_tryCcDebounceExpiry (h : s.due p tCc .tryDebounce = true) :
    exec (.tryCcDebounceExpiry p) s
      = .next (s.updPort p fun x => x.tryDebounced (isService p) s.now (s.cluster (clusterOf p)).vconnGood (s.classOf x).header.cableImax) :=
  congrArg Host.Outcome.next (if_pos h)

theorem exec_drpToggleExpiry (h : s.due p tCc .drpToggle = true) (hst : (s.port p).tc.st.unattached = true) :
    exec (.drpToggleExpiry p) s
      = .next (s.updPort p (Port.toggled (isService p) s.now)) :=
  congrArg Host.Outcome.next (if_pos (by rw [h, hst]; rfl))

/-- What tDRPTry makes of a port, by the state it runs out in. -/
def Port.drpTried (svc : Bool) (b : Beat) (x : Port) : Port :=
  match x.tc.st with
  | .trySrc => x.toTry svc b .tryWaitSnk
  | .trySnk =>
    let y : Port := { x.disarm tCc with tc := { x.tc with debounced := true } }
    if x.tc.cc1.isRp || x.tc.cc2.isRp then y.arm tCc .tryDebounce y.tTryDeb else y
  | .tryWaitSrc => x.toUnattached svc b true none
  | _ => x

theorem exec_drpTryExpiry (h : s.due p tCc .drpTry = true) :
    exec (.drpTryExpiry p) s = .next (s.updPort p (Port.drpTried (isService p) s.now)) :=
  congrArg Host.Outcome.next (if_pos h)

theorem exec_tryWaitExpiry (h : s.due p tHealth .tryWait = true) (hst : (s.port p).tc.st = .trySnk) :
    exec (.tryWaitExpiry p) s = .next (s.updPort p fun x => x.toTry (isService p) s.now .tryWaitSrc) :=
  congrArg Host.Outcome.next (if_pos (by rw [h, hst]; rfl))

theorem exec_tryTimeoutExpiry (h : s.due p tHealth .tryTimeout = true) (hst : (s.port p).tc.st = .trySrc) :
    exec (.tryTimeoutExpiry p) s = .next (s.updPort p fun x => x.toTry (isService p) s.now .tryWaitSnk) :=
  congrArg Host.Outcome.next (if_pos (by rw [h, hst]; rfl))

/-! ### The clauses -/

/-- An attach to a Source from a Try state. -/
theorem tryCcDebounce_attachesSrc (hdue : s.due p tCc .tryDebounce = true) (hst : (s.port p).tc.st = .trySrc ∨ (s.port p).tc.st = .tryWaitSrc)
    (hv : (s.port p).vSafe0 = true) :
    gives (.tryCcDebounceExpiry p) s fun t => (t.port p).tc.st = .attachedSrc
      ∧ (t.port p).tc.orient = ((s.port p).tc.cc1 != .rd)
      ∧ (t.port p).pd.powerSource = true
      ∧ (t.port p).stage.want = .forward
      ∧ (t.port p).stage.vTgt = 250 := by
  refine gives_of_exec (exec_tryCcDebounceExpiry hdue) ?_
  simp only [State.updPort_port_tc_st, State.updPort_port_tc_orient, State.updPort_port_pd, State.updPort_port_stage]
  rw [Port.tryDebounced_src hst, if_pos hv]
  obtain ⟨hst', horient, hsrc, -, -, -, -, hwant, hv'⟩ := Port.toAttachedSrc_spec ((s.port p).disarm tCc) (isService p) s.now
    (s.cluster (clusterOf p)).vconnGood (s.classOf (s.port p)).header.cableImax
  exact ⟨hst', horient, hsrc, hwant, hv'⟩

/-- Without VBUS as the attach needs it the debounced termination is kept. -/
theorem tryCcDebounce_waitsSrc (hdue : s.due p tCc .tryDebounce = true) (hst : (s.port p).tc.st = .trySrc ∨ (s.port p).tc.st = .tryWaitSrc)
    (hv : (s.port p).vSafe0 = false) :
    gives (.tryCcDebounceExpiry p) s fun t => (t.port p).tc = { (s.port p).tc with debounced := true } ∧ (t.port p).pd = (s.port p).pd := by
  refine gives_of_exec (exec_tryCcDebounceExpiry hdue) ?_
  have hf := Port.tryDebounced_src (svc := isService p) (b := s.now) (good := (s.cluster (clusterOf p)).vconnGood)
    (imax := (s.classOf (s.port p)).header.cableImax) hst
  rw [hv, if_neg Bool.false_ne_true] at hf
  rw [State.updPort_of_shown (by rw [hf]; rfl), State.port_modPort, hf]
  exact ⟨rfl, rfl⟩

theorem tryCcDebounce_attachesSnk (hdue : s.due p tCc .tryDebounce = true) (hst : (s.port p).tc.st = .trySnk) (hv : (s.port p).vbusPresent = true) :
    gives (.tryCcDebounceExpiry p) s fun t => (t.port p).tc.st = .attachedSnk ∧ (t.port p).pd.powerSource = false := by
  refine gives_of_exec (exec_tryCcDebounceExpiry hdue) ?_
  simp only [State.updPort_port_tc_st, State.updPort_port_pd]
  rw [Port.tryDebounced_snk hst, if_pos hv]
  simp [Pd.attachedAs]

theorem tryCcDebounce_waitsSnk (hdue : s.due p tCc .tryDebounce = true) (hst : (s.port p).tc.st = .trySnk) (hv : (s.port p).vbusPresent = false) :
    gives (.tryCcDebounceExpiry p) s fun t => (t.port p).tc = { (s.port p).tc with tryHeld := true } ∧ (t.port p).pd = (s.port p).pd := by
  refine gives_of_exec (exec_tryCcDebounceExpiry hdue) ?_
  have hf := Port.tryDebounced_snk (svc := isService p) (b := s.now) (good := (s.cluster (clusterOf p)).vconnGood)
    (imax := (s.classOf (s.port p)).header.cableImax) hst
  rw [hv, if_neg Bool.false_ne_true] at hf
  rw [State.updPort_of_shown (by rw [hf]; rfl), State.port_modPort, hf]
  exact ⟨rfl, rfl⟩

/-- A DRP port goes over to the other unattached state, and presents its part of the cycle. -/
theorem drpToggle_toggles (hdue : s.due p tCc .drpToggle = true) (hrole : (s.port p).roleOf = 2) (src : Bool)
    (hst : (s.port p).tc.st = if src then .unattachedSrc else .unattachedSnk) :
    gives (.drpToggleExpiry p) s fun t => (t.port p).tc.st = (if src then .unattachedSnk else .unattachedSrc)
      ∧ (t.port p).timers[tCc] = Timer.armed' .drpToggle (if src then (s.port p).tDrp - (s.port p).srcPart else (s.port p).srcPart)
      ∧ (t.port p).pd = (s.port p).pd := by
  refine gives_of_exec (exec_drpToggleExpiry hdue (by rw [hst]; cases src <;> rfl)) ?_
  have hside (snk : Bool) : (s.port p).entrySide snk = snk := by simp [Port.entrySide, hrole]
  simp only [State.updPort_port_tc_st, State.updPort_port_pd, State.updPort_timer]
  rw [Port.toggled_drp hrole, Port.toUnattached_st, Port.toUnattached_pd, Port.toUnattached_tCc, hside, if_pos hrole, hst]
  cases src
  · exact ⟨rfl, rfl, rfl⟩
  · exact ⟨rfl, rfl, rfl⟩

theorem drpToggle_follows_role (hdue : s.due p tCc .drpToggle = true) (hrole : (s.port p).roleOf = 0 ∨ (s.port p).roleOf = 1)
    (hst : (s.port p).tc.st.unattached = true) :
    gives (.drpToggleExpiry p) s fun t => (t.port p).tc.st = (if (s.port p).roleOf = 1 then .unattachedSnk else .unattachedSrc)
      ∧ (t.port p).tc.role = (s.port p).roleOf
      ∧ (t.port p).timers[tCc] = Timer.idle := by
  refine gives_of_exec (exec_drpToggleExpiry hdue hst) ?_
  obtain ⟨snk, left, heq, h0, h1⟩ := Port.toRoleState_eq (s.port p) (isService p) s.now 0
  have hside : (s.port p).entrySide snk = decide ((s.port p).roleOf = 1) := by
    rcases hrole with hrole | hrole
    · rw [h0 hrole]; simp [Port.entrySide, hrole]
    · rw [h1 hrole]; simp [Port.entrySide, hrole]
  have hno : ¬ (s.port p).roleOf = 2 := by rcases hrole with hrole | hrole <;> simp [hrole]
  simp only [State.updPort_port_tc_st, State.updPort_role, State.updPort_timer]
  rw [Port.toggled_single hrole, heq, Port.toUnattached_st, Port.toUnattached_role, Port.toUnattached_tCc, hside, if_neg hno]
  exact ⟨by simp, rfl, rfl⟩

theorem Port.drpTried_trySnk (hst : x.tc.st = .trySnk) :
    x.drpTried svc b = if (x.tc.cc1.isRp || x.tc.cc2.isRp) = true
      then { x.disarm tCc with tc := { x.tc with debounced := true } }.arm tCc .tryDebounce x.tTryDeb
      else { x.disarm tCc with tc := { x.tc with debounced := true } } := by
  unfold Port.drpTried
  rw [hst]
  rfl

theorem drpTry_waitsForRp (hdue : s.due p tCc .drpTry = true) (hst : (s.port p).tc.st = .trySnk) :
    gives (.drpTryExpiry p) s fun t => (t.port p).tc = { (s.port p).tc with debounced := true }
      ∧ (t.port p).timers[tCc]
        = (if ((s.port p).tc.cc1.isRp || (s.port p).tc.cc2.isRp) = true then Timer.armed' .tryDebounce (s.port p).tTryDeb else Timer.idle) := by
  refine gives_of_exec (exec_drpTryExpiry hdue) ?_
  have hf := Port.drpTried_trySnk (svc := isService p) (b := s.now) hst
  have hshown : ((s.port p).drpTried (isService p) s.now).shown = (s.port p).shown := by
    rw [hf]; split <;> rfl
  rw [State.updPort_of_shown hshown, State.port_modPort, hf]
  split
  · exact ⟨rfl, by simp⟩
  · exact ⟨rfl, by simp⟩

theorem drpTry_gives_up_source (hdue : s.due p tCc .drpTry = true) (hst : (s.port p).tc.st = .trySrc) :
    gives (.drpTryExpiry p) s fun t => (t.port p).tc.st = .tryWaitSnk
      ∧ (t.port p).timers[tCc] = Timer.armed' .pdDebounce (s.port p).tPdDeb := by
  refine gives_of_exec (exec_drpTryExpiry hdue) ?_
  simp only [State.updPort_port_tc_st, State.updPort_timer, Port.drpTried, hst]
  exact ⟨Port.toTry_st .., Port.toTry_tryWaitSnk ..⟩

theorem drpTry_detaches (hdue : s.due p tCc .drpTry = true) (hst : (s.port p).tc.st = .tryWaitSrc) :
    gives (.drpTryExpiry p) s fun t => (t.port p).tc.st = (if (s.port p).entrySide true then .unattachedSnk else .unattachedSrc) := by
  refine gives_of_exec (exec_drpTryExpiry hdue) ?_
  simp only [State.updPort_port_tc_st, Port.drpTried, hst]
  exact Port.toUnattached_st ..

end Sys2Proof.Machine
end

section
/-! O19, settled. -/

namespace Sys2Proof
open Machine

/-- Settles O19, expiry by expiry. -/
theorem tryAndToggle : Obligations.TryAndToggle := by
  unfold Obligations.TryAndToggle
  refine ⟨fun p s => tryCcDebounce_attachesSrc, fun p s => tryCcDebounce_waitsSrc, fun p s => tryCcDebounce_attachesSnk,
    fun p s => tryCcDebounce_waitsSnk, fun p s hdue hrole => drpToggle_toggles hdue hrole true,
    fun p s hdue hrole => drpToggle_toggles hdue hrole false, fun p s => drpToggle_follows_role, fun p s => drpTry_gives_up_source,
    fun p s => drpTry_waitsForRp, fun p s => drpTry_detaches, fun p s hdue hst => ?_, fun p s hdue hst => ?_⟩
  · refine gives_of_exec (exec_tryWaitExpiry hdue hst) ?_
    simp only [State.updPort_port_tc_st, State.updPort_timer]
    exact ⟨Port.toTry_st .., Port.toTry_tryWaitSrc ..⟩
  · refine gives_of_exec (exec_tryTimeoutExpiry hdue hst) ?_
    simp only [State.updPort_port_tc_st, State.updPort_timer]
    exact ⟨Port.toTry_st .., Port.toTry_tryWaitSnk ..⟩

end Sys2Proof
end

section
/-! Detach, the two-current check and the Source attach (R109–R111, R211, R350). -/

namespace Sys2Proof.Machine

variable {s : State} {p : PortId}

theorem Port.roleOf_of_body {x y : Port} (h : y.body = x.body) : y.roleOf = x.roleOf := by
  unfold Port.roleOf
  rw [Port.cfg_of_body h]
theorem Port.entrySide_of_body {x y : Port} (h : y.body = x.body) (snk : Bool) : y.entrySide snk = x.entrySide snk := by
  have hrole : y.tc.role = x.tc.role := congrArg (fun r => r.2.1.role) h
  unfold Port.entrySide
  rw [Port.roleOf_of_body h, hrole]

/-! ### Detach -/

theorem exec_srcDisconnectExpiry (hdue : s.due p tCc .srcDisconnect = true)
    (hst : (s.port p).tc.st = .attachedSrc ∨ (s.port p).tc.st = .debugAccSrc ∨ (s.port p).tc.st = .audioAcc)
    (hheld : (s.port p).srcHeld = false) :
    exec (.srcDisconnectExpiry p) s = .next (s.dropPort p 0 8 (Port.detachSrc (isService p) s.now s.feedOn)) := by
  refine congrArg Host.Outcome.next (if_pos ?_)
  rw [hdue, hheld]
  rcases hst with hst | hst | hst <;> rw [hst] <;> rfl

theorem srcDisconnect_detaches (hdue : s.due p tCc .srcDisconnect = true)
    (hst : (s.port p).tc.st = .attachedSrc ∨ (s.port p).tc.st = .debugAccSrc ∨ (s.port p).tc.st = .audioAcc)
    (hheld : (s.port p).srcHeld = false) :
    gives (.srcDisconnectExpiry p) s fun t =>
      (t.port p).tc.st = (if (s.port p).entrySide ((s.port p).roleOf == 2) then .unattachedSnk else .unattachedSrc)
      ∧ (t.port p).tc.role = (s.port p).roleOf
      ∧ (t.port p).pd.contract = Contract.none
      ∧ (t.port p).tc.vconnOn = false
      ∧ (t.port p).guard.gateOn = false
      ∧ (t.port p).stage.mode = .idle
      ∧ (t.port p).phy.cal = .off
      ∧ (t.port p).stage.disH = true
      ∧ (t.port p).cfg = (s.port p).cfg
      ∧ t.faults = s.faults := by
  refine gives_of_exec (exec_srcDisconnectExpiry hdue hst hheld) ?_
  obtain ⟨x, hbody, hst', hrole, hvconn, hcfg, hpd, hguard, hstage, hphy, -⟩ := s.dropPort_from p 0 8 (Port.detachSrc (isService p) s.now s.feedOn)
  rw [hst', hrole, hvconn, hcfg, hpd, hguard, hstage, hphy, ← Port.cfg_of_body hbody, ← Port.entrySide_of_body hbody, ← Port.roleOf_of_body hbody]
  refine ⟨?_, ?_, ?_, ?_, ?_, ?_, ?_, ?_, ?_, State.dropPort_faults ..⟩
  all_goals
    unfold Port.detachSrc
  · rw [Port.toUnattached_st, Port.powerDown_entrySide]
  · rw [Port.toUnattached_role, Port.powerDown_roleOf]
  · rw [Port.toUnattached_pd, Port.powerDown_contract]
  · rw [Port.toUnattached_vconnOn, Port.powerDown_vconnOn]
  · rw [Port.toUnattached_gateOn, Port.powerDown_gateOn]
  · rw [Port.toUnattached_stage, Port.powerDown_mode]
  · rw [Port.toUnattached_phy, Port.powerDown_cal]
  · rw [Port.toUnattached_stage, Port.powerDown_disH]
  · rw [Port.toUnattached_cfg, Port.powerDown_cfg]

theorem exec_srcDisconnectExpiry_held (hheld : (s.port p).srcHeld = true) : exec (.srcDisconnectExpiry p) s = .next s := by
  refine congrArg Host.Outcome.next (if_neg ?_)
  simp [hheld]

theorem exec_sinkDetach (hfw : s.fw p = true) (hst : (s.port p).tc.st = .attachedSnk ∨ (s.port p).tc.st = .debugAccSnk)
    (hheld : (s.port p).detachHeld = false) (hlow : 3 ≤ (s.port p).stage.runs.sinkLow) :
    exec (.sinkDetach p) s = .next (s.dropPort p 0 8 (Port.detachSnk (isService p) s.now)) := by
  refine congrArg Host.Outcome.next (if_pos ?_)
  rw [hfw, hheld, decide_eq_true hlow]
  rcases hst with hst | hst <;> rw [hst] <;> rfl

theorem Port.sinkDown_cfg (x : Port) (b : Beat) : ((((x.stageHalt).gateOff b).vconnOff).dropPd).cfg = x.cfg := by
  unfold Port.dropPd Port.vconnOff Port.gateOff Port.stageHalt
  rfl
theorem Port.sinkDown_roleOf (x : Port) (b : Beat) : ((((x.stageHalt).gateOff b).vconnOff).dropPd).roleOf = x.roleOf := by
  unfold Port.roleOf
  rw [Port.sinkDown_cfg]
theorem Port.sinkDown_entrySide (x : Port) (b : Beat) (snk : Bool) :
    ((((x.stageHalt).gateOff b).vconnOff).dropPd).entrySide snk = x.entrySide snk := by
  unfold Port.entrySide
  rw [Port.sinkDown_roleOf]
  rfl

/-- A Sink that detaches, whatever had it do so: its contract, VCONN, gate and Planish end. -/
theorem State.detachSnk_spec (s : State) (p : PortId) :
    let t := s.dropPort p 0 8 (Port.detachSnk (isService p) s.now)
    (t.port p).tc.st = (if (s.port p).entrySide true then .unattachedSnk else .unattachedSrc)
      ∧ (t.port p).tc.role = (s.port p).roleOf
      ∧ (t.port p).pd.contract = Contract.none
      ∧ (t.port p).tc.vconnOn = false
      ∧ (t.port p).guard.gateOn = false
      ∧ (t.port p).phy.cal = .off
      ∧ (t.port p).cfg = (s.port p).cfg
      ∧ t.faults = s.faults := by
  dsimp only
  obtain ⟨x, hbody, hst', hrole, hvconn, hcfg, hpd, hguard, -, hphy, -⟩ := s.dropPort_from p 0 8 (Port.detachSnk (isService p) s.now)
  rw [hst', hrole, hvconn, hcfg, hpd, hguard, hphy, ← Port.cfg_of_body hbody, ← Port.entrySide_of_body hbody, ← Port.roleOf_of_body hbody]
  refine ⟨?_, ?_, ?_, ?_, ?_, ?_, ?_, State.dropPort_faults ..⟩
  all_goals
    unfold Port.detachSnk
  · rw [Port.toUnattached_st, Port.sinkDown_entrySide]
  · rw [Port.toUnattached_role, Port.sinkDown_roleOf]
  · rw [Port.toUnattached_pd]; rfl
  · rw [Port.toUnattached_vconnOn]; rfl
  · rw [Port.toUnattached_gateOn]; rfl
  · rw [Port.toUnattached_phy]; rfl
  · rw [Port.toUnattached_cfg, Port.sinkDown_cfg]

/-! ### The end of ERROR_RECOVERY -/

/-- Where a port goes from ERROR_RECOVERY. -/
def Port.recovered (svc : Bool) (b : Beat) (phase : Nat) (x : Port) : Port :=
  if x.tc.errFromCal then x.startSteps svc b else x.toRoleState svc b phase

theorem exec_errorRecoveryExpiry (hdue : s.due p tCc .errorRecovery = true) (hst : (s.port p).tc.st = .errorRecovery)
    (hhold : s.faults.hold = false) (hcool : (s.port p).tc.tripWait = false ∨ (s.port p).coolEnough = true) :
    exec (.errorRecoveryExpiry p) s
      = .next (s.updPort p fun x => x.recovered (isService p) s.now (draw s (max 1 x.tDrp))).drawn := by
  refine congrArg Host.Outcome.next (if_pos ?_)
  rw [hdue, hst, hhold]
  rcases hcool with h | h <;> simp [h]

theorem exec_errorRecoveryExpiry_held (h : s.faults.hold = true ∨ ((s.port p).tc.tripWait = true ∧ (s.port p).coolEnough = false)) :
    exec (.errorRecoveryExpiry p) s = .next s := by
  refine congrArg Host.Outcome.next (if_neg ?_)
  rcases h with h | ⟨h, hc⟩
  · simp [h]
  · simp [h, hc]

theorem errorRecovery_ends_in_role (hdue : s.due p tCc .errorRecovery = true) (hst : (s.port p).tc.st = .errorRecovery)
    (hhold : s.faults.hold = false) (hcool : (s.port p).tc.tripWait = false ∨ (s.port p).coolEnough = true)
    (hcal : (s.port p).tc.errFromCal = false) :
    gives (.errorRecoveryExpiry p) s fun t => (t.port p).tc.st.unattached = true
      ∧ ((s.port p).roleOf = 0 → (t.port p).tc.st = .unattachedSrc)
      ∧ ((s.port p).roleOf = 1 → (t.port p).tc.st = .unattachedSnk)
      ∧ (t.port p).tc.role = (s.port p).roleOf
      ∧ (t.port p).pd = (s.port p).pd
      ∧ t.faults = s.faults := by
  refine gives_of_exec (exec_errorRecoveryExpiry hdue hst hhold hcool) ?_
  obtain ⟨snk, left, heq, h0, h1⟩ := Port.toRoleState_eq (s.port p) (isService p) s.now (draw s (max 1 (s.port p).tDrp))
  have hf : (s.port p).recovered (isService p) s.now (draw s (max 1 (s.port p).tDrp)) = (s.port p).toUnattached (isService p) s.now snk left := by
    rw [← heq]
    exact if_neg (by simp [hcal])
  simp only [State.drawn, State.port_modBoard, State.updPort_port_tc_st, State.updPort_role, State.updPort_port_pd, State.modBoard_faults,
    State.updPort_faults]
  rw [hf, Port.toUnattached_st, Port.toUnattached_role, Port.toUnattached_pd]
  refine ⟨?_, fun h => ?_, fun h => ?_, rfl, rfl, trivial⟩
  · split <;> rfl
  · rw [h0 h]; simp [Port.entrySide, h]
  · rw [h1 h]; simp [Port.entrySide, h]

theorem errorRecovery_ends_in_calibration (hdue : s.due p tCc .errorRecovery = true) (hst : (s.port p).tc.st = .errorRecovery)
    (hhold : s.faults.hold = false) (hcool : (s.port p).tc.tripWait = false ∨ (s.port p).coolEnough = true)
    (hcal : (s.port p).tc.errFromCal = true) :
    gives (.errorRecoveryExpiry p) s fun t => (t.port p).tc.st = .calibrating
      ∧ (t.port p).harn.step = some .s1 ∧ (t.port p).harn.status = 1 := by
  refine gives_of_exec (exec_errorRecoveryExpiry hdue hst hhold hcool) ?_
  have hf : (s.port p).recovered (isService p) s.now (draw s (max 1 (s.port p).tDrp)) = (s.port p).startSteps (isService p) s.now := if_pos hcal
  simp only [State.drawn, State.port_modBoard, State.updPort_port_tc_st, State.updPort_port_harn]
  rw [hf]
  exact ⟨Port.startSteps_st .., rfl, rfl⟩

/-! ### The two-current check -/

/-- What a line that passes makes of the check. -/
def RdCheck.passed (l : Line) (k : RdCheck) : RdCheck :=
  match l with | .cc1 => { k with line1 := some true } | .cc2 => { k with line2 := some true }

/-- The check is over: no line is still to pass. -/
def RdCheck.over (k : RdCheck) : Bool := k.line1 != some false && k.line2 != some false

/-- What a line that passes makes of its port. -/
def Port.rdPassed (svc : Bool) (b : Beat) (k : RdCheck) (x : Port) : Port :=
  if k.over then
    let y : Port := { x with tc := { x.tc with rdCheck := none, rdDone := true } }
    if y.tc.cc1 == .rd && y.tc.cc2 == .rd then y.toAccessory svc b .debugAccSrc else y
  else { x with tc := { x.tc with rdCheck := some k } }

/-- The two conversions of line `l` are there. -/
def RdCheck.dueOn (l : Line) (k : RdCheck) : Bool :=
  match l with | .cc1 => k.line1 == some false && k.n1 == 2 | .cc2 => k.line2 == some false && k.n2 == 2

theorem exec_rdCheckComplete {k : RdCheck} {l : Line} (uv1 uv2 : Int) (hfw : s.fw p = true) (hst : (s.port p).tc.st = .attachWaitSrc)
    (hk : (s.port p).tc.rdCheck = some k) (hdue : k.dueOn l = true) :
    exec (.rdCheckComplete p l uv1 uv2) s
      = .next (if rdPass (s.port p).rpLevel ((s.port p).rpOf == 0) (s.port p).harn.rCc.toNat uv1 uv2
          then s.updPort p (Port.rdPassed (isService p) s.now (k.passed l))
          else s.dropPort p 0 8 (Port.toDryWait (isService p) s.now s.feedOn .rdImplausible)) := by
  show execRdCheckComplete p l uv1 uv2 s = _
  unfold execRdCheckComplete
  rw [hfw, hst, hk]
  cases l with
  | cc1 =>
    have hnot : ¬ (!(k.line1 == some false && k.n1 == 2)) = true := by
      rw [show (k.line1 == some false && k.n1 == 2) = true from hdue]; decide
    exact congrArg Host.Outcome.next (if_neg hnot)
  | cc2 =>
    have hnot : ¬ (!(k.line2 == some false && k.n2 == 2)) = true := by
      rw [show (k.line2 == some false && k.n2 == 2) = true from hdue]; decide
    exact congrArg Host.Outcome.next (if_neg hnot)

/-- The last line has passed, and not both show Rd: the check is done. -/
theorem rdCheck_done {k : RdCheck} {l : Line} {uv1 uv2 : Int} (hfw : s.fw p = true) (hst : (s.port p).tc.st = .attachWaitSrc)
    (hk : (s.port p).tc.rdCheck = some k) (hdue : k.dueOn l = true) (hover : (k.passed l).over = true)
    (hrd : (s.port p).tc.cc1 ≠ .rd ∨ (s.port p).tc.cc2 ≠ .rd)
    (hpass : rdPass (s.port p).rpLevel ((s.port p).rpOf == 0) (s.port p).harn.rCc.toNat uv1 uv2 = true) :
    gives (.rdCheckComplete p l uv1 uv2) s fun t => (t.port p).tc = { (s.port p).tc with rdCheck := none, rdDone := true }
      ∧ (t.port p).pd = (s.port p).pd ∧ t.pool = s.pool := by
  refine gives_of_exec (exec_rdCheckComplete uv1 uv2 hfw hst hk hdue) ?_
  have hnot : ¬ ((s.port p).tc.cc1 == .rd && (s.port p).tc.cc2 == .rd) = true := by
    rcases hrd with h | h <;> simp [h]
  have hf : (s.port p).rdPassed (isService p) s.now (k.passed l) = { s.port p with tc := { (s.port p).tc with rdCheck := none, rdDone := true } } :=
    (if_pos hover).trans (if_neg hnot)
  rw [if_pos hpass, State.updPort_of_shown (by rw [hf]; rfl), State.port_modPort, hf]
  exact ⟨rfl, rfl, rfl⟩

/-- One of two lines has passed: the other is still under the check. -/
theorem rdCheck_goesOn {k : RdCheck} {l : Line} {uv1 uv2 : Int} (hfw : s.fw p = true) (hst : (s.port p).tc.st = .attachWaitSrc)
    (hk : (s.port p).tc.rdCheck = some k) (hdue : k.dueOn l = true) (hover : (k.passed l).over = false)
    (hpass : rdPass (s.port p).rpLevel ((s.port p).rpOf == 0) (s.port p).harn.rCc.toNat uv1 uv2 = true) :
    gives (.rdCheckComplete p l uv1 uv2) s fun t => (t.port p).tc = { (s.port p).tc with rdCheck := some (k.passed l) }
      ∧ (t.port p).pd = (s.port p).pd := by
  refine gives_of_exec (exec_rdCheckComplete uv1 uv2 hfw hst hk hdue) ?_
  have hf : (s.port p).rdPassed (isService p) s.now (k.passed l) = { s.port p with tc := { (s.port p).tc with rdCheck := some (k.passed l) } } :=
    if_neg (by simp [hover])
  rw [if_pos hpass, State.updPort_of_shown (by rw [hf]; rfl), State.port_modPort, hf]
  exact ⟨rfl, rfl⟩

/-- Both lines have passed, both with Rd: a debug accessory. -/
theorem rdCheck_finds_debug {k : RdCheck} {l : Line} {uv1 uv2 : Int} (hfw : s.fw p = true) (hst : (s.port p).tc.st = .attachWaitSrc)
    (hk : (s.port p).tc.rdCheck = some k) (hdue : k.dueOn l = true) (hover : (k.passed l).over = true)
    (hrd1 : (s.port p).tc.cc1 = .rd) (hrd2 : (s.port p).tc.cc2 = .rd)
    (hpass : rdPass (s.port p).rpLevel ((s.port p).rpOf == 0) (s.port p).harn.rCc.toNat uv1 uv2 = true) :
    gives (.rdCheckComplete p l uv1 uv2) s fun t => (t.port p).tc.st = .debugAccSrc ∧ (t.port p).pd.powerSource = true := by
  refine gives_of_exec (exec_rdCheckComplete uv1 uv2 hfw hst hk hdue) ?_
  have hboth : ((s.port p).tc.cc1 == .rd && (s.port p).tc.cc2 == .rd) = true := by rw [hrd1, hrd2]; rfl
  have hf : (s.port p).rdPassed (isService p) s.now (k.passed l)
      = ({ s.port p with tc := { (s.port p).tc with rdCheck := none, rdDone := true } } : Port).toAccessory (isService p) s.now .debugAccSrc :=
    (if_pos hover).trans (if_pos hboth)
  rw [if_pos hpass]
  simp only [State.updPort_port_tc_st, State.updPort_port_pd]
  rw [hf]
  obtain ⟨hsrc, -⟩ := Port.toAccessory_debug ({ s.port p with tc := { (s.port p).tc with rdCheck := none, rdDone := true } } : Port)
    (isService p) s.now .debugAccSrc (by decide)
  exact ⟨Port.toAccessory_st .., hsrc⟩

/-- A line that fails sends the port to DRY_WAIT as implausible. -/
theorem rdCheck_implausible {k : RdCheck} {l : Line} {uv1 uv2 : Int} (hfw : s.fw p = true) (hst : (s.port p).tc.st = .attachWaitSrc)
    (hk : (s.port p).tc.rdCheck = some k) (hdue : k.dueOn l = true)
    (hpass : rdPass (s.port p).rpLevel ((s.port p).rpOf == 0) (s.port p).harn.rCc.toNat uv1 uv2 = false) :
    gives (.rdCheckComplete p l uv1 uv2) s fun t => (t.port p).tc.st = .dryWait
      ∧ (t.port p).moist.rdImplausible = true
      ∧ (t.port p).moist.why = some .rdImplausible
      ∧ (t.port p).timers[tHealth] = Timer.armed' .dryRecheck (25000 * fld (s.port p).cfg.dryRecheck 0 16)
      ∧ (t.port p).tc.pres1 = .none
      ∧ (t.port p).tc.pres2 = .none := by
  refine gives_of_exec (exec_rdCheckComplete uv1 uv2 hfw hst hk hdue) ?_
  rw [if_neg (by rw [hpass]; exact Bool.false_ne_true)]
  unfold State.dropPort
  have hbody : (((s.endWork p 0 8).svcLeave p).port p).body = (s.port p).body := by simp
  rw [← Port.cfg_of_body hbody]
  obtain ⟨hst', hwhy, himp, htimer, hp1, hp2⟩ := Port.toDryWait_spec (((s.endWork p 0 8).svcLeave p).port p) (isService p) s.feedOn s.now .rdImplausible
  obtain h | ⟨g, h⟩ := State.port_updPort ((s.endWork p 0 8).svcLeave p) p (Port.toDryWait (isService p) s.now s.feedOn .rdImplausible)
  · rw [h]
    exact ⟨hst', himp rfl, hwhy, htimer, hp1, hp2⟩
  · rw [h]
    generalize Port.toDryWait (isService p) s.now s.feedOn .rdImplausible (((s.endWork p 0 8).svcLeave p).port p) = y at *
    exact ⟨hst', himp rfl, hwhy, htimer, by simp [Port.refreshRp, hp1], by simp [Port.refreshRp, hp2]⟩

/-! ### The Source attach -/

theorem attachSrcEntry_attaches (hfw : s.fw p = true) (hdue : (s.port p).srcEntryDue = true) (hv : (s.port p).vSafe0 = true) :
    gives (.attachSrcEntry p) s fun t => (t.port p).tc.st = .attachedSrc
      ∧ (t.port p).tc.orient = ((s.port p).tc.cc1 != .rd)
      ∧ (t.port p).pd.powerSource = true
      ∧ (t.port p).pd.dfp = true
      ∧ (t.port p).pd.attachSource = true
      ∧ (t.port p).pd.capsDue = true
      ∧ (t.port p).phy.cal = .safe
      ∧ (t.port p).phy.applied = (s.port p).phy.safe
      ∧ (t.port p).stage.want = .forward
      ∧ (t.port p).stage.vTgt = 250 := by
  refine gives_of_exec (congrArg Host.Outcome.next (if_pos (by rw [hfw, hdue, hv]; rfl))) ?_
  simp only [State.updPort_port_tc_st, State.updPort_port_tc_orient, State.updPort_port_pd, State.updPort_port_stage, State.updPort_port_phy]
  obtain ⟨hst', horient, hsrc, hdfp, hatt, hcaps, hphy, hwant, hv'⟩ := Port.toAttachedSrc_spec (s.port p) (isService p) s.now
    (s.cluster (clusterOf p)).vconnGood (s.classOf (s.port p)).header.cableImax
  rw [hphy]
  exact ⟨hst', horient, hsrc, hdfp, hatt, hcaps, rfl, rfl, hwant, hv'⟩

end Sys2Proof.Machine
end

section
/-! O20 and O21, settled. -/

namespace Sys2Proof
open Machine

/-- Settles O20: a line's check is the same whichever of the two it is. -/
theorem sourceAttach : Obligations.SourceAttach := by
  unfold Obligations.SourceAttach
  refine ⟨fun p s => attachSrcEntry_attaches, ?_, ?_, ?_, ?_, ?_⟩
  · intro p uv1 uv2 k s hfw hst hk h1 hn h2 hrd hpass
    exact rdCheck_done hfw hst hk (by simp [RdCheck.dueOn, h1, hn]) (by simp [RdCheck.over, RdCheck.passed, h2]) hrd hpass
  · intro p uv1 uv2 k s hfw hst hk h2 hn h1 hrd hpass
    exact rdCheck_done hfw hst hk (by simp [RdCheck.dueOn, h2, hn]) (by simp [RdCheck.over, RdCheck.passed, h1]) hrd hpass
  · intro p uv1 uv2 k s hfw hst hk h1 hn h2 hpass
    exact rdCheck_goesOn hfw hst hk (by simp [RdCheck.dueOn, h1, hn]) (by simp [RdCheck.over, RdCheck.passed, h2]) hpass
  · intro p uv1 uv2 k s hfw hst hk h2 hn h1 hrd1 hrd2 hpass
    exact rdCheck_finds_debug hfw hst hk (by simp [RdCheck.dueOn, h2, hn]) (by simp [RdCheck.over, RdCheck.passed, h1]) hrd1 hrd2 hpass
  · intro p l uv1 uv2 k s hfw hst hk hdue hpass
    refine rdCheck_implausible hfw hst hk ?_ hpass
    rcases hdue with ⟨rfl, h, hn⟩ | ⟨rfl, h, hn⟩
    · simp [RdCheck.dueOn, h, hn]
    · simp [RdCheck.dueOn, h, hn]

/-- Settles O21, exit by exit. -/
theorem detach : Obligations.Detach := by
  unfold Obligations.Detach
  refine ⟨fun p s => srcDisconnect_detaches, fun p s => exec_srcDisconnectExpiry_held, ?_, fun p s => errorRecovery_ends_in_role,
    fun p s => errorRecovery_ends_in_calibration, fun p s => exec_errorRecoveryExpiry_held⟩
  intro p s hfw hst hheld hlow
  exact gives_of_exec (exec_sinkDetach hfw hst hheld hlow) (State.detachSnk_spec s p)

end Sys2Proof
end

section
/-! What the debounce times lead to (R108, R109, R119, R236). -/

namespace Sys2Proof.Machine

variable {s : State} {p : PortId} {x : Port} {svc : Bool} {b : Beat}

theorem exec_ccDebounceExpiry (h : s.due p tCc .ccDebounce = true) :
    exec (.ccDebounceExpiry p) s = .next (s.updPort p (Port.ccDebounced (isService p) s.now)) :=
  congrArg Host.Outcome.next (if_pos h)

/-! ### tCCDebounce as Source -/

theorem Port.ccDebounced_oneRd (hst : x.tc.st = .attachWaitSrc)
    (hrd : (x.tc.cc1 = .rd ∧ x.tc.cc2 ≠ .rd) ∨ (x.tc.cc1 ≠ .rd ∧ x.tc.cc2 = .rd)) :
    x.ccDebounced svc b = if x.tc.role == 2 && x.tc.tryMode == 2 then (x.disarm tCc).toTry svc b .trySnk else (x.disarm tCc).startRdCheck := by
  have hboth : (x.tc.cc1 == .rd && x.tc.cc2 == .rd) = false := by rcases hrd with ⟨h1, h2⟩ | ⟨h1, h2⟩ <;> simp [h1, h2]
  have hone : (x.tc.cc1 == .rd || x.tc.cc2 == .rd) = true := by rcases hrd with ⟨h1, h2⟩ | ⟨h1, h2⟩ <;> simp [h1, h2]
  unfold Port.ccDebounced
  dsimp only
  rw [Port.disarm_tc, hst]
  dsimp only
  rw [hboth, if_neg Bool.false_ne_true, if_pos hone]

theorem Port.ccDebounced_bothRd (hst : x.tc.st = .attachWaitSrc) (h1 : x.tc.cc1 = .rd) (h2 : x.tc.cc2 = .rd) :
    x.ccDebounced svc b = if svc then (x.disarm tCc).startRdCheck else (x.disarm tCc).toAccessory svc b .debugAccSrc := by
  unfold Port.ccDebounced
  dsimp only
  rw [Port.disarm_tc, hst, h1, h2]
  rfl

theorem Port.ccDebounced_bothRa (hst : x.tc.st = .attachWaitSrc) (h1 : x.tc.cc1 = .ra) (h2 : x.tc.cc2 = .ra) :
    x.ccDebounced svc b = (x.disarm tCc).toAccessory svc b .audioAcc := by
  unfold Port.ccDebounced
  dsimp only
  rw [Port.disarm_tc, hst, h1, h2]
  rfl

/-- The start of the two-current check. -/
theorem ccDebounce_startsCheck (hdue : s.due p tCc .ccDebounce = true)
    (hf : (s.port p).ccDebounced (isService p) s.now = ((s.port p).disarm tCc).startRdCheck) :
    gives (.ccDebounceExpiry p) s fun t => (t.port p).tc.st = (s.port p).tc.st
      ∧ (t.port p).tc.rdCheck = some ⟨if (s.port p).tc.cc1 == .rd then some false else none, if (s.port p).tc.cc2 == .rd then some false else none, 0, 0⟩
      ∧ (t.port p).timers[tCc] = Timer.idle
      ∧ (t.port p).pd = (s.port p).pd
      ∧ t.pool = s.pool := by
  refine gives_of_exec (exec_ccDebounceExpiry hdue) ?_
  rw [State.updPort_of_shown (by rw [hf]; rfl), State.port_modPort, hf]
  exact ⟨rfl, rfl, by simp [Port.startRdCheck], rfl, rfl⟩

theorem tryCondition_false {r t v w : BitVec 2} (h : r ≠ v ∨ t ≠ w) : (r == v && t == w) = false := by
  rcases h with h | h <;> simp [h]

theorem ccDebounce_oneRd_checks (hdue : s.due p tCc .ccDebounce = true) (hst : (s.port p).tc.st = .attachWaitSrc)
    (hrd : ((s.port p).tc.cc1 = .rd ∧ (s.port p).tc.cc2 ≠ .rd) ∨ ((s.port p).tc.cc1 ≠ .rd ∧ (s.port p).tc.cc2 = .rd))
    (htry : (s.port p).tc.role ≠ 2 ∨ (s.port p).tc.tryMode ≠ 2) :
    gives (.ccDebounceExpiry p) s fun t => (t.port p).tc.st = (s.port p).tc.st
      ∧ (t.port p).tc.rdCheck = some ⟨if (s.port p).tc.cc1 == .rd then some false else none, if (s.port p).tc.cc2 == .rd then some false else none, 0, 0⟩
      ∧ (t.port p).timers[tCc] = Timer.idle
      ∧ (t.port p).pd = (s.port p).pd
      ∧ t.pool = s.pool :=
  ccDebounce_startsCheck hdue ((Port.ccDebounced_oneRd hst hrd).trans (by rw [tryCondition_false htry]; rfl))

theorem ccDebounce_debugAccSrc (hdue : s.due p tCc .ccDebounce = true) (hst : (s.port p).tc.st = .attachWaitSrc)
    (h1 : (s.port p).tc.cc1 = .rd) (h2 : (s.port p).tc.cc2 = .rd) (hsvc : isService p = false) :
    gives (.ccDebounceExpiry p) s fun t => (t.port p).tc.st = .debugAccSrc
      ∧ (t.port p).tc.orient = false
      ∧ (t.port p).pd.dfp = true
      ∧ (t.port p).phy.cal = .safe
      ∧ (t.port p).stage.want = (s.port p).stage.want := by
  refine gives_of_exec (exec_ccDebounceExpiry hdue) ?_
  simp only [State.updPort_port_tc_st, State.updPort_port_tc_orient, State.updPort_port_pd, State.updPort_port_phy, State.updPort_port_stage]
  rw [Port.ccDebounced_bothRd hst h1 h2, if_neg (by simp [hsvc])]
  obtain ⟨-, hdfp, hphy, hwant⟩ := Port.toAccessory_debug ((s.port p).disarm tCc) (isService p) s.now .debugAccSrc (by decide)
  refine ⟨Port.toAccessory_st .., ?_, hdfp, ?_, hwant (by rw [hsvc]; rfl)⟩
  · rw [Port.toAccessory_orient, Port.disarm_tc, h1]; rfl
  · rw [hphy]; rfl

theorem ccDebounce_trySnk (hdue : s.due p tCc .ccDebounce = true) (hst : (s.port p).tc.st = .attachWaitSrc)
    (hrd : ((s.port p).tc.cc1 = .rd ∧ (s.port p).tc.cc2 ≠ .rd) ∨ ((s.port p).tc.cc1 ≠ .rd ∧ (s.port p).tc.cc2 = .rd))
    (hrole : (s.port p).tc.role = 2) (htry : (s.port p).tc.tryMode = 2) :
    gives (.ccDebounceExpiry p) s fun t => (t.port p).tc.st = .trySnk
      ∧ (t.port p).timers[tCc] = Timer.armed' .drpTry (s.port p).tDrpTry
      ∧ (t.port p).timers[tHealth] = Timer.armed' .tryWait (s.port p).tTryWait := by
  refine gives_of_exec (exec_ccDebounceExpiry hdue) ?_
  simp only [State.updPort_port_tc_st, State.updPort_timer]
  rw [Port.ccDebounced_oneRd hst hrd, if_pos (by rw [hrole, htry]; rfl)]
  obtain ⟨hcc, hhealth⟩ := Port.toTry_trySnk ((s.port p).disarm tCc) (isService p) s.now
  exact ⟨Port.toTry_st .., hcc, hhealth⟩

theorem ccDebounce_audioAcc (hdue : s.due p tCc .ccDebounce = true) (hst : (s.port p).tc.st = .attachWaitSrc)
    (h1 : (s.port p).tc.cc1 = .ra) (h2 : (s.port p).tc.cc2 = .ra) :
    gives (.ccDebounceExpiry p) s fun t => (t.port p).tc.st = .audioAcc
      ∧ (t.port p).pd = (s.port p).pd
      ∧ (t.port p).phy = (s.port p).phy
      ∧ (t.port p).stage = (s.port p).stage := by
  refine gives_of_exec (exec_ccDebounceExpiry hdue) ?_
  simp only [State.updPort_port_tc_st, State.updPort_port_pd, State.updPort_port_phy, State.updPort_port_stage]
  rw [Port.ccDebounced_bothRa hst h1 h2]
  obtain ⟨hpd, hphy, hstage⟩ := Port.toAccessory_audio ((s.port p).disarm tCc) (isService p) s.now
  exact ⟨Port.toAccessory_st .., hpd, hphy, hstage⟩

/-! ### tCCDebounce as Sink -/

theorem Port.ccDebounced_snk (hst : x.tc.st = .attachWaitSnk ∨ x.tc.st = .tryWaitSnk) :
    x.ccDebounced svc b
      = if x.vbusPresent then (x.disarm tCc).snkAttach svc b else { x.disarm tCc with tc := { x.tc with debounced := true } } := by
  unfold Port.ccDebounced
  dsimp only
  rcases hst with hst | hst
  · rw [Port.disarm_tc, hst]; rfl
  · rw [Port.disarm_tc, hst]; rfl

theorem Port.snkAttach_attached
    (h : (x.tc.st = .attachWaitSnk ∧ (x.tc.cc1.isRp = false ∨ x.tc.cc2.isRp = false) ∧ (x.tc.role ≠ 2 ∨ x.tc.tryMode ≠ 1)) ∨ x.tc.st = .tryWaitSnk) :
    x.snkAttach svc b = (x.toAttachedSnk svc b).readyIfPending := by
  have hdebug : (x.tc.st == .attachWaitSnk && x.tc.cc1.isRp && x.tc.cc2.isRp) = false := by
    rcases h with ⟨-, h | h, -⟩ | h <;> simp [h]
  have htry : (x.tc.st == .attachWaitSnk && x.tc.role == 2 && x.tc.tryMode == 1) = false := by
    rcases h with ⟨-, -, h⟩ | h
    · rw [Bool.and_assoc, tryCondition_false h, Bool.and_false]
    · simp [h]
  unfold Port.snkAttach
  rw [hdebug, htry]
  rfl

theorem Port.snkAttach_debug (hst : x.tc.st = .attachWaitSnk) (h1 : x.tc.cc1.isRp = true) (h2 : x.tc.cc2.isRp = true) :
    x.snkAttach svc b = x.toAccessory svc b .debugAccSnk :=
  if_pos (by simp [hst, h1, h2])

theorem Port.snkAttach_trySrc (hst : x.tc.st = .attachWaitSnk) (hrp : x.tc.cc1.isRp = false ∨ x.tc.cc2.isRp = false)
    (hrole : x.tc.role = 2) (htry : x.tc.tryMode = 1) : x.snkAttach svc b = x.toTry svc b .trySrc := by
  have hdebug : (x.tc.st == .attachWaitSnk && x.tc.cc1.isRp && x.tc.cc2.isRp) = false := by
    rcases hrp with h | h <;> simp [h]
  unfold Port.snkAttach
  rw [hdebug, hst, hrole, htry]
  rfl

theorem ccDebounce_attachedSnk (hdue : s.due p tCc .ccDebounce = true)
    (hst : ((s.port p).tc.st = .attachWaitSnk ∧ ((s.port p).tc.cc1.isRp = false ∨ (s.port p).tc.cc2.isRp = false)
      ∧ ((s.port p).tc.role ≠ 2 ∨ (s.port p).tc.tryMode ≠ 1)) ∨ (s.port p).tc.st = .tryWaitSnk)
    (hv : (s.port p).vbusPresent = true) :
    gives (.ccDebounceExpiry p) s fun t => (t.port p).tc.st = .attachedSnk
      ∧ (t.port p).tc.orient = ((s.port p).tc.cc1 == .opened || (s.port p).tc.cc1 == .ra)
      ∧ (t.port p).pd.powerSource = false
      ∧ (t.port p).pd.dfp = false
      ∧ (t.port p).pd.attachSource = false
      ∧ (t.port p).phy.cal = .safe
      ∧ (t.port p).phy.applied = (s.port p).phy.safe
      ∧ (t.port p).timers[tCaps] = Timer.armed' .sinkWaitCap (ms 465) := by
  refine gives_of_exec (exec_ccDebounceExpiry hdue) ?_
  simp only [State.updPort_port_tc_st, State.updPort_port_tc_orient, State.updPort_port_pd, State.updPort_port_phy, State.updPort_timer]
  have hattach := Port.snkAttach_attached (x := (s.port p).disarm tCc) (svc := isService p) (b := s.now) hst
  rw [Port.ccDebounced_snk (hst.imp (fun h => h.1) id), if_pos hv, hattach]
  simp only [Port.readyIfPending_st, Port.readyIfPending_orient, Port.readyIfPending_pd, Port.readyIfPending_phy, Port.toAttachedSnk_st,
    Port.toAttachedSnk_orient, Port.toAttachedSnk_pd, Port.toAttachedSnk_phy]
  refine ⟨trivial, rfl, rfl, rfl, rfl, rfl, rfl, ?_⟩
  rw [Port.readyIfPending_timers]
  exact Port.toAttachedSnk_tCaps ..

theorem ccDebounce_debugAccSnk (hdue : s.due p tCc .ccDebounce = true) (hst : (s.port p).tc.st = .attachWaitSnk)
    (h1 : (s.port p).tc.cc1.isRp = true) (h2 : (s.port p).tc.cc2.isRp = true) (hv : (s.port p).vbusPresent = true) :
    gives (.ccDebounceExpiry p) s fun t => (t.port p).tc.st = .debugAccSnk
      ∧ (t.port p).pd.powerSource = false
      ∧ (t.port p).pd.dfp = false
      ∧ (t.port p).stage.want = (s.port p).stage.want := by
  refine gives_of_exec (exec_ccDebounceExpiry hdue) ?_
  simp only [State.updPort_port_tc_st, State.updPort_port_pd, State.updPort_port_stage]
  have hattach := Port.snkAttach_debug (x := (s.port p).disarm tCc) (svc := isService p) (b := s.now) hst h1 h2
  rw [Port.ccDebounced_snk (.inl hst), if_pos hv, hattach]
  obtain ⟨hsrc, hdfp, -, hwant⟩ := Port.toAccessory_debug ((s.port p).disarm tCc) (isService p) s.now .debugAccSnk (by decide)
  exact ⟨Port.toAccessory_st .., hsrc, hdfp, hwant (by simp)⟩

theorem ccDebounce_trySrc (hdue : s.due p tCc .ccDebounce = true) (hst : (s.port p).tc.st = .attachWaitSnk)
    (hrp : (s.port p).tc.cc1.isRp = false ∨ (s.port p).tc.cc2.isRp = false) (hrole : (s.port p).tc.role = 2) (htry : (s.port p).tc.tryMode = 1)
    (hv : (s.port p).vbusPresent = true) :
    gives (.ccDebounceExpiry p) s fun t => (t.port p).tc.st = .trySrc
      ∧ (t.port p).timers[tCc] = Timer.armed' .drpTry (s.port p).tDrpTry
      ∧ (t.port p).timers[tHealth] = Timer.armed' .tryTimeout (s.port p).tTryTimeout := by
  refine gives_of_exec (exec_ccDebounceExpiry hdue) ?_
  simp only [State.updPort_port_tc_st, State.updPort_timer]
  have hattach := Port.snkAttach_trySrc (x := (s.port p).disarm tCc) (svc := isService p) (b := s.now) hst hrp hrole htry
  rw [Port.ccDebounced_snk (.inl hst), if_pos hv, hattach]
  obtain ⟨hcc, hhealth⟩ := Port.toTry_trySrc ((s.port p).disarm tCc) (isService p) s.now
  exact ⟨Port.toTry_st .., hcc, hhealth⟩

theorem ccDebounce_waitsForVbus (hdue : s.due p tCc .ccDebounce = true)
    (hst : (s.port p).tc.st = .attachWaitSnk ∨ (s.port p).tc.st = .tryWaitSnk) (hv : (s.port p).vbusPresent = false) :
    gives (.ccDebounceExpiry p) s fun t => (t.port p).tc = { (s.port p).tc with debounced := true }
      ∧ (t.port p).timers[tCc] = Timer.idle
      ∧ (t.port p).pd = (s.port p).pd
      ∧ t.pool = s.pool := by
  refine gives_of_exec (exec_ccDebounceExpiry hdue) ?_
  have hf := Port.ccDebounced_snk (svc := isService p) (b := s.now) hst
  rw [hv, if_neg Bool.false_ne_true] at hf
  rw [State.updPort_of_shown (by rw [hf]; rfl), State.port_modPort, hf]
  exact ⟨rfl, by simp, rfl, rfl⟩

/-! ### tPDDebounce -/

/-- What the loss of every termination leads to, by the state it is seen in. -/
def State.pdDebounced (s : State) (p : PortId) : State :=
  match (s.port p).tc.st with
  | .attachWaitSrc => s.updPort p fun x => x.toUnattached (isService p) s.now false none
  | .attachWaitSnk | .tryWaitSnk => s.updPort p fun x => x.toUnattached (isService p) s.now true none
  | .attachedSnk | .debugAccSnk =>
    if (s.port p).pd.recov.isSome && !(s.port p).srcHeld then s.dropPort p 0 8 (Port.detachSnk (isService p) s.now) else s
  | _ => s

theorem exec_pdDebounceExpiry (h : s.due p tCc .pdDebounce = true) : exec (.pdDebounceExpiry p) s = .next (s.pdDebounced p) :=
  congrArg Host.Outcome.next (if_pos h)

/-- Back to the unattached state of the side that waited. -/
theorem pdDebounce_returns {snk : Bool} (hdue : s.due p tCc .pdDebounce = true)
    (hs : s.pdDebounced p = s.updPort p fun x => x.toUnattached (isService p) s.now snk none) :
    gives (.pdDebounceExpiry p) s fun t => (t.port p).tc.st = (if (s.port p).entrySide snk then .unattachedSnk else .unattachedSrc)
      ∧ (t.port p).tc.role = (s.port p).roleOf
      ∧ (t.port p).pd = (s.port p).pd := by
  refine gives_of_exec (exec_pdDebounceExpiry hdue) ?_
  rw [hs]
  simp only [State.updPort_port_tc_st, State.updPort_role, State.updPort_port_pd]
  exact ⟨Port.toUnattached_st .., Port.toUnattached_role .., Port.toUnattached_pd ..⟩

theorem pdDebounce_detaches (hdue : s.due p tCc .pdDebounce = true)
    (hst : (s.port p).tc.st = .attachedSnk ∨ (s.port p).tc.st = .debugAccSnk) (hrec : (s.port p).pd.recov ≠ none)
    (hheld : (s.port p).srcHeld = false) :
    gives (.pdDebounceExpiry p) s fun t => (t.port p).tc.st = (if (s.port p).entrySide true then .unattachedSnk else .unattachedSrc)
      ∧ (t.port p).pd.contract = Contract.none
      ∧ (t.port p).guard.gateOn = false := by
  have hcond : ((s.port p).pd.recov.isSome && !(s.port p).srcHeld) = true := by
    rw [hheld, Option.isSome_iff_ne_none.mpr hrec]; rfl
  have hs : s.pdDebounced p = s.dropPort p 0 8 (Port.detachSnk (isService p) s.now) := by
    unfold State.pdDebounced
    rcases hst with hst | hst
    · rw [hst]; exact if_pos hcond
    · rw [hst]; exact if_pos hcond
  refine gives_of_exec (exec_pdDebounceExpiry hdue) ?_
  rw [hs]
  obtain ⟨hst', -, hcontract, -, hgate, -⟩ := State.detachSnk_spec s p
  exact ⟨hst', hcontract, hgate⟩

end Sys2Proof.Machine
end

section
/-! O18, settled. -/

namespace Sys2Proof
open Machine

/-- Settles O18, by the side and the lines that the debounce time finds. -/
theorem debounces : Obligations.Debounces := by
  unfold Obligations.Debounces
  refine ⟨?_, ?_, ?_, fun p s => ccDebounce_debugAccSrc, fun p s => ccDebounce_trySnk, fun p s => ccDebounce_audioAcc,
    fun p s => ccDebounce_attachedSnk, fun p s => ccDebounce_debugAccSnk, fun p s => ccDebounce_trySrc, fun p s => ccDebounce_waitsForVbus,
    ?_, ?_, fun p s => pdDebounce_detaches⟩
  · intro p s hdue hst h1 h2 htry
    obtain ⟨t, he, hst', hcheck, hrest⟩ := ccDebounce_oneRd_checks hdue hst (.inl ⟨h1, h2⟩) htry
    exact ⟨t, he, hst'.trans hst, by simpa [h1, h2] using hcheck, hrest⟩
  · intro p s hdue hst h1 h2 htry
    obtain ⟨t, he, hst', hcheck, hrest⟩ := ccDebounce_oneRd_checks hdue hst (.inr ⟨h1, h2⟩) htry
    exact ⟨t, he, hst'.trans hst, by simpa [h1, h2] using hcheck, hrest⟩
  · intro p s hdue hst h1 h2 hsvc
    obtain ⟨t, he, hst', hcheck, -, hpd, -⟩ := ccDebounce_startsCheck hdue ((Port.ccDebounced_bothRd hst h1 h2).trans (if_pos hsvc))
    exact ⟨t, he, hst'.trans hst, by simpa [h1, h2] using hcheck, hpd⟩
  · intro p s hdue hst
    exact pdDebounce_returns hdue (by unfold State.pdDebounced; rw [hst])
  · intro p s hdue hst
    refine pdDebounce_returns hdue ?_
    unfold State.pdDebounced
    rcases hst with hst | hst <;> rw [hst]

end Sys2Proof
end

section
/-! The CC line states of a beat: what the state machine makes of them (R92, R108, R111, R112, R127). -/

namespace Sys2Proof.Machine

variable {s : State} {p : PortId} {x : Port} {svc chg : Bool} {b : Beat}

/-! ### The state machine leaves the line states and the clamp -/

/-- What a beat's samples write of a port beside its PHY's counts. -/
def Port.seen (x : Port) := (x.tc.cc1, x.tc.cc2, x.phy.gsnClamp)

/-- States that present a termination on a line at least. -/
def Tc.presents (st : Tc) : Bool :=
  st == .attachWaitSrc || st == .attachWaitSnk || st == .trySrc || st == .attachedSnk || st == .debugAccSnk

theorem presOf_not_bare (svc : Bool) (y : Port) (h : y.tc.st.presents = true) : ((presOf svc y).1 == .none && (presOf svc y).2 == .none) = false := by
  unfold presOf
  simp only [Tc.presents, Bool.or_eq_true, beq_iff_eq] at h
  rcases h with (((h | h) | h) | h) | h <;> rw [h] <;> dsimp only
  · rfl
  · rfl
  · rfl
  · (repeat' split) <;> rfl
  · rfl

theorem Port.present_seen (svc : Bool) (y : Port) (h : y.tc.st.presents = true) : (y.present svc).seen = y.seen := by
  unfold Port.present
  dsimp only
  rw [presOf_not_bare svc y h]
  rfl

theorem Port.enter_seen (svc : Bool) (b : Beat) {st : Tc} (x : Port) (h : st.presents = true) : (Port.enter svc b st x).seen = x.seen := by
  unfold Port.enter
  dsimp only
  rw [Port.present_seen _ _ (by split <;> exact h)]
  split <;> rfl

@[simp] theorem Port.arm_seen (x : Port) (i : Fin 12) (u : Use) (n : Nat) : (x.arm i u n).seen = x.seen := rfl
@[simp] theorem Port.disarm_seen (x : Port) (i : Fin 12) : (x.disarm i).seen = x.seen := rfl
@[simp] theorem Port.dropRdCheck_seen (x : Port) : x.dropRdCheck.seen = x.seen := rfl
@[simp] theorem Port.followRp_seen (x : Port) : x.followRp.seen = x.seen := rfl
@[simp] theorem Port.endCalRun_seen (x : Port) (b : Beat) : (x.endCalRun b).seen = x.seen := by
  unfold Port.endCalRun
  rw [Port.abandonCal_eq]
  rfl
@[simp] theorem Port.readyIfPending_seen (x : Port) : x.readyIfPending.seen = x.seen := by
  obtain ⟨v, h⟩ := x.readyIfPending_eq
  rw [h]
  rfl
@[simp] theorem Port.toAttachedSnk_seen (x : Port) (svc : Bool) (b : Beat) : (x.toAttachedSnk svc b).seen = x.seen := by
  have hseen := Port.enter_seen svc b (st := .attachedSnk) { x with tc := { x.tc with orient := x.tc.cc1 == .opened || x.tc.cc1 == .ra } } rfl
  obtain ⟨y, g, h, hy⟩ := x.toAttachedSnk_eq svc b
  rw [← hy] at hseen
  have h1 : y.tc.cc1 = x.tc.cc1 := congrArg (fun r => r.1) hseen
  have h2 : y.tc.cc2 = x.tc.cc2 := congrArg (fun r => r.2.1) hseen
  rw [h]
  unfold Port.seen
  rw [h1, h2]
  rfl
@[simp] theorem Port.toTry_trySrc_seen (x : Port) (svc : Bool) (b : Beat) : (x.toTry svc b .trySrc).seen = x.seen := by
  unfold Port.toTry
  dsimp only
  rw [Port.arm_seen, Port.arm_seen, Port.enter_seen svc b x rfl]
@[simp] theorem Port.toAccessory_debugAccSnk_seen (x : Port) (svc : Bool) (b : Beat) : (x.toAccessory svc b .debugAccSnk).seen = x.seen := by
  have hseen := Port.enter_seen svc b (st := .debugAccSnk) { x with tc := { x.tc with orient := x.tc.cc1 == .opened || x.tc.cc1 == .ra } } rfl
  rw [← Port.readyIfPending_seen] at hseen
  unfold Port.toAccessory
  dsimp only
  generalize (Port.enter svc b .debugAccSnk { x with tc := { x.tc with orient := x.tc.cc1 == .opened || x.tc.cc1 == .ra } }).readyIfPending = y at hseen
  rw [if_neg (by decide), if_neg (by simp)]
  have hphy : ((y.attachPhy).attachRoles (Tc.debugAccSnk == .debugAccSrc)).seen = y.seen := rfl
  split
  · exact hphy.trans hseen
  · exact hphy.trans hseen
@[simp] theorem Port.snkAttach_seen (x : Port) (svc : Bool) (b : Beat) : (x.snkAttach svc b).seen = x.seen := by
  unfold Port.snkAttach
  split
  · simp
  · split
    · simp
    · simp

/-- The samples of a beat stand whatever the state machine makes of them. -/
theorem ccAct_seen (svc : Bool) (b : Beat) (chg : Bool) (x : Port) : (ccAct svc b chg x).seen = x.seen := by
  unfold ccAct
  dsimp only
  split
  case h_1 =>
    split
    · rw [Port.arm_seen, Port.enter_seen _ _ _ rfl, Port.endCalRun_seen]
    · rfl
  case h_2 =>
    split
    · rw [Port.arm_seen, Port.enter_seen _ _ _ rfl, Port.endCalRun_seen]
    · rfl
  all_goals (repeat' split) <;> simp
  all_goals rfl

/-! ### The command -/

/-- The port with the beat's samples, before the state machine acts on them; a change it waits with is taken up where the firmware acts. -/
def State.sampled (s : State) (l1 l2 : List CcSample) (gsn : Int) (x : Port) : Port := (x.takeGsn gsn).takeCc s.now l1 l2

/-- The change is taken up. -/
def Port.unchanged (x : Port) : Port := { x with tc := { x.tc with ccChanged := false } }

theorem exec_ccStateUpdate (l1 l2 : List CcSample) (gsn : Int) (h : s.hubRuns = true) :
    exec (.ccStateUpdate p ⟨l1, l2⟩ gsn) s = .next (s.updPort p fun x =>
      if s.fw p then ccAct (isService p) s.now (s.sampled l1 l2 gsn x).tc.ccChanged (s.sampled l1 l2 gsn x).unchanged
      else s.sampled l1 l2 gsn x) :=
  congrArg Host.Outcome.next (if_neg (by simp [h]))

theorem State.sampled_line1 (l1 l2 : List CcSample) (gsn : Int) : (s.sampled l1 l2 gsn (s.port p)).tc.cc1 = s.line1 p l1 := rfl
theorem State.sampled_line2 (l1 l2 : List CcSample) (gsn : Int) : (s.sampled l1 l2 gsn (s.port p)).tc.cc2 = s.line2 p l2 := rfl

/-- While the firmware acts, the port is as the state machine leaves it. -/
theorem exec_ccStateUpdate_acts (l1 l2 : List CcSample) (gsn : Int) (h : s.hubRuns = true) (hfw : s.fw p = true) :
    exec (.ccStateUpdate p ⟨l1, l2⟩ gsn) s = .next (s.updPort p fun x =>
      ccAct (isService p) s.now (s.sampled l1 l2 gsn x).tc.ccChanged (s.sampled l1 l2 gsn x).unchanged) := by
  rw [exec_ccStateUpdate l1 l2 gsn h, hfw]
  rfl

/-! ### The clauses -/

/-- The beat's states and the clamp are those of its samples. -/
theorem ccStateUpdate_samples (l1 l2 : List CcSample) (gsn : Int) (h : s.hubRuns = true) :
    gives (.ccStateUpdate p ⟨l1, l2⟩ gsn) s fun t => (t.port p).tc.cc1 = s.line1 p l1
      ∧ (t.port p).tc.cc2 = s.line2 p l2
      ∧ (t.port p).phy.gsnClamp
        = decide (gsn - (s.port p).harn.gsnOfs.toInt < -2500 ∨ 5000 < gsn - (s.port p).harn.gsnOfs.toInt) := by
  refine gives_of_exec (exec_ccStateUpdate l1 l2 gsn h) ?_
  have hseen : (if s.fw p then ccAct (isService p) s.now (s.sampled l1 l2 gsn (s.port p)).tc.ccChanged (s.sampled l1 l2 gsn (s.port p)).unchanged
      else s.sampled l1 l2 gsn (s.port p)).seen = (s.sampled l1 l2 gsn (s.port p)).seen := by
    split
    · exact ccAct_seen ..
    · rfl
  rw [State.updPort_port_phy]
  refine ⟨?_, ?_, ?_⟩
  · exact (State.updPort_cc1 ..).trans (congrArg (fun r => r.1) hseen)
  · exact (State.updPort_cc2 ..).trans (congrArg (fun r => r.2.1) hseen)
  · have hclamp := congrArg (fun r => r.2.2) hseen
    refine hclamp.trans ?_
    simp [Port.seen, State.sampled, Port.takeGsn, Port.takeCc]

theorem Port.tcTimes_of_cfg {x y : Port} (h : y.cfg = x.cfg) : y.tCcDeb = x.tCcDeb ∧ y.tPdDeb = x.tPdDeb ∧ y.tSrcDisc = x.tSrcDisc := by
  unfold Port.tCcDeb Port.tPdDeb Port.tSrcDisc
  rw [h]
  exact ⟨rfl, rfl, rfl⟩

theorem Port.endCalRun_pd (x : Port) (b : Beat) : (x.endCalRun b).pd = x.pd ∧ (x.endCalRun b).ctx = x.ctx := by
  unfold Port.endCalRun
  rw [Port.abandonCal_eq]
  exact ⟨rfl, rfl⟩

/-- An entry to AttachWait, with its debounce. -/
theorem Port.attachWait_spec (x : Port) (svc : Bool) (b : Beat) (st : Tc) (n : Nat) :
    let y := (Port.enter svc b st (x.endCalRun b)).arm tCc .ccDebounce n
    y.tc.st = st ∧ y.timers[tCc] = Timer.armed' .ccDebounce n ∧ y.pd = x.pd ∧ y.ctx = x.ctx := by
  obtain ⟨hpd, hctx⟩ := x.endCalRun_pd b
  refine ⟨Port.enter_st .., by simp, ?_, ?_⟩
  · rw [Port.arm_pd, Port.enter_pd, hpd]
  · rw [Port.arm_ctx, Port.enter_ctx, hctx]

theorem ccStateUpdate_seesTermination (l1 l2 : List CcSample) (gsn : Int) (h : s.hubRuns = true) (hfw : s.fw p = true)
    (hst : (s.port p).tc.st = .unattachedSrc) (hmute : (s.port p).tc.mute = false)
    (hterm : (s.line1 p l1).termSrc = true ∨ (s.line2 p l2).termSrc = true) :
    gives (.ccStateUpdate p ⟨l1, l2⟩ gsn) s fun t => (t.port p).tc.st = .attachWaitSrc
      ∧ (t.port p).timers[tCc] = Timer.armed' .ccDebounce (s.port p).tCcDeb
      ∧ (t.port p).pd = (s.port p).pd
      ∧ (t.port p).ctx = (s.port p).ctx := by
  refine gives_of_exec (exec_ccStateUpdate_acts l1 l2 gsn h hfw) ?_
  simp only [State.updPort_port_tc_st, State.updPort_timer, State.updPort_port_pd, State.updPort_port_ctx]
  have hcond : (((s.sampled l1 l2 gsn (s.port p)).tc.cc1.termSrc || (s.sampled l1 l2 gsn (s.port p)).tc.cc2.termSrc)
      && !(s.sampled l1 l2 gsn (s.port p)).tc.mute) = true := by
    rw [State.sampled_line1, State.sampled_line2, show (s.sampled l1 l2 gsn (s.port p)).tc.mute = false from hmute]
    simpa using hterm
  have hact : ccAct (isService p) s.now (s.sampled l1 l2 gsn (s.port p)).tc.ccChanged (s.sampled l1 l2 gsn (s.port p)).unchanged
      = (Port.enter (isService p) s.now .attachWaitSrc ((s.sampled l1 l2 gsn (s.port p)).unchanged.endCalRun s.now)).arm tCc .ccDebounce
          (s.port p).tCcDeb := by
    unfold ccAct
    rw [show (s.sampled l1 l2 gsn (s.port p)).unchanged.tc.st = .unattachedSrc from hst]
    exact if_pos hcond
  rw [hact]
  exact Port.attachWait_spec ..

theorem ccStateUpdate_seesRp (l1 l2 : List CcSample) (gsn : Int) (h : s.hubRuns = true) (hfw : s.fw p = true)
    (hst : (s.port p).tc.st = .unattachedSnk) (hmute : (s.port p).tc.mute = false)
    (hrp : (s.line1 p l1).isRp = true ∨ (s.line2 p l2).isRp = true) :
    gives (.ccStateUpdate p ⟨l1, l2⟩ gsn) s fun t => (t.port p).tc.st = .attachWaitSnk
      ∧ (t.port p).timers[tCc] = Timer.armed' .ccDebounce (s.port p).tCcDeb
      ∧ (t.port p).pd = (s.port p).pd
      ∧ (t.port p).ctx = (s.port p).ctx := by
  refine gives_of_exec (exec_ccStateUpdate_acts l1 l2 gsn h hfw) ?_
  simp only [State.updPort_port_tc_st, State.updPort_timer, State.updPort_port_pd, State.updPort_port_ctx]
  have hcond : (((s.sampled l1 l2 gsn (s.port p)).tc.cc1.isRp || (s.sampled l1 l2 gsn (s.port p)).tc.cc2.isRp)
      && !(s.sampled l1 l2 gsn (s.port p)).tc.mute) = true := by
    rw [State.sampled_line1, State.sampled_line2, show (s.sampled l1 l2 gsn (s.port p)).tc.mute = false from hmute]
    simpa using hrp
  have hact : ccAct (isService p) s.now (s.sampled l1 l2 gsn (s.port p)).tc.ccChanged (s.sampled l1 l2 gsn (s.port p)).unchanged
      = (Port.enter (isService p) s.now .attachWaitSnk ((s.sampled l1 l2 gsn (s.port p)).unchanged.endCalRun s.now)).arm tCc .ccDebounce
          (s.port p).tCcDeb := by
    unfold ccAct
    rw [show (s.sampled l1 l2 gsn (s.port p)).unchanged.tc.st = .unattachedSnk from hst]
    exact if_pos hcond
  rw [hact]
  exact Port.attachWait_spec ..

theorem ccStateUpdate_losesTermination (l1 l2 : List CcSample) (gsn : Int) (h : s.hubRuns = true) (hfw : s.fw p = true)
    (hst : (s.port p).tc.st = .attachWaitSrc) (h1 : (s.line1 p l1).termSrc = false) (h2 : (s.line2 p l2).termSrc = false)
    (huse : (s.port p).use tCc ≠ .pdDebounce) :
    gives (.ccStateUpdate p ⟨l1, l2⟩ gsn) s fun t => (t.port p).tc.st = .attachWaitSrc
      ∧ (t.port p).timers[tCc] = Timer.armed' .pdDebounce (s.port p).tPdDeb
      ∧ (t.port p).tc.rdCheck = none := by
  refine gives_of_exec (exec_ccStateUpdate_acts l1 l2 gsn h hfw) ?_
  simp only [State.updPort_port_tc_st, State.updPort_timer, State.updPort_port_tc_rdCheck]
  have hact : ccAct (isService p) s.now (s.sampled l1 l2 gsn (s.port p)).tc.ccChanged (s.sampled l1 l2 gsn (s.port p)).unchanged
      = (s.sampled l1 l2 gsn (s.port p)).unchanged.dropRdCheck.arm tCc .pdDebounce (s.port p).tPdDeb := by
    have hterm : (!((s.sampled l1 l2 gsn (s.port p)).tc.cc1.termSrc || (s.sampled l1 l2 gsn (s.port p)).tc.cc2.termSrc)) = true := by
      rw [State.sampled_line1, State.sampled_line2, h1, h2]; rfl
    have hnot : ¬ ((s.sampled l1 l2 gsn (s.port p)).unchanged.use tCc == .pdDebounce) = true := fun hu => huse (eq_of_beq hu)
    unfold ccAct
    rw [show (s.sampled l1 l2 gsn (s.port p)).unchanged.tc.st = .attachWaitSrc from hst]
    exact (if_pos hterm).trans (if_neg hnot)
  rw [hact]
  exact ⟨hst, by simp, rfl⟩

theorem ccStateUpdate_opens (l1 l2 : List CcSample) (gsn : Int) (h : s.hubRuns = true) (hfw : s.fw p = true)
    (hst : (s.port p).tc.st = .attachedSrc) (hheld : (s.port p).srcHeld = false) (huse : (s.port p).use tCc ≠ .srcDisconnect)
    (hopen : (if (s.port p).tc.orient then s.line2 p l2 else s.line1 p l1) = .opened) :
    gives (.ccStateUpdate p ⟨l1, l2⟩ gsn) s fun t => (t.port p).tc.st = .attachedSrc
      ∧ (t.port p).timers[tCc] = Timer.armed' .srcDisconnect (s.port p).tSrcDisc
      ∧ (t.port p).pd = (s.port p).pd
      ∧ (t.port p).stage = (s.port p).stage
      ∧ (t.port p).guard = (s.port p).guard := by
  refine gives_of_exec (exec_ccStateUpdate_acts l1 l2 gsn h hfw) ?_
  simp only [State.updPort_port_tc_st, State.updPort_timer, State.updPort_port_pd, State.updPort_port_stage, State.updPort_port_guard]
  have hact : ccAct (isService p) s.now (s.sampled l1 l2 gsn (s.port p)).tc.ccChanged (s.sampled l1 l2 gsn (s.port p)).unchanged
      = (s.sampled l1 l2 gsn (s.port p)).unchanged.arm tCc .srcDisconnect (s.port p).tSrcDisc := by
    have hnotHeld : ¬ (s.sampled l1 l2 gsn (s.port p)).unchanged.srcHeld = true := by
      rw [show (s.sampled l1 l2 gsn (s.port p)).unchanged.srcHeld = false from hheld]; exact Bool.false_ne_true
    have hactive : ((if (s.sampled l1 l2 gsn (s.port p)).unchanged.tc.orient then (s.sampled l1 l2 gsn (s.port p)).unchanged.tc.cc2
        else (s.sampled l1 l2 gsn (s.port p)).unchanged.tc.cc1) == .opened) = true := beq_iff_eq.mpr hopen
    have hnot : ¬ ((s.sampled l1 l2 gsn (s.port p)).unchanged.use tCc == .srcDisconnect) = true := fun hu => huse (eq_of_beq hu)
    unfold ccAct
    rw [show (s.sampled l1 l2 gsn (s.port p)).unchanged.tc.st = .attachedSrc from hst]
    exact (if_neg hnotHeld).trans ((if_pos hactive).trans (if_neg hnot))
  rw [hact]
  exact ⟨hst, by simp, rfl, rfl, rfl⟩

/-- In a state that no reading leaves, or with the firmware stopped, the beat leaves the state and its timers. -/
theorem ccStateUpdate_rests (l1 l2 : List CcSample) (gsn : Int)
    (hst : s.fw p = false ∨ (s.port p).tc.st = .disabled ∨ (s.port p).tc.st = .calibrating ∨ (s.port p).tc.st = .calFailed
      ∨ (s.port p).tc.st = .errorRecovery ∨ (s.port p).tc.st = .dryWait ∨ (s.port p).tc.st = .lockout) :
    gives (.ccStateUpdate p ⟨l1, l2⟩ gsn) s fun t => (t.port p).tc.st = (s.port p).tc.st
      ∧ (t.port p).timers = (s.port p).timers
      ∧ (t.port p).pd = (s.port p).pd
      ∧ (t.port p).stage = (s.port p).stage
      ∧ (t.port p).guard = (s.port p).guard := by
  cases h : s.hubRuns with
  | false => exact gives_of_exec (congrArg Host.Outcome.next (if_pos (by simp [h]))) ⟨rfl, rfl, rfl, rfl, rfl⟩
  | true =>
    have hsame : (if s.fw p then ccAct (isService p) s.now (s.sampled l1 l2 gsn (s.port p)).tc.ccChanged (s.sampled l1 l2 gsn (s.port p)).unchanged
        else s.sampled l1 l2 gsn (s.port p)) = s.sampled l1 l2 gsn (s.port p)
        ∨ (if s.fw p then ccAct (isService p) s.now (s.sampled l1 l2 gsn (s.port p)).tc.ccChanged (s.sampled l1 l2 gsn (s.port p)).unchanged
        else s.sampled l1 l2 gsn (s.port p)) = (s.sampled l1 l2 gsn (s.port p)).unchanged := by
      cases hfw : s.fw p with
      | false => exact .inl rfl
      | true =>
        refine .inr ?_
        rw [hfw] at hst
        rw [if_pos rfl]
        unfold ccAct
        rcases hst with hst | hst | hst | hst | hst | hst | hst
        · exact absurd hst (by decide)
        all_goals rw [show (s.sampled l1 l2 gsn (s.port p)).unchanged.tc.st = _ from hst]
    refine gives_of_exec (exec_ccStateUpdate l1 l2 gsn h) ?_
    simp only [State.updPort_port_tc_st, State.updPort_port_timers, State.updPort_port_pd, State.updPort_port_stage, State.updPort_port_guard]
    rcases hsame with hsame | hsame
    · rw [hsame]; exact ⟨rfl, rfl, rfl, rfl, rfl⟩
    · rw [hsame]; exact ⟨rfl, rfl, rfl, rfl, rfl⟩

end Sys2Proof.Machine
end

section
/-! O17, settled. -/

namespace Sys2Proof
open Machine

/-- Settles O17: the samples stand whatever the state machine does, and it does what each state names. -/
theorem ccUpdate : Obligations.CcUpdate := by
  unfold Obligations.CcUpdate
  exact ⟨fun p l1 l2 gsn s => ccStateUpdate_samples l1 l2 gsn, fun p l1 l2 gsn s => ccStateUpdate_seesTermination l1 l2 gsn,
    fun p l1 l2 gsn s => ccStateUpdate_seesRp l1 l2 gsn, fun p l1 l2 gsn s => ccStateUpdate_losesTermination l1 l2 gsn,
    fun p l1 l2 gsn s => ccStateUpdate_opens l1 l2 gsn, fun p l1 l2 gsn s => ccStateUpdate_rests l1 l2 gsn⟩

end Sys2Proof
end

section
/-! Harness calibration, step by step (R93–R99). -/

namespace Sys2Proof.Machine

variable {s : State} {p : PortId} {x : Port}

/-! ### How a step ends -/

/-- What the step that runs on port `p` comes to. -/
def State.calEnds (s : State) (p : PortId) (o : CalObs) : Port ⊕ BitVec 4 :=
  calOutcome (isService p) s.now s.feedOn (draw s (max 1 (s.port p).tDrp)) o (s.port p)

theorem harnCalStep_passes {o : CalObs} {y : Port} (hfw : s.fw p = true) (h : s.calEnds p o = .inl y) :
    ∃ t, exec (.harnCalStep p o) s = .next t ∧ t.port p = (s.updPort p fun _ => y).port p ∧ t.faults = s.faults := by
  have he : exec (.harnCalStep p o) s = .next (let t := s.updPort p (fun _ => y)
      if (s.port p).harn.step == some .s1 || (s.port p).harn.step == some .s2 then t.drawn else t) := by
    refine congrArg Host.Outcome.next ((if_neg (by simp [hfw])).trans ?_)
    rw [← State.calEnds, h]
  refine ⟨_, he, ?_⟩
  dsimp only
  split
  · exact ⟨rfl, rfl⟩
  · exact ⟨rfl, rfl⟩

/-- The harness record of a port under no step is kept by every raise. -/
theorem portKept_harn {v : Harness} (hv : v.step = none) : PortKept fun x => x.harn = v := by
  refine ⟨fun b x h => ?_, fun _ _ h => h, fun _ _ h => h, fun _ _ h => h⟩
  have hidle : x.abandonRun.harn = x.harn := by
    have hnone : x.harn.step = none := by rw [h, hv]
    unfold Port.abandonRun Port.abandonCal
    rw [hnone]
    rfl
  exact hidle.trans h

/-- The port of a failed step. -/
theorem Port.calFail_spec (svc : Bool) (b : Beat) (c : BitVec 4) (x : Port) :
    (x.calFail svc b c).tc.st = .calFailed ∧ (x.calFail svc b c).tc.pReady = false ∧ (x.calFail svc b c).harn.step = none
      ∧ (x.calFail svc b c).harn.status = 4 ∧ (x.calFail svc b c).harn.cause = c := by
  refine ⟨Port.enter_st .., ?_, rfl, rfl, rfl⟩
  exact (Port.enter_pReady ..).trans (by simp [Tc.down])

theorem harnCalStep_fails {o : CalObs} {c : BitVec 4} (hfw : s.fw p = true) (h : s.calEnds p o = .inr c) :
    gives (.harnCalStep p o) s fun t => (t.port p).tc.st = .calFailed ∧ (t.port p).tc.pReady = false ∧ (t.port p).harn.status = 4
      ∧ (t.port p).harn.cause = c ∧ t.raisedAt (64 + p.val) = true := by
  have he : exec (.harnCalStep p o) s
      = .next ((s.dropPort p 0x85 8 (Port.calFail (isService p) s.now c)).raisePort p 16 c.toNat) := by
    refine congrArg Host.Outcome.next ((if_neg (by simp [hfw])).trans ?_)
    rw [← State.calEnds, h]
  refine gives_of_exec he ?_
  have hfrom : ∃ x : Port, ((s.dropPort p 0x85 8 (Port.calFail (isService p) s.now c)).port p).tc.st = (x.calFail (isService p) s.now c).tc.st
      ∧ ((s.dropPort p 0x85 8 (Port.calFail (isService p) s.now c)).port p).tc.pReady = (x.calFail (isService p) s.now c).tc.pReady
      ∧ ((s.dropPort p 0x85 8 (Port.calFail (isService p) s.now c)).port p).harn = (x.calFail (isService p) s.now c).harn := by
    unfold State.dropPort
    exact ⟨_, State.updPort_port_tc_st .., State.updPort_pReady .., State.updPort_port_harn ..⟩
  generalize s.dropPort p 0x85 8 (Port.calFail (isService p) s.now c) = t at hfrom ⊢
  obtain ⟨x, hst, hready, hharn⟩ := hfrom
  obtain ⟨hst', hready', hstep, hstatus, hcause⟩ := Port.calFail_spec (isService p) s.now c x
  have hkept := (portKept_harn (v := (t.port p).harn) (by rw [hharn, hstep])).raisePort t p 16 c.toNat p rfl
  refine ⟨?_, portKept_pReady.raisePort t p 16 c.toNat p (hready.trans hready'), ?_, ?_, State.raisePort_raised ..⟩
  · rw [State.raisePort_st, hst, hst']
  · rw [hkept, hharn, hstatus]
  · rw [hkept, hharn, hcause]

/-! ### The steps, each by its measurement -/

theorem calEnds_s1 {v g : Int} (hstep : (s.port p).harn.step = some .s1) :
    s.calEnds p (.offsets v g)
      = if v.natAbs ≤ 500 ∧ g.natAbs ≤ 500 then
          let y : Port := { s.port p with harn := { (s.port p).harn with vbsOfs := half v, gsnOfs := half g } }
          if y.harn.complete then
            .inl ((Port.afterCal (isService p) s.now (draw s (max 1 (s.port p).tDrp))
              { y with harn := { y.harn.useKept with step := none, status := 2 } }).setReady)
          else .inl { y with harn := { y.harn with step := some .s2 } }
        else .inr 1 := by
  unfold State.calEnds calOutcome
  rw [hstep]
  rfl

theorem calEnds_s2 {v0 v10 : Int} (hstep : (s.port p).harn.step = some .s2) :
    s.calEnds p (.conductor v0 v10)
      = if (v10 - v0) / 10 ≤ 20000 ∧ 0 ≤ (v10 - v0) / 10 then
          let y : Port := { s.port p with
            harn := { ({ (s.port p).harn with keep2 := some (half ((v10 - v0) / 10)) }).useKept with step := none, status := 3, bleeder := false } }
          let z := Port.afterCal (isService p) s.now (draw s (max 1 (s.port p).tDrp)) y
          .inl (if !s.feedOn || z.tc.st.attached then z.setReady else z)
        else .inr 2 := by
  have hmohm (a b c : Int) : ((b - c) - (a - c)) * 1000 / 10000 = (b - a) / 10 := by
    omega
  unfold State.calEnds calOutcome
  rw [hstep]
  dsimp only
  rw [hmohm]

theorem calEnds_s4a {vbh raw : Int} (hstep : (s.port p).harn.step = some .s4a) :
    s.calEnds p (.gain vbh raw)
      = let vbs := (s.port p).lessOfs raw
        if vbh < 3500 then .inr 5
        else if (vbs * 100 - vbh * 100).natAbs ≤ vbh.natAbs * 2 then
          let g := (if vbs ≤ 0 then 65536 else (vbh * 65536 / vbs).toNat)
          .inl { s.port p with harn := { (s.port p).harn with gain := g, keep4a := some g, step := some .s4b, bleeder := true } }
        else .inr 4 := by
  unfold State.calEnds calOutcome
  rw [hstep]

/-! ### Where a passed calibration leads -/

/-- After steps 1 and 2 the port is unattached, or a Sink where P0–P3 found a charger; its harness record is as they left it. -/
theorem Port.afterCal_spec (svc : Bool) (b : Beat) (phase : Nat) (x : Port) :
    (x.afterCal svc b phase).harn = x.harn
      ∧ ((x.afterCal svc b phase).tc.st.unattached = true ∨ ((x.afterCal svc b phase).tc.st = .attachedSnk ∧ svc = true)) := by
  unfold Port.afterCal
  split
  · next hc =>
    refine ⟨?_, .inr ⟨Port.toAttachedSnk_st .., ?_⟩⟩
    · rw [Port.toAttachedSnk_harn]
    · simp only [Bool.and_eq_true] at hc
      exact hc.1
  · obtain ⟨snk, left, heq, -⟩ := x.toRoleState_eq svc b phase
    rw [heq, Port.toUnattached_harn, Port.toUnattached_st]
    refine ⟨rfl, .inl ?_⟩
    split <;> rfl

theorem harnCal_s1_goesOn {v g : Int} (hstep : (s.port p).harn.step = some .s1) (hc : (s.port p).harn.complete = false)
    (hv : v.natAbs ≤ 500) (hg : g.natAbs ≤ 500) (hfw : s.fw p = true) :
    gives (.harnCalStep p (.offsets v g)) s fun t => (t.port p).harn.vbsOfs = half v
      ∧ (t.port p).harn.gsnOfs = half g
      ∧ (t.port p).harn.step = some .s2
      ∧ (t.port p).tc.st = (s.port p).tc.st
      ∧ (t.port p).pd = (s.port p).pd
      ∧ t.faults = s.faults := by
  have hend := (calEnds_s1 (v := v) (g := g) hstep).trans ((if_pos ⟨hv, hg⟩).trans (if_neg fun h => Bool.false_ne_true (hc.symm.trans h)))
  obtain ⟨t, he, hport, hfaults⟩ := harnCalStep_passes hfw hend
  refine gives_of_exec he ?_
  rw [hport]
  simp [hfaults]

theorem harnCal_s1_complete {v g : Int} (hstep : (s.port p).harn.step = some .s1) (hc : (s.port p).harn.complete = true)
    (hv : v.natAbs ≤ 500) (hg : g.natAbs ≤ 500) (hfw : s.fw p = true) :
    gives (.harnCalStep p (.offsets v g)) s fun t => (t.port p).harn.step = none
      ∧ (t.port p).harn.status = 2
      ∧ (t.port p).harn.rCc = (s.port p).harn.keep2.getD 0
      ∧ (t.port p).harn.rDrop = (s.port p).harn.keep4b.getD 0
      ∧ (t.port p).tc.pReady = true
      ∧ ((t.port p).tc.st.unattached = true ∨ ((t.port p).tc.st = .attachedSnk ∧ isService p = true)) := by
  have hend := (calEnds_s1 (v := v) (g := g) hstep).trans ((if_pos ⟨hv, hg⟩).trans (if_pos hc))
  obtain ⟨t, he, hport, -⟩ := harnCalStep_passes hfw hend
  refine gives_of_exec he ?_
  rw [hport, State.updPort_port_harn, State.updPort_port_tc_st, State.updPort_pReady, Port.setReady_st, Port.setReady_harn]
  obtain ⟨hharn, hst⟩ := Port.afterCal_spec (isService p) s.now (draw s (max 1 (s.port p).tDrp))
    ({ s.port p with harn := { ({ (s.port p).harn with vbsOfs := half v, gsnOfs := half g } : Harness).useKept with step := none, status := 2 } } : Port)
  rw [hharn]
  exact ⟨rfl, rfl, rfl, rfl, rfl, hst⟩

theorem harnCal_s1_fails {v g : Int} (hstep : (s.port p).harn.step = some .s1) (hv : 500 < v.natAbs ∨ 500 < g.natAbs) (hfw : s.fw p = true) :
    gives (.harnCalStep p (.offsets v g)) s fun t => (t.port p).tc.st = .calFailed ∧ (t.port p).tc.pReady = false
      ∧ (t.port p).harn.status = 4 ∧ (t.port p).harn.cause = 1 ∧ t.raisedAt (64 + p.val) = true :=
  harnCalStep_fails hfw ((calEnds_s1 hstep).trans (if_neg (by omega)))

theorem harnCal_s2_passes {v0 v10 : Int} (hstep : (s.port p).harn.step = some .s2) (h0 : 0 ≤ v10 - v0) (h1 : v10 - v0 ≤ 200000)
    (hfw : s.fw p = true) :
    gives (.harnCalStep p (.conductor v0 v10)) s fun t => (t.port p).harn.rCc = half ((v10 - v0) / 10)
      ∧ (t.port p).harn.step = none
      ∧ (t.port p).harn.status = 3
      ∧ ((t.port p).tc.st.unattached = true ∨ ((t.port p).tc.st = .attachedSnk ∧ isService p = true))
      ∧ t.faults = s.faults := by
  have hend := (calEnds_s2 (v0 := v0) (v10 := v10) hstep).trans (if_pos (by omega))
  obtain ⟨t, he, hport, hfaults⟩ := harnCalStep_passes hfw hend
  refine gives_of_exec he ?_
  rw [hport, State.updPort_port_harn, State.updPort_port_tc_st]
  obtain ⟨hharn, hst⟩ := Port.afterCal_spec (isService p) s.now (draw s (max 1 (s.port p).tDrp))
    ({ s.port p with harn := { ({ (s.port p).harn with keep2 := some (half ((v10 - v0) / 10)) } : Harness).useKept with
      step := none, status := 3, bleeder := false } } : Port)
  split
  · rw [Port.setReady_harn, Port.setReady_st, hharn]
    exact ⟨rfl, rfl, rfl, hst, hfaults⟩
  · rw [hharn]
    exact ⟨rfl, rfl, rfl, hst, hfaults⟩

/-- Conductor capacitance of a reading within the bound of step 3, in pF. -/
theorem capacitance_le {v : Nat} (h : 110000 ≤ v) : (165000000 + v / 2) / v ≤ 1500 := by
  have hv : 0 < v := by omega
  rw [← Nat.lt_succ_iff, Nat.div_lt_iff_lt_mul hv]
  omega

/-- The record with the capacitances of step 3. -/
def Harness.withCap (c : Half × Half) (h : Harness) : Harness :=
  { h with cCc1 := c.1, cCc2 := c.2, keep3 := some c, capHigh := highCap c, step := some .s4a }

theorem Port.driveCal_eq (b : Beat) (x : Port) :
    ∃ g, x.driveCal b = { x with stage := { x.stage with want := .forward, vTgt := 35 }, guard := g } :=
  Port.gateOnCmd_eq ({ x with stage := { x.stage with want := .forward, vTgt := 35 } } : Port) b
@[simp] theorem Port.driveCal_harn (b : Beat) (x : Port) : (x.driveCal b).harn = x.harn := by
  obtain ⟨g, h⟩ := x.driveCal_eq b
  rw [h]
@[simp] theorem Port.driveCal_tc (b : Beat) (x : Port) : (x.driveCal b).tc = x.tc := by
  obtain ⟨g, h⟩ := x.driveCal_eq b
  rw [h]
@[simp] theorem Port.driveCal_vTgt (b : Beat) (x : Port) : (x.driveCal b).stage.vTgt = 35 := by
  obtain ⟨g, h⟩ := x.driveCal_eq b
  rw [h]

theorem harnCal_s3_passes {v1 v2 : Nat} (hstep : (s.port p).harn.step = some .s3) (h1 : 110000 ≤ v1) (h2 : 110000 ≤ v2) (hfw : s.fw p = true) :
    gives (.harnCalStep p (.capacitance v1 v2)) s fun t => (t.port p).harn.step = some .s4a
      ∧ (t.port p).harn.cCc1 = BitVec.ofNat 16 ((165000000 + v1 / 2) / v1)
      ∧ (t.port p).harn.cCc2 = BitVec.ofNat 16 ((165000000 + v2 / 2) / v2)
      ∧ (t.port p).harn.capHigh = decide (1200 < (165000000 + v1 / 2) / v1 ∨ 1200 < (165000000 + v2 / 2) / v2)
      ∧ (t.port p).stage.vTgt = 35 := by
  have hpf {v : Nat} (h : 110000 ≤ v) : (if v = 0 then 0xFFFF else min 0xFFFF ((330 * 500 * 1000 + v / 2) / v)) = (165000000 + v / 2) / v := by
    rw [if_neg (by omega), min_eq_right ((capacitance_le h).trans (by norm_num))]
  have hlt {v : Nat} (h : 110000 ≤ v) : (165000000 + v / 2) / v < 2 ^ 16 := (capacitance_le h).trans_lt (by norm_num)
  have hend : s.calEnds p (.capacitance v1 v2)
      = .inl (Port.driveCal s.now { s.port p with
          harn := (s.port p).harn.withCap (BitVec.ofNat 16 ((165000000 + v1 / 2) / v1), BitVec.ofNat 16 ((165000000 + v2 / 2) / v2)) }) := by
    unfold State.calEnds calOutcome
    rw [hstep]
    dsimp only
    refine (if_pos ⟨(hpf h1).le.trans (capacitance_le h1), (hpf h2).le.trans (capacitance_le h2)⟩).trans ?_
    rw [hpf h1, hpf h2]
    rfl
  obtain ⟨t, he, hport, -⟩ := harnCalStep_passes hfw hend
  refine gives_of_exec he ?_
  rw [hport, State.updPort_port_harn, State.updPort_port_stage, Port.driveCal_harn, Port.driveCal_vTgt]
  refine ⟨rfl, rfl, rfl, ?_, rfl⟩
  unfold Harness.withCap
  unfold highCap
  rw [BitVec.toNat_ofNat, BitVec.toNat_ofNat, Nat.mod_eq_of_lt (hlt h1), Nat.mod_eq_of_lt (hlt h2), Bool.decide_or]

theorem harnCal_s4a_passes {vbh raw : Int} (hstep : (s.port p).harn.step = some .s4a) (hv : 3500 ≤ vbh)
    (hg : ((raw - (s.port p).harn.vbsOfs.toInt) * 100 - vbh * 100).natAbs ≤ vbh.natAbs * 2) (hfw : s.fw p = true) :
    gives (.harnCalStep p (.gain vbh raw)) s fun t => (t.port p).harn.step = some .s4b
      ∧ (t.port p).harn.gain = (vbh * 65536 / (raw - (s.port p).harn.vbsOfs.toInt)).toNat
      ∧ (t.port p).harn.bleeder = true
      ∧ (t.port p).stage = (s.port p).stage := by
  have hpos : ¬ (s.port p).lessOfs raw ≤ 0 := by
    unfold Port.lessOfs
    omega
  have hend := (calEnds_s4a (vbh := vbh) (raw := raw) hstep).trans ((if_neg (by omega)).trans (if_pos hg))
  obtain ⟨t, he, hport, -⟩ := harnCalStep_passes hfw hend
  refine gives_of_exec he ?_
  rw [hport, State.updPort_port_harn, State.updPort_port_stage]
  rw [if_neg hpos]
  exact ⟨rfl, rfl, rfl, rfl⟩

theorem harnCal_s4b_passes {vbh raw v : Int} (hstep : (s.port p).harn.step = some .s4b) (hb : (s.port p).harn.bleeder = true)
    (hv : v = (s.port p).corrected raw) (hlo : 1000 ≤ v) (h0 : 0 ≤ ((vbh - v) * 20 * 1000 + v / 2) / v)
    (h1 : ((vbh - v) * 20 * 1000 + v / 2) / v ≤ 2000) (hfw : s.fw p = true) :
    gives (.harnCalStep p (.drop vbh raw)) s fun t => (t.port p).harn.step = some .s4c
      ∧ (t.port p).harn.rDrop = half (((vbh - v) * 20 * 1000 + v / 2) / v)
      ∧ (t.port p).stage.vTgt = 0
      ∧ (t.port p).stage.mode = .idle
      ∧ (t.port p).guard.gateOn = false := by
  have hbound : ¬ (v * 5 < 5000 ∨ (!(s.port p).harn.bleeder) = true) := by
    rw [hb]
    rintro (h | h)
    · omega
    · exact absurd h (by decide)
  have hend : s.calEnds p (.drop vbh raw) = .inl (Port.stageHalt (Port.gateOff s.now { s.port p with
      harn := { (s.port p).harn with
        rDrop := half (((vbh - v) * 20 * 1000 + v / 2) / v), keep4b := some (half (((vbh - v) * 20 * 1000 + v / 2) / v)), step := some .s4c }
      stage := { (s.port p).stage with vTgt := 0 } })) := by
    unfold State.calEnds calOutcome
    rw [hstep]
    dsimp only
    rw [← hv, if_neg hbound, if_pos h1, if_neg (by omega)]
  obtain ⟨t, he, hport, -⟩ := harnCalStep_passes hfw hend
  refine gives_of_exec he ?_
  rw [hport, State.updPort_port_harn, State.updPort_port_stage, State.updPort_port_guard]
  exact ⟨rfl, rfl, rfl, rfl, rfl⟩

theorem harnCal_s4c_completes {n : Nat} (hstep : (s.port p).harn.step = some .s4c) (hn : n ≤ 50) (hfw : s.fw p = true) :
    gives (.harnCalStep p (.release n)) s fun t => (t.port p).harn.step = none
      ∧ (t.port p).harn.status = 2
      ∧ (t.port p).tc.pReady = true
      ∧ (t.port p).harn.bleeder = false
      ∧ (t.port p).tc.st = (s.port p).tc.st := by
  have hend : s.calEnds p (.release n)
      = .inl (Port.setReady { s.port p with harn := { (s.port p).harn with step := none, status := 2, resume := .s3, bleeder := false } }) := by
    unfold State.calEnds calOutcome
    rw [hstep]
    exact if_pos hn
  obtain ⟨t, he, hport, -⟩ := harnCalStep_passes hfw hend
  refine gives_of_exec he ?_
  rw [hport, State.updPort_port_harn, State.updPort_port_tc_st, State.updPort_pReady]
  exact ⟨rfl, rfl, rfl, rfl, rfl⟩

/-! ### A termination, and the step taken up again -/

/-- Steps 3 and 4 that are abandoned wait for a later start. -/
theorem Port.abandonCal_waits {k : CalStep} (h : x.harn.step = some k) (h1 : k ≠ .s1) (h2 : k ≠ .s2) :
    x.abandonCal = { x with harn := { x.harn with step := none, status := 3, resume := k, bleeder := false } } := by
  unfold Port.abandonCal
  rw [h]
  cases k
  · exact absurd rfl h1
  · exact absurd rfl h2
  all_goals rfl

theorem harnCal_termination {k : CalStep} (hstep : (s.port p).harn.step = some k) (h1 : k ≠ .s1) (h2 : k ≠ .s2) (hfw : s.fw p = true) :
    gives (.harnCalStep p .termination) s fun t => (t.port p).harn.step = none
      ∧ (t.port p).harn.status = 3
      ∧ (t.port p).harn.resume = k
      ∧ (t.port p).harn.bleeder = false
      ∧ (t.port p).tc.st = (s.port p).tc.st := by
  have hend : ∃ y : Port, s.calEnds p .termination = .inl y ∧ y.harn = (s.port p).abandonCal.harn ∧ y.tc = (s.port p).abandonCal.tc := by
    unfold State.calEnds calOutcome
    rw [hstep]
    cases k
    · exact absurd rfl h1
    · exact absurd rfl h2
    all_goals exact ⟨_, rfl, rfl, rfl⟩
  obtain ⟨y, hend, hharn, htc⟩ := hend
  obtain ⟨t, he, hport, -⟩ := harnCalStep_passes hfw hend
  refine gives_of_exec he ?_
  rw [hport, State.updPort_port_harn, State.updPort_port_tc_st]
  rw [hharn, htc, Port.abandonCal_waits hstep h1 h2]
  exact ⟨rfl, rfl, rfl, rfl, rfl⟩

/-- The step taken up leaves the connection state. -/
theorem Port.resumeCal_spec (b : Beat) (x : Port) :
    (x.resumeCal b).harn.step = some x.harn.resume ∧ (x.resumeCal b).harn.status = 1 ∧ (x.resumeCal b).tc = x.tc := by
  unfold Port.resumeCal
  dsimp only
  split
  · rw [Port.driveCal_harn, Port.driveCal_tc]
    exact ⟨rfl, rfl, rfl⟩
  · exact ⟨rfl, rfl, rfl⟩

theorem harnCalDeferredStart_resumes (hmay : (s.port p).calMayRun s.feedOn = true) (hfw : s.fw p = true) :
    gives (.harnCalDeferredStart p) s fun t => (t.port p).harn.step = some (s.port p).harn.resume
      ∧ (t.port p).harn.status = 1
      ∧ (t.port p).tc = (s.port p).tc
      ∧ t.pool = s.pool := by
  refine gives_of_exec (congrArg Host.Outcome.next (if_pos (by rw [hfw, hmay]; rfl))) ?_
  rw [State.port_modPort]
  obtain ⟨hstep, hstatus, htc⟩ := Port.resumeCal_spec s.now (s.port p)
  exact ⟨hstep, hstatus, htc, rfl⟩

theorem harnDrift_raises (hpos : (s.port p).pd.contract.pos ≠ 0) (hdrift : (s.port p).stage.runs.drift = 8) :
    gives (.harnDrift p) s fun t => t.raisedAt (64 + p.val) = true ∧ (t.port p).tc.st = (s.port p).tc.st ∧ (t.port p).pd = (s.port p).pd := by
  refine gives_of_exec (congrArg Host.Outcome.next (if_pos (by rw [bne_iff_ne.mpr hpos, hdrift]; rfl))) ?_
  rw [State.raisePort_st, State.raisePort_pd, State.port_modPort]
  exact ⟨State.raisePort_raised .., rfl, rfl⟩

end Sys2Proof.Machine
end

section
/-! O23, settled. -/

namespace Sys2Proof
open Machine

/-- Settles O23, step by step. -/
theorem calibration : Obligations.Calibration := by
  unfold Obligations.Calibration
  refine ⟨fun p v g s => harnCal_s1_goesOn, fun p v g s => harnCal_s1_complete, fun p v g s => harnCal_s1_fails, fun p v0 v10 s => harnCal_s2_passes,
    ?_, fun p v1 v2 s => harnCal_s3_passes, fun p vbh raw s => harnCal_s4a_passes, fun p vbh raw v s => harnCal_s4b_passes, ?_,
    fun p n s => harnCal_s4c_completes, fun p k s => harnCal_termination, fun p s => harnCalDeferredStart_resumes, fun p s => rfl,
    fun p s => harnDrift_raises⟩
  · intro p v0 v10 s hstep hv hfw
    obtain ⟨t, he, hst, -, -, hcause, hraised⟩ := harnCalStep_fails hfw ((calEnds_s2 (v0 := v0) (v10 := v10) hstep).trans (if_neg (by omega)))
    exact ⟨t, he, hst, hcause, hraised⟩
  · intro p vbh raw s hstep hv hfw
    obtain ⟨t, he, hst, -, -, hcause, hraised⟩ := harnCalStep_fails hfw ((calEnds_s4a (vbh := vbh) (raw := raw) hstep).trans (if_pos hv))
    exact ⟨t, he, hst, hcause, hraised⟩

end Sys2Proof
end

section
/-! Moisture sweeps, rechecks and the leakage checks (R120–R125). -/

namespace Sys2Proof.Machine

variable {s : State} {p : PortId} {x : Port}

/-! ### What a sweep records -/

/-- The record of a classified sweep, its counter and the indices that the next one is held against. -/
def Port.swept (b : Beat) (v : Verdict) (z : List Nat) (o : List Int) (rd1 rd2 : Bool) (k : List Nat) (y : Port) : Port :=
  { y with
    moist := ({ y.moist.record v.code b z o with
      sweeps := satIncr y.moist.sweeps, prevWet := wetIdx y.wetK rd1 rd2 k z, prevCorr := corrIdx y.corrMv k o }).restart
    tc := { y.tc with wet := v.wet.isSome, corroded := v.corr.isSome } }

/-- The state with the sweep recorded. -/
def State.afterRecord (s : State) (p : PortId) (z : List Nat) (o : List Int) (rd1 rd2 : Bool) : State :=
  s.modPort p (Port.swept s.now ((s.port p).judgeSweep rd1 rd2 z o) z o rd1 rd2 (s.port p).moist.skipped)

theorem exec_moistureSweepEnd {z : List Nat} {o : List Int} {rd1 rd2 : Bool} (hfw : s.fw p = true) (hover : (s.port p).sweepOver = true)
    (hterm : (s.port p).moist.term = false) :
    exec (.moistureSweepEnd p z o rd1 rd2) s
      = .next ((s.afterRecord p z o rd1 rd2).afterSweep p ((s.port p).judgeSweep rd1 rd2 z o) (s.port p).moist.skipped z o) :=
  congrArg Host.Outcome.next ((if_neg (by simp [hfw, hover])).trans (if_neg (by simp [hterm])))

theorem State.port_afterRecord (z : List Nat) (o : List Int) (rd1 rd2 : Bool) :
    (s.afterRecord p z o rd1 rd2).port p
      = (s.port p).swept s.now ((s.port p).judgeSweep rd1 rd2 z o) z o rd1 rd2 (s.port p).moist.skipped :=
  State.port_modPort ..

theorem State.moistOutcome_of_cfg {t : State} (hp : t.policy = s.policy) (hc : (t.port p).cfg = (s.port p).cfg) (point : Nat) :
    t.moistOutcome p point = s.moistOutcome p point := by
  have hidx : (t.port p).classIdx = (s.port p).classIdx := by
    unfold Port.classIdx
    rw [hc]
  unfold State.moistOutcome State.classOf
  simp only [hp, hidx]

@[simp] theorem State.moistOutcome_afterRecord (z : List Nat) (o : List Int) (rd1 rd2 : Bool) (point : Nat) :
    (s.afterRecord p z o rd1 rd2).moistOutcome p point = s.moistOutcome p point :=
  State.moistOutcome_of_cfg (s := s) (t := s.afterRecord p z o rd1 rd2) rfl ((congrArg Port.cfg (State.port_afterRecord z o rd1 rd2)).trans rfl) point

@[simp] theorem State.moistEvents_port (s : State) (p : PortId) (v : Verdict) (k z : List Nat) (o : List Int) (q : PortId) :
    (s.moistEvents p v k z o).port q = s.port q := by
  unfold State.moistEvents
  dsimp only
  (repeat' split) <;> simp
@[simp] theorem State.moistEvents_none (s : State) (p : PortId) {v : Verdict} (hw : v.wet = none) (hc : v.corr = none) (k z : List Nat) (o : List Int) :
    s.moistEvents p v k z o = s := by
  unfold State.moistEvents
  rw [hw, hc]

/-! ### What follows it -/

section
variable {v : Verdict} {k z : List Nat} {o : List Int}

/-- Nothing wet and nothing corroded, outside DRY_WAIT: the mute may end, and nothing else happens. -/
theorem State.afterSweep_none (hw : v.wet = none) (hc : v.corr = none) (hst : (s.port p).tc.st ≠ .dryWait) :
    s.afterSweep p v k z o = if v.dry || v.clear then s.updPort p (Port.unmute (isService p)) else s := by
  unfold State.afterSweep
  dsimp only
  rw [State.moistEvents_none s p hw hc, hw, hc, if_neg (by simp [ocReport, ocLockout]), if_neg hst]
  rfl

/-- Nothing wet and nothing corroded in DRY_WAIT: its recheck ends. -/
theorem State.afterSweep_recheck (hw : v.wet = none) (hc : v.corr = none) (hst : (s.port p).tc.st = .dryWait) :
    s.afterSweep p v k z o = s.recheckEnd p v (!(corrIdx (s.port p).corrMv k o).isEmpty) := by
  unfold State.afterSweep
  dsimp only
  rw [State.moistEvents_none s p hw hc, hw, hc, if_neg (by simp [ocReport, ocLockout]), if_pos hst]

theorem State.afterSweep_lockout {i : Nat} (hw : v.wet = some i) (hoc : s.moistOutcome p ptMoistWet = ocLockout) :
    s.afterSweep p v k z o = (s.moistEvents p v k z o).dropPort p 0x85 8 (Port.toLockout (isService p) s.now s.feedOn) := by
  unfold State.afterSweep
  dsimp only
  rw [hw, hoc]
  exact if_pos (.inl rfl)

theorem State.afterSweep_dryWait {i : Nat} (hw : v.wet = some i) (hc : v.corr = none) (hoc : s.moistOutcome p ptMoistWet = ocDryWait)
    (hst : (s.port p).tc.st ≠ .dryWait) :
    s.afterSweep p v k z o = (s.moistEvents p v k z o).dropPort p 0 8 (Port.toDryWait (isService p) s.now s.feedOn .wet) := by
  unfold State.afterSweep
  dsimp only
  rw [hw, hc, hoc, if_neg (by simp [ocReport, ocLockout, ocDryWait]), if_neg hst]
  exact if_pos rfl

end

/-- The mute of a port that dries ends; its state, its role and its record stay. -/
theorem Port.unmute_spec (svc : Bool) (x : Port) :
    (x.unmute svc).tc.mute = false ∧ (x.unmute svc).tc.st = x.tc.st ∧ (x.unmute svc).tc.role = x.tc.role ∧ (x.unmute svc).moist = x.moist
      ∧ (x.unmute svc).tc.wet = x.tc.wet ∧ (x.unmute svc).tc.corroded = x.tc.corroded := by
  unfold Port.unmute
  split
  · exact ⟨rfl, rfl, rfl, rfl, rfl, rfl⟩
  · next h => exact ⟨by simpa using h, rfl, rfl, rfl, rfl, rfl⟩

/-! ### The clauses -/

theorem moistureSweep_invalid {z : List Nat} {o : List Int} {rd1 rd2 : Bool} (hfw : s.fw p = true) (hover : (s.port p).sweepOver = true)
    (hterm : (s.port p).moist.term = true) :
    gives (.moistureSweepEnd p z o rd1 rd2) s fun t => (t.port p).moist.cls = 5
      ∧ (t.port p).moist.sweeps = (s.port p).moist.sweeps
      ∧ (t.port p).moist.beat = s.now
      ∧ (t.port p).tc = (s.port p).tc
      ∧ (t.port p).moist.pass = 0
      ∧ t.faults = s.faults := by
  refine gives_of_exec (congrArg Host.Outcome.next ((if_neg (by simp [hfw, hover])).trans (if_pos hterm))) ?_
  rw [State.port_modPort]
  split
  · exact ⟨rfl, rfl, rfl, rfl, rfl, rfl⟩
  · exact ⟨rfl, rfl, rfl, rfl, rfl, rfl⟩

theorem moistureSweep_nothing {z : List Nat} {o : List Int} {rd1 rd2 : Bool} (hfw : s.fw p = true) (hover : (s.port p).sweepOver = true)
    (hterm : (s.port p).moist.term = false) (hw : ((s.port p).judgeSweep rd1 rd2 z o).wet = none)
    (hc : ((s.port p).judgeSweep rd1 rd2 z o).corr = none) (hst : (s.port p).tc.st ≠ .dryWait) :
    gives (.moistureSweepEnd p z o rd1 rd2) s fun t =>
      (t.port p).moist = ((s.port p).swept s.now ((s.port p).judgeSweep rd1 rd2 z o) z o rd1 rd2 (s.port p).moist.skipped).moist
      ∧ (t.port p).tc.wet = false
      ∧ (t.port p).tc.corroded = false
      ∧ (t.port p).tc.mute
        = ((s.port p).tc.mute && !(((s.port p).judgeSweep rd1 rd2 z o).dry || ((s.port p).judgeSweep rd1 rd2 z o).clear))
      ∧ (t.port p).tc.st = (s.port p).tc.st
      ∧ t.faults = s.faults := by
  refine gives_of_exec (exec_moistureSweepEnd hfw hover hterm) ?_
  have hport := State.port_afterRecord (s := s) (p := p) z o rd1 rd2
  have hst' : ((s.afterRecord p z o rd1 rd2).port p).tc.st ≠ .dryWait := by rw [hport]; exact hst
  have hwet : ((s.afterRecord p z o rd1 rd2).port p).tc.wet = false := by rw [hport]; exact congrArg Option.isSome hw
  have hcorr : ((s.afterRecord p z o rd1 rd2).port p).tc.corroded = false := by rw [hport]; exact congrArg Option.isSome hc
  have hmute : ((s.afterRecord p z o rd1 rd2).port p).tc.mute = (s.port p).tc.mute := by rw [hport]; rfl
  rw [State.afterSweep_none hw hc hst', ← hport]
  split
  · next hd =>
    obtain ⟨hm, hs, -, hmoist, hwet', hcorr'⟩ := Port.unmute_spec (isService p) ((s.afterRecord p z o rd1 rd2).port p)
    rw [State.updPort_port_moist, State.updPort_wet, State.updPort_corroded, State.updPort_mute, State.updPort_port_tc_st, hm, hs, hmoist, hwet',
      hcorr', hwet, hcorr]
    refine ⟨rfl, rfl, rfl, ?_, by rw [hport]; rfl, rfl⟩
    rw [hd]; simp
  · next hd =>
    rw [hwet, hcorr, hmute]
    refine ⟨rfl, rfl, rfl, ?_, by rw [hport]; rfl, rfl⟩
    rw [Bool.not_eq_true] at hd
    rw [hd]; simp

theorem moistureSweep_wet {z : List Nat} {o : List Int} {rd1 rd2 : Bool} {i : Nat} (hfw : s.fw p = true) (hover : (s.port p).sweepOver = true)
    (hterm : (s.port p).moist.term = false) (hw : ((s.port p).judgeSweep rd1 rd2 z o).wet = some i)
    (hc : ((s.port p).judgeSweep rd1 rd2 z o).corr = none) (hoc : s.moistOutcome p ptMoistWet = ocDryWait) (hst : (s.port p).tc.st ≠ .dryWait) :
    gives (.moistureSweepEnd p z o rd1 rd2) s fun t => (t.port p).tc.st = .dryWait
      ∧ (t.port p).moist.why = some .wet
      ∧ (t.port p).moist.cls = 3
      ∧ (t.port p).moist.sweeps = satIncr (s.port p).moist.sweeps
      ∧ (t.port p).tc.wet = true
      ∧ (t.port p).tc.pres1 = .none
      ∧ (t.port p).tc.pres2 = .none
      ∧ (t.port p).timers[tHealth] = Timer.armed' .dryRecheck (25000 * fld (s.port p).cfg.dryRecheck 0 16) := by
  refine gives_of_exec (exec_moistureSweepEnd hfw hover hterm) ?_
  have hport := State.port_afterRecord (s := s) (p := p) z o rd1 rd2
  have hst' : ((s.afterRecord p z o rd1 rd2).port p).tc.st ≠ .dryWait := by rw [hport]; exact hst
  rw [State.afterSweep_dryWait hw hc ((State.moistOutcome_afterRecord ..).trans hoc) hst']
  generalize hu : (s.afterRecord p z o rd1 rd2).moistEvents p ((s.port p).judgeSweep rd1 rd2 z o) (s.port p).moist.skipped z o = u
  have huport : u.port p = (s.port p).swept s.now ((s.port p).judgeSweep rd1 rd2 z o) z o rd1 rd2 (s.port p).moist.skipped := by
    rw [← hu, State.moistEvents_port, hport]
  unfold State.dropPort
  generalize (s.afterRecord p z o rd1 rd2).now = b
  generalize (s.afterRecord p z o rd1 rd2).feedOn = feed
  have hbody : (((u.endWork p 0 8).svcLeave p).port p).body = (u.port p).body := by simp
  generalize (u.endWork p 0 8).svcLeave p = w at hbody ⊢
  have hcfg : (w.port p).cfg = (s.port p).cfg := (Port.cfg_of_body hbody).trans (by rw [huport]; rfl)
  have hcls : (w.port p).moist.cls = 3 := by
    rw [Port.moist_of_body hbody, huport]
    have hcode : ((s.port p).judgeSweep rd1 rd2 z o).code = 3 := by simp [Verdict.code, hw]
    exact congrArg (BitVec.ofNat 3) hcode
  have hsweeps : (w.port p).moist.sweeps = satIncr (s.port p).moist.sweeps := by
    rw [Port.moist_of_body hbody, huport]; rfl
  have hwet : (w.port p).tc.wet = true := by
    have h : (w.port p).tc.wet = (u.port p).tc.wet := congrArg (fun r => r.2.1.wet) hbody
    rw [h, huport]
    exact (congrArg Option.isSome hw).trans rfl
  obtain ⟨hs, hwhy, -, htimer, hp1, hp2⟩ := Port.toDryWait_spec (w.port p) (isService p) feed b .wet
  obtain ⟨hcls', hsweeps', hwet'⟩ := Port.toDryWait_record (w.port p) (isService p) feed b .wet
  rw [State.updPort_port_tc_st, State.updPort_port_moist, State.updPort_timer, State.updPort_wet, hs, hwhy, hcls', hcls, hsweeps', hsweeps, hwet',
    hwet, htimer, hcfg]
  obtain h | ⟨g, h⟩ := State.port_updPort w p (Port.toDryWait (isService p) b feed .wet)
  · rw [h]
    exact ⟨rfl, rfl, rfl, rfl, rfl, hp1, hp2, rfl⟩
  · rw [h]
    generalize Port.toDryWait (isService p) b feed .wet (w.port p) = y at *
    exact ⟨rfl, rfl, rfl, rfl, rfl, by simp [Port.refreshRp, hp1], by simp [Port.refreshRp, hp2], rfl⟩

/-- LOCKOUT: the gate is off, the P bit clear, and the record of the sweep stays. -/
theorem Port.toLockout_spec (svc : Bool) (b : Beat) (feed : Bool) (x : Port) :
    (x.toLockout svc b feed).tc.st = .lockout ∧ (x.toLockout svc b feed).moist.cls = x.moist.cls
      ∧ (x.toLockout svc b feed).guard.gateOn = false ∧ (x.toLockout svc b feed).tc.pReady = false := by
  unfold Port.toLockout
  refine ⟨Port.enter_st .., ?_, ?_, ?_⟩
  · rw [Port.enter_cls, Port.abandonCal_eq]
    show (x.powerDown b feed).moist.cls = x.moist.cls
    rw [Port.powerDown_moist]
  · rw [Port.enter_gateOn, Port.abandonCal_eq]
    show (x.powerDown b feed).guard.gateOn = false
    rw [Port.powerDown_gateOn]
  · rw [Port.enter_pReady]
    simp [Tc.down]

theorem moistureSweep_lockout {z : List Nat} {o : List Int} {rd1 rd2 : Bool} {i : Nat} (hfw : s.fw p = true) (hover : (s.port p).sweepOver = true)
    (hterm : (s.port p).moist.term = false) (hw : ((s.port p).judgeSweep rd1 rd2 z o).wet = some i)
    (hoc : s.moistOutcome p ptMoistWet = ocLockout) :
    gives (.moistureSweepEnd p z o rd1 rd2) s fun t => (t.port p).tc.st = .lockout ∧ (t.port p).moist.cls = 3
      ∧ (t.port p).guard.gateOn = false ∧ (t.port p).tc.pReady = false := by
  refine gives_of_exec (exec_moistureSweepEnd hfw hover hterm) ?_
  rw [State.afterSweep_lockout hw ((State.moistOutcome_afterRecord ..).trans hoc)]
  generalize hu : (s.afterRecord p z o rd1 rd2).moistEvents p ((s.port p).judgeSweep rd1 rd2 z o) (s.port p).moist.skipped z o = u
  have huport : u.port p = (s.port p).swept s.now ((s.port p).judgeSweep rd1 rd2 z o) z o rd1 rd2 (s.port p).moist.skipped := by
    rw [← hu, State.moistEvents_port, State.port_afterRecord]
  unfold State.dropPort
  have hbody : (((u.endWork p 0x85 8).svcLeave p).port p).body = (u.port p).body := by simp
  generalize (u.endWork p 0x85 8).svcLeave p = w at hbody ⊢
  have hcls : (w.port p).moist.cls = 3 := by
    rw [Port.moist_of_body hbody, huport]
    have hcode : ((s.port p).judgeSweep rd1 rd2 z o).code = 3 := by simp [Verdict.code, hw]
    exact congrArg (BitVec.ofNat 3) hcode
  obtain ⟨hs, hcls', hgate, hready⟩ := Port.toLockout_spec (isService p) (s.afterRecord p z o rd1 rd2).now (s.afterRecord p z o rd1 rd2).feedOn (w.port p)
  rw [State.updPort_port_tc_st, State.updPort_port_moist, State.updPort_port_guard, State.updPort_pReady]
  exact ⟨hs, hcls'.trans hcls, hgate, hready⟩

theorem moistureSweep_dries {z : List Nat} {o : List Int} {rd1 rd2 : Bool} (hfw : s.fw p = true) (hover : (s.port p).sweepOver = true)
    (hterm : (s.port p).moist.term = false) (hw : ((s.port p).judgeSweep rd1 rd2 z o).wet = none)
    (hc : ((s.port p).judgeSweep rd1 rd2 z o).corr = none) (hd : ((s.port p).judgeSweep rd1 rd2 z o).dry = true)
    (hst : (s.port p).tc.st = .dryWait)
    (hfree : (s.port p).moist.why ≠ some .corroded ∨ corrIdx (s.port p).corrMv (s.port p).moist.skipped o = []) :
    gives (.moistureSweepEnd p z o rd1 rd2) s fun t => (t.port p).tc.st.unattached = true
      ∧ (t.port p).tc.role = (s.port p).roleOf
      ∧ (t.port p).moist.why = none
      ∧ (t.port p).moist.cls = 1
      ∧ (t.port p).moist.sweeps = satIncr (s.port p).moist.sweeps
      ∧ (t.port p).tc.mute = false := by
  refine gives_of_exec (exec_moistureSweepEnd hfw hover hterm) ?_
  have hport := State.port_afterRecord (s := s) (p := p) z o rd1 rd2
  have hst' : ((s.afterRecord p z o rd1 rd2).port p).tc.st = .dryWait := by rw [hport]; exact hst
  rw [State.afterSweep_recheck hw hc hst']
  have hcond : (((s.port p).judgeSweep rd1 rd2 z o).dry && (((s.afterRecord p z o rd1 rd2).port p).moist.why != some .corroded
      || !(!(corrIdx ((s.afterRecord p z o rd1 rd2).port p).corrMv (s.port p).moist.skipped o).isEmpty))) = true := by
    have hwhy : ((s.afterRecord p z o rd1 rd2).port p).moist.why = (s.port p).moist.why := by rw [hport]; rfl
    have hmv : ((s.afterRecord p z o rd1 rd2).port p).corrMv = (s.port p).corrMv := by rw [hport]; rfl
    rw [hwhy, hmv, hd]
    rcases hfree with h | h <;> simp [h]
  unfold State.recheckEnd
  dsimp only
  rw [if_pos hcond]
  have hrole : ((s.afterRecord p z o rd1 rd2).port p).roleOf = (s.port p).roleOf := by rw [hport]; rfl
  have hcls : ((s.afterRecord p z o rd1 rd2).port p).moist.cls = 1 := by
    rw [hport]
    have hcode : ((s.port p).judgeSweep rd1 rd2 z o).code = 1 := by simp [Verdict.code, hw, hc, hd]
    exact congrArg (BitVec.ofNat 3) hcode
  have hsweeps : ((s.afterRecord p z o rd1 rd2).port p).moist.sweeps = satIncr (s.port p).moist.sweeps := by rw [hport]; rfl
  generalize s.afterRecord p z o rd1 rd2 = u at hrole hcls hsweeps ⊢
  obtain ⟨snk, left, heq, -⟩ := (u.port p).toRoleState_eq (isService p) u.now (draw u (max 1 (u.port p).tDrp))
  obtain ⟨hm, hs, hr, hmoist, -, -⟩ := Port.unmute_spec (isService p)
    { (u.port p).toUnattached (isService p) u.now snk left with
      moist := { ((u.port p).toUnattached (isService p) u.now snk left).moist with why := none, rdImplausible := false } }
  rw [State.drawn, State.port_modBoard, State.updPort_port_tc_st, State.updPort_role, State.updPort_port_moist, State.updPort_mute, heq, hs, hr, hmoist, hm]
  refine ⟨?_, ?_, rfl, ?_, ?_, rfl⟩
  · rw [Port.toUnattached_st]
    split <;> rfl
  · rw [Port.toUnattached_role, hrole]
  · exact (Port.toUnattached_cls ..).trans hcls
  · exact (Port.toUnattached_sweeps ..).trans hsweeps

theorem moistureSweep_staysWet {z : List Nat} {o : List Int} {rd1 rd2 : Bool} (hfw : s.fw p = true) (hover : (s.port p).sweepOver = true)
    (hterm : (s.port p).moist.term = false) (hw : ((s.port p).judgeSweep rd1 rd2 z o).wet = none)
    (hc : ((s.port p).judgeSweep rd1 rd2 z o).corr = none) (hst : (s.port p).tc.st = .dryWait)
    (hheld : ((s.port p).judgeSweep rd1 rd2 z o).dry = false
      ∨ ((s.port p).moist.why = some .corroded ∧ corrIdx (s.port p).corrMv (s.port p).moist.skipped o ≠ [])) :
    gives (.moistureSweepEnd p z o rd1 rd2) s fun t => (t.port p).tc.st = .dryWait
      ∧ (t.port p).moist.running = false
      ∧ (t.port p).moist.sweeps = satIncr (s.port p).moist.sweeps
      ∧ (t.port p).timers[tHealth] = Timer.armed' .dryRecheck (25000 * fld (s.port p).cfg.dryRecheck 0 16) := by
  refine gives_of_exec (exec_moistureSweepEnd hfw hover hterm) ?_
  have hport := State.port_afterRecord (s := s) (p := p) z o rd1 rd2
  have hst' : ((s.afterRecord p z o rd1 rd2).port p).tc.st = .dryWait := by rw [hport]; exact hst
  rw [State.afterSweep_recheck hw hc hst']
  have hcond : ¬ (((s.port p).judgeSweep rd1 rd2 z o).dry && (((s.afterRecord p z o rd1 rd2).port p).moist.why != some .corroded
      || !(!(corrIdx ((s.afterRecord p z o rd1 rd2).port p).corrMv (s.port p).moist.skipped o).isEmpty))) = true := by
    have hwhy : ((s.afterRecord p z o rd1 rd2).port p).moist.why = (s.port p).moist.why := by rw [hport]; rfl
    have hmv : ((s.afterRecord p z o rd1 rd2).port p).corrMv = (s.port p).corrMv := by rw [hport]; rfl
    rw [hwhy, hmv]
    rcases hheld with h | ⟨h, h'⟩
    · simp [h]
    · simp [h, h']
  unfold State.recheckEnd
  dsimp only
  rw [if_neg hcond, State.port_modPort, hport]
  exact ⟨hst, rfl, rfl, by simp [Port.recheckAgain, Port.swept]⟩

/-! ### The recheck timer, and the leakage checks -/

theorem dryRecheck_sweeps (hdue : s.due p tHealth .dryRecheck = true) (hst : (s.port p).tc.st = .dryWait) :
    gives (.dryRecheckExpiry p) s fun t => (t.port p).moist.running = true
      ∧ (t.port p).moist.pass = 0
      ∧ (t.port p).timers[tHealth] = Timer.idle
      ∧ (t.port p).tc = (s.port p).tc
      ∧ t.pool = s.pool := by
  refine gives_of_exec (congrArg Host.Outcome.next (if_pos (by rw [hdue, hst]; rfl))) ?_
  rw [State.port_modPort]
  exact ⟨rfl, rfl, by simp, rfl, rfl⟩

theorem vbusLeak_raises {sbu2 : Bool} {mv1 mv2 : Int} (hen : (s.port p).leakEn = true) (hpd : (s.port p).tc.st.pd = true)
    (hrun : (s.port p).moist.leakRun.get (if sbu2 then 1 else 0) = 2) (h1 : 4000 ≤ mv1) (h2 : 4000 ≤ mv2) :
    gives (.vbusLeak p sbu2 mv1 mv2) s fun t => t.raisedAt (64 + p.val) = true ∧ (t.port p).tc.st = (s.port p).tc.st
      ∧ (t.port p).pd = (s.port p).pd := by
  refine gives_of_exec (congrArg Host.Outcome.next (if_pos (by rw [hen, hpd, hrun, decide_eq_true h1, decide_eq_true h2]; rfl))) ?_
  rw [State.raisePort_st, State.raisePort_pd, State.port_modPort]
  exact ⟨State.raisePort_raised .., rfl, rfl⟩

/-- A line that shows no Rp shows none after a raise. -/
theorem portKept_noRp1 : PortKept fun x => ∀ v, x.tc.pres1 ≠ .rp v := by
  refine ⟨fun _ _ _ v h => ?_, fun _ _ h => h, fun _ _ h => h, fun x g h v => ?_⟩
  · exact Pres.noConfusion h
  · show (match x.tc.pres1 with | .rp _ => _ | other => other) ≠ _
    cases hp : x.tc.pres1 with
    | rp w => exact absurd hp (h w)
    | none => exact fun e => Pres.noConfusion e
    | rd => exact fun e => Pres.noConfusion e
    | clamp => exact fun e => Pres.noConfusion e
theorem portKept_noRp2 : PortKept fun x => ∀ v, x.tc.pres2 ≠ .rp v := by
  refine ⟨fun _ _ _ v h => ?_, fun _ _ h => h, fun _ _ h => h, fun x g h v => ?_⟩
  · exact Pres.noConfusion h
  · show (match x.tc.pres2 with | .rp _ => _ | other => other) ≠ _
    cases hp : x.tc.pres2 with
    | rp w => exact absurd hp (h w)
    | none => exact fun e => Pres.noConfusion e
    | rd => exact fun e => Pres.noConfusion e
    | clamp => exact fun e => Pres.noConfusion e

theorem Port.openRp_cc1 (x : Port) (v : BitVec 2) : (x.openRp .cc1).tc.pres1 ≠ .rp v := by
  unfold Port.openRp
  cases x.tc.pres1 <;> simp
theorem Port.openRp_cc2 (x : Port) (v : BitVec 2) : (x.openRp .cc2).tc.pres2 ≠ .rp v := by
  unfold Port.openRp
  cases x.tc.pres2 <;> simp

end Sys2Proof.Machine
end

section
/-! VCONN turned off, and the raises of one slot together (R118, R124, R157, R246, R347, R497). -/

namespace Sys2Proof.Machine

variable {s : State} {p : PortId} {x : Port}

/-! ### Several raises of one slot -/

theorem mem_insertRaise (s : State) (r q : Raise) : ∀ l : List Raise, q ∈ insertRaise s r l ↔ q = r ∨ q ∈ l
  | [] => by simp [insertRaise]
  | y :: ys => by
    unfold insertRaise
    split
    · simp
    · rw [List.mem_cons, mem_insertRaise s r q ys, List.mem_cons]
      tauto

/-- A raise that is not forced is among those of its slot. -/
theorem mem_orderRaises {s : State} {rs : List Raise} {r : Raise} (h : r ∈ rs) (hf : r.forced = false) : r ∈ orderRaises s rs := by
  have hmem : ∀ l : List Raise, r ∈ l → r ∈ l.foldr (insertRaise s) [] := by
    intro l
    induction l with
    | nil => exact fun hl => hl
    | cons y ys ih =>
      intro hl
      rw [List.foldr_cons, mem_insertRaise]
      exact (List.mem_cons.mp hl).imp_right ih
  exact hmem _ (List.mem_filter.mpr ⟨h, by simp [hf]⟩)

theorem State.raiseOne_mono (s : State) (named : Bool) (r : Raise) (m : Nat) (h : s.faults.raised.getLsbD m = true) :
    (s.raiseOne named r).faults.raised.getLsbD m = true := by
  cases hr : reservedSource r.src with
  | true =>
    unfold State.raiseOne
    rw [hr]
    exact h
  | false =>
    rw [State.raiseOne_raised _ _ _ hr]
    exact setBit256_mono _ _ _ h

theorem raiseList_mono : ∀ (rs : List Raise) (s : State) (o : Option Nat) (m : Nat), s.faults.raised.getLsbD m = true →
    (raiseList s o rs).faults.raised.getLsbD m = true
  | [], _, _, _, h => h
  | r :: rs, s, _, m, h => raiseList_mono rs _ _ m (s.raiseOne_mono _ r m h)

theorem raiseList_raised {rs : List Raise} {r : Raise} (h : r ∈ rs) (hr : reservedSource r.src = false) (s : State) (o : Option Nat) :
    (raiseList s o rs).faults.raised.getLsbD r.src = true := by
  induction rs generalizing s o with
  | nil => exact absurd h List.not_mem_nil
  | cons q rs ih =>
    unfold raiseList
    rcases List.mem_cons.mp h with rfl | h
    · refine raiseList_mono rs _ _ _ ?_
      rw [State.raiseOne_raised _ _ _ hr]
      exact setBit256_self _ (reserved_lt hr)
    · exact ih h _ _

/-- Each of the raises of one slot is RAISED. -/
theorem State.raiseAll_raised (s : State) {rs : List Raise} {r : Raise} (h : r ∈ rs) (hf : r.forced = false) (hr : reservedSource r.src = false) :
    (s.raiseAll rs).faults.raised.getLsbD r.src = true :=
  raiseList_raised (mem_orderRaises h hf) hr s none

/-! ### What an answer of the port's own leaves of its links to the plugs -/

/-- The contexts and the table of SVIDs. -/
def Port.links (x : Port) := (x.ctx, x.pd.svids)

theorem State.modPort_links (s : State) (p q : PortId) (f : Port → Port) (h : ∀ x, (f x).links = x.links) :
    ((s.modPort p f).port q).links = (s.port q).links := by
  by_cases e : q = p
  · subst e
    rw [State.port_modPort, h]
  · rw [State.port_modPort_ne _ e]

theorem State.loadFlight_links (s : State) (p q : PortId) : ((s.loadFlight p).port q).links = (s.port q).links := by
  unfold State.loadFlight
  split
  · rfl
  · split
    · split
      · exact State.modPort_links _ _ _ _ fun _ => rfl
      · rfl
    · rfl
theorem State.queueTx_links (s : State) (p q : PortId) (t : Tgt) (why : Purpose) (bytes : List Byte) :
    ((s.queueTx p t why bytes).port q).links = (s.port q).links := by
  unfold State.queueTx
  split
  · exact State.modPort_links _ _ _ _ fun _ => rfl
  · dsimp only
    split
    · exact State.loadFlight_links _ _ _
    · exact State.modPort_links _ _ _ _ fun _ => rfl
theorem State.reply_links (s : State) (p q : PortId) (why : Purpose) (bytes : List Byte) :
    ((s.reply p why bytes).port q).links = (s.port q).links := by
  unfold State.reply
  rw [State.queueTx_links]
  exact State.modPort_links _ _ _ _ fun _ => rfl
theorem State.eprGo_links (s : State) (p q : PortId) : ((s.eprGo p).port q).links = (s.port q).links := by
  unfold State.eprGo State.eprCheck State.eprFail
  dsimp only
  split
  · split
    · rw [State.reply_links]
      exact State.modPort_links _ _ _ _ fun _ => rfl
    · split
      · rw [State.reply_links]
        exact State.modPort_links _ _ _ _ fun _ => rfl
      · exact State.reply_links _ _ _ _ _
  · rfl
@[simp] theorem State.eprGo_body (s : State) (p q : PortId) : ((s.eprGo p).port q).body = (s.port q).body := by
  unfold State.eprGo
  split
  · simp
  · rfl

/-! ### VCONN turned off -/

/-- The port with VCONN off: VCONN_OK falls and the SVIDs of its plug are gone. -/
def Port.withoutVconn (imax : Byte) (oc : Bool) (c : Class) (x : Port) : Port :=
  let y := x.loseVconn imax
  ({ y with tc := { y.tc with vconnOc := y.tc.vconnOc || oc } } : Port).capChange c

/-- A change of the capabilities is one of the Policy Engine alone. -/
theorem Port.capChange_eq (c : Class) (x : Port) : ∃ d, x.capChange c = { x with pd := d } ∧ d.svids = x.pd.svids := by
  unfold Port.capChange Port.refreshCable Port.assumeCable
  dsimp only
  split
  · (repeat' split) <;> exact ⟨_, rfl, rfl⟩
  · (repeat' split) <;> exact ⟨_, rfl, rfl⟩

theorem Port.withoutVconn_spec (imax : Byte) (oc : Bool) (c : Class) (x : Port) :
    (x.withoutVconn imax oc c).tc = { x.tc with vconnOn := false, vconnOc := x.tc.vconnOc || oc }
      ∧ (x.withoutVconn imax oc c).cfg = x.cfg
      ∧ ((x.withoutVconn imax oc c).ctxOf .sop1).vconnOk = false ∧ ((x.withoutVconn imax oc c).ctxOf .sop2).vconnOk = false
      ∧ (x.withoutVconn imax oc c).pd.svids.all (fun e => !e.tgt1) = true := by
  unfold Port.withoutVconn
  dsimp only
  obtain ⟨d, h, hsvids⟩ := Port.capChange_eq c
    { x.loseVconn imax with tc := { (x.loseVconn imax).tc with vconnOc := (x.loseVconn imax).tc.vconnOc || oc } }
  rw [h]
  refine ⟨rfl, rfl, ?_, ?_, ?_⟩
  · simp [Port.ctxOf, Port.loseVconn, Port.syncVconn, Port.modCtx, Port.vconnOff, tgtIdx]
  · simp [Port.ctxOf, Port.loseVconn, Port.syncVconn, Port.modCtx, Port.vconnOff, tgtIdx]
  · rw [hsvids]
    simp [Port.loseVconn, Port.syncVconn, Port.vconnOff, Port.modCtx]

/-- What the end of VCONN on port `p` leaves and takes. -/
theorem State.vconnLost_spec (s : State) (p : PortId) (oc : Bool) :
    ((s.vconnLost p oc).port p).tc.vconnOn = false
      ∧ ((s.vconnLost p oc).port p).tc.vconnOc = ((s.port p).tc.vconnOc || oc)
      ∧ ((s.vconnLost p oc).port p).tc.st = (s.port p).tc.st
      ∧ ((s.vconnLost p oc).port p).cfg = (s.port p).cfg
      ∧ (((s.vconnLost p oc).port p).ctxOf .sop1).vconnOk = false ∧ (((s.vconnLost p oc).port p).ctxOf .sop2).vconnOk = false
      ∧ ((s.vconnLost p oc).port p).pd.svids.all (fun e => !e.tgt1) = true := by
  unfold State.vconnLost
  dsimp only
  generalize s.classOf (s.port p) = c
  have hplug : ((s.dropPlug p).port p).body = (s.port p).body := by simp
  generalize s.dropPlug p = u at hplug ⊢
  have hb := State.eprGo_body (u.updPort p (Port.withoutVconn c.header.cableImax oc c)) p p
  have hl := State.eprGo_links (u.updPort p (Port.withoutVconn c.header.cableImax oc c)) p p
  obtain ⟨htc, hcfg, h1, h2, hsvids⟩ := Port.withoutVconn_spec c.header.cableImax oc c (u.port p)
  have hctx : (((u.updPort p (Port.withoutVconn c.header.cableImax oc c)).eprGo p).port p).ctx
      = ((u.port p).withoutVconn c.header.cableImax oc c).ctx := (congrArg (fun r => r.1) hl).trans (State.updPort_port_ctx ..)
  have hpd : (((u.updPort p (Port.withoutVconn c.header.cableImax oc c)).eprGo p).port p).pd.svids
      = ((u.port p).withoutVconn c.header.cableImax oc c).pd.svids :=
    (congrArg (fun r => r.2) hl).trans (congrArg Pd.svids (State.updPort_port_pd ..))
  have hstill := (congrArg (fun r => r.2.1) hb).trans (State.updPort_still ..)
  rw [htc] at hstill
  have hon := congrArg TypeC.vconnOn hstill
  have hoc := congrArg TypeC.vconnOc hstill
  have hst := congrArg TypeC.st hstill
  have hoc' : (u.port p).tc.vconnOc = (s.port p).tc.vconnOc := congrArg (fun r => r.2.1.vconnOc) hplug
  refine ⟨hon, hoc.trans (congrArg (· || oc) hoc'), hst.trans (Port.st_of_body hplug), ?_, ?_, ?_, ?_⟩
  · exact (Port.cfg_of_body hb).trans ((State.updPort_port_cfg ..).trans (hcfg.trans (Port.cfg_of_body hplug)))
  · exact (congrArg (fun v : Vector Ctx 3 => (v[tgtIdx .sop1]).vconnOk) hctx).trans h1
  · exact (congrArg (fun v : Vector Ctx 3 => (v[tgtIdx .sop2]).vconnOk) hctx).trans h2
  · exact (congrArg (List.all · fun e => !e.tgt1) hpd).trans hsvids

end Sys2Proof.Machine
end

section
/-! What raises and messages leave of the clusters: at most their Cn_SEN_N lines fall (R258, R350). -/

namespace Sys2Proof.Machine

variable {s : State} {p : PortId}

/-- The clusters but for their Cn_SEN_N lines. -/
def State.sensed (s : State) : Vector Cluster 8 := s.clusters.map fun k => { k with senLow := false }

theorem State.sensed_of_clusters {t : State} (h : t.clusters = s.clusters) : t.sensed = s.sensed := by
  unfold State.sensed
  rw [h]
theorem State.cluster_of_sensed {t : State} (h : t.sensed = s.sensed) (c : ClusterId) :
    ({ t.cluster c with senLow := false } : Cluster) = { s.cluster c with senLow := false } := by
  have hc := congrArg (fun v : Vector Cluster 8 => v[c]) h
  simpa [State.sensed, State.cluster] using hc

@[simp] theorem State.answerLater_clusters (s : State) (st : Stream) (opc port : Nat) (e : List Byte) :
    (s.answerLater st opc port e).clusters = s.clusters := by
  unfold State.answerLater
  dsimp only
  split <;> rfl
@[simp] theorem State.complete_clusters (s : State) (st : Stream) (opc tag status tgt port : Nat) (r : List Byte) :
    (s.complete st opc tag status tgt port r).clusters = s.clusters := by
  unfold State.complete
  dsimp only
  split
  · simp
  · rfl
@[simp] theorem State.post_clusters (s : State) (code port : Nat) (data : List Byte) : (s.post code port data).clusters = s.clusters := by
  unfold State.post
  split <;> rfl
@[simp] theorem State.svcLeave_clusters (s : State) (p : PortId) : (s.svcLeave p).clusters = s.clusters := by
  unfold State.svcLeave
  split
  · split <;> rfl
  · rfl
@[simp] theorem State.endSoft_clusters (s : State) (p : PortId) (status tx acc : Nat) : (s.endSoft p status tx acc).clusters = s.clusters := by
  unfold State.endSoft
  (repeat' split) <;> simp
@[simp] theorem State.endVdm_clusters (s : State) (p : PortId) (status result : Nat) (r : List Byte) :
    (s.endVdm p status result r).clusters = s.clusters := by
  unfold State.endVdm
  (repeat' split) <;> simp
@[simp] theorem State.endVdmOn_clusters (s : State) (p : PortId) (only : Tgt → Bool) : (s.endVdmOn p only).clusters = s.clusters := by
  unfold State.endVdmOn
  (repeat' split) <;> simp
@[simp] theorem State.loadFlight_clusters (s : State) (p : PortId) : (s.loadFlight p).clusters = s.clusters := by
  unfold State.loadFlight
  (repeat' split) <;> rfl
@[simp] theorem State.killTx_clusters (s : State) (p : PortId) (only : Tgt → Bool) (r : TxResult) : (s.killTx p only r).clusters = s.clusters := by
  unfold State.killTx
  dsimp only
  rw [State.loadFlight_clusters]
  (repeat' split) <;> rfl
@[simp] theorem State.dropPlug_clusters (s : State) (p : PortId) : (s.dropPlug p).clusters = s.clusters := by
  unfold State.dropPlug
  dsimp only
  rw [State.endVdmOn_clusters]
  (repeat' split) <;> simp
@[simp] theorem State.queueTx_clusters (s : State) (p : PortId) (t : Tgt) (why : Purpose) (bytes : List Byte) :
    (s.queueTx p t why bytes).clusters = s.clusters := by
  unfold State.queueTx
  dsimp only
  (repeat' split) <;> simp
@[simp] theorem State.reply_clusters (s : State) (p : PortId) (why : Purpose) (bytes : List Byte) : (s.reply p why bytes).clusters = s.clusters :=
  State.queueTx_clusters ..
@[simp] theorem State.eprGo_clusters (s : State) (p : PortId) : (s.eprGo p).clusters = s.clusters := by
  unfold State.eprGo State.eprCheck State.eprFail
  dsimp only
  (repeat' split) <;> simp
@[simp] theorem State.vconnLost_clusters (s : State) (p : PortId) (oc : Bool) : (s.vconnLost p oc).clusters = s.clusters := by
  unfold State.vconnLost
  simp
@[simp] theorem State.quiescePort_clusters (s : State) (k : Safe) (p : PortId) : (s.quiescePort k p).clusters = s.clusters := by
  unfold State.quiescePort
  split <;> simp
@[simp] theorem State.noteCause_clusters (s : State) (r : Raise) : (s.noteCause r).clusters = s.clusters := by
  unfold State.noteCause
  split <;> rfl
@[simp] theorem State.faultEvent_clusters (s : State) (r : Raise) (f : FaultRec) (sev : Nat) : (s.faultEvent r f sev).clusters = s.clusters := by
  unfold State.faultEvent
  split <;> simp

@[simp] theorem State.holdDevice_sensed (s : State) : s.holdDevice.sensed = s.sensed := by
  unfold State.sensed State.holdDevice
  ext i hi
  simp

@[simp] theorem State.react_sensed (s : State) (sev src : Nat) : (s.react sev src).sensed = s.sensed := by
  unfold State.react
  split
  · exact State.sensed_of_clusters (foldl_clusters _ (fun _ _ => State.quiescePort_clusters ..) _ _)
  · split
    · rw [State.holdDevice_sensed]
      exact State.sensed_of_clusters (foldl_clusters _ (fun _ _ => State.quiescePort_clusters ..) _ _)
    · rfl
@[simp] theorem State.reactAgain_sensed (s : State) (sev : Nat) (o : Option Nat) : (s.reactAgain sev o).sensed = s.sensed := by
  cases o with
  | none => rfl
  | some n => exact State.react_sensed ..
theorem State.raiseOne_sensed (s : State) (named : Bool) (r : Raise) : (s.raiseOne named r).sensed = s.sensed := by
  unfold State.raiseOne
  dsimp only
  split
  · rfl
  · split
    · rfl
    · rw [State.react_sensed, State.reactAgain_sensed]
      exact State.sensed_of_clusters ((State.faultEvent_clusters ..).trans (State.noteCause_clusters ..))
theorem raiseList_sensed : ∀ (rs : List Raise) (s : State) (o : Option Nat), (raiseList s o rs).sensed = s.sensed
  | [], _, _ => rfl
  | r :: rs, s, o => by
    rw [raiseList, raiseList_sensed rs]
    exact s.raiseOne_sensed ..
@[simp] theorem State.raiseAll_sensed (s : State) (rs : List Raise) : (s.raiseAll rs).sensed = s.sensed := raiseList_sensed _ _ _
@[simp] theorem State.raise_sensed (s : State) (r : Raise) : (s.raise r).sensed = s.sensed := State.raiseAll_sensed ..

end Sys2Proof.Machine
end

section
/-! VCONN overcurrent, the monitor of a cluster's VCONN supply and a leak on a CC line (R118–R120, R124, R181, R246). -/

namespace Sys2Proof.Machine

variable {s : State} {p : PortId}

theorem portKept_vconnOc : PortKept fun x => x.tc.vconnOc = true :=
  ⟨fun b x h => by unfold Port.quiesce; rw [Port.abandonRun_eq]; exact h, fun _ _ h => h, fun _ _ h => h, fun _ _ h => h⟩

/-- A port's source is no reserved one. -/
theorem reservedSource_port (p : PortId) : reservedSource (64 + p.val) = false := by
  revert p
  decide

theorem Port.vconnOk_of_ctx {x y : Port} (h : x.ctx = y.ctx) (t : Tgt) : (x.ctxOf t).vconnOk = (y.ctxOf t).vconnOk :=
  congrArg (fun v : Vector Ctx 3 => (v[tgtIdx t]).vconnOk) h

theorem vconnOc_opens (lim : Bool) (hon : (s.port p).tc.vconnOn = true) :
    gives (.vconnOc p lim) s fun t => (t.port p).tc.vconnOn = false
      ∧ (t.port p).tc.vconnOc = true
      ∧ (t.port p).tc.st = (s.port p).tc.st
      ∧ ((t.port p).ctxOf .sop1).vconnOk = false
      ∧ ((t.port p).ctxOf .sop2).vconnOk = false
      ∧ t.raisedAt (64 + p.val) = true
      ∧ (t.port p).pd.svids.all (fun e => !e.tgt1) = true
      ∧ (t.port p).cfg = (s.port p).cfg := by
  refine gives_of_exec (congrArg Host.Outcome.next (if_pos hon)) ?_
  obtain ⟨h1, h2, h3, h4, h5, h6, h7⟩ := s.vconnLost_spec p true
  generalize s.vconnLost p true = u at h1 h2 h3 h4 h5 h6 h7 ⊢
  have hctx := (portKept_ctx (u.port p).ctx).raisePort u p 13 0 p rfl
  refine ⟨portKept_vconnOff.raisePort _ _ _ _ _ h1, portKept_vconnOc.raisePort _ _ _ _ _ (by simpa using h2), ?_, ?_, ?_,
    State.raisePort_raised .., ?_, ?_⟩
  · rw [State.raisePort_st, h3]
  · rw [Port.vconnOk_of_ctx hctx, h5]
  · rw [Port.vconnOk_of_ctx hctx, h6]
  · rw [State.raisePort_pd, h7]
  · rw [(portKept_cfg (u.port p).cfg).raisePort u p 13 0 p rfl, h4]

/-! ### The monitor of a VCONN supply -/

theorem execCnVconnMonitor_eight {c : ClusterId} {xs : List Int} (hlen : xs.length = 8) :
    (((s.cluster c).vconnHist ++ xs).reverse.take 8).reverse = xs := by
  rw [List.reverse_append, List.take_left' (by simpa using hlen), List.reverse_reverse]

/-- The ports of a list, each with its VCONN off. -/
def State.vconnsLost (s : State) (ps : List PortId) : State := ps.foldl (fun t p => t.vconnLost p true) s

theorem State.vconnsLost_cons (s : State) (p : PortId) (ps : List PortId) : s.vconnsLost (p :: ps) = (s.vconnLost p true).vconnsLost ps := rfl

theorem State.vconnsLost_clusters (s : State) (ps : List PortId) : (s.vconnsLost ps).clusters = s.clusters :=
  foldl_clusters _ (fun _ _ => State.vconnLost_clusters ..) _ _

theorem State.vconnLost_keeps_off (s : State) (p q : PortId) (h : (s.port q).tc.vconnOn = false) :
    ((s.vconnLost p true).port q).tc.vconnOn = false := by
  by_cases e : q = p
  · subst e
    exact (s.vconnLost_spec q true).1
  · rw [State.vconnLost_port_ne _ _ _ e, h]

theorem State.vconnsLost_keeps_off {q : PortId} (ps : List PortId) {s : State} (h : (s.port q).tc.vconnOn = false) :
    ((s.vconnsLost ps).port q).tc.vconnOn = false := by
  induction ps generalizing s with
  | nil => exact h
  | cons p ps ih =>
    rw [State.vconnsLost_cons]
    exact ih (s.vconnLost_keeps_off p q h)

theorem State.vconnsLost_off {q : PortId} {ps : List PortId} (h : q ∈ ps) (s : State) : ((s.vconnsLost ps).port q).tc.vconnOn = false := by
  induction ps generalizing s with
  | nil => exact absurd h List.not_mem_nil
  | cons p ps ih =>
    rw [State.vconnsLost_cons]
    rcases List.mem_cons.mp h with rfl | h
    · exact State.vconnsLost_keeps_off ps (s.vconnLost_spec q true).1
    · exact ih h _

/-- The ports of a cluster that have VCONN on. -/
def State.vconnPorts (s : State) (c : ClusterId) : List PortId :=
  (List.finRange 12).map (portOf c) |>.filter fun p => (s.port p).tc.vconnOn

theorem State.mem_vconnPorts {c : ClusterId} {i : Fin 12} (h : (s.port (portOf c i)).tc.vconnOn = true) : portOf c i ∈ s.vconnPorts c :=
  List.mem_filter.mpr ⟨List.mem_map.mpr ⟨i, List.mem_finRange i, rfl⟩, h⟩

theorem cnVconnMonitor_good {c : ClusterId} {xs : List Int} (hsen : s.senDriven c = true) (hlen : xs.length = 8)
    (hgood : (s.cluster c).vconnGood = false) (hall : xs.all vconnGoodSample = true) :
    gives (.cnVconnMonitor c xs) s fun t => (t.cluster c).vconnGood = true ∧ t.ports = s.ports ∧ t.faults = s.faults := by
  refine gives_of_exec (t := (s.modCluster c fun k => { k with vconnHist := xs }).modCluster c fun k => { k with vconnGood := true }) ?_ ?_
  · show execCnVconnMonitor c xs s = _
    unfold execCnVconnMonitor
    simp only [execCnVconnMonitor_eight hlen]
    rw [if_neg (by simp [hsen]), if_pos ⟨hlen, by simp [hgood], hall⟩]
  · exact ⟨by simp, rfl, rfl⟩

theorem cnVconnMonitor_bad {c : ClusterId} {xs : List Int} (hsen : s.senDriven c = true) (hlen : xs.length = 8)
    (hgood : (s.cluster c).vconnGood = true) (hall : xs.all vconnBadSample = true) :
    gives (.cnVconnMonitor c xs) s fun t => (t.cluster c).vconnGood = false
      ∧ (∀ i : Fin 12, (t.port (portOf c i)).tc.vconnOn = false)
      ∧ (∀ i : Fin 12, (s.port (portOf c i)).tc.vconnOn = true → t.raisedAt (64 + (portOf c i).val) = true) := by
  let u := (s.modCluster c fun k => { k with vconnHist := xs }).modCluster c fun k => { k with vconnGood := false }
  refine gives_of_exec (t := (u.vconnsLost (s.vconnPorts c)).raiseAll ((s.vconnPorts c).map fun p => portRaise p 13 0)) ?_ ⟨?_, ?_, ?_⟩
  · show execCnVconnMonitor c xs s = _
    unfold execCnVconnMonitor
    simp only [execCnVconnMonitor_eight hlen]
    rw [if_neg (by simp [hsen]), if_neg (by simp [hgood]), if_pos ⟨hlen, hgood, hall⟩]
    rfl
  · have hs := (State.raiseAll_sensed (u.vconnsLost (s.vconnPorts c)) ((s.vconnPorts c).map fun p => portRaise p 13 0)).trans
      (State.sensed_of_clusters (u.vconnsLost_clusters _))
    have hc := congrArg Cluster.vconnGood (State.cluster_of_sensed hs c)
    exact hc.trans (by simp [u])
  · intro i
    refine portKept_vconnOff.raiseAll _ _ _ ?_
    by_cases hon : (s.port (portOf c i)).tc.vconnOn = true
    · exact State.vconnsLost_off (State.mem_vconnPorts hon) u
    · exact State.vconnsLost_keeps_off _ (by simpa [u] using hon)
  · intro i hon
    exact State.raiseAll_raised _ (r := portRaise (portOf c i) 13 0) (List.mem_map.mpr ⟨_, State.mem_vconnPorts hon, rfl⟩) rfl
      (reservedSource_port _)

/-- Settles O22: each clause by what the end of VCONN, alone or on every port of a cluster, leaves and takes. -/
theorem vconn : Obligations.Vconn := by
  unfold Obligations.Vconn
  exact ⟨fun p lim s hon => vconnOc_opens lim hon,
    fun c xs s hsen hlen hgood hall => cnVconnMonitor_good hsen hlen hgood hall,
    fun c xs s hsen hlen hgood hall => cnVconnMonitor_bad hsen hlen hgood hall⟩

/-! ### A leak on a CC line -/

theorem filter_take_five (xs : List Int) (hlen : xs.length = 5) (f : Int → Bool) :
    ((xs.reverse.take 5).filter f).length = (xs.filter f).length := by
  rw [List.take_of_length_le (by simp [hlen]), List.filter_reverse, List.length_reverse]

/-- Only what the lines present may change. -/
theorem Port.openRp_eq (l : Line) (x : Port) :
    x.openRp l = { x with tc := { x.tc with pres1 := (x.openRp l).tc.pres1, pres2 := (x.openRp l).tc.pres2 } } := by
  unfold Port.openRp
  cases l <;> rfl
theorem Port.openRp_shown (l : Line) (x : Port) : (x.openRp l).shown = x.shown := by
  rw [Port.openRp_eq]
  rfl
theorem Port.openRp_st (l : Line) (x : Port) : (x.openRp l).tc.st = x.tc.st ∧ (x.openRp l).tc.vconnOn = x.tc.vconnOn := by
  have h := Port.openRp_eq l x
  rw [h]
  exact ⟨rfl, rfl⟩

theorem ccLeakTrip_raises {l : Line} {xs : List Int} (hen : (s.port p).leakEn = true) (hpd : (s.port p).tc.st.pd = true)
    (hlen : xs.length = 5) (hx : 3 ≤ (xs.filter fun v => decide (6000 < v)).length) :
    gives (.ccLeakTrip p l xs) s fun t => t.raisedAt (64 + p.val) = true
      ∧ (t.port p).tc.st = (s.port p).tc.st
      ∧ (l = .cc1 → ∀ v : BitVec 2, (t.port p).tc.pres1 ≠ .rp v)
      ∧ (l = .cc2 → ∀ v : BitVec 2, (t.port p).tc.pres2 ≠ .rp v)
      ∧ ((s.port p).vconnOnLine l = true → (t.port p).tc.vconnOn = false) := by
  refine gives_of_exec (congrArg Host.Outcome.next (if_pos (by rw [hen, hpd, filter_take_five _ hlen, decide_eq_true hx]; rfl))) ?_
  dsimp only
  obtain ⟨hoff, -, hst, -⟩ := s.vconnLost_spec p false
  have key : ∀ u : State, (u.port p).tc.st = (s.port p).tc.st → ((s.port p).vconnOnLine l = true → (u.port p).tc.vconnOn = false) →
      ∀ d, ((u.updPort p (Port.openRp l)).raisePort p 7 d).raisedAt (64 + p.val) = true
        ∧ (((u.updPort p (Port.openRp l)).raisePort p 7 d).port p).tc.st = (s.port p).tc.st
        ∧ (l = .cc1 → ∀ v : BitVec 2, (((u.updPort p (Port.openRp l)).raisePort p 7 d).port p).tc.pres1 ≠ .rp v)
        ∧ (l = .cc2 → ∀ v : BitVec 2, (((u.updPort p (Port.openRp l)).raisePort p 7 d).port p).tc.pres2 ≠ .rp v)
        ∧ ((s.port p).vconnOnLine l = true → (((u.updPort p (Port.openRp l)).raisePort p 7 d).port p).tc.vconnOn = false) := by
    intro u hu hv d
    rw [State.updPort_of_shown (Port.openRp_shown l _)]
    have hp : (u.modPort p (Port.openRp l)).port p = (u.port p).openRp l := State.port_modPort ..
    refine ⟨State.raisePort_raised .., ?_, ?_, ?_, fun h => ?_⟩
    · rw [State.raisePort_st, hp, (Port.openRp_st l _).1, hu]
    · rintro rfl
      refine portKept_noRp1.raisePort _ _ _ _ _ ?_
      rw [hp]
      exact Port.openRp_cc1 _
    · rintro rfl
      refine portKept_noRp2.raisePort _ _ _ _ _ ?_
      rw [hp]
      exact Port.openRp_cc2 _
    · refine portKept_vconnOff.raisePort _ _ _ _ _ ?_
      rw [hp, (Port.openRp_st l _).2, hv h]
  generalize s.vconnLost p false = w at hoff hst ⊢
  by_cases hline : (s.port p).vconnOnLine l = true
  · rw [if_pos hline]
    refine key _ ?_ ?_ _
    · rw [State.port_modPort, hst]
    · intro _
      rw [State.port_modPort]
      exact hoff
  · rw [if_neg hline]
    exact key s rfl (fun h => absurd h hline) _

/-- The class of a sweep that found nothing wet and nothing corroded (R119). -/
theorem Port.swept_cls {b : Beat} {v : Verdict} {z : List Nat} {o : List Int} {rd1 rd2 : Bool} {k : List Nat} {y : Port}
    (hw : v.wet = none) (hc : v.corr = none) : (y.swept b v z o rd1 rd2 k).moist.cls = (if v.dry then 1 else 2) := by
  show BitVec.ofNat 3 v.code = _
  unfold Verdict.code
  rw [hw, hc]
  cases v.dry <;> rfl

/-- Settles O24: the cases of a sweep of 32 passes, and the leaks on the SBU and CC lines. -/
theorem moistureAndLeaks : Obligations.MoistureAndLeaks := by
  unfold Obligations.MoistureAndLeaks
  exact ⟨fun p z o rd1 rd2 s hfw hover hterm => moistureSweep_invalid hfw hover hterm,
    fun p z o rd1 rd2 v s hfw hover hterm hv hw hc hst => by
      subst hv
      obtain ⟨t, he, hmoist, hwet, hcorr, hmute, hst', hf⟩ := moistureSweep_nothing hfw hover hterm hw hc hst
      refine gives_of_exec he ?_
      rw [hmoist]
      exact ⟨Port.swept_cls hw hc, rfl, rfl, rfl, hwet, hcorr, hmute, hst', rfl, rfl, hf⟩,
    fun p z o rd1 rd2 i s hfw hover hterm hw hc hoc hst => moistureSweep_wet hfw hover hterm hw hc hoc hst,
    fun p z o rd1 rd2 i s hfw hover hterm hw hoc => moistureSweep_lockout hfw hover hterm hw hoc,
    fun p z o rd1 rd2 s hfw hover hterm hw hc hd hst hwhy => moistureSweep_dries hfw hover hterm hw hc hd hst hwhy,
    fun p z o rd1 rd2 s hfw hover hterm hw hc hst hheld => moistureSweep_staysWet hfw hover hterm hw hc hst hheld,
    fun p z o rd1 rd2 s hover => congrArg Host.Outcome.next (if_pos (by simp [hover])),
    fun p s hdue hst => dryRecheck_sweeps hdue hst,
    fun p sbu2 mv1 mv2 s hen hpd hrun h1 h2 => vbusLeak_raises hen hpd hrun h1 h2,
    fun p l xs s hen hpd hlen hx => ccLeakTrip_raises hen hpd hlen hx⟩

end Sys2Proof.Machine
end

section
/-! Trims of the clusters and of their ADCs (R152–R156). -/

namespace Sys2Proof.Machine

variable {s : State} {c : ClusterId}

/-! ### The two ADCs of a cluster -/

@[simp] theorem Cluster.adcAt_modAdc (k : Cluster) (second : Bool) (f : Adc → Adc) :
    (k.modAdc second f).adcAt second = f (k.adcAt second) := by
  cases second
  · exact Vector.getElem_set_self (xs := k.adc) (i := 0) (by decide)
  · exact Vector.getElem_set_self (xs := k.adc) (i := 1) (by decide)
@[simp] theorem Cluster.adcAt_modAdc_first (k : Cluster) (f : Adc → Adc) : (k.modAdc true f).adcAt false = k.adcAt false := by
  exact Vector.getElem_set_ne (xs := k.adc) (i := 1) (j := 0) (by decide) (by decide) (by decide)
@[simp] theorem Cluster.adcAt_modAdc_second (k : Cluster) (f : Adc → Adc) : (k.modAdc false f).adcAt true = k.adcAt true := by
  exact Vector.getElem_set_ne (xs := k.adc) (i := 0) (j := 1) (by decide) (by decide) (by decide)
theorem Cluster.adcAt_abandonTrim (k : Cluster) (second : Bool) : k.abandonTrim.adcAt second = k.adcAt second := rfl

/-- The cluster after a trim of its whole. -/
def Cluster.wholeTrim (b : Beat) (z0 z1 : List Int) (k : Cluster) : Cluster :=
  ((k.modAdc false (Adc.trimmedTo b z0)).modAdc true (Adc.trimmedTo b z1)).abandonTrim

theorem clampInt_of_natAbs {n : Int} (h : n.natAbs ≤ 127) : clampInt (-127) 127 n = n := by
  unfold clampInt
  omega

theorem trimmedTo_trim {b : Beat} {z : List Int} {a : Adc} (h : trimBad z = false) : (a.trimmedTo b z).trim = trimCode z :=
  clampInt_of_natAbs (by simpa [trimBad] using h)

/-- A trim that stands at its bound is at its end (R153, R156). -/
theorem trimmedTo_atEnd {b : Beat} {z : List Int} {a : Adc} (h : trimBad z = true) : (a.trimmedTo b z).atEnd = true := by
  have hz : 127 < (trimCode z).natAbs := of_decide_eq_true h
  refine decide_eq_true ?_
  show 127 ≤ (clampInt (-127) 127 (trimCode z)).natAbs
  unfold clampInt
  omega

theorem adcRaise_ends {second : Bool} {old new : Adc} (hend : new.atEnd = true) (ho : old.atEnd = false) (hr : old.refBad = false) :
    adcRaise c second old new = [devRaise (8 + c.val) (if second then 1 else 0) 0] :=
  if_pos (by rw [hend, ho, hr]; rfl)

theorem reservedSource_cluster (c : ClusterId) : reservedSource (8 + c.val) = false := by
  revert c
  decide

/-! ### The end of a cluster's trim -/

theorem State.joinTrim_cluster (s : State) (b : Bool) (h : (s.cluster c).trimPart = .whole) : (s.joinTrim b).cluster c = s.cluster c := by
  unfold State.joinTrim
  dsimp only
  split
  · next hj =>
    have hne : c ≠ 0 := by
      rintro rfl
      rw [h] at hj
      simp at hj
    exact State.cluster_modCluster_ne s hne _
  · rfl

theorem bits_setReady (s : State) (c : ClusterId) : (s.setReady (BitVec.ofNat 32 (2 ^ (12 + c.val)))).clusterReady c.val = true := by
  show bit1 (s.dev.ready0 ||| clusterBit c) (12 + c.val) = true
  unfold bit1
  rw [BitVec.getLsbD_or, clusterBit_get, Bool.or_true]

theorem clusterReady_of_ready0 {s t : State} (h : t.dev.ready0 = s.dev.ready0) (n : Nat) : t.clusterReady n = s.clusterReady n := by
  unfold State.clusterReady State.ready
  rw [h]

theorem clusterTrim_passes {z0 z1 : List Int} (ht : (s.cluster c).trimming = true) (hl : s.clusterLinked c = true)
    (hb : 1250 ≤ Beat.since s.now (s.cluster c).trimBeat) (hp : (s.cluster c).trimPart = .whole) (h0 : trimBad z0 = false)
    (h1 : trimBad z1 = false) (hs : (s.cluster c).trimStart = false) :
    gives (.clusterTrimComplete c [] [] z0 z1) s fun t => (t.cluster c).trimming = false
      ∧ (t.cluster c).trimmed = true
      ∧ t.clusterReady c.val = true
      ∧ ((t.cluster c).adcAt false).trim = trimCode z0
      ∧ ((t.cluster c).adcAt true).trim = trimCode z1
      ∧ t.cores = s.cores
      ∧ t.feed = s.feed
      ∧ t.store = s.store := by
  generalize hrs : adcRaise c false ((s.cluster c).adcAt false) (((s.cluster c).wholeTrim s.now z0 z1).adcAt false)
    ++ adcRaise c true ((s.cluster c).adcAt true) (((s.cluster c).wholeTrim s.now z0 z1).adcAt true) = rs
  have he : exec (.clusterTrimComplete c [] [] z0 z1) s = .next (((((s.modCluster c fun _ =>
      (s.cluster c).wholeTrim s.now z0 z1).raiseAll rs).modCluster c fun k => { k with trimmed := true, trimPart := .whole }).setReady
        (BitVec.ofNat 32 (2 ^ (12 + c.val)))).joinTrim false) := by
    subst hrs
    show execClusterTrimComplete c [] [] z0 z1 s = _
    unfold execClusterTrimComplete
    rw [if_pos (by rw [ht, hl, decide_eq_true hb]; rfl)]
    simp only [hp, hs, h0, h1, TrimPart.coversAdc, Bool.and_false, Bool.or_self, Bool.false_eq_true, if_false, if_true, List.contains_nil,
      Bool.false_and, List.filter_false, List.foldl_nil, List.map_nil, List.nil_append]
    rfl
  refine gives_of_exec he ?_
  generalize hu : s.modCluster c (fun _ => (s.cluster c).wholeTrim s.now z0 z1) = u
  have hcu : u.cluster c = (s.cluster c).wholeTrim s.now z0 z1 := by rw [← hu, State.cluster_modCluster]
  have hk := State.cluster_of_sensed (State.raiseAll_sensed u rs) c
  have hrest := State.raiseAll_rest u rs
  have hurest : u.rest = s.rest := by rw [← hu]; rfl
  generalize u.raiseAll rs = v at hk hrest ⊢
  rw [hcu] at hk
  generalize hw : v.modCluster c (fun k => { k with trimmed := true, trimPart := .whole }) = w
  have hcw : w.cluster c = { v.cluster c with trimmed := true, trimPart := .whole } := by rw [← hw, State.cluster_modCluster]
  have hj : ((w.setReady (BitVec.ofNat 32 (2 ^ (12 + c.val)))).joinTrim false).cluster c = w.cluster c :=
    State.joinTrim_cluster _ _ (congrArg Cluster.trimPart hcw)
  rw [hj, hcw]
  have hadc : (v.cluster c).adc = ((s.cluster c).wholeTrim s.now z0 z1).adc := by
    have h := congrArg Cluster.adc hk
    exact h
  have hrest' : v.rest = s.rest := hrest.trans hurest
  have hrw : ((w.setReady (BitVec.ofNat 32 (2 ^ (12 + c.val)))).joinTrim false).core0 = (v.setReady (BitVec.ofNat 32 (2 ^ (12 + c.val)))).core0 := by
    rw [State.joinTrim_core0, ← hw]
    rfl
  have hat : ∀ second, ({ v.cluster c with trimmed := true, trimPart := .whole } : Cluster).adcAt second
      = ((s.cluster c).wholeTrim s.now z0 z1).adcAt second := fun second => congrArg (fun a : Vector Adc 2 => a.get (if second then 1 else 0)) hadc
  refine ⟨congrArg Cluster.trimming hk, rfl, ?_, ?_, ?_, ?_, ?_, ?_⟩
  · rw [clusterReady_of_ready0 (State.joinTrim_ready0 _ _)]
    exact bits_setReady w c
  · rw [hat]
    unfold Cluster.wholeTrim
    rw [Cluster.adcAt_abandonTrim, Cluster.adcAt_modAdc_first, Cluster.adcAt_modAdc]
    exact trimmedTo_trim h0
  · rw [hat]
    unfold Cluster.wholeTrim
    rw [Cluster.adcAt_abandonTrim, Cluster.adcAt_modAdc]
    exact trimmedTo_trim h1
  · exact (congrArg (fun r => r.1) hrw).trans (congrArg (fun r => r.1) hrest')
  · exact (congrArg (fun r => r.2.2.1) hrw).trans (congrArg (fun r => r.2.2.1) hrest')
  · exact (congrArg (fun r => r.2.2.2.2.1) hrw).trans (congrArg (fun r => r.2.2.2.2.1) hrest')

/-! ### A trim that fails -/

theorem State.foldl_modPort_rest (f : Port → Port) (ps : List PortId) (s : State) :
    (ps.foldl (fun (t : State) p => t.modPort p f) s).rest = s.rest :=
  foldl_rest (fun (t : State) (p : PortId) => t.modPort p f) (fun _ _ => rfl) _ _

theorem ready0_of_rest {s t : State} (h : t.rest = s.rest) : t.dev.ready0 = s.dev.ready0 :=
  congrArg (fun r => r.2.2.2.2.2.2.2.1.ready0) h

theorem clusterTrim_fails {rp rd : List PortId} {z0 z1 : List Int} (ht : (s.cluster c).trimming = true) (hl : s.clusterLinked c = true)
    (hb : 1250 ≤ Beat.since s.now (s.cluster c).trimBeat) (hp : (s.cluster c).trimPart.coversAdc false = true) (h0 : trimBad z0 = true)
    (hend : ((s.cluster c).adcAt false).atEnd = false) (hrb : ((s.cluster c).adcAt false).refBad = false) :
    gives (.clusterTrimComplete c rp rd z0 z1) s fun t => t.raisedAt (8 + c.val) = true
      ∧ t.dev.ready0 = s.dev.ready0
      ∧ t.cores = s.cores
      ∧ t.feed = s.feed
      ∧ t.store = s.store := by
  have hin : ∀ k1 : Cluster, k1.adcAt false = Adc.trimmedTo s.now z0 ((s.cluster c).adcAt false) →
      devRaise (8 + c.val) 0 0 ∈ adcRaise c false ((s.cluster c).adcAt false) (k1.adcAt false) := by
    intro k1 hk
    rw [hk, adcRaise_ends (trimmedTo_atEnd h0) hend hrb]
    exact List.mem_singleton_self _
  have he : exec (.clusterTrimComplete c rp rd z0 z1) s = execClusterTrimComplete c rp rd z0 z1 s := rfl
  unfold execClusterTrimComplete at he
  rw [if_pos (by rw [ht, hl, decide_eq_true hb]; rfl)] at he
  dsimp only at he
  rw [if_pos (by rw [hp, h0]; rfl)] at he
  have hrest : ∀ (f g : Port → Port) (ps qs : List PortId) (k : Cluster → Cluster) (rs : List Raise),
      ((qs.foldl (fun (t : State) p => t.modPort p g) (ps.foldl (fun (t : State) p => t.modPort p f) (s.modCluster c k))).raiseAll rs).rest
        = s.rest :=
    fun f g ps qs k rs =>
      (State.raiseAll_rest ..).trans ((State.foldl_modPort_rest ..).trans ((State.foldl_modPort_rest ..).trans rfl))
  refine gives_of_exec he ⟨State.raiseAll_raised _ (r := devRaise (8 + c.val) 0 0) ?_ rfl (reservedSource_cluster c), ?_, ?_, ?_, ?_⟩
  · refine List.mem_append_left _ (List.mem_append_right _ (hin _ ?_))
    rw [if_pos hp]
    split
    · rw [Cluster.adcAt_modAdc_first, Cluster.adcAt_modAdc]
    · exact Cluster.adcAt_modAdc ..
  · exact ready0_of_rest (hrest _ _ _ _ _ _)
  · exact congrArg (fun r => r.1) (hrest _ _ _ _ _ _)
  · exact congrArg (fun r => r.2.2.1) (hrest _ _ _ _ _ _)
  · exact congrArg (fun r => r.2.2.2.2.1) (hrest _ _ _ _ _ _)

/-! ### The zero trim of an ADC -/

theorem Adc.update_sixteen {a : Adc} (h : a.zeros.length = 16) :
    a.update = { a with refBad := decide (4 ≤ a.refRun), trimNext := trimStep a.trim a.zeros, zeros := [], stale := false
                        atEnd := decide (127 ≤ (trimStep a.trim a.zeros).natAbs) } :=
  if_neg (by omega)

theorem Adc.idles_zeros {b : Beat} {zs rs : List Int} {a : Adc} (h : (a.zeros ++ zs).length = 16) : (a.idles b zs rs).zeros = a.zeros ++ zs :=
  List.take_of_length_le (by omega)

theorem adcTrimUpdate_steps {second : Bool} {zs : List Int} (hp : s.adcPowered c second = true)
    (hlen : (((s.cluster c).adcAt second).zeros ++ zs).length = 16)
    (hstep : (trimStep ((s.cluster c).adcAt second).trim (((s.cluster c).adcAt second).zeros ++ zs)).natAbs < 127)
    (hrun : ((s.cluster c).adcAt second).refRun < 4) :
    gives (.adcTrimUpdate c second zs []) s fun t =>
      ((t.cluster c).adcAt second).trimNext = trimStep ((s.cluster c).adcAt second).trim (((s.cluster c).adcAt second).zeros ++ zs)
      ∧ ((t.cluster c).adcAt second).trim = ((s.cluster c).adcAt second).trim
      ∧ ((t.cluster c).adcAt second).zeros = []
      ∧ ((t.cluster c).adcAt second).stale = false
      ∧ t.ports = s.ports
      ∧ t.faults = s.faults := by
  generalize ha : (s.cluster c).adcAt second = a at hlen hstep hrun ⊢
  have hz : (a.idles s.now zs []).zeros = a.zeros ++ zs := Adc.idles_zeros hlen
  have hupd := Adc.update_sixteen (hz.symm ▸ hlen)
  rw [hz] at hupd
  have hnone : adcRaise c second a (a.idles s.now zs []).update = [] := by
    rw [hupd]
    refine if_neg ?_
    show ¬(((decide (127 ≤ (trimStep a.trim (a.zeros ++ zs)).natAbs) || decide (4 ≤ a.refRun)) && _) = true)
    rw [decide_eq_false (by omega), decide_eq_false (by omega)]
    simp
  refine gives_of_exec (congrArg Host.Outcome.next ((if_pos hp).trans ?_)) (t := s.modCluster c fun k => k.modAdc second fun _ => (a.idles s.now zs []).update) ?_
  · rw [ha]
    exact if_pos (by rw [hnone]; rfl)
  · rw [State.cluster_modCluster, Cluster.adcAt_modAdc, hupd]
    exact ⟨rfl, rfl, rfl, rfl, rfl, rfl⟩

theorem adcTrimUpdate_atEnd {second : Bool} {zs rs : List Int} (hp : s.adcPowered c second = true)
    (hlen : (((s.cluster c).adcAt second).zeros ++ zs).length = 16)
    (hstep : 127 ≤ (trimStep ((s.cluster c).adcAt second).trim (((s.cluster c).adcAt second).zeros ++ zs)).natAbs)
    (hend : ((s.cluster c).adcAt second).atEnd = false) (hrb : ((s.cluster c).adcAt second).refBad = false) :
    gives (.adcTrimUpdate c second zs rs) s fun t => t.raisedAt (8 + c.val) = true ∧ t.cores = s.cores := by
  generalize ha : (s.cluster c).adcAt second = a at hlen hstep hend hrb
  have hz : (a.idles s.now zs rs).zeros = a.zeros ++ zs := Adc.idles_zeros hlen
  have hupd := Adc.update_sixteen (hz.symm ▸ hlen)
  rw [hz] at hupd
  have hraise : adcRaise c second a (a.idles s.now zs rs).update = [devRaise (8 + c.val) (if second then 1 else 0) 0] := by
    refine adcRaise_ends ?_ hend hrb
    rw [hupd]
    exact decide_eq_true hstep
  refine gives_of_exec (congrArg Host.Outcome.next ((if_pos hp).trans ?_)) (t := (s.modCluster c fun k => k.modAdc second fun _ =>
      (a.idles s.now zs rs).update).raiseAll [devRaise (8 + c.val) (if second then 1 else 0) 0]) ?_
  · rw [ha]
    dsimp only
    rw [hraise]
    rfl
  · exact ⟨State.raiseAll_raised _ (List.mem_singleton_self _) rfl (reservedSource_cluster c), congrArg (fun r => r.1) (State.raiseAll_rest ..)⟩

theorem trimStep_bounded (t0 : Int) (zs : List Int) (h : t0.natAbs ≤ 127) :
    (trimStep t0 zs).natAbs ≤ 127 ∧ (trimStep t0 zs - t0).natAbs ≤ 1 := by
  unfold trimStep
  dsimp only
  split
  · omega
  · split <;> omega

theorem adcStale_stale {second : Bool} (hp : s.adcPowered c second = true)
    (hb : 250000 ≤ Beat.since s.now ((s.cluster c).adcAt second).lastZero) :
    gives (.adcStale c second) s fun t => ((t.cluster c).adcAt second).stale = true ∧ t.ports = s.ports ∧ t.faults = s.faults ∧ t.pool = s.pool := by
  refine gives_of_exec (congrArg Host.Outcome.next (if_pos (by rw [hp, decide_eq_true hb]; rfl))) ?_
  rw [State.cluster_modCluster, Cluster.adcAt_modAdc]
  exact ⟨rfl, rfl, rfl, rfl⟩

/-- Settles O25: the end of a cluster's trim, passed or failed, and the steps of an ADC's zero trim. -/
theorem trims : Obligations.Trims := by
  unfold Obligations.Trims
  exact ⟨fun c z0 z1 s ht hl hb hp h0 h1 hs => clusterTrim_passes ht hl hb hp h0 h1 hs,
    fun c rp rd z0 z1 s ht hl hb hp h0 hend hrb => clusterTrim_fails ht hl hb hp h0 hend hrb,
    fun c second zs rs s hp hlen hstep hrun hrs => by subst hrs; exact adcTrimUpdate_steps hp hlen hstep hrun,
    fun c second zs rs s hp hlen hstep hend hrb => adcTrimUpdate_atEnd hp hlen hstep hend hrb,
    trimStep_bounded,
    fun c second s hp hb => adcStale_stale hp hb⟩

end Sys2Proof.Machine
end

section
/-! The boot at the first beat, and what its parts leave of the board, the image store and the ready bits of the cores (R58, R66–R72). -/

namespace Sys2Proof.Machine

variable {s : State}

/-! ### Ready bits that only come -/

theorem State.ready_setReady (m : Word) {i : Nat} (h : s.ready i = true) : (s.setReady m).ready i = true := by
  unfold State.ready bit1 at *
  rw [State.setReady_ready0, BitVec.getLsbD_or, h, Bool.true_or]
theorem State.ready_setReady_self {m : Word} {i : Nat} (h : m.getLsbD i = true) : (s.setReady m).ready i = true := by
  unfold State.ready bit1
  rw [State.setReady_ready0, BitVec.getLsbD_or, h, Bool.or_true]
theorem State.ready_clearReady {m : Word} {i : Nat} (hm : m.getLsbD i = false) (h : s.ready i = true) : (s.clearReady m).ready i = true := by
  unfold State.ready bit1 at *
  rw [State.clearReady_ready0, BitVec.getLsbD_and, h, BitVec.getLsbD_not, hm, decide_eq_true (BitVec.lt_of_getLsbD h)]
  rfl
theorem State.ready_of_ready0 {t : State} {i : Nat} (ht : t.dev.ready0 = s.dev.ready0) (h : s.ready i = true) : t.ready i = true := by
  unfold State.ready at *
  rw [ht, h]

theorem State.feedBits_ready {i : Nat} (hi : i < 20) (h : s.ready i = true) : s.feedBits.ready i = true := by
  have hA : (0x00100000#32).getLsbD i = false := by
    interval_cases i <;> rfl
  have hB : (0x00200000#32).getLsbD i = false := by
    interval_cases i <;> rfl
  unfold State.feedBits
  split
  · exact h
  · dsimp only
    (repeat' split) <;>
      simp [State.ready_setReady, State.ready_clearReady, *]

theorem State.budgetReady_ready {i : Nat} (hi : i < 20) (h : s.ready i = true) : s.budgetReady.ready i = true := by
  have hm : (0x00800000#32).getLsbD i = false := by
    interval_cases i <;> rfl
  unfold State.budgetReady
  split
  · exact State.ready_setReady _ h
  · exact State.ready_clearReady hm h
theorem State.yarrowReady_ready {i : Nat} (hi : i < 20) (h : s.ready i = true) : s.yarrowReady.ready i = true := by
  have hm : (0x00400000#32).getLsbD i = false := by
    interval_cases i <;> rfl
  unfold State.yarrowReady
  split
  · exact State.ready_setReady _ h
  · exact State.ready_clearReady hm h
theorem State.originate_dev (ys : List YPort) (dst : BitVec 12) (type : Nat) (payload : List Byte) :
    (s.originate ys dst type payload).dev = s.dev := by
  unfold State.originate
  split <;> rfl
theorem State.startChain_ready {i : Nat} {id : BitVec 12} {src : BitVec 2} (hi : i < 20) (h : s.ready i = true) :
    (s.startChain id src).ready i = true := by
  unfold State.startChain
  refine State.ready_of_ready0 (congrArg Dev.ready0 (State.originate_dev ..)) (State.yarrowReady_ready hi h)
theorem State.ringCheck_ready0 (was : Bool) : (s.ringCheck was).dev.ready0 = s.dev.ready0 := by
  unfold State.ringCheck
  split
  · exact State.raise_ready0 ..
  · rfl
theorem State.yarrowBoot_ready {i : Nat} (hi : i < 20) (h : s.ready i = true) : s.yarrowBoot.ready i = true := by
  unfold State.yarrowBoot
  dsimp only
  refine State.ready_of_ready0 (State.ringCheck_ready0 _) (State.yarrowReady_ready hi ?_)
  split
  · refine State.startChain_ready hi ?_
    split
    · exact h
    · exact h
  · split
    · exact h
    · exact h

/-! ### The board and the image store -/

/-- The board, but for free values and a waiting reset, and the image store. -/
def State.plate (s : State) := (s.board.still, s.store)

theorem State.plate_of_core0 {t : State} (h : t.core0 = s.core0) : t.plate = s.plate := by
  simp only [State.core0, Prod.mk.injEq] at h
  obtain ⟨-, -, -, -, hs, -, hb, -⟩ := h
  exact Prod.ext hb hs
theorem State.plate_of_rest {t : State} (h : t.rest = s.rest) : t.plate = s.plate := State.plate_of_core0 (core0_of_rest h)

theorem State.feedBits_plate (s : State) : s.feedBits.plate = s.plate := by
  unfold State.feedBits
  dsimp only
  (repeat' split) <;> rfl
theorem State.budgetReady_plate (s : State) : s.budgetReady.plate = s.plate := by
  unfold State.budgetReady
  split <;> rfl
theorem State.yarrowReady_plate (s : State) : s.yarrowReady.plate = s.plate := by
  unfold State.yarrowReady
  split <;> rfl
theorem State.originate_plate (s : State) (ys : List YPort) (dst : BitVec 12) (type : Nat) (payload : List Byte) :
    (s.originate ys dst type payload).plate = s.plate := by
  unfold State.originate
  split <;> rfl
theorem State.startChain_plate (s : State) (id : BitVec 12) (src : BitVec 2) : (s.startChain id src).plate = s.plate :=
  (State.originate_plate ..).trans (State.yarrowReady_plate _)
theorem State.ringCheck_plate (s : State) (was : Bool) : (s.ringCheck was).plate = s.plate := by
  unfold State.ringCheck
  split
  · exact State.plate_of_rest (State.raise_rest ..)
  · rfl
theorem State.yarrowBoot_plate (s : State) : s.yarrowBoot.plate = s.plate := by
  unfold State.yarrowBoot
  dsimp only
  rw [State.ringCheck_plate, State.yarrowReady_plate]
  have h1 : (if (BitVec.ofNat 12 (fld s.yarrow.node 0 12) != 0) = true then s.modYarrow fun w => w.setId (BitVec.ofNat 12 (fld s.yarrow.node 0 12)) 1
      else s).plate = s.plate := by split <;> rfl
  refine Eq.trans ?_ h1
  show (ite _ _ _ : State).plate = _
  split
  · exact State.startChain_plate ..
  · rfl
theorem State.configure_plate (s : State) : s.configure.plate = ({ s.board.still with cfgGen := s.configure.board.cfgGen }, s.store) := by
  unfold State.configure State.applyGen
  split <;> rfl

/-- The cores that an image starts, with their ready bits (R72, R81). -/
def State.coresUp (s : State) : State :=
  let t := s.setReady (if s.board.mainOn then 0x00000FF8#32 else 0x00000808#32)
  { t with cores := Vector.ofFn fun k => if s.board.mainOn || k.val == 0 || k.val == 8 then { t.cores[k] with flagFirst := true } else t.cores[k] }

/-- The clusters, the feeds and the budget that an image starts, with a wanted allocation where a budget is held (R72, R315). -/
def State.unitsUp (s : State) (held : Bool) : State :=
  let v := (List.finRange 8).foldl (bringCluster true) s
  let w := v.feedBits.budgetReady.setGrants v.floors
  if held then w.wantAllocation else w

theorem State.runImage_eq (s : State) : s.runImage
    = (if s.board.mainOn then (s.coresUp.unitsUp s.budgetHeld).yarrowBoot else s.coresUp.unitsUp s.budgetHeld) := by
  unfold State.runImage State.unitsUp State.coresUp
  dsimp only

theorem State.setGrants_plate (s : State) (gs : List Nat) : (s.setGrants gs).plate = s.plate := by
  unfold State.setGrants State.plate
  rfl
theorem State.setGrants_ready (s : State) (gs : List Nat) (i : Nat) : (s.setGrants gs).ready i = s.ready i := by
  unfold State.setGrants State.ready
  rfl
theorem State.wantAllocation_plate (s : State) : s.wantAllocation.plate = s.plate := rfl
theorem State.wantAllocation_ready (s : State) (i : Nat) : s.wantAllocation.ready i = s.ready i := rfl

theorem State.unitsUp_plate (s : State) (held : Bool) : (s.unitsUp held).plate = s.plate := by
  have hbring : (((List.finRange 8).foldl (bringCluster true) s).feedBits.budgetReady).plate = s.plate :=
    (State.budgetReady_plate _).trans ((State.feedBits_plate _).trans (State.plate_of_core0 (bringAll_core0 ..)))
  unfold State.unitsUp
  cases held with
  | true => exact (State.wantAllocation_plate _).trans ((State.setGrants_plate ..).trans hbring)
  | false => exact (State.setGrants_plate ..).trans hbring
theorem State.unitsUp_ready {held : Bool} {i : Nat} (hi : i < 20) (h : s.ready i = true) : (s.unitsUp held).ready i = true := by
  have hbring : (((List.finRange 8).foldl (bringCluster true) s).feedBits.budgetReady).ready i = true :=
    State.budgetReady_ready hi (State.feedBits_ready hi (bringAll_mono true i _ s h))
  unfold State.unitsUp
  cases held with
  | true => exact (State.wantAllocation_ready ..).trans ((State.setGrants_ready ..).trans hbring)
  | false => exact (State.setGrants_ready ..).trans hbring

/-- The image that starts leaves the board and the store. -/
theorem State.runImage_plate (s : State) : s.runImage.plate = s.plate := by
  rw [State.runImage_eq]
  split
  · exact (State.yarrowBoot_plate _).trans ((State.unitsUp_plate ..).trans rfl)
  · exact (State.unitsUp_plate ..).trans rfl

theorem State.runImage_ready_of {i : Nat} (hi : i < 20) (h : s.coresUp.ready i = true) : s.runImage.ready i = true := by
  rw [State.runImage_eq]
  split
  · exact State.yarrowBoot_ready hi (State.unitsUp_ready hi h)
  · exact State.unitsUp_ready hi h

/-- The ready bits of S0 and S8 come with the image, and those set before stay. -/
theorem State.runImage_ready {i : Nat} (hi : i < 20) (h : s.ready i = true ∨ i = 3 ∨ i = 11) : s.runImage.ready i = true := by
  refine State.runImage_ready_of hi ?_
  show (s.setReady _).ready i = true
  rcases h with h | rfl | rfl
  · exact State.ready_setReady _ h
  · exact State.ready_setReady_self (by split <;> rfl)
  · exact State.ready_setReady_self (by split <;> rfl)

/-! ### The boot -/

/-- A packet pushed into an empty queue with nothing open stands at its head, where it may enter. -/
theorem Pool.push_head {m : Pool} {q : QueueId} {k : Packet} (hdata : k.data.isEmpty = false) (hlen : k.data.length ≤ 4104)
    (hroom : m.room q k.cells = true) (hopen : (m.queues[q]).opened = none) (hclosed : (m.queues[q]).closed = []) :
    ((m.push q k).queues[q]).closed = [k] := by
  have hw : ∀ (n : Nat) (u : Pool), (u.watch n).queues = u.queues := by
    intro n u
    unfold Pool.watch
    split <;> rfl
  unfold Pool.push
  rw [if_neg (by simp [hdata, hlen]), if_pos hroom, hw]
  show ((m.modQ q (Queue.join k)).queues[q]).closed = [k]
  unfold Pool.modQ
  simp only [Fin.getElem_fin, Vector.getElem_set_self]
  unfold Queue.join
  rw [if_neg (by simpa using hopen)]
  simpa using hclosed

theorem bootReport_length (b : Board) : (bootReport b).length = 16 := by
  unfold bootReport
  simp [leBytes, wordBytes, zeros, u32]

/-- The bytes of a boot report's event. -/
theorem bootEvent_length (b : Board) : (eventBytes 0xC0 0x7F false (bootReport b)).length = 24 := by
  have h := bootReport_length b
  unfold eventBytes padTo4
  simp [leBytes, u16, zeros, h]

/-- The pool that a boot has set up takes the packet of a boot report. -/
theorem bootPool_room (main : Bool) : (Pool.reset.atBoot main).room qEvent (cellsFor 24) = true := by
  cases main with
  | false => decide +kernel
  | true => decide +kernel
theorem bootPool_event (main : Bool) : ((Pool.reset.atBoot main).queues[qEvent]).opened = none
    ∧ ((Pool.reset.atBoot main).queues[qEvent]).closed = [] := by
  cases main with
  | false => exact ⟨by decide +kernel, by decide +kernel⟩
  | true => exact ⟨by decide +kernel, by decide +kernel⟩

/-- BOOT_REPORT is the first event after a boot (R71). -/
theorem report_first (b : Board) (main : Bool) :
    let m := Pool.reset.atBoot main
    (((m.push qEvent (mkPacket m .none (eventBytes 0xC0 0x7F false (bootReport b)))).queues[qEvent]).closed.map Packet.data).head?
      = some (eventBytes 0xC0 0x7F false (bootReport b)) := by
  obtain ⟨hopen, hclosed⟩ := bootPool_event main
  have hlen := bootEvent_length b
  dsimp only
  generalize eventBytes 0xC0 0x7F false (bootReport b) = d at hlen ⊢
  have hcells : (mkPacket (Pool.reset.atBoot main) .none d).cells = cellsFor 24 := congrArg cellsFor hlen
  have hd : (mkPacket (Pool.reset.atBoot main) .none d).data.isEmpty = false := by
    show d.isEmpty = false
    cases d with
    | nil => exact absurd hlen (by decide)
    | cons => rfl
  rw [Pool.push_head hd (hlen.trans_le (by decide)) (by rw [hcells]; exact bootPool_room main) hopen hclosed]
  rfl

theorem Pool.push_capacity (m : Pool) (q : QueueId) (k : Packet) : (m.push q k).capacity = m.capacity := by
  unfold Pool.push Pool.watch Pool.refuseFor
  (repeat' split) <;> rfl

theorem boot_testen (hon : s.board.svcOn = true) (hp : s.board.bootPending = true) (hr : s.board.resetLow = false)
    (hpool : s.pool = Pool.reset) (ht : s.board.testen = true) :
    gives .bootRomStart s fun t => t.board.bootPending = false ∧ t.dev.ready0 = s.dev.ready0 ||| 1
      ∧ t.pool.capacity = (if s.board.mainOn then 15856 else 4048)
      ∧ ((t.pool.queues[qEvent]).closed.map Packet.data).head? = some (eventBytes 0xC0 0x7F false (bootReport t.board)) := by
  refine gives_of_exec (congrArg Host.Outcome.next ((if_pos (by rw [hon, hp, hr]; rfl)).trans (if_pos ht))) ⟨rfl, rfl, ?_, ?_⟩
  · refine (Pool.push_capacity ..).trans ?_
    rw [hpool]
    unfold Pool.atBoot
    split <;> rfl
  · have h := report_first { s.board with bootPending := false } s.board.mainOn
    rw [← hpool] at h
    exact h

/-- The state after the boot ROM has read the configuration, reported and taken its records of snapshots, before an image starts. -/
def State.booted (s : State) : State :=
  let c := s.store.choose s.dev.keyRevoked
  let s2 := (({ s with board := { s.board with bootPending := false }, pool := s.pool.atBoot s.board.mainOn, store := c.2.1 } : State).configure).modBoard
    fun b => { b with recovery := c.1.isNone, runSlot := c.1, runSeq := match c.1 with | some i => BitVec.ofNat 32 (s.store.slotSeq i) | none => 0 }
  let n := s.store.newestSnap
  let s3 := s2.modFaults fun g => { g with
    snapSeq := BitVec.ofNat 32 (match n with | some e => e.1 | none => 0), snapPos := match n with | some e => (e.2 + 1) % 256 | none => 0 }
  ((s3.report).setReady 7#32).raiseAll ((if s.store.newest.isNone then [devRaise 16 0 0] else []) ++ (if c.2.2 then [devRaise 17 0 0] else []))

theorem execBootRomStart_eq (hon : s.board.svcOn = true) (hp : s.board.bootPending = true) (hr : s.board.resetLow = false)
    (ht : s.board.testen = false) :
    exec .bootRomStart s = .next (if (s.store.choose s.dev.keyRevoked).1.isSome then s.booted.runImage else s.booted) := by
  show execBootRomStart s = _
  unfold execBootRomStart State.booted
  refine congrArg Host.Outcome.next ((if_pos (by rw [hon, hp, hr]; rfl)).trans ((if_neg (by rw [ht]; decide)).trans ?_))
  generalize s.store.choose s.dev.keyRevoked = c
  generalize s.store.newestSnap = n
  obtain ⟨slot, store, old⟩ := c
  cases slot with
  | none => cases n with
    | none => rfl
    | some e => rfl
  | some i => cases n with
    | none => rfl
    | some e => rfl

theorem State.slotted_plate (u : State) (r : Bool) (i : Option Bool) (q : Word) (f : Faults → Faults) (m : Word) :
    ((((u.modBoard fun b => { b with recovery := r, runSlot := i, runSeq := q }).modFaults f).report).setReady m).plate
      = ({ u.board.still with recovery := r, runSlot := i, runSeq := q }, u.store) := rfl

/-- What the boot leaves of the board and the store. -/
theorem State.booted_plate (s : State) : s.booted.plate.1.bootPending = false
    ∧ s.booted.plate.1.recovery = (s.store.choose s.dev.keyRevoked).1.isNone ∧ s.booted.plate.1.runSlot = (s.store.choose s.dev.keyRevoked).1
    ∧ s.booted.plate.1.runSeq = (match (s.store.choose s.dev.keyRevoked).1 with | some i => BitVec.ofNat 32 (s.store.slotSeq i) | none => 0)
    ∧ s.booted.plate.2 = (s.store.choose s.dev.keyRevoked).2.1 := by
  unfold State.booted
  dsimp only
  rw [State.plate_of_rest (State.raiseAll_rest ..)]
  have hc := State.configure_plate ({ s with
      board := { s.board with bootPending := false }, pool := s.pool.atBoot s.board.mainOn, store := (s.store.choose s.dev.keyRevoked).2.1 } : State)
  generalize State.configure _ = u at hc ⊢
  have hpend : u.board.still.bootPending = false := congrArg (fun r => r.1.bootPending) hc
  have hstore : u.store = (s.store.choose s.dev.keyRevoked).2.1 := congrArg (fun r => r.2) hc
  rw [State.slotted_plate]
  exact ⟨hpend, rfl, rfl, rfl, hstore⟩

theorem State.booted_ready (s : State) {i : Nat} (hi : i < 3) : s.booted.ready i = true := by
  unfold State.booted
  dsimp only
  refine State.ready_of_ready0 (State.raiseAll_ready0 ..) (State.ready_setReady_self ?_)
  interval_cases i <;> rfl

theorem State.booted_raised (h : s.store.newest = none) : s.booted.raisedAt 16 = true := by
  unfold State.booted
  exact State.raiseAll_raised _ (r := devRaise 16 0 0) (List.mem_append_left _ (by rw [h]; exact List.mem_singleton_self _)) rfl (by decide)

theorem boot_recovery (hon : s.board.svcOn = true) (hp : s.board.bootPending = true) (hr : s.board.resetLow = false)
    (ht : s.board.testen = false) (hc : (s.store.choose s.dev.keyRevoked).1 = none) :
    gives .bootRomStart s fun t => t.board.bootPending = false ∧ t.board.recovery = true ∧ t.board.runSlot = none
      ∧ t.ready 0 = true ∧ t.ready 1 = true ∧ t.ready 2 = true ∧ t.store.flash = s.store.flash
      ∧ (s.store.newest = none → t.raisedAt 16 = true) := by
  have he := execBootRomStart_eq hon hp hr ht
  rw [hc] at he
  obtain ⟨h1, h2, h3, -, h5⟩ := s.booted_plate
  rw [hc] at h2 h3
  exact gives_of_exec he ⟨h1, h2, h3, s.booted_ready (by decide), s.booted_ready (by decide), s.booted_ready (by decide),
    (congrArg Store.flash h5).trans (Store.choose_flash ..), State.booted_raised⟩

theorem boot_runs {i : Bool} (hon : s.board.svcOn = true) (hp : s.board.bootPending = true) (hr : s.board.resetLow = false)
    (ht : s.board.testen = false) (hc : (s.store.choose s.dev.keyRevoked).1 = some i) :
    gives .bootRomStart s fun t => t.board.bootPending = false ∧ t.board.recovery = false ∧ t.board.runSlot = some i
      ∧ t.board.runSeq = BitVec.ofNat 32 (s.store.slotSeq i) ∧ t.store.flash = s.store.flash
      ∧ t.ready 0 = true ∧ t.ready 1 = true ∧ t.ready 2 = true ∧ t.coreReady 0 = true ∧ t.coreReady 8 = true := by
  have he := execBootRomStart_eq hon hp hr ht
  rw [hc] at he
  obtain ⟨h1, h2, h3, h4, h5⟩ := s.booted_plate
  rw [hc] at h2 h3 h4
  have hplate := s.booted.runImage_plate
  rw [← hplate] at h1 h2 h3 h4 h5
  have hready : ∀ i < 3, s.booted.runImage.ready i = true := fun i hi => State.runImage_ready (by omega) (.inl (s.booted_ready hi))
  exact gives_of_exec he ⟨h1, h2, h3, h4, (congrArg Store.flash h5).trans (Store.choose_flash ..), hready 0 (by decide), hready 1 (by decide),
    hready 2 (by decide), State.runImage_ready (by decide) (.inr (.inl rfl)), State.runImage_ready (by decide) (.inr (.inr rfl))⟩

/-- Settles O14: the boot with TESTEN high, into ROM recovery, and into the image of the slot chosen. -/
theorem boot : Obligations.Boot := by
  unfold Obligations.Boot
  exact ⟨fun s hon hp hr hpool ht => boot_testen hon hp hr hpool ht,
    fun s hon hp hr _ ht hc => boot_recovery hon hp hr ht hc,
    fun i s hon hp hr _ ht hc => boot_runs hon hp hr ht hc⟩

end Sys2Proof.Machine
end

section
/-! The beat at slot 0: what the ports, the queues and the collector carry out leaves of the tables in force, the severities, the forced
raises, the image store and the cores (R31, R34, R190, R349, R359). -/

namespace Sys2Proof.Machine

variable {s : State}

/-- Class tables and severities with what waits to come into force, forced raises that are due, the store, the cores, the command queue
and the beat generator. -/
def State.slate (s : State) :=
  (s.policy.writes, s.policy.classes, s.faults.sev, s.faults.sevNext, s.faults.forceDue, s.store, s.cores, s.pending, s.board.beat,
    s.board.passIdx, s.board.oddPass)

@[simp] theorem slate_mk (b d p c k sh po h f fe bu y pol st sv pe) : State.slate (State.mk b d p c k sh po h f fe bu y pol st sv pe)
    = (pol.writes, pol.classes, f.sev, f.sevNext, f.forceDue, st, k, pe, b.beat, b.passIdx, b.oddPass) := rfl
@[simp] theorem slate_fold (s : State) : (s.policy.writes, s.policy.classes, s.faults.sev, s.faults.sevNext, s.faults.forceDue, s.store, s.cores,
    s.pending, s.board.beat, s.board.passIdx, s.board.oddPass) = s.slate := rfl

theorem foldl_slate {α} (f : State → α → State) (h : ∀ t a, (f t a).slate = t.slate) : ∀ (l : List α) (s : State), (l.foldl f s).slate = s.slate
  | [], _ => rfl
  | a :: l, s => by rw [List.foldl_cons, foldl_slate f h l, h]
theorem slate_of_eq {α : Type} {r : State × α} {t : State} {a : α} (h : r = (t, a)) : t.slate = r.1.slate := by rw [h]

@[simp] theorem State.modPort_slate (s : State) (p : PortId) (f : Port → Port) : (s.modPort p f).slate = s.slate := rfl
@[simp] theorem State.modCluster_slate (s : State) (c : ClusterId) (f : Cluster → Cluster) : (s.modCluster c f).slate = s.slate := rfl
@[simp] theorem State.mapPorts_slate (s : State) (f : PortId → Port → Port) : (s.mapPorts f).slate = s.slate := by
  unfold State.mapPorts State.slate; rfl
@[simp] theorem State.modPool_slate (s : State) (f : Pool → Pool) : (s.modPool f).slate = s.slate := rfl
@[simp] theorem State.modHost_slate (s : State) (f : HostPort → HostPort) : (s.modHost f).slate = s.slate := rfl
@[simp] theorem State.modBudget_slate (s : State) (f : Budget → Budget) : (s.modBudget f).slate = s.slate := rfl
@[simp] theorem State.modSvc_slate (s : State) (f : Service → Service) : (s.modSvc f).slate = s.slate := rfl
@[simp] theorem State.modYarrow_slate (s : State) (f : Yarrow → Yarrow) : (s.modYarrow f).slate = s.slate := rfl
@[simp] theorem State.modPolicy_slate (s : State) (f : Policy → Policy) : (s.modPolicy f).slate
    = ((f s.policy).writes, (f s.policy).classes, s.faults.sev, s.faults.sevNext, s.faults.forceDue, s.store, s.cores, s.pending, s.board.beat,
      s.board.passIdx, s.board.oddPass) := rfl
@[simp] theorem State.modFaults_slate (s : State) (f : Faults → Faults) : (s.modFaults f).slate
    = (s.policy.writes, s.policy.classes, (f s.faults).sev, (f s.faults).sevNext, (f s.faults).forceDue, s.store, s.cores, s.pending, s.board.beat,
      s.board.passIdx, s.board.oddPass) := rfl
@[simp] theorem State.modBoard_slate (s : State) (f : Board → Board) : (s.modBoard f).slate
    = (s.policy.writes, s.policy.classes, s.faults.sev, s.faults.sevNext, s.faults.forceDue, s.store, s.cores, s.pending, (f s.board).beat,
      (f s.board).passIdx, (f s.board).oddPass) := rfl
@[simp] theorem Faults.owe_slate (g : Faults) (k : Safe) (p : PortId) : (g.owe k p).sev = g.sev ∧ (g.owe k p).sevNext = g.sevNext
    ∧ (g.owe k p).forceDue = g.forceDue := by
  unfold Faults.owe
  split <;> exact ⟨rfl, rfl, rfl⟩
@[simp] theorem Faults.mark_slate (g : Faults) (r : Raise) : (g.mark r).sev = g.sev ∧ (g.mark r).sevNext = g.sevNext
    ∧ (g.mark r).forceDue = g.forceDue := ⟨rfl, rfl, rfl⟩
@[simp] theorem Faults.logRec_slate (g : Faults) (r : FaultRec) : (g.logRec r).sev = g.sev ∧ (g.logRec r).sevNext = g.sevNext
    ∧ (g.logRec r).forceDue = g.forceDue := by
  unfold Faults.logRec
  (repeat' split) <;> exact ⟨rfl, rfl, rfl⟩
@[simp] theorem Faults.latchRaise_slate (g : Faults) (r : Raise) (sev : Nat) (b : Beat) : (g.latchRaise r sev b).sev = g.sev
    ∧ (g.latchRaise r sev b).sevNext = g.sevNext ∧ (g.latchRaise r sev b).forceDue = g.forceDue := by
  unfold Faults.latchRaise
  split <;> exact ⟨rfl, rfl, rfl⟩
@[simp] theorem State.drawn_slate (s : State) : (State.drawn s).slate = s.slate := rfl
@[simp] theorem State.send_slate (s : State) (code : Nat) (port : Nat) (data : List Byte) : (State.send s code port data).slate = s.slate := rfl
@[simp] theorem State.await_slate (s : State) (code : Nat) (port : Nat) (data : List Byte) : (State.await s code port data).slate = s.slate := rfl
@[simp] theorem State.post_slate (s : State) (code : Nat) (port : Nat) (data : List Byte) : (State.post s code port data).slate = s.slate := by
  unfold State.post; split <;> rfl
@[simp] theorem State.completeNow_slate (s : State) (st : Stream) (opc : Nat) (event : List Byte) : (State.completeNow s st opc event).slate = s.slate := rfl
@[simp] theorem State.answerLater_slate (s : State) (st : Stream) (opc port : Nat) (event : List Byte) : (State.answerLater s st opc port event).slate = s.slate := by
  unfold State.answerLater; dsimp only; split <;> rfl
@[simp] theorem State.complete_slate (s : State) (st : Stream) (opc : Nat) (tag : Nat) (status : Nat) (tgt : Nat) (port : Nat) (result : List Byte) : (State.complete s st opc tag status tgt port result).slate = s.slate := by
  unfold State.complete; dsimp only; split
  · exact State.answerLater_slate ..
  · rfl
@[simp] theorem State.updPort_slate (s : State) (p : PortId) (f : Port → Port) : (State.updPort s p f).slate = s.slate := rfl
@[simp] theorem State.withdraw_slate (s : State) (p : PortId) : (State.withdraw s p).slate = s.slate := by
  have h := foldl_slate (fun (t : State) (d : Decision) => t.post 0xC3 p.val (closedPayload d.id d.point 3 0xFF s.board.beat))
    (fun _ _ => by simp) (s.policy.decisions.filter (fun d => d.port == p)) s
  simp only [State.slate, Prod.mk.injEq] at h
  simp only [State.withdraw, State.slate, h]
@[simp] theorem State.endSwapReq_slate (s : State) (p : PortId) (status : Nat) (result : Nat) : (State.endSwapReq s p status result).slate = s.slate := by
  simp only [State.endSwapReq]; (repeat' split) <;> simp
@[simp] theorem State.endSend_slate (s : State) (p : PortId) (status : Nat) (tx : Nat) (resp : Nat) (data : List Byte) : (State.endSend s p status tx resp data).slate = s.slate := by
  simp only [State.endSend]; (repeat' split) <;> simp
@[simp] theorem State.endSoft_slate (s : State) (p : PortId) (status : Nat) (tx : Nat) (acc : Nat) : (State.endSoft s p status tx acc).slate = s.slate := by
  simp only [State.endSoft]; (repeat' split) <;> simp
@[simp] theorem State.endVdm_slate (s : State) (p : PortId) (status : Nat) (result : Nat) (reply : List Byte) : (State.endVdm s p status result reply).slate = s.slate := by
  simp only [State.endVdm]; (repeat' split) <;> simp
@[simp] theorem State.endWork_slate (s : State) (p : PortId) (status : Nat) (swapRes : Nat) : (State.endWork s p status swapRes).slate = s.slate := by
  simp [State.endWork]
@[simp] theorem State.svcLeave_slate (s : State) (p : PortId) : (State.svcLeave s p).slate = s.slate := by
  simp only [State.svcLeave]; (repeat' split) <;> simp
@[simp] theorem State.dropPort_slate (s : State) (p : PortId) (status : Nat) (swapRes : Nat) (f : Port → Port) : (State.dropPort s p status swapRes f).slate = s.slate := by
  simp [State.dropPort]
@[simp] theorem State.quiescePort_slate (s : State) (kind : Safe) (p : PortId) : (State.quiescePort s kind p).slate = s.slate := by
  simp only [State.quiescePort]; (repeat' split) <;> simp
@[simp] theorem State.holdDevice_slate (s : State) : (State.holdDevice s).slate = s.slate := rfl
@[simp] theorem State.react_slate (s : State) (sev : Nat) (src : Nat) : (State.react s sev src).slate = s.slate := by
  unfold State.react
  split
  · exact foldl_slate _ (fun _ _ => by simp) _ _
  · split
    · rw [State.holdDevice_slate]; exact foldl_slate _ (fun _ _ => by simp) _ _
    · rfl
@[simp] theorem State.reactAgain_slate (s : State) (sev : Nat) (o : Option Nat) : (s.reactAgain sev o).slate = s.slate := by
  cases o <;> simp [State.reactAgain]
@[simp] theorem State.noteCause_slate (s : State) (r : Raise) : (State.noteCause s r).slate = s.slate := by
  simp only [State.noteCause]; (repeat' split) <;> simp
@[simp] theorem State.faultEvent_slate (s : State) (r : Raise) (f : FaultRec) (sev : Nat) : (State.faultEvent s r f sev).slate = s.slate := by
  simp only [State.faultEvent]; (repeat' split) <;> simp
@[simp] theorem State.raiseOne_slate (s : State) (named : Bool) (r : Raise) : (State.raiseOne s named r).slate = s.slate := by
  unfold State.raiseOne
  dsimp only
  split
  · rfl
  · split
    · simp
    · rw [State.react_slate, State.reactAgain_slate, State.faultEvent_slate, State.modFaults_slate]
      unfold State.noteCause
      split <;> simp
@[simp] theorem raiseList_slate : ∀ (rs : List Raise) (s : State) (o : Option Nat), (raiseList s o rs).slate = s.slate
  | [], _, _ => rfl
  | r :: rs, s, o => by rw [raiseList, raiseList_slate rs]; simp
@[simp] theorem State.raiseAll_slate (s : State) (rs : List Raise) : (State.raiseAll s rs).slate = s.slate := by
  simp [State.raiseAll]
@[simp] theorem State.raise_slate (s : State) (r : Raise) : (State.raise s r).slate = s.slate := by
  simp [State.raise]
@[simp] theorem State.tripAct_slate (s : State) (p : PortId) : (State.tripAct s p).slate = s.slate := by
  simp [State.tripAct]
@[simp] theorem State.quarantine_slate (s : State) (q : QueueId) : (State.quarantine s q).slate = s.slate := by
  simp [State.quarantine]
@[simp] theorem State.found_slate (s : State) (q : QueueId) (o : CellObs) : (State.found s q o).slate = s.slate := by
  cases o <;> simp [State.found]
@[simp] theorem State.errorRecovery_slate (s : State) (p : PortId) (swapRes : Nat) : (State.errorRecovery s p swapRes).slate = s.slate := by
  simp [State.errorRecovery]
@[simp] theorem State.guardAct_slate (s : State) (p : PortId) : (State.guardAct s p).slate = s.slate := by
  simp only [State.guardAct]; split <;> simp
@[simp] theorem State.loadFlight_slate (s : State) (p : PortId) : (State.loadFlight s p).slate = s.slate := by
  simp only [State.loadFlight]; (repeat' split) <;> simp
@[simp] theorem State.queueTx_slate (s : State) (p : PortId) (t : Tgt) (why : Purpose) (bytes : List Byte) : (State.queueTx s p t why bytes).slate = s.slate := by
  simp only [State.queueTx]; (repeat' split) <;> simp
@[simp] theorem State.retryHeld_slate (s : State) (p : PortId) : (State.retryHeld s p).slate = s.slate := by
  simp only [State.retryHeld]; (repeat' split) <;> simp
@[simp] theorem State.txEnd_slate (s : State) (p : PortId) (r : TxResult) : (State.txEnd s p r).slate = s.slate := by
  simp only [State.txEnd]; (repeat' split) <;> simp
@[simp] theorem State.killTx_slate (s : State) (p : PortId) (only : Tgt → Bool) (r : TxResult) : (State.killTx s p only r).slate = s.slate := by
  simp only [State.killTx]; (repeat' split) <;> simp
@[simp] theorem State.reply_slate (s : State) (p : PortId) (why : Purpose) (bytes : List Byte) : (State.reply s p why bytes).slate = s.slate := by
  simp [State.reply]
@[simp] theorem State.sendExt_slate (s : State) (p : PortId) (t : Tgt) (why : Purpose) (type : Nat) (data : List Byte) : (State.sendExt s p t why type data).slate = s.slate := by
  simp [State.sendExt]
@[simp] theorem State.sendCaps_slate (s : State) (p : PortId) : (State.sendCaps s p).slate = s.slate := by
  simp only [State.sendCaps]; (repeat' split) <;> simp
@[simp] theorem State.launch_slate (s : State) (p : PortId) : (State.launch s p).slate = s.slate := by
  simp only [State.launch]; (repeat' split) <;> simp
@[simp] theorem State.beginAms_slate (s : State) (p : PortId) (t : Tgt) (why : Purpose) (bytes : List Byte) : (State.beginAms s p t why bytes).slate = s.slate := by
  simp only [State.beginAms]; (repeat' split) <;> simp
@[simp] theorem State.endVdmOn_slate (s : State) (p : PortId) (only : Tgt → Bool) : (State.endVdmOn s p only).slate = s.slate := by
  simp only [State.endVdmOn]; (repeat' split) <;> simp
@[simp] theorem State.dropPlug_slate (s : State) (p : PortId) : (State.dropPlug s p).slate = s.slate := by
  simp only [State.dropPlug]; (repeat' split) <;> simp
@[simp] theorem State.kick_slate (s : State) (p : PortId) : (State.kick s p).slate = s.slate := by
  simp only [State.kick]; (repeat' split) <;> simp
@[simp] theorem State.partnerDone_slate (s : State) (p : PortId) : (State.partnerDone s p).slate = s.slate := by
  simp only [State.partnerDone]; (repeat' split) <;> simp
@[simp] theorem State.amsDone_slate (s : State) (p : PortId) : (State.amsDone s p).slate = s.slate := by
  simp [State.amsDone]
@[simp] theorem State.eprFail_slate (s : State) (p : PortId) (cause : Nat) : (State.eprFail s p cause).slate = s.slate := by
  simp [State.eprFail]
@[simp] theorem State.eprCheck_slate (s : State) (p : PortId) : (State.eprCheck s p).slate = s.slate := by
  simp only [State.eprCheck]; (repeat' split) <;> simp
@[simp] theorem State.eprGo_slate (s : State) (p : PortId) : (State.eprGo s p).slate = s.slate := by
  simp only [State.eprGo]; (repeat' split) <;> simp
@[simp] theorem State.closeDefault_slate (s : State) (p : PortId) (id point dflt : Nat) : (State.closeDefault s p id point dflt).slate = s.slate := by
  simp [State.closeDefault]
@[simp] theorem State.capsChanged_slate (s : State) : (State.capsChanged s).slate = s.slate := by
  unfold State.capsChanged State.mapPorts State.slate; rfl
@[simp] theorem State.eprOutcome_slate (s : State) (p : PortId) (oc : Nat) : (State.eprOutcome s p oc).slate = s.slate := by
  simp only [State.eprOutcome]; (repeat' split) <;> simp
@[simp] theorem State.swapDone_slate (s : State) (p : PortId) (own : Bool) : (State.swapDone s p own).slate = s.slate := by
  simp only [State.swapDone]; (repeat' split) <;> simp
@[simp] theorem State.beginSwap_slate (s : State) (p : PortId) (k : SwapKind) (own : Bool) : (State.beginSwap s p k own).slate = s.slate := by
  simp only [State.beginSwap]; (repeat' split) <;> simp
@[simp] theorem State.vconnLost_slate (s : State) (p : PortId) (oc : Bool) : (State.vconnLost s p oc).slate = s.slate := by
  simp [State.vconnLost]
@[simp] theorem State.requestOutcome_slate (s : State) (p : PortId) (oc : Nat) : (State.requestOutcome s p oc).slate = s.slate := by
  simp only [State.requestOutcome]; (repeat' split) <;> simp
@[simp] theorem State.swapOutcome_slate (s : State) (p : PortId) (k : SwapKind) (oc : Nat) : (State.swapOutcome s p k oc).slate = s.slate := by
  simp only [State.swapOutcome]; (repeat' split) <;> simp
@[simp] theorem State.selectOutcome_slate (s : State) (p : PortId) (cls : Fin 16) (oc : Nat) (rule : Option Rule) (value : Word) : (State.selectOutcome s p cls oc rule value).slate = s.slate := by
  simp only [State.selectOutcome]; (repeat' split) <;> simp
@[simp] theorem State.act_slate (s : State) (p : PortId) (cls : Fin 16) (point : Nat) (oc : Nat) (rule : Option Rule) (value : Word) : (State.act s p cls point oc rule value).slate = s.slate := by
  simp only [State.act]; (repeat' split) <;> simp
@[simp] theorem State.decisionDefault_slate (s : State) (id : Nat) : (State.decisionDefault s id).slate = s.slate := by
  simp only [State.decisionDefault]; split <;> simp
@[simp] theorem State.vdmAck_slate (s : State) (p : PortId) (w : Word) (vdos : List Word) : (State.vdmAck s p w vdos).slate = s.slate := by
  simp [State.vdmAck]
@[simp] theorem State.vdmNak_slate (s : State) (p : PortId) (w : Word) : (State.vdmNak s p w).slate = s.slate := by
  simp [State.vdmNak]
@[simp] theorem State.vdmAnswer_slate (s : State) (p : PortId) (w : Word) : (State.vdmAnswer s p w).slate = s.slate := by
  simp only [State.vdmAnswer]; (repeat' split) <;> simp
@[simp] theorem State.safeAct_slate (s : State) (e : PortId × Safe) : (State.safeAct s e).slate = s.slate := by
  simp only [State.safeAct]; (repeat' split) <;> simp
@[simp] theorem State.takeAnswers_slate (s : State) : (State.takeAnswers s).slate = s.slate := by
  simp only [State.takeAnswers]; rw [foldl_slate _ (fun t a => by simp)]; simp
@[simp] theorem State.windowEnd_slate (s : State) : (State.windowEnd s).slate = s.slate := by
  simp only [State.windowEnd]; (repeat' split) <;> simp
@[simp] theorem State.portsReset_slate (s : State) : (State.portsReset s).slate = s.slate := by
  simp only [State.portsReset]
  split
  · rfl
  · rw [foldl_slate _ (fun t p => by split <;> simp)]; simp
@[simp] theorem State.deliverEvent_slate (s : State) (q : QueueId) (k : Packet) : (State.deliverEvent q s k).slate = s.slate := by
  simp only [State.deliverEvent]; split <;> simp
@[simp] theorem State.deliverEvents_slate (s : State) : (State.deliverEvents s).slate = s.slate := by
  simp only [State.deliverEvents]
  split
  · rfl
  · exact foldl_slate _ (fun t c => by split; rfl; rw [foldl_slate _ (fun t k => by simp)]; simp) _ _
@[simp] theorem State.deliverAnswer_slate (s : State) (q : QueueId) (k : Packet) : (State.deliverAnswer q s k).slate = s.slate := by
  simp only [State.deliverAnswer]; (repeat' split) <;> simp
@[simp] theorem State.deliverAnswers_slate (s : State) : (State.deliverAnswers s).slate = s.slate := by
  simp only [State.deliverAnswers]
  split
  · rfl
  · exact foldl_slate _ (fun t c => by split; rfl; rw [foldl_slate _ (fun t k => by simp)]; simp) _ _
@[simp] theorem State.refuseAsk_slate (s : State) (payload : List Byte) : (State.refuseAsk s payload).slate = s.slate := by
  simp [State.refuseAsk]
@[simp] theorem State.deliverOne_slate (s : State) (q : QueueId) (k : Packet) : (State.deliverOne q s k).slate = s.slate := by
  simp only [State.deliverOne]; (repeat' split) <;> simp
@[simp] theorem State.deliverDecisions_slate (s : State) : (State.deliverDecisions s).slate = s.slate := by
  simp only [State.deliverDecisions]
  split
  · rfl
  · exact foldl_slate _ (fun t c => by split; rfl; rw [foldl_slate _ (fun t k => by simp)]; simp) _ _
@[simp] theorem State.vconnBeat_slate (s : State) (p : PortId) : (State.vconnBeat s p).slate = s.slate := by
  simp only [State.vconnBeat]; (repeat' split) <;> simp
@[simp] theorem State.cableReset_slate (s : State) (p : PortId) : (State.cableReset s p).slate = s.slate := by
  simp only [State.cableReset]; (repeat' split) <;> simp
@[simp] theorem State.cableGap_slate (s : State) (p : PortId) : (State.cableGap s p).slate = s.slate := by
  simp only [State.cableGap]; (repeat' split) <;> simp
@[simp] theorem State.portsBeat_slate (s : State) (b : Beat) : (State.portsBeat s b).slate = s.slate := by
  simp only [State.portsBeat]; exact foldl_slate _ (fun t p => by (repeat' split) <;> simp) _ _
theorem State.slotRaises_slate (s : State) (hot : List Raise) : (State.slotRaises hot s).slate
    = (s.policy.writes, s.policy.classes, s.faults.sev, s.faults.sevNext, [], s.store, s.cores, s.pending, s.board.beat, s.board.passIdx,
      s.board.oddPass) := by
  unfold State.slotRaises
  dsimp only
  generalize hot ++ s.faults.forceDue ++ _ ++ _ = rs
  split
  · rfl
  · exact State.raiseAll_slate ..
theorem foldl_fst_slate {α β} (f : State × β → α → State × β) (h : ∀ t a, (f t a).1.slate = t.1.slate) :
    ∀ (l : List α) (s : State × β), (l.foldl f s).1.slate = s.1.slate
  | [], _ => rfl
  | a :: l, s => by rw [List.foldl_cons, foldl_fst_slate f h l, h]
@[simp] theorem State.hotTrips_slate (s : State) : (State.hotTrips s).1.slate = s.slate := by
  simp only [State.hotTrips]
  exact foldl_fst_slate _ (fun t p => by (repeat' split) <;> simp) _ _
@[simp] theorem State.retryAll_slate (s : State) : (State.retryAll s).slate = s.slate := by
  simp only [State.retryAll]; exact foldl_slate _ (fun t p => by split <;> simp) _ _
@[simp] theorem State.originate_slate (s : State) (ys : List YPort) (dst : BitVec 12) (type : Nat) (payload : List Byte) :
    (s.originate ys dst type payload).slate = s.slate := by
  unfold State.originate
  split <;> rfl
@[simp] theorem State.sendFragments_slate (s : State) (k : Packet) : (State.sendFragments s k).slate = s.slate := by
  simp only [State.sendFragments]
  split
  · split
    · simp
    · exact foldl_slate _ (fun t p => by simp [State.originateAll]) _ _
  · rfl
@[simp] theorem State.drainFwd_slate (s : State) : (State.drainFwd s).slate = s.slate := by
  simp only [State.drainFwd]
  split
  · rfl
  · rw [foldl_slate _ (fun t k => by simp)]; simp

/-! ### Slot 0 -/

/-- Table writes come into force, with none left to wait (R190, R196). -/
theorem State.takeWrites_slate (s : State) : s.takeWrites.slate
    = ([], if s.policy.writes.isEmpty then s.policy.classes else s.policy.written, s.faults.sev, s.faults.sevNext, s.faults.forceDue, s.store,
      s.cores, s.pending, s.board.beat, s.board.passIdx, s.board.oddPass) := by
  unfold State.takeWrites
  split
  · next h =>
    unfold State.slate
    rw [List.isEmpty_iff.mp h]
  · dsimp only
    have hport : ∀ (t : State) (b : Bool) (f : PortId → Port → Port), (if b then t.mapPorts f else t).slate = t.slate := by
      intro t b f
      split
      · exact State.mapPorts_slate ..
      · rfl
    have hwant : ∀ (t : State) (b : Bool), (if b then t.wantAllocation else t).slate = t.slate := by
      intro t b
      split
      · exact State.modBudget_slate ..
      · rfl
    rw [hwant, State.capsChanged_slate]
    exact hport _ _ _

/-- What slot 0 writes of the slate. -/
theorem State.hubBeat_slate (s : State) : s.hubBeat.slate
    = ([], if s.policy.writes.isEmpty then s.policy.classes else s.policy.written, s.faults.sevNext.getD s.faults.sev, none, [], s.store, s.cores,
      s.pending, s.board.beat, s.board.passIdx, s.board.oddPass) := by
  unfold State.hubBeat
  dsimp only
  rw [State.windowEnd_slate, State.slotRaises_slate]
  generalize hu : List.foldl State.safeAct _ _ = u
  have hslate : (u.deliverEvents.deliverDecisions.deliverAnswers.takeAnswers.portsReset.retryAll.drainFwd).slate = u.slate := by
    simp
  generalize u.deliverEvents.deliverDecisions.deliverAnswers.takeAnswers.portsReset.retryAll.drainFwd = v at hslate ⊢
  have h2 : u.slate = ([], if s.policy.writes.isEmpty then s.policy.classes else s.policy.written, s.faults.sevNext.getD s.faults.sev, none,
      s.faults.forceDue, s.store, s.cores, s.pending, s.board.beat, s.board.passIdx, s.board.oddPass) := by
    have h3 : ∀ t : State, ({ t with faults := { t.faults with safeNext := [] } } : State).slate = t.slate := fun _ => rfl
    rw [← hu, foldl_slate _ (fun t e => by simp), h3, State.hotTrips_slate, State.portsBeat_slate]
    have hw := s.takeWrites_slate
    generalize s.takeWrites = w at hw ⊢
    simp only [State.slate, Prod.mk.injEq] at hw ⊢
    obtain ⟨h1, h2, -, -, -, h6, h7, h8, h9, h10, h11⟩ := hw
    exact ⟨h1, h2, trivial, trivial, trivial, h6, h7, h8, h9, h10, h11⟩
  rw [h2] at hslate
  simp only [State.slate, Prod.mk.injEq] at hslate
  obtain ⟨h1, h2, h3, h4, -, h6, h7, h8, h9, h10, h11⟩ := hslate
  rw [h1, h2, h3, h4, h6, h7, h8, h9, h10, h11]

theorem beat_runs (hon : s.board.svcOn = true) (hr : s.board.resetLow = false) :
    gives .beat s fun t => t.board.beat = s.board.beat + 1 ∧ t.board.passIdx = (s.board.passIdx + 1) % 9
      ∧ t.board.oddPass = (if s.board.passIdx = 8 then !s.board.oddPass else s.board.oddPass)
      ∧ t.policy.writes = [] ∧ t.faults.forceDue = [] ∧ t.faults.sevNext = none ∧ t.pending = s.pending
      ∧ t.policy.classes = (if s.policy.writes.isEmpty then s.policy.classes else s.policy.written)
      ∧ t.faults.sev = s.faults.sevNext.getD s.faults.sev
      ∧ t.store = s.store
      ∧ (∀ k : CoreId, (t.core k).data = (s.core k).data ∧ (t.core k).bundleMem = (s.core k).bundleMem) := by
  let u := (s.modBoard Board.advance).modFeed fun f => { f with trunkAge := min 100000 (f.trunkAge + 1) }
  have hruns : u.hubRuns = true := by
    show (s.board.svcOn && !s.board.resetLow) = true
    rw [hon, hr]
    rfl
  refine gives_of_exec (t := u.hubBeat) (congrArg Host.Outcome.next ((if_pos hon).trans (if_pos hruns))) ?_
  have h := u.hubBeat_slate
  generalize u.hubBeat = t at h ⊢
  simp only [State.slate, Prod.mk.injEq] at h
  obtain ⟨hw, hc, hs, hn, hf, hst, hcores, hp, hb, hi, ho⟩ := h
  refine ⟨hb, hi, ho, hw, hf, hn, hp, hc, hs, hst, fun k => ?_⟩
  have hk : t.core k = s.core k := congrArg (fun v : Vector CoreSt 9 => v[k]) hcores
  rw [hk]
  exact ⟨rfl, rfl⟩

theorem beat_held (hon : s.board.svcOn = true) (hr : s.board.resetLow = true) :
    exec .beat s = .next ((s.modBoard Board.advance).modFeed fun f => { f with trunkAge := min 100000 (f.trunkAge + 1) }) :=
  congrArg Host.Outcome.next ((if_pos hon).trans (if_neg (by
    show ¬((s.board.svcOn && !s.board.resetLow) = true)
    rw [hr]
    simp)))

/-- Settles O15: slot 0 with the hub die running, held in reset, and without power. -/
theorem slotZero : Obligations.SlotZero := by
  unfold Obligations.SlotZero
  exact ⟨fun s hon hr => beat_runs hon hr, fun s hon hr => beat_held hon hr,
    fun s hon => congrArg Host.Outcome.next (if_neg (by simp [hon]))⟩

end Sys2Proof.Machine
end

section
/-! The main domain joins and is lost (R26, R57, R61, R62, R83, R97, R422). -/

namespace Sys2Proof.Machine

variable {s : State} {p : PortId}

/-! ### What the loss of the pool's cells leaves -/

theorem State.discardQ_rest (s : State) (q : QueueId) (n : Nat) : (s.discardQ q n).rest = s.rest := by
  unfold State.discardQ
  dsimp only
  split
  · exact (foldl_rest (fun (t : State) (k : Packet) => t.decisionDefault (rdNat k.data 0 2)) (fun _ _ => State.decisionDefault_rest ..) _ _).trans rfl
  · rfl
theorem State.loseHigh_rest (acc : State × Nat × Nat) (q : QueueId) : (State.loseHigh acc q).1.rest = acc.1.rest := by
  unfold State.loseHigh
  dsimp only
  split
  · exact (State.discardQ_rest ..).trans rfl
  · rfl
theorem State.loseHigh_body (acc : State × Nat × Nat) (q : QueueId) (p : PortId) :
    ((State.loseHigh acc q).1.port p).body = (acc.1.port p).body := by
  unfold State.loseHigh
  dsimp only
  split
  · exact State.discardQ_body ..
  · rfl
theorem loseAll_rest (l : List QueueId) (acc : State × Nat × Nat) : (l.foldl State.loseHigh acc).1.rest = acc.1.rest := by
  induction l generalizing acc with
  | nil => rfl
  | cons q l ih => exact (ih _).trans (State.loseHigh_rest acc q)
theorem loseAll_body (l : List QueueId) (acc : State × Nat × Nat) (p : PortId) :
    ((l.foldl State.loseHigh acc).1.port p).body = (acc.1.port p).body := by
  induction l generalizing acc with
  | nil => rfl
  | cons q l ih => exact (ih _).trans (State.loseHigh_body acc q p)

theorem State.poolLoss_rest (s : State) : s.poolLoss.rest = s.rest := by
  unfold State.poolLoss
  split
  · rfl
  · dsimp only
    rw [State.modPool_rest, loseAll_rest]
theorem State.poolLoss_body (s : State) (p : PortId) : (s.poolLoss.port p).body = (s.port p).body := by
  unfold State.poolLoss
  split
  · rfl
  · dsimp only
    rw [State.modPool_port, loseAll_body]

theorem Port.quietedFrom_to_body {x y y' : Port} (hb : y'.body = y.body) (h : x.quietedFrom y) : x.quietedFrom y' := by
  obtain ⟨hst, hp, hg, hm, hcfg⟩ := h
  exact ⟨(Port.st_of_body hb).trans hst, (Port.pReady_of_body hb).trans hp, (congrArg Guard.gateOn (Port.guard_of_body hb)).trans hg,
    (congrArg Stage.mode (Port.stage_of_body hb)).trans hm, (Port.cfg_of_body hb).trans hcfg⟩

@[simp] theorem Board.still_svcOn (b : Board) : b.still.svcOn = b.svcOn := by
  cases b
  rfl
@[simp] theorem Board.still_mainOn (b : Board) : b.still.mainOn = b.mainOn := by
  cases b
  rfl
@[simp] theorem Board.still_resetLow (b : Board) : b.still.resetLow = b.resetLow := by
  cases b
  rfl
@[simp] theorem Board.still_beat (b : Board) : b.still.beat = b.beat := by
  cases b
  rfl

/-! ### The service ports when the main rails go -/

/-- What a service port loses with the main rails: its stage and its pass switch, its kept harness results. -/
def Port.mainLost (b : Beat) (x : Port) : Port :=
  let steps12 := x.harn.step == some .s1 || x.harn.step == some .s2
  let y := ((if steps12 then x else x.endCalRun b).stageStop).gateOff b
  { y with harn := y.harn.forget }

theorem Port.mainLost_off (b : Beat) (x : Port) : (x.mainLost b).guard.gateOn = false ∧ (x.mainLost b).stage.mode = .idle :=
  ⟨rfl, rfl⟩

/-- Gate off and stage idle. -/
structure Port.off (x : Port) : Prop where
  gateOn : x.guard.gateOn = false
  mode : x.stage.mode = .idle

theorem Port.off_of_body {x y : Port} (h : x.body = y.body) (hy : y.off) : x.off :=
  ⟨(congrArg Guard.gateOn (Port.guard_of_body h)).trans hy.gateOn, (congrArg Stage.mode (Port.stage_of_body h)).trans hy.mode⟩

theorem State.updPort_mainLost (s : State) (b : Beat) (p q : PortId) (h : q = p ∨ (s.port q).off) :
    ((s.updPort p (Port.mainLost b)).port q).off := by
  by_cases e : q = p
  · subst e
    exact ⟨(congrArg Guard.gateOn (State.updPort_port_guard ..)).trans (Port.mainLost_off b _).1,
      (congrArg Stage.mode (State.updPort_port_stage ..)).trans (Port.mainLost_off b _).2⟩
  · rw [State.port_updPort_ne s e]
    exact h.resolve_left e

/-- The ports of a list, each as the main rails leave a service port. -/
def State.mainLostAll (s : State) (b : Beat) (ps : List PortId) : State := ps.foldl (fun (t : State) p => t.updPort p (Port.mainLost b)) s

theorem State.mainLostAll_rest (s : State) (b : Beat) (ps : List PortId) : (s.mainLostAll b ps).rest = s.rest :=
  foldl_rest _ (fun _ _ => State.updPort_rest ..) _ _
theorem State.mainLostAll_off {b : Beat} {q : PortId} (ps : List PortId) {s : State} (h : q ∈ ps ∨ (s.port q).off) :
    ((s.mainLostAll b ps).port q).off := by
  induction ps generalizing s with
  | nil => exact h.resolve_left List.not_mem_nil
  | cons p ps ih =>
    refine ih (s := s.updPort p (Port.mainLost b)) ?_
    by_cases hin : q ∈ ps
    · exact .inl hin
    · refine .inr (State.updPort_mainLost s b p q ?_)
      rcases h with h | h
      · exact .inl ((List.mem_cons.mp h).resolve_right hin)
      · exact .inr h
theorem State.mainLostAll_port {b : Beat} {q : PortId} (ps : List PortId) {s : State} (h : q ∉ ps) : (s.mainLostAll b ps).port q = s.port q := by
  induction ps generalizing s with
  | nil => rfl
  | cons p ps ih =>
    rw [List.mem_cons, not_or] at h
    exact (ih (s := s.updPort p (Port.mainLost b)) h.2).trans (State.port_updPort_ne s h.1 _)

/-! ### The loss of the main domain -/

/-- What the ports, the pool and the service ports' stages have come to when the main rails go. -/
def State.mainQuiet (s : State) : State :=
  ((s.quietPorts (allPorts.filter fun p => !isService p)).mainLostAll s.now (allPorts.filter isService)).poolLoss

/-- A port as the main rails leave it: P0–P3 run on, the others keep what R97, R98, R114 and R344 name. -/
def Port.withoutMain (svc : Bool) (b : Beat) (x : Port) : Port :=
  if svc then x
  else { Port.reset with
    cfg := x.cfg, phy := { Phy.reset with safe := x.phy.safe, applied := x.phy.safe, shadow := x.phy.safe }, grant := x.grant
    tc := x.tc.keep b, harn := x.harn.lost x.tc.st
    guard := { Guard.reset with gst := if x.tc.st == Tc.lockout then .locked else .off, lastCause := x.keptCause } }

theorem Port.withoutMain_service (b : Beat) (x : Port) : x.withoutMain true b = x := if_pos rfl
theorem Port.withoutMain_st (b : Beat) (x : Port) : (x.withoutMain false b).tc.st = x.tc.st.kept := by
  unfold Port.withoutMain
  rw [if_neg (by decide)]
  rfl
theorem Port.withoutMain_pReady (b : Beat) (x : Port) : (x.withoutMain false b).tc.pReady = false := by
  unfold Port.withoutMain
  rw [if_neg (by decide)]
  rfl
theorem Port.withoutMain_cfg (b : Beat) (x : Port) : (x.withoutMain false b).cfg = x.cfg := by
  unfold Port.withoutMain
  rw [if_neg (by decide)]

/-- The dies without the main rails. -/
def State.withoutMain (v : State) (b : Beat) : State :=
  { v with
    board := { v.board with mainOn := false, mainLost := true }
    ports := Vector.ofFn fun p => Port.withoutMain (isService p) b v.ports[p]
    clusters := Vector.ofFn fun c =>
      if c.val = 0 then { v.clusters[c].abandonTrim with
        adc := v.clusters[c].adc.set 1 .reset, trimPart := .service
        trimming := v.clusters[c].trimming && v.clusters[c].trimPart != TrimPart.join } else { Cluster.reset with cfg := v.clusters[c].cfg }
    cores := Vector.ofFn fun k => if k.val = 0 ∨ k.val = 8 then v.cores[k] else v.cores[k].lose
    yarrow := { Yarrow.reset with node := v.yarrow.node, group := v.yarrow.group, groupB := v.yarrow.groupB, link := v.yarrow.link
                                  crcErr := v.yarrow.crcErr, unknownType := v.yarrow.unknownType, seqDrop := v.yarrow.seqDrop
                                  transitAbort := v.yarrow.transitAbort, heldN := v.yarrow.heldN }
    budget := Budget.want b { v.budget with grantG := none, grantNext := none, decaying := false } }

/-- The dies without the main rails, with their ready bits. -/
def State.mainGone (v : State) (b : Beat) : State := ((v.withoutMain b).clearReady 0x007FE7F0#32).budgetReady

theorem execMainLoss_eq (hm : s.board.mainOn = true) (hon : s.board.svcOn = true) (hv : s.board.vsvcGood = true) :
    exec .mainLoss s = .next (if (s.mainQuiet.mainGone s.now).hubRuns then (s.mainQuiet.mainGone s.now).raise (devRaise 18 0 0)
      else s.mainQuiet.mainGone s.now) := by
  show execMainLoss s = _
  unfold execMainLoss
  rw [if_neg (by rw [hm, hon, hv]; decide), if_pos (by rw [hm, hon]; rfl)]
  unfold State.mainGone State.withoutMain State.mainQuiet State.mainLostAll Port.mainLost Port.withoutMain
  dsimp only

theorem mem_allPorts (p : PortId) : p ∈ allPorts := List.mem_finRange p

theorem State.mainQuiet_rest (s : State) : s.mainQuiet.rest = s.rest :=
  (State.poolLoss_rest _).trans ((State.mainLostAll_rest ..).trans (State.quietPorts_rest ..))

theorem State.mainQuiet_quiet (hp : isService p = false) : (s.port p).quietedFrom (s.mainQuiet.port p) := by
  refine Port.quietedFrom_to_body (State.poolLoss_body _ p) ?_
  rw [State.mainLostAll_port _ (fun h => by simp [hp] at h)]
  exact State.quietPorts_quietedFrom _ s p (List.mem_filter.mpr ⟨mem_allPorts p, by rw [hp]; rfl⟩)

theorem State.mainQuiet_off (hp : isService p = true) : (s.mainQuiet.port p).off :=
  Port.off_of_body (State.poolLoss_body _ p) (State.mainLostAll_off _ (.inl (List.mem_filter.mpr ⟨mem_allPorts p, hp⟩)))

theorem State.withoutMain_port (v : State) (b : Beat) (p : PortId) : (v.withoutMain b).port p = (v.port p).withoutMain (isService p) b := by
  unfold State.withoutMain State.port
  simp

/-- CAL_FAILED and LOCKOUT alone stay where a port that went quiet loses its die. -/
theorem Tc.kept_of_quiet (st : Tc) : (if st.down then st else Tc.disabled).kept = (if st = .calFailed ∨ st = .lockout then st else .disabled) := by
  cases st <;> decide

theorem State.budgetReady_port (s : State) (p : PortId) : s.budgetReady.port p = s.port p := by
  unfold State.budgetReady
  split <;> rfl
theorem State.budgetReady_board (s : State) : s.budgetReady.board = s.board := by
  unfold State.budgetReady
  split <;> rfl
theorem State.budgetReady_core (s : State) (k : CoreId) : s.budgetReady.core k = s.core k := by
  unfold State.budgetReady
  split <;> rfl
theorem State.budgetReady_store (s : State) : s.budgetReady.store = s.store := by
  unfold State.budgetReady
  split <;> rfl
theorem State.budgetReady_feed (s : State) : s.budgetReady.feed = s.feed := by
  unfold State.budgetReady
  split <;> rfl

/-- Bits that are clear and are not the budget's stay clear. -/
theorem State.budgetReady_clear {m : Word} (hm : 0x00800000#32 &&& m = 0) (h : s.dev.ready0 &&& m = 0) : s.budgetReady.dev.ready0 &&& m = 0 := by
  unfold State.budgetReady
  split
  · rw [State.setReady_ready0, BitVec.and_comm, BitVec.and_or_distrib_left, BitVec.and_comm m, BitVec.and_comm m, h, hm]
    rfl
  · rw [State.clearReady_ready0, BitVec.and_assoc, BitVec.and_comm (~~~_), ← BitVec.and_assoc, h]
    exact BitVec.zero_and

/-- The board once the main rails have gone. -/
def Board.lost (b : Board) : Board := { b with mainOn := false, mainLost := true }
theorem Board.lost_mainOn (b : Board) : b.lost.mainOn = false := by
  cases b
  rfl
theorem Board.lost_svcOn (b : Board) : b.lost.svcOn = b.svcOn := by
  cases b
  rfl
theorem Board.lost_resetLow (b : Board) : b.lost.resetLow = b.resetLow := by
  cases b
  rfl
theorem Board.lost_beat (b : Board) : b.lost.beat = b.beat := by
  cases b
  rfl

theorem State.mainGone_board (v : State) (b : Beat) : (v.mainGone b).board = v.board.lost := by
  unfold State.mainGone
  rw [State.budgetReady_board]
  rfl
theorem State.mainGone_port (v : State) (b : Beat) (p : PortId) : (v.mainGone b).port p = (v.port p).withoutMain (isService p) b := by
  unfold State.mainGone
  rw [State.budgetReady_port]
  exact State.withoutMain_port ..
theorem State.mainGone_core (v : State) (b : Beat) {k : CoreId} (hk : k.val = 0 ∨ k.val = 8) : (v.mainGone b).core k = v.core k := by
  unfold State.mainGone
  rw [State.budgetReady_core]
  show (Vector.ofFn fun k : CoreId => if k.val = 0 ∨ k.val = 8 then v.cores[k] else v.cores[k].lose)[k] = v.cores[k]
  rw [Fin.getElem_fin, Vector.getElem_ofFn]
  exact if_pos hk
theorem State.mainGone_store (v : State) (b : Beat) : (v.mainGone b).store = v.store := by
  unfold State.mainGone
  rw [State.budgetReady_store]
  rfl
theorem State.mainGone_feed (v : State) (b : Beat) : (v.mainGone b).feed = v.feed := by
  unfold State.mainGone
  rw [State.budgetReady_feed]
  rfl
theorem State.mainGone_ready (v : State) (b : Beat) : (v.mainGone b).dev.ready0 &&& 0x007FE7F0#32 = 0 := by
  refine State.budgetReady_clear (by decide) ?_
  rw [State.clearReady_ready0, BitVec.and_assoc]
  have h : ~~~(0x007FE7F0#32) &&& 0x007FE7F0#32 = 0#32 := by decide
  rw [h]
  exact BitVec.and_zero

theorem State.hubRuns_of {t : State} (h1 : t.board.svcOn = true) (h2 : t.board.resetLow = false) : t.hubRuns = true := by
  unfold State.hubRuns
  rw [h1, h2]
  rfl

theorem mainLoss_keeps (hm : s.board.mainOn = true) (hon : s.board.svcOn = true) (hr : s.board.resetLow = false) (hv : s.board.vsvcGood = true) :
    gives .mainLoss s fun t => t.board.mainOn = false ∧ t.board.svcOn = true ∧ t.board.beat = s.board.beat
      ∧ t.dev.ready0 &&& 0x007FE7F0#32 = 0 ∧ t.raisedAt 18 = true
      ∧ t.core 0 = s.core 0 ∧ t.core 8 = s.core 8 ∧ t.store = s.store
      ∧ t.feed = s.feed ∧ (∀ p : PortId, isService p = false → (t.port p).tc.st = (if (s.port p).tc.st = .calFailed ∨ (s.port p).tc.st = .lockout
        then (s.port p).tc.st else .disabled) ∧ (t.port p).tc.pReady = false ∧ (t.port p).cfg = (s.port p).cfg)
      ∧ (∀ p : PortId, isService p = true → (t.port p).guard.gateOn = false ∧ (t.port p).stage.mode = .idle) := by
  have hrest := s.mainQuiet_rest
  have hquiet := fun (p : PortId) (hp : isService p = false) => State.mainQuiet_quiet (s := s) hp
  have hoff := fun (p : PortId) (hp : isService p = true) => State.mainQuiet_off (s := s) hp
  have he := execMainLoss_eq hm hon hv
  generalize s.mainQuiet = v at hrest hquiet hoff he
  simp only [State.rest, Prod.mk.injEq] at hrest
  obtain ⟨hcores, -, hfeed, -, hstore, -, hboard, -, -⟩ := hrest
  have hyb := v.mainGone_board s.now
  have hyp := v.mainGone_port s.now
  have hy0 := v.mainGone_core s.now (k := 0) (.inl rfl)
  have hy8 := v.mainGone_core s.now (k := 8) (.inr rfl)
  have hys := v.mainGone_store s.now
  have hyf := v.mainGone_feed s.now
  have hyr := v.mainGone_ready s.now
  obtain ⟨y, hy⟩ : ∃ y, v.mainGone s.now = y := ⟨_, rfl⟩
  rw [hy] at hyb hy0 hy8 hys hyf hyr he
  simp only [hy] at hyp
  have hsvc : v.board.svcOn = true := by
    have h := congrArg Board.svcOn hboard
    rwa [Board.still_svcOn, Board.still_svcOn, hon] at h
  have hvbeat : v.board.beat = s.board.beat := by
    have h := congrArg Board.beat hboard
    rwa [Board.still_beat, Board.still_beat] at h
  have hlow : v.board.resetLow = false := by
    have h := congrArg Board.resetLow hboard
    rwa [Board.still_resetLow, Board.still_resetLow, hr] at h
  have hysvc : y.board.svcOn = true := by rw [hyb, Board.lost_svcOn, hsvc]
  have hylow : y.board.resetLow = false := by rw [hyb, Board.lost_resetLow, hlow]
  rw [if_pos (State.hubRuns_of hysvc hylow)] at he
  have hrr := State.raise_rest y (devRaise 18 0 0)
  have hcore : ∀ k, (y.raise (devRaise 18 0 0)).core k = y.core k := fun k =>
    congrArg (fun v : Vector CoreSt 9 => v[k]) (congrArg (fun r => r.1) hrr)
  have hstill : (y.raise (devRaise 18 0 0)).board.still = y.board.still := congrArg (fun r => r.2.2.2.2.2.2.1) hrr
  have hvcore : ∀ k, v.core k = s.core k := fun k => congrArg (fun v : Vector CoreSt 9 => v[k]) hcores
  have hraised : (y.raise (devRaise 18 0 0)).raisedAt 18 = true := State.raise_raised y (devRaise 18 0 0) (by decide)
  refine gives_of_exec he ⟨?_, ?_, ?_, ?_, hraised, ?_, ?_, ?_, ?_, fun p hp => ?_, fun p hp => ?_⟩
  · rw [← Board.still_mainOn, hstill, Board.still_mainOn, hyb, Board.lost_mainOn]
  · rw [← Board.still_svcOn, hstill, Board.still_svcOn, hysvc]
  · rw [← Board.still_beat, hstill, Board.still_beat, hyb, Board.lost_beat, hvbeat]
  · rw [State.raise_ready0]
    exact hyr
  · rw [hcore, hy0, hvcore]
  · rw [hcore, hy8, hvcore]
  · exact (congrArg (fun r => r.2.2.2.2.1) hrr).trans (hys.trans hstore)
  · exact (congrArg (fun r => r.2.2.1) hrr).trans (hyf.trans hfeed)
  · obtain ⟨hst, -, -, -, hcfg⟩ := hquiet p hp
    have hport := hyp p
    rw [hp] at hport
    refine ⟨?_, portKept_pReady.raise _ _ _ ?_, ?_⟩
    · rw [State.raise_st, hport, Port.withoutMain_st, hst, Tc.kept_of_quiet]
    · rw [hport, Port.withoutMain_pReady]
    · rw [State.raise_cfg, hport, Port.withoutMain_cfg, hcfg]
  · obtain ⟨hgate, hmode⟩ := hoff p hp
    have hport := hyp p
    rw [hp] at hport
    refine ⟨portKept_gateOn.raise _ _ _ ?_, portKept_idle.raise _ _ _ ?_⟩
    · rw [hport, Port.withoutMain_service, hgate]
    · rw [hport, Port.withoutMain_service, hmode]

/-! ### The main domain joins -/

theorem mainRelease_alone (hm : s.board.mainOn = false) (hon : s.board.svcOn = false) :
    exec .mainDomainRelease s = .next { s with board := { s.board with mainOn := true, mainLost := false } } :=
  congrArg Host.Outcome.next ((if_neg (by rw [hm]; decide)).trans (if_pos (by
    show (!s.board.svcOn) = true
    rw [hon]
    rfl)))

/-- The dies with the main rails, before anything of theirs comes up. -/
def State.withMain (s : State) : State :=
  let t := s.modBoard fun b => { b with mainOn := true, mainLost := false }
  { t with
    board := { t.board with afeLink := Vector.replicate 4 true }
    pool := t.pool.joinMain
    clusters := Vector.ofFn fun c => if t.senDriven c then { t.clusters[c] with senLow := true, senBeat := s.now } else t.clusters[c]
    ports := t.ports.map fun x => { x with guard := { x.guard with dT1 := 0, dT2 := 0 } } }

/-- What comes up with the main domain while S8 runs (R83). -/
def State.mainUp (u : State) : State :=
  let v := u.setReady 0x000007F0#32
  let w := { v with cores := Vector.ofFn fun k => if k.val = 0 ∨ k.val = 8 then v.cores[k] else { v.cores[k] with flagFirst := true } }
  let c0 := if w.clusterReady 0 then w.joinTrim true else bringCluster true w 0
  (((List.finRange 8).drop 1).foldl (bringCluster true) c0).feedBits.yarrowBoot.wantAllocation

theorem execMainDomainRelease_eq (hm : s.board.mainOn = false) (hon : s.board.svcOn = true) :
    exec .mainDomainRelease s = .next (if !s.coreReady 8 then s.withMain else s.withMain.mainUp) := by
  show execMainDomainRelease s = _
  unfold execMainDomainRelease
  rw [if_neg (by rw [hm]; decide)]
  dsimp only
  rw [if_neg (by
    show ¬((!s.board.svcOn) = true)
    rw [hon]
    decide)]
  unfold State.withMain State.mainUp
  dsimp only

theorem mainRelease_waits (hm : s.board.mainOn = false) (hon : s.board.svcOn = true) (h8 : s.coreReady 8 = false) (hc : s.pool.capacity ≠ 0) :
    gives .mainDomainRelease s fun t => t.board.mainOn = true ∧ t.board.mainLost = false ∧ t.board.beat = s.board.beat
      ∧ t.board.bootPending = s.board.bootPending ∧ t.pool.capacity = 15856 ∧ t.pool.pdReserve = 512
      ∧ t.cores = s.cores ∧ t.store = s.store ∧ t.dev = s.dev := by
  have he := execMainDomainRelease_eq hm hon
  rw [h8] at he
  have hpool : s.withMain.pool = { s.pool with capacity := 15856, pdReserve := 512 } := if_neg hc
  refine gives_of_exec he ⟨rfl, rfl, rfl, rfl, ?_, ?_, rfl, rfl, rfl⟩
  · exact congrArg Pool.capacity hpool
  · exact congrArg Pool.pdReserve hpool

theorem State.feedBits_cores (s : State) : s.feedBits.cores = s.cores := by
  unfold State.feedBits
  dsimp only
  (repeat' split) <;> rfl
theorem State.yarrowReady_cores (s : State) : s.yarrowReady.cores = s.cores := by
  unfold State.yarrowReady
  split <;> rfl
theorem State.originate_cores (s : State) (ys : List YPort) (dst : BitVec 12) (type : Nat) (payload : List Byte) :
    (s.originate ys dst type payload).cores = s.cores := by
  unfold State.originate
  split <;> rfl
theorem State.ringCheck_cores (s : State) (was : Bool) : (s.ringCheck was).cores = s.cores := by
  unfold State.ringCheck
  split
  · exact congrArg (fun r => r.1) (State.raise_rest ..)
  · rfl
theorem State.yarrowBoot_cores (s : State) : s.yarrowBoot.cores = s.cores := by
  unfold State.yarrowBoot
  dsimp only
  rw [State.ringCheck_cores, State.yarrowReady_cores, State.modYarrow_cores]
  have h1 : ∀ (b : Bool) (f : Yarrow → Yarrow), (if b then s.modYarrow f else s).cores = s.cores := by
    intro b f
    split <;> rfl
  split
  · unfold State.startChain
    rw [State.originate_cores, State.yarrowReady_cores]
    exact h1 _ _
  · exact h1 _ _

/-- S1–S7 with their ready bits, as the main domain brings them. -/
def State.coresJoin (u : State) : State :=
  let v := u.setReady 0x000007F0#32
  { v with cores := Vector.ofFn fun k => if k.val = 0 ∨ k.val = 8 then v.cores[k] else { v.cores[k] with flagFirst := true } }

/-- The clusters that the main domain brings. -/
def State.clustersJoin (w : State) : State :=
  ((List.finRange 8).drop 1).foldl (bringCluster true) (if w.clusterReady 0 then w.joinTrim true else bringCluster true w 0)

theorem State.mainUp_eq (u : State) : u.mainUp = u.coresJoin.clustersJoin.feedBits.yarrowBoot.wantAllocation := by
  unfold State.mainUp State.clustersJoin State.coresJoin
  dsimp only

theorem State.clustersJoin_core0 (w : State) : w.clustersJoin.core0 = w.core0 := by
  unfold State.clustersJoin
  rw [bringAll_core0]
  split
  · exact State.joinTrim_core0 ..
  · exact bringCluster_core0 ..
theorem State.clustersJoin_ready {w : State} {i : Nat} (h : w.ready i = true) : w.clustersJoin.ready i = true := by
  unfold State.clustersJoin
  refine bringAll_mono true i _ _ ?_
  split
  · exact State.ready_of_ready0 (State.joinTrim_ready0 ..) h
  · exact bringCluster_mono true w 0 i h

theorem State.mainUp_plate (u : State) : u.mainUp.plate = u.plate := by
  rw [State.mainUp_eq, State.wantAllocation_plate, State.yarrowBoot_plate, State.feedBits_plate, State.plate_of_core0 (State.clustersJoin_core0 _)]
  rfl
theorem State.mainUp_ready (u : State) (k : Fin 7) : u.mainUp.coreReady (k.val + 1) = true := by
  rw [State.mainUp_eq]
  show (State.wantAllocation _).ready (3 + (k.val + 1)) = true
  rw [State.wantAllocation_ready]
  refine State.yarrowBoot_ready (by omega) (State.feedBits_ready (by omega) (State.clustersJoin_ready ?_))
  refine State.ready_setReady_self ?_
  revert k
  decide
theorem State.mainUp_core {u : State} {k : CoreId} (hk : k.val = 0 ∨ k.val = 8) : u.mainUp.core k = u.core k := by
  have hc : u.mainUp.cores = u.coresJoin.cores := by
    rw [State.mainUp_eq]
    refine (State.yarrowBoot_cores _).trans ((State.feedBits_cores _).trans ?_)
    exact congrArg (fun r => r.1) (State.clustersJoin_core0 u.coresJoin)
  unfold State.core
  rw [hc]
  show (Vector.ofFn fun k : CoreId => if k.val = 0 ∨ k.val = 8 then u.cores[k] else { u.cores[k] with flagFirst := true })[k] = u.cores[k]
  rw [Fin.getElem_fin, Vector.getElem_ofFn]
  exact if_pos hk
theorem State.mainUp_due (u : State) : u.mainUp.budget.due = true := by
  rw [State.mainUp_eq]
  show (Budget.want _ _).due = true
  unfold Budget.want
  split
  · assumption
  · rfl

theorem State.withMain_plate (s : State) : s.withMain.plate
    = ({ s.board.still with mainOn := true, mainLost := false, afeLink := Vector.replicate 4 true }, s.store) := by
  unfold State.plate State.withMain
  rfl

theorem mainRelease_joins (hm : s.board.mainOn = false) (hon : s.board.svcOn = true) (h8 : s.coreReady 8 = true) :
    gives .mainDomainRelease s fun t => t.board.mainOn = true ∧ t.board.beat = s.board.beat ∧ t.budget.due = true
      ∧ (∀ k : Fin 7, t.coreReady (k.val + 1) = true)
      ∧ t.core 0 = s.core 0 ∧ t.core 8 = s.core 8 ∧ t.store = s.store := by
  have he := execMainDomainRelease_eq hm hon
  rw [h8] at he
  have hplate := (State.mainUp_plate s.withMain).trans s.withMain_plate
  have hboard := congrArg Prod.fst hplate
  have hstore := congrArg Prod.snd hplate
  have hon' := congrArg Board.mainOn hboard
  have hbeat := congrArg Board.beat hboard
  refine gives_of_exec he ⟨?_, ?_, State.mainUp_due _, State.mainUp_ready _, ?_, ?_, hstore⟩
  · rw [← Board.still_mainOn]
    exact hon'
  · rw [← Board.still_beat, ← Board.still_beat s.board]
    exact hbeat
  · exact State.mainUp_core (.inl rfl)
  · exact State.mainUp_core (.inr rfl)

/-- Settles O12: the main domain joins, alone, before S8 runs and with it, and is lost with and without VSVC. -/
theorem mainDomain : Obligations.MainDomain := by
  unfold Obligations.MainDomain
  exact ⟨fun s hm hon => mainRelease_alone hm hon,
    fun s hm hon h8 hc => mainRelease_waits hm hon h8 hc,
    fun s hm hon h8 => mainRelease_joins hm hon h8,
    fun s hm hon hv => congrArg Host.Outcome.next (if_pos (by rw [hm, hon, hv]; rfl)),
    fun s hm hon hr hv => mainLoss_keeps hm hon hr hv⟩

end Sys2Proof.Machine
end

section
/-! O43, refuted: a command that an ended session has left, where no cell is free. -/

namespace Sys2Proof.Machine

/-- TIME_GET that an ended session of the service mode left in Q7. -/
def leftCommand : Packet := mkPacket Pool.reset .left [0x08, 0x11, 0, 0, 0x7F, 0, 0, 0]

/-- A ready module without a free cell, in whose Q7 that command stands. -/
def leftWithoutCells : State :=
  { State.reset with
    board := { Board.reset with svcOn := true, mainOn := true, afeLink := Vector.replicate 4 true }
    dev := { Dev.reset with ready0 := 0x00FFFFFF#32 }
    pool := Pool.reset.modQ qSvc fun q => { q with closed := [leftCommand] } }

/-- Nothing stands in Q80 after the command. -/
def svcOutEmpty (o : Host.Outcome State Fault Refusal) : Bool :=
  match o with
  | .next t => (t.pool.queues[qSvcOut]).closed.isEmpty
  | _ => false

theorem exec_timeGet_leftWithoutCells : svcOutEmpty (exec (.timeGet .ended) leftWithoutCells) = true := by decide +kernel

/-- Refutes O43: a command that an ended session has left is taken without reserved cells and has no reply (R252, R445), so that no refusal
POOL_EXHAUSTED is queued. -/
theorem not_commandOrder : ¬ Obligations.CommandOrder := by
  unfold Obligations.CommandOrder
  intro h
  obtain ⟨-, -, -, -, -, -, -, -, -, -, -, hcells⟩ := h
  obtain ⟨t, he, hclosed, -⟩ := hcells .ended qSvc leftCommand (.timeGet .ended) leftWithoutCells (by decide +kernel) (by decide +kernel)
    (.inr (.inr (.inr (.inr (.inr (.inl ⟨by decide +kernel, rfl⟩)))))) (by decide +kernel) (by decide) (by decide +kernel) (by decide +kernel)
    (by decide +kernel) (by decide +kernel)
  have hexec := exec_timeGet_leftWithoutCells
  rw [he] at hexec
  have hnil : (t.pool.queues[qSvcOut]).closed = [] := List.isEmpty_iff.mp hexec
  have hmap : (t.pool.queues[(replyQ .ended)]).closed.map Packet.data = [] := congrArg (List.map Packet.data) hnil
  rw [hmap] at hclosed
  exact absurd hclosed.symm (List.append_ne_nil_of_right_ne_nil _ (List.cons_ne_nil _ _))

end Sys2Proof.Machine
end

section
/-! O53, refuted: a forwarded command that closes into Q88 behind an open packet. -/

namespace Sys2Proof.Machine

/-- TIME_GET with its CRC, as a forward carries it. -/
def forwardedTimeGet : List Byte :=
  let bytes : List Byte := [0x08, 0x11, 0, 0, 0x7F, 0, 0, 0]
  bytes ++ wordBytes (crc32 bytes)

/-- The FWD_CMD frame that module 9 sends to module 5. -/
def forwardFrame : YFrame := { dst := 5, src := 9, hops := 4000, type := 0x20, flags := 0, seq := 1, payload := forwardedTimeGet }

/-- Module 5, which lets itself be forwarded to: the frame stands in YA's receive queue, and core 1 has a packet open in Q88. -/
def forwardBehindOpen : State :=
  { State.reset with
    board := { Board.reset with svcOn := true, mainOn := true, afeLink := Vector.replicate 4 true }
    dev := { Dev.reset with ready0 := 0x00FFFFFF#32 }
    pool := (({ Pool.reset with capacity := 15856, pdReserve := 512 }.modQ (yRx .ya) fun q =>
      { q with closed := [mkPacket Pool.reset .none (frameBytes forwardFrame)] }).modQ qFwd fun q =>
      { q with opened := some ⟨.core 1, mkPacket Pool.reset .none [0#8, 0, 0, 0]⟩ })
    yarrow := { Yarrow.reset with id := 5, link := 1 } }

/-- Nothing is closed in Q88 after the command. -/
def fwdQueueEmpty (o : Host.Outcome State Fault Refusal) : Bool :=
  match o with
  | .next t => (t.pool.queues[qFwd]).closed.isEmpty
  | _ => false

theorem exec_fwdCmd_forwardBehindOpen : fwdQueueEmpty (exec (.fwdCmd .ya) forwardBehindOpen) = true := by decide +kernel

end Sys2Proof.Machine
end

section
/-! O53, settled. -/

namespace Sys2Proof
open Machine

/-- Refutes O53: while a packet is open in Q88, the forwarded command waits for its turn (R427), so that it does not stand closed there. -/
theorem not_yarrowLinkLayer : ¬ Obligations.YarrowLinkLayer := by
  unfold Obligations.YarrowLinkLayer
  rintro ⟨-, -, -, -, -, -, -, -, -, -, -, -, -, -, -, -, -, -, -, -, -, -, -, -, -, -, hfwd, -⟩
  obtain ⟨t, he, hclosed, -⟩ := hfwd .ya forwardFrame forwardBehindOpen (by decide +kernel) (by decide +kernel) (by decide +kernel)
    (by decide +kernel) (by decide +kernel) (by decide +kernel) (by decide +kernel) (by decide +kernel) (by decide +kernel)
  have hexec := exec_fwdCmd_forwardBehindOpen
  rw [he] at hexec
  have hnil : (t.pool.queues[qFwd]).closed = [] := List.isEmpty_iff.mp hexec
  rw [hnil] at hclosed
  exact absurd hclosed.symm (List.cons_ne_nil _ _)

end Sys2Proof
end

section
/-! Messages going out, Hard Reset ordered and ERROR_RECOVERY entered: what each leaves of the port and what it brings (R108, R163, R176,
R430, R444). -/

namespace Sys2Proof.Machine

variable {s : State} {p q : PortId}

/-! ### Messages going out -/

/-- What no message going out touches of the Policy Engine. -/
def Pd.terms (d : Pd) : Pd := { d with flight := none, held := [], lastTx := none, partnerAms := false }

/-- The port without what its messages going out have come to. -/
def Port.sans (x : Port) : Port := { x with pd := x.pd.terms }

section
variable {x y : Port} (h : x.sans = y.sans)
include h
theorem Port.tc_of_sans : x.tc = y.tc := (congrArg Port.tc h :)
theorem Port.stage_of_sans : x.stage = y.stage := (congrArg Port.stage h :)
theorem Port.guard_of_sans : x.guard = y.guard := (congrArg Port.guard h :)
theorem Port.timers_of_sans : x.timers = y.timers := (congrArg Port.timers h :)
theorem Port.ctx_of_sans : x.ctx = y.ctx := (congrArg Port.ctx h :)
theorem Port.cfg_of_sans : x.cfg = y.cfg := (congrArg Port.cfg h :)
theorem Port.terms_of_sans : x.pd.terms = y.pd.terms := (congrArg Port.pd h :)
end

section
variable {d e : Pd} (h : d.terms = e.terms)
include h
theorem Pd.contract_of_terms : d.contract = e.contract := (congrArg Pd.contract h :)
theorem Pd.trans_of_terms : d.trans = e.trans := (congrArg Pd.trans h :)
theorem Pd.swap_of_terms : d.swap = e.swap := (congrArg Pd.swap h :)
theorem Pd.swapReq_of_terms : d.swapReq = e.swapReq := (congrArg Pd.swapReq h :)
theorem Pd.swapMsg_of_terms : d.swapMsg = e.swapMsg := (congrArg Pd.swapMsg h :)
theorem Pd.hrOrder_of_terms : d.hrOrder = e.hrOrder := (congrArg Pd.hrOrder h :)
theorem Pd.await_of_terms : d.await = e.await := (congrArg Pd.await h :)
theorem Pd.ownAms_of_terms : d.ownAms = e.ownAms := (congrArg Pd.ownAms h :)
end

theorem State.modPort_sans (s : State) (p q : PortId) (f : Port → Port) (h : ∀ x, (f x).sans = x.sans) :
    ((s.modPort p f).port q).sans = (s.port q).sans := by
  by_cases e : q = p
  · subst e
    rw [State.port_modPort, h]
  · rw [State.port_modPort_ne _ e]
@[simp] theorem State.loadFlight_sans (s : State) (p q : PortId) : ((s.loadFlight p).port q).sans = (s.port q).sans := by
  unfold State.loadFlight
  split
  · rfl
  · split
    · split
      · exact State.modPort_sans _ _ _ _ fun _ => rfl
      · rfl
    · rfl
@[simp] theorem State.queueTx_sans (s : State) (p q : PortId) (t : Tgt) (why : Purpose) (bytes : List Byte) :
    ((s.queueTx p t why bytes).port q).sans = (s.port q).sans := by
  unfold State.queueTx
  split
  · exact State.modPort_sans _ _ _ _ fun _ => rfl
  · dsimp only
    split
    · exact State.loadFlight_sans ..
    · exact State.modPort_sans _ _ _ _ fun _ => rfl
@[simp] theorem State.reply_sans (s : State) (p q : PortId) (why : Purpose) (bytes : List Byte) :
    ((s.reply p why bytes).port q).sans = (s.port q).sans :=
  (State.queueTx_sans ..).trans (State.modPort_sans _ _ _ _ fun _ => rfl)

theorem State.loadFlight_pool (s : State) (p : PortId) : (s.loadFlight p).pool = s.pool := by
  unfold State.loadFlight
  (repeat' split) <;> rfl

/-- A packet that the pool takes for a port stands closed in its queue. -/
theorem Pool.pushPd_closed {m m' : Pool} {c : QueueId} {k : Packet} (h : m.pushPd c p k = some m') :
    ∃ r, (m'.queues[c]).closed = (m.queues[c]).closed ++ [{ k with res := r }] := by
  have hw : ∀ (n : Nat) (u : Pool), (u.watch n).queues = u.queues := by
    intro n u
    unfold Pool.watch
    split <;> rfl
  have happend : ∀ k' : Packet, (m.queues[c]).opened = none → ((m.append c k').queues[c]).closed = (m.queues[c]).closed ++ [k'] := by
    intro k' ho
    show ((m.modQ c (Queue.join k')).queues[c]).closed = _
    unfold Pool.modQ Queue.join
    simp only [Fin.getElem_fin, Vector.getElem_set_self]
    rw [if_neg (by rw [← Fin.getElem_fin, ho]; decide)]
  unfold Pool.pushPd at h
  dsimp only at h
  split at h
  · exact absurd h (by simp)
  · next hne =>
    have ho : (m.queues[c]).opened = none := by
      cases hopen : (m.queues[c]).opened with
      | none => rfl
      | some o => exact absurd (by rw [hopen]; simp) hne
    split at h
    · obtain rfl := Option.some.inj h
      exact ⟨k.res, by rw [hw]; exact happend k ho⟩
    · split at h
      · obtain rfl := Option.some.inj h
        exact ⟨_, by
          show (((m.append c _).watch m.free).queues[c]).closed = _
          rw [hw]
          exact happend _ ho⟩
      · exact absurd h (by simp)

/-- A message for the partner waits for the line once it is queued, or for a cell (R430, R444). -/
theorem State.queueTx_waits (s : State) (p : PortId) (why : Purpose) (bytes : List Byte) : (s.queueTx p .sop why bytes).txWaits p .sop bytes = true := by
  unfold State.queueTx State.txWaits
  rw [if_neg (by simp)]
  dsimp only
  split
  · next m hm =>
    obtain ⟨r, hr⟩ := Pool.pushPd_closed hm
    rw [State.loadFlight_pool]
    refine List.any_eq_true.mpr ⟨{ mkPacket s.pool (.tx p .sop why) bytes with res := r }, List.mem_append_left _ ?_, by simp [mkPacket]⟩
    show _ ∈ (m.queues[qTx (clusterOf p)]).closed
    rw [hr]
    exact List.mem_append_right _ (List.mem_singleton_self _)
  · refine List.any_eq_true.mpr ⟨mkPacket s.pool (.tx p .sop why) bytes, List.mem_append_right _ ?_, by simp [mkPacket]⟩
    rw [State.port_modPort]
    exact List.mem_append_right _ (List.mem_singleton_self _)
theorem State.reply_waits (s : State) (p : PortId) (why : Purpose) (bytes : List Byte) : (s.reply p why bytes).txWaits p .sop bytes = true :=
  State.queueTx_waits ..

/-! ### Hard Reset ordered -/

theorem State.discardWindow_port (s : State) (p : PortId) : ∃ f, (s.discardWindow p).port p = { s.port p with phy := f } := by
  unfold State.discardWindow
  split
  · exact ⟨_, rfl⟩
  · dsimp only
    split
    · exact ⟨_, by rw [State.port_modPort]; rfl⟩
    · exact ⟨_, rfl⟩
theorem State.abortAttempt_port (s : State) (p : PortId) : ∃ f, (s.abortAttempt p).port p = { s.port p with phy := f } := by
  unfold State.abortAttempt
  split
  · split
    · exact State.discardWindow_port s p
    · exact ⟨_, rfl⟩
  · exact ⟨_, rfl⟩

/-- An order of Hard Reset ends the attempt on the line and is noted; it leaves the port else (R176). -/
theorem State.orderHr_port (hpd : (s.port p).tc.st.pd = true) (hhr : (s.port p).pd.hrOrder = none) :
    ∃ f fl on, (s.orderHr p).port p = { s.port p with phy := f, pd := { (s.port p).pd with hrOrder := some s.now, flight := fl, onLine := on } } := by
  obtain ⟨f, hf⟩ := s.abortAttempt_port p
  unfold State.orderHr
  rw [if_pos (by rw [hpd, hhr]; rfl), State.port_modPort, hf]
  exact ⟨f, _, _, rfl⟩

theorem State.orderHr_faults (s : State) (p : PortId) : (s.orderHr p).faults = s.faults := by
  unfold State.orderHr State.abortAttempt State.discardWindow
  (repeat' split) <;> rfl

/-! ### ERROR_RECOVERY -/

theorem Port.hrCnt_of_unattached {x y : Port} (h : x.ctx = y.ctx.map Ctx.unattached) (t : Tgt) : (x.ctxOf t).hrCnt = 0 := by
  unfold Port.ctxOf
  rw [h, Fin.getElem_fin, Vector.getElem_map]
  rfl
theorem Port.powerDown_hrCnt (b : Beat) (feed : Bool) (x : Port) (t : Tgt) : ((x.powerDown b feed).ctxOf t).hrCnt = 0 := by
  refine Port.hrCnt_of_unattached (y := ((x.stageHalt).gateOff b).vconnOff) ?_ t
  unfold Port.powerDown Port.discharge Port.dropPd Port.disarmProtocol Port.mapCtx
  rfl

/-- What a port that enters ERROR_RECOVERY comes to (R108). -/
theorem Port.toErrorRecovery_spec (svc : Bool) (b : Beat) (feed held : Bool) (wait : Nat) (x : Port) :
    let y := x.toErrorRecovery svc b feed held wait
    y.tc.st = .errorRecovery ∧ y.pd.contract = Contract.none ∧ y.guard.gateOn = false ∧ y.stage.mode = .idle
      ∧ ∀ t, (y.ctxOf t).hrCnt = 0 := by
  have h := Port.powerDown_hrCnt b feed x
  unfold Port.toErrorRecovery
  dsimp only
  rw [Port.abandonCal_eq]
  unfold Port.ctxOf at h ⊢
  split <;> simpa using h

/-- What ERROR_RECOVERY makes of its port (R108, R111, R294). -/
theorem State.errorRecovery_spec (s : State) (p : PortId) (r : Nat) :
    ((s.errorRecovery p r).port p).tc.st = .errorRecovery ∧ ((s.errorRecovery p r).port p).pd.contract = Contract.none
      ∧ ((s.errorRecovery p r).port p).guard.gateOn = false ∧ ((s.errorRecovery p r).port p).stage.mode = .idle
      ∧ ∀ t, (((s.errorRecovery p r).port p).ctxOf t).hrCnt = 0 := by
  unfold State.errorRecovery State.dropPort
  generalize (s.endWork p 0 r).svcLeave p = u
  obtain ⟨hst, hc, hg, hm, hctx⟩ := Port.toErrorRecovery_spec (isService p) s.now s.feedOn s.faults.hold (u.port p).tErr (u.port p)
  rw [State.updPort_port_tc_st, State.updPort_port_pd, State.updPort_port_guard, State.updPort_port_stage]
  refine ⟨hst, hc, hg, hm, fun t => ?_⟩
  unfold Port.ctxOf at hctx ⊢
  rw [State.updPort_port_ctx]
  exact hctx t

end Sys2Proof.Machine
end

section
/-! Voltage transitions of a Source (R207, R208, R209, R240). -/

namespace Sys2Proof.Machine

variable {s : State} {p : PortId}

theorem Port.disarm_timer (x : Port) (i : Fin 12) : (x.disarm i).timers[i] = Timer.idle := by
  unfold Port.disarm Port.setTimer
  simp

theorem State.now_of_rest {t : State} (h : t.rest = s.rest) : t.now = s.now := by
  have hb : t.board.still = s.board.still := congrArg (fun r => r.2.2.2.2.2.2.1) h
  show t.board.beat = s.board.beat
  rw [← Board.still_beat, hb, Board.still_beat]

/-! ### The clauses -/

theorem pdRuns_of (h : s.pdRuns p = true) : s.fw p = true ∧ (s.port p).pd.hrOrder = none ∧ s.safePending p = false := by
  unfold State.pdRuns at h
  rw [Bool.and_eq_true, Bool.and_eq_true, Bool.not_eq_true', Option.isNone_iff_eq_none] at h
  exact ⟨h.1.1, h.1.2, h.2⟩

theorem srcTransition_moves {e : Transition} (hdue : s.due p tPower .srcTransition = true) (hswap : (s.port p).pd.swap = none)
    (htr : (s.port p).pd.trans = some e) (hrun : s.pdRuns p = true) :
    gives (.srcTransitionExpiry p) s fun t => (t.port p).stage = { (s.port p).stage with vTgt := e.v, iTgt := e.i }
      ∧ (t.port p).pd.trans = some { e with moving := some (s.now + 1) }
      ∧ (t.port p).timers[tPower] = Timer.idle
      ∧ (t.port p).tc = (s.port p).tc
      ∧ (t.port p).guard = (s.port p).guard
      ∧ t.pool = s.pool := by
  refine gives_of_exec (congrArg Host.Outcome.next (if_pos (by rw [hdue, hrun]; rfl))) ?_
  rw [State.port_modPort]
  simp only [Port.disarm_pd, hswap, htr]
  exact ⟨rfl, trivial, Port.disarm_timer .., rfl, rfl, rfl⟩

theorem srcTransition_swaps {w : Swap} (hdue : s.due p tPower .srcTransition = true) (hswap : (s.port p).pd.swap = some w)
    (hrun : s.pdRuns p = true) :
    gives (.srcTransitionExpiry p) s fun t => (t.port p).stage.vTgt = 0
      ∧ (t.port p).pd.swap = some { w with step := 2, mark := s.now }
      ∧ (t.port p).stage.disH = true
      ∧ (t.port p).timers[tPower] = Timer.idle := by
  refine gives_of_exec (congrArg Host.Outcome.next (if_pos (by rw [hdue, hrun]; rfl))) ?_
  rw [State.port_modPort]
  simp only [Port.disarm_pd, hswap]
  exact ⟨rfl, rfl, rfl, Port.disarm_timer ..⟩

theorem srcTransition_ends {e : Transition} (hrun : s.pdRuns p = true) (htr : (s.port p).pd.trans = some e)
    (hdone : (s.port p).transitionDone s.now = true) :
    gives (.srcTransitionComplete p) s fun t => t.txWaits p .sop (ctlMsg 6) = true
      ∧ (t.port p).pd.trans = some { e with sent := true }
      ∧ (t.port p).pd.contract = (s.port p).pd.contract
      ∧ (t.port p).stage = (s.port p).stage
      ∧ (t.port p).guard = (s.port p).guard := by
  refine gives_of_exec (congrArg Host.Outcome.next (if_pos (by rw [hrun, hdone]; rfl))) ⟨State.queueTx_waits .., ?_⟩
  generalize hu : s.modPort p (fun x => { x with pd := { x.pd with trans := x.pd.trans.map fun t => { t with sent := true } } }) = u
  have hport : u.port p = { s.port p with pd := { (s.port p).pd with trans := some { e with sent := true } } } := by
    rw [← hu, State.port_modPort, htr]
    rfl
  have hs := State.queueTx_sans u p p .sop .psRdy (ctlMsg 6)
  have ht := Port.terms_of_sans hs
  refine ⟨?_, ?_, ?_, ?_⟩
  · rw [Pd.trans_of_terms ht, hport]
  · rw [Pd.contract_of_terms ht, hport]
  · rw [Port.stage_of_sans hs, hport]
  · rw [Port.guard_of_sans hs, hport]

theorem transFail_orders {e : Transition} {b0 : Beat} (hrun : s.pdRuns p = true) (htr : (s.port p).pd.trans = some e) (hm : e.moving = some b0)
    (ha : e.accepted = true) (hsrc : e.source = true) (hsent : e.sent = false) (h1 : 12500 ≤ Beat.since s.now b0)
    (h2 : Beat.since s.now b0 < 140737488355328) (hpd : (s.port p).tc.st.pd = true) :
    gives (.transFail p) s fun t => t.raisedAt (64 + p.val) = true ∧ (t.port p).pd.hrOrder = some s.now := by
  obtain ⟨-, hhr, -⟩ := pdRuns_of hrun
  have he : exec (.transFail p) s = .next ((s.raisePort p 14 0).orderHr p) := by
    show execTransFail p s = _
    unfold execTransFail
    simp only [htr, hm, hrun, ha, hsrc, hsent]
    rw [if_pos (by rw [decide_eq_true h1, decide_eq_true h2]; rfl)]
  have hraised := State.raisePort_raised s p 14 0
  have hnow : (s.raisePort p 14 0).now = s.now := State.now_of_rest (State.raisePort_rest ..)
  have hpd' : ((s.raisePort p 14 0).port p).pd = (s.port p).pd := State.raisePort_pd ..
  have hst' : ((s.raisePort p 14 0).port p).tc.st = (s.port p).tc.st := State.raisePort_st ..
  obtain ⟨f, fl, on, hport⟩ := State.orderHr_port (s := s.raisePort p 14 0) (p := p) (by rw [hst', hpd]) (by rw [hpd', hhr])
  refine gives_of_exec he ⟨?_, ?_⟩
  · unfold State.raisedAt
    rw [State.orderHr_faults]
    exact hraised
  · rw [hport, hnow]

theorem noResponse_orders (hdue : s.due p tPower .noResponse = true) (hcnt : ((s.port p).ctxOf .sop).hrCnt < 2)
    (hpd : (s.port p).tc.st.pd = true) (hhr : (s.port p).pd.hrOrder = none) :
    gives (.noResponseTimeout p) s fun t => (t.port p).pd.hrOrder = some s.now
      ∧ (t.port p).timers[tPower] = Timer.idle
      ∧ (t.port p).stage = (s.port p).stage
      ∧ (t.port p).tc = (s.port p).tc := by
  refine gives_of_exec (congrArg Host.Outcome.next ((if_pos hdue).trans (if_neg (by omega)))) ?_
  obtain ⟨f, fl, on, hport⟩ := State.orderHr_port (s := s.modPort p fun x => x.disarm tPower) (p := p)
    (by rw [State.port_modPort]; exact hpd) (by rw [State.port_modPort]; exact hhr)
  rw [hport, State.port_modPort]
  exact ⟨rfl, Port.disarm_timer .., rfl, rfl⟩

theorem noResponse_recovers (hdue : s.due p tPower .noResponse = true) (hcnt : ((s.port p).ctxOf .sop).hrCnt = 2) :
    gives (.noResponseTimeout p) s fun t => (t.port p).tc.st = .errorRecovery
      ∧ (t.port p).pd.contract = Contract.none
      ∧ (t.port p).guard.gateOn = false
      ∧ (t.port p).stage.mode = .idle
      ∧ ((t.port p).ctxOf .sop).hrCnt = 0 := by
  obtain ⟨hst, hc, hg, hm, hctx⟩ := s.errorRecovery_spec p 8
  exact gives_of_exec (congrArg Host.Outcome.next ((if_pos hdue).trans (if_pos (by rw [hcnt])))) ⟨hst, hc, hg, hm, hctx .sop⟩

/-- Settles O34: the moves of a transition, its end, its failure, and tNoResponse. -/
theorem transitions : Obligations.Transitions := by
  unfold Obligations.Transitions
  exact ⟨fun p e s hdue hswap htr hrun => srcTransition_moves hdue hswap htr hrun,
    fun p w s hdue hswap hrun => srcTransition_swaps hdue hswap hrun,
    fun p e s hrun htr hdone => srcTransition_ends hrun htr hdone,
    fun p e b0 s hrun htr hm ha hsrc hsent h1 h2 hpd => transFail_orders hrun htr hm ha hsrc hsent h1 h2 hpd,
    fun p s hdue hcnt hpd hhr => noResponse_orders hdue hcnt hpd hhr,
    fun p s hdue hcnt => noResponse_recovers hdue hcnt⟩

end Sys2Proof.Machine
end

section
/-! Hard Reset recovery (R236). -/

namespace Sys2Proof.Machine

variable {s : State} {p : PortId}

theorem Port.recovering_of {x : Port} {r : Recovery} (h : x.pd.recov = some r) : x.recovering r = true := by
  unfold Port.recovering
  rw [h]
  exact beq_self_eq_true _

/-- A gate neither tripped nor locked takes its command. -/
theorem Port.gateOnCmd_wants {x : Port} (b : Beat) (ht : x.guard.gst ≠ .tripped) (hl : x.guard.gst ≠ .locked) :
    (x.gateOnCmd b).guard.gateWant = true := by
  unfold Port.gateOnCmd
  rw [if_neg (by simp [ht, hl])]
  dsimp only
  split <;> rfl

theorem Port.toErrorRecovery_recov (svc : Bool) (b : Beat) (feed held : Bool) (wait : Nat) (x : Port) :
    (x.toErrorRecovery svc b feed held wait).pd.recov = none := by
  have h : (x.powerDown b feed).pd.recov = none := rfl
  unfold Port.toErrorRecovery
  dsimp only
  rw [Port.abandonCal_eq]
  split <;> simpa using h

theorem State.errorRecovery_recov (s : State) (p : PortId) (r : Nat) : ((s.errorRecovery p r).port p).pd.recov = none := by
  unfold State.errorRecovery State.dropPort
  rw [State.updPort_port_pd]
  exact Port.toErrorRecovery_recov ..

theorem State.detachSnk_recov (s : State) (p : PortId) : ((s.dropPort p 0 8 (Port.detachSnk (isService p) s.now)).port p).pd.recov = none := by
  unfold State.dropPort
  rw [State.updPort_port_pd]
  unfold Port.detachSnk
  rw [Port.toUnattached_pd]
  rfl

theorem psHardReset_falls (hdue : s.due p tPower .psHardReset = true) (hr : (s.port p).pd.recov = some .srcHold) :
    gives (.psHardResetExpiry p) s fun t => (t.port p).pd.recov = some .srcFall
      ∧ (t.port p).tc.vconnOn = false
      ∧ (t.port p).stage.disH = true
      ∧ (t.port p).timers[tPower] = Timer.armed' .safe0v 150000
      ∧ (t.port p).tc.st = (s.port p).tc.st := by
  refine gives_of_exec (congrArg Host.Outcome.next (if_pos (by rw [hdue, Port.recovering_of hr]; rfl))) ?_
  obtain ⟨hv, -, hst, -⟩ := s.vconnLost_spec p false
  generalize s.vconnLost p false = u at hv hst ⊢
  rw [State.updPort_port_pd, State.updPort_vconnOn, State.updPort_port_stage, State.updPort_timer, State.updPort_port_tc_st]
  refine ⟨rfl, hv, rfl, ?_, hst⟩
  dsimp only [Port.discharge]
  rw [Port.arm_timers]
  exact Vector.getElem_set_self _

theorem safe0v_waits (hfw : s.fw p = true) (hr : (s.port p).pd.recov = some .srcFall) (hv : (s.port p).vSafe0 = true) :
    exec (.safe0vReached p) s
      = .next (s.modPort p fun x => ({ x with pd := { x.pd with recov := some .srcWait } }).arm tPower .srcRecover 200000) :=
  congrArg Host.Outcome.next (if_pos (by rw [hfw, Port.recovering_of hr, hv]; rfl))

theorem safe0v_fails (hdue : s.due p tPower .safe0v = true) (hr : (s.port p).pd.recov = some .srcFall) :
    gives (.safe0vTimeout p) s fun t => t.raisedAt (64 + p.val) = true
      ∧ (t.port p).pd.recov = none
      ∧ (t.port p).guard.gateOn = false := by
  refine gives_of_exec (congrArg Host.Outcome.next (if_pos (by rw [hdue, Port.recovering_of hr]; rfl))) ?_
  unfold State.recoveryFail
  obtain ⟨-, -, hg, -, -⟩ := s.errorRecovery_spec p 8
  refine ⟨State.raisePort_raised .., ?_, portKept_gateOn.raisePort _ _ _ _ _ hg⟩
  rw [State.raisePort_pd]
  exact State.errorRecovery_recov ..

/-- VBUS driven to vSafe5V within the recovery of a Source, with VCONN where it is wanted (R236 step 4). -/
def Port.recoverRise (good : Bool) (b : Beat) (x : Port) : Port :=
  let y := (x.driveFive b).arm tPower .safe5v (ms 250)
  let z : Port := { y with pd := { y.pd with recov := some .srcRise } }
  if z.vconnWanted good && !z.tc.vconnOn then (z.vconnOnAt b).syncVconn else z

theorem Port.driveFive_wants {x : Port} (b : Beat) (ht : x.guard.gst ≠ .tripped) (hl : x.guard.gst ≠ .locked) :
    (x.driveFive b).guard.gateWant = true := by
  unfold Port.driveFive
  exact Port.gateOnCmd_wants b ht hl

theorem Port.recoverRise_spec (good : Bool) (b : Beat) (x : Port) :
    (x.recoverRise good b).pd.recov = some .srcRise
      ∧ (x.recoverRise good b).stage = (x.driveFive b).stage
      ∧ (x.recoverRise good b).guard = (x.driveFive b).guard
      ∧ (x.recoverRise good b).timers = (x.driveFive b).timers.set tPower (Timer.armed' .safe5v 62500)
      ∧ (x.recoverRise good b).tc.st = (x.driveFive b).tc.st := by
  unfold Port.recoverRise
  dsimp only
  split
  · exact ⟨rfl, rfl, rfl, rfl, rfl⟩
  · exact ⟨rfl, rfl, rfl, rfl, rfl⟩

theorem srcRecover_rises (hdue : s.due p tPower .srcRecover = true) (hr : (s.port p).pd.recov = some .srcWait) :
    gives (.srcRecoverExpiry p) s fun t => (t.port p).pd.recov = some .srcRise
      ∧ (t.port p).stage.vTgt = 250
      ∧ (t.port p).stage.want = .forward
      ∧ ((s.port p).guard.gst ≠ .tripped → (s.port p).guard.gst ≠ .locked → (t.port p).guard.gateWant = true)
      ∧ (t.port p).timers[tPower] = Timer.armed' .safe5v 62500
      ∧ (t.port p).tc.st = (s.port p).tc.st := by
  refine gives_of_exec (t := s.updPort p (Port.recoverRise (s.cluster (clusterOf p)).vconnGood s.now))
    (congrArg Host.Outcome.next (if_pos (by rw [hdue, Port.recovering_of hr]; rfl))) ?_
  obtain ⟨hrec, hstage, hguard, htimers, hst⟩ := Port.recoverRise_spec (s.cluster (clusterOf p)).vconnGood s.now (s.port p)
  obtain ⟨g, hfive⟩ := Port.driveFive_eq (x := s.port p) s.now
  rw [State.updPort_port_pd, State.updPort_port_stage, State.updPort_port_guard, State.updPort_timer, State.updPort_port_tc_st, hrec, hstage,
    hguard, htimers, hst]
  refine ⟨rfl, ?_, ?_, Port.driveFive_wants _, Vector.getElem_set_self _, ?_⟩
  · rw [hfive]; rfl
  · rw [hfive]
  · rw [hfive]

/-- VBUS stands at vSafe5V: capabilities follow, and tNoResponse runs (R236 step 5). -/
def Port.recoverEnd (x : Port) : Port :=
  let y := x.arm tPower .noResponse (ms 5000)
  let z : Port := { y with pd := { y.pd with recov := none, recovSwap := false, capsDue := true, capsRaise := false, discovered := true } }
  if z.tc.vconnOn && z.pd.cable.state != 2 then z.startDiscover else z

theorem Port.recoverEnd_spec (x : Port) :
    x.recoverEnd.pd.recov = none ∧ x.recoverEnd.pd.capsDue = true ∧ x.recoverEnd.timers[tPower] = Timer.armed' .noResponse 1250000
      ∧ x.recoverEnd.tc = x.tc ∧ x.recoverEnd.stage = x.stage := by
  unfold Port.recoverEnd
  dsimp only
  split
  · refine ⟨rfl, rfl, ?_, rfl, rfl⟩
    unfold Port.startDiscover
    simp only [Port.arm_timers]
    rw [Fin.getElem_fin, Vector.getElem_set_ne _ _ (by decide)]
    exact Vector.getElem_set_self _
  · exact ⟨rfl, rfl, Vector.getElem_set_self _, rfl, rfl⟩

theorem vsafe5v_ends (hfw : s.fw p = true) (hr : (s.port p).pd.recov = some .srcRise) (hat : (s.port p).atTarget = true)
    (hpg : (s.port p).powerGood = true) (hw : 16 ≤ (s.port p).stage.runs.window) :
    gives (.vsafe5vReady p) s fun t => (t.port p).pd.recov = none
      ∧ (t.port p).pd.capsDue = true
      ∧ (t.port p).timers[tPower] = Timer.armed' .noResponse 1250000
      ∧ (t.port p).tc = (s.port p).tc
      ∧ (t.port p).stage = (s.port p).stage
      ∧ t.pool = s.pool := by
  refine gives_of_exec (t := s.modPort p Port.recoverEnd)
    (congrArg Host.Outcome.next (if_pos (by rw [hfw, Port.recovering_of hr, hat, hpg, decide_eq_true hw]; rfl))) ?_
  obtain ⟨hrec, hcaps, htimer, htc, hstage⟩ := (s.port p).recoverEnd_spec
  rw [State.port_modPort]
  exact ⟨hrec, hcaps, htimer, htc, hstage, rfl⟩

/-- VBUS is back at a Sink (R236). -/
def Port.sinkReturn (b : Beat) (x : Port) : Port :=
  let y : Port := { x with pd := { x.pd with recov := none, recovSwap := false }
                           stage := { x.stage with iTgt := rpSeenAmps x.tc.rpSeen } }
  (if y.tc.st == .debugAccSnk then y else y.gateOnCmd b).arm tCaps .sinkWaitCap (ms 465)

theorem Port.sinkReturn_spec {x : Port} (b : Beat) (hst : x.tc.st = .attachedSnk) :
    (x.sinkReturn b).pd.recov = none
      ∧ (x.guard.gst ≠ .tripped → x.guard.gst ≠ .locked → (x.sinkReturn b).guard.gateWant = true)
      ∧ (x.sinkReturn b).stage.iTgt = rpSeenAmps x.tc.rpSeen
      ∧ (x.sinkReturn b).timers[tCaps] = Timer.armed' .sinkWaitCap 116250
      ∧ (x.sinkReturn b).tc = x.tc := by
  unfold Port.sinkReturn
  dsimp only
  rw [hst, if_neg (by decide)]
  generalize hy : ({ x with pd := { x.pd with recov := none, recovSwap := false }
                            stage := { x.stage with iTgt := rpSeenAmps x.tc.rpSeen } } : Port) = y
  have hgst : y.guard = x.guard := by rw [← hy]
  obtain ⟨g, hg⟩ := Port.gateOnCmd_eq (x := y) b
  refine ⟨?_, fun ht hl => ?_, ?_, ?_, ?_⟩
  · rw [Port.arm_pd, hg, ← hy]
  · rw [Port.arm_guard]
    exact Port.gateOnCmd_wants b (by rwa [hgst]) (by rwa [hgst])
  · rw [Port.arm_stage, hg, ← hy]
  · rw [Port.arm_timers]
    exact Vector.getElem_set_self _
  · rw [Port.arm_tc, hg, ← hy]

theorem sinkVbus_returns {b0 : Beat} (hfw : s.fw p = true) (hr : (s.port p).pd.recov = some (.snkRise b0))
    (hv : (s.port p).vbusPresent = true) (hst : (s.port p).tc.st = .attachedSnk) :
    gives (.sinkVbusReturn p) s fun t => (t.port p).pd.recov = none
      ∧ ((s.port p).guard.gst ≠ .tripped → (s.port p).guard.gst ≠ .locked → (t.port p).guard.gateWant = true)
      ∧ (t.port p).stage.iTgt = rpSeenAmps (s.port p).tc.rpSeen
      ∧ (t.port p).timers[tCaps] = Timer.armed' .sinkWaitCap 116250
      ∧ (t.port p).tc = (s.port p).tc := by
  refine gives_of_exec (t := s.modPort p (Port.sinkReturn s.now)) ?_ ?_
  · show execSinkVbusReturn p s = _
    unfold execSinkVbusReturn
    rw [hr]
    exact congrArg Host.Outcome.next (if_pos (by rw [hfw, hv]; rfl))
  · rw [State.port_modPort]
    exact Port.sinkReturn_spec _ hst

theorem sinkRecovery_ends {b0 : Beat} (hfw : s.fw p = true)
    (hr : (s.port p).pd.recov = some (.snkFall b0) ∨ (s.port p).pd.recov = some (.snkRise b0)) (hlate : 481250 ≤ Beat.since s.now b0) :
    gives (.sinkRecoveryBound p) s fun t => (t.port p).tc.st = (if (s.port p).entrySide true then .unattachedSnk else .unattachedSrc)
      ∧ (t.port p).pd.recov = none
      ∧ (t.port p).guard.gateOn = false
      ∧ (t.port p).pd.contract = Contract.none := by
  obtain ⟨hst, -, hc, -, hg, -⟩ := s.detachSnk_spec p
  refine gives_of_exec (t := s.dropPort p 0 8 (Port.detachSnk (isService p) s.now)) ?_ ⟨hst, s.detachSnk_recov p, hg, hc⟩
  show execSinkRecoveryBound p s = _
  unfold execSinkRecoveryBound
  obtain h | h := hr <;> rw [h] <;> exact congrArg Host.Outcome.next (if_pos ⟨hfw, hlate⟩)

/-- Settles O36: each step of the recovery of a Source, and the two ends of a Sink's. -/
theorem recovery : Obligations.Recovery := by
  unfold Obligations.Recovery
  exact ⟨fun p s => psHardReset_falls, fun p s => safe0v_waits, fun p s => safe0v_fails, fun p s => srcRecover_rises,
    fun p s => vsafe5v_ends, fun p b0 s => sinkVbus_returns, fun p b0 s => sinkRecovery_ends⟩

end Sys2Proof.Machine
end

section
/-! The beat frame of a core (R37, R453, R455, R460, R462). -/

namespace Sys2Proof.Machine

variable {s : State} {k : CoreId}

theorem State.cores_of_rest {t : State} (h : t.rest = s.rest) : t.cores = s.cores := congrArg (fun r => r.1) h

theorem State.core_of_rest {t : State} (h : t.rest = s.rest) (j : CoreId) : t.core j = s.core j :=
  congrArg (fun v : Vector CoreSt 9 => v[j]) (State.cores_of_rest h)

@[simp] theorem State.raise_core (r : Raise) (j : CoreId) : (s.raise r).core j = s.core j :=
  State.core_of_rest (State.raise_rest ..) j

/-- A core with nothing in flight has nothing to complete. -/
theorem State.drain_of_empty (h : (s.core k).inflight = []) : s.drain k = s.modCore k fun c => { c with inflight := [] } := by
  unfold State.drain
  rw [h]
  rfl

/-- Cores that do not wait are not woken. -/
theorem State.wake_of_quiet (h : ∀ j : CoreId, (s.core j).waiting = false) : s.wake k = s := by
  have hfold : ∀ l : List CoreId, l.foldl (fun (t : State) j =>
      if (t.core j).waiting then
        let u := t.modCore j fun c => { c with cycles := max c.cycles (s.core k).cycles }
        if (u.core j).cycles < frame then u.issue j else u
      else t) s = s := by
    intro l
    induction l with
    | nil => rfl
    | cons j l ih =>
      rw [List.foldl_cons, if_neg (by rw [h j]; exact Bool.false_ne_true)]
      exact ih
  exact hfold _

theorem reservedSource_overrun (k : CoreId) : reservedSource (192 + k.val) = false := by
  revert k; decide

theorem reservedSource_trap (k : CoreId) : reservedSource (201 + k.val) = false := by
  revert k; decide

/-- A core that traps with nothing in flight. -/
def CoreSt.trapped (c : CoreSt) : CoreSt :=
  let inRegion := decide (0xE000 ≤ c.pc.toNat)
  { ({ c with inflight := [] } : CoreSt).halt with
      trapAddr := c.pc, flagTrap := true, flagExt := inRegion, extState := if inRegion then 3 else c.extState
      traps := satIncr c.traps, lastTrap := c.pc.setWidth 32 }

theorem State.trap_of_empty (detail : Nat) (h : (s.core k).inflight = []) :
    s.trap k detail = (s.modCore k CoreSt.trapped).raise (devRaise (201 + k.val) detail (s.core k).pc.toNat) := by
  unfold State.trap
  rw [State.drain_of_empty h]
  dsimp only
  have hmod : (s.modCore k fun c => { c with inflight := [] }).modCore k (fun c =>
      { c.halt with trapAddr := (s.core k).pc, flagTrap := true, flagExt := decide (0xE000 ≤ (s.core k).pc.toNat)
                    extState := if decide (0xE000 ≤ (s.core k).pc.toNat) then 3 else c.extState
                    traps := satIncr c.traps, lastTrap := (s.core k).pc.setWidth 32 }) = s.modCore k CoreSt.trapped := by
    unfold State.modCore State.core
    simp only [Vector.set_set, Fin.getElem_fin, Vector.getElem_set_self]
    rfl
  rw [hmod]

/-- The core of a handler that begins, or of a paused repeat that goes on. -/
def CoreSt.entered (flags : CoreSt → Nat) (b : Beat) (c : CoreSt) : CoreSt :=
  let d := c.extTurn
  let e := { d with
    bits := (d.bits >>> 8 <<< 8) ||| BitVec.ofNat 256 (flags d), beatLat := b, cycles := 0, running := true
    flagTrap := false, flagFirst := false, extCalled := false }
  if e.paused then { e with paused := false }
  else { e with rstack := [], a := e.a.set 7 0x8000#16, pc := 0, bundle := [], delay := none, rep := none, waiting := false, inExt := false }

theorem CoreSt.extTurn_of_none {c : CoreSt} (hstop : c.extStop = false) (hstart : c.extStart = false) : c.extTurn = c := by
  unfold CoreSt.extTurn
  simp only [hstop, hstart, Bool.false_eq_true, if_false]

theorem CoreSt.entered_of_fresh {c : CoreSt} (flags : CoreSt → Nat) (b : Beat) (hp : c.paused = false) (hstop : c.extStop = false)
    (hstart : c.extStart = false) :
    c.entered flags b = { c with
      bits := (c.bits >>> 8 <<< 8) ||| BitVec.ofNat 256 (flags c), beatLat := b, cycles := 0, running := true
      flagTrap := false, flagFirst := false, extCalled := false, rstack := [], a := c.a.set 7 0x8000#16, pc := 0, bundle := []
      delay := none, rep := none, waiting := false, inExt := false } := by
  unfold CoreSt.entered
  rw [CoreSt.extTurn_of_none hstop hstart]
  dsimp only
  rw [if_neg (by rw [hp]; exact Bool.false_ne_true)]

/-- A fresh entry runs no repeat. -/
theorem State.enterBeat_of_fresh (hrep : ((s.core k).entered (beatFlags s) s.now).rep = none) :
    s.enterBeat k = s.modCore k (CoreSt.entered (beatFlags s) s.now) := by
  have hcore : ((s.modCore k (CoreSt.entered (beatFlags s) s.now)).core k).rep = none := by rwa [State.core_modCore]
  unfold State.enterBeat
  unfold CoreSt.entered at hcore ⊢
  dsimp only at hcore ⊢
  rw [hcore]

theorem beatEntry_fresh (hready : s.coreReady k.val = true) (hrun : (s.core k).running = false) (hp : (s.core k).paused = false)
    (hstop : (s.core k).extStop = false) (hstart : (s.core k).extStart = false)
    (hdue : (s.core k).beatLat ≠ s.now ∨ (s.core k).flagFirst = true) (hst : (s.core k).stopped = false) :
    gives (.beatEntry k) s fun t => (t.core k).running = true ∧ (t.core k).pc = 0 ∧ (t.core k).a[(7 : Fin 8)] = 0x8000#16
        ∧ (t.core k).beatLat = s.now ∧ (t.core k).cycles = 0 ∧ (t.core k).rstack = [] ∧ (t.core k).data = (s.core k).data
        ∧ (t.core k).flagFirst = false
      ∧ (∀ j : CoreId, j ≠ k → t.core j = s.core j) ∧ t.ports = s.ports ∧ t.pool = s.pool := by
  have hfresh := CoreSt.entered_of_fresh (c := s.core k) (beatFlags s) s.now hp hstop hstart
  have he : exec (.beatEntry k) s = .next (s.modCore k (CoreSt.entered (beatFlags s) s.now)) := by
    show execBeatEntry k s = _
    unfold execBeatEntry
    rw [if_pos (by rw [hready, hrun]; simpa using hdue), if_neg (by rw [hst]; exact Bool.false_ne_true),
      State.enterBeat_of_fresh (by rw [hfresh])]
  refine gives_of_exec he ?_
  rw [State.core_modCore, hfresh]
  exact ⟨rfl, rfl, Vector.getElem_set_self _, rfl, rfl, rfl, rfl, rfl, fun j hj => State.core_modCore_ne _ hj _, rfl, rfl⟩

theorem beatEntry_stopped (hready : s.coreReady k.val = true) (hst : (s.core k).stopped = true)
    (hdue : (s.core k).beatLat ≠ s.now ∨ (s.core k).flagFirst = true) :
    exec (.beatEntry k) s = .next ((s.enterBeat k).resumeCore k) := by
  have hrun : (s.core k).running = false := by
    unfold CoreSt.stopped at hst
    simp only [Bool.and_eq_true, Bool.not_eq_true'] at hst
    exact hst.1
  show execBeatEntry k s = _
  unfold execBeatEntry
  rw [if_pos (by rw [hready, hrun]; simpa using hdue), if_pos hst]

theorem repeat_pauses (hrun : (s.core k).running = true) (hp : (s.core k).pausable = true) :
    gives (.repeatPause k) s fun t => (t.core k).running = false ∧ (t.core k).paused = true ∧ (t.core k).rep = (s.core k).rep
        ∧ (t.core k).a = (s.core k).a ∧ (t.core k).data = (s.core k).data
      ∧ (∀ j : CoreId, j ≠ k → t.core j = s.core j)
        ∧ t.ports = s.ports ∧ t.pool = s.pool ∧ t.faults = s.faults := by
  refine gives_of_exec (congrArg Host.Outcome.next (if_pos (by rw [hrun, hp]; rfl))) ?_
  rw [State.core_modCore]
  exact ⟨rfl, rfl, rfl, rfl, rfl, fun j hj => State.core_modCore_ne _ hj _, rfl, rfl, rfl⟩

theorem beat_overruns (hrun : (s.core k).running = true) (hp : (s.core k).pausable = false) (hfl : (s.core k).inflight = []) :
    gives (.beatOverrun k) s fun t => (t.core k).running = false ∧ (t.core k).flagOverrun = true ∧ (t.core k).trapAddr = (s.core k).pc
        ∧ (t.core k).overruns = satIncr (s.core k).overruns ∧ (t.core k).data = (s.core k).data
        ∧ t.raisedAt (192 + k.val) = true
      ∧ (∀ j : CoreId, j ≠ k → t.core j = s.core j) := by
  refine gives_of_exec (congrArg Host.Outcome.next (if_pos (by rw [hrun, hp]; rfl))) ?_
  dsimp only
  rw [State.drain_of_empty hfl, State.raise_core, State.core_modCore, State.core_modCore]
  refine ⟨rfl, rfl, rfl, rfl, rfl, State.raise_raised _ _ (reservedSource_overrun k), fun j hj => ?_⟩
  rw [State.raise_core, State.core_modCore_ne _ hj, State.core_modCore_ne _ hj]

theorem extension_enters (hrun : (s.core k).running = true) (hext : (s.core k).extState = 2) (hcall : (s.core k).extCalled = false)
    (hrep : (s.core k).rep = none) (hwait : (s.core k).waiting = false) (hb : (s.core k).bundle = []) (hd : (s.core k).delay = none)
    (hpc : (s.core k).pc.toNat < 0xE000) (hrs : (s.core k).rstack.length ≤ 7) (hfl : (s.core k).inflight = []) :
    gives (.extensionCall k) s fun t => (t.core k).pc = 0xE000#16 ∧ (t.core k).rstack = (s.core k).pc :: (s.core k).rstack
        ∧ (t.core k).extLeft = 1875 - (s.core k).cycles ∧ (t.core k).a[(0 : Fin 8)] = BitVec.ofNat 16 (1875 - (s.core k).cycles)
        ∧ (t.core k).inExt = true ∧ (t.core k).data = (s.core k).data
      ∧ (∀ j : CoreId, j ≠ k → t.core j = s.core j) ∧ t.ports = s.ports ∧ t.pool = s.pool := by
  refine gives_of_exec (congrArg Host.Outcome.next (if_pos ?_)) ?_
  · rw [hrun, hext, hcall, hrep, hwait, hb, hd, decide_eq_true hpc, decide_eq_true hrs]
    rfl
  · rw [State.drain_of_empty hfl, State.core_modCore, State.core_modCore]
    refine ⟨rfl, rfl, rfl, Vector.getElem_set_self _, rfl, rfl, fun j hj => ?_, rfl, rfl⟩
    rw [State.core_modCore_ne _ hj, State.core_modCore_ne _ hj]

theorem illegal_traps (why : IllegalWhy) (hrun : (s.core k).running = true) (hrep : (s.core k).rep = none)
    (hwait : (s.core k).waiting = false) (hcyc : (s.core k).cycles < 1875) (hfl : (s.core k).inflight = [])
    (hothers : ∀ j : CoreId, j ≠ k → (s.core j).waiting = false) :
    gives (.illegalOperation k why) s fun t => (t.core k).running = false ∧ (t.core k).flagTrap = true
        ∧ (t.core k).trapAddr = (s.core k).pc ∧ (t.core k).traps = satIncr (s.core k).traps ∧ t.raisedAt (201 + k.val) = true
        ∧ (t.core k).data = (s.core k).data
      ∧ (∀ j : CoreId, j ≠ k → t.core j = s.core j) := by
  have htrap := State.trap_of_empty (s := s) (k := k) 1 hfl
  have hquiet : ∀ j : CoreId, ((s.trap k 1).core j).waiting = false := by
    intro j
    rw [htrap, State.raise_core]
    by_cases hj : j = k
    · rw [hj, State.core_modCore]; rfl
    · rw [State.core_modCore_ne _ hj]; exact hothers j hj
  refine gives_of_exec (congrArg Host.Outcome.next
    ((if_pos (by rw [hrun, hrep, hwait, decide_eq_true (show (s.core k).cycles < frame from hcyc)]; rfl)).trans (State.wake_of_quiet hquiet))) ?_
  rw [htrap, State.raise_core, State.core_modCore]
  refine ⟨rfl, rfl, rfl, rfl, State.raise_raised _ _ (reservedSource_trap k), rfl, fun j hj => ?_⟩
  rw [State.raise_core, State.core_modCore_ne _ hj]

/-- Settles O16: entry, pause, overrun, the extension call and the illegal operation. -/
theorem coreFrame : Obligations.CoreFrame := by
  unfold Obligations.CoreFrame
  exact ⟨fun k s => beatEntry_fresh, fun k s => beatEntry_stopped, fun k s => repeat_pauses, fun k s => beat_overruns,
    fun k s => extension_enters, fun k why s => illegal_traps why⟩

end Sys2Proof.Machine
end

section
/-! O58 and O59, refuted: a RET whose bundle finds a write of the trap control register due, and a word that fails parity at a source of
severity DEVICE_SAFE. -/

namespace Sys2Proof.Machine

/-- Core 0 runs within one call, and a write that sets DZT is due. -/
def dztDue : State :=
  State.reset.modCore 0 fun c =>
    { c with running := true, cycles := 10, pc := 0x100, rstack := [0x40], inflight := [(1, .mem 0xC010 [1, 0, 0, 0])] }

/-- DZT of core 0 after the command. -/
def dzt0 (o : Host.Outcome State Fault Refusal) : Bool :=
  match o with
  | .next t => (t.core 0).dzt
  | _ => false

theorem exec_ret_dztDue : dzt0 (exec (.ret 0 wholeBundle) dztDue) = true := by decide +kernel

theorem dztDue_sole : dztDue.sole 0 wholeBundle .ret :=
  ⟨by decide +kernel, by decide +kernel, by decide +kernel, by decide +kernel, by decide +kernel, by decide +kernel, by decide +kernel,
    by decide +kernel, by decide +kernel⟩

/-- Core 8 runs and names Q20, which holds one record of cluster 0's stage log; P0's stage runs, and every source has severity
DEVICE_SAFE. -/
def logPopSafe : State :=
  (({ State.reset with
    board := { Board.reset with svcOn := true, mainOn := true, afeLink := Vector.replicate 4 true }
    dev := { Dev.reset with ready0 := 0x00FFFFFF#32 }
    faults := { Faults.reset with sev := Vector.replicate 256 3 }
    pool := { Pool.reset with capacity := 15856, pdReserve := 512 }.modQ 20 fun q =>
      { q with closed := [mkPacket Pool.reset .none [0#8, 0, 0, 0]] } } : State).modPort 0 fun x =>
      { x with stage := { x.stage with mode := .forward } }).modCore 8 fun c =>
    { c with running := true, cycles := 10, a := c.a.set 1 20 }

/-- Packets closed in Q20 after the command. -/
def closed20 (o : Host.Outcome State Fault Refusal) : Nat :=
  match o with
  | .next t => (t.pool.queues[(20 : QueueId)]).closed.length
  | _ => 0

theorem exec_qpop_logPopSafe : closed20 (exec (.qpop 8 wholeBundle (.reg 0) (.reg 1) .parity) logPopSafe) = 2 := by decide +kernel

theorem logPopSafe_sole : logPopSafe.sole 8 wholeBundle (.qpop (.reg 0) (.reg 1) .parity) :=
  ⟨by decide +kernel, by decide +kernel, by decide +kernel, by decide +kernel, by decide +kernel, by decide +kernel, by decide +kernel,
    by decide +kernel, by decide +kernel⟩

end Sys2Proof.Machine
end

section
/-! O58 and O59, settled. -/

namespace Sys2Proof
open Machine

/-- Refutes O58: a result due with RET's bundle may set DZT (R450, R456), which stays set where RET leaves no extension. -/
theorem not_sorrelControl : ¬ Obligations.SorrelControl := by
  unfold Obligations.SorrelControl
  rintro ⟨-, -, -, hret, -⟩
  have he := hret 0 wholeBundle 0x40 [] dztDue dztDue_sole (by decide +kernel)
  have hdzt := exec_ret_dztDue
  rw [he] at hdzt
  exact absurd hdzt (by decide +kernel)

/-- Refutes O59: the reaction to POOL_PARITY stops the stages (R349, R350), and their records join Q20 (R279), from which the word came. -/
theorem not_sorrelQueues : ¬ Obligations.SorrelQueues := by
  unfold Obligations.SorrelQueues
  rintro ⟨-, -, -, -, -, -, -, -, -, -, -, -, -, -, hparity, -⟩
  obtain ⟨t, he, -, -, hclosed, -⟩ := hparity 8 wholeBundle (.reg 0) (.reg 1) 20 (mkPacket Pool.reset .none [0#8, 0, 0, 0]) [] logPopSafe
    logPopSafe_sole (by decide +kernel) (by decide +kernel) (by decide +kernel) (by decide +kernel) (by decide +kernel) (by decide +kernel)
  have htwo := exec_qpop_logPopSafe
  rw [he] at htwo
  have hone := congrArg List.length hclosed
  rw [List.length_map, show (t.pool.queues[(20 : QueueId)]).closed.length = 2 from htwo] at hone
  exact absurd hone (by decide)

end Sys2Proof
end

section
/-! The fault and log commands (R356–R361, R414). -/

namespace Sys2Proof.Machine

/-! ### The cells that a command leaves free -/

theorem sum_map_set_le {α} (f : α → Nat) (x : α) : ∀ (l : List α) (i : Nat), (∀ h : i < l.length, f x ≤ f l[i]) →
    ((l.set i x).map f).sum ≤ (l.map f).sum
  | [], _, _ => Nat.le_refl _
  | a :: l, 0, h => by
    have hx : f x ≤ f a := h (by simp)
    simpa using hx
  | a :: l, i + 1, h => by
    have ih := sum_map_set_le f x l i fun hi => h (by simpa using hi)
    simpa using ih

/-- A packet not yet begun takes its cells with it. -/
theorem Queue.general_tail_le {x : Queue} (h : x.popped = 0) : x.tail.general ≤ x.general := by
  have hsum : ∀ l : List Packet, (l.tail.map fun k => if k.refusal then 0 else k.cells - k.res).sum
      ≤ (l.map fun k => if k.refusal then 0 else k.cells - k.res).sum := by
    intro l
    cases l with
    | nil => exact Nat.le_refl _
    | cons a l => simp
  have h0 : freedCells 0 = 0 := rfl
  have hc := hsum x.closed
  unfold Queue.general Queue.tail Queue.whole
  simp only [List.map_append, List.sum_append, h, h0]
  omega

theorem Pool.free_pop_le {m : Pool} {q : QueueId} (h : (m.queues[q]).popped = 0) : m.free ≤ (m.pop q).free := by
  have hle : (((m.pop q).queues).toList.map Queue.general).sum ≤ (m.queues.toList.map Queue.general).sum := by
    unfold Pool.pop Pool.modQ
    rw [Vector.toList_set]
    exact sum_map_set_le _ _ _ _ fun hi => Queue.general_tail_le h
  unfold Pool.free
  have hcap : (m.pop q).capacity = m.capacity := rfl
  have hret : (m.pop q).retired = m.retired := rfl
  omega

/-! ### What is ACTIVE once a command is taken -/

section
variable {s u : State} {st : Stream} {opc : Nat} {c : Cmd}

/-- The queue of the next command is at the boundary of a packet. -/
theorem State.nextCommand_boundary {q : QueueId} {k : Packet} (h : s.nextCommand st = some (q, k)) : (s.pool.queues[q]).popped = 0 := by
  have hat : ∀ r : QueueId, (if (s.pool.queues[r]).popped = 0 then (s.pool.head r).map fun k => (r, k) else none) = some (q, k) →
      (s.pool.queues[q]).popped = 0 := by
    intro r hr
    split at hr
    next hz =>
      obtain ⟨k', -, he⟩ := Option.map_eq_some_iff.mp hr
      obtain ⟨rfl, -⟩ := Prod.mk.inj he
      exact hz
    · cases hr
  unfold State.nextCommand at h
  cases st with
  | host =>
    dsimp only at h
    split at h
    next e he =>
      cases h
      exact hat _ he
    · exact hat _ h
  | service => exact hat _ (Option.filter_eq_some_iff.mp h).1
  | ended => exact hat _ (Option.filter_eq_some_iff.mp h).1
  | forwarded => exact hat _ h

theorem State.takes_free (h : s.takes st opc c u) : s.pool.free ≤ u.pool.free ∧ u.pool.wmark = s.pool.wmark := by
  obtain ⟨⟨q, k, -, -, -, hnext, -, -, -, -, rfl⟩, -⟩ := h
  exact ⟨Pool.free_pop_le (State.nextCommand_boundary hnext), rfl⟩

theorem State.takes_links (h : s.takes st opc c u) :
    u.yarrow.pa = s.yarrow.pa ∧ u.yarrow.pb = s.yarrow.pb ∧ u.yarrow.rootLost = s.yarrow.rootLost ∧ u.yarrow.link = s.yarrow.link := by
  obtain ⟨⟨q, k, -, -, -, -, -, -, -, -, rfl⟩, -⟩ := h
  by_cases hf : c.stream = .forwarded <;> simp [State.modYarrow, State.takeCommand, hf]

/-- Taking a command makes no source ACTIVE. -/
theorem State.takes_active (h : s.takes st opc c u) {n : Nat} (hn : active u n = true) : active s n = true := by
  obtain ⟨hboard, -, hports, hclusters, hcores, -, hfaults, hfeed, hbudget, -⟩ := State.takes_state h
  obtain ⟨hpa, hpb, hroot, hlink⟩ := State.takes_links h
  obtain ⟨hfree, hwmark⟩ := State.takes_free h
  have hport : ∀ p, portActive u (u.port p) = portActive s (s.port p) := by
    intro p
    unfold portActive State.port
    rw [hports, hfeed]
  unfold active at hn ⊢
  rw [hfaults] at hn
  rw [Bool.or_eq_true] at hn ⊢
  refine hn.imp_left fun hc => ?_
  by_cases h212 : n = 212
  · subst h212
    have hlow : u.pool.free < u.pool.wmark := of_decide_eq_true hc
    exact decide_eq_true (by omega : s.pool.free < s.pool.wmark)
  · by_cases h213 : n = 213
    · subst h213
      have hnone : u.pool.free = 0 := of_decide_eq_true hc
      exact decide_eq_true (by omega : s.pool.free = 0)
    · unfold condActive at hc ⊢
      simp only [h212, h213, if_false, hboard, hclusters, hbudget, hpa, hpb, hroot, hlink, hfeed, hcores, hport] at hc ⊢
      exact hc

theorem State.takes_holder (h : s.takes st opc c u) (hs : s.holder = none) : u.holder = none := by
  obtain ⟨-, -, -, -, -, -, hfaults, -⟩ := State.takes_state h
  unfold State.holder at hs ⊢
  rw [List.find?_eq_none] at hs ⊢
  intro n hn hu
  rw [Bool.and_eq_true] at hu
  have hsev : u.sevOf n = s.sevOf n := by
    unfold State.sevOf
    rw [hfaults]
  refine hs n hn ?_
  rw [Bool.and_eq_true, ← hsev]
  exact ⟨hu.1, State.takes_active h hu.2⟩

end

end Sys2Proof.Machine
end

section
/-! The rows of the fault and log commands (R356–R361, R414). -/

namespace Sys2Proof.Machine

variable {s u : State} {st : Stream} {opc : Nat} {c : Cmd}

theorem subBit_of_odd {i : Nat} (h : c.b 0 / 2 ^ i % 2 = 1) : subBit i c = true := by
  simp [subBit, h]

theorem runFaultClear_of_held {n : Nat} (hbit : c.b 0 % 2 = 1) (hn : u.holder = some n) :
    runFaultClear c u = .refuse ⟨0x8B, leBytes 1 n ++ [0, 0, 0]⟩ := by
  unfold runFaultClear
  simp [hbit, hn]

/-- FAULT_CLEAR's effect with the three bits of its WHAT. -/
theorem runFaultClear_of_free {v : Nat} (hb : c.b 0 = v) (hfree : v % 2 = 0 ∨ u.holder = none) :
    runFaultClear c u = .ok fun t =>
      (if v / 2 ^ 0 % 2 == 1 then t.releaseLatch else t).modFaults fun g => { g with
        raised := if v / 2 ^ 1 % 2 == 1 then 0 else g.raised
        log := if v / 2 ^ 2 % 2 == 1 then [] else g.log
        logFirst := if v / 2 ^ 2 % 2 == 1 then g.logFirst + g.log.length else g.logFirst } := by
  have hnone : (if (v / 2 ^ 0 % 2 == 1) = true then u.holder else none) = none := by
    obtain h | h := hfree
    · simp [h]
    · simp [h]
  unfold runFaultClear
  dsimp only
  rw [hb, hnone]

theorem runFaultSeverity_of_read (hop : c.b 1 = 0) (hn : 1 ≤ c.h 2) (hend : c.b 0 + c.h 2 ≤ 256) :
    runFaultSeverity c u
      = .give (c.payload.take 4 ++ ((u.faults.sevWork.toList.drop (c.b 0)).take (c.h 2)).map fun v => BitVec.ofNat 8 v.toNat) := by
  unfold runFaultSeverity
  dsimp only
  rw [if_neg (by omega), if_pos hop]

theorem runFaultSeverity_of_write (hop : c.b 1 = 1) (hn : 1 ≤ c.h 2) (hend : c.b 0 + c.h 2 ≤ 256)
    (hok : ((List.range (c.h 2)).all fun i => decide (c.b (4 + i) ≤ 3) && sevOk (c.b 0 + i) (c.b (4 + i))) = true) :
    runFaultSeverity c u = .ok fun t => t.modFaults fun g => { g with sevNext := some ((List.range (c.h 2)).foldl
      (fun (v : Vector (BitVec 2) 256) i => v.setIfInBounds (c.b 0 + i) (BitVec.ofNat 2 (c.b (4 + i)))) g.sevWork) } := by
  unfold runFaultSeverity
  dsimp only
  rw [if_neg (by omega), if_neg (by omega), if_neg (by rw [hok]; decide)]
  rfl

theorem runFaultSeverity_of_range (hop : c.b 1 = 1)
    (hbad : c.h 2 = 0 ∨ 256 < c.b 0 + c.h 2
      ∨ ((List.range (c.h 2)).all fun i => decide (c.b (4 + i) ≤ 3) && sevOk (c.b 0 + i) (c.b (4 + i))) = false) :
    runFaultSeverity c u = .refuse .range := by
  unfold runFaultSeverity
  dsimp only
  split
  · rfl
  next hin =>
    have hall : ((List.range (c.h 2)).all fun i => decide (c.b (4 + i) ≤ 3) && sevOk (c.b 0 + i) (c.b (4 + i))) = false := by
      obtain h | h | h := hbad
      · exact absurd (.inr (.inl h)) hin
      · exact absurd (.inr (.inr h)) hin
      · exact h
    rw [if_neg (by omega), if_pos (by rw [hall]; rfl)]

theorem runFaultForce_of_range (hbad : reservedSource (c.b 0) = true ∨ forceCodeOk (c.b 0) (c.b 2) = false) :
    runFaultForce c u = .refuse .range := by
  unfold runFaultForce
  obtain h | h := hbad <;> simp [h]

theorem runFaultForce_of_clear (hop : c.b 1 = 0) (hsrc : reservedSource (c.b 0) = false) (hcode : forceCodeOk (c.b 0) (c.b 2) = true) :
    runFaultForce c u = .ok fun t => t.modFaults fun g => { g with force := g.force &&& ~~~ BitVec.twoPow 256 (c.b 0) } := by
  unfold runFaultForce
  simp [hop, hsrc, hcode]

theorem runFaultForce_of_set (hop : c.b 1 = 1) (hsrc : reservedSource (c.b 0) = false) (hcode : forceCodeOk (c.b 0) (c.b 2) = true) :
    runFaultForce c u = if u.faults.force.getLsbD (c.b 0) then .ok id else .ok fun t => t.modFaults fun g =>
      { g with force := setBit256 g.force (c.b 0)
               forceDue := g.forceDue ++ [{ src := c.b 0, code := c.b 2, detail := c.b 3, extra := 0, forced := true, deferred := false }] } := by
  unfold runFaultForce
  simp [hop, hsrc, hcode]

theorem runLogRead_of_fault {start : Nat} {recs : List FaultRec} (h0 : c.b 0 = 0) (h1 : c.b 1 = 0) (hn : 1 ≤ c.h 2) (hn' : c.h 2 ≤ 255)
    (hoff : (c.w 8).toNat = 0) (hstart : start = max (c.w 4).toNat u.faults.logFirst)
    (hrecs : recs = (u.faults.log.drop (start - u.faults.logFirst)).take (c.h 2)) :
    runLogRead c u = .give (logHead 0 recs.length (BitVec.ofNat 32 start) (BitVec.ofNat 32 (start + recs.length)) (start - (c.w 4).toNat)
      ++ recs.flatMap recBytes) := by
  subst hrecs hstart
  unfold runLogRead
  dsimp only
  rw [h0, hoff, if_neg (by decide), if_neg (by simp [h1]), if_neg (by decide), if_neg (by omega), if_pos rfl]

theorem runLogRead_of_stage {q : QueueId} {ks : List Packet} {data : List Byte} (h0 : c.b 0 = 1) (h1 : c.b 1 ≤ 7) (hn : 1 ≤ c.h 2)
    (hn' : c.h 2 ≤ 255) (hpos : c.w 4 = 0) (hoff : c.w 8 = 0) (hq : q = qLog ⟨c.b 1 % 8, Nat.mod_lt _ (by decide)⟩)
    (hquar : (u.pool.queues[q]).quarantine = false) (hks : ks = (u.pool.queues[q]).closed.take (c.h 2))
    (hdata : data = (ks.filter fun k => !k.bad).flatMap fun k => k.data) :
    runLogRead c u = .answer 0 (logHead 1 (data.length / 16) (Config.freeWord (u.board.free + 0)) (Config.freeWord (u.board.free + 1)) 0 ++ data)
      fun t => (t.readLog q ks).drawn.drawn := by
  have hpos' : (c.w 4).toNat = 0 := by rw [hpos]; rfl
  have hoff' : (c.w 8).toNat = 0 := by rw [hoff]; rfl
  subst hdata hks hq
  unfold runLogRead
  dsimp only
  rw [h0, hpos', hoff', if_neg (by decide), if_pos rfl, if_neg (by simpa using h1), if_neg (by decide), if_neg (by omega),
    if_neg (by decide), if_pos rfl, hquar]
  rfl

theorem runLogRead_of_list {es : List (Nat × Nat)} (h0 : c.b 0 = 2) (h1 : c.b 1 = 0) (hn : 1 ≤ c.h 2) (hn' : c.h 2 ≤ 255)
    (hpos : c.w 4 = 0) (hoff : c.w 8 = 0) (hes : es = (u.store.snaps.foldr insertSnap []).take (c.h 2)) :
    runLogRead c u = .answer 0 (logHead 2 es.length (Config.freeWord (u.board.free + 0)) (Config.freeWord (u.board.free + 1)) 0
      ++ es.flatMap fun e => u32 e.1 ++ leBytes 1 e.2 ++ [1, 0, 0]) fun t => t.drawn.drawn := by
  have hpos' : (c.w 4).toNat = 0 := by rw [hpos]; rfl
  have hoff' : (c.w 8).toNat = 0 := by rw [hoff]; rfl
  subst hes
  unfold runLogRead
  dsimp only
  rw [h0, hpos', hoff', if_neg (by decide), if_neg (by simp [h1]), if_neg (by decide), if_neg (by omega), if_neg (by decide),
    if_neg (by decide)]

/-- The part of LOG_READ that delivers bytes of a snapshot. -/
theorem runLogRead_of_snapshot (h0 : c.b 0 = 3) (h1 : c.b 1 = 0) :
    runLogRead c u = if c.h 2 < 4 ∨ 4096 < c.h 2 ∨ c.h 2 % 4 ≠ 0 ∨ (c.w 8).toNat % 4 ≠ 0 ∨ 4096 < (c.w 8).toNat + c.h 2 then .refuse .range
      else (u.store.snaps.find? fun e => e.1 == (c.w 4).toNat).elim (.refuse .range) fun e =>
        .answer 0 (logHead 3 ((Config.freeWord (u.board.free + 0)).toNat % 256) (Config.freeWord (u.board.free + 1))
            (Config.freeWord (u.board.free + 2)) 0
          ++ u.store.flash.readN erased (snapBase + 4096 * e.2 + (c.w 8).toNat) (min (c.h 2) 4080)) fun t => t.drawn.drawn.drawn := by
  unfold runLogRead
  dsimp only
  rw [h0, if_neg (by decide), if_neg (by simp [h1]), if_pos rfl]
  split
  · rfl
  · split <;> simp [*]

theorem State.takes_faults (h : s.takes st opc c u) : u.faults = s.faults := by
  obtain ⟨-, -, -, -, -, -, hfaults, -⟩ := State.takes_state h
  exact hfaults

theorem State.takes_board (h : s.takes st opc c u) : u.board = s.board := (State.takes_state h).1

end Sys2Proof.Machine
end

section
/-! O50, settled. -/

namespace Sys2Proof
open Machine

/-- Settles O50: each clause is the answer of its row to a command that is taken. -/
theorem faultCommands : Obligations.FaultCommands := by
  unfold Obligations.FaultCommands
  refine ⟨?status, ?latch, ?held, ?raised, ?log, ?all, ?sevRead, ?sevWrite, ?sevRange, ?forceSet, ?forceAgain, ?forceClear, ?forceRange,
    ?logFault, ?logStage, ?logList, ?logSnapshot, ?logMissing⟩
  case status =>
    intro st c u s h hfit
    exact congrArg _ (State.serve_of_give h rfl rfl hfit)
  case latch =>
    intro st c u s h hb hfree
    exact congrArg _ (State.serve_of_ok h (subBit_of_odd (by rw [hb]; rfl)) (runFaultClear_of_free hb (.inr (State.takes_holder h hfree))))
  case held =>
    intro st c u n s h hbit hn
    exact congrArg _ (State.serve_of_refuse h (subBit_of_odd (by simpa using hbit)) (runFaultClear_of_held hbit hn))
  case raised =>
    intro st c u s h hb
    exact congrArg _ (State.serve_of_ok h (subBit_of_odd (by rw [hb]; rfl)) (runFaultClear_of_free hb (.inl rfl)))
  case log =>
    intro st c u s h hb
    exact congrArg _ (State.serve_of_ok h (subBit_of_odd (by rw [hb]; rfl)) (runFaultClear_of_free hb (.inl rfl)))
  case all =>
    intro st c u i s h hi hb hfree
    have hrun := runFaultClear_of_free hb (.inr (State.takes_holder h hfree))
    obtain rfl | rfl | rfl := hi <;> exact congrArg _ (State.serve_of_ok h (subBit_of_odd (by rw [hb]; rfl)) hrun)
  case sevRead =>
    intro st c u d s h hop hn hend hd hfit
    subst hd
    rw [← State.takes_faults h] at hfit ⊢
    exact congrArg _ (State.serve_of_give h (subAt_self _ hop) (runFaultSeverity_of_read hop hn hend) hfit)
  case sevWrite =>
    intro st c u s h hop hn hend hok
    exact congrArg _ (State.serve_of_ok h (subAt_self _ hop) (runFaultSeverity_of_write hop hn hend hok))
  case sevRange =>
    intro st c u s h hop hbad
    exact congrArg _ (State.serve_of_refuse h (subAt_self _ hop) (runFaultSeverity_of_range hop hbad))
  case forceSet =>
    intro st c u s h hop hsrc hcode hclear
    rw [← State.takes_faults h] at hclear
    exact congrArg _ (State.serve_of_ok h (subAt_self _ hop) ((runFaultForce_of_set hop hsrc hcode).trans (if_neg (by simp [hclear]))))
  case forceAgain =>
    intro st c u s h hop hsrc hcode hset
    rw [← State.takes_faults h] at hset
    exact congrArg _ (State.serve_of_ok h (subAt_self _ hop) ((runFaultForce_of_set hop hsrc hcode).trans (if_pos hset)))
  case forceClear =>
    intro st c u s h hop hsrc hcode
    exact congrArg _ (State.serve_of_ok h (subAt_self _ hop) (runFaultForce_of_clear hop hsrc hcode))
  case forceRange =>
    intro st c u i s h hi hbad
    obtain ⟨rfl, hop⟩ | ⟨rfl, hop⟩ := hi <;>
      exact congrArg _ (State.serve_of_refuse h (subAt_self _ hop) (runFaultForce_of_range hbad))
  case logFault =>
    intro st c u start recs s h h0 h1 hn hn' hoff hstart hrecs hfit
    rw [← State.takes_faults h] at hstart hrecs
    exact congrArg _ (State.serve_of_give h (subAt_self _ h0) (runLogRead_of_fault h0 h1 hn hn' hoff hstart hrecs) hfit)
  case logStage =>
    intro st c u q ks s h h0 h1 hn hn' hpos hoff hq hquar hks hfit
    rw [← State.takes_board h] at hfit ⊢
    exact congrArg _ (State.serve_of_answer h (subAt_self _ h0) (runLogRead_of_stage h0 h1 hn hn' hpos hoff hq hquar hks rfl) hfit)
  case logList =>
    intro st c u es s h h0 h1 hn hn' hpos hoff hes hfit
    rw [← State.takes_board h] at hfit ⊢
    rw [← State.takes_store h] at hes
    exact congrArg _ (State.serve_of_answer h (subAt_self _ h0) (runLogRead_of_list h0 h1 hn hn' hpos hoff hes) hfit)
  case logSnapshot =>
    intro st c u e d s h h0 h1 hn hn4 hoff hend hfind hd hfit
    rw [← State.takes_board h, ← State.takes_store h] at hd
    rw [← State.takes_store h] at hfind
    subst hd
    have hrun := (runLogRead_of_snapshot (u := u) h0 h1).trans (if_neg (by omega))
    rw [hfind] at hrun
    exact congrArg _ (State.serve_of_answer h (subAt_self _ h0) hrun hfit)
  case logMissing =>
    intro st c u s h h0 h1 hfind
    rw [← State.takes_store h] at hfind
    have hrun := runLogRead_of_snapshot (u := u) h0 h1
    rw [hfind] at hrun
    exact congrArg _ (State.serve_of_refuse h (subAt_self _ h0) (hrun.trans (ite_self _)))

end Sys2Proof
end

section
/-! What an answer leaves alone: the ready bits, and the clusters but for their Cn_SEN_N (R350, R380). -/

namespace Sys2Proof.Machine

variable {s : State}

/-- The ready bits and what a cluster keeps through every raise. -/
def State.gear (s : State) := (s.dev.ready0, s.sensed)

theorem foldl_gear {α} (f : State → α → State) (h : ∀ t a, (f t a).gear = t.gear) (l : List α) (s : State) :
    (l.foldl f s).gear = s.gear := by
  induction l generalizing s with
  | nil => rfl
  | cons a l ih => exact (ih _).trans (h s a)

@[simp] theorem State.modPool_gear (f : Pool → Pool) : (s.modPool f).gear = s.gear := rfl
@[simp] theorem State.modHost_gear (f : HostPort → HostPort) : (s.modHost f).gear = s.gear := rfl
@[simp] theorem State.modYarrow_gear (f : Yarrow → Yarrow) : (s.modYarrow f).gear = s.gear := rfl
@[simp] theorem State.raise_gear (r : Raise) : (s.raise r).gear = s.gear := Prod.ext (State.raise_ready0 ..) (State.raise_sensed ..)

@[simp] theorem State.found_gear (q : QueueId) (o : CellObs) : (s.found q o).gear = s.gear := by
  unfold State.found State.quarantine
  split <;> simp

@[simp] theorem State.originateAll_gear (dst : BitVec 12) (type : Nat) (payload : List Byte) :
    (s.originateAll dst type payload).gear = s.gear := by
  unfold State.originateAll State.originate
  split <;> rfl

@[simp] theorem State.sendFragments_gear (k : Packet) : (s.sendFragments k).gear = s.gear := by
  unfold State.sendFragments
  split
  · split
    · simp
    · exact foldl_gear _ (fun t p => by simp) _ _
  · rfl

@[simp] theorem State.drainFwd_gear : s.drainFwd.gear = s.gear := by
  unfold State.drainFwd
  dsimp only
  split
  · rfl
  · rw [foldl_gear _ (fun t k => by simp)]
    rfl

@[simp] theorem State.sendFwdReply_gear (node : BitVec 12) (pkt : List Byte) : (s.sendFwdReply node pkt).gear = s.gear := by
  unfold State.sendFwdReply
  split
  · exact foldl_gear _ (fun t i => by simp) _ _
  · simp

@[simp] theorem State.replyFwd_gear (tag : Byte) (pkt : List Byte) : (s.replyFwd tag pkt).gear = s.gear := by
  unfold State.replyFwd
  split <;> simp

@[simp] theorem State.sendReply_gear (c : Cmd) (dup : Bool) (status : Nat) (data : List Byte) :
    (s.sendReply c dup status data).gear = s.gear := by
  unfold State.sendReply
  dsimp only
  split
  · split <;> simp
  · simp
  · split <;> simp
  · rfl

theorem State.feedOn_of_gear {t : State} (h : t.gear = s.gear) : t.feedOn = s.feedOn := by
  unfold State.feedOn
  rw [show t.dev.ready0 = s.dev.ready0 from congrArg (fun r => r.1) h]

theorem State.portTrimmed_of_gear {t : State} (h : t.gear = s.gear) (p : PortId) : t.portTrimmed p = s.portTrimmed p := by
  have hk := State.cluster_of_sensed (congrArg (fun r => r.2) h) (clusterOf p)
  unfold State.portTrimmed
  rw [show (t.cluster (clusterOf p)).trimmed = (s.cluster (clusterOf p)).trimmed by simpa using congrArg Cluster.trimmed hk,
    show (t.cluster (clusterOf p)).trimPart = (s.cluster (clusterOf p)).trimPart by simpa using congrArg Cluster.trimPart hk]

theorem State.now_of_kept {t : State} (h : t.kept = s.kept) : t.now = s.now := congrArg (fun r => r.2.2.2.1) h

end Sys2Proof.Machine
end

section
/-! The rows of the port commands (R114, R407–R410). -/

namespace Sys2Proof.Machine

variable {u : State} {c : Cmd}

theorem runPortConfig_of_fault {r : Refuse} (h : checkEntries c.stream c.tag c.port 1 0 c.configWords u = some r) :
    runPortConfig c u = .refuse r := by
  unfold runPortConfig
  rw [h]

theorem runPortConfig_of_sound (h : checkEntries c.stream c.tag c.port 1 0 c.configWords u = none) :
    runPortConfig c u = .ok (putEntries c.stream c.tag c.port c.configWords) := by
  unfold runPortConfig
  rw [h]

/-- PORT_ENABLE once its OP is one of the three and the trim and DEVICE_HOLD allow it. -/
theorem runPortEnable_of_allowed (hop : c.b 0 ≤ 2) (htrim : (u.port c.port).tc.trimFail = none) (hhold : u.faults.hold = false) :
    runPortEnable c u =
      if c.b 0 = 0 then
        .ok fun t => if (u.port c.port).tc.st == .disabled then t.setEn c.port 0
          else (t.dropPort c.port 0x85 8 (Port.toDisabled (isService c.port) t.now t.feedOn)).setEn c.port 0
      else if (u.port c.port).tc.st.down then .ok fun t => t.enable c.port (c.b 0 == 2)
      else if c.b 0 = 1 then .ok id
      else .refuse .state := by
  unfold runPortEnable
  dsimp only
  rw [if_neg (by omega), if_neg (by rw [htrim]; decide), if_neg (by rw [hhold]; decide)]

theorem runPortEnable_of_trimFail (hop : c.b 0 ≤ 2) (htrim : (u.port c.port).tc.trimFail.isSome = true) :
    runPortEnable c u = .refuse .denied := by
  unfold runPortEnable
  dsimp only
  rw [if_neg (by omega), if_pos htrim]

theorem runPortEnable_of_hold (hop : c.b 0 ≤ 2) (htrim : (u.port c.port).tc.trimFail = none) (hhold : u.faults.hold = true) :
    runPortEnable c u = .refuse .state := by
  unfold runPortEnable
  dsimp only
  rw [if_neg (by omega), if_neg (by rw [htrim]; decide), if_pos hhold]

theorem State.enable_of_trimmed {p : PortId} (recal : Bool) (h : u.portTrimmed p = true) :
    u.enable p recal = u.updPort p (Port.enableNow (isService p) u.now recal) := if_pos h

theorem State.enable_of_untrimmed {p : PortId} (h : u.portTrimmed p = false) :
    u.enable p false = (u.modPort p fun x => { x with cfg := { x.cfg with enable := 1 } }).modCluster (clusterOf p) fun k =>
      { k with trimStart := true } := by
  unfold State.enable State.setEn
  rw [if_neg (by rw [h]; decide)]
  congr 1
  unfold State.modPort
  simp

theorem runPortMoisture_of_read (h : c.b 0 = 0) : runPortMoisture c u = .give (u.port c.port).moistBytes := if_pos h

theorem runPortMoisture_of_recheck (h : c.b 0 = 1) :
    runPortMoisture c u = if (u.port c.port).tc.st == .dryWait then
        .answer 0 (u.port c.port).moistBytes fun t => t.modPort c.port fun y => y.arm tHealth .dryRecheck 1
      else .refuse .state := by
  unfold runPortMoisture
  dsimp only
  rw [if_neg (by omega), if_pos h]

theorem runPortErrorRecovery_of_state (h : u.faults.hold = true ∨ (u.port c.port).tc.st.down = true) :
    runPortErrorRecovery c u = .refuse .state := if_pos (by rw [Bool.or_eq_true]; exact h)

theorem runPortErrorRecovery_of_up (hhold : u.faults.hold = false) (hdown : (u.port c.port).tc.st.down = false) :
    runPortErrorRecovery c u = .ok fun t => if (u.port c.port).tc.st.recovers then t.errorRecovery c.port 8 else t :=
  if_neg (by rw [hhold, hdown]; decide)

theorem Tc.down_of_recovers {t : Tc} (h : t.recovers = true) : t.down = false := by
  revert h; cases t <;> decide

theorem State.takes_port {s u : State} {st : Stream} {opc : Nat} {c : Cmd} (h : s.takes st opc c u) (p : PortId) : u.port p = s.port p := by
  obtain ⟨-, -, hports, -⟩ := State.takes_state h
  unfold State.port
  rw [hports]

theorem State.takes_feedOn {s u : State} {st : Stream} {opc : Nat} {c : Cmd} (h : s.takes st opc c u) : u.feedOn = s.feedOn := by
  obtain ⟨-, hdev, -⟩ := State.takes_state h
  unfold State.feedOn
  rw [hdev]

end Sys2Proof.Machine
end

section
/-! O46, settled. -/

namespace Sys2Proof
open Machine

/-- Settles O46: each clause is the answer of its row to a command that is taken. -/
theorem portCommands : Obligations.PortCommands := by
  unfold Obligations.PortCommands
  refine ⟨?config, ?configFault, ?disable, ?disabled, ?enable, ?enableTrim, ?enabled, ?recalibrate, ?recalibrateUp, ?trimFail, ?hold, ?status,
    ?calStatus, ?moisture, ?recheck, ?recheckState, ?recovery, ?recoveryState, ?recovering⟩
  case config =>
    intro st c u s h hok
    exact congrArg _ (State.serve_of_ok h rfl (runPortConfig_of_sound hok))
  case configFault =>
    intro st c u r s h hbad
    exact congrArg _ (State.serve_of_refuse h rfl (runPortConfig_of_fault hbad))
  case disable =>
    intro st c u s h hop htrim hhold hst
    rw [← State.takes_port h] at htrim hst
    rw [← State.takes_faults h] at hhold
    have hrun := (runPortEnable_of_allowed (by omega) htrim hhold).trans (if_pos hop)
    have hserve := State.serve_of_ok h (subAt_self [0, 1, 2] hop) hrun
    refine (congrArg Host.Outcome.next hserve).trans (congrArg Host.Outcome.next ((if_neg (by simpa using hst)).trans ?_))
    rw [State.now_of_kept (State.sendReply_kept ..), State.feedOn_of_gear (State.sendReply_gear ..), State.takes_now h, State.takes_feedOn h]
  case disabled =>
    intro st c u s h hop htrim hhold hst
    rw [← State.takes_port h] at htrim hst
    rw [← State.takes_faults h] at hhold
    have hrun := (runPortEnable_of_allowed (by omega) htrim hhold).trans (if_pos hop)
    exact congrArg _ ((State.serve_of_ok h (subAt_self _ hop) hrun).trans (if_pos (by rw [hst]; rfl)))
  case enable =>
    intro st c u s h hop htrim hhold hdown htrimmed
    rw [← State.takes_port h] at htrim hdown
    rw [← State.takes_faults h] at hhold
    have hrun := ((runPortEnable_of_allowed (by omega) htrim hhold).trans (if_neg (by omega))).trans (if_pos hdown)
    refine congrArg _ ((State.serve_of_ok h (subAt_self _ hop) hrun).trans ?_)
    rw [hop, State.enable_of_trimmed _ (by rwa [State.portTrimmed_of_gear (State.sendReply_gear ..)]),
      State.now_of_kept (State.sendReply_kept ..), State.takes_now h]
    rfl
  case enableTrim =>
    intro st c u s h hop htrim hhold hdown htrimmed
    rw [← State.takes_port h] at htrim hdown
    rw [← State.takes_faults h] at hhold
    have hrun := ((runPortEnable_of_allowed (by omega) htrim hhold).trans (if_neg (by omega))).trans (if_pos hdown)
    refine congrArg _ ((State.serve_of_ok h (subAt_self _ hop) hrun).trans ?_)
    rw [hop]
    exact State.enable_of_untrimmed (by rwa [State.portTrimmed_of_gear (State.sendReply_gear ..)])
  case enabled =>
    intro st c u s h hop htrim hhold hup
    rw [← State.takes_port h] at htrim hup
    rw [← State.takes_faults h] at hhold
    have hrun := (((runPortEnable_of_allowed (by omega) htrim hhold).trans (if_neg (by omega))).trans (if_neg (by simp [hup]))).trans (if_pos hop)
    exact congrArg _ (State.serve_of_ok h (subAt_self _ hop) hrun)
  case recalibrate =>
    intro st c u s h hop htrim hhold hdown htrimmed
    rw [← State.takes_port h] at htrim hdown
    rw [← State.takes_faults h] at hhold
    have hrun := ((runPortEnable_of_allowed (by omega) htrim hhold).trans (if_neg (by omega))).trans (if_pos hdown)
    refine congrArg _ ((State.serve_of_ok h (subAt_self _ hop) hrun).trans ?_)
    rw [hop, State.enable_of_trimmed _ (by rwa [State.portTrimmed_of_gear (State.sendReply_gear ..)]),
      State.now_of_kept (State.sendReply_kept ..), State.takes_now h]
    rfl
  case recalibrateUp =>
    intro st c u s h hop htrim hhold hup
    rw [← State.takes_port h] at htrim hup
    rw [← State.takes_faults h] at hhold
    have hrun := (((runPortEnable_of_allowed (by omega) htrim hhold).trans (if_neg (by omega))).trans (if_neg (by simp [hup]))).trans
      (if_neg (by omega))
    exact congrArg _ (State.serve_of_refuse h (subAt_self _ hop) hrun)
  case trimFail =>
    intro st c u s h hop htrim
    rw [← State.takes_port h] at htrim
    exact congrArg _ (State.serve_of_refuse h (subAt_self _ hop) (runPortEnable_of_trimFail (by omega) htrim))
  case hold =>
    intro st c u s h hop htrim hhold
    rw [← State.takes_port h] at htrim
    rw [← State.takes_faults h] at hhold
    exact congrArg _ (State.serve_of_refuse h (subAt_self _ hop) (runPortEnable_of_hold (by omega) htrim hhold))
  case status =>
    intro st c u s h hfit
    exact congrArg _ (State.serve_of_give h rfl rfl hfit)
  case calStatus =>
    intro st c u s h hfit
    exact congrArg _ (State.serve_of_give h rfl rfl hfit)
  case moisture =>
    intro st c u s h hop hfit
    exact congrArg _ (State.serve_of_give h (subAt_self _ hop) (runPortMoisture_of_read hop) hfit)
  case recheck =>
    intro st c u s h hop hst hfit
    rw [← State.takes_port h] at hst
    exact congrArg _ (State.serve_of_answer h (subAt_self _ hop) ((runPortMoisture_of_recheck hop).trans (if_pos (by rw [hst]; rfl))) hfit)
  case recheckState =>
    intro st c u s h hop hst
    rw [← State.takes_port h] at hst
    exact congrArg _ (State.serve_of_refuse h (subAt_self _ hop) ((runPortMoisture_of_recheck hop).trans (if_neg (by simpa using hst))))
  case recovery =>
    intro st c u s h hhold hst
    rw [← State.takes_port h] at hst
    rw [← State.takes_faults h] at hhold
    have hrun := runPortErrorRecovery_of_up hhold (Tc.down_of_recovers hst)
    have hserve := State.serve_of_ok (sub := anySub) h rfl hrun
    exact (congrArg Host.Outcome.next hserve).trans (congrArg Host.Outcome.next (if_pos hst))
  case recoveryState =>
    intro st c u s h hbad
    rw [← State.takes_port h, ← State.takes_faults h] at hbad
    exact congrArg _ (State.serve_of_refuse h rfl (runPortErrorRecovery_of_state hbad))
  case recovering =>
    intro st c u s h hhold hst
    rw [← State.takes_port h] at hst
    rw [← State.takes_faults h] at hhold
    have hrun := runPortErrorRecovery_of_up hhold (by rw [hst]; rfl)
    exact congrArg _ ((State.serve_of_ok h rfl hrun).trans (if_neg (by rw [hst]; decide)))

end Sys2Proof
end

section
/-! Groups on Yarrow: heartbeats, misses, elections (R334–R339). -/

namespace Sys2Proof.Machine

variable {s : State} {y : YPort} {f : YFrame}

/-! ### A frame that is taken -/

/-- The frame at the head of the port's receive queue has left it. -/
def State.popFrame (s : State) (y : YPort) : State := s.modPool fun m => m.pop (yRx y)

theorem State.takeFrame_of_frameIs {n : Nat} (h : s.frameIs y n f) (act : YFrame → State → State) :
    s.takeFrame y n act = act f (s.popFrame y) := by
  obtain ⟨hon, hat, htype⟩ := h
  unfold State.takeFrame
  rw [if_neg (by rw [hon]; decide), hat]
  exact if_pos htype

/-- Originating a frame leaves all but the transmit queues and the sequence. -/
theorem State.originateAll_eq (s : State) (dst : BitVec 12) (type : Nat) (payload : List Byte) :
    ∃ m n sy k, s.originateAll dst type payload
      = { s with pool := m, yarrow := { s.yarrow with seq := n, sync := sy, sentN := k } } := by
  unfold State.originateAll State.originate
  split
  · exact ⟨_, _, _, _, rfl⟩
  · exact ⟨_, _, _, _, rfl⟩

/-! ### Group grants -/

theorem State.budgetReady_eq (s : State) : ∃ d, s.budgetReady = { s with dev := d } := by
  unfold State.budgetReady
  split
  · exact ⟨_, rfl⟩
  · exact ⟨_, rfl⟩

theorem Budget.want_due (now : Beat) (b : Budget) : (b.want now).due = true := by
  unfold Budget.want
  split
  · assumption
  · rfl

theorem Budget.want_grantG (now : Beat) (b : Budget) : (b.want now).grantG = b.grantG := by
  unfold Budget.want
  split <;> rfl

theorem Budget.want_decaying (now : Beat) (b : Budget) : (b.want now).decaying = b.decaying := by
  unfold Budget.want
  split <;> rfl

/-- A group grant is a matter of the budget and its ready bit. -/
theorem State.takeGrant_eq (s : State) (g : Nat) : ∃ d b, s.takeGrant g = { s with dev := d, budget := b } := by
  unfold State.takeGrant
  split
  · exact ⟨_, _, rfl⟩
  · obtain ⟨d, h⟩ := State.budgetReady_eq
      (s.modBudget fun b => { b with grantG := some g, grantNext := none, decaying := false }.want s.now)
    exact ⟨d, _, h⟩

theorem State.takeGrant_acts (g : Nat) (h : s.feed.brownout = false) :
    (s.takeGrant g).budget.grantG = some g ∧ (s.takeGrant g).budget.due = true ∧ (s.takeGrant g).budget.decaying = false := by
  unfold State.takeGrant
  rw [if_neg (by rw [h]; decide)]
  obtain ⟨d, he⟩ := State.budgetReady_eq
    (s.modBudget fun b => { b with grantG := some g, grantNext := none, decaying := false }.want s.now)
  rw [he]
  exact ⟨Budget.want_grantG .., Budget.want_due .., Budget.want_decaying ..⟩

theorem State.takeGrant_waits (g : Nat) (h : s.feed.brownout = true) :
    s.takeGrant g = s.modBudget fun b => { b with grantNext := some g } := if_pos h

/-! ### What a heartbeat leaves behind, whoever adopts it -/

theorem Yarrow.noteHeartbeat_eq (w : Yarrow) (f : YFrame) : ∃ l, w.noteHeartbeat f = { w with ledger := l } := by
  unfold Yarrow.noteHeartbeat
  split
  · exact ⟨_, rfl⟩
  · exact ⟨_, rfl⟩

theorem Yarrow.noteGrant_eq (w : Yarrow) (f : YFrame) : ∃ l, w.noteGrant f = { w with ledger := l } := by
  unfold Yarrow.noteGrant
  split
  · exact ⟨_, rfl⟩
  · exact ⟨_, rfl⟩

/-- The heartbeat is noted in the ledger and its beat, and the newest TERM kept (R334, R335). -/
def State.beatNoted (s : State) (f : YFrame) : State :=
  { s with yarrow := { (s.yarrow.noteHeartbeat f).noteBeat s.now f.src with
      termMax := if termNewer (hbTerm f) s.yarrow.termMax then hbTerm f else s.yarrow.termMax } }

theorem State.beatNoted_eq (s : State) (f : YFrame) :
    ∃ l b hs tm, s.beatNoted f = { s with yarrow := { s.yarrow with ledger := l, hbBeat := b, hbSrcs := hs, termMax := tm } } := by
  obtain ⟨l, h⟩ := s.yarrow.noteHeartbeat_eq f
  unfold State.beatNoted Yarrow.noteBeat
  rw [h]
  exact ⟨_, _, _, _, rfl⟩

/-- A frame of the group in force. -/
theorem Yarrow.not_other {w : Yarrow} (hg : w.groupNow ≠ 0) (hf : f.payload.getD 0 0 = w.groupNow) :
    ¬ (w.groupNow == 0 || f.payload.getD 0 0 != w.groupNow) = true := by
  rw [Bool.or_eq_true, beq_iff_eq, bne_iff_ne]
  tauto

section
variable (hg : s.yarrow.groupNow ≠ 0) (hf : f.payload.getD 0 0 = s.yarrow.groupNow)
include hg hf

/-- A heartbeat of the group in force, where no change of GROUP waits. -/
theorem State.heartbeat_of_listening (hcfg : s.yarrow.groupCfg = s.yarrow.groupNow) (hst : s.yarrow.gstate = .listening) :
    s.heartbeat f = (s.beatNoted f).adopt f := by
  unfold State.heartbeat
  dsimp only
  rw [if_neg (Yarrow.not_other hg hf), if_neg (by simpa using hcfg), hst]
  rfl

theorem State.heartbeat_of_electing (hcfg : s.yarrow.groupCfg = s.yarrow.groupNow) (hst : s.yarrow.gstate = .electing) :
    s.heartbeat f = ((s.beatNoted f).heardBeat f).modYarrow fun x => { x with heard := x.heard ++ [f.src] } := by
  unfold State.heartbeat
  dsimp only
  rw [if_neg (Yarrow.not_other hg hf), if_neg (by simpa using hcfg), hst]
  rfl

theorem State.heartbeat_of_root (hcfg : s.yarrow.groupCfg = s.yarrow.groupNow) (hst : s.yarrow.gstate = .root) :
    s.heartbeat f = if f.src.toNat < s.yarrow.id.toNat then (s.beatNoted f).adopt f else s.beatNoted f := by
  unfold State.heartbeat
  dsimp only
  rw [if_neg (Yarrow.not_other hg hf), if_neg (by simpa using hcfg), hst]
  rfl

theorem State.heartbeat_of_member (hcfg : s.yarrow.groupCfg = s.yarrow.groupNow) (hst : s.yarrow.gstate = .member) :
    s.heartbeat f =
      if s.yarrow.current f && s.yarrow.rootEl && s.yarrow.id != 0 && decide (s.yarrow.id.toNat < s.yarrow.root.toNat) then
        (s.beatNoted f).modYarrow fun x => x.claim s.now (hbTerm f + 1)
      else if s.yarrow.follows s.now f then (s.beatNoted f).adopt f
      else (s.beatNoted f).heardBeat f := by
  unfold State.heartbeat
  dsimp only
  rw [if_neg (Yarrow.not_other hg hf), if_neg (by simpa using hcfg), hst]
  rfl

theorem State.heartbeat_of_change (hcfg : s.yarrow.groupCfg ≠ s.yarrow.groupNow) :
    s.heartbeat f = ((s.beatNoted f).heardBeat f).modYarrow fun x => x.moveGroup s.now := by
  unfold State.heartbeat
  dsimp only
  rw [if_neg (Yarrow.not_other hg hf), if_pos (by simpa using hcfg)]
  rfl

end

theorem State.heartbeat_of_other (h : s.yarrow.groupNow = 0 ∨ f.payload.getD 0 0 ≠ s.yarrow.groupNow) : s.heartbeat f = s :=
  if_pos (by
    rw [Bool.or_eq_true, beq_iff_eq, bne_iff_ne]
    exact h)

/-! ### Adopting a heartbeat -/

/-- What a member holds of the heartbeat it adopts. -/
theorem State.adopt_spec (s : State) (f : YFrame) :
    (s.adopt f).yarrow.gstate = .member ∧ (s.adopt f).yarrow.root = f.src ∧ (s.adopt f).yarrow.term = hbTerm f
      ∧ (s.adopt f).yarrow.lastHb = s.now ∧ (s.adopt f).yarrow.missed = 0 ∧ (s.adopt f).yarrow.rootLost = false
      ∧ (s.adopt f).budget.decaying = (s.budget.decaying && !s.yarrow.current f) ∧ (s.adopt f).yarrow.id = s.yarrow.id
      ∧ (s.adopt f).ports = s.ports ∧ (s.adopt f).store = s.store ∧ (s.adopt f).faults = s.faults :=
  ⟨rfl, rfl, rfl, rfl, rfl, rfl, rfl, rfl, rfl, rfl, rfl⟩

/-- The first heartbeat of a root or of a TERM is reported. -/
theorem State.adopt_reports (h : s.yarrow.gstate ≠ .member ∨ s.yarrow.root ≠ f.src ∨ s.yarrow.term ≠ hbTerm f) :
    (s.adopt f).yarrow.repDue = some (s.now + BitVec.ofNat 48 (16 * (s.yarrow.id.toNat % 256))) := by
  have hfirst : (s.yarrow.gstate != .member || s.yarrow.root != f.src || s.yarrow.term != hbTerm f) = true := by
    simp only [Bool.or_eq_true, bne_iff_ne]
    tauto
  unfold State.adopt
  dsimp only
  rw [hfirst]
  rfl

/-- A further heartbeat of the root in its TERM is counted, and every tenth reported. -/
theorem State.adopt_counts (hst : s.yarrow.gstate = .member) (hroot : s.yarrow.root = f.src) (hterm : s.yarrow.term = hbTerm f) :
    (s.adopt f).yarrow.hbCount = s.yarrow.hbCount + 1 ∧ ((s.yarrow.hbCount + 1) % 10 = 0 →
      (s.adopt f).yarrow.repDue = some (s.now + BitVec.ofNat 48 (16 * (s.yarrow.id.toNat % 256)))) := by
  have hfirst : (s.yarrow.gstate != .member || s.yarrow.root != f.src || s.yarrow.term != hbTerm f) = false := by
    simp [hst, hroot, hterm]
  unfold State.adopt
  dsimp only
  rw [hfirst]
  refine ⟨rfl, fun h10 => ?_⟩
  simp [h10]

theorem Yarrow.current_of_eq {w : Yarrow} (h : hbTerm f = w.term) : w.current f = true := by
  unfold Yarrow.current
  rw [h, beq_self_eq_true]
  rfl

theorem Yarrow.current_of_newer {w : Yarrow} (h : termNewer (hbTerm f) w.term = true) : w.current f = true := by
  unfold Yarrow.current
  rw [h, Bool.or_true]

theorem Yarrow.current_of_older {w : Yarrow} (hne : hbTerm f ≠ w.term) (h : termNewer (hbTerm f) w.term = false) : w.current f = false := by
  unfold Yarrow.current
  rw [h, Bool.or_false]
  exact beq_false_of_ne hne

theorem termNewer_ne {a b : Half} (h : termNewer a b = true) : b ≠ a := by
  rintro rfl
  simp [termNewer] at h

/-- A member that may not claim the root follows the heartbeat that no other of its beat outranks. -/
theorem Yarrow.follows_of {w : Yarrow} {now : Beat} (hcur : w.current f = true) (hfrom : f.src = w.root ∨ termNewer (hbTerm f) w.term = true)
    (hfirst : w.hbBeat ≠ now ∨ w.hbSrcs.all (fun n => decide (f.src.toNat ≤ n.toNat)) = true) : w.follows now f = true := by
  have hall : (if w.hbBeat = now then w.hbSrcs else []).all (fun n => decide (f.src.toNat ≤ n.toNat)) = true := by
    split
    next h => exact hfirst.resolve_left (fun hne => hne h)
    · rfl
  unfold Yarrow.follows
  dsimp only
  rw [hcur, hall]
  obtain h | h := hfrom
  · simp [h]
  · simp [h]

theorem Yarrow.follows_of_old {w : Yarrow} (now : Beat) (h : w.current f = false) : w.follows now f = false := by
  unfold Yarrow.follows
  rw [h]
  rfl

/-- A member without ROOT_EL, or whose root has the lower ID, claims nothing. -/
theorem Yarrow.not_claims {w : Yarrow} (h : w.rootEl = false ∨ w.root.toNat ≤ w.id.toNat) :
    ¬ (w.current f && w.rootEl && w.id != 0 && decide (w.id.toNat < w.root.toNat)) = true := by
  obtain h | h := h
  · simp [h]
  · simp [h]

theorem exec_heartbeat (h : s.frameIs y 0x10 f) : exec (.heartbeat y) s = .next ((s.popFrame y).heartbeat f) :=
  congrArg Host.Outcome.next (State.takeFrame_of_frameIs h _)

/-! ### The clauses on heartbeats -/

theorem heartbeat_adopted (h : s.frameIs y 0x10 f) (hg : s.yarrow.groupNow ≠ 0) (hf : f.payload.getD 0 0 = s.yarrow.groupNow)
    (hcfg : s.yarrow.groupCfg = s.yarrow.groupNow)
    (hst : s.yarrow.gstate = .listening ∨ (s.yarrow.gstate = .root ∧ f.src.toNat < s.yarrow.id.toNat)) :
    gives (.heartbeat y) s fun t => t.yarrow.gstate = .member
      ∧ t.yarrow.root = f.src
      ∧ t.yarrow.term = BitVec.ofNat 16 (rdNat f.payload 2 2)
      ∧ t.yarrow.lastHb = s.now
      ∧ t.yarrow.missed = 0
      ∧ t.budget.decaying = (s.budget.decaying && !s.yarrow.current f)
      ∧ t.yarrow.repDue = some (s.now + BitVec.ofNat 48 (16 * (s.yarrow.id.toNat % 256)))
      ∧ t.yarrow.id = s.yarrow.id
      ∧ t.ports = s.ports
      ∧ t.store = s.store
      ∧ t.faults = s.faults := by
  have hadopt : (s.popFrame y).heartbeat f = ((s.popFrame y).beatNoted f).adopt f := by
    obtain hst | ⟨hst, hlow⟩ := hst
    · exact State.heartbeat_of_listening (s := s.popFrame y) hg hf hcfg hst
    · exact (State.heartbeat_of_root (s := s.popFrame y) hg hf hcfg hst).trans (if_pos hlow)
  refine gives_of_exec ((exec_heartbeat h).trans (congrArg _ hadopt)) ?_
  obtain ⟨l, b, hs, tm, he⟩ := (s.popFrame y).beatNoted_eq f
  rw [he]
  refine ⟨rfl, rfl, rfl, rfl, rfl, rfl, State.adopt_reports (.inl ?_), rfl, rfl, rfl, rfl⟩
  obtain hst | ⟨hst, -⟩ := hst
  · exact fun hm : s.yarrow.gstate = .member => by simp [hst] at hm
  · exact fun hm : s.yarrow.gstate = .member => by simp [hst] at hm

theorem heartbeat_followed (h : s.frameIs y 0x10 f) (hg : s.yarrow.groupNow ≠ 0) (hf : f.payload.getD 0 0 = s.yarrow.groupNow)
    (hcfg : s.yarrow.groupCfg = s.yarrow.groupNow) (hst : s.yarrow.gstate = .member) (hsrc : f.src = s.yarrow.root)
    (hterm : BitVec.ofNat 16 (rdNat f.payload 2 2) = s.yarrow.term) (hel : s.yarrow.rootEl = false ∨ s.yarrow.root.toNat ≤ s.yarrow.id.toNat)
    (hfirst : s.yarrow.hbBeat ≠ s.now ∨ s.yarrow.hbSrcs.all (fun n => decide (f.src.toNat ≤ n.toNat)) = true) :
    gives (.heartbeat y) s fun t => t.yarrow.lastHb = s.now
      ∧ t.yarrow.missed = 0
      ∧ t.yarrow.rootLost = false
      ∧ t.budget.decaying = false
      ∧ t.yarrow.hbCount = s.yarrow.hbCount + 1
      ∧ ((s.yarrow.hbCount + 1) % 10 = 0 → t.yarrow.repDue = some (s.now + BitVec.ofNat 48 (16 * (s.yarrow.id.toNat % 256))))
      ∧ t.yarrow.gstate = .member
      ∧ t.yarrow.root = s.yarrow.root
      ∧ t.yarrow.term = s.yarrow.term
      ∧ t.yarrow.id = s.yarrow.id := by
  have hcur : s.yarrow.current f = true := Yarrow.current_of_eq hterm
  have hadopt : (s.popFrame y).heartbeat f = ((s.popFrame y).beatNoted f).adopt f :=
    (State.heartbeat_of_member (s := s.popFrame y) hg hf hcfg hst).trans
      ((if_neg (Yarrow.not_claims hel)).trans (if_pos (Yarrow.follows_of (w := s.yarrow) hcur (.inl hsrc) hfirst)))
  refine gives_of_exec ((exec_heartbeat h).trans (congrArg _ hadopt)) ?_
  obtain ⟨l, b, hs, tm, he⟩ := (s.popFrame y).beatNoted_eq f
  rw [he]
  generalize hu : ({ s.popFrame y with yarrow := { (s.popFrame y).yarrow with ledger := l, hbBeat := b, hbSrcs := hs, termMax := tm } } : State) = u
  have hust : u.yarrow.gstate = .member := by rw [← hu]; exact hst
  have huroot : u.yarrow.root = f.src := by rw [← hu]; exact hsrc.symm
  have huterm : u.yarrow.term = hbTerm f := by rw [← hu]; exact hterm.symm
  obtain ⟨hcount, hten⟩ := State.adopt_counts hust huroot huterm
  subst hu
  refine ⟨rfl, rfl, rfl, ?_, hcount, hten, rfl, hsrc, hterm, rfl⟩
  have hdec : (s.budget.decaying && !s.yarrow.current f) = false := by rw [hcur]; simp
  exact hdec

theorem heartbeat_newTerm (h : s.frameIs y 0x10 f) (hg : s.yarrow.groupNow ≠ 0) (hf : f.payload.getD 0 0 = s.yarrow.groupNow)
    (hcfg : s.yarrow.groupCfg = s.yarrow.groupNow) (hst : s.yarrow.gstate = .member)
    (hnew : termNewer (BitVec.ofNat 16 (rdNat f.payload 2 2)) s.yarrow.term = true)
    (hel : s.yarrow.rootEl = false ∨ s.yarrow.root.toNat ≤ s.yarrow.id.toNat)
    (hfirst : s.yarrow.hbBeat ≠ s.now ∨ s.yarrow.hbSrcs.all (fun n => decide (f.src.toNat ≤ n.toNat)) = true) :
    gives (.heartbeat y) s fun t => t.yarrow.root = f.src
      ∧ t.yarrow.term = BitVec.ofNat 16 (rdNat f.payload 2 2)
      ∧ t.yarrow.lastHb = s.now
      ∧ t.yarrow.missed = 0
      ∧ t.budget.decaying = false
      ∧ t.yarrow.repDue = some (s.now + BitVec.ofNat 48 (16 * (s.yarrow.id.toNat % 256)))
      ∧ t.yarrow.gstate = .member
      ∧ t.yarrow.id = s.yarrow.id := by
  have hcur : s.yarrow.current f = true := Yarrow.current_of_newer hnew
  have hadopt : (s.popFrame y).heartbeat f = ((s.popFrame y).beatNoted f).adopt f :=
    (State.heartbeat_of_member (s := s.popFrame y) hg hf hcfg hst).trans
      ((if_neg (Yarrow.not_claims hel)).trans (if_pos (Yarrow.follows_of (w := s.yarrow) hcur (.inr hnew) hfirst)))
  refine gives_of_exec ((exec_heartbeat h).trans (congrArg _ hadopt)) ?_
  obtain ⟨l, b, hs, tm, he⟩ := (s.popFrame y).beatNoted_eq f
  rw [he]
  refine ⟨rfl, rfl, rfl, rfl, ?_, State.adopt_reports (.inr (.inr (termNewer_ne hnew))), rfl, rfl⟩
  have hdec : (s.budget.decaying && !s.yarrow.current f) = false := by rw [hcur]; simp
  exact hdec

theorem State.heardBeat_old (h : s.yarrow.current f = false) :
    (s.heardBeat f).yarrow.missed = s.yarrow.missed ∧ (s.heardBeat f).budget = s.budget ∧ (s.heardBeat f).yarrow.gstate = s.yarrow.gstate
      ∧ (s.heardBeat f).yarrow.root = s.yarrow.root ∧ (s.heardBeat f).yarrow.term = s.yarrow.term := by
  unfold State.heardBeat
  dsimp only
  rw [h]
  have hb : ({ s.budget with decaying := s.budget.decaying && !false } : Budget) = s.budget := by simp
  refine ⟨?_, hb, ?_, ?_, ?_⟩
  · split
    next h0 => exact (show s.yarrow.missed = 0 by simpa using h0).symm
    · rfl
  · split <;> rfl
  · split <;> rfl
  · split <;> rfl

theorem heartbeat_oldTerm (h : s.frameIs y 0x10 f) (hg : s.yarrow.groupNow ≠ 0) (hf : f.payload.getD 0 0 = s.yarrow.groupNow)
    (hcfg : s.yarrow.groupCfg = s.yarrow.groupNow) (hst : s.yarrow.gstate = .member)
    (hne : BitVec.ofNat 16 (rdNat f.payload 2 2) ≠ s.yarrow.term)
    (hold : termNewer (BitVec.ofNat 16 (rdNat f.payload 2 2)) s.yarrow.term = false) :
    gives (.heartbeat y) s fun t => t.yarrow.missed = s.yarrow.missed
      ∧ t.budget.decaying = s.budget.decaying
      ∧ t.yarrow.gstate = .member
      ∧ t.yarrow.root = s.yarrow.root
      ∧ t.yarrow.term = s.yarrow.term
      ∧ t.budget.grantG = s.budget.grantG := by
  have hcur : s.yarrow.current f = false := Yarrow.current_of_older hne hold
  have hheard : (s.popFrame y).heartbeat f = ((s.popFrame y).beatNoted f).heardBeat f :=
    (State.heartbeat_of_member (s := s.popFrame y) hg hf hcfg hst).trans
      ((if_neg (show ¬ (s.yarrow.current f && _ && _ && _) = true by rw [hcur]; simp)).trans
        (if_neg (show ¬ s.yarrow.follows s.now f = true by rw [Yarrow.follows_of_old s.now hcur]; decide)))
  refine gives_of_exec ((exec_heartbeat h).trans (congrArg _ hheard)) ?_
  obtain ⟨l, b, hs, tm, he⟩ := (s.popFrame y).beatNoted_eq f
  rw [he]
  obtain ⟨hm, hb, hgs, hr, ht⟩ := State.heardBeat_old (f := f)
    (s := { s.popFrame y with yarrow := { (s.popFrame y).yarrow with ledger := l, hbBeat := b, hbSrcs := hs, termMax := tm } }) hcur
  exact ⟨hm, congrArg Budget.decaying hb, hgs.trans hst, hr, ht, congrArg Budget.grantG hb⟩

theorem heartbeat_claimed (h : s.frameIs y 0x10 f) (hg : s.yarrow.groupNow ≠ 0) (hf : f.payload.getD 0 0 = s.yarrow.groupNow)
    (hcfg : s.yarrow.groupCfg = s.yarrow.groupNow) (hst : s.yarrow.gstate = .member) (hel : s.yarrow.rootEl = true) (hid : s.yarrow.id ≠ 0)
    (hlow : s.yarrow.id.toNat < s.yarrow.root.toNat)
    (hterm : BitVec.ofNat 16 (rdNat f.payload 2 2) = s.yarrow.term
      ∨ termNewer (BitVec.ofNat 16 (rdNat f.payload 2 2)) s.yarrow.term = true) :
    gives (.heartbeat y) s fun t => t.yarrow.gstate = .root
      ∧ t.yarrow.root = s.yarrow.id
      ∧ t.yarrow.term = BitVec.ofNat 16 (rdNat f.payload 2 2) + 1
      ∧ t.yarrow.id = s.yarrow.id
      ∧ t.ports = s.ports
      ∧ t.faults = s.faults := by
  have hcur : s.yarrow.current f = true := hterm.elim Yarrow.current_of_eq Yarrow.current_of_newer
  have hclaim : (s.popFrame y).heartbeat f = ((s.popFrame y).beatNoted f).modYarrow fun x => x.claim s.now (hbTerm f + 1) :=
    (State.heartbeat_of_member (s := s.popFrame y) hg hf hcfg hst).trans
      (if_pos (show (s.yarrow.current f && s.yarrow.rootEl && s.yarrow.id != 0 && decide (s.yarrow.id.toNat < s.yarrow.root.toNat)) = true by
        rw [hcur, hel, decide_eq_true hlow]
        simpa using hid))
  refine gives_of_exec ((exec_heartbeat h).trans (congrArg _ hclaim)) ?_
  obtain ⟨l, b, hs, tm, he⟩ := (s.popFrame y).beatNoted_eq f
  rw [he]
  exact ⟨rfl, rfl, rfl, rfl, rfl, rfl⟩

theorem State.heardBeat_yarrow (s : State) (f : YFrame) :
    ∃ b m d, (s.heardBeat f).yarrow = { s.yarrow with lastHb := b, missed := m, decays := d } := by
  unfold State.heardBeat
  dsimp only
  split
  · exact ⟨_, _, _, rfl⟩
  · exact ⟨_, _, _, rfl⟩

theorem heartbeat_heard (h : s.frameIs y 0x10 f) (hg : s.yarrow.groupNow ≠ 0) (hf : f.payload.getD 0 0 = s.yarrow.groupNow)
    (hcfg : s.yarrow.groupCfg = s.yarrow.groupNow)
    (hst : (s.yarrow.gstate = .root ∧ s.yarrow.id.toNat ≤ f.src.toNat) ∨ s.yarrow.gstate = .electing) :
    gives (.heartbeat y) s fun t => t.yarrow.gstate = s.yarrow.gstate
      ∧ (s.yarrow.gstate = .electing → t.yarrow.heard = s.yarrow.heard ++ [f.src])
      ∧ t.yarrow.term = s.yarrow.term
      ∧ t.yarrow.root = s.yarrow.root
      ∧ t.budget = { s.budget with decaying := t.budget.decaying } := by
  obtain ⟨l, b, hs, tm, he⟩ := (s.popFrame y).beatNoted_eq f
  obtain ⟨hst, hhigh⟩ | hst := hst
  · have hroot : (s.popFrame y).heartbeat f = (s.popFrame y).beatNoted f :=
      (State.heartbeat_of_root (s := s.popFrame y) hg hf hcfg hst).trans (if_neg (Nat.not_lt.mpr hhigh))
    refine gives_of_exec ((exec_heartbeat h).trans (congrArg _ hroot)) ?_
    rw [he]
    exact ⟨rfl, fun hel => absurd (hst.symm.trans hel) nofun, rfl, rfl, rfl⟩
  · refine gives_of_exec ((exec_heartbeat h).trans (congrArg _ (State.heartbeat_of_electing (s := s.popFrame y) hg hf hcfg hst))) ?_
    rw [he]
    obtain ⟨b', m, d, hy⟩ := State.heardBeat_yarrow
      { s.popFrame y with yarrow := { (s.popFrame y).yarrow with ledger := l, hbBeat := b, hbSrcs := hs, termMax := tm } } f
    exact ⟨(congrArg Yarrow.gstate hy :), fun _ => (congrArg (fun w : Yarrow => w.heard ++ [f.src]) hy :), (congrArg Yarrow.term hy :),
      (congrArg Yarrow.root hy :), rfl⟩

/-- A module that leaves its group for another, or for none. -/
theorem Yarrow.moveGroup_of_change {w : Yarrow} (now : Beat) (h : w.groupCfg ≠ w.groupNow) :
    (w.moveGroup now).groupNow = w.groupCfg ∧ (w.moveGroup now).gstate = (if w.groupCfg = 0 then .none else .listening)
      ∧ (w.moveGroup now).ledger = [] ∧ (w.moveGroup now).id = w.id := by
  unfold Yarrow.moveGroup
  rw [if_neg h]
  exact ⟨rfl, rfl, rfl, rfl⟩

theorem heartbeat_moves (h : s.frameIs y 0x10 f) (hg : s.yarrow.groupNow ≠ 0) (hf : f.payload.getD 0 0 = s.yarrow.groupNow)
    (hcfg : s.yarrow.groupCfg ≠ s.yarrow.groupNow) :
    gives (.heartbeat y) s fun t => t.yarrow.groupNow = s.yarrow.groupCfg
      ∧ t.yarrow.gstate = (if s.yarrow.groupCfg = 0 then .none else .listening)
      ∧ t.yarrow.ledger = []
      ∧ t.budget = { s.budget with decaying := s.budget.decaying && !s.yarrow.current f }
      ∧ t.yarrow.id = s.yarrow.id := by
  refine gives_of_exec ((exec_heartbeat h).trans (congrArg _ (State.heartbeat_of_change (s := s.popFrame y) hg hf hcfg))) ?_
  obtain ⟨l, b, hs, tm, he⟩ := (s.popFrame y).beatNoted_eq f
  rw [he]
  obtain ⟨b', m, d, hy⟩ := State.heardBeat_yarrow
    { s.popFrame y with yarrow := { (s.popFrame y).yarrow with ledger := l, hbBeat := b, hbSrcs := hs, termMax := tm } } f
  generalize hv : (State.heardBeat { s.popFrame y with
    yarrow := { (s.popFrame y).yarrow with ledger := l, hbBeat := b, hbSrcs := hs, termMax := tm } } f) = v at hy
  have hchange : v.yarrow.groupCfg ≠ v.yarrow.groupNow := by rw [hy]; exact hcfg
  obtain ⟨hnow, hgs, hled, hid⟩ := Yarrow.moveGroup_of_change s.now hchange
  have hbudget : v.budget = { s.budget with decaying := s.budget.decaying && !s.yarrow.current f } := by rw [← hv]; rfl
  have hvcfg : v.yarrow.groupCfg = s.yarrow.groupCfg := by rw [hy]; rfl
  exact ⟨hnow.trans hvcfg, hgs.trans (by rw [hvcfg]), hled, hbudget, hid.trans (by rw [hy]; rfl)⟩

end Sys2Proof.Machine
end

section
/-! Roots, members and their ledger on Yarrow (R334–R339). -/

namespace Sys2Proof.Machine

variable {s : State} {y : YPort} {f : YFrame}

theorem State.yarrow_of_rest {t : State} (h : t.rest = s.rest) : t.yarrow = s.yarrow := congrArg (fun r => r.2.2.2.1) h
theorem State.store_of_rest {t : State} (h : t.rest = s.rest) : t.store = s.store := congrArg (fun r => r.2.2.2.2.1) h

/-! ### The root's heartbeat, and those that are missed -/

/-- A root whose heartbeat is due. -/
theorem hbSend_due (hon : s.yarrowOn = true) (hst : s.yarrow.gstate = .root) (hdue : 25000 ≤ Beat.since s.now s.yarrow.lastHb) :
    (s.yarrowOn && s.yarrow.gstate == .root && decide (25000 ≤ Beat.since s.now s.yarrow.lastHb)) = true := by
  rw [hon, hst, decide_eq_true hdue]
  rfl

/-- A miss is due at a module that decays. -/
theorem hbMissed_due (hon : s.yarrowOn = true)
    (hst : s.yarrow.gstate = .member ∨ (s.budget.grantG.isSome = true ∧ s.yarrow.gstate ≠ .root))
    (hdue : 31250 + 25000 * s.yarrow.missed ≤ Beat.since s.now s.yarrow.lastHb) :
    (s.yarrowOn && (s.yarrow.gstate == .member || (s.budget.grantG.isSome && s.yarrow.gstate != .root))
      && decide (31250 + 25000 * s.yarrow.missed ≤ Beat.since s.now s.yarrow.lastHb)) = true := by
  rw [hon, decide_eq_true hdue]
  obtain h | ⟨hg, hr⟩ := hst
  · simp [h]
  · simp [hg, hr]

/-- The decay step of a miss. -/
def State.missStep (s : State) : State := (s.modYarrow fun w => { w with missed := w.missed + 1 }).decayStep

theorem State.missStep_of_grant {g : Nat} (hg : s.budget.grantG = some g) (hfloor : s.floorT < g) :
    s.missStep.budget.grantG = some (max s.floorT (g - fld s.budget.decay 0 16)) ∧ s.missStep.budget.due = true := by
  unfold State.missStep State.decayStep
  rw [State.modYarrow_budget, hg]
  refine ⟨(Budget.want_grantG ..).trans ?_, Budget.want_due ..⟩
  exact congrArg some (if_pos hfloor)

theorem State.missStep_yarrow (s : State) :
    ∃ d, s.missStep.yarrow = { s.yarrow with missed := s.yarrow.missed + 1, decays := d } := by
  unfold State.missStep State.decayStep
  split
  · exact ⟨_, rfl⟩
  · exact ⟨_, rfl⟩

/-- A miss leaves all but the budget and the link. -/
theorem State.missStep_rest (s : State) : s.missStep.ports = s.ports ∧ s.missStep.pool = s.pool ∧ s.missStep.faults = s.faults
    ∧ s.missStep.cores = s.cores ∧ s.missStep.store = s.store := by
  unfold State.missStep State.decayStep
  split
  · exact ⟨rfl, rfl, rfl, rfl, rfl⟩
  · exact ⟨rfl, rfl, rfl, rfl, rfl⟩

theorem heartbeat_missed {g : Nat} (hon : s.yarrowOn = true) (hst : s.yarrow.gstate = .member) (hcfg : s.yarrow.groupCfg = s.yarrow.groupNow)
    (hdue : 31250 + 25000 * s.yarrow.missed ≤ Beat.since s.now s.yarrow.lastHb) (hm : s.yarrow.missed < 2) (hg : s.budget.grantG = some g)
    (hfloor : s.floorT < g) :
    gives (.heartbeatMissed) s fun t => t.yarrow.missed = s.yarrow.missed + 1
      ∧ t.yarrow.gstate = .member
      ∧ t.budget.grantG = some (max s.floorT (g - fld s.budget.decay 0 16))
      ∧ t.budget.due = true
      ∧ t.yarrow.root = s.yarrow.root
      ∧ t.yarrow.ledger = s.yarrow.ledger
      ∧ t.ports = s.ports
      ∧ t.pool = s.pool
      ∧ t.faults = s.faults := by
  have he : exec .heartbeatMissed s = .next s.missStep := by
    refine congrArg Host.Outcome.next ((if_pos (hbMissed_due hon (.inl hst) hdue)).trans ?_)
    dsimp only
    rw [if_neg (by simp [hcfg]), if_neg (by simp; omega)]
    rfl
  refine gives_of_exec he ?_
  obtain ⟨d, hy⟩ := s.missStep_yarrow
  obtain ⟨hgrant, hbdue⟩ := State.missStep_of_grant hg hfloor
  obtain ⟨hports, hpool, hfaults, -, -⟩ := s.missStep_rest
  rw [hy]
  exact ⟨rfl, hst, hgrant, hbdue, rfl, rfl, hports, hpool, hfaults⟩

theorem heartbeat_missed_outside {g : Nat} (hon : s.yarrowOn = true) (hmem : s.yarrow.gstate ≠ .member) (hroot : s.yarrow.gstate ≠ .root)
    (hdue : 31250 + 25000 * s.yarrow.missed ≤ Beat.since s.now s.yarrow.lastHb) (hg : s.budget.grantG = some g) (hfloor : s.floorT < g) :
    gives (.heartbeatMissed) s fun t => t.yarrow.missed = s.yarrow.missed + 1
      ∧ t.budget.grantG = some (max s.floorT (g - fld s.budget.decay 0 16))
      ∧ t.budget.due = true
      ∧ t.yarrow.gstate = s.yarrow.gstate
      ∧ t.yarrow.groupNow = s.yarrow.groupNow
      ∧ t.pool = s.pool
      ∧ t.faults = s.faults := by
  have he : exec .heartbeatMissed s = .next s.missStep := by
    refine congrArg Host.Outcome.next ((if_pos (hbMissed_due hon (.inr ⟨by rw [hg]; rfl, hroot⟩) hdue)).trans ?_)
    dsimp only
    rw [if_neg (by simp [hmem]), if_neg (by simp [hmem])]
    rfl
  refine gives_of_exec he ?_
  obtain ⟨d, hy⟩ := s.missStep_yarrow
  obtain ⟨hgrant, hbdue⟩ := State.missStep_of_grant hg hfloor
  obtain ⟨-, hpool, hfaults, -, -⟩ := s.missStep_rest
  rw [hy]
  exact ⟨rfl, hgrant, hbdue, rfl, rfl, hpool, hfaults⟩

theorem root_lost (hon : s.yarrowOn = true) (hst : s.yarrow.gstate = .member) (hcfg : s.yarrow.groupCfg = s.yarrow.groupNow)
    (hm : s.yarrow.missed = 2) (hdue : 81250 ≤ Beat.since s.now s.yarrow.lastHb) :
    gives (.heartbeatMissed) s fun t => t.raisedAt 50 = true
      ∧ t.yarrow.rootLost = true
      ∧ t.yarrow.gstate = (if s.yarrow.groupNow = 0 then .none else .listening)
      ∧ t.yarrow.ledger = s.yarrow.ledger
      ∧ t.cores = s.cores
      ∧ t.store = s.store := by
  have he : exec .heartbeatMissed s
      = .next ((s.missStep.modYarrow fun w => { w.listen s.now with rootLost := true }).raise (devRaise 50 0 0)) := by
    refine congrArg Host.Outcome.next ((if_pos (hbMissed_due hon (.inl hst) (by omega))).trans ?_)
    dsimp only
    rw [if_neg (by simp [hcfg]), if_pos (by simp [hst, hm])]
    rfl
  refine gives_of_exec he ?_
  obtain ⟨d, hy⟩ := s.missStep_yarrow
  obtain ⟨-, -, -, hcores, hstore⟩ := s.missStep_rest
  have hrest := State.raise_rest (s.missStep.modYarrow fun w => { w.listen s.now with rootLost := true }) (devRaise 50 0 0)
  rw [State.yarrow_of_rest hrest, State.cores_of_rest hrest, State.store_of_rest hrest]
  have hw : (s.missStep.modYarrow fun w => { w.listen s.now with rootLost := true }).yarrow
      = { ({ s.yarrow with missed := s.yarrow.missed + 1, decays := d } : Yarrow).listen s.now with rootLost := true } :=
    congrArg (fun w : Yarrow => { w.listen s.now with rootLost := true }) hy
  rw [hw]
  exact ⟨State.raise_raised _ _ (by decide), rfl, rfl, rfl, hcores, hstore⟩

theorem heartbeat_not_missed (h : s.yarrow.gstate = .root ∨ Beat.since s.now s.yarrow.lastHb < 31250 + 25000 * s.yarrow.missed) :
    exec .heartbeatMissed s = .next s := by
  refine congrArg Host.Outcome.next (if_neg ?_)
  obtain h | h := h
  · simp [h]
  · simp only [Bool.and_eq_true, decide_eq_true_eq]
    omega

/-! ### Listening and electing -/

theorem listen_due (hon : s.yarrowOn = true) (hst : s.yarrow.gstate = .listening) (hdue : 75000 ≤ Beat.since s.now s.yarrow.listenFrom) :
    (s.yarrowOn && s.yarrow.gstate == .listening && decide (75000 ≤ Beat.since s.now s.yarrow.listenFrom)) = true := by
  rw [hon, hst, decide_eq_true hdue]
  rfl

theorem elect_due (hon : s.yarrowOn = true) (hst : s.yarrow.gstate = .electing) (hdue : 50000 ≤ Beat.since s.now s.yarrow.electFrom) :
    (s.yarrowOn && s.yarrow.gstate == .electing && decide (50000 ≤ Beat.since s.now s.yarrow.electFrom)) = true := by
  rw [hon, hst, decide_eq_true hdue]
  rfl

theorem listen_moves (hon : s.yarrowOn = true) (hst : s.yarrow.gstate = .listening) (hdue : 75000 ≤ Beat.since s.now s.yarrow.listenFrom)
    (hcfg : s.yarrow.groupCfg ≠ s.yarrow.groupNow) :
    gives (.listenWindowEnd) s fun t => t.yarrow.groupNow = s.yarrow.groupCfg
      ∧ t.yarrow.gstate = (if s.yarrow.groupCfg = 0 then .none else .listening)
      ∧ t.yarrow.ledger = []
      ∧ t.budget.grantG = s.budget.grantG
      ∧ t.pool = s.pool := by
  refine gives_of_exec (congrArg Host.Outcome.next ((if_pos (listen_due hon hst hdue)).trans (if_pos (by simpa using hcfg)))) ?_
  obtain ⟨hnow, hgs, hled, -⟩ := Yarrow.moveGroup_of_change s.now hcfg
  exact ⟨hnow, hgs, hled, rfl, rfl⟩

theorem window_goes_on {i : Instr} (h : (i = .listenWindowEnd ∧ (s.yarrow.gstate ≠ .listening ∨ Beat.since s.now s.yarrow.listenFrom < 75000))
    ∨ (i = .electWindowEnd ∧ (s.yarrow.gstate ≠ .electing ∨ Beat.since s.now s.yarrow.electFrom < 50000))) :
    exec i s = .next s := by
  obtain ⟨rfl, h⟩ | ⟨rfl, h⟩ := h
  · refine congrArg Host.Outcome.next (if_neg ?_)
    simp only [Bool.and_eq_true, decide_eq_true_eq, beq_iff_eq]
    rintro ⟨⟨-, hst⟩, hdue⟩
    exact h.elim (fun hne => hne hst) (fun hlt => by omega)
  · refine congrArg Host.Outcome.next (if_neg ?_)
    simp only [Bool.and_eq_true, decide_eq_true_eq, beq_iff_eq]
    rintro ⟨⟨-, hst⟩, hdue⟩
    exact h.elim (fun hne => hne hst) (fun hlt => by omega)

/-! ### Reports -/

theorem report_notes (h : s.frameIs y 0x12 f) (hg : s.yarrow.groupNow ≠ 0) (hf : f.payload.getD 0 0 = s.yarrow.groupNow) :
    exec (.report y) s = .next ((s.popFrame y).modYarrow fun w => { w with
      ledger := ledgerPut { (ledgerGet w.ledger f.src).getD (.blank f.src w.groupNow) with
        state := if ((ledgerGet w.ledger f.src).getD (.blank f.src w.groupNow)).state = 3 then 3 else 1
        flags := f.payload.getD 1 0
        floorT := rdNat f.payload 4 4
        wantT := rdNat f.payload 8 4
        last := s.now } w.ledger }) := by
  refine congrArg Host.Outcome.next ((State.takeFrame_of_frameIs h _).trans ?_)
  refine congrArg (fun w : Yarrow => { s.popFrame y with yarrow := w }) ?_
  unfold Yarrow.noteReport
  exact if_neg (Yarrow.not_other hg hf)

theorem report_sends {d : Beat} (hon : s.yarrowOn = true) (hst : s.yarrow.gstate = .member) (hdue : s.yarrow.repDue = some d)
    (hnow : s.now = d ∨ Beat.later s.now d = true) :
    exec (.reportSend) s = .next ((s.originateAll s.yarrow.root 0x12 ([s.yarrow.groupNow, BitVec.ofNat 8 (bw s.feed.brownout 0 + bw s.budget.short 1), 0, 0]
      ++ u32 s.floorT ++ u32 s.wantT ++ u32 s.usedPower)).modYarrow fun w =>
        { w with repDue := none, lastFloor := s.floorT, lastWant := s.wantT, repTerm := false }) := by
  show execReportSend s = _
  unfold execReportSend
  rw [hdue]
  refine congrArg Host.Outcome.next (if_pos ?_)
  rw [hon, hst]
  simpa using hnow

theorem report_not_due (h : s.yarrow.repDue = none) : exec (.reportSend) s = .next s := by
  show execReportSend s = _
  unfold execReportSend
  rw [h]

/-! ### The scan of the ledger -/

theorem ledgerScan_steps {k : Nat} (hon : s.yarrowOn = true) (hst : s.yarrow.gstate = .root) (hpos : s.yarrow.scanPos = some k)
    (hbeat : s.yarrow.scanBeat ≠ s.now) : exec .ledgerScan s = .next ((if k = 0 then s.startScan else s).scanSlice k) := by
  show execLedgerScan s = _
  unfold execLedgerScan
  rw [hpos]
  refine congrArg Host.Outcome.next (if_pos ?_)
  rw [hon, hst]
  simpa using hbeat.symm

theorem ledgerScan_rests (h : s.yarrow.gstate ≠ .root ∨ s.yarrow.scanPos = none ∨ s.yarrow.scanBeat = s.now) :
    exec .ledgerScan s = .next s := by
  show execLedgerScan s = _
  unfold execLedgerScan
  refine congrArg Host.Outcome.next ?_
  split
  · rfl
  next k hk =>
    refine if_neg ?_
    simp only [Bool.and_eq_true, beq_iff_eq, bne_iff_ne]
    rintro ⟨⟨-, hst⟩, hbeat⟩
    obtain h | h | h := h
    · exact h hst
    · rw [h] at hk
      cases hk
    · exact hbeat h.symm

/-- The state of a step of the scan, before the root's own grant is taken. -/
def State.scanned (s : State) (k : Nat) : State :=
  (if (sliceEntries k s.yarrow.scan).isEmpty then s
    else s.originateAll 4095 0x13 (grantPayload s.yarrow.groupNow s.yarrow.term (sliceEntries k s.yarrow.scan))).modYarrow fun w =>
    { w with scanPos := if k < 63 then some (k + 1) else none, scanBeat := s.now, ledger := ledgerGrants (sliceEntries k s.yarrow.scan) w.ledger }

theorem State.scanned_eq (s : State) (k : Nat) :
    ∃ m n sy j, s.scanned k = { s with pool := m, yarrow := { s.yarrow with
      seq := n, sync := sy, sentN := j, scanPos := if k < 63 then some (k + 1) else none, scanBeat := s.now
      ledger := ledgerGrants (sliceEntries k s.yarrow.scan) s.yarrow.ledger } } := by
  unfold State.scanned
  split
  · exact ⟨_, _, _, _, rfl⟩
  · obtain ⟨m, n, sy, j, h⟩ := s.originateAll_eq 4095 0x13 (grantPayload s.yarrow.groupNow s.yarrow.term (sliceEntries k s.yarrow.scan))
    rw [h]
    exact ⟨m, n, sy, j, rfl⟩

theorem State.scanSlice_of_own {k g : Nat} {n : BitVec 12}
    (h : (sliceEntries k s.yarrow.scan).find? (fun e => e.1 == s.yarrow.id) = some (n, g)) : s.scanSlice k = (s.scanned k).takeGrant g := by
  unfold State.scanSlice
  dsimp only
  rw [h]
  rfl

theorem State.scanSlice_of_others {k : Nat} (h : (sliceEntries k s.yarrow.scan).find? (fun e => e.1 == s.yarrow.id) = none) :
    s.scanSlice k = s.scanned k := by
  unfold State.scanSlice
  dsimp only
  rw [h]
  rfl

theorem State.scanSlice_eq (s : State) (k : Nat) : ∃ d b, s.scanSlice k = { s.scanned k with dev := d, budget := b } := by
  rcases hfind : (sliceEntries k s.yarrow.scan).find? (fun e => e.1 == s.yarrow.id) with _ | ⟨n, g⟩
  · exact ⟨_, _, State.scanSlice_of_others hfind⟩
  · rw [State.scanSlice_of_own hfind]
    exact State.takeGrant_eq ..

/-- The entries of a node's own slice are those of the whole scan. -/
theorem find_sliceEntries {k : Nat} {n : BitVec 12} (h : n.toNat / 64 = k) (es : List (BitVec 12 × Nat)) :
    (sliceEntries k es).find? (fun e => e.1 == n) = es.find? fun e => e.1 == n := by
  unfold sliceEntries
  rw [List.find?_filter]
  congr 1
  funext e
  by_cases he : e.1 = n
  · simp [he, h]
  · simp [he]

theorem find_sliceEntries_other {k : Nat} {n : BitVec 12} (h : n.toNat / 64 ≠ k) (es : List (BitVec 12 × Nat)) :
    (sliceEntries k es).find? (fun e => e.1 == n) = none := by
  unfold sliceEntries
  rw [List.find?_eq_none]
  intro e he
  have hk := (List.mem_filter.mp he).2
  simp only [beq_iff_eq] at hk ⊢
  rintro rfl
  exact h hk

/-- An entry of the slice has its grant. -/
theorem ledgerGrants_grant {es : List (BitVec 12 × Nat)} {l : List LedgerEntry} {e : LedgerEntry} (he : e ∈ ledgerGrants es l)
    {g : BitVec 12 × Nat} (hg : es.find? (fun x => x.1 == e.node) = some g) : e.grant = g.2 := by
  obtain ⟨e', -, rfl⟩ := List.mem_map.mp he
  rcases hfind : es.find? (fun x => x.1 == e'.node) with _ | g'
  · simp [hfind] at hg
  · simp only [hfind, Option.some.injEq] at hg ⊢
    rw [hg]

theorem ledgerGrants_other {es : List (BitVec 12 × Nat)} {l : List LedgerEntry} {e : LedgerEntry} (he : e ∈ l)
    (hn : es.find? (fun x => x.1 == e.node) = none) : e ∈ ledgerGrants es l := by
  refine List.mem_map.mpr ⟨e, he, ?_⟩
  rw [hn]

/-- Placing an entry keeps those of other nodes. -/
theorem mem_ledgerPut {e x : LedgerEntry} (hne : e.node ≠ x.node) : ∀ {l : List LedgerEntry}, e ∈ l → e ∈ ledgerPut x l
  | a :: l, he => by
    unfold ledgerPut
    split
    · obtain rfl | he := List.mem_cons.mp he
      · exact List.mem_cons_self
      · exact List.mem_cons_of_mem _ (mem_ledgerPut hne he)
    · split
      next ha =>
        obtain rfl | he := List.mem_cons.mp he
        · exact absurd ha hne
        · exact List.mem_cons_of_mem _ he
      · exact List.mem_cons_of_mem _ he

/-- The scan's first step keeps the entries that are no root's. -/
theorem mem_startScan {e : LedgerEntry} (he : e ∈ s.yarrow.ledger) (hne : e.node ≠ s.yarrow.id) (hst : e.state ≠ 3) :
    e ∈ s.startScan.yarrow.ledger := by
  have hnode : ∀ o : Option LedgerEntry, (∀ x, o = some x → x.node = s.yarrow.id) →
      (o.getD (.blank s.yarrow.id s.yarrow.groupNow)).node = s.yarrow.id := by
    intro o ho
    cases o with
    | none => rfl
    | some x => exact ho x rfl
  have hown : ((ledgerGet s.yarrow.ledger s.yarrow.id).getD (.blank s.yarrow.id s.yarrow.groupNow)).node = s.yarrow.id :=
    hnode _ fun x hx => by simpa using List.find?_some hx
  refine mem_ledgerPut (x := { (ledgerGet s.yarrow.ledger s.yarrow.id).getD (.blank s.yarrow.id s.yarrow.groupNow) with
    state := 3, floorT := s.floorT, wantT := s.wantT }) (fun h => hne (h.trans hown)) (List.mem_map.mpr ⟨e, he, ?_⟩)
  unfold LedgerEntry.demote
  rw [if_neg (by simp [hst])]

theorem ledger_scanned {k : Nat} (hon : s.yarrowOn = true) (hst : s.yarrow.gstate = .root) (hpos : s.yarrow.scanPos = some k)
    (hbeat : s.yarrow.scanBeat ≠ s.now) :
    gives (.ledgerScan) s fun t => t.yarrow.scanPos = (if k < 63 then some (k + 1) else none)
      ∧ t.yarrow.scanBeat = s.now
      ∧ t.yarrow.scan = (if k = 0 then s.startScan.yarrow.scan else s.yarrow.scan)
      ∧ (∀ e ∈ t.yarrow.ledger, e.node.toNat / 64 = k → ∀ g ∈ (t.yarrow.scan.find? (fun x : BitVec 12 × Nat => x.1 == e.node)).toList, e.grant = g.2)
      ∧ (∀ e ∈ s.yarrow.ledger, e.node ≠ s.yarrow.id ∧ e.node.toNat / 64 ≠ k ∧ e.state ≠ 3 → e ∈ t.yarrow.ledger)
      ∧ t.ports = s.ports
      ∧ t.store = s.store
      ∧ t.yarrow.gstate = .root
      ∧ t.yarrow.term = s.yarrow.term
      ∧ t.faults.raised = s.faults.raised := by
  refine gives_of_exec (ledgerScan_steps hon hst hpos hbeat) ?_
  generalize hu : (if k = 0 then s.startScan else s) = u
  have hscan : u.yarrow.scan = if k = 0 then s.startScan.yarrow.scan else s.yarrow.scan := by rw [← hu]; split <;> rfl
  have hkept : ∀ e ∈ s.yarrow.ledger, e.node ≠ s.yarrow.id ∧ e.state ≠ 3 → e ∈ u.yarrow.ledger := by
    rintro e he ⟨hid, h3⟩
    rw [← hu]
    split
    · exact mem_startScan he hid h3
    · exact he
  have hsame : u.ports = s.ports ∧ u.store = s.store ∧ u.yarrow.gstate = .root ∧ u.yarrow.term = s.yarrow.term ∧ u.faults = s.faults
      ∧ u.now = s.now := by
    rw [← hu]
    split
    · exact ⟨rfl, rfl, hst, rfl, rfl, rfl⟩
    · exact ⟨rfl, rfl, hst, rfl, rfl, rfl⟩
  obtain ⟨hports, hstore, hgst, hterm, hfaults, hnow⟩ := hsame
  obtain ⟨d, b, he⟩ := u.scanSlice_eq k
  obtain ⟨m, n, sy, j, he'⟩ := u.scanned_eq k
  rw [he, he']
  refine ⟨rfl, hnow, hscan, fun e hl hk g hg => ?_, fun e hl hc => ?_, hports, hstore, hgst, hterm, congrArg Faults.raised hfaults⟩
  · refine ledgerGrants_grant hl ?_
    rw [find_sliceEntries hk]
    exact Option.mem_toList.mp hg
  · obtain ⟨hid, hk, h3⟩ := hc
    exact ledgerGrants_other (hkept e hl ⟨hid, h3⟩) (find_sliceEntries_other hk _)

theorem ledger_slice_sent {k : Nat} (hon : s.yarrowOn = true) (hst : s.yarrow.gstate = .root) (hpos : s.yarrow.scanPos = some k) (hk : k ≠ 0)
    (hbeat : s.yarrow.scanBeat ≠ s.now) (hid : s.yarrow.id.toNat / 64 ≠ k) (hany : s.yarrow.scan.any (fun e => e.1.toNat / 64 == k) = true) :
    exec (.ledgerScan) s = .next ((s.originateAll 4095 0x13 (grantPayload s.yarrow.groupNow s.yarrow.term
      (s.yarrow.scan.filter fun e => e.1.toNat / 64 == k))).modYarrow fun w =>
        { w with scanPos := if k < 63 then some (k + 1) else none, scanBeat := s.now
                 ledger := ledgerGrants (s.yarrow.scan.filter fun e => e.1.toNat / 64 == k) w.ledger }) := by
  refine (ledgerScan_steps hon hst hpos hbeat).trans (congrArg Host.Outcome.next ?_)
  rw [if_neg hk, State.scanSlice_of_others (find_sliceEntries_other hid _)]
  unfold State.scanned
  rw [if_neg]
  · rfl
  · intro hempty
    obtain ⟨e, he, hek⟩ := List.any_eq_true.mp hany
    have hmem : e ∈ sliceEntries k s.yarrow.scan := List.mem_filter.mpr ⟨he, hek⟩
    rw [List.isEmpty_iff.mp hempty] at hmem
    cases hmem

theorem ledger_own_grant {k g : Nat} (hon : s.yarrowOn = true) (hst : s.yarrow.gstate = .root) (hpos : s.yarrow.scanPos = some k) (hk : k ≠ 0)
    (hbeat : s.yarrow.scanBeat ≠ s.now) (hid : s.yarrow.id.toNat / 64 = k)
    (hfind : s.yarrow.scan.find? (fun e => e.1 == s.yarrow.id) = some (s.yarrow.id, g)) (hb : s.feed.brownout = false) :
    gives (.ledgerScan) s fun t => t.budget.grantG = some g
      ∧ t.budget.due = true
      ∧ t.budget.decaying = false := by
  have hown := (find_sliceEntries hid s.yarrow.scan).trans hfind
  refine gives_of_exec ((ledgerScan_steps hon hst hpos hbeat).trans (congrArg Host.Outcome.next ((congrArg (State.scanSlice · k) (if_neg hk)).trans
    (State.scanSlice_of_own hown)))) ?_
  obtain ⟨m, n, sy, j, he⟩ := s.scanned_eq k
  refine State.takeGrant_acts g ?_
  rw [he]
  exact hb

/-! ### Stale entries -/

theorem ledgerStale_of_entry {n : Fin 4096} {e : LedgerEntry} (hon : s.yarrowOn = true) (hst : s.yarrow.gstate = .root)
    (hget : ledgerGet s.yarrow.ledger (BitVec.ofFin n) = some e) (hne : BitVec.ofFin n ≠ s.yarrow.id) :
    exec (.ledgerStale n) s = .next (s.modYarrow fun w =>
      if 2500000 ≤ Beat.since s.now e.last then { w with ledger := w.ledger.filter fun x => x.node != e.node }
      else if 750000 ≤ Beat.since s.now e.last then { w with ledger := ledgerPut { e with state := 2 } w.ledger }
      else w) := by
  have hnode : e.node = BitVec.ofFin n := by simpa using List.find?_some hget
  refine congrArg Host.Outcome.next ((if_pos (by rw [hon, hst]; rfl)).trans ?_)
  refine congrArg (fun w : Yarrow => { s with yarrow := w }) ?_
  dsimp only
  rw [hget]
  exact if_neg (by rw [hnode]; exact hne)

theorem ledgerStale_own {n : Fin 4096} (h : BitVec.ofFin n = s.yarrow.id) : exec (.ledgerStale n) s = .next s := by
  refine congrArg Host.Outcome.next ?_
  split
  · refine congrArg (fun w : Yarrow => { s with yarrow := w }) ?_
    dsimp only
    split
    · rfl
    next e hget =>
      have hnode : e.node = BitVec.ofFin n := by simpa using List.find?_some hget
      exact if_pos (hnode.trans h)
  · rfl

/-! ### Grants received -/

/-- A GRANT of the group in its TERM, at a member. -/
theorem exec_grant {e : BitVec 12 × Nat} (h : s.frameIs y 0x13 f) (hg : s.yarrow.groupNow ≠ 0)
    (hf : f.payload.getD 0 0 = s.yarrow.groupNow) (hst : s.yarrow.gstate = .member) (hterm : rdNat f.payload 2 2 = s.yarrow.term.toNat)
    (hfind : (grantEntries f).find? (fun x => x.1 == s.yarrow.id) = some e) :
    ∃ l, exec (.grant y) s = .next (({ s.popFrame y with yarrow := { s.yarrow with ledger := l } } : State).takeGrant e.2) := by
  obtain ⟨l, hl⟩ := s.yarrow.noteGrant_eq f
  refine ⟨l, congrArg Host.Outcome.next ((State.takeFrame_of_frameIs h _).trans ?_)⟩
  have hu : ((s.popFrame y).modYarrow fun w => w.noteGrant f) = { s.popFrame y with yarrow := { s.yarrow with ledger := l } } :=
    congrArg (fun w : Yarrow => { s.popFrame y with yarrow := w }) hl
  dsimp only
  rw [hu, if_pos, hfind]
  have hgroup : (s.yarrow.groupNow != 0) = true := by simpa using hg
  rw [hf, hterm, hst, hgroup]
  simp

theorem grant_taken {e : BitVec 12 × Nat} (h : s.frameIs y 0x13 f) (hg : s.yarrow.groupNow ≠ 0)
    (hf : f.payload.getD 0 0 = s.yarrow.groupNow) (hst : s.yarrow.gstate = .member) (hterm : rdNat f.payload 2 2 = s.yarrow.term.toNat)
    (hfind : (grantEntries f).find? (fun x => x.1 == s.yarrow.id) = some e) (hb : s.feed.brownout = false) :
    gives (.grant y) s fun t => t.budget.grantG = some e.2
      ∧ t.budget.due = true
      ∧ t.budget.decaying = false
      ∧ t.ports = s.ports
      ∧ t.yarrow.gstate = .member
      ∧ t.faults.raised = s.faults.raised := by
  obtain ⟨l, he⟩ := exec_grant h hg hf hst hterm hfind
  refine gives_of_exec he ?_
  obtain ⟨hgrant, hdue, hdec⟩ := State.takeGrant_acts (s := { s.popFrame y with yarrow := { s.yarrow with ledger := l } }) e.2 hb
  obtain ⟨d, b, ht⟩ := State.takeGrant_eq { s.popFrame y with yarrow := { s.yarrow with ledger := l } } e.2
  refine ⟨hgrant, hdue, hdec, ?_, ?_, ?_⟩
  · rw [ht]; rfl
  · rw [ht]; exact hst
  · rw [ht]; rfl

theorem grant_stored {e : BitVec 12 × Nat} (h : s.frameIs y 0x13 f) (hg : s.yarrow.groupNow ≠ 0)
    (hf : f.payload.getD 0 0 = s.yarrow.groupNow) (hst : s.yarrow.gstate = .member) (hterm : rdNat f.payload 2 2 = s.yarrow.term.toNat)
    (hfind : (grantEntries f).find? (fun x => x.1 == s.yarrow.id) = some e) (hb : s.feed.brownout = true) :
    gives (.grant y) s fun t => t.budget.grantNext = some e.2
      ∧ t.budget.grantG = s.budget.grantG
      ∧ t.budget.due = s.budget.due := by
  obtain ⟨l, he⟩ := exec_grant h hg hf hst hterm hfind
  refine gives_of_exec he ?_
  rw [State.takeGrant_waits (s := { s.popFrame y with yarrow := { s.yarrow with ledger := l } }) e.2 hb]
  exact ⟨rfl, rfl, rfl⟩

theorem grant_ignored (h : s.frameIs y 0x13 f)
    (hother : f.payload.getD 0 0 ≠ s.yarrow.groupNow ∨ rdNat f.payload 2 2 ≠ s.yarrow.term.toNat ∨ s.yarrow.gstate ≠ .member) :
    gives (.grant y) s fun t => (t.pool.queues[(yRx y)]).closed = (s.pool.queues[(yRx y)]).closed.tail
      ∧ t.budget = s.budget := by
  obtain ⟨l, hl⟩ := s.yarrow.noteGrant_eq f
  have hu : ((s.popFrame y).modYarrow fun w => w.noteGrant f) = { s.popFrame y with yarrow := { s.yarrow with ledger := l } } :=
    congrArg (fun w : Yarrow => { s.popFrame y with yarrow := w }) hl
  have he : exec (.grant y) s = .next { s.popFrame y with yarrow := { s.yarrow with ledger := l } } := by
    refine congrArg Host.Outcome.next ((State.takeFrame_of_frameIs h _).trans ?_)
    dsimp only
    rw [hu]
    refine if_neg ?_
    simp only [Bool.and_eq_true, bne_iff_ne, beq_iff_eq]
    rintro ⟨⟨⟨-, hf⟩, hterm⟩, hst⟩
    obtain h | h | h := hother
    · exact h hf
    · exact h hterm
    · exact h hst
  refine gives_of_exec he ⟨?_, rfl⟩
  unfold State.popFrame State.modPool Pool.pop Pool.modQ
  dsimp only
  rw [Fin.getElem_fin, Vector.getElem_set_self]
  rfl

end Sys2Proof.Machine
end

section
/-! O54, settled. -/

namespace Sys2Proof
open Machine

/-- Settles O54: heartbeats, misses, elections, reports, the scan of the ledger, its ageing, and grants. -/
theorem yarrowGroup : Obligations.YarrowGroup := by
  unfold Obligations.YarrowGroup
  refine ⟨fun y f s h hother => (exec_heartbeat h).trans (congrArg _ (State.heartbeat_of_other (s := s.popFrame y) hother)),
    fun y f s => heartbeat_adopted, fun y f s => heartbeat_followed, fun y f s => heartbeat_newTerm, fun y f s => heartbeat_oldTerm,
    fun y f s => heartbeat_claimed, fun y f s => heartbeat_heard, fun y f s => heartbeat_moves, ?sends, ?yields, ?early,
    fun g s => heartbeat_missed, fun g s => heartbeat_missed_outside, fun s => root_lost, fun s => heartbeat_not_missed, ?elects, ?relistens,
    fun s => listen_moves, ?elect, ?electOther, ?wins, ?loses, fun i s => window_goes_on, fun y f s => report_notes, fun d s => report_sends,
    fun s => report_not_due, fun k s => ledger_scanned, fun k s => ledger_slice_sent, fun k g s => ledger_own_grant, fun s => ledgerScan_rests,
    ?stale, ?freed, fun n s => ledgerStale_own, fun y f e s => grant_taken, fun y f e s => grant_stored, fun y f s => grant_ignored⟩
  case sends =>
    intro s hon hst hdue hcfg hel
    exact congrArg Host.Outcome.next ((if_pos (hbSend_due hon hst hdue)).trans ((if_neg (by simp [hcfg])).trans (if_neg (by simp [hel]))))
  case yields =>
    intro s hon hst hdue hcfg hel
    exact congrArg Host.Outcome.next ((if_pos (hbSend_due hon hst hdue)).trans ((if_neg (by simp [hcfg])).trans (if_pos (by simp [hel]))))
  case early =>
    intro s h
    refine congrArg Host.Outcome.next (if_neg ?_)
    simp only [Bool.and_eq_true, decide_eq_true_eq, beq_iff_eq]
    rintro ⟨⟨-, hst⟩, hdue⟩
    exact h.elim (fun hne => hne hst) (fun hlt => by omega)
  case elects =>
    intro s hon hst hdue hcfg hel hid
    exact congrArg Host.Outcome.next ((if_pos (listen_due hon hst hdue)).trans ((if_neg (by simp [hcfg])).trans
      (if_pos (by rw [hel]; simpa using hid))))
  case relistens =>
    intro s hon hst hdue hcfg hno
    refine congrArg Host.Outcome.next ((if_pos (listen_due hon hst hdue)).trans ((if_neg (by simp [hcfg])).trans (if_neg ?_)))
    obtain h | h := hno
    · simp [h]
    · simp [h]
  case elect =>
    intro y f s h hg hf
    exact congrArg Host.Outcome.next ((State.takeFrame_of_frameIs h _).trans (if_neg (Yarrow.not_other (w := (s.popFrame y).yarrow) hg hf)))
  case electOther =>
    intro y f s h hother
    refine congrArg Host.Outcome.next ((State.takeFrame_of_frameIs h _).trans (if_pos ?_))
    rw [Bool.or_eq_true, beq_iff_eq, bne_iff_ne]
    exact hother
  case wins =>
    intro s hon hst hdue hall
    exact gives_of_exec (congrArg Host.Outcome.next ((if_pos (elect_due hon hst hdue)).trans (if_pos hall)))
      ⟨rfl, rfl, rfl, rfl, rfl, rfl, rfl, rfl⟩
  case loses =>
    intro s hon hst hdue hall
    exact congrArg Host.Outcome.next ((if_pos (elect_due hon hst hdue)).trans (if_neg (by rw [hall]; decide)))
  case stale =>
    intro n e s hon hst hget hne hold hyoung
    refine (ledgerStale_of_entry hon hst hget hne).trans (congrArg Host.Outcome.next ?_)
    refine congrArg (fun w : Yarrow => { s with yarrow := w }) ?_
    dsimp only
    rw [if_neg (by omega), if_pos hold]
  case freed =>
    intro n e s hon hst hget hne hold
    refine (ledgerStale_of_entry hon hst hget hne).trans (congrArg Host.Outcome.next ?_)
    exact congrArg (fun w : Yarrow => { s with yarrow := w }) (if_pos hold)

end Sys2Proof
end

section
/-! Planish samples and the application of the shadow set (R137–R144, R148). -/

namespace Sys2Proof.Machine

variable {s : State} {p : PortId} {o : TrainObs}

theorem portKept_phy (v : Phy) : PortKept fun x => x.phy = v :=
  ⟨fun b x h => by unfold Port.quiesce; rw [Port.abandonRun_eq]; exact h, fun _ _ h => h, fun _ _ h => h, fun _ _ h => h⟩

/-! ### A window that ends -/

/-- The cluster's sampler is free. -/
def State.freeSampler (s : State) (p : PortId) : State := s.modCluster (clusterOf p) fun c => { c with sampler := none }

theorem State.freeSampler_sampler (s : State) (p : PortId) : ((s.freeSampler p).cluster (clusterOf p)).sampler = none := by
  unfold State.freeSampler
  rw [State.cluster_modCluster]

theorem exec_trainingSample_of_still (hs : (s.cluster (clusterOf p)).sampler = some p) (ht : (s.port p).phy.trains = false) :
    exec (.trainingSample p o) s = .next (s.freeSampler p) :=
  congrArg Host.Outcome.next ((if_neg (by simp [hs])).trans (if_pos (by rw [ht]; rfl)))

theorem exec_trainingSample_of_discarded (hs : (s.cluster (clusterOf p)).sampler = some p) (ht : (s.port p).phy.trains = true)
    (ho : judgeSample o = .discarded) :
    exec (.trainingSample p o) s = .next ((s.freeSampler p).modPort p fun x => { x with phy := (s.port p).phy.discard }) := by
  refine congrArg Host.Outcome.next ((if_neg (by simp [hs])).trans ((if_neg (by rw [ht]; decide)).trans ?_))
  rw [ho]
  rfl

theorem exec_trainingSample_of_noSample (hs : (s.cluster (clusterOf p)).sampler = some p) (ho : judgeSample o = .noSample) :
    exec (.trainingSample p o) s = .next (s.freeSampler p) := by
  refine congrArg Host.Outcome.next ((if_neg (by simp [hs])).trans ?_)
  dsimp only
  rw [ho]
  exact ite_self _

theorem exec_trainingSample_of_accepted (hs : (s.cluster (clusterOf p)).sampler = some p) (ht : (s.port p).phy.trains = true)
    (ho : judgeSample o = .accepted) :
    exec (.trainingSample p o) s = .next ((s.freeSampler p).takePhy p (((s.port p).phy.accept o).afterSample s.dev)) := by
  refine congrArg Host.Outcome.next ((if_neg (by simp [hs])).trans ((if_neg (by rw [ht]; decide)).trans ?_))
  rw [ho]
  rfl

theorem Phy.trains_of {f : Phy} (hcal : f.cal ≠ .off) (hen : f.trainEn = true) : f.trains = true := by
  unfold Phy.trains
  rw [hen]
  simpa using hcal

theorem Phy.not_trains_of {f : Phy} (h : f.cal = .off ∨ f.trainEn = false) : f.trains = false := by
  unfold Phy.trains
  obtain h | h := h
  · simp [h]
  · simp [h]

/-- A calibration state without a new field out of range raises nothing. -/
theorem State.takePhy_of_none (f : Phy) : s.takePhy p (f, none) = s.modPort p fun x => { x with phy := f } := rfl

/-! ### What an accepted sample makes of the engine -/

@[simp] theorem Phy.accept_cal (f : Phy) (o : TrainObs) : (f.accept o).cal = f.cal := by
  unfold Phy.accept
  split <;> rfl

@[simp] theorem Phy.accept_whole (f : Phy) (o : TrainObs) : (f.accept o).whole = f.whole := by
  unfold Phy.accept
  split <;> rfl

@[simp] theorem Phy.accept_applied (f : Phy) (o : TrainObs) : (f.accept o).applied = f.applied := by
  unfold Phy.accept
  split <;> rfl

theorem Phy.rebuild_eq (d : Dev) (f : Phy) : ∃ w, f.rebuild d = { f with shadow := w } := by
  unfold Phy.rebuild
  split
  · exact ⟨_, rfl⟩
  · exact ⟨_, rfl⟩

/-- Whether a field is out of range is a matter of the samples and the applied set. -/
theorem outOfRange_congr {f g : Phy} (d : Dev) (htx : g.txs = f.txs) (hrx : g.rxs = f.rxs) (ha : g.applied = f.applied) :
    outOfRange d g = outOfRange d f := by
  have htarget : ∀ i, coefTarget d g i = coefTarget d f i := by
    intro i
    unfold coefTarget
    rw [htx, hrx, ha]
  unfold outOfRange
  rw [htx, hrx, ha]
  simp only [htarget]

theorem Phy.afterSample_of_fallback (d : Dev) {f : Phy} (h : f.cal = .fallback) : f.afterSample d = (f, none) := if_pos h

/-- With every field in range the shadow set is rebuilt, and the run of equal sets counted (R140, R141). -/
theorem Phy.afterSample_of_range (d : Dev) {f : Phy} (hcal : f.cal ≠ .fallback) (hwhole : f.whole = false)
    (hin : outOfRange d (f.rebuild d) = none) :
    ∃ n c, f.afterSample d = ({ f.rebuild d with eqRun := n, cal := c }, none) := by
  unfold Phy.afterSample
  rw [if_neg hcal, if_neg (by rw [hwhole]; decide)]
  dsimp only
  obtain ⟨w, hw⟩ := Phy.rebuild_eq d f
  rw [hw] at hin
  have hout : outOfRange d f = none := (outOfRange_congr d rfl rfl rfl).symm.trans hin
  unfold Phy.rangeCheck
  rw [hout]
  exact ⟨_, _, rfl⟩

/-! ### The clauses -/

theorem training_off (hs : (s.cluster (clusterOf p)).sampler = some p) (h : (s.port p).phy.cal = .off ∨ (s.port p).phy.trainEn = false) :
    gives (.trainingSample p o) s fun t => (t.cluster (clusterOf p)).sampler = none ∧ t.ports = s.ports :=
  gives_of_exec (exec_trainingSample_of_still hs (Phy.not_trains_of h)) ⟨s.freeSampler_sampler p, rfl⟩

theorem training_discards (hs : (s.cluster (clusterOf p)).sampler = some p) (hcal : (s.port p).phy.cal ≠ .off)
    (hen : (s.port p).phy.trainEn = true) (ho : judgeSample o = .discarded) :
    gives (.trainingSample p o) s fun t => (t.port p).phy = { (s.port p).phy with discarded := satIncr (s.port p).phy.discarded }
      ∧ (t.cluster (clusterOf p)).sampler = none := by
  refine gives_of_exec (exec_trainingSample_of_discarded hs (Phy.trains_of hcal hen) ho) ⟨?_, s.freeSampler_sampler p⟩
  rw [State.port_modPort]
  rfl

theorem training_noSample (hs : (s.cluster (clusterOf p)).sampler = some p) (ho : judgeSample o = .noSample) :
    gives (.trainingSample p o) s fun t => (t.port p).phy = (s.port p).phy
      ∧ (t.cluster (clusterOf p)).sampler = none
      ∧ t.ports = s.ports :=
  gives_of_exec (exec_trainingSample_of_noSample hs ho) ⟨rfl, s.freeSampler_sampler p, rfl⟩

theorem training_fallback (hs : (s.cluster (clusterOf p)).sampler = some p) (hcal : (s.port p).phy.cal = .fallback)
    (hen : (s.port p).phy.trainEn = true) (ho : judgeSample o = .accepted) :
    gives (.trainingSample p o) s fun t => (t.port p).phy = (s.port p).phy.accept o
      ∧ (t.cluster (clusterOf p)).sampler = none
      ∧ t.faults = s.faults := by
  have he := exec_trainingSample_of_accepted hs (Phy.trains_of (by rw [hcal]; decide) hen) ho
  rw [Phy.afterSample_of_fallback _ (by rw [Phy.accept_cal, hcal]), State.takePhy_of_none] at he
  refine gives_of_exec he ⟨?_, s.freeSampler_sampler p, rfl⟩
  rw [State.port_modPort]

theorem training_accepts
    (hs : (s.cluster (clusterOf p)).sampler = some p)
    (hcal : (s.port p).phy.cal = .safe ∨ (s.port p).phy.cal = .training ∨ (s.port p).phy.cal = .converged)
    (hen : (s.port p).phy.trainEn = true) (ho : judgeSample o = .accepted) (hwhole : (s.port p).phy.whole = false)
    (hin : outOfRange s.dev (((s.port p).phy.accept o).rebuild s.dev) = none) :
    gives (.trainingSample p o) s fun t => (t.port p).phy.shadow = (((s.port p).phy.accept o).rebuild s.dev).shadow
      ∧ (t.port p).phy.applied = (s.port p).phy.applied
      ∧ (t.port p).phy.txs = ((s.port p).phy.accept o).txs
      ∧ (t.port p).phy.rxs = ((s.port p).phy.accept o).rxs
      ∧ (t.cluster (clusterOf p)).sampler = none
      ∧ t.faults = s.faults := by
  have hoff : (s.port p).phy.cal ≠ .off := by
    obtain h | h | h := hcal <;> rw [h] <;> decide
  have hfb : ((s.port p).phy.accept o).cal ≠ .fallback := by
    rw [Phy.accept_cal]
    obtain h | h | h := hcal <;> rw [h] <;> decide
  obtain ⟨n, c, hafter⟩ := Phy.afterSample_of_range s.dev hfb (by rw [Phy.accept_whole, hwhole]) hin
  have he := exec_trainingSample_of_accepted hs (Phy.trains_of hoff hen) ho
  rw [hafter, State.takePhy_of_none] at he
  refine gives_of_exec he ?_
  rw [State.port_modPort]
  obtain ⟨w, hw⟩ := Phy.rebuild_eq s.dev ((s.port p).phy.accept o)
  refine ⟨rfl, ?_, ?_, ?_, s.freeSampler_sampler p, rfl⟩
  · rw [hw]
    exact Phy.accept_applied ..
  · rw [hw]
  · rw [hw]

/-- Judging the range changes neither the applied set nor its record. -/
theorem Phy.rangeCheck_applied (d : Dev) (f w : Phy) (ha : w.applied = f.applied) (hs : w.steps = f.steps) (hb : w.lastApply = f.lastApply) :
    (f.rangeCheck d w).1.applied = f.applied ∧ (f.rangeCheck d w).1.steps = f.steps ∧ (f.rangeCheck d w).1.lastApply = f.lastApply := by
  unfold Phy.rangeCheck
  split
  · exact ⟨rfl, rfl, rfl⟩
  · exact ⟨ha, hs, hb⟩

/-- The applied set and its record stand once the targets have moved with it, whether or not a field is out of range by that. -/
theorem Phy.rejudge_applied (d : Dev) (g : Phy) :
    (if g.cal = .fallback then (g, none) else g.rangeCheck d (g.rebuild d)).1.applied = g.applied
      ∧ (if g.cal = .fallback then (g, none) else g.rangeCheck d (g.rebuild d)).1.steps = g.steps
      ∧ (if g.cal = .fallback then (g, none) else g.rangeCheck d (g.rebuild d)).1.lastApply = g.lastApply := by
  split
  · exact ⟨rfl, rfl, rfl⟩
  · obtain ⟨w, hw⟩ := Phy.rebuild_eq d g
    exact Phy.rangeCheck_applied d g (g.rebuild d) (by rw [hw]) (by rw [hw]) (by rw [hw])

/-- An application takes the shadow set. -/
theorem Phy.apply_spec (d : Dev) (b : Beat) (f : Phy) :
    (f.apply d b).1.applied = f.shadow ∧ (f.apply d b).1.steps = satIncr f.steps ∧ (f.apply d b).1.lastApply = b :=
  Phy.rejudge_applied d _

/-- A new calibration state stands, whatever is raised with it. -/
theorem State.takePhy_spec (r : Phy × Option (Fin 5)) :
    ((s.takePhy p r).port p).phy = r.1 ∧ ((s.takePhy p r).port p).tc.st = (s.port p).tc.st ∧ ((s.takePhy p r).port p).pd = (s.port p).pd := by
  have hphy : ((s.modPort p fun x => { x with phy := r.1 }).port p).phy = r.1 := by rw [State.port_modPort]
  have hst : ((s.modPort p fun x => { x with phy := r.1 }).port p).tc.st = (s.port p).tc.st := by rw [State.port_modPort]
  have hpd : ((s.modPort p fun x => { x with phy := r.1 }).port p).pd = (s.port p).pd := by rw [State.port_modPort]
  unfold State.takePhy
  dsimp only
  split
  · exact ⟨(portKept_phy r.1).raisePort _ _ _ _ _ hphy, (State.raisePort_st ..).trans hst, (State.raisePort_pd ..).trans hpd⟩
  · exact ⟨hphy, hst, hpd⟩

theorem shadow_applies {idle : Nat} (hidle : 100 ≤ idle) (hquiet : (s.port p).phyQuiet = true) (hcal : (s.port p).phy.cal ≠ .off)
    (hne : (s.port p).phy.shadow ≠ (s.port p).phy.applied) (hhold : (s.port p).phyHold = false ∨ (s.port p).phy.whole = true) :
    gives (.shadowApply p idle) s fun t => (t.port p).phy.applied = (s.port p).phy.shadow
      ∧ (t.port p).phy.steps = satIncr (s.port p).phy.steps
      ∧ (t.port p).phy.lastApply = s.now
      ∧ (t.port p).tc.st = (s.port p).tc.st
      ∧ (t.port p).pd = (s.port p).pd := by
  have he : exec (.shadowApply p idle) s = .next (s.takePhy p ((s.port p).phy.apply s.dev s.now)) := by
    refine congrArg Host.Outcome.next (if_pos ?_)
    rw [decide_eq_true hidle, hquiet]
    obtain h | h := hhold
    · simp [hcal, hne, h]
    · simp [hcal, hne, h]
  obtain ⟨ha, hs, hb⟩ := Phy.apply_spec s.dev s.now (s.port p).phy
  obtain ⟨hphy, hst, hpd⟩ := State.takePhy_spec (s := s) (p := p) ((s.port p).phy.apply s.dev s.now)
  refine gives_of_exec he ?_
  rw [hphy]
  exact ⟨ha, hs, hb, hst, hpd⟩

theorem shadow_held {idle : Nat} (hhold : (s.port p).phyHold = true) (hwhole : (s.port p).phy.whole = false) :
    exec (.shadowApply p idle) s = .next s :=
  congrArg Host.Outcome.next (if_neg (by rw [hhold, hwhole]; simp))

end Sys2Proof.Machine
end

section
/-! O26, settled. -/

namespace Sys2Proof
open Machine

/-- Settles O26: the verdicts of a sample, and the application of the shadow set. -/
theorem planish : Obligations.Planish := by
  unfold Obligations.Planish
  exact ⟨fun p o s => training_off, fun p o s => training_discards, fun p o s => training_noSample, fun p o s => training_fallback,
    fun p o s => training_accepts, fun f tR tF vH vL => rfl, fun p idle s => shadow_applies, fun p idle s => shadow_held⟩

end Sys2Proof
end


section
/-! What a guard that acts leaves of its port, and the gate monitor's samples (R286–R293, R298). -/

namespace Sys2Proof.Machine

variable {s : State} {p : PortId}

/-- A port whose power path is shut: GATE off, no fault timer, the stage idle. -/
def Port.isShut (x : Port) : Prop := x.guard.gateOn = false ∧ x.guard.timer = none ∧ x.stage.mode = .idle

theorem portKept_isShut : PortKept Port.isShut :=
  ⟨fun b x _ => by unfold Port.quiesce; rw [Port.abandonRun_eq]; exact ⟨rfl, rfl, rfl⟩, fun _ _ h => ⟨rfl, rfl, h.2.2⟩, fun _ _ h => h, fun _ _ h => h⟩

theorem Port.powerDown_isShut (b : Beat) (feed : Bool) (x : Port) : (x.powerDown b feed).isShut := by
  refine ⟨Port.powerDown_gateOn .., ?_, Port.powerDown_mode ..⟩
  unfold Port.powerDown Port.discharge Port.dropPd Port.vconnOff Port.gateOff Port.stageHalt
  rfl

theorem Port.enter_timer (svc : Bool) (b : Beat) (st : Tc) (x : Port) : (x.enter svc b st).guard.timer = x.guard.timer := by
  unfold Port.enter
  dsimp only
  split <;> rfl

theorem Port.enter_isShut (svc : Bool) (b : Beat) (st : Tc) {x : Port} (h : x.isShut) : (x.enter svc b st).isShut := by
  obtain ⟨hg, ht, hm⟩ := h
  exact ⟨by rw [Port.enter_gateOn]; exact hg, by rw [Port.enter_timer]; exact ht, by rw [Port.enter_stage]; exact hm⟩

theorem Port.abandonCal_isShut {x : Port} (h : x.isShut) : x.abandonCal.isShut := by
  rw [Port.abandonCal_eq]; exact h

theorem Port.toLockout_isShut (svc : Bool) (b : Beat) (feed : Bool) (x : Port) : (x.toLockout svc b feed).isShut :=
  Port.enter_isShut _ _ _ (Port.abandonCal_isShut (Port.powerDown_isShut ..))

theorem Port.toErrorRecovery_isShut (svc : Bool) (b : Beat) (feed held : Bool) (w : Nat) (x : Port) : (x.toErrorRecovery svc b feed held w).isShut := by
  have h := Port.enter_isShut svc b .errorRecovery (Port.abandonCal_isShut (Port.powerDown_isShut b feed x))
  unfold Port.toErrorRecovery
  dsimp only
  split
  · exact h
  · exact h

theorem Port.trip_isShut (svc : Bool) (b : Beat) (feed held : Bool) (x : Port) : (x.trip svc b feed held).isShut := by
  unfold Port.trip
  dsimp only
  split
  · exact Port.toLockout_isShut ..
  · exact Port.toErrorRecovery_isShut ..

/-- What shows of a port: it follows the guard and the stage alone. -/
theorem Port.isShut_of {x y : Port} (hg : y.guard = x.guard) (hs : y.stage = x.stage) (h : x.isShut) : y.isShut := by
  unfold Port.isShut at h ⊢
  rw [hg, hs]
  exact h

theorem State.dropPort_isShut {f : Port → Port} (st r : Nat) (hf : ∀ x, (f x).isShut) : ((s.dropPort p st r f).port p).isShut := by
  obtain ⟨x, -, -, -, -, -, -, hg, hs, -⟩ := State.dropPort_from (s := s) (p := p) st r f
  exact Port.isShut_of hg hs (hf x)

/-- Where GATE and the stage stop in a beat is recorded, no more. -/
theorem State.modStopped_isShut {old : Stage} {b : Beat} (h : (s.port p).isShut) : ((s.modPort p (Port.stopped b old)).port p).isShut := by
  rw [State.port_modPort]
  exact h

/-- A guard's action shuts its port's power path, in whatever state the port was (R286, R293). -/
theorem State.guardAct_isShut (s : State) (p : PortId) : ((s.guardAct p).port p).isShut := by
  unfold State.guardAct
  split
  · refine Port.isShut_of (State.updPort_port_guard ..) (State.updPort_port_stage ..) ?_
    exact ⟨rfl, rfl, rfl⟩
  · exact State.modStopped_isShut (State.dropPort_isShut _ _ fun x => Port.trip_isShut ..)

theorem State.guardTrip_isShut (s : State) (p : PortId) (code : Nat) : ((s.guardTrip p code).port p).isShut :=
  portKept_isShut.raise _ _ p (State.guardAct_isShut s p)

/-- A guard's trip is reported on its port's source, and leaves GATE off and the stage idle. -/
theorem State.guardTrip_spec (s : State) (p : PortId) (code : Nat) :
    (s.guardTrip p code).raisedAt (64 + p.val) = true ∧ ((s.guardTrip p code).port p).guard.gateOn = false
      ∧ ((s.guardTrip p code).port p).stage.mode = .idle ∧ ((s.guardTrip p code).port p).guard.timer = none := by
  obtain ⟨hg, ht, hm⟩ := State.guardTrip_isShut s p code
  exact ⟨State.raisePort_raised .., hg, hm, ht⟩

theorem State.gateFail_isShut (s : State) (p : PortId) : ((s.gateFail p).port p).isShut := by
  unfold State.gateFail
  refine portKept_isShut.raise _ _ p (State.modStopped_isShut (State.dropPort_isShut _ _ fun x => ?_))
  exact Port.toLockout_isShut ..

theorem Port.stopped_st (b : Beat) (old : Stage) (x : Port) : (x.stopped b old).tc.st = x.tc.st := rfl

theorem State.gateFail_st (s : State) (p : PortId) : ((s.gateFail p).port p).tc.st = .lockout := by
  unfold State.gateFail
  rw [State.raisePort_st, State.port_modPort, Port.stopped_st]
  obtain ⟨x, -, hst, -⟩ := State.dropPort_from (s := s) (p := p) 0x85 8 fun x => x.stageStop.toLockout (isService p) s.now s.feedOn
  exact hst.trans (Port.toLockout_spec (isService p) s.now s.feedOn x.stageStop).1

/-- FET_GATE locks its port out (R289). -/
theorem State.gateFail_spec (s : State) (p : PortId) :
    (s.gateFail p).raisedAt (64 + p.val) = true ∧ ((s.gateFail p).port p).tc.st = .lockout ∧ ((s.gateFail p).port p).guard.gateOn = false
      ∧ ((s.gateFail p).port p).stage.mode = .idle := by
  obtain ⟨hg, -, hm⟩ := State.gateFail_isShut s p
  exact ⟨State.raisePort_raised .., State.gateFail_st s p, hg, hm⟩

end Sys2Proof.Machine
end


section
/-! The port guards, clause by clause (R283–R298). -/

namespace Sys2Proof.Machine

variable {s : State} {p : PortId}

/-! ### The window monitors -/

theorem windowMonitor_vbs {xs : List MonSample} (hpow : s.portPowered p = true)
    (hno : (s.port p).guard.vbs.sawHigh (s.port p).vbsWindow (s.port p).monBlank xs = false) :
    exec (.windowMonitorDecision p .vbs xs) s
      = .next (s.modPort p fun y => { y with guard := { y.guard with vbs := y.guard.vbs.run y.vbsWindow y.monBlank xs } }) := by
  refine congrArg Host.Outcome.next ?_
  dsimp only
  rw [if_neg (by simp [hpow]), if_neg (by rw [hno]; exact Bool.false_ne_true)]

theorem windowMonitor_trips {m : PortMon} {xs : List MonSample} (hpow : s.portPowered p = true)
    (hhigh : (m = .vbs ∧ (s.port p).guard.vbs.sawHigh (s.port p).vbsWindow (s.port p).monBlank xs = true)
      ∨ (m = .vbl ∧ (s.port p).guard.vbl.sawHigh (s.port p).vblWindow (s.port p).monBlank xs = true)) :
    gives (.windowMonitorDecision p m xs) s fun t => t.raisedAt (64 + p.val) = true
      ∧ (t.port p).guard.gateOn = false ∧ (t.port p).stage.mode = .idle := by
  obtain ⟨u, code, he⟩ : ∃ (u : State) (code : Nat), exec (.windowMonitorDecision p m xs) s = .next (u.guardTrip p code) := by
    obtain ⟨rfl, h⟩ | ⟨rfl, h⟩ := hhigh
    · exact ⟨_, 3, congrArg Host.Outcome.next ((if_neg (by simp [hpow])).trans (if_pos h))⟩
    · exact ⟨_, 4, congrArg Host.Outcome.next ((if_neg (by simp [hpow])).trans (if_pos h))⟩
  refine gives_of_exec he ?_
  obtain ⟨hr, hg, hm, -⟩ := State.guardTrip_spec u p code
  exact ⟨hr, hg, hm⟩

/-! ### The gate monitor -/

/-- A sample of VGS touches the guard alone. -/
theorem Port.gateSample_eq (v : Int) (bl : Bool) (x : Port) : x.gateSample v bl = { x with guard := (x.gateSample v bl).guard } := by
  unfold Port.gateSample
  split <;> rfl

/-- The samples of FULLY_ON that the guard holds after a further one at 7.0 V. -/
def fullHist (h : List Bool) : List Bool := (true :: h).take 5

/-- A counted sample at 7.0 V of a gate that is on and not yet fully on: with three of five it is (R287). -/
theorem Port.gateSample_high {x : Port} (hon : x.guard.gateOn = true) (hno : x.guard.fullyOn = false) :
    (x.gateSample 7000 false).guard.gateOn = true
      ∧ (x.gateSample 7000 false).guard.fullyOn = threeOfFive (fullHist x.guard.fullMon)
      ∧ (x.gateSample 7000 false).guard.beenFull = (x.guard.beenFull || threeOfFive (fullHist x.guard.fullMon))
      ∧ (x.gateSample 7000 false).guard.fullMon
          = if threeOfFive (fullHist x.guard.fullMon) = true then [] else fullHist x.guard.fullMon := by
  unfold Port.gateSample fullHist
  simp [hon, hno]
  rfl

theorem Port.gateSamples_three {x : Port} (hon : x.guard.gateOn = true) (hno : x.guard.fullyOn = false) (hmon : x.guard.fullMon = []) :
    (x.gateSamples (List.replicate 3 ⟨7000, 9000⟩)).guard.fullyOn = true
      ∧ (x.gateSamples (List.replicate 3 ⟨7000, 9000⟩)).guard.beenFull = true
      ∧ (x.gateSamples (List.replicate 3 ⟨7000, 9000⟩)).guard.gateBlanked = false
      ∧ (x.gateSamples (List.replicate 3 ⟨7000, 9000⟩)).stage = x.stage
      ∧ (x.gateSamples (List.replicate 3 ⟨7000, 9000⟩)).tc = x.tc
      ∧ (x.gateSamples (List.replicate 3 ⟨7000, 9000⟩)).pd = x.pd := by
  have hopen : inBlank x.monBlank ⟨7000, 9000⟩ = false := by
    have h : fld x.cfg.guard[2] 8 8 < 256 := Nat.mod_lt _ (by decide)
    refine decide_eq_false ?_
    unfold Port.monBlank
    show ¬ 9000 < _
    omega
  obtain ⟨hon1, hfull1, -, hmon1⟩ := Port.gateSample_high hon hno
  rw [hmon] at hfull1 hmon1
  obtain ⟨hon2, hfull2, -, hmon2⟩ := Port.gateSample_high hon1 hfull1
  rw [hmon1] at hfull2 hmon2
  obtain ⟨-, hfull3, hbeen3, -⟩ := Port.gateSample_high hon2 hfull2
  rw [hmon2] at hfull3 hbeen3
  have hy : (List.replicate 3 (⟨7000, 9000⟩ : MonSample)).foldl (fun k e => k.gateSample e.mv (inBlank x.monBlank e)) x
      = ((x.gateSample 7000 false).gateSample 7000 false).gateSample 7000 false := by
    simp [List.replicate, hopen]
  unfold Port.gateSamples
  dsimp only
  rw [hy]
  refine ⟨hfull3, ?_, ?_, ?_, ?_, ?_⟩
  · show (((x.gateSample 7000 false).gateSample 7000 false).gateSample 7000 false).guard.beenFull = true
    rw [hbeen3]
    exact Bool.or_true _
  · simp [List.replicate, hopen]
  all_goals
    rw [Port.gateSample_eq, Port.gateSample_eq _ _ (x.gateSample _ _), Port.gateSample_eq _ _ x]

theorem gateFullyOn_reached {c : Instr} {xs : List MonSample} (hpow : s.portPowered p = true)
    (hc : c = .windowMonitorDecision p .gate xs ∨ c = .gateFullyOn (.port p) xs ∨ c = .gateBelowOff (.port p) xs)
    (hon : (s.port p).guard.gateOn = true) (hno : (s.port p).guard.fullyOn = false) (hmon : (s.port p).guard.fullMon = [])
    (hxs : xs = List.replicate 3 ⟨7000, 9000⟩) :
    gives c s fun t => (t.port p).guard.fullyOn = true
      ∧ (t.port p).guard.beenFull = true
      ∧ (t.port p).guard.gateBlanked = false
      ∧ (t.port p).stage = (s.port p).stage
      ∧ (t.port p).tc = (s.port p).tc
      ∧ (t.port p).pd = (s.port p).pd
      ∧ t.pool = s.pool := by
  have he : exec c s = .next (s.modPort p (Port.gateSamples xs)) := by
    obtain rfl | rfl | rfl := hc
    · exact congrArg Host.Outcome.next (if_neg (by simp [hpow]))
    · exact congrArg Host.Outcome.next (if_pos hpow)
    · exact congrArg Host.Outcome.next (if_pos hpow)
  refine gives_of_exec he ?_
  subst hxs
  rw [State.port_modPort]
  obtain ⟨hf, hb, hbl, hst, htc, hpd⟩ := Port.gateSamples_three hon hno hmon
  exact ⟨hf, hb, hbl, hst, htc, hpd, rfl⟩

theorem monBlanked_raises {m : PortMon} (h : (s.port p).guard.blankRun[monDetail m] = 4) :
    gives (.monBlanked (.port p m)) s fun t => t.raisedAt (64 + p.val) = true :=
  gives_of_exec (congrArg Host.Outcome.next (if_pos h)) (State.raisePort_raised ..)

theorem fetGate_locks (hon : (s.port p).guard.gateOn = true) (hbelow : (s.port p).guard.belowOff = true) (hbeen : (s.port p).guard.beenFull = true)
    (hlim : (s.port p).guard.gst ≠ .limit) :
    gives (.fetGate p) s fun t => t.raisedAt (64 + p.val) = true ∧ (t.port p).tc.st = .lockout ∧ (t.port p).guard.gateOn = false
      ∧ (t.port p).stage.mode = .idle := by
  refine gives_of_exec (congrArg Host.Outcome.next (if_pos ?_)) (State.gateFail_spec s p)
  rw [hon, hbelow, hbeen, bne_iff_ne.mpr hlim]
  simp

/-! ### Current limit, fault timer, fast trip -/

theorem currentLimit_starts {ma : Int} (hon : (s.port p).guard.gateOn = true)
    (hgst : (s.port p).guard.gst = .ramp ∨ (s.port p).guard.gst = .on ∨ (s.port p).guard.gst = .limit)
    (hma : 10 * (s.port p).guard.iLim ≤ ma.natAbs) :
    gives (.currentLimitEnter p ma) s fun t => (t.port p).guard.gst = .limit
      ∧ (t.port p).guard.timer = some ((s.port p).guard.timer.getD 0)
      ∧ (t.port p).guard.fullyOn = false
      ∧ (t.port p).guard.gateOn = true
      ∧ (t.port p).tc = (s.port p).tc
      ∧ t.pool = s.pool
      ∧ t.faults = s.faults
      ∧ (t.port p).pd = (s.port p).pd := by
  have hg : ((s.port p).guard.gst == .ramp || (s.port p).guard.gst == .on || (s.port p).guard.gst == .limit) = true := by
    obtain h | h | h := hgst <;> rw [h] <;> rfl
  refine gives_of_exec (congrArg Host.Outcome.next (if_pos ?_)) ?_
  · rw [hon, hg, decide_eq_true hma]; rfl
  · rw [State.port_modPort]
    exact ⟨rfl, rfl, rfl, hon, rfl, rfl, rfl, rfl⟩

theorem ilimTimeout_trips {n : Nat} (ht : (s.port p).guard.timer = some n) (hn : (s.port p).faultBound s.feed.brownout ≤ n) :
    gives (.ilimTimeout p) s fun t => t.raisedAt (64 + p.val) = true
      ∧ (t.port p).guard.gateOn = false
      ∧ (t.port p).stage.mode = .idle
      ∧ (t.port p).guard.timer = none := by
  have hwas : (s.port p).guard.timerWas s.now = some n := by
    unfold Guard.timerWas
    rw [ht]
    rfl
  have he : exec (.ilimTimeout p) s = .next (s.guardTrip p 2) := by
    show execIlimTimeout p s = _
    unfold execIlimTimeout
    rw [hwas]
    exact congrArg Host.Outcome.next (if_pos hn)
  exact gives_of_exec he (State.guardTrip_spec s p 2)

theorem faultTimer_clears {n : Nat} (ht : (s.port p).guard.timer = some n) (hfree : 16 ≤ (s.port p).stage.runs.limitFree) :
    exec (.faultTimerClear p) s = .next (s.modPort p fun x => { x with
      guard := { x.guard with timer := none, rise := if x.guard.fullyOn then none else some 0 } }) :=
  congrArg Host.Outcome.next (if_pos (by rw [ht, decide_eq_true hfree]; rfl))

theorem fastTrip_trips {ma : Int} (hon : (s.port p).guard.gateOn = true)
    (hma : 25 * fld (s.port p).cfg.guard[0] 24 8 * (10 * (s.port p).guard.iLim) < 100 * ma.natAbs) :
    gives (.fastTrip p ma) s fun t => t.raisedAt (64 + p.val) = true
      ∧ (t.port p).guard.gateOn = false ∧ (t.port p).stage.mode = .idle := by
  refine gives_of_exec (congrArg Host.Outcome.next (if_pos (?_ : _ = true))) ?_
  · unfold Guard.gateWas
    rw [hon, decide_eq_true hma]
    rfl
  · obtain ⟨hr, hg, hm, -⟩ := State.guardTrip_spec s p 1
    exact ⟨hr, hg, hm⟩

theorem fastTrip_below {ma : Int} (hma : 100 * ma.natAbs ≤ 25 * fld (s.port p).cfg.guard[0] 24 8 * (10 * (s.port p).guard.iLim)) :
    exec (.fastTrip p ma) s = .next s :=
  congrArg Host.Outcome.next (if_neg (by simp [Nat.not_lt.mpr hma]))

theorem tripCount_resets (h : 15000000 ≤ (s.port p).stage.runs.good) :
    exec (.tripCountReset p) s = .next (s.modPort p fun x => { x with guard := { x.guard with trips := 0 } }) :=
  congrArg Host.Outcome.next (if_pos h)

/-! ### Temperature -/

theorem exec_thermalModelUpdate (hpow : s.portPowered p = true) (hen : (s.port p).enabled = true) :
    exec (.thermalModelUpdate p) s = .next (s.modPort p Port.thermalBeat) :=
  congrArg Host.Outcome.next (if_pos (by rw [hpow, hen]; rfl))

theorem Port.thermalBeat_mild {x : Port} (h : x.thermalStep.tooHot = false ∨ x.thermalStep.tripIdle = true) : x.thermalBeat = x.thermalStep := by
  have hno : (x.thermalStep.tooHot && !x.thermalStep.tripIdle) = false := by
    obtain h | h := h <;> rw [h] <;> simp
  unfold Port.thermalBeat
  dsimp only
  rw [hno, Bool.or_false]

theorem thermalModel_mild (hpow : s.portPowered p = true) (hen : (s.port p).enabled = true)
    (h : (s.port p).thermalStep.tooHot = false ∨ (s.port p).thermalStep.tripIdle = true) :
    exec (.thermalModelUpdate p) s = .next (s.modPort p Port.thermalStep) := by
  rw [exec_thermalModelUpdate hpow hen]
  refine congrArg Host.Outcome.next ?_
  unfold State.modPort
  rw [show (s.ports[p]).thermalBeat = (s.ports[p]).thermalStep from Port.thermalBeat_mild h]

theorem thermalModel_hot (hpow : s.portPowered p = true) (hen : (s.port p).enabled = true) (hhot : (s.port p).thermalStep.tooHot = true)
    (hidle : (s.port p).thermalStep.tripIdle = false) :
    gives (.thermalModelUpdate p) s fun t => (t.port p).guard.hotDue = true
      ∧ (t.port p).guard.tEst = ((s.port p).thermalStep).guard.tEst
      ∧ (t.port p).guard.gst = (s.port p).guard.gst
      ∧ (t.port p).stage = (s.port p).stage
      ∧ t.faults = s.faults := by
  refine gives_of_exec (exec_thermalModelUpdate hpow hen) ?_
  rw [State.port_modPort]
  refine ⟨?_, rfl, rfl, rfl, rfl⟩
  unfold Port.thermalBeat
  dsimp only
  rw [hhot, hidle]
  exact Bool.or_true _

/-- One port of the slot's OVERTEMP action (R298, R347). -/
def hotStep (t : State × List Raise) (p : PortId) : State × List Raise :=
  if !(t.1.port p).guard.hotDue then t
  else
    let u := t.1.modPort p fun x => { x with guard := { x.guard with hotDue := false } }
    if (u.port p).tripIdle then (u, t.2) else (u.guardAct p, t.2 ++ [portRaise p 5 0])

theorem State.hotTrips_eq (s : State) : s.hotTrips = allPorts.foldl hotStep (s, []) := rfl

theorem hotStep_cool {t : State × List Raise} (h : (t.1.port p).guard.hotDue = false) : hotStep t p = t :=
  if_pos (by rw [h]; rfl)

theorem foldl_hotStep_cool {t : State × List Raise} : ∀ {ps : List PortId}, (∀ q ∈ ps, (t.1.port q).guard.hotDue = false) → ps.foldl hotStep t = t
  | [], _ => rfl
  | q :: ps, h => by
    rw [List.foldl_cons, hotStep_cool (h q (List.mem_cons_self ..))]
    exact foldl_hotStep_cool fun r hr => h r (List.mem_cons_of_mem _ hr)

theorem State.guardAct_port_ne (s : State) {p q : PortId} (h : q ≠ p) : (s.guardAct p).port q = s.port q := by
  unfold State.guardAct State.tripAct
  split
  · exact State.port_updPort_ne _ h _
  · rw [State.port_modPort_ne _ h, State.dropPort_port_ne _ _ _ _ _ h]

theorem hotTrips_one (hdue : (s.port p).guard.hotDue = true) (hothers : ∀ q : PortId, q ≠ p → (s.port q).guard.hotDue = false)
    (hidle : (s.port p).tripIdle = false) :
    s.hotTrips = ((s.modPort p fun x => { x with guard := { x.guard with hotDue := false } }).guardAct p, [portRaise p 5 0]) := by
  obtain ⟨before, after, hsplit⟩ := List.append_of_mem (mem_allPorts p)
  have hnodup : (before ++ p :: after).Nodup := hsplit ▸ List.nodup_finRange 96
  have hbefore : ∀ q ∈ before, q ≠ p := fun q hq he =>
    (List.disjoint_of_nodup_append hnodup) (he ▸ hq) (List.mem_cons_self ..)
  have hafter : ∀ q ∈ after, q ≠ p := fun q hq he =>
    (List.nodup_cons.mp (List.nodup_append.mp hnodup).2.1).1 (he ▸ hq)
  have hstep : hotStep (s, []) p
      = ((s.modPort p fun x => { x with guard := { x.guard with hotDue := false } }).guardAct p, [portRaise p 5 0]) := by
    refine (if_neg (by simp [hdue])).trans (if_neg ?_)
    rw [State.port_modPort]
    exact ne_true_of_eq_false hidle
  rw [State.hotTrips_eq, hsplit, List.foldl_append, List.foldl_cons, foldl_hotStep_cool fun q hq => hothers q (hbefore q hq), hstep]
  refine foldl_hotStep_cool fun q hq => ?_
  rw [State.guardAct_port_ne _ (hafter q hq), State.port_modPort_ne _ (hafter q hq)]
  exact hothers q (hafter q hq)

theorem tsnFault_raises (h : (s.port p).guard.tsnBad = 2) :
    gives (.tsnFault p) s fun t => t.raisedAt (64 + p.val) = true ∧ ((s.port p).tMode = 0 → (t.port p).guard.gateOn = false) := by
  by_cases hmode : (s.port p).tMode = 0
  · refine gives_of_exec (congrArg Host.Outcome.next ((if_pos h).trans (if_pos hmode))) ?_
    obtain ⟨hr, hg, -⟩ := State.guardTrip_spec (s.modPort p fun x => { x with guard := { x.guard with tsnBad := 3 } }) p 8
    exact ⟨hr, fun _ => hg⟩
  · exact gives_of_exec (congrArg Host.Outcome.next ((if_pos h).trans (if_neg hmode))) ⟨State.raisePort_raised .., fun h0 => absurd h0 hmode⟩

end Sys2Proof.Machine
end

section
/-! O39, settled. -/

namespace Sys2Proof
open Machine

/-- Settles O39: every trip goes through `State.guardAct`, which shuts its port's power path whatever the port's state. -/
theorem guards : Obligations.Guards := by
  unfold Obligations.Guards
  refine ⟨fun p xs s => windowMonitor_vbs, fun p m xs s => windowMonitor_trips, fun p c xs s => gateFullyOn_reached,
    fun p m s => monBlanked_raises, fun p s => fetGate_locks, fun p ma s => currentLimit_starts, fun p n s => ilimTimeout_trips,
    fun p n s => faultTimer_clears, fun p ma s => fastTrip_trips, fun p ma s => fastTrip_below, fun p s => tripCount_resets,
    fun p s => thermalModel_mild, fun p s => thermalModel_hot, fun p s hdue hothers hidle => ?_, fun p s => tsnFault_raises⟩
  have h := hotTrips_one hdue hothers hidle
  obtain ⟨hg, -, hm⟩ := State.guardAct_isShut (s.modPort p fun x => { x with guard := { x.guard with hotDue := false } }) p
  rw [h]
  exact ⟨rfl, hg, hm⟩

end Sys2Proof
end


section
/-! What the update of a port's stage leaves alone: the connection, the harness, the contexts and the PHY (R32, R266–R274). -/

namespace Sys2Proof.Machine

variable {s : State} {p : PortId} (x : Port) (b : Beat)

/-- What no update of the stage touches. -/
def Port.bench (x : Port) := (x.cfg, x.tc.st, x.harn, x.timers, x.ctx, x.phy, x.pd.cable, x.pd.contract.eprMode)

/-- The two conversions of the beat, and their beat. -/
def Port.pair (x : Port) := (x.stage.conv.vbs, x.stage.conv.ibus, x.stage.conv.beat)

/-- The direction the stage runs in, the one it is told, its reference and target, and the command at its outputs. -/
def Port.drive (x : Port) := (x.stage.mode, x.stage.want, x.stage.vRef, x.stage.vTgt, x.stage.startAt, x.stage.cmd)

/-- What an update has settled for the next slot 0. -/
def Port.output (x : Port) := (x.stage.dacNext, x.stage.slope, x.stage.e)

/-- `y` differs from `x` by an auxiliary conversion at most. -/
structure Port.auxed (x y : Port) : Prop where
  bench : y.bench = x.bench
  pair : y.pair = x.pair
  drive : y.drive = x.drive
  output : y.output = x.output
  tc : x.tc.rdCheck = none → y.tc = x.tc

theorem Port.auxed_refl : x.auxed x := ⟨rfl, rfl, rfl, rfl, fun _ => rfl⟩

/-- `y` is `x` with the discharge moved on: one that ran may have ended, one that was due may have begun, a start may be held. -/
structure Port.discharged (x y : Port) : Prop where
  bench : y.bench = x.bench
  pair : y.pair = x.pair
  tc : y.tc = x.tc
  drive : x.stage.mode = .forward → y.drive = x.drive

theorem Port.discharged_refl : x.discharged x := ⟨rfl, rfl, rfl, fun _ => rfl⟩

/-! ### The auxiliary conversions -/

/-- `y` is `x` but for its connection record, whose state is the same. -/
def Port.tcOnly (y : Port) : Prop := ∃ k, y = { x with tc := k } ∧ k.st = x.tc.st

/-- The check of Rd that an item serves reaches the check and the levels presented alone. -/
theorem Port.rdConversion_tcOnly (second : Bool) : x.tcOnly (x.rdConversion second) := by
  unfold Port.rdConversion
  split
  · exact ⟨x.tc, rfl, rfl⟩
  · exact iteInduction (motive := x.tcOnly) (fun _ => ⟨x.tc, rfl, rfl⟩) fun _ =>
      iteInduction (motive := x.tcOnly) (fun _ => ⟨_, rfl, rfl⟩) fun _ => ⟨_, rfl, rfl⟩

theorem Port.rdConversion_none (second : Bool) (h : x.tc.rdCheck = none) : x.rdConversion second = x := by
  unfold Port.rdConversion
  rw [h]

theorem Port.endGateHold_eq : ∃ g, x.endGateHold b = { x with stage := { x.stage with gateHold := false }, guard := g } := by
  unfold Port.endGateHold
  dsimp only
  split
  · exact Port.gateOnCmd_eq _ _
  · exact ⟨_, rfl⟩

theorem Port.takeCcItem_auxed (second : Bool) (v : Int) : x.auxed (x.takeCcItem second v) := by
  unfold Port.takeCcItem
  dsimp only
  generalize hc : (if second = true then _ else _ : Conv) = c'
  have hpair : (c'.vbs, c'.ibus, c'.beat) = x.pair := by
    rw [← hc]
    split <;> rfl
  obtain ⟨k, hk, hst⟩ := Port.rdConversion_tcOnly { x with stage := { x.stage with conv := c' } } second
  refine ⟨?_, ?_, ?_, ?_, fun h => ?_⟩
  · rw [hk]
    unfold Port.bench
    rw [hst]
  · rw [hk]; exact hpair
  · rw [hk]; rfl
  · rw [hk]; rfl
  · exact (congrArg Port.tc (Port.rdConversion_none { x with stage := { x.stage with conv := c' } } second h) :)

theorem Port.sweepPass_auxed : x.auxed x.sweepPass := by
  unfold Port.sweepPass
  split <;> exact ⟨rfl, rfl, rfl, rfl, fun _ => rfl⟩

theorem Port.takeSbu_auxed (odd : Bool) (v : Int) : x.auxed (x.takeSbu odd v) := by
  unfold Port.takeSbu
  split
  · obtain ⟨h1, h2, h3, h4, h5⟩ := Port.sweepPass_auxed { x with stage := { x.stage with conv := { x.stage.conv with sbu := v } } }
    exact ⟨h1, h2, h3, h4, h5⟩
  · exact ⟨rfl, rfl, rfl, rfl, fun _ => rfl⟩
  · exact Port.sweepPass_auxed x

/-- A beat stamp is none of these. -/
theorem Port.auxed.stamp {x y : Port} (h : x.auxed y) (i : Fin 8) : x.auxed (y.stamp b i) :=
  ⟨h.bench, h.pair, h.drive, h.output, h.tc⟩

theorem Port.takeAux_auxed (odd : Bool) (n : Nat) (v : Int) : x.auxed (x.takeAux b odd n v) := by
  unfold Port.takeAux
  dsimp only
  split
  · split
    · obtain ⟨g, hg⟩ := Port.endGateHold_eq
        (Port.stamp b 2 { x with stage := { x.stage with conv := { x.stage.conv with vbl := v }, delta := v - x.vMeas } }) b
      rw [hg]
      exact ⟨rfl, rfl, rfl, rfl, fun _ => rfl⟩
    · exact ⟨rfl, rfl, rfl, rfl, fun _ => rfl⟩
  · exact ⟨rfl, rfl, rfl, rfl, fun _ => rfl⟩
  · exact ⟨rfl, rfl, rfl, rfl, fun _ => rfl⟩
  · split
    · exact (Port.takeCcItem_auxed x _ v).stamp b 5
    · exact Port.auxed_refl x
  · split
    · exact Port.takeSbu_auxed x odd v
    · exact (Port.takeSbu_auxed x odd v).stamp b 6
  · exact ⟨rfl, rfl, rfl, rfl, fun _ => rfl⟩

/-! ### The pair, the loop and the counts -/

theorem Port.takePair_bench (vbs uv : Int) : (x.takePair b vbs uv).bench = x.bench := by
  unfold Port.takePair Port.noteFall
  split
  · rfl
  · rfl
  · split
    · split <;> rfl
    · rfl

theorem Port.takePair_tc (vbs uv : Int) : (x.takePair b vbs uv).tc = x.tc := by
  unfold Port.takePair Port.noteFall
  split
  · rfl
  · rfl
  · split
    · split <;> rfl
    · rfl

theorem Port.takePair_drive (vbs uv : Int) : (x.takePair b vbs uv).drive = x.drive := by
  unfold Port.takePair Port.noteFall
  split
  · rfl
  · rfl
  · split
    · split <;> rfl
    · rfl

theorem Port.takePair_pair {vbs uv : Int} (h1 : x.harn.step ≠ some .s1) (h3 : x.harn.step ≠ some .s3) :
    (x.takePair b vbs uv).pair = (x.corrected vbs, x.shuntMa uv, b) := by
  unfold Port.takePair Port.noteFall
  split
  · next h => exact absurd h h1
  · next h => exact absurd h h3
  · split
    · split <;> rfl
    · rfl

theorem Port.takePair_cal {vbs uv : Int} (h : x.harn.step = some .s1 ∨ x.harn.step = some .s3) : x.takePair b vbs uv = x := by
  unfold Port.takePair
  obtain h | h := h <;> rw [h]

theorem Port.slopeStep_eq (vt : Int) : ∃ g, x.slopeStep vt = { x with stage := g } ∧ g.conv = x.stage.conv := ⟨_, rfl, rfl⟩

/-- `y` is `x` but for its region. -/
def Port.regionOnly (y : Port) : Prop := ∃ r n, y = { x with stage := { x.stage with region := r, regionAt := n } }

theorem Port.regionStep_only (stale : Bool) (vt : Int) : x.regionOnly (x.regionStep b stale vt) :=
  iteInduction (motive := x.regionOnly) (fun _ => ⟨_, _, rfl⟩) fun _ => ⟨x.stage.region, x.stage.regionAt, rfl⟩

theorem Port.slew_eq : ∃ g, x.slew b = { x with stage := { x.stage with vRef := slewRef x.slewRate (x.stage.vTgt * 200) x.stage.vRef }, guard := g } := by
  unfold Port.slew
  dsimp only
  split
  · exact ⟨_, rfl⟩
  · exact ⟨_, rfl⟩

/-- What a loop keeps: `Port.bench`, the conversions and the connection. -/
structure Port.looped (x y : Port) : Prop where
  bench : y.bench = x.bench
  pair : y.pair = x.pair
  tc : y.tc = x.tc

theorem Port.looped_refl : x.looped x := ⟨rfl, rfl, rfl⟩

theorem Port.looped.trans {x y z : Port} (h : x.looped y) (k : y.looped z) : x.looped z :=
  ⟨k.bench.trans h.bench, k.pair.trans h.pair, k.tc.trans h.tc⟩

theorem Port.slopeStep_looped (vt : Int) : x.looped (x.slopeStep vt) := ⟨rfl, rfl, rfl⟩

theorem Port.regionStep_looped (stale : Bool) (vt : Int) : x.looped (x.regionStep b stale vt) := by
  obtain ⟨r, n, h⟩ := Port.regionStep_only x b stale vt
  rw [h]
  exact ⟨rfl, rfl, rfl⟩

theorem Port.slew_looped : x.looped (x.slew b) := by
  obtain ⟨g, h⟩ := Port.slew_eq x b
  rw [h]
  exact ⟨rfl, rfl, rfl⟩

theorem Port.forwardLoop_looped (stale : Bool) : x.looped (x.forwardLoop stale) := ⟨rfl, rfl, rfl⟩

theorem Port.reverseLoop_looped (vt : Int) : x.looped (x.reverseLoop vt) := ⟨rfl, rfl, rfl⟩

theorem Port.loopStep_looped (feed stale : Bool) (vt : Int) : x.looped (x.loopStep b feed stale vt) := by
  have htail (y : Port) : y.looped ((y.regionStep b stale vt).slopeStep vt) :=
    (Port.regionStep_looped y b stale vt).trans (Port.slopeStep_looped _ vt)
  have hhalt : x.looped x.stageHalt := ⟨rfl, rfl, rfl⟩
  have hmoved : x.looped (if x.stage.startAt.later (b + 1) then x else x.slew b) := by
    split
    · exact Port.looped_refl x
    · exact Port.slew_looped x b
  unfold Port.loopStep
  dsimp only
  split
  · split
    · exact Port.slopeStep_looped x vt
    · exact Port.looped_refl x
  · split
    · exact hhalt
    · exact (hmoved.trans (Port.forwardLoop_looped _ stale)).trans (htail _)
  · exact iteInduction (motive := x.looped) (fun _ => hhalt.trans ⟨rfl, rfl, rfl⟩) fun _ =>
      iteInduction (motive := x.looped) (fun _ => hhalt) fun _ => (Port.reverseLoop_looped x vt).trans (htail _)

theorem Port.auxed.trans {x y z : Port} (h : x.auxed y) (k : y.auxed z) : x.auxed z := by
  refine ⟨k.bench.trans h.bench, k.pair.trans h.pair, k.drive.trans h.drive, k.output.trans h.output, fun hx => ?_⟩
  have hy := h.tc hx
  exact (k.tc (by rw [hy]; exact hx)).trans hy

/-! ### Of the state -/

/-- What a port's floor and the triggers of an allocation follow (R318, R321). -/
def Port.claim (x : Port) := (x.cfg, x.tc.st, x.pd.cable, x.pd.contract.eprMode)

theorem floorOf_of_claim {x y : Port} (h : y.claim = x.claim) (s : State) : floorOf (s.classOf y) s.budget y = floorOf (s.classOf x) s.budget x := by
  simp only [Port.claim, Prod.mk.injEq] at h
  obtain ⟨hcfg, hst, -⟩ := h
  have hclass : s.classOf y = s.classOf x := by
    have hidx : y.classIdx = x.classIdx := by
      unfold Port.classIdx
      rw [hcfg]
    unfold State.classOf
    simp only [hidx]
  unfold floorOf Port.roleOf
  rw [hclass, hst, hcfg]

theorem budgetTrigger_of_claim {x y : Port} (h : y.claim = x.claim) : budgetTrigger x y = false := by
  simp only [Port.claim, Prod.mk.injEq] at h
  obtain ⟨-, hst, hk, he⟩ := h
  simp [budgetTrigger, hst, he, hk]

/-- A change that leaves the claim as it is brings no new grant: the port is what the change makes of it. -/
theorem State.updPort_of_claim {f : Port → Port} (h : (f (s.port p)).claim = (s.port p).claim) : (s.updPort p f).port p = f (s.port p) := by
  unfold State.updPort State.port
  simp only [Fin.getElem_fin, Vector.getElem_set_self]
  refine if_neg ?_
  have h' : (f s.ports[p.val]).claim = (s.ports[p.val]).claim := h
  rw [budgetTrigger_of_claim h', floorOf_of_claim h']
  simp

theorem Port.claim_of_bench {x y : Port} (h : y.bench = x.bench) : y.claim = x.claim := by
  simp only [Port.bench, Prod.mk.injEq] at h
  obtain ⟨hcfg, hst, -, -, -, -, hk, he⟩ := h
  unfold Port.claim
  rw [hcfg, hst, hk, he]

theorem State.updPort_of_bench {f : Port → Port} (h : (f (s.port p)).bench = (s.port p).bench) : (s.updPort p f).port p = f (s.port p) :=
  State.updPort_of_claim (Port.claim_of_bench h)

theorem Port.beginRun_discharged (fsw : Nat) (first : Beat) (hidle : x.stage.mode = .idle) :
    x.discharged ((if x.stage.disS then x else { x with stage := { x.stage with disS := true, disBeatS := b } }).beginRun fsw first) := by
  refine ⟨?_, ?_, ?_, fun h => nomatch hidle.symm.trans h⟩ <;> split <;> rfl

theorem Port.holdPending_discharged (hidle : x.stage.mode = .idle) : x.discharged (x.holdPending b) := by
  unfold Port.holdPending
  dsimp only
  split
  · exact ⟨rfl, rfl, rfl, fun h => nomatch hidle.symm.trans h⟩
  · exact Port.discharged_refl x

theorem State.dischargeStep_discharged (s : State) (p : PortId) : (s.port p).discharged ((s.dischargeStep p).port p) := by
  have hupd {u : State} {f : Port → Port} (hu : u.port p = s.port p) (h : (s.port p).discharged (f (s.port p))) :
      (s.port p).discharged ((u.updPort p f).port p) := by
    rw [State.updPort_of_bench (by rw [hu]; exact h.bench), hu]
    exact h
  unfold State.dischargeStep
  dsimp only
  split
  · exact hupd rfl ⟨rfl, rfl, rfl, fun _ => rfl⟩
  · split
    · next h =>
      refine hupd rfl (Port.holdPending_discharged _ _ ?_)
      simp only [Port.startPending, Bool.and_eq_true, beq_iff_eq] at h
      exact h.1.1.1
    · split
      · next h =>
        refine hupd (State.releaseSen_port ..) (Port.beginRun_discharged _ _ _ _ ?_)
        simp only [Port.definedIdle, Bool.and_eq_true, beq_iff_eq] at h
        exact h.1.2.1.1.1.1
      · exact Port.discharged_refl _

theorem State.dischargeStep_faults (s : State) (p : PortId) : (s.dischargeStep p).faults = s.faults := by
  unfold State.dischargeStep State.releaseSen
  dsimp only
  (repeat' split) <;> rfl

end Sys2Proof.Machine
end


section
/-! LOOP_UPDATE and the other instructions of the stage, clause by clause (R258–R275). -/

namespace Sys2Proof.Machine

variable {s : State} {p : PortId}

/-- The auxiliary conversion of a beat, where the port has one. -/
def Port.takeItem (b : Beat) (odd : Bool) (item : Option (Nat × Nat)) (v : Int) (x : Port) : Port :=
  match item with
  | some (n, _) => x.takeAux b odd n v
  | none => x

theorem Port.takeItem_auxed (b : Beat) (odd : Bool) (item : Option (Nat × Nat)) (v : Int) (x : Port) : x.auxed (x.takeItem b odd item v) := by
  unfold Port.takeItem
  split
  · exact Port.takeAux_auxed ..
  · exact Port.auxed_refl x

/-- The counts of a beat, and the window bases that the next slot 0 takes over (R282). -/
def Port.countBeat (b : Beat) (seen : Option Int) (x : Port) : Port :=
  let y := x.countRuns b seen
  { y with guard := { y.guard with vLoNext := (y.windowBasis b).1, vHiNext := (y.windowBasis b).2, dropNext := y.dropMax } }

theorem Port.countBeat_auxed (b : Beat) (seen : Option Int) (x : Port) : x.auxed (x.countBeat b seen) := ⟨rfl, rfl, rfl, rfl, fun _ => rfl⟩

theorem State.snapPort_port (s : State) (p q : PortId) : (s.snapPort p).port q = s.port q := rfl

theorem State.snapPort_faults (h : s.faults.snap = []) : (s.snapPort p).faults = s.faults := by
  show ({ s.faults with snap := s.faults.snap.map _ } : Faults) = s.faults
  generalize s.faults = g at h ⊢
  cases g
  cases h
  rfl

/-- Two changes of a port with its discharge between them, the first and the second each with an auxiliary conversion at its end or none. -/
theorem State.updates_port {u : State} {f g loop : Port → Port} {x y : Port} (hu : u.port p = x) (hy : y.bench = x.bench) (hf : y.auxed (f x))
    (hloop : ∀ z : Port, z.looped (loop z)) (hg : ∀ z : Port, (loop z).auxed (g z)) :
    ∃ x1 x2 : Port, y.auxed x1 ∧ x1.discharged x2 ∧ (loop x2).auxed ((((u.updPort p f).dischargeStep p).updPort p g).port p) := by
  have h1 : (u.updPort p f).port p = f x := by
    rw [State.updPort_of_bench (by rw [hu]; exact hf.bench.trans hy), hu]
  refine ⟨_, _, hf, h1 ▸ State.dischargeStep_discharged _ p, ?_⟩
  rw [State.updPort_of_bench ((hg _).bench.trans (hloop _).bench)]
  exact hg _

/-- The steps of an update: the pair and an auxiliary conversion made before it, the discharge, the loop, the counts and a conversion made
after it (R32, R266–R274). -/
theorem loopUpdate_steps (vbs ibus aux : Int) (hrun : s.hubRuns = true) (hpow : s.board.mainOn = true ∨ isService p = true)
    (hready : s.clusterReady (clusterOf p).val = true) :
    ∃ t, exec (.loopUpdate p vbs ibus aux) s = .next t ∧ (s.faults.snap = [] → t.faults = s.faults)
      ∧ ∃ x1 x2 : Port, ((s.port p).takePair s.now vbs ibus).auxed x1 ∧ x1.discharged x2
        ∧ (if s.board.mainOn then x2.loopStep s.now s.feedOn (decide (4 ≤ s.feed.trunkAge)) s.feed.vTrunk else x2).auxed (t.port p) := by
  have hcond : (s.hubRuns && (s.board.mainOn || isService p) && s.clusterReady (clusterOf p).val) = true := by
    rw [hrun, hready]
    obtain h | h := hpow <;> rw [h] <;> simp
  show ∃ t, execLoopUpdate p vbs ibus aux s = .next t ∧ _
  unfold execLoopUpdate
  rw [if_pos hcond]
  refine ⟨_, rfl, fun hsnap => ?_, ?_⟩
  · have hfaults (c : Bool) (f g : Port → Port) :
        ((((if c then s.idleAdc p aux else s).updPort p f).dischargeStep p).updPort p g).faults = s.faults := by
      rw [State.updPort_faults, State.dischargeStep_faults, State.updPort_faults]
      cases c <;> rfl
    dsimp only
    refine (State.snapPort_faults ?_).trans ?_
    · rw [hfaults]; exact hsnap
    · rw [hfaults]
  · have hport (c : Bool) : (if c then s.idleAdc p aux else s).port p = s.port p := by cases c <;> rfl
    dsimp only
    rw [State.snapPort_port]
    refine State.updates_port (loop := fun x => if s.board.mainOn then x.loopStep s.now s.feedOn (decide (4 ≤ s.feed.trunkAge)) s.feed.vTrunk else x)
      (hport _) (Port.takePair_bench (s.port p) s.now vbs ibus) ?_ ?_ ?_
    · exact iteInduction (motive := Port.auxed _)
        (fun _ => Port.takeItem_auxed s.now s.board.oddPass (auxItem (localIdx p % 6) s.board.passIdx) aux _) fun _ => Port.auxed_refl _
    · intro x
      split
      · exact Port.loopStep_looped ..
      · exact Port.looped_refl x
    · intro x
      have hcount := Port.countBeat_auxed s.now (if s.board.mainOn && s.feed.trunkSeen then some (s.feed.vTrunk : Int) else none)
        (if s.board.mainOn then x.loopStep s.now s.feedOn (decide (4 ≤ s.feed.trunkAge)) s.feed.vTrunk else x)
      exact iteInduction (motive := Port.auxed _) (fun _ => hcount) fun _ =>
        hcount.trans (Port.takeItem_auxed s.now s.board.oddPass (auxItem (localIdx p % 6) s.board.passIdx) aux _)

end Sys2Proof.Machine
end


section
/-! The clauses of O37 (R257–R275). -/

namespace Sys2Proof.Machine

variable {s : State} {p : PortId} {vbs ibus aux : Int}

/-! ### What every update keeps -/

/-- An update keeps the bench and, with no check of Rd under way, the connection; its conversions are those taken. -/
theorem loopUpdate_keeps {t : State} {x1 x2 : Port} (h1 : ((s.port p).takePair s.now vbs ibus).auxed x1) (h2 : x1.discharged x2)
    (h3 : (if s.board.mainOn then x2.loopStep s.now s.feedOn (decide (4 ≤ s.feed.trunkAge)) s.feed.vTrunk else x2).auxed (t.port p)) :
    (t.port p).bench = (s.port p).bench ∧ (t.port p).pair = ((s.port p).takePair s.now vbs ibus).pair
      ∧ ((s.port p).tc.rdCheck = none → (t.port p).tc = (s.port p).tc) := by
  have hloop : x2.looped (if s.board.mainOn then x2.loopStep s.now s.feedOn (decide (4 ≤ s.feed.trunkAge)) s.feed.vTrunk else x2) := by
    split
    · exact Port.loopStep_looped ..
    · exact Port.looped_refl x2
  refine ⟨?_, h3.pair.trans (hloop.pair.trans (h2.pair.trans h1.pair)), fun hcheck => ?_⟩
  · exact h3.bench.trans (hloop.bench.trans (h2.bench.trans (h1.bench.trans (Port.takePair_bench ..))))
  · have htc0 := Port.takePair_tc (s.port p) s.now vbs ibus
    have htc1 := (h1.tc (by rw [htc0]; exact hcheck)).trans htc0
    have htc2 := hloop.tc.trans (h2.tc.trans htc1)
    exact (h3.tc (by rw [htc2]; exact hcheck)).trans htc2

theorem loopUpdate_converts (hrun : s.hubRuns = true) (hpow : s.board.mainOn = true ∨ isService p = true)
    (hready : s.clusterReady (clusterOf p).val = true) (hstep : (s.port p).harn.step ≠ some .s1 ∧ (s.port p).harn.step ≠ some .s3) :
    gives (.loopUpdate p vbs ibus aux) s fun t => (t.port p).stage.conv.vbs = (s.port p).corrected vbs
      ∧ (t.port p).stage.conv.ibus = (s.port p).shuntMa ibus
      ∧ (t.port p).stage.conv.beat = s.now
      ∧ (t.port p).tc.st = (s.port p).tc.st
      ∧ ((s.port p).tc.rdCheck = none → (t.port p).tc = (s.port p).tc)
      ∧ (t.port p).harn = (s.port p).harn
      ∧ (t.port p).timers = (s.port p).timers
      ∧ (t.port p).ctx = (s.port p).ctx
      ∧ (t.port p).phy = (s.port p).phy
      ∧ (s.faults.snap = [] → t.faults = s.faults) := by
  obtain ⟨t, he, hf, x1, x2, h1, h2, h3⟩ := loopUpdate_steps vbs ibus aux hrun hpow hready
  obtain ⟨hbench, hpair, htc⟩ := loopUpdate_keeps h1 h2 h3
  rw [Port.takePair_pair _ _ hstep.1 hstep.2] at hpair
  simp only [Port.pair, Prod.mk.injEq] at hpair
  simp only [Port.bench, Prod.mk.injEq] at hbench
  obtain ⟨hvbs, hibus, hbeat⟩ := hpair
  obtain ⟨-, hst, hharn, htim, hctx, hphy, -⟩ := hbench
  exact gives_of_exec he ⟨hvbs, hibus, hbeat, hst, htc, hharn, htim, hctx, hphy, hf⟩

theorem loopUpdate_calibrating (hrun : s.hubRuns = true) (hpow : s.board.mainOn = true ∨ isService p = true)
    (hready : s.clusterReady (clusterOf p).val = true) (hstep : (s.port p).harn.step = some .s1 ∨ (s.port p).harn.step = some .s3) :
    gives (.loopUpdate p vbs ibus aux) s fun t => (t.port p).stage.conv.vbs = (s.port p).stage.conv.vbs
      ∧ (t.port p).stage.conv.ibus = (s.port p).stage.conv.ibus
      ∧ (t.port p).harn = (s.port p).harn
      ∧ (t.port p).tc.st = (s.port p).tc.st
      ∧ ((s.port p).tc.rdCheck = none → (t.port p).tc = (s.port p).tc) := by
  obtain ⟨t, he, -, x1, x2, h1, h2, h3⟩ := loopUpdate_steps vbs ibus aux hrun hpow hready
  obtain ⟨hbench, hpair, htc⟩ := loopUpdate_keeps h1 h2 h3
  rw [Port.takePair_cal _ _ hstep] at hpair
  simp only [Port.pair, Prod.mk.injEq] at hpair
  simp only [Port.bench, Prod.mk.injEq] at hbench
  obtain ⟨hvbs, hibus, -⟩ := hpair
  obtain ⟨-, hst, hharn, -⟩ := hbench
  exact gives_of_exec he ⟨hvbs, hibus, hharn, hst, htc⟩

/-! ### Forward operation -/

theorem clampInt_le {lo hi v m : Int} (hlo : lo ≤ m) (hhi : hi ≤ m) : clampInt lo hi v ≤ m := by
  unfold clampInt
  split
  · exact hlo
  · split <;> omega

/-- The command of a forward update, limited by the current loop or not, keeps a bound that both clamps keep. -/
theorem command_le {lo hi m : Int} (hlo : lo ≤ m) (hhi : hi ≤ m) (limited exit : Bool) (u v w z : Int) :
    (if limited && !exit then (if limited then clampInt lo hi u else z) else clampInt lo (if limited then min hi w else hi) v) ≤ m := by
  cases limited with
  | false => exact clampInt_le hlo hhi
  | true =>
    cases exit with
    | false => exact clampInt_le hlo hhi
    | true => exact clampInt_le hlo ((min_le_left ..).trans hhi)

/-- With a valid trunk value the forward command stays within IL_MAX (R266–R269). -/
theorem Port.forwardLoop_dacNext_le (x : Port) : (x.forwardLoop false).stage.dacNext ≤ x.ilMax := by
  have hlo : -x.ilNeg ≤ x.ilMax := by
    unfold Port.ilNeg Port.ilMax
    omega
  have hhi (above : Bool) : (if above then min x.ilMax x.stage.y[0] else x.ilMax) ≤ x.ilMax := by
    cases above
    · exact le_refl _
    · exact min_le_left ..
  exact command_le hlo (hhi _) _ _ _ _ _ _

theorem clampInt_toNat_le (v : Int) : (clampInt 0 4095 v).toNat ≤ 4096 := by
  have := clampInt_le (lo := 0) (hi := 4095) (v := v) (m := 4095) (by decide) (by decide)
  omega

/-- Forward operation that goes on: the reference slews, the command keeps IL_MAX, the slope its bounds. -/
theorem Port.loopStep_forward {x : Port} {b : Beat} {feed : Bool} {vt : Int} (hmode : x.stage.mode = .forward) (hwant : x.stage.want = .forward)
    (hstart : x.stage.startAt.later (b + 1) = false) :
    (x.loopStep b feed false vt).stage.vRef = slewRef x.slewRate (x.stage.vTgt * 200) x.stage.vRef
      ∧ (x.loopStep b feed false vt).stage.dacNext ≤ x.ilMax
      ∧ (x.loopStep b feed false vt).stage.mode = .forward
      ∧ (x.loopStep b feed false vt).stage.slope ≤ 4096 := by
  have he : x.loopStep b feed false vt = (((x.slew b).forwardLoop false).regionStep b false vt).slopeStep vt := by
    unfold Port.loopStep
    rw [hmode]
    dsimp only
    rw [if_neg (by simp [hwant]), if_neg (by rw [hstart]; exact Bool.false_ne_true)]
  obtain ⟨g, hg⟩ := Port.slew_eq x b
  have hdac := Port.forwardLoop_dacNext_le (x.slew b)
  obtain ⟨r, n, hr⟩ := Port.regionStep_only ((x.slew b).forwardLoop false) b false vt
  rw [he, hr]
  refine ⟨?_, ?_, ?_, clampInt_toNat_le _⟩
  · show (x.slew b).stage.vRef = _
    rw [hg]
  · refine le_of_le_of_eq hdac ?_
    rw [hg]
    rfl
  · show (x.slew b).stage.mode = _
    rw [hg]
    exact hmode

theorem Port.loopStep_halts {x : Port} {b : Beat} {feed stale : Bool} {vt : Int} (hmode : x.stage.mode = .forward) (hwant : x.stage.want ≠ .forward) :
    x.loopStep b feed stale vt = x.stageHalt := by
  unfold Port.loopStep
  rw [hmode]
  exact if_pos (bne_iff_ne.mpr hwant)

/-- What the stage runs at and is told stays through the conversions and the discharge of a forward update. -/
theorem loopUpdate_drive {x1 x2 : Port} (hmode : (s.port p).stage.mode = .forward) (h1 : ((s.port p).takePair s.now vbs ibus).auxed x1)
    (h2 : x1.discharged x2) : x2.drive = (s.port p).drive := by
  have hd1 := h1.drive.trans (Port.takePair_drive ..)
  have hm1 : x1.stage.mode = .forward := (congrArg (fun r => r.1) hd1).trans hmode
  exact (h2.drive hm1).trans hd1

theorem loopUpdate_forward (hrun : s.hubRuns = true) (hmain : s.board.mainOn = true) (hready : s.clusterReady (clusterOf p).val = true)
    (hage : s.feed.trunkAge < 4) (hmode : (s.port p).stage.mode = .forward) (hwant : (s.port p).stage.want = .forward)
    (hstart : (s.port p).stage.startAt.later (s.now + 1) = false) :
    gives (.loopUpdate p vbs ibus aux) s fun t =>
      (t.port p).stage.vRef = slewRef (s.port p).slewRate ((s.port p).stage.vTgt * 200) (s.port p).stage.vRef
      ∧ (t.port p).stage.dacNext ≤ (s.port p).ilMax
      ∧ (t.port p).stage.mode = .forward
      ∧ (t.port p).stage.slope ≤ 4096 := by
  obtain ⟨t, he, -, x1, x2, h1, h2, h3⟩ := loopUpdate_steps vbs ibus aux hrun (.inl hmain) hready
  rw [if_pos hmain, decide_eq_false (Nat.not_le.mpr hage)] at h3
  have hd := loopUpdate_drive hmode h1 h2
  have hcfg : x2.cfg = (s.port p).cfg :=
    congrArg (fun r => r.1) (h2.bench.trans (h1.bench.trans (Port.takePair_bench (s.port p) s.now vbs ibus)))
  simp only [Port.drive, Prod.mk.injEq] at hd
  obtain ⟨hm2, hw2, hr2, ht2, hs2, -⟩ := hd
  obtain ⟨hvref, hdac, hfwd, hslope⟩ := Port.loopStep_forward (b := s.now) (feed := s.feedOn) (vt := s.feed.vTrunk) (hm2.trans hmode)
    (hw2.trans hwant) (by rw [hs2]; exact hstart)
  have hrate : x2.slewRate = (s.port p).slewRate := by unfold Port.slewRate; rw [hcfg]
  have hmax : x2.ilMax = (s.port p).ilMax := by unfold Port.ilMax; rw [hcfg]
  rw [hrate, hr2, ht2] at hvref
  rw [hmax] at hdac
  have h3d := h3.drive
  have h3o := h3.output
  simp only [Port.drive, Prod.mk.injEq] at h3d
  simp only [Port.output, Prod.mk.injEq] at h3o
  obtain ⟨hmt, -, hrt, -⟩ := h3d
  obtain ⟨hdt, hst, -⟩ := h3o
  exact gives_of_exec he ⟨hrt.trans hvref, hdt ▸ hdac, hmt.trans hfwd, hst ▸ hslope⟩

theorem loopUpdate_stops (hrun : s.hubRuns = true) (hmain : s.board.mainOn = true) (hready : s.clusterReady (clusterOf p).val = true)
    (hmode : (s.port p).stage.mode = .forward) (hwant : (s.port p).stage.want ≠ .forward) :
    gives (.loopUpdate p vbs ibus aux) s fun t => (t.port p).stage.mode = .idle
      ∧ (t.port p).stage.dacNext = 0
      ∧ (t.port p).stage.e = Vector.replicate 3 0
      ∧ (t.port p).stage.slope = 0
      ∧ (t.port p).stage.cmd = (s.port p).stage.cmd := by
  obtain ⟨t, he, -, x1, x2, h1, h2, h3⟩ := loopUpdate_steps vbs ibus aux hrun (.inl hmain) hready
  have hd := loopUpdate_drive hmode h1 h2
  simp only [Port.drive, Prod.mk.injEq] at hd
  obtain ⟨hm2, hw2, -, -, -, hc2⟩ := hd
  rw [if_pos hmain, Port.loopStep_halts (hm2.trans hmode) (by rw [hw2]; exact hwant)] at h3
  have h3d := h3.drive
  have h3o := h3.output
  simp only [Port.drive, Prod.mk.injEq] at h3d
  simp only [Port.output, Prod.mk.injEq] at h3o
  obtain ⟨hmt, -, -, -, -, hct⟩ := h3d
  obtain ⟨hdt, hst, het⟩ := h3o
  exact gives_of_exec he ⟨hmt, hdt, het, hst, hct.trans hc2⟩

/-! ### An update without a ready cluster -/

theorem loopUpdate_off
    (h : s.hubRuns = false ∨ (s.board.mainOn = false ∧ isService p = false)
      ∨ (s.clusterReady (clusterOf p).val = false ∧ (s.cluster (clusterOf p)).trimming = true)) :
    exec (.loopUpdate p vbs ibus aux) s = .next s := by
  show execLoopUpdate p vbs ibus aux s = _
  unfold execLoopUpdate
  obtain h | ⟨hm, hp⟩ | ⟨hr, ht⟩ := h
  · rw [if_neg (by simp [h]), if_neg (by simp [h])]
  · rw [if_neg (by simp [hm, hp]), if_neg (by simp [hm, hp])]
  · rw [if_neg (by simp [hr]), if_neg (by simp [ht])]

theorem loopUpdate_untrimmed (hrun : s.hubRuns = true) (hpow : s.board.mainOn = true ∨ isService p = true)
    (hready : s.clusterReady (clusterOf p).val = false) (htrim : (s.cluster (clusterOf p)).trimming = false) (hstep : (s.port p).harn.step = none) :
    gives (.loopUpdate p vbs ibus aux) s fun t => (t.port p).stage.conv.vbs = (s.port p).corrected vbs
      ∧ (t.port p).stage.conv.ibus = (s.port p).shuntMa ibus
      ∧ (t.port p).stage.mode = (s.port p).stage.mode
      ∧ (t.port p).tc = (s.port p).tc
      ∧ t.faults = s.faults := by
  have he : exec (.loopUpdate p vbs ibus aux) s = .next (s.modPort p (Port.takePair s.now vbs ibus)) := by
    show execLoopUpdate p vbs ibus aux s = _
    unfold execLoopUpdate
    rw [if_neg (by simp [hready]), if_pos]
    rw [hrun, htrim]
    obtain h | h := hpow <;> rw [h] <;> simp
  refine gives_of_exec he ?_
  have hpair := Port.takePair_pair (s.port p) s.now (vbs := vbs) (uv := ibus) (by simp [hstep]) (by simp [hstep])
  have hdrive := Port.takePair_drive (s.port p) s.now vbs ibus
  simp only [Port.pair, Prod.mk.injEq] at hpair
  simp only [Port.drive, Prod.mk.injEq] at hdrive
  rw [State.port_modPort]
  exact ⟨hpair.1, hpair.2.1, hdrive.1, Port.takePair_tc .., rfl⟩

end Sys2Proof.Machine
end


section
/-! The comparator's trips, the start of a stage, the ends of a discharge, and the trunk value (R257–R275). -/

namespace Sys2Proof.Machine

variable {s : State} {p : PortId}

/-! ### The switching period -/

theorem sampleFirst_cons {f : Period → Period} {q : Period} (h : f q ≠ q) (qs : List Period) : sampleFirst f (q :: qs) = f q :: qs := if_neg h

theorem sampleFirst_still {f : Period → Period} (h : ∀ q, f q = q) : ∀ qs, sampleFirst f qs = qs
  | [] => rfl
  | q :: qs => by
    show (if f q = q then q :: sampleFirst f qs else f q :: qs) = _
    rw [if_pos (h q), sampleFirst_still h qs]

/-- A sample that falls in the beat's own periods changes the first of them that it can. -/
theorem exec_peakCurrentTrip {mv : Int} {ns : Nat} {q : Period} {qs : List Period} (hnow : (s.port p).stage.nowP = q :: qs)
    (hbeat : beforeBeat (s.port p).stage.fsw p s.now ns = false)
    (hne : (s.port p).sample (periodNs (s.port p).stage.fsw) (s.port p).stage.cur mv ns q ≠ q) :
    exec (.peakCurrentTrip p mv ns) s = .next (s.modPort p fun x => { x with stage := { x.stage with
      nowP := (s.port p).sample (periodNs (s.port p).stage.fsw) (s.port p).stage.cur mv ns q :: qs } }) := by
  show execPeakCurrentTrip p mv ns s = _
  unfold execPeakCurrentTrip
  dsimp only
  rw [if_neg (by simp [hbeat]), hnow, sampleFirst_cons hne]

theorem Port.dacCode_le (x : Port) (y : Int) : x.dacCode y ≤ 1023 := by
  have := clampInt_le (lo := 0) (hi := 1023) (v := (20 * (1000 * x.vIls0 + x.gIls * y) + 24414) / 48828) (m := 1023) (by decide) (by decide)
  unfold Port.dacCode
  omega

/-- 2,500 mV is past every code of the DAC: the comparator trips (R264). -/
theorem Port.comparator_high (x : Port) {c : StageCmd} {mv : Int} (ns : Nat) (hmode : c.mode = .forward) (hmv : 2500 ≤ mv) :
    x.comparator c mv ns = true := by
  have hcode := Port.dacCode_le x c.y
  unfold Port.comparator
  rw [hmode]
  refine decide_eq_true ?_
  show 24414 * (x.dacCode c.y : Int) - 10 * ((c.slope * ns : Nat) : Int) ≤ mv * 10000
  omega

theorem Port.sample_trips {x : Port} {t : Nat} {c : StageCmd} {mv : Int} {ns : Nat} {q : Period} (hmode : c.mode = .forward) (hregion : c.region = .buck)
    (htrip : q.trip = none) (hlow : q.low = none) (hleb : x.leb ≤ ns) (hbound : ns ≤ t * 90 / 100) (hmv : 2500 ≤ mv) :
    x.sample t c mv ns q = { q with trip := some ns } := by
  unfold Port.sample
  rw [if_neg (by simp [hmode, hlow]), if_pos (by rw [hregion, htrip, decide_eq_true (show ns ≤ boundNs t .buck from hbound)]; rfl), if_pos]
  rw [hregion, Port.comparator_high x ns hmode hmv, decide_eq_true (show blankNs t x.leb .buck ≤ ns from hleb)]
  rfl

theorem peakCurrent_trips {mv : Int} {ns : Nat} {q : Period} {qs : List Period} (hmode : (s.port p).stage.cur.mode = .forward)
    (hregion : (s.port p).stage.cur.region = .buck) (hnow : (s.port p).stage.nowP = q :: qs) (htrip : q.trip = none) (hlow : q.low = none)
    (hbeat : beforeBeat (s.port p).stage.fsw p s.now ns = false) (hleb : (s.port p).leb ≤ ns)
    (hbound : ns ≤ periodNs (s.port p).stage.fsw * 90 / 100) (hmv : 2500 ≤ mv) :
    exec (.peakCurrentTrip p mv ns) s
      = .next (s.modPort p fun x => { x with stage := { x.stage with nowP := { q with trip := some ns } :: qs } }) := by
  have hsample := Port.sample_trips hmode hregion htrip hlow hleb hbound hmv
  have hne : ({ q with trip := some ns } : Period) ≠ q := fun h => nomatch (congrArg Period.trip h).trans htrip
  rw [exec_peakCurrentTrip hnow hbeat (by rw [hsample]; exact hne), hsample]

theorem Port.sample_ends {x : Port} {t : Nat} {c : StageCmd} {mv : Int} {ns : Nat} {q : Period} (hmode : c.mode ≠ .idle) (htrip : q.trip ≠ none)
    (hlow : q.low = none) (hneg : x.tooNegative c mv = true) : x.sample t c mv ns q = { q with low := some ns } := by
  unfold Port.sample
  rw [if_neg (by simp [hmode, hlow]), if_neg (by simp [htrip]), if_pos hneg]

theorem peakCurrent_ends {mv : Int} {ns : Nat} {q : Period} {qs : List Period} (hmode : (s.port p).stage.cur.mode ≠ .idle)
    (hnow : (s.port p).stage.nowP = q :: qs) (htrip : q.trip ≠ none) (hlow : q.low = none)
    (hbeat : beforeBeat (s.port p).stage.fsw p s.now ns = false) (hneg : (s.port p).tooNegative (s.port p).stage.cur mv = true) :
    exec (.peakCurrentTrip p mv ns) s
      = .next (s.modPort p fun x => { x with stage := { x.stage with nowP := { q with low := some ns } :: qs } }) := by
  have hsample := Port.sample_ends (x := s.port p) (t := periodNs (s.port p).stage.fsw) (ns := ns) hmode htrip hlow hneg
  have hne : ({ q with low := some ns } : Period) ≠ q := fun h => nomatch (congrArg Period.low h).trans hlow
  rw [exec_peakCurrentTrip hnow hbeat (by rw [hsample]; exact hne), hsample]

theorem peakCurrent_idle {mv : Int} {ns : Nat} (hcur : (s.port p).stage.cur.mode = .idle) (hlast : (s.port p).stage.last.mode = .idle) :
    gives (.peakCurrentTrip p mv ns) s fun t => (t.port p).stage = (s.port p).stage ∧ (t.port p).guard = (s.port p).guard := by
  have hstill {c : StageCmd} (hc : c.mode = .idle) (t : Nat) (q : Period) : (s.port p).sample t c mv ns q = q := if_pos (by rw [hc]; rfl)
  have he : exec (.peakCurrentTrip p mv ns) s
      = .next (s.modPort p fun y => { y with stage := { y.stage with nowP := (s.port p).stage.nowP } }) := by
    show execPeakCurrentTrip p mv ns s = _
    unfold execPeakCurrentTrip
    dsimp only
    rw [sampleFirst_still (hstill hlast _), sampleFirst_still (hstill hcur _), if_neg (by simp)]
  refine gives_of_exec he ?_
  rw [State.port_modPort]
  exact ⟨rfl, rfl⟩

/-! ### A start -/

/-- What a forward start makes of its port (R260, R271, R272). -/
theorem Port.start_forward (x : Port) (fsw : Nat) (b first : Beat) (vt : Int) :
    ∃ g, (x.start fsw b first vt .forward).stage.mode = .forward
      ∧ (x.start fsw b first vt .forward).stage.region = startRegion x.vMeas vt
      ∧ (x.start fsw b first vt .forward).stage.vRef = min (10 * x.vMeas.toNat) (200 * x.stage.vTgt)
      ∧ (x.start fsw b first vt .forward).stage.disH = false
      ∧ (x.start fsw b first vt .forward).stage.disS = false
      ∧ (x.start fsw b first vt .forward).stage.yI = 0
      ∧ (x.start fsw b first vt .forward) = { x with stage := (x.start fsw b first vt .forward).stage, guard := g } := by
  unfold Port.start
  dsimp only
  split
  · obtain ⟨g, hg⟩ := Port.gateOnCmd_eq _ b
    rw [hg]
    exact ⟨g, rfl, rfl, rfl, rfl, rfl, rfl, rfl⟩
  · exact ⟨_, rfl, rfl, rfl, rfl, rfl, rfl, rfl⟩

theorem State.releaseSen_senLow (s : State) (c : ClusterId) : ((s.releaseSen c).cluster c).senLow = false := by
  unfold State.releaseSen
  by_cases h : (s.cluster c).senLow = true
  · rw [if_pos h, State.cluster_modCluster]
  · rw [if_neg h]
    exact eq_false_of_ne_true h

theorem State.releaseSen_faults (s : State) (c : ClusterId) : (s.releaseSen c).faults = s.faults := by
  unfold State.releaseSen
  split <;> rfl

theorem stageStart_forward (hready : s.startReady p = true) (hwants : (s.port p).wants s.feedOn = .forward) :
    gives (.stageStart p) s fun t => (t.port p).stage.mode = .forward
      ∧ (t.port p).stage.region = startRegion (s.port p).vMeas s.feed.vTrunk
      ∧ (t.port p).stage.vRef = min (10 * (s.port p).vMeas.toNat) (200 * (s.port p).stage.vTgt)
      ∧ (t.port p).stage.disH = false
      ∧ (t.port p).stage.disS = false
      ∧ (t.port p).stage.yI = 0
      ∧ (t.cluster (clusterOf p)).senLow = false
      ∧ (t.port p).tc = (s.port p).tc
      ∧ (t.port p).pd = (s.port p).pd
      ∧ t.faults = s.faults := by
  refine gives_of_exec (congrArg Host.Outcome.next (if_pos hready)) ?_
  dsimp only
  generalize hfirst : firstPeriod _ _ _ _ = first
  generalize hfsw : (s.cluster (clusterOf p)).fsw = fsw
  obtain ⟨g, hm, hr, hv, hdh, hds, hy, he⟩ := Port.start_forward (s.port p) fsw s.now first s.feed.vTrunk
  have hport : (((s.releaseSen (clusterOf p)).updPort p fun x => x.start fsw s.now first s.feed.vTrunk (x.wants s.feedOn)).port p)
      = (s.port p).start fsw s.now first s.feed.vTrunk .forward := by
    have hbench : ((s.port p).start fsw s.now first s.feed.vTrunk .forward).bench = (s.port p).bench := by rw [he]; rfl
    rw [State.updPort_of_bench (by rw [State.releaseSen_port, hwants]; exact hbench), State.releaseSen_port, hwants]
  rw [hport]
  refine ⟨hm, hr, hv, hdh, hds, hy, ?_, ?_, ?_, ?_⟩
  · exact State.releaseSen_senLow s (clusterOf p)
  · rw [he]
  · rw [he]
  · rw [State.updPort_faults, State.releaseSen_faults]

theorem stageStart_waits (h : s.startReady p = false) : exec (.stageStart p) s = .next s :=
  congrArg Host.Outcome.next (if_neg (by rw [h]; exact Bool.false_ne_true))

/-! ### The ends of a discharge -/

theorem harnessDischarge_ends (hdis : (s.port p).stage.disH = true) (hlow : 16 ≤ (s.port p).stage.runs.disLow) :
    gives (.harnessDischargeEnd p) s fun t => (t.port p).stage = { (s.port p).stage with disH := false }
      ∧ (t.port p).tc = (s.port p).tc
      ∧ (t.port p).guard = (s.port p).guard
      ∧ (t.port p).pd = (s.port p).pd := by
  refine gives_of_exec (congrArg Host.Outcome.next (if_pos (by rw [hdis, decide_eq_true hlow]; rfl))) ?_
  rw [State.updPort_of_bench rfl]
  exact ⟨rfl, rfl, rfl, rfl⟩

theorem dischargeRun_ends (hrun : (s.port p).stage.disRun = true) (hlow : (s.port p).stage.conv.vbl < 600) :
    gives (.dischargeRunEnd p) s fun t =>
      (t.port p).stage = { (s.port p).stage with disS := false, disRun := false, dacNext := 0, slope := 0, slopeSat := false }
      ∧ (t.port p).tc = (s.port p).tc
      ∧ (t.port p).guard = (s.port p).guard
      ∧ (t.port p).pd = (s.port p).pd := by
  refine gives_of_exec (congrArg Host.Outcome.next (if_pos (by rw [hrun, decide_eq_true hlow]; rfl))) ?_
  rw [State.updPort_of_bench rfl]
  exact ⟨rfl, rfl, rfl, rfl⟩

/-! ### Cn_SEN_N and the trunk value -/

theorem senIdle_times {c : ClusterId} (hdriven : s.senDriven c = true)
    (hidle : ∀ i : Fin 12, (s.port (portOf c i)).definedIdle = true ∧ 250 ≤ (s.port (portOf c i)).stage.runs.idle) :
    exec (.senIdleTimeout c) s = .next (s.modCluster c fun k => { k with senLow := true }) := by
  refine congrArg Host.Outcome.next (if_pos ?_)
  rw [hdriven, Bool.true_and, List.all_eq_true]
  intro i _
  rw [(hidle i).1, decide_eq_true (hidle i).2]
  rfl

theorem trunkValue_taken {mv : Nat} (hrun : s.hubRuns = true) (hon : s.feed.on = true) (hup : s.feed.linkUp = true) :
    exec (.trunkValueDelivery mv) s = .next (s.modFeed fun f => { f with vTrunk := mv, trunkAge := 0, trunkSeen := true }) :=
  congrArg Host.Outcome.next (if_pos (by rw [hrun, hon, hup]; rfl))

end Sys2Proof.Machine
end

section
/-! O37, settled. -/

namespace Sys2Proof
open Machine

/-- Settles O37: an update changes stage, guard and contract limits alone, so the grant and the connection stay as they are. -/
theorem stage : Obligations.Stage := by
  unfold Obligations.Stage
  exact ⟨fun p vbs ibus aux s => loopUpdate_converts, fun p vbs ibus aux s => loopUpdate_calibrating, fun p vbs ibus aux s => loopUpdate_forward,
    fun p vbs ibus aux s => loopUpdate_stops, fun p vbs ibus aux s => loopUpdate_off, fun p vbs ibus aux s => loopUpdate_untrimmed,
    fun p mv ns q qs s => peakCurrent_trips, fun p mv ns q qs s => peakCurrent_ends, fun p mv ns s => peakCurrent_idle,
    fun p s => stageStart_forward, fun p s => stageStart_waits, fun p s => harnessDischarge_ends, fun p s => dischargeRun_ends,
    fun c s => senIdle_times, fun mv s => trunkValue_taken⟩

end Sys2Proof
end


section
/-! Grants, the division and the snapshots through raises; the brownout and the ready bits of the feeds (R303, R312–R321). -/

namespace Sys2Proof.Machine

variable {s : State}

/-- What no raise touches of the budget and of the snapshots: every grant, the division, the number of the newest snapshot. -/
def State.allot (s : State) := (fun p : PortId => (s.port p).grant, s.budget, s.faults.snapSeq)

theorem State.allot_of {t : State} (hg : ∀ p, (t.port p).grant = (s.port p).grant) (hb : t.budget = s.budget)
    (hf : t.faults.snapSeq = s.faults.snapSeq) : t.allot = s.allot := by
  unfold State.allot
  rw [hb, hf, funext hg]

/-- The same ports, budget and snapshot number, whatever else changed. -/
theorem State.allot_of_ports {t : State} (hp : t.ports = s.ports) (hb : t.budget = s.budget)
    (hf : t.faults.snapSeq = s.faults.snapSeq) : t.allot = s.allot :=
  State.allot_of (fun p => congrArg (fun v : Vector Port 96 => v[p].grant) hp) hb hf

theorem State.updPort_allot {p : PortId} {f : Port → Port} (hc : ∀ x, (f x).claim = x.claim) (hg : ∀ x, (f x).grant = x.grant) :
    (s.updPort p f).allot = s.allot := by
  refine State.allot_of (fun q => ?_) ?_ rfl
  · by_cases e : q = p
    · subst e
      rw [State.updPort_of_claim (hc _), hg]
    · rw [State.port_updPort_ne s e]
  · unfold State.updPort
    dsimp only
    rw [budgetTrigger_of_claim (hc _)]
    rfl

theorem Port.quiesce_claim (b : Beat) (x : Port) : (x.quiesce b).claim = x.claim := by
  unfold Port.claim
  rw [Port.quiesce_cfg, Port.quiesce_st, Port.quiesce_pd]

theorem Port.quiesce_grant (b : Beat) (x : Port) : (x.quiesce b).grant = x.grant := by
  unfold Port.quiesce
  rw [Port.abandonRun_eq]
  rfl

theorem State.svcLeave_allot (s : State) (p : PortId) : (s.svcLeave p).allot = s.allot := by
  unfold State.svcLeave
  split
  · split
    · exact State.allot_of_ports rfl rfl rfl
    · rfl
  · rfl

theorem Faults.owe_snapSeq (g : Faults) (k : Safe) (p : PortId) : (g.owe k p).snapSeq = g.snapSeq := by
  unfold Faults.owe
  split <;> rfl

theorem State.modFaults_allot {f : Faults → Faults} (h : (f s.faults).snapSeq = s.faults.snapSeq) : (s.modFaults f).allot = s.allot :=
  State.allot_of_ports rfl rfl h

theorem Port.gateOff_claim (b : Beat) (x : Port) : (x.gateOff b).claim = x.claim := by
  unfold Port.claim Port.gateOff
  rfl

theorem Port.gateOff_grant (b : Beat) (x : Port) : (x.gateOff b).grant = x.grant := by
  unfold Port.gateOff
  rfl

theorem State.quiescePort_allot (s : State) (k : Safe) (p : PortId) : (s.quiescePort k p).allot = s.allot := by
  unfold State.quiescePort
  split
  · rw [State.updPort_allot (Port.gateOff_claim s.now) (Port.gateOff_grant s.now), State.svcLeave_allot]
  · rw [State.modFaults_allot (Faults.owe_snapSeq ..)]
    exact State.updPort_allot (Port.quiesce_claim s.now) (Port.quiesce_grant s.now)

theorem State.holdDevice_allot (s : State) : s.holdDevice.allot = s.allot := State.allot_of_ports rfl rfl rfl

theorem foldl_allot {α} (f : State → α → State) (h : ∀ t a, (f t a).allot = t.allot) (l : List α) (s : State) : (l.foldl f s).allot = s.allot := by
  induction l generalizing s with
  | nil => rfl
  | cons a l ih => exact (ih _).trans (h s a)

theorem State.react_allot (s : State) (sev src : Nat) : (s.react sev src).allot = s.allot := by
  unfold State.react
  split
  · exact foldl_allot _ (fun _ _ => State.quiescePort_allot ..) _ _
  · split
    · rw [State.holdDevice_allot]
      exact foldl_allot _ (fun _ _ => State.quiescePort_allot ..) _ _
    · rfl

theorem State.reactAgain_allot (s : State) (sev : Nat) (o : Option Nat) : (s.reactAgain sev o).allot = s.allot := by
  cases o with
  | none => rfl
  | some n => exact State.react_allot ..

theorem State.noteCause_allot (s : State) (r : Raise) : (s.noteCause r).allot = s.allot := by
  unfold State.noteCause
  split
  · next p _ =>
    refine State.allot_of (fun q => ?_) rfl rfl
    by_cases e : q = p
    · subst e; rw [State.port_modPort]
    · rw [State.port_modPort_ne s e]
  · rfl

theorem State.post_allot (s : State) (code port : Nat) (data : List Byte) : (s.post code port data).allot = s.allot := by
  unfold State.post State.await State.send
  dsimp only
  (repeat' split) <;> exact State.allot_of_ports rfl rfl rfl

theorem State.faultEvent_allot (s : State) (r : Raise) (f : FaultRec) (sev : Nat) : (s.faultEvent r f sev).allot = s.allot := by
  unfold State.faultEvent
  split
  · exact State.post_allot ..
  · rfl

theorem Faults.logRec_snapSeq (g : Faults) (f : FaultRec) : (g.logRec f).snapSeq = g.snapSeq := by
  unfold Faults.logRec
  (repeat' split) <;> rfl

theorem Faults.latchRaise_snapSeq (g : Faults) (r : Raise) (sev : Nat) (b : Beat) : (g.latchRaise r sev b).snapSeq = g.snapSeq := by
  unfold Faults.latchRaise
  split <;> rfl

theorem State.raiseOne_allot (s : State) (named : Bool) (r : Raise) : (s.raiseOne named r).allot = s.allot := by
  unfold State.raiseOne
  dsimp only
  split
  · rfl
  · split
    · exact State.modFaults_allot ((Faults.logRec_snapSeq ..).trans rfl)
    · rw [State.react_allot, State.reactAgain_allot, State.faultEvent_allot, State.modFaults_allot, State.noteCause_allot]
      exact (Faults.logRec_snapSeq ..).trans ((Faults.latchRaise_snapSeq ..).trans rfl)

theorem raiseList_allot : ∀ (rs : List Raise) (s : State) (o : Option Nat), (raiseList s o rs).allot = s.allot
  | [], _, _ => rfl
  | r :: rs, s, o => by rw [raiseList, raiseList_allot rs, State.raiseOne_allot]

theorem State.raiseAll_allot (s : State) (rs : List Raise) : (s.raiseAll rs).allot = s.allot :=
  (State.modFaults_allot rfl).trans (raiseList_allot ..)

theorem State.raise_allot (s : State) (r : Raise) : (s.raise r).allot = s.allot := State.raiseAll_allot ..

theorem State.grant_of_allot {t : State} (h : t.allot = s.allot) (p : PortId) : (t.port p).grant = (s.port p).grant :=
  congrFun (congrArg (fun r => r.1) h) p

theorem State.budget_of_allot {t : State} (h : t.allot = s.allot) : t.budget = s.budget := congrArg (fun r => r.2.1) h

/-! ### What follows from `State.rest` -/

theorem State.feed_of_rest {t : State} (h : t.rest = s.rest) : t.feed = s.feed := congrArg (fun r => r.2.2.1) h

theorem State.board_of_rest {t : State} (h : t.rest = s.rest) : t.board.still = s.board.still := congrArg (fun r => r.2.2.2.2.2.2.1) h

theorem State.hubRuns_of_still {t : State} (h : t.board.still = s.board.still) : t.hubRuns = s.hubRuns := by
  unfold State.hubRuns
  rw [← Board.still_svcOn, ← Board.still_resetLow, h, Board.still_svcOn, Board.still_resetLow]

/-! ### Grants set for every port -/

theorem Port.refreshRp_grant (x : Port) : x.refreshRp.grant = x.grant := rfl

theorem Port.capChange_grant (c : Class) (x : Port) : (x.capChange c).grant = x.grant := by
  have hcable : (x.refreshCable c.header.cableImax).grant = x.grant := by
    unfold Port.refreshCable
    (repeat' split) <;> rfl
  unfold Port.capChange
  dsimp only
  split
  · split
    · exact hcable
    · split <;> exact hcable
  · exact hcable

theorem State.mapPorts_port (s : State) (f : PortId → Port → Port) (p : PortId) : (s.mapPorts f).port p = f p (s.port p) := by
  unfold State.mapPorts State.port
  simp

theorem State.setGrants_grant (s : State) (gs : List Nat) (p : PortId) : ((s.setGrants gs).capsChanged.port p).grant = gs.getD p.val 0 := by
  unfold State.capsChanged
  rw [State.mapPorts_port, Port.refreshRp_grant, Port.capChange_grant]
  unfold State.setGrants State.port
  simp

theorem State.setGrants_rest (s : State) (gs : List Nat) : (s.setGrants gs).rest = s.rest := by
  unfold State.setGrants State.rest
  rfl

/-! ### An allocation -/

/-- The division that an allocation makes (R315, R320). -/
def State.division (s : State) : Division :=
  if s.divides then divide (s.bEff - s.reserve) s.floors s.wants else ⟨s.floors, s.floorTotal, 0, 0, false⟩

/-- The state that an allocation leaves before BUDGET_SHORT. -/
def State.divided (s : State) : State :=
  ((s.setGrants s.division.grants).capsChanged).modBudget fun b => { b with
    prev := ⟨b.short, b.floorSum, b.poolP, b.level, b.beat⟩
    due := false, short := s.division.short, floorSum := s.division.floorSum, poolP := s.division.pool, level := s.division.level, beat := s.now }

theorem State.allocate_eq (s : State) :
    s.allocate = if s.division.short && !s.budget.short then s.divided.raise (devRaise 48 0 0) else s.divided := rfl

theorem State.divided_rest (s : State) : s.divided.rest = s.rest := by
  unfold State.divided
  rw [State.modBudget_rest, State.capsChanged_rest, State.setGrants_rest]

theorem State.divided_faults (s : State) : s.divided.faults = s.faults := by
  unfold State.divided State.modBudget State.capsChanged State.mapPorts State.setGrants
  rfl

theorem State.divided_dev (s : State) : s.divided.dev = s.dev := by
  unfold State.divided State.modBudget State.capsChanged State.mapPorts State.setGrants
  rfl

theorem State.allocate_rest (s : State) : s.allocate.rest = s.rest := by
  rw [State.allocate_eq]
  split
  · rw [State.raise_rest, State.divided_rest]
  · exact State.divided_rest s

theorem State.allocate_allot (s : State) : s.allocate.allot = s.divided.allot := by
  rw [State.allocate_eq]
  split
  · exact State.raise_allot ..
  · rfl

/-- An allocation gives every port what the division says, and records it. -/
theorem State.allocate_spec (s : State) :
    (∀ p : PortId, (s.allocate.port p).grant = s.division.grants.getD p.val 0)
      ∧ s.allocate.budget.due = false ∧ s.allocate.budget.beat = s.now ∧ s.allocate.budget.short = s.division.short
      ∧ s.allocate.budget.floorSum = s.division.floorSum ∧ s.allocate.budget.poolP = s.division.pool
      ∧ s.allocate.budget.level = s.division.level := by
  rw [State.budget_of_allot (State.allocate_allot s)]
  refine ⟨fun p => ?_, rfl, rfl, rfl, rfl, rfl, rfl⟩
  rw [State.grant_of_allot (State.allocate_allot s)]
  unfold State.divided
  rw [State.port_modBudget, State.setGrants_grant]

theorem State.allocate_short (h : s.division.short = true) (hs : s.budget.short = false) : s.allocate.raisedAt 48 = true := by
  rw [State.allocate_eq, if_pos (by rw [h, hs]; rfl)]
  exact State.raise_raised _ (devRaise 48 0 0) rfl

theorem State.allocate_full (h : s.division.short = false) : s.allocate.faults = s.faults := by
  rw [State.allocate_eq, if_neg (by rw [h]; exact Bool.false_ne_true), State.divided_faults]

theorem State.allocate_ready0 (s : State) : s.allocate.dev.ready0 = s.dev.ready0 := by
  rw [State.allocate_eq]
  split
  · rw [State.raise_ready0, State.divided_dev]
  · rw [State.divided_dev]

end Sys2Proof.Machine
end


section
/-! Brownout, and the bits and reports of the feed guard die (R303, R311–R316). -/

namespace Sys2Proof.Machine

variable {s : State}

/-! ### Brownout -/

theorem State.brownoutGrants_rest (s : State) : s.brownoutGrants.rest = s.rest := by
  unfold State.brownoutGrants
  rw [State.capsChanged_rest, State.setGrants_rest, State.modBudget_rest]

theorem State.brownoutGrants_grant (s : State) (p : PortId) : (s.brownoutGrants.port p).grant = s.floors.getD p.val 0 :=
  State.setGrants_grant _ s.floors p

theorem State.brownoutSet_rest (h : s.feed.brownout = false) : s.brownoutSet.rest = (s.modFeed fun d => { d with brownout := true }).rest := by
  unfold State.brownoutSet
  rw [if_neg (by rw [h]; exact Bool.false_ne_true)]
  exact State.brownoutGrants_rest _

theorem State.modFeed_floors (f : FeedDie → FeedDie) : (s.modFeed f).floors = s.floors := by
  unfold State.floors State.modFeed State.classOf
  rfl

/-- Brownout that the hub takes over from the link: every grant is its floor, and F178 is raised. -/
theorem State.brownoutOn_spec (h : s.feed.brownout = false) :
    s.brownoutOn.rest = (s.modFeed fun d => { d with brownout := true }).rest ∧ s.brownoutOn.raisedAt 178 = true
      ∧ ∀ p : PortId, (s.brownoutOn.port p).grant = s.floors.getD p.val 0 := by
  have he : s.brownoutOn = s.brownoutSet.raise (devRaise 178 0 0) := if_neg (by rw [h]; exact Bool.false_ne_true)
  have hs : s.brownoutSet = (s.modFeed fun d => { d with brownout := true }).brownoutGrants := if_neg (by rw [h]; exact Bool.false_ne_true)
  rw [he]
  refine ⟨?_, State.raise_raised _ (devRaise 178 0 0) rfl, fun p => ?_⟩
  · rw [State.raise_rest, State.brownoutSet_rest h]
  · rw [State.grant_of_allot (State.raise_allot ..), hs, State.brownoutGrants_grant, State.modFeed_floors]

/-- The grant that waited for the end of brownout is taken over, and an allocation runs. -/
theorem State.brownoutOff_eq (h : s.feed.brownout = true) :
    ∃ u : State, s.brownoutOff = u.allocate ∧ u.feed = { s.feed with brownout := false } ∧ u.cores = s.cores ∧ u.store = s.store
      ∧ u.yarrow = s.yarrow ∧ u.board = s.board ∧ ∀ i, i < 20 → s.ready i = true → u.ready i = true := by
  unfold State.brownoutOff
  rw [if_neg (by rw [h]; decide)]
  dsimp only
  split
  · next g _ =>
    generalize ht : (s.modFeed fun d => { d with brownout := false }) = t
    have hready : ∀ i, i < 20 → s.ready i = true → (t.takeGrant g).ready i = true := by
      intro i hi hr
      have htr : t.ready i = true := by rw [← ht]; exact hr
      unfold State.takeGrant
      split
      · exact htr
      · exact State.budgetReady_ready hi htr
    refine ⟨t.takeGrant g, rfl, ?_, ?_, ?_, ?_, ?_, hready⟩
    all_goals
      obtain ⟨d, b, hg⟩ := State.takeGrant_eq t g
      rw [hg, ← ht]
      rfl
  · exact ⟨_, rfl, rfl, rfl, rfl, rfl, rfl, fun _ _ hr => hr⟩

/-- What the end of brownout leaves, whether it was signalled or not. -/
theorem State.brownoutOff_spec (s : State) :
    s.brownoutOff.feed = { s.feed with brownout := false } ∧ s.brownoutOff.cores = s.cores ∧ s.brownoutOff.store = s.store
      ∧ s.brownoutOff.yarrow = s.yarrow ∧ s.brownoutOff.board.still = s.board.still
      ∧ ∀ i, i < 20 → s.ready i = true → s.brownoutOff.ready i = true := by
  cases h : s.feed.brownout with
  | false =>
    have he : s.brownoutOff = s := if_pos (by rw [h]; rfl)
    rw [he, ← h]
    exact ⟨rfl, rfl, rfl, rfl, rfl, fun _ _ hr => hr⟩
  | true =>
    obtain ⟨u, he, hf, hc, hs, hy, hb, hr⟩ := State.brownoutOff_eq h
    have hrest := State.allocate_rest u
    rw [he]
    refine ⟨(State.feed_of_rest hrest).trans hf, (State.cores_of_rest hrest).trans hc, (State.store_of_rest hrest).trans hs,
      (State.yarrow_of_rest hrest).trans hy, (State.board_of_rest hrest).trans (congrArg Board.still hb), fun i hi h => ?_⟩
    rw [State.ready_of_ready0 (State.allocate_ready0 u)]
    exact hr i hi h

/-- The end of a signalled brownout runs an allocation. -/
theorem State.brownoutOff_allocates (h : s.feed.brownout = true) : s.brownoutOff.budget.beat = s.now ∧ s.brownoutOff.budget.due = false := by
  obtain ⟨u, he, -, -, -, -, hb, -⟩ := State.brownoutOff_eq h
  obtain ⟨-, hdue, hbeat, -⟩ := State.allocate_spec u
  rw [he]
  exact ⟨hbeat.trans (congrArg Board.beat hb), hdue⟩

/-! ### FEEDA and FEEDB -/

/-- The bit of a feed in word 0 of the ready map. -/
def feedMask (f : Feed) : Word := match f with | .a => 0x00100000#32 | .b => 0x00200000#32

/-- One of these bits as it follows its feed. -/
def State.putFeed (t : State) (f : Feed) (on : Bool) : State :=
  if on then t.setReady (feedMask f) else if (t.dev.ready0 &&& feedMask f) != 0 then t.clearReady (feedMask f) else t

theorem State.feedBits_eq (s : State) : s.feedBits
    = if !(s.feed.linkUp && s.hubRuns && !s.board.testen && s.coreReady 8) then s
      else (s.putFeed .a (s.feed.power && s.feed.selected == some .a)).putFeed .b (s.feed.power && s.feed.selected == some .b) := rfl

theorem State.putFeed_eq (s : State) (f : Feed) (on : Bool) : ∃ d, s.putFeed f on = { s with dev := d } := by
  unfold State.putFeed
  split
  · exact ⟨_, rfl⟩
  · split
    · exact ⟨_, rfl⟩
    · exact ⟨s.dev, rfl⟩

/-- The feeds' bits are a matter of the ready map. -/
theorem State.feedBits_dev (s : State) : ∃ d, s.feedBits = { s with dev := d } := by
  rw [State.feedBits_eq]
  split
  · exact ⟨s.dev, rfl⟩
  · obtain ⟨d, hd⟩ := State.putFeed_eq s .a (s.feed.power && s.feed.selected == some .a)
    obtain ⟨e, he⟩ := State.putFeed_eq { s with dev := d } .b (s.feed.power && s.feed.selected == some .b)
    rw [hd]
    exact ⟨e, he⟩

/-- A masked word that is zero has none of the bits of its mask. -/
theorem getLsbD_of_and_zero {w m : Word} {i : Nat} (h : w &&& m = 0) (hi : m.getLsbD i = true) : w.getLsbD i = false := by
  have hbit := congrArg (fun v : Word => v.getLsbD i) h
  simp only [BitVec.getLsbD_and, hi, Bool.and_true] at hbit
  rw [hbit]
  exact BitVec.getLsbD_zero

theorem State.putFeed_own (s : State) {f : Feed} {i : Nat} (hi : (feedMask f).getLsbD i = true) (hlt : i < 32) (on : Bool) :
    (s.putFeed f on).ready i = on := by
  unfold State.putFeed State.ready bit1
  cases on with
  | true =>
    rw [if_pos rfl, State.setReady_ready0, BitVec.getLsbD_or, hi]
    exact Bool.or_true _
  | false =>
    rw [if_neg Bool.false_ne_true]
    split
    · rw [State.clearReady_ready0]
      simp [hi, hlt]
    · next h => exact getLsbD_of_and_zero (by simpa using h) hi

theorem State.putFeed_other (s : State) {f : Feed} {i : Nat} (hi : (feedMask f).getLsbD i = false) (hlt : i < 32) (on : Bool) :
    (s.putFeed f on).ready i = s.ready i := by
  unfold State.putFeed State.ready bit1
  cases on with
  | true =>
    rw [if_pos rfl, State.setReady_ready0, BitVec.getLsbD_or, hi]
    exact Bool.or_false _
  | false =>
    rw [if_neg Bool.false_ne_true]
    split
    · rw [State.clearReady_ready0]
      rw [BitVec.getLsbD_and, BitVec.getLsbD_not, hi, decide_eq_true hlt]
      exact Bool.and_true _
    · rfl

theorem State.feedBits_shown (hup : s.feed.linkUp = true) (hrun : s.hubRuns = true) (htest : s.board.testen = false) (hcore : s.coreReady 8 = true) :
    s.feedBits.ready 20 = (s.feed.power && s.feed.selected == some .a) ∧ s.feedBits.ready 21 = (s.feed.power && s.feed.selected == some .b) := by
  rw [State.feedBits_eq, if_neg (by rw [hup, hrun, htest, hcore]; decide)]
  refine ⟨?_, State.putFeed_own _ (by decide) (by decide) _⟩
  rw [State.putFeed_other _ (by decide) (by decide)]
  exact State.putFeed_own _ (by decide) (by decide) _

end Sys2Proof.Machine
end


section
/-! The clauses of O41 (R60–R65, R303, R311–R321, R343, R361). -/

namespace Sys2Proof.Machine

variable {s : State}

/-! ### Start, stop and link of the feed guard die -/

/-- What the die starts as: on its straps, both feeds in `st`, nothing selected. -/
def FeedDie.started (d : FeedDie) (va vb : Int) (straps : Vector (Fin 8) 4) (bad : Bool) (st : FeedSt) : FeedDie :=
  { d with on := true, straps := straps, strapInvalid := bad, fromHub := false, linkUp := false, deferred := [], inForce := strapSet straps
           a := { FeedState.reset with st := st, vin := va }, b := { FeedState.reset with st := st, vin := vb }
           selected := none, lastSel := none, change := none, changeBlank := false, lastChange := 0, trunkMon := .reset, fpg := false
           noFeed := false }

theorem exec_feedGuardStart {va vb : Int} {s0 s1 s2 s3 : Fin 8} (hoff : s.feed.on = false) (hv : 12000 < max va vb) :
    exec (.feedGuardStart va vb s0 s1 s2 s3) s
      = .next (if decide (4 ≤ s0.val) then
          (s.modFeed fun d => d.started va vb #v[s0, s1, s2, s3] (decide (4 ≤ s0.val)) (if decide (4 ≤ s0.val) then .disabled else .off)).feedReport 179
        else s.modFeed fun d => d.started va vb #v[s0, s1, s2, s3] (decide (4 ≤ s0.val)) (if decide (4 ≤ s0.val) then .disabled else .off)) :=
  congrArg Host.Outcome.next (if_pos (by rw [hoff, decide_eq_true hv]; rfl))

theorem feedGuard_starts {va vb : Int} {s0 s1 s2 s3 : Fin 8} (hoff : s.feed.on = false) (hv : 12000 < max va vb) (hstrap : s0.val < 4) :
    gives (.feedGuardStart va vb s0 s1 s2 s3) s fun t => t.feed.on = true
      ∧ t.feed.straps = #v[s0, s1, s2, s3]
      ∧ t.feed.strapInvalid = false
      ∧ t.feed.inForce = strapSet #v[s0, s1, s2, s3]
      ∧ t.feed.a = { FeedState.reset with st := .off, vin := va }
      ∧ t.feed.b = { FeedState.reset with st := .off, vin := vb }
      ∧ t.feed.selected = none
      ∧ t.feed.fpg = false
      ∧ t.feed.linkUp = false
      ∧ t.feed.fromHub = false
      ∧ t.ports = s.ports
      ∧ t.cores = s.cores
      ∧ t.faults = s.faults
      ∧ t.pool = s.pool
      ∧ t.dev = s.dev
      ∧ t.feed.work = s.feed.work := by
  refine gives_of_exec (exec_feedGuardStart hoff hv) ?_
  rw [decide_eq_false (Nat.not_le.mpr hstrap), if_neg Bool.false_ne_true]
  exact ⟨rfl, rfl, rfl, rfl, rfl, rfl, rfl, rfl, rfl, rfl, rfl, rfl, rfl, rfl, rfl, rfl⟩

theorem feedGuard_startsBad {va vb : Int} {s0 s1 s2 s3 : Fin 8} (hoff : s.feed.on = false) (hv : 12000 < max va vb) (hstrap : 4 ≤ s0.val) :
    gives (.feedGuardStart va vb s0 s1 s2 s3) s fun t => t.feed.on = true
      ∧ t.feed.strapInvalid = true
      ∧ t.feed.a = { FeedState.reset with st := .disabled, vin := va }
      ∧ t.feed.b = { FeedState.reset with st := .disabled, vin := vb }
      ∧ t.feed.deferred = [{ devRaise 179 0 0 with deferred := true }]
      ∧ t.ports = s.ports
      ∧ t.faults = s.faults := by
  refine gives_of_exec (exec_feedGuardStart hoff hv) ?_
  rw [decide_eq_true hstrap, if_pos rfl, if_pos rfl]
  exact ⟨rfl, rfl, rfl, rfl, rfl, rfl, rfl⟩

theorem feedGuard_stays {va vb : Int} {s0 s1 s2 s3 : Fin 8} (h : s.feed.on = true ∨ max va vb ≤ 12000) :
    exec (.feedGuardStart va vb s0 s1 s2 s3) s = .next s := by
  refine congrArg Host.Outcome.next (if_neg ?_)
  obtain h | h := h
  · simp [h]
  · rw [decide_eq_false (Int.not_lt.mpr h)]
    simp

/-- The link that goes down: the die is as it was, and F180 is raised where the hub runs. -/
theorem State.feedLinkDown_spec (s : State) :
    s.feedLinkDown.rest = (s.modFeed fun d => { d with linkUp := false }).rest
      ∧ s.feedLinkDown.dev.ready0 = s.dev.ready0
      ∧ (s.feed.linkUp = true → s.hubRuns = true → s.feedLinkDown.raisedAt 180 = true) := by
  unfold State.feedLinkDown
  by_cases hup : s.feed.linkUp = true
  · rw [if_pos hup]
    dsimp only
    split
    · exact ⟨State.raise_rest .., State.raise_ready0 .., fun _ _ => State.raise_raised _ (devRaise 180 0 0) rfl⟩
    · next h => exact ⟨rfl, rfl, fun _ hr => absurd hr h⟩
  · rw [if_neg hup]
    refine ⟨?_, rfl, fun h => absurd h hup⟩
    have heta : ({ s.feed with linkUp := false } : FeedDie) = s.feed := by rw [← eq_false_of_ne_true hup]
    show s.rest = State.rest { s with feed := { s.feed with linkUp := false } }
    rw [heta]

/-- The die that has stopped (R60). -/
def FeedDie.ended (d : FeedDie) : FeedDie :=
  { d with on := false, fromHub := false, fpg := false, noFeed := false, deferred := [], inForce := strapSet d.straps
           a := { FeedState.reset with vin := d.a.vin }, b := { FeedState.reset with vin := d.b.vin }
           selected := none, change := none, changeBlank := false, trunkMon := .reset, strapInvalid := false }

/-- Both feeds' bits clear where one of them stands. -/
def State.dropFeeds (s : State) : State := if (s.dev.ready0 &&& 0x00300000#32) != 0 then s.clearReady 0x00300000#32 else s

theorem State.dropFeeds_eq (s : State) : ∃ d, s.dropFeeds = { s with dev := d } := by
  unfold State.dropFeeds
  split
  · exact ⟨_, rfl⟩
  · exact ⟨s.dev, rfl⟩

theorem State.dropFeeds_ready (s : State) {i : Nat} (hi : (0x00300000#32).getLsbD i = true) : s.dropFeeds.ready i = false := by
  unfold State.dropFeeds State.ready bit1
  split
  · rw [State.clearReady_ready0, BitVec.getLsbD_and, BitVec.getLsbD_not, hi]
    simp
  · next h => exact getLsbD_of_and_zero (by simpa using h) hi

theorem feedGuard_stops {xs : List Int} (hon : s.feed.on = true) (hlen : 8 ≤ xs.length) (hlow : ∀ v ∈ xs, v < 10000) :
    gives (.feedGuardStop xs) s fun t => t.feed.on = false
      ∧ t.feed.a = { FeedState.reset with vin := s.feed.a.vin }
      ∧ t.feed.b = { FeedState.reset with vin := s.feed.b.vin }
      ∧ t.feed.fpg = false
      ∧ t.feed.fromHub = false
      ∧ t.feed.linkUp = false
      ∧ t.feed.selected = none
      ∧ t.feed.inForce = strapSet s.feed.straps
      ∧ t.ready 20 = false
      ∧ t.ready 21 = false
      ∧ (s.feed.linkUp = true → s.hubRuns = true → t.raisedAt 180 = true)
      ∧ t.cores = s.cores
      ∧ t.store = s.store
      ∧ t.yarrow = s.yarrow := by
  have he : exec (.feedGuardStop xs) s = .next (s.feedLinkDown.modFeed FeedDie.ended).dropFeeds := by
    refine congrArg Host.Outcome.next (if_pos ?_)
    rw [hon, decide_eq_true hlen, List.all_eq_true.mpr fun v hv => decide_eq_true (hlow v hv)]
    rfl
  obtain ⟨hrest, -, hraise⟩ := State.feedLinkDown_spec s
  have hc : s.feedLinkDown.cores = s.cores := (State.cores_of_rest hrest :)
  have hs : s.feedLinkDown.store = s.store := (State.store_of_rest hrest :)
  have hy : s.feedLinkDown.yarrow = s.yarrow := (State.yarrow_of_rest hrest :)
  have hfeed : (s.feedLinkDown.modFeed FeedDie.ended).feed = ({ s.feed with linkUp := false } : FeedDie).ended :=
    congrArg FeedDie.ended (State.feed_of_rest hrest)
  obtain ⟨d, hd⟩ := State.dropFeeds_eq (s.feedLinkDown.modFeed FeedDie.ended)
  have hdf : (s.feedLinkDown.modFeed FeedDie.ended).dropFeeds.feed = ({ s.feed with linkUp := false } : FeedDie).ended := by rw [hd]; exact hfeed
  refine gives_of_exec he ?_
  rw [hdf]
  refine ⟨rfl, rfl, rfl, rfl, rfl, rfl, rfl, rfl, State.dropFeeds_ready _ (by decide), State.dropFeeds_ready _ (by decide),
    ?_, ?_, ?_, ?_⟩
  · rw [hd]; exact hraise
  · rw [hd]; exact hc
  · rw [hd]; exact hs
  · rw [hd]; exact hy

theorem feedLink_lost (hup : s.feed.linkUp = true) (hrun : s.hubRuns = true) :
    gives (.feedLinkLost) s fun t => t.feed.linkUp = false
      ∧ t.feed.a = s.feed.a
      ∧ t.feed.b = s.feed.b
      ∧ t.feed.brownout = s.feed.brownout
      ∧ t.feed.vTrunk = s.feed.vTrunk
      ∧ t.ready 20 = s.ready 20
      ∧ t.ready 21 = s.ready 21
      ∧ t.raisedAt 180 = true
      ∧ t.cores = s.cores
      ∧ t.store = s.store
      ∧ t.yarrow = s.yarrow := by
  obtain ⟨hrest, hready, hraise⟩ := State.feedLinkDown_spec s
  refine gives_of_exec (t := s.feedLinkDown) rfl ?_
  rw [State.feed_of_rest hrest]
  refine ⟨rfl, rfl, rfl, rfl, rfl, ?_, ?_, hraise hup hrun, (State.cores_of_rest hrest :), (State.store_of_rest hrest :),
    (State.yarrow_of_rest hrest :)⟩
  all_goals
    unfold State.ready
    rw [hready]

/-! ### The link comes up -/

/-- What the hub does with the trunk's state and the held events when the link has come up. -/
def State.linkRaises (u : State) (held : List Raise) : State := ((u.raiseAll held).modFeed fun d => { d with fpg := d.power }).feedBits

theorem exec_feedLinkUp (hon : s.feed.on = true) (hrun : s.hubRuns = true) (hdown : s.feed.linkUp = false) :
    ∃ rs, exec (.feedLinkUp) s = .next
      ((if (!(s.modFeed FeedDie.join).feed.trunkMon.good) = true then (s.modFeed FeedDie.join).brownoutSet else (s.modFeed FeedDie.join).brownoutOff).linkRaises rs) :=
  ⟨_, congrArg Host.Outcome.next (if_pos (by rw [hon, hrun, hdown]; rfl))⟩

theorem State.linkRaises_spec (u : State) (held : List Raise) :
    (u.linkRaises held).feed = { u.feed with fpg := u.feed.power } ∧ (u.linkRaises held).cores = u.cores ∧ (u.linkRaises held).store = u.store
      ∧ (u.linkRaises held).yarrow = u.yarrow := by
  have hrest := State.raiseAll_rest u held
  unfold State.linkRaises
  generalize hv : (u.raiseAll held) = v at hrest
  obtain ⟨d, hd⟩ := State.feedBits_dev (v.modFeed fun d => { d with fpg := d.power })
  rw [hd]
  refine ⟨?_, (State.cores_of_rest hrest :), (State.store_of_rest hrest :), (State.yarrow_of_rest hrest :)⟩
  show ({ v.feed with fpg := v.feed.power } : FeedDie) = _
  rw [State.feed_of_rest hrest]

theorem State.linkRaises_bits {u : State} (held : List Raise) (hup : u.feed.linkUp = true) (hrun : u.hubRuns = true) (htest : u.board.testen = false)
    (hcore : u.coreReady 8 = true) :
    (u.linkRaises held).ready 20 = (u.feed.power && u.feed.selected == some .a)
      ∧ (u.linkRaises held).ready 21 = (u.feed.power && u.feed.selected == some .b) := by
  have hrest := State.raiseAll_rest u held
  have hready0 := State.raiseAll_ready0 u held
  unfold State.linkRaises
  generalize (u.raiseAll held) = v at hrest hready0
  have hfeed : v.feed = u.feed := State.feed_of_rest hrest
  have hstill := State.board_of_rest hrest
  have hshown := State.feedBits_shown (s := v.modFeed fun d => { d with fpg := d.power }) (by show v.feed.linkUp = true; rw [hfeed, hup])
    ((State.hubRuns_of_still hstill).trans hrun) ((congrArg Board.testen hstill :).trans htest) (State.ready_of_ready0 hready0 hcore)
  rw [← hfeed]
  exact hshown

theorem feedLink_upFresh (hon : s.feed.on = true) (hrun : s.hubRuns = true) (hdown : s.feed.linkUp = false) (hwork : s.feed.workSet = false)
    (hdue : s.feed.cfgDue = none) (hgood : s.feed.trunkMon.good = true) :
    gives (.feedLinkUp) s fun t => t.feed.linkUp = true
      ∧ t.feed.work = strapSet s.feed.straps
      ∧ t.feed.workSet = true
      ∧ t.feed.inForce = s.feed.inForce
      ∧ t.feed.deferred = []
      ∧ t.feed.brownout = false
      ∧ t.feed.fpg = s.feed.power
      ∧ (s.board.testen = false → s.coreReady 8 = true → t.ready 20 = (s.feed.power && s.feed.selected == some .a)
          ∧ t.ready 21 = (s.feed.power && s.feed.selected == some .b))
      ∧ t.feed.a = s.feed.a
      ∧ t.feed.b = s.feed.b
      ∧ t.cores = s.cores
      ∧ t.store = s.store
      ∧ t.yarrow = s.yarrow := by
  obtain ⟨rs, he⟩ := exec_feedLinkUp hon hrun hdown
  have hlow : ¬ (!(s.modFeed FeedDie.join).feed.trunkMon.good) = true := by
    show ¬ (!s.feed.trunkMon.good) = true
    rw [hgood]
    decide
  rw [if_neg hlow] at he
  obtain ⟨hf, hc, hs, hy, hb, hr⟩ := State.brownoutOff_spec (s.modFeed FeedDie.join)
  obtain ⟨hlf, hlc, hls, hly⟩ := State.linkRaises_spec (s.modFeed FeedDie.join).brownoutOff rs
  have hpower : (s.modFeed FeedDie.join).brownoutOff.feed.power = s.feed.power := by rw [hf]; rfl
  have hsel : (s.modFeed FeedDie.join).brownoutOff.feed.selected = s.feed.selected := by rw [hf]; rfl
  refine gives_of_exec he ?_
  rw [hlf, hpower, hf]
  refine ⟨rfl, if_neg (by rw [hwork]; exact Bool.false_ne_true), rfl, ?_, rfl, rfl, rfl, fun htest hcore => ?_, rfl, rfl, hlc.trans hc, hls.trans hs,
    hly.trans hy⟩
  · show s.feed.cfgDue.getD s.feed.inForce = s.feed.inForce
    rw [hdue]
    rfl
  · have hbits := State.linkRaises_bits rs (by rw [hf]; rfl) ((State.hubRuns_of_still hb).trans hrun) ((congrArg Board.testen hb :).trans htest)
      (hr 11 (by decide) hcore)
    rw [hpower, hsel] at hbits
    exact hbits

theorem feedLink_upDue {c : FeedCfg} (hon : s.feed.on = true) (hrun : s.hubRuns = true) (hdown : s.feed.linkUp = false) (hwork : s.feed.workSet = true)
    (hdue : s.feed.cfgDue = some c) :
    gives (.feedLinkUp) s fun t => t.feed.linkUp = true
      ∧ t.feed.inForce = c
      ∧ t.feed.fromHub = true
      ∧ t.feed.cfgDue = none
      ∧ t.feed.work = s.feed.work
      ∧ t.feed.a = s.feed.a
      ∧ t.cores = s.cores := by
  obtain ⟨rs, he⟩ := exec_feedLinkUp hon hrun hdown
  generalize hu : (if (!(s.modFeed FeedDie.join).feed.trunkMon.good) = true then (s.modFeed FeedDie.join).brownoutSet
    else (s.modFeed FeedDie.join).brownoutOff) = u at he
  obtain ⟨bo, hf, hc⟩ : ∃ bo, u.feed = { s.feed.join with brownout := bo } ∧ u.cores = s.cores := by
    rw [← hu]
    split
    · cases hb : s.feed.brownout with
      | true =>
        have hset : (s.modFeed FeedDie.join).brownoutSet = s.modFeed FeedDie.join := if_pos hb
        rw [hset]
        exact ⟨s.feed.join.brownout, rfl, rfl⟩
      | false =>
        have hrest := State.brownoutSet_rest (s := s.modFeed FeedDie.join) hb
        exact ⟨true, (State.feed_of_rest hrest :), (State.cores_of_rest hrest :)⟩
    · obtain ⟨hf, hc, -⟩ := State.brownoutOff_spec (s.modFeed FeedDie.join)
      exact ⟨false, hf, hc⟩
  obtain ⟨hlf, hlc, -⟩ := State.linkRaises_spec u rs
  refine gives_of_exec he ?_
  rw [hlf, hf]
  refine ⟨rfl, ?_, ?_, rfl, if_pos hwork, rfl, hlc.trans hc⟩
  · show s.feed.cfgDue.getD s.feed.inForce = c
    rw [hdue]
    rfl
  · show (s.feed.fromHub || s.feed.cfgDue.isSome) = true
    rw [hdue]
    exact Bool.or_true _

end Sys2Proof.Machine
end


section
/-! Brownout, allocations, die temperatures and snapshots: the other clauses of O41. -/

namespace Sys2Proof.Machine

variable {s : State} {xs : List MonSample}

/-! ### The trunk -/

/-- The trunk monitor has taken the samples of a step. -/
def State.trunkSampled (s : State) (xs : List MonSample) : State :=
  s.modFeed fun d => { d with trunkMon := s.feed.trunkMon.run s.feed.trunkWindow s.feed.chgBlank xs
                              changeBlank := d.changeBlank && (s.feed.trunkMon.run s.feed.trunkWindow s.feed.chgBlank xs).blanked }

theorem State.trunkSamples_eq (hon : s.feed.on = true) (xs : List MonSample) : s.trunkSamples xs
    = if (s.feed.trunkMon.run s.feed.trunkWindow s.feed.chgBlank xs).good = s.feed.trunkMon.good then s.trunkSampled xs
      else if !(s.feed.linkUp && s.hubRuns) then
        (if (s.feed.trunkMon.run s.feed.trunkWindow s.feed.chgBlank xs).good then s.trunkSampled xs else (s.trunkSampled xs).feedReport 178)
      else if (s.feed.trunkMon.run s.feed.trunkWindow s.feed.chgBlank xs).good then (s.trunkSampled xs).brownoutOff
      else (s.trunkSampled xs).brownoutOn :=
  if_neg (by rw [hon]; decide)

theorem brownout_enters (hon : s.feed.on = true) (hup : s.feed.linkUp = true) (hrun : s.hubRuns = true) (hbo : s.feed.brownout = false)
    (hgood : s.feed.trunkMon.good = true) (hlow : (s.feed.trunkMon.run s.feed.trunkWindow s.feed.chgBlank xs).good = false) :
    gives (.brownoutEnter xs) s fun t => t.feed.brownout = true
      ∧ t.feed.trunkMon.good = false
      ∧ t.raisedAt 178 = true
      ∧ (t.port 0).grant = s.floors.getD 0 0
      ∧ (∀ p : PortId, (t.port p).grant = s.floors.getD p.val 0)
      ∧ t.cores = s.cores
      ∧ t.store = s.store
      ∧ t.yarrow = s.yarrow := by
  have he : exec (.brownoutEnter xs) s = .next (s.trunkSampled xs).brownoutOn := by
    refine congrArg Host.Outcome.next ((State.trunkSamples_eq hon xs).trans ?_)
    rw [if_neg (by rw [hlow, hgood]; decide), if_neg (by rw [hup, hrun]; decide), if_neg (by rw [hlow]; decide)]
  obtain ⟨hrest, hraise, hgrant⟩ := State.brownoutOn_spec (s := s.trunkSampled xs) hbo
  have hfloors : (s.trunkSampled xs).floors = s.floors := State.modFeed_floors _
  rw [hfloors] at hgrant
  refine gives_of_exec he ?_
  rw [State.feed_of_rest hrest]
  exact ⟨rfl, hlow, hraise, hgrant 0, hgrant, (State.cores_of_rest hrest :), (State.store_of_rest hrest :), (State.yarrow_of_rest hrest :)⟩

theorem brownout_ends (hon : s.feed.on = true) (hup : s.feed.linkUp = true) (hrun : s.hubRuns = true) (hbo : s.feed.brownout = true)
    (hlow : s.feed.trunkMon.good = false) (hgood : (s.feed.trunkMon.run s.feed.trunkWindow s.feed.chgBlank xs).good = true) :
    gives (.brownoutExit xs) s fun t => t.feed.brownout = false
      ∧ t.feed.trunkMon.good = true
      ∧ t.budget.beat = s.now
      ∧ t.budget.due = false
      ∧ t.feed.a = s.feed.a
      ∧ t.feed.b = s.feed.b
      ∧ t.cores = s.cores
      ∧ t.store = s.store := by
  have he : exec (.brownoutExit xs) s = .next (s.trunkSampled xs).brownoutOff := by
    refine congrArg Host.Outcome.next ((State.trunkSamples_eq hon xs).trans ?_)
    rw [if_neg (by rw [hlow, hgood]; decide), if_neg (by rw [hup, hrun]; decide), if_pos hgood]
  obtain ⟨hf, hc, hs, -⟩ := State.brownoutOff_spec (s.trunkSampled xs)
  obtain ⟨hbeat, hdue⟩ := State.brownoutOff_allocates (s := s.trunkSampled xs) hbo
  refine gives_of_exec he ?_
  rw [hf]
  exact ⟨rfl, hgood, hbeat, hdue, rfl, rfl, hc, hs⟩

theorem brownout_unseen (hon : s.feed.on = true) (hdown : s.feed.linkUp = false) :
    gives (.brownoutEnter xs) s fun t => t.feed.brownout = s.feed.brownout
      ∧ t.feed.trunkMon = s.feed.trunkMon.run s.feed.trunkWindow s.feed.chgBlank xs
      ∧ t.ports = s.ports
      ∧ t.faults = s.faults
      ∧ t.cores = s.cores := by
  refine gives_of_exec (congrArg Host.Outcome.next (State.trunkSamples_eq hon xs)) ?_
  split
  · exact ⟨rfl, rfl, rfl, rfl, rfl⟩
  · rw [if_pos (by rw [hdown]; rfl)]
    split
    · exact ⟨rfl, rfl, rfl, rfl, rfl⟩
    · have hreport : (s.trunkSampled xs).feedReport 178 = (s.trunkSampled xs).modFeed fun d =>
          if d.deferred.length < 16 then { d with deferred := d.deferred ++ [{ devRaise 178 0 0 with deferred := true }] } else d :=
        if_neg (by show ¬ (s.feed.linkUp && _) = true; rw [hdown]; exact Bool.false_ne_true)
      rw [hreport]
      refine ⟨?_, ?_, rfl, rfl, rfl⟩
      all_goals
        rw [State.modFeed_feed]
        split <;> rfl

/-! ### Allocations -/

theorem exec_budgetAllocation (hrun : s.hubRuns = true) (hdue : s.budget.due = true) (hat : s.budget.dueAt ≠ s.now) (hbo : s.feed.brownout = false)
    (hcore : s.coreStopped 8 = false) : exec (.budgetAllocation) s = .next s.allocate :=
  congrArg Host.Outcome.next (if_pos (by rw [hrun, hcore, hdue, hbo, bne_iff_ne.mpr hat]; rfl))

theorem allocation_divides {d : Division} (hd : d = divide (s.bEff - s.reserve) s.floors s.wants) (hrun : s.hubRuns = true) (hdue : s.budget.due = true)
    (hat : s.budget.dueAt ≠ s.now) (hbo : s.feed.brownout = false) (hheld : s.budgetHeld = true) (hcore : s.coreStopped 8 = false) :
    gives (.budgetAllocation) s fun t => t.budget.due = false
      ∧ t.budget.beat = s.now
      ∧ t.budget.short = d.short
      ∧ t.budget.floorSum = d.floorSum
      ∧ t.budget.poolP = d.pool
      ∧ t.budget.level = d.level
      ∧ (t.budget.short = true → s.budget.short = false → t.raisedAt 48 = true)
      ∧ (∀ p : PortId, (t.port p).grant = d.grants.getD p.val 0)
      ∧ t.cores = s.cores
      ∧ t.store = s.store
      ∧ t.feed = s.feed
      ∧ t.yarrow = s.yarrow := by
  have hdiv : s.division = d := by
    rw [hd]
    exact if_pos (by unfold State.divides; rw [hheld]; rfl)
  obtain ⟨hg, hdue', hbeat, hshort, hsum, hpool, hlevel⟩ := State.allocate_spec s
  rw [hdiv] at hg hshort hsum hpool hlevel
  have hrest := State.allocate_rest s
  refine gives_of_exec (exec_budgetAllocation hrun hdue hat hbo hcore) ⟨hdue', hbeat, hshort, hsum, hpool, hlevel, fun h hs => ?_, hg,
    State.cores_of_rest hrest, State.store_of_rest hrest, State.feed_of_rest hrest, State.yarrow_of_rest hrest⟩
  exact State.allocate_short (by rw [hdiv]; exact hshort.symm.trans h) hs

theorem allocation_waits (h : s.budget.due = false ∨ s.budget.dueAt = s.now ∨ s.feed.brownout = true ∨ s.coreStopped 8 = true) :
    exec (.budgetAllocation) s = .next s := by
  refine congrArg Host.Outcome.next (if_neg ?_)
  obtain h | h | h | h := h <;> simp [h]

theorem allocation_floors (hrun : s.hubRuns = true) (hdue : s.budget.due = true) (hat : s.budget.dueAt ≠ s.now) (hbo : s.feed.brownout = false)
    (hheld : s.budgetHeld = false) (hmember : s.yarrow.gstate ≠ .member) (hroot : s.yarrow.gstate ≠ .root) (hcore : s.coreStopped 8 = false) :
    gives (.budgetAllocation) s fun t => t.budget.due = false
      ∧ t.budget.beat = s.now
      ∧ t.budget.short = false
      ∧ (∀ p : PortId, (t.port p).grant = s.floors.getD p.val 0)
      ∧ t.faults.raised = s.faults.raised
      ∧ t.feed = s.feed := by
  have hdiv : s.division = ⟨s.floors, s.floorTotal, 0, 0, false⟩ := if_neg (by
    unfold State.divides
    rw [hheld, beq_eq_false_iff_ne.mpr hmember, beq_eq_false_iff_ne.mpr hroot]
    decide)
  obtain ⟨hg, hdue', hbeat, hshort, -⟩ := State.allocate_spec s
  rw [hdiv] at hg hshort
  exact gives_of_exec (exec_budgetAllocation hrun hdue hat hbo hcore) ⟨hdue', hbeat, hshort, hg,
    congrArg Faults.raised (State.allocate_full (by rw [hdiv])), State.feed_of_rest (State.allocate_rest s)⟩

/-! ### Die temperatures -/

/-- F5 stays ACTIVE while a sensor of the die is warm. -/
theorem active_dieWarm {k : Fin 5} (h : s.board.dieWarm[k] = true) : active s 5 = true := by
  have hany : s.board.dieWarm.toList.any id = true := by
    rw [List.any_eq_true]
    exact ⟨s.board.dieWarm[k], Vector.mem_toList_iff.mpr (Vector.getElem_mem k.isLt), h⟩
  unfold active
  rw [show condActive s 5 = s.board.dieWarm.toList.any id from rfl, hany]
  exact Bool.true_or _

theorem dieTemp_hot {k : Fin 5} {x0 x1 x2 x3 : Int} (hrun : s.hubRuns = true) (hcool : s.board.dieHot[k] = false) (h0 : 1400 ≤ x0) (h1 : 1400 ≤ x1)
    (h2 : 1400 ≤ x2) (h3 : 1400 ≤ x3) :
    gives (.dieTemp k [x0, x1, x2, x3]) s fun t => t.board.dieHot[k] = true
      ∧ t.board.dieWarm[k] = true
      ∧ active t 5 = true
      ∧ t.raisedAt 5 = true
      ∧ t.cores = s.cores
      ∧ t.store = s.store
      ∧ t.feed = s.feed := by
  have he : exec (.dieTemp k [x0, x1, x2, x3]) s
      = .next ((s.modBoard fun b => { b with dieHot := b.dieHot.set k true, dieWarm := b.dieWarm.set k true }).raise (devRaise 5 k.val 0)) := by
    show execDieTemp k [x0, x1, x2, x3] s = _
    unfold execDieTemp
    simp [hrun, hcool, h0, h1, h2, h3, show 1250 ≤ x3 by omega]
  have hrest := State.raise_rest (s.modBoard fun b => { b with dieHot := b.dieHot.set k true, dieWarm := b.dieWarm.set k true }) (devRaise 5 k.val 0)
  have hstill := State.board_of_rest hrest
  generalize hu : (s.modBoard fun b => { b with dieHot := b.dieHot.set k true, dieWarm := b.dieWarm.set k true }) = u at he hrest hstill
  have hboard : u.board.dieHot[k] = true ∧ u.board.dieWarm[k] = true := by
    rw [← hu]
    simp [State.modBoard]
  have hhot : (u.raise (devRaise 5 k.val 0)).board.dieHot = u.board.dieHot := (congrArg Board.dieHot hstill :)
  have hwarm : (u.raise (devRaise 5 k.val 0)).board.dieWarm = u.board.dieWarm := (congrArg Board.dieWarm hstill :)
  have hactive : active (u.raise (devRaise 5 k.val 0)) 5 = true := active_dieWarm (k := k) (by rw [hwarm]; exact hboard.2)
  refine gives_of_exec he ⟨by rw [hhot]; exact hboard.1, by rw [hwarm]; exact hboard.2, hactive, State.raise_raised _ (devRaise 5 k.val 0) rfl,
    (State.cores_of_rest hrest).trans ?_, (State.store_of_rest hrest).trans ?_, (State.feed_of_rest hrest).trans ?_⟩
  all_goals
    rw [← hu]
    rfl

theorem dieTemp_cool {k : Fin 5} {v : Int} (hrun : s.hubRuns = true) (hv : v < 1250) :
    exec (.dieTemp k [v]) s = .next (s.modBoard fun x => { x with dieHot := x.dieHot.set k false, dieWarm := x.dieWarm.set k false }) := by
  show execDieTemp k [v] s = _
  unfold execDieTemp
  simp [hrun, Int.not_le.mpr hv]

theorem dieTemp_warm {k : Fin 5} {v : Int} (hrun : s.hubRuns = true) (hv : 1250 ≤ v) :
    gives (.dieTemp k [v]) s fun t => t.board.dieWarm[k] = true
      ∧ active t 5 = true
      ∧ t.board.dieHot[k] = s.board.dieHot[k]
      ∧ t.ports = s.ports
      ∧ t.faults = s.faults := by
  have he : exec (.dieTemp k [v]) s
      = .next (s.modBoard fun b => { b with dieHot := b.dieHot.set k s.board.dieHot[k], dieWarm := b.dieWarm.set k true }) := by
    show execDieTemp k [v] s = _
    unfold execDieTemp
    simp [hrun, hv]
  have hwarm : (s.modBoard fun b => { b with dieHot := b.dieHot.set k s.board.dieHot[k], dieWarm := b.dieWarm.set k true }).board.dieWarm[k] = true := by
    simp [State.modBoard]
  refine gives_of_exec he ⟨hwarm, active_dieWarm hwarm, ?_, rfl, rfl⟩
  simp [State.modBoard]

/-! ### Snapshots -/

theorem snapshot_written {body : List Byte} {more : List (List Byte)} (hsnap : s.faults.snap = body :: more) (hready : s.ready 2 = true)
    (hseq : s.faults.snapSeq ≠ 0xFFFFFFFE#32) (hcore : s.coreStopped 8 = false) :
    gives (.snapshotWrite true) s fun t => t.faults.snap = more
      ∧ t.faults.snapSeq = BitVec.ofNat 32 (s.faults.snapSeq.toNat + 1)
      ∧ t.faults.snapPos = (s.faults.snapPos + 1) % 256
      ∧ t.store.flash = (snapErase s.faults.snapPos s.store.flash).program (snapBase + 4096 * s.faults.snapPos)
          (snapBytes (s.faults.snapSeq.toNat + 1) body ++ u32 (s.faults.snapSeq.toNat + 1))
      ∧ t.ports = s.ports
      ∧ t.cores = s.cores
      ∧ t.pool = s.pool
      ∧ t.faults.log = s.faults.log := by
  show ∃ t, execSnapshotWrite true s = .next t ∧ _
  unfold execSnapshotWrite
  rw [hsnap]
  dsimp only
  rw [if_neg (by rw [hready, hcore]; decide), if_neg hseq, if_pos rfl]
  exact ⟨_, rfl, rfl, rfl, rfl, rfl, rfl, rfl, rfl, rfl⟩

theorem snapshot_fails {body : List Byte} {more : List (List Byte)} {ok : Bool} (hsnap : s.faults.snap = body :: more) (hready : s.ready 2 = true)
    (hbad : ok = false ∨ s.faults.snapSeq = 0xFFFFFFFE#32) (hcore : s.coreStopped 8 = false) :
    gives (.snapshotWrite ok) s fun t => t.faults.snapSeq = s.faults.snapSeq
      ∧ t.raisedAt 214 = true
      ∧ (s.faults.snapSeq = 0xFFFFFFFE#32 → t.store = s.store)
      ∧ t.cores = s.cores
      ∧ t.feed = s.feed := by
  show ∃ t, execSnapshotWrite ok s = .next t ∧ _
  unfold execSnapshotWrite
  rw [hsnap]
  dsimp only
  rw [if_neg (by rw [hready, hcore]; decide)]
  by_cases hseq : s.faults.snapSeq = 0xFFFFFFFE#32
  · rw [if_pos hseq]
    refine ⟨_, rfl, ?_, State.raise_raised _ (devRaise 214 0 0) rfl, fun _ => State.store_of_rest (State.raise_rest ..),
      (State.cores_of_rest (State.raise_rest ..)).trans rfl, (State.feed_of_rest (State.raise_rest ..)).trans rfl⟩
    exact congrArg (fun r => r.2.2) (State.raise_allot ..)
  · obtain rfl : ok = false := hbad.resolve_right hseq
    rw [if_neg hseq, if_neg Bool.false_ne_true]
    refine ⟨_, rfl, ?_, State.raise_raised _ (devRaise 214 0 0) rfl, fun h => absurd h hseq,
      (State.cores_of_rest (State.raise_rest ..)).trans rfl, (State.feed_of_rest (State.raise_rest ..)).trans rfl⟩
    exact congrArg (fun r => r.2.2) (State.raise_allot ..)

theorem snapshot_none {ok : Bool} (h : s.faults.snap = []) : exec (.snapshotWrite ok) s = .next s := by
  show execSnapshotWrite ok s = _
  unfold execSnapshotWrite
  rw [h]

end Sys2Proof.Machine
end

section
/-! O41, settled. -/

namespace Sys2Proof
open Machine

/-- Settles O41: raises leave every grant and the division alone, for no reaction of theirs moves what a floor follows. -/
theorem feedDieLink : Obligations.FeedDieLink := by
  unfold Obligations.FeedDieLink
  exact ⟨fun va vb s0 s1 s2 s3 s => feedGuard_starts, fun va vb s0 s1 s2 s3 s => feedGuard_startsBad, fun va vb s0 s1 s2 s3 s => feedGuard_stays,
    fun xs s => feedGuard_stops, fun s => feedLink_lost, fun s => feedLink_upFresh, fun c s => feedLink_upDue, fun xs s => brownout_enters,
    fun xs s => brownout_ends, fun xs s => brownout_unseen, fun d s => allocation_divides, fun s => allocation_waits, fun s => allocation_floors,
    fun k x0 x1 x2 x3 s => dieTemp_hot, fun k v s => dieTemp_cool, fun k v s => dieTemp_warm, fun body more s => snapshot_written,
    fun body more ok s => snapshot_fails, fun ok s => snapshot_none⟩

end Sys2Proof
end


section
/-! What a Hard Reset makes of its port (R176–R181, R236, R237). -/

namespace Sys2Proof.Machine

variable {s : State} {p : PortId} (x : Port) (b : Beat)

/-! ### The contexts of a port -/

theorem Port.ctxOf_modCtx_same (t : Tgt) (f : Ctx → Ctx) : (x.modCtx t f).ctxOf t = f (x.ctxOf t) := by
  unfold Port.ctxOf Port.modCtx
  simp

theorem Port.ctxOf_modCtx_ne {t u : Tgt} (h : u ≠ t) (f : Ctx → Ctx) : (x.modCtx t f).ctxOf u = x.ctxOf u := by
  have hidx : (tgtIdx t).val ≠ (tgtIdx u).val := by cases t <;> cases u <;> first | exact absurd rfl h | decide
  unfold Port.ctxOf Port.modCtx
  simp [Vector.getElem_set_ne _ _ hidx]

theorem Port.ctxOf_mapCtx (t : Tgt) (f : Ctx → Ctx) : (x.mapCtx f).ctxOf t = f (x.ctxOf t) := by
  unfold Port.ctxOf Port.mapCtx
  simp

/-- What the contexts show of a reset: the identifiers, the revision, the count of Hard Resets. -/
def Ctx.ids (c : Ctx) := (c.txId, c.rxValid, c.rev, c.hrCnt)

/-- A change of the contexts that keeps what one of them shows keeps what all show. -/
theorem Port.ctxOf_ids {t : Tgt} {f : Ctx → Ctx} (hf : ∀ c, (f c).ids = c.ids) (u : Tgt) : ((x.modCtx t f).ctxOf u).ids = (x.ctxOf u).ids := by
  by_cases h : u = t
  · rw [h, Port.ctxOf_modCtx_same, hf]
  · rw [Port.ctxOf_modCtx_ne x h]

/-- The contexts under a Hard Reset (R181). -/
theorem Port.hrContexts_sop (sent : Bool) : ((x.hrContexts sent).ctxOf .sop).ids
    = (0, false, 0, if sent then min 2 ((x.ctxOf .sop).hrCnt + 1) else (x.ctxOf .sop).hrCnt) := by
  unfold Port.hrContexts
  rw [Port.ctxOf_modCtx_same, Port.ctxOf_mapCtx]
  rfl

theorem Port.hrContexts_sop1 (sent : Bool) : ((x.hrContexts sent).ctxOf .sop1).rev = 0 := by
  unfold Port.hrContexts
  rw [Port.ctxOf_modCtx_ne _ (by decide), Port.ctxOf_mapCtx]
  rfl

/-! ### The port after a Hard Reset -/

/-- What a Hard Reset settles, beside the timers, the cable and the levels presented. -/
def Port.resetView := (x.cfg, x.harn, x.tc.st, x.guard.gateOn, x.stage.mode, x.pd.contract, x.pd.recov, x.pd.hrOrder, x.pd.flight, x.pd.swap,
  x.pd.powerSource, x.pd.dfp, (x.ctxOf .sop).ids, (x.ctxOf .sop1).rev)

theorem State.updPort_resetView (f : Port → Port) : ((s.updPort p f).port p).resetView = (f (s.port p)).resetView := by
  obtain h | ⟨g, h⟩ := s.port_updPort p f
  · rw [h]
  · rw [h]
    rfl

theorem Port.syncVconn_ids (t : Tgt) : (x.syncVconn.ctxOf t).ids = (x.ctxOf t).ids := by
  unfold Port.syncVconn
  exact (Port.ctxOf_ids _ (by intro c; rfl) t).trans (Port.ctxOf_ids _ (by intro c; rfl) t)

theorem Port.loseVconn_resetView (imax : Byte) : (x.loseVconn imax).resetView = x.resetView := by
  have hsop := Port.syncVconn_ids x.vconnOff .sop
  have hsop1 : (x.vconnOff.syncVconn.ctxOf .sop1).rev = (x.ctxOf .sop1).rev := congrArg (fun r => r.2.2.1) (Port.syncVconn_ids x.vconnOff .sop1)
  show (x.cfg, x.harn, x.tc.st, x.guard.gateOn, x.stage.mode, x.pd.contract, x.pd.recov, x.pd.hrOrder, x.pd.flight, x.pd.swap,
    x.pd.powerSource, x.pd.dfp, (x.vconnOff.syncVconn.ctxOf .sop).ids, (x.vconnOff.syncVconn.ctxOf .sop1).rev) = _
  rw [hsop, hsop1]
  rfl

/-- The state that a Hard Reset leaves its port in, and the step that recovery begins with (R236, R237). -/
def Port.hrState : Tc :=
  if x.tc.st == .debugAccSrc || x.tc.st == .debugAccSnk then x.tc.st else if x.pd.attachSource then .attachedSrc else .attachedSnk
def Port.hrRecov : Recovery :=
  if x.pd.attachSource then (if x.swapVbusOff then .srcWait else .srcHold) else if x.swapVbusOff then .snkRise b else .snkFall b

theorem Port.hrState_pd (h : x.tc.st.pd = true) : x.hrState.pd = true := by
  unfold Port.hrState
  split
  · exact h
  · split <;> rfl

theorem Port.arm_resetView (i : Fin 12) (u : Use) (n : Nat) : (x.arm i u n).resetView = x.resetView := by
  unfold Port.resetView Port.ctxOf Port.arm Port.setTimer
  rfl

theorem Port.present_resetView (svc : Bool) : (x.present svc).resetView = x.resetView := by
  unfold Port.resetView Port.ctxOf Port.present
  rfl

/-- The port under a Hard Reset before it presents what its state does (R181, R222, R236). -/
def Port.hrDown (sent : Bool) : Port :=
  let y := ((x.hrContexts sent).disarmProtocol.stageHalt).gateOff b
  { y with
    pd := { Pd.reset with
            attachSource := x.pd.attachSource, powerSource := x.pd.attachSource, dfp := x.pd.attachSource, cable := x.pd.cable
            svids := x.pd.svids.filter (fun e => e.tgt1), svidOverflow := x.pd.svidOverflow
            lastTx := if x.pd.flight.isSome then some .reset else x.pd.lastTx, lastOut := x.pd.lastOut
            plugAt := x.pd.plugAt, discovered := true, hrSent := if sent then some b else none
            recovSwap := x.pd.swap.isSome || x.pd.recovSwap, recov := some (x.hrRecov b) }
    tc := { y.tc with vconnGiven := false, st := x.hrState }
    stage := { y.stage with runs := { y.stage.runs with sinkLow := 0 } } }

theorem Port.hardReset_eq (svc sent : Bool) (imax : Byte) (hdue : x.pd.hrDue = none) : x.hardReset svc b sent imax
    = if x.pd.attachSource then (if x.swapVbusOff then ((x.hrDown b sent).present svc).arm tPower .srcRecover (ms 800)
        else ((x.hrDown b sent).present svc).arm tPower .psHardReset (ms 30))
      else ((x.hrDown b sent).present svc).loseVconn imax := by
  unfold Port.hardReset Port.hrDown Port.hrState Port.hrRecov
  rw [hdue]
  rfl

theorem Port.hrDown_ctx (sent : Bool) : (x.hrDown b sent).ctx = (x.hrContexts sent).ctx := by
  unfold Port.hrDown Port.disarmProtocol Port.stageHalt Port.gateOff Port.disarm Port.setTimer
  rfl

theorem Port.hrDown_resetView (sent : Bool) :
    (x.hrDown b sent).resetView = (x.cfg, x.harn, x.hrState, false, .idle, Contract.none, some (x.hrRecov b), none, none, none,
      x.pd.attachSource, x.pd.attachSource, ((x.hrContexts sent).ctxOf .sop).ids, ((x.hrContexts sent).ctxOf .sop1).rev) := by
  have hctx (t : Tgt) : (x.hrDown b sent).ctxOf t = (x.hrContexts sent).ctxOf t := by
    unfold Port.ctxOf
    rw [Port.hrDown_ctx]
  unfold Port.resetView
  rw [hctx, hctx]
  generalize ((x.hrContexts sent).ctxOf .sop).ids = i
  generalize ((x.hrContexts sent).ctxOf .sop1).rev = r
  dsimp only [Port.hrDown, Port.disarmProtocol, Port.stageHalt, Port.gateOff, Port.disarm, Port.setTimer, Port.hrContexts, Port.modCtx, Port.mapCtx,
    Stage.halt, Pd.reset]

/-- The Policy Engine's Hard Reset starts recovery with the roles taken at attach; the contexts count one of the module's own. -/
theorem Port.hardReset_resetView (svc sent : Bool) (imax : Byte) (hdue : x.pd.hrDue = none) :
    (x.hardReset svc b sent imax).resetView = (x.hrDown b sent).resetView := by
  rw [Port.hardReset_eq x b svc sent imax hdue]
  split
  · split
    · rw [Port.arm_resetView, Port.present_resetView]
    · rw [Port.arm_resetView, Port.present_resetView]
  · rw [Port.loseVconn_resetView, Port.present_resetView]

end Sys2Proof.Machine
end


section
/-! Hard Reset signalling received, sent or given up: the clauses of O29 (R20, R176–R178). -/

namespace Sys2Proof.Machine

variable {s : State} {p : PortId}

/-! ### What the end of a port's work leaves for the reset -/

/-- What a Hard Reset takes over from the port it finds. -/
def Port.bond (x : Port) := (x.cfg, x.harn, x.tc.st, x.pd.attachSource, x.pd.hrDue, (x.ctxOf .sop).hrCnt)

theorem State.modPort_bond (s : State) (p q : PortId) {f : Port → Port} (h : ∀ x, (f x).bond = x.bond) :
    ((s.modPort p f).port q).bond = (s.port q).bond := by
  by_cases e : q = p
  · subst e; rw [State.port_modPort, h]
  · rw [State.port_modPort_ne s e]

theorem Port.modCtx_bond {t : Tgt} {f : Ctx → Ctx} (hf : ∀ c, (f c).ids = c.ids) (x : Port) : (x.modCtx t f).bond = x.bond := by
  have h : ((x.modCtx t f).ctxOf .sop).hrCnt = (x.ctxOf .sop).hrCnt := congrArg (fun r => r.2.2.2) (Port.ctxOf_ids x hf .sop)
  unfold Port.bond
  rw [h]
  rfl

theorem State.withdraw_port (s : State) (p q : PortId) : (s.withdraw p).port q = s.port q :=
  foldl_port q (fun (t : State) (d : Decision) => t.post 0xC3 p.val (closedPayload d.id d.point 3 0xFF s.board.beat))
    (fun _ _ => by simp) (s.policy.decisions.filter (fun d => d.port == p)) s

theorem State.endSwapReq_bond (s : State) (p q : PortId) (st r : Nat) : ((s.endSwapReq p st r).port q).bond = (s.port q).bond := by
  unfold State.endSwapReq
  split
  · rfl
  · rw [State.modPort_bond _ _ _ (by intro x; rfl), State.complete_port]

theorem State.endSend_bond (s : State) (p q : PortId) (st tx r : Nat) (d : List Byte) : ((s.endSend p st tx r d).port q).bond = (s.port q).bond := by
  unfold State.endSend
  split
  · rfl
  · rw [State.modPort_bond _ _ _ (by intro x; rfl), State.complete_port]

theorem State.endSoft_bond (s : State) (p q : PortId) (st tx a : Nat) : ((s.endSoft p st tx a).port q).bond = (s.port q).bond := by
  unfold State.endSoft
  split
  · rfl
  · rw [State.modPort_bond _ _ _ (by intro x; rfl), State.complete_port]

theorem State.endVdm_bond (s : State) (p q : PortId) (st r : Nat) (d : List Byte) : ((s.endVdm p st r d).port q).bond = (s.port q).bond := by
  unfold State.endVdm
  split
  · rfl
  · dsimp only
    refine (State.modPort_bond _ _ _ fun x => ?_).trans ?_
    · split
      · exact (Port.modCtx_bond (by intro c; rfl) _).trans rfl
      · rfl
    · split <;> simp

theorem State.endWork_bond (s : State) (p q : PortId) (st r : Nat) : ((s.endWork p st r).port q).bond = (s.port q).bond := by
  unfold State.endWork
  dsimp only
  rw [State.modPool_port, State.endVdm_bond, State.endVdm_bond, State.endSoft_bond, State.endSend_bond, State.endSwapReq_bond, State.withdraw_port]

theorem State.abortAttempt_bond (s : State) (p : PortId) : ((s.abortAttempt p).port p).bond = (s.port p).bond := by
  obtain ⟨f, hf⟩ := s.abortAttempt_port p
  rw [hf]
  rfl

theorem State.abortAttempt_faults (s : State) (p : PortId) : (s.abortAttempt p).faults = s.faults := by
  unfold State.abortAttempt State.discardWindow
  (repeat' split) <;> rfl

theorem State.abortAttempt_cores (s : State) (p : PortId) : (s.abortAttempt p).cores = s.cores := by
  unfold State.abortAttempt State.discardWindow
  (repeat' split) <;> rfl

/-! ### A Hard Reset of running firmware -/

theorem State.hardReset_runs (hfw : s.fw p = true) (sent : Bool) : ∃ r, s.hardReset p sent
    = (s.abortAttempt p).dropPort p 0 r fun x => x.hardReset (isService p) s.now sent (s.classOf x).header.cableImax :=
  ⟨_, if_pos hfw⟩

/-- The port after a Hard Reset that its firmware takes at once. -/
theorem State.hardReset_spec (hfw : s.fw p = true) (hdue : (s.port p).pd.hrDue = none) (sent : Bool) :
    ∃ x : Port, x.bond = (s.port p).bond ∧ ((s.hardReset p sent).port p).resetView
      = (x.cfg, x.harn, x.hrState, false, .idle, Contract.none, some (x.hrRecov s.now), none, none, none, x.pd.attachSource, x.pd.attachSource,
          ((x.hrContexts sent).ctxOf .sop).ids, ((x.hrContexts sent).ctxOf .sop1).rev) := by
  obtain ⟨r, he⟩ := State.hardReset_runs hfw sent
  have hbond : (((((s.abortAttempt p).endWork p 0 r).svcLeave p).port p)).bond = (s.port p).bond := by
    rw [State.svcLeave_port, State.endWork_bond, State.abortAttempt_bond]
  refine ⟨_, hbond, ?_⟩
  rw [he]
  unfold State.dropPort
  rw [State.updPort_resetView, Port.hardReset_resetView, Port.hrDown_resetView]
  simp only [Port.bond, Prod.mk.injEq] at hbond
  obtain ⟨-, -, -, -, hd, -⟩ := hbond
  exact hd.trans hdue

theorem State.hardReset_faults (hfw : s.fw p = true) (sent : Bool) : (s.hardReset p sent).faults = s.faults := by
  obtain ⟨r, he⟩ := State.hardReset_runs hfw sent
  rw [he, State.dropPort_faults, State.abortAttempt_faults]

theorem State.hardReset_cores (hfw : s.fw p = true) (sent : Bool) : (s.hardReset p sent).cores = s.cores := by
  obtain ⟨r, he⟩ := State.hardReset_runs hfw sent
  rw [he, State.cores_of_rest (State.dropPort_rest ..), State.abortAttempt_cores]

theorem hardReset_received (hpd : (s.port p).tc.st.pd = true) (hsend : (s.port p).hrSending s.now = false) (hfw : s.fw p = true)
    (hdue : (s.port p).pd.hrDue = none) :
    gives (.hardResetReceived p) s fun t => (t.port p).pd.contract = Contract.none
      ∧ (t.port p).pd.recov.isSome = true
      ∧ (t.port p).pd.hrOrder = none
      ∧ (t.port p).pd.flight = none
      ∧ (t.port p).pd.swap = none
      ∧ (t.port p).pd.powerSource = (s.port p).pd.attachSource
      ∧ (t.port p).pd.dfp = (s.port p).pd.attachSource
      ∧ (t.port p).guard.gateOn = false
      ∧ (t.port p).stage.mode = .idle
      ∧ ((t.port p).ctxOf .sop).txId = 0
      ∧ ((t.port p).ctxOf .sop).rxValid = false
      ∧ ((t.port p).ctxOf .sop).rev = 0
      ∧ ((t.port p).ctxOf .sop).hrCnt = ((s.port p).ctxOf .sop).hrCnt
      ∧ ((t.port p).ctxOf .sop1).rev = 0
      ∧ (t.port p).tc.st.pd = true
      ∧ t.faults = s.faults
      ∧ t.cores = s.cores
      ∧ (t.port p).cfg = (s.port p).cfg
      ∧ (t.port p).harn = (s.port p).harn := by
  refine gives_of_exec (t := s.hardReset p false) (congrArg Host.Outcome.next (if_pos (by rw [hpd, hsend]; rfl))) ?_
  obtain ⟨x, hbond, hview⟩ := State.hardReset_spec hfw hdue false
  simp only [Port.bond, Prod.mk.injEq] at hbond
  obtain ⟨hcfg, hharn, hst, hsrc, -, hcnt⟩ := hbond
  rw [Port.hrContexts_sop, Port.hrContexts_sop1, if_neg Bool.false_ne_true, hcfg, hharn, hsrc, hcnt] at hview
  simp only [Port.resetView, Ctx.ids, Prod.mk.injEq] at hview
  obtain ⟨vcfg, vharn, vst, vgate, vmode, vcontract, vrecov, vorder, vflight, vswap, vsource, vdfp, ⟨vid, vvalid, vrev, vcnt⟩, vrev1⟩ := hview
  exact ⟨vcontract, by rw [vrecov]; rfl, vorder, vflight, vswap, vsource, vdfp, vgate, vmode, vid, vvalid, vrev, vcnt, vrev1,
    by rw [vst]; exact Port.hrState_pd x (hst ▸ hpd), State.hardReset_faults hfw false, State.hardReset_cores hfw false, vcfg, vharn⟩

theorem hardReset_own (hsend : (s.port p).hrSending s.now = true) : exec (.hardResetReceived p) s = .next s :=
  congrArg Host.Outcome.next (if_neg (by rw [hsend]; simp))

/-- What every Hard Reset of the module's own shows, once its line's state is noted. -/
theorem State.hardReset_sent (hfw : s.fw p = true) (hdue : (s.port p).pd.hrDue = none) :
    ((s.hardReset p true).port p).pd.contract = Contract.none ∧ ((s.hardReset p true).port p).pd.recov.isSome = true
      ∧ ((s.hardReset p true).port p).pd.hrOrder = none ∧ ((s.hardReset p true).port p).pd.powerSource = (s.port p).pd.attachSource
      ∧ ((s.hardReset p true).port p).guard.gateOn = false ∧ ((s.hardReset p true).port p).stage.mode = .idle
      ∧ (((s.hardReset p true).port p).ctxOf .sop).hrCnt = min 2 (((s.port p).ctxOf .sop).hrCnt + 1)
      ∧ (((s.hardReset p true).port p).ctxOf .sop).txId = 0 ∧ ((s.hardReset p true).port p).cfg = (s.port p).cfg := by
  obtain ⟨x, hbond, hview⟩ := State.hardReset_spec hfw hdue true
  simp only [Port.bond, Prod.mk.injEq] at hbond
  obtain ⟨hcfg, -, -, hsrc, -, hcnt⟩ := hbond
  rw [Port.hrContexts_sop, Port.hrContexts_sop1, if_pos rfl, hcfg, hsrc, hcnt] at hview
  simp only [Port.resetView, Ctx.ids, Prod.mk.injEq] at hview
  obtain ⟨vcfg, -, -, vgate, vmode, vcontract, vrecov, vorder, -, -, vsource, -, ⟨vid, -, -, vcnt⟩, -⟩ := hview
  exact ⟨vcontract, by rw [vrecov]; rfl, vorder, vsource, vgate, vmode, vcnt, vid, vcfg⟩

theorem hardReset_sends {idle : Nat} (horder : (s.port p).pd.hrOrder ≠ none) (hidle : 100 ≤ idle) (hfw : s.fw p = true)
    (hline : 84 ≤ (s.port p).sinceLine) (htx : (s.port p).transmits s.now = false) (hdue : (s.port p).pd.hrDue = none) :
    gives (.hardResetSend p idle) s fun t => (t.port p).pd.contract = Contract.none
      ∧ (t.port p).pd.recov.isSome = true
      ∧ (t.port p).pd.hrOrder = none
      ∧ (t.port p).pd.powerSource = (s.port p).pd.attachSource
      ∧ (t.port p).guard.gateOn = false
      ∧ (t.port p).stage.mode = .idle
      ∧ ((t.port p).ctxOf .sop).hrCnt = min 2 (((s.port p).ctxOf .sop).hrCnt + 1)
      ∧ ((t.port p).ctxOf .sop).txId = 0
      ∧ t.faults = s.faults
      ∧ (t.port p).cfg = (s.port p).cfg := by
  have he : exec (.hardResetSend p idle) s
      = .next ((s.hardReset p true).modPort p fun x => { x with pd := { x.pd with onLine := some (s.now, 84) } }) := by
    refine congrArg Host.Outcome.next (if_pos ?_)
    unfold Port.gapMet
    rw [Option.isSome_iff_ne_none.mpr horder, decide_eq_true hidle, decide_eq_true hline, htx]
    rfl
  obtain ⟨hc, hr, ho, hs, hg, hm, hcnt, hid, hcfg⟩ := State.hardReset_sent hfw hdue
  refine gives_of_exec he ?_
  rw [State.port_modPort]
  exact ⟨hc, hr, ho, hs, hg, hm, hcnt, hid, State.hardReset_faults hfw true, hcfg⟩

theorem hardReset_givenUp {b0 : Beat} (horder : (s.port p).pd.hrOrder = some b0) (hlate : 1125 ≤ Beat.since s.now b0) (hfw : s.fw p = true)
    (hdue : (s.port p).pd.hrDue = none) :
    gives (.hrTimeout p) s fun t => (t.port p).pd.contract = Contract.none
      ∧ (t.port p).pd.recov.isSome = true
      ∧ (t.port p).pd.hrOrder = none
      ∧ (t.port p).guard.gateOn = false
      ∧ ((t.port p).ctxOf .sop).hrCnt = min 2 (((s.port p).ctxOf .sop).hrCnt + 1) := by
  have he : exec (.hrTimeout p) s = .next ((s.hardReset p true).modPort p fun x => { x with pd := { x.pd with hrSent := none } }) := by
    show execHrTimeout p s = _
    unfold execHrTimeout
    rw [horder]
    exact congrArg Host.Outcome.next (if_pos ⟨hfw, hlate⟩)
  obtain ⟨hc, hr, ho, -, hg, -, hcnt, -⟩ := State.hardReset_sent hfw hdue
  refine gives_of_exec he ?_
  rw [State.port_modPort]
  exact ⟨hc, hr, ho, hg, hcnt⟩

theorem hardReset_waits {b0 : Beat} (horder : (s.port p).pd.hrOrder = some b0) (hearly : Beat.since s.now b0 < 1125) :
    exec (.hrTimeout p) s = .next s := by
  show execHrTimeout p s = _
  unfold execHrTimeout
  rw [horder]
  exact congrArg Host.Outcome.next (if_neg fun h => absurd h.2 (Nat.not_le.mpr hearly))

/-! ### Received while the firmware is stopped -/

/-- What the messages that are dropped leave of a port: the connection, the stage, the guard, the contract. -/
def Port.reach (x : Port) := (x.tc, x.stage, x.guard, x.pd.contract)

theorem State.modPort_reach (s : State) (p : PortId) {f : Port → Port} (h : ∀ x, (f x).reach = x.reach) :
    ((s.modPort p f).port p).reach = (s.port p).reach := by
  rw [State.port_modPort, h]

theorem Port.reach_of_sans {x y : Port} (h : x.sans = y.sans) : x.reach = y.reach := by
  unfold Port.reach
  rw [Port.tc_of_sans h, Port.stage_of_sans h, Port.guard_of_sans h, Pd.contract_of_terms (Port.terms_of_sans h)]

theorem State.killTx_reach (s : State) (p : PortId) (only : Tgt → Bool) (r : TxResult) : ((s.killTx p only r).port p).reach = (s.port p).reach := by
  unfold State.killTx
  dsimp only
  rw [Port.reach_of_sans (State.loadFlight_sans ..), State.modPort_reach _ _ (by intro x; rfl), State.modPool_port]
  split
  · split
    · exact State.modPort_reach _ _ fun x => by split <;> rfl
    · rfl
  · rfl

/-- With nothing in flight and none of its messages closed in the queue, the PHY takes none. -/
theorem State.loadFlight_nothing {s : State} {p : PortId} (hf : (s.port p).pd.flight = none)
    (hq : (s.pool.queues[qTx (clusterOf p)]).closed.find? (carriesTx p) = none) : s.loadFlight p = s := by
  unfold State.loadFlight
  rw [hf, hq]
  rfl

theorem Pool.purgeTx_find (m : Pool) (p : PortId) :
    ((m.purgeTx p fun _ => true).queues[qTx (clusterOf p)]).closed.find? (carriesTx p) = none := by
  have hq : ((m.purgeTx p fun _ => true).queues[qTx (clusterOf p)]).closed = (m.queues[qTx (clusterOf p)]).closed.filter fun k => match k.carried with
      | .tx p' _ _ => !(p' == p && true)
      | _ => true := by
    unfold Pool.purgeTx Pool.modQ
    simp <;> rfl
  rw [hq, List.find?_eq_none]
  intro k hk
  have hkeep := (List.mem_filter.mp hk).2
  unfold carriesTx
  cases hc : k.carried with
  | tx q t why => rw [hc] at hkeep; simpa using hkeep
  | _ => simp

/-- A port with nothing in flight, whose messages leave the queue, has nothing in flight. -/
theorem State.purge_flight {u : State} {g : Port → Port} (hf : (u.port p).pd.flight = none) (hg : ∀ x, (g x).pd.flight = x.pd.flight) :
    ((((u.modPool fun m => m.purgeTx p fun _ => true).modPort p g).loadFlight p).port p).pd.flight = none := by
  have hv : (((u.modPool fun m => m.purgeTx p fun _ => true).modPort p g).port p).pd.flight = none := by
    rw [State.port_modPort, hg, State.modPool_port, hf]
  rw [State.loadFlight_nothing hv (Pool.purgeTx_find u.pool p), hv]

/-- Every message of the port ended, none is in flight. -/
theorem State.killTx_flight (s : State) (p : PortId) (r : TxResult) : ((s.killTx p (fun _ => true) r).port p).pd.flight = none := by
  unfold State.killTx
  dsimp only
  refine State.purge_flight ?_ (by intro x; rfl)
  split
  · rw [if_pos rfl, State.port_modPort]
  · assumption

theorem hardReset_stopped (hpd : (s.port p).tc.st.pd = true) (hsend : (s.port p).hrSending s.now = false) (hfw : s.fw p = false) :
    gives (.hardResetReceived p) s fun t => (t.port p).pd.hrDue.isSome = true
      ∧ (t.port p).pd.hrOrder = none
      ∧ (t.port p).pd.flight = none
      ∧ ((t.port p).ctxOf .sop).txId = 0
      ∧ ((t.port p).ctxOf .sop).rxValid = false
      ∧ ((t.port p).ctxOf .sop1).rev = 0
      ∧ (t.port p).pd.contract = (s.port p).pd.contract
      ∧ (t.port p).guard.gateOn = (s.port p).guard.gateOn
      ∧ (t.port p).tc = (s.port p).tc
      ∧ (t.port p).stage = (s.port p).stage := by
  have he : exec (.hardResetReceived p) s = .next (s.hardReset p false) := congrArg Host.Outcome.next (if_pos (by rw [hpd, hsend]; rfl))
  refine gives_of_exec he ?_
  unfold State.hardReset
  dsimp only
  rw [if_neg (by rw [hfw]; exact Bool.false_ne_true), State.port_modPort]
  have hflight := State.killTx_flight (s.abortAttempt p) p .reset
  have hreach : (((s.abortAttempt p).killTx p (fun _ => true) .reset).port p).reach = (s.port p).reach := by
    obtain ⟨f, hf⟩ := s.abortAttempt_port p
    rw [State.killTx_reach, hf]
    rfl
  generalize ((s.abortAttempt p).killTx p (fun _ => true) .reset).port p = x at hflight hreach
  have hsop := Port.hrContexts_sop x false
  have hsop1 := Port.hrContexts_sop1 x false
  simp only [Ctx.ids, Prod.mk.injEq] at hsop
  simp only [Port.reach, Prod.mk.injEq] at hreach
  obtain ⟨hid, hvalid, -⟩ := hsop
  obtain ⟨htc, hstage, hguard, hcontract⟩ := hreach
  exact ⟨rfl, rfl, hflight, hid, hvalid, hsop1, hcontract, congrArg Guard.gateOn hguard, htc, hstage⟩

end Sys2Proof.Machine
end

section
/-! O29, settled. -/

namespace Sys2Proof
open Machine

/-- Settles O29: a Hard Reset is the end of the port's work, then `Port.hardReset`, whichever way it came. -/
theorem hardResets : Obligations.HardResets := by
  unfold Obligations.HardResets
  exact ⟨fun p s => hardReset_received, fun p s => hardReset_stopped, fun p s => hardReset_own, fun p idle s => hardReset_sends,
    fun p b0 s => hardReset_givenUp, fun p b0 s => hardReset_waits⟩

end Sys2Proof
end


section
/-! What the end of a message and a Soft_Reset leave of a port (R164–R168, R180, R181). -/

namespace Sys2Proof.Machine

variable {s : State} {p : PortId}

/-! ### A port through its messages -/

/-- What the end of messages leaves of a port: its state, stage and contract, and the failures counted on SOP. -/
def Port.lull (x : Port) := (x.tc.st, x.stage, x.pd.contract, (x.ctxOf .sop).txFails)

theorem State.modPort_lull (s : State) (p q : PortId) {f : Port → Port} (h : ∀ x, (f x).lull = x.lull) :
    ((s.modPort p f).port q).lull = (s.port q).lull := by
  by_cases e : q = p
  · subst e; rw [State.port_modPort, h]
  · rw [State.port_modPort_ne s e]

theorem Port.modCtx_lull (x : Port) (t : Tgt) {f : Ctx → Ctx} (hf : ∀ c, (f c).txFails = c.txFails) : (x.modCtx t f).lull = x.lull := by
  have h : ((x.modCtx t f).ctxOf .sop).txFails = (x.ctxOf .sop).txFails := by
    by_cases e : Tgt.sop = t
    · rw [← e, Port.ctxOf_modCtx_same, hf]
    · rw [Port.ctxOf_modCtx_ne x e]
  unfold Port.lull
  rw [h]
  rfl

theorem Port.lull_of_sans {x y : Port} (h : x.sans = y.sans) : x.lull = y.lull := by
  unfold Port.lull Port.ctxOf
  rw [Port.tc_of_sans h, Port.stage_of_sans h, Pd.contract_of_terms (Port.terms_of_sans h), Port.ctx_of_sans h]

theorem State.endSend_lull (s : State) (p q : PortId) (st tx r : Nat) (d : List Byte) : ((s.endSend p st tx r d).port q).lull = (s.port q).lull := by
  unfold State.endSend
  split
  · rfl
  · rw [State.modPort_lull _ _ _ (by intro x; rfl), State.complete_port]

theorem State.endSoft_lull (s : State) (p q : PortId) (st tx a : Nat) : ((s.endSoft p st tx a).port q).lull = (s.port q).lull := by
  unfold State.endSoft
  split
  · rfl
  · rw [State.modPort_lull _ _ _ (by intro x; rfl), State.complete_port]

theorem State.endVdm_lull (s : State) (p q : PortId) (st r : Nat) (d : List Byte) : ((s.endVdm p st r d).port q).lull = (s.port q).lull := by
  unfold State.endVdm
  split
  · rfl
  · dsimp only
    refine (State.modPort_lull _ _ _ fun x => ?_).trans ?_
    · split
      · exact (Port.modCtx_lull _ _ (by intro c; rfl)).trans rfl
      · rfl
    · split <;> simp

theorem State.killTx_lull (s : State) (p : PortId) (only : Tgt → Bool) (r : TxResult) : ((s.killTx p only r).port p).lull = (s.port p).lull := by
  unfold State.killTx
  dsimp only
  rw [Port.lull_of_sans (State.loadFlight_sans ..), State.modPort_lull _ _ _ (by intro x; rfl), State.modPool_port]
  split
  · split
    · refine State.modPort_lull _ _ _ fun x => ?_
      split
      · exact (show _ = (x.modCtx _ Ctx.sent).lull from rfl).trans (Port.modCtx_lull x _ (by intro c; rfl))
      · rfl
    · rfl
  · rfl

theorem Port.endOwn_lull (x : Port) : x.endOwn.lull = x.lull := by
  unfold Port.endOwn Port.refreshRp Port.lull Port.ctxOf
  rfl

theorem Port.endSinkTx_lull (b : Beat) (x : Port) : (x.endSinkTx b).lull = x.lull := by
  unfold Port.endSinkTx Port.freeCaps
  (repeat' split) <;> rfl

theorem State.withdraw_lull (s : State) (p q : PortId) : ((s.withdraw p).port q).lull = (s.port q).lull := by rw [State.withdraw_port]

theorem State.softQuiet_lull (s : State) (p : PortId) : ((s.softQuiet p).port p).lull = (s.port p).lull := by
  unfold State.softQuiet
  dsimp only
  refine (State.modPort_lull _ _ _ fun x => ?_).trans ?_
  · have h : (Port.endSinkTx s.now ((Port.endOwn { x with pd := { x.pd with start := none } }).disarm tResponse)).lull = x.lull :=
      (Port.endSinkTx_lull _ _).trans (Port.endOwn_lull _)
    generalize Port.endSinkTx s.now _ = z at h ⊢
    unfold Port.lull Port.ctxOf at h ⊢
    exact h
  · have hvdm (u : State) : ((match (u.port p).pd.vdm with
        | some r => if r.tgt == Tgt.sop && r.sent then u.endVdm p 0 4 [] else u
        | none => u : State).port p).lull = (u.port p).lull := by
      split
      · split
        · exact State.endVdm_lull ..
        · rfl
      · rfl
    have hsoft (u : State) : ((match (u.port p).pd.soft with
        | some h => if h.tgt == .sop then u.endSoft p 0 (HostSend.endCode (some h)) 0 else u
        | none => u : State).port p).lull = (u.port p).lull := by
      split
      · split
        · exact State.endSoft_lull ..
        · rfl
      · rfl
    exact (hsoft _).trans ((hvdm _).trans ((State.endSend_lull ..).trans (State.withdraw_lull ..)))

/-- A Soft_Reset on SOP: it is queued, the context starts afresh, and the contract and the failures counted stay (R180, R181). -/
theorem State.sendSoft_sop (s : State) (p : PortId) :
    ((s.sendSoft p .sop).port p).lull = (s.port p).lull ∧ ((s.sendSoft p .sop).port p |>.ctxOf .sop).txId = 0
      ∧ (s.sendSoft p .sop).txWaits p .sop (ctlMsg 13) = true := by
  unfold State.sendSoft
  dsimp only
  rw [if_pos (show (Tgt.sop == Tgt.sop) = true from rfl), if_pos (show (Tgt.sop == Tgt.sop) = true from rfl)]
  have hcalm := (State.softQuiet_lull (s.killTx p (fun u => u == Tgt.sop) .reset) p).trans (State.killTx_lull ..)
  generalize (s.killTx p (fun u => u == Tgt.sop) .reset).softQuiet p = u at hcalm
  generalize hv : u.modPort p _ = v
  have hport : v.port p = { ((u.port p).modCtx .sop Ctx.soft).disarm (respTimer .sop) with
      pd := { (((u.port p).modCtx .sop Ctx.soft).disarm (respTimer .sop)).pd with ownAms := true } } := by
    rw [← hv, State.port_modPort]
    exact if_pos rfl
  have hctx : (v.port p).ctxOf .sop = Ctx.soft ((u.port p).ctxOf .sop) := by
    rw [hport]
    exact Port.ctxOf_modCtx_same (u.port p) .sop Ctx.soft
  have hsans := State.queueTx_sans v p p .sop .softReset (ctlMsg 13)
  refine ⟨?_, ?_, State.queueTx_waits ..⟩
  · refine (Port.lull_of_sans hsans).trans (Eq.trans ?_ hcalm)
    unfold Port.lull
    rw [hctx, hport]
    rfl
  · unfold Port.ctxOf at hctx ⊢
    rw [Port.ctx_of_sans hsans, hctx]
    rfl

/-! ### The message in flight ends -/

/-- The end of a message in flight, as its port's Policy Engine and contexts see it (R164, R167). -/
def Port.txEnded (f : Flight) (r : TxResult) (x : Port) : Port :=
  let y := if 0 < f.attempts then x.modCtx f.tgt Ctx.sent else x
  let z := if r == .fail then y.modCtx f.tgt (fun c => { c with txFails := satIncr c.txFails }) else y
  { z with pd := { z.pd with flight := none, first := false, lastTx := some r } }

theorem State.txEnd_sans {f : Flight} (hf : (s.port p).pd.flight = some f) (r : TxResult) :
    ((s.txEnd p r).port p).sans = ((s.port p).txEnded f r).sans := by
  unfold State.txEnd
  rw [hf]
  dsimp only
  rw [State.loadFlight_sans, State.port_modPort, State.modPool_port]
  rfl

/-- The next message taken up does not touch the result of the last. -/
theorem State.loadFlight_lastTx (s : State) (p : PortId) : ((s.loadFlight p).port p).pd.lastTx = (s.port p).pd.lastTx := by
  unfold State.loadFlight
  split
  · rfl
  · split
    · split
      · rw [State.port_modPort]
      · rfl
    · rfl

theorem State.txEnd_lastTx {f : Flight} (hf : (s.port p).pd.flight = some f) (r : TxResult) : ((s.txEnd p r).port p).pd.lastTx = some r := by
  unfold State.txEnd
  rw [hf]
  dsimp only
  rw [State.loadFlight_lastTx, State.port_modPort]

theorem Port.txEnded_ctx {x : Port} {f : Flight} {r : TxResult} (ha : 0 < f.attempts) : (x.txEnded f r).ctxOf f.tgt
    = if r == .fail then { (x.ctxOf f.tgt).sent with txFails := satIncr (x.ctxOf f.tgt).txFails } else (x.ctxOf f.tgt).sent := by
  have h : (x.txEnded f r).ctxOf f.tgt = ((if r == .fail then (x.modCtx f.tgt Ctx.sent).modCtx f.tgt (fun c => { c with txFails := satIncr c.txFails })
      else x.modCtx f.tgt Ctx.sent).ctxOf f.tgt) := by
    unfold Port.txEnded
    dsimp only
    rw [if_pos ha]
    rfl
  rw [h]
  split
  · rw [Port.ctxOf_modCtx_same, Port.ctxOf_modCtx_same]
    rfl
  · exact Port.ctxOf_modCtx_same ..

theorem Port.txEnded_eq (x : Port) (f : Flight) (r : TxResult) :
    ∃ c, x.txEnded f r = { x with ctx := c, pd := { x.pd with flight := none, first := false, lastTx := some r } } := by
  unfold Port.txEnded
  dsimp only
  split <;> split <;> exact ⟨_, rfl⟩

end Sys2Proof.Machine
end


section
/-! Transmit attempts and their results: the clauses of O28 (R159, R162–R168). -/

namespace Sys2Proof.Machine

variable {s : State} {p : PortId} {f : Flight}

/-! ### An attempt starts -/

/-- The claim of the sampler touches the calibration of the CC lines alone. -/
theorem State.claimSampler_port (s : State) (p : PortId) : ∃ y, (s.claimSampler p).port p = { s.port p with phy := y } := by
  unfold State.claimSampler
  split
  · exact ⟨_, rfl⟩
  · dsimp only
    split
    · exact ⟨_, rfl⟩
    · split
      · exact ⟨_, State.port_modPort ..⟩
      · split
        · rename_i q _ hge hlt
          have hne : p ≠ q := by rintro rfl; exact lt_irrefl _ hlt
          exact ⟨(s.port p).phy, by rw [State.modCluster_port, State.port_modPort_ne s hne]⟩
        · exact ⟨_, rfl⟩

theorem State.claimSampler_pool (s : State) (p : PortId) : (s.claimSampler p).pool = s.pool := by
  unfold State.claimSampler
  dsimp only
  (repeat' split) <;> rfl

theorem attempt_starts (idle : Nat) (hf : (s.port p).pd.flight = some f) (hmay : (s.port p).mayTransmit s.now idle = true) :
    gives (.txAttemptStart p idle) s fun t => (t.port p).pd = { (s.port p).pd with first := false, flight := some { f with attempts := f.attempts + 1, onWire := true, begun := s.now }, onLine := some (s.now, f.bits), unsent := (if f.tgt == .sop && (f.why == .sourceCaps || f.why == .capsReply || f.why == .chunk) then none else (s.port p).pd.unsent), lastOut := some (f.tgt, wireHeader (s.port p) f.tgt ((s.port p).ctxOf f.tgt).txId (rdNat f.packet.data 0 2) ++ f.packet.data.drop 2) }
      ∧ (t.port p).ctx = (s.port p).ctx
      ∧ (t.port p).timers = (s.port p).timers
      ∧ t.pool = s.pool
      ∧ (t.port p).tc = (s.port p).tc := by
  refine gives_of_exec (congrArg Host.Outcome.next (if_pos hmay)) ?_
  rw [State.port_modPort, State.modPort_pool, State.claimSampler_pool]
  obtain ⟨y, hy⟩ := s.claimSampler_port p
  rw [hy]
  dsimp only
  rw [hf]
  exact ⟨rfl, rfl, rfl, rfl, rfl⟩

/-! ### The message in flight leaves its queue -/

theorem filterMap_dropFirst {α : Type} {g : Packet → Option α} {c : Packet → Bool} (hg : ∀ k, (g k).isSome = c k) (l : List Packet) :
    (dropFirst c l).filterMap g = (l.filterMap g).tail := by
  induction l with
  | nil => rfl
  | cons k ks ih =>
    unfold dropFirst
    have hk := hg k
    cases hc : c k with
    | true =>
      obtain ⟨a, ha⟩ := Option.isSome_iff_exists.mp (hk.trans hc)
      rw [if_pos rfl, List.filterMap_cons_some ha, List.tail_cons]
    | false =>
      have hnone := Option.isSome_eq_false_iff.mp (hk.trans hc)
      rw [Option.isNone_iff_eq_none] at hnone
      rw [if_neg Bool.false_ne_true, List.filterMap_cons_none hnone, List.filterMap_cons_none hnone, ih]

theorem find_none_of_filterMap {α : Type} {g : Packet → Option α} {c : Packet → Bool} (hg : ∀ k, (g k).isSome = c k) {l : List Packet}
    (h : l.filterMap g = []) : l.find? c = none := by
  rw [List.find?_eq_none]
  intro k hk
  rw [← hg k, List.filterMap_eq_nil_iff.mp h k hk]
  exact Bool.false_ne_true

/-- The message in flight leaves its queue, and the next one is taken up (R164). -/
theorem State.txEnd_eq (hf : (s.port p).pd.flight = some f) (r : TxResult) :
    s.txEnd p r = ((s.modPool fun m => m.modQ (qTx (clusterOf p)) fun q => { q with closed := dropFirst (carriesTx p) q.closed }).modPort p
      (Port.txEnded f r)).loadFlight p := by
  unfold State.txEnd
  rw [hf]
  rfl

theorem Port.txEnded_pd (x : Port) (f : Flight) (r : TxResult) : (x.txEnded f r).pd = { x.pd with flight := none, first := false, lastTx := some r } := by
  obtain ⟨c, hc⟩ := x.txEnded_eq f r
  rw [hc]

theorem State.txEnd_cores (hf : (s.port p).pd.flight = some f) (r : TxResult) : (s.txEnd p r).cores = s.cores := by
  rw [State.txEnd_eq hf]
  unfold State.loadFlight
  (repeat' split) <;> rfl

/-- The message in flight was the only one: nothing is taken up after it. -/
theorem State.txEnd_only {e : Tgt × Purpose} (hf : (s.port p).pd.flight = some f) (hheld : (s.port p).pd.held = [])
    (hone : (s.txPending p fun _ => true) = [e]) (r : TxResult) :
    (s.txEnd p r).port p = (s.port p).txEnded f r ∧ ((s.txEnd p r).txPending p fun _ => true) = [] := by
  have hsome (k : Packet) : (match k.carried with
      | .tx q t why => if q == p && true then some (t, why) else none
      | _ => none : Option (Tgt × Purpose)).isSome = carriesTx p k := by
    unfold carriesTx
    cases k.carried with
    | tx q t why => dsimp only; cases q == p <;> rfl
    | _ => rfl
  unfold State.txPending at hone
  rw [hheld, List.append_nil] at hone
  have hrest := (filterMap_dropFirst hsome (s.pool.queues[qTx (clusterOf p)]).closed).trans (congrArg List.tail hone)
  have hq : ((s.modPool fun m => m.modQ (qTx (clusterOf p)) fun q => { q with closed := dropFirst (carriesTx p) q.closed }).pool.queues[qTx (clusterOf p)]).closed
      = dropFirst (carriesTx p) (s.pool.queues[qTx (clusterOf p)]).closed := by
    unfold State.modPool Pool.modQ
    simp
  rw [State.txEnd_eq hf, State.loadFlight_nothing (by rw [State.port_modPort, Port.txEnded_pd])
    (by rw [State.modPort_pool, hq]; exact find_none_of_filterMap hsome hrest)]
  refine ⟨State.port_modPort .., ?_⟩
  unfold State.txPending
  rw [State.port_modPort, State.modPort_pool, hq, Port.txEnded_pd, State.modPool_port, hheld, List.append_nil]
  exact hrest

/-! ### The GoodCRC of a message (R162–R164) -/

/-- A message of no sequence is over with its end: nothing of the port's own waits behind it. -/
theorem State.partnerDone_idle (hstart : (s.port p).pd.start = none) (hvdm : (s.port p).pd.vdm = none) :
    s.partnerDone p = s.modPort p fun x => { x with pd := { x.pd with partnerAms := false } } := by
  unfold State.partnerDone State.kick
  dsimp only
  rw [if_neg (by rw [hstart]; exact Bool.false_ne_true), State.port_modPort]
  rw [hvdm]

theorem State.afterTx_plug {t : Tgt} (ht : t ≠ .sop) (r : TxResult) : s.afterTx p t .plain r = s := by
  unfold State.afterTx State.afterMsg
  exact if_pos (bne_iff_ne.mpr ht)

/-- A message of no sequence for a plug asks nothing of the firmware, whether it runs or not. -/
theorem State.txDone_plug {t : Tgt} (ht : t ≠ .sop) (r : TxResult) :
    ∃ l, ((s.txDone p t .plain r).port p) = { s.port p with pd := { (s.port p).pd with ended := l } } := by
  unfold State.txDone
  split
  · rw [State.afterTx_plug ht]
    exact ⟨_, rfl⟩
  · exact ⟨_, State.port_modPort ..⟩

theorem goodCrc_ends (cp : Bool) (hf : (s.port p).pd.flight = some f) (htgt : f.tgt = .sop) (hwhy : f.why = .plain) (hwire : f.onWire = true)
    (hsend : (s.port p).transmits s.now = false) (hatt : 0 < f.attempts) (hheld : (s.port p).pd.held = [])
    (hone : (s.txPending p fun _ => true) = [(f.tgt, f.why)]) (hstart : (s.port p).pd.start = none) (hvdm : (s.port p).pd.vdm = none)
    (hfw : s.fw p = true) :
    gives (.goodcrcReceived p f.tgt ⟨((s.port p).ctxOf f.tgt).txId, cp⟩) s fun t => (t.port p).pd = { (s.port p).pd with flight := none, first := false, lastTx := some .ok, partnerAms := false }
      ∧ ((t.port p).ctxOf .sop).txId = ((s.port p).ctxOf .sop).txId + 1
      ∧ t.txIdle p = true
      ∧ (t.port p).timers = (s.port p).timers
      ∧ (t.port p).tc = (s.port p).tc
      ∧ (t.port p).stage = (s.port p).stage := by
  obtain ⟨hport, hnone⟩ := State.txEnd_only hf hheld hone .ok
  have hcores := State.txEnd_cores hf .ok
  have hgot : s.gotGoodCrc p f.tgt ((s.port p).ctxOf f.tgt).txId = (s.txEnd p .ok).modPort p fun x => { x with pd := { x.pd with partnerAms := false } } := by
    unfold State.gotGoodCrc
    rw [hf]
    dsimp only
    rw [if_pos (by simp [hwire, hsend]), if_pos (beq_iff_eq.mpr htgt)]
    have hfw' : (s.txEnd p .ok).fw p = true := (congrArg (fun v : Vector CoreSt 9 => !(v[coreOf p]).stopped) hcores).trans hfw
    unfold State.txDone
    rw [if_pos hfw', hwhy, htgt]
    exact State.partnerDone_idle (by rw [hport, Port.txEnded_pd]; exact hstart) (by rw [hport, Port.txEnded_pd]; exact hvdm)
  have he : exec (.goodcrcReceived p f.tgt ⟨((s.port p).ctxOf f.tgt).txId, cp⟩) s
      = .next ((s.txEnd p .ok).modPort p fun x => { x with pd := { x.pd with partnerAms := false } }) :=
    (congrArg Host.Outcome.next (if_pos (by rw [htgt]; rfl))).trans (congrArg Host.Outcome.next hgot)
  refine gives_of_exec he ?_
  have hid : ((s.port p).txEnded f .ok).ctxOf .sop = ((s.port p).ctxOf .sop).sent := by
    have h := Port.txEnded_ctx (x := s.port p) (r := .ok) hatt
    rw [htgt] at h
    exact h
  generalize s.txEnd p .ok = u at hport hnone
  obtain ⟨c, hc⟩ := (s.port p).txEnded_eq f .ok
  have hidle : (u.modPort p fun x => { x with pd := { x.pd with partnerAms := false } }).txIdle p = true := by
    have hp : ((u.modPort p fun x => { x with pd := { x.pd with partnerAms := false } }).txPending p fun _ => true) = [] := by
      unfold State.txPending at hnone ⊢
      rw [State.port_modPort]
      exact hnone
    unfold State.txIdle
    rw [hp, State.port_modPort, hport, Port.txEnded_pd]
    dsimp only
    rw [hheld]
    rfl
  rw [State.port_modPort, hport]
  refine ⟨?_, ?_, hidle, ?_⟩
  · dsimp only
    rw [Port.txEnded_pd]
  · unfold Port.ctxOf at hid ⊢
    dsimp only
    rw [hid]
    rfl
  · rw [hc]
    exact ⟨rfl, rfl, rfl⟩

theorem goodCrc_plug (hf : (s.port p).pd.flight = some f) (htgt : f.tgt ≠ .sop) (hwhy : f.why = .plain) (hwire : f.onWire = true)
    (hsend : (s.port p).transmits s.now = false) (hatt : 0 < f.attempts) (hok : ((s.port p).ctxOf f.tgt).vconnOk = true) :
    gives (.goodcrcReceived p f.tgt ⟨((s.port p).ctxOf f.tgt).txId, true⟩) s fun t => (t.port p).pd.lastTx = some .ok
      ∧ (t.port p).pd.plugAt = some s.now
      ∧ ((t.port p).ctxOf f.tgt).txId = ((s.port p).ctxOf f.tgt).txId + 1
      ∧ (t.port p).tc = (s.port p).tc
      ∧ (t.port p).stage = (s.port p).stage := by
  have hgot : s.gotGoodCrc p f.tgt ((s.port p).ctxOf f.tgt).txId
      = ((s.txEnd p .ok).modPort p fun x => { x with pd := { x.pd with plugAt := some s.now } }).txDone p f.tgt .plain .ok := by
    unfold State.gotGoodCrc
    rw [hf]
    dsimp only
    rw [if_pos (by simp [hwire, hsend]), if_neg (fun h => htgt (eq_of_beq h)), hwhy]
  have he : exec (.goodcrcReceived p f.tgt ⟨((s.port p).ctxOf f.tgt).txId, true⟩) s = .next _ :=
    (congrArg Host.Outcome.next (if_pos (by rw [hok]; exact Bool.or_true _))).trans (congrArg Host.Outcome.next hgot)
  refine gives_of_exec he ?_
  obtain ⟨l, hl⟩ := State.txDone_plug (s := (s.txEnd p .ok).modPort p fun x => { x with pd := { x.pd with plugAt := some s.now } }) (p := p) htgt .ok
  have hsans := State.txEnd_sans hf .ok
  have hlast := State.txEnd_lastTx hf .ok
  have hctx := Port.txEnded_ctx (x := s.port p) (r := .ok) hatt
  obtain ⟨c, hc⟩ := (s.port p).txEnded_eq f .ok
  rw [hl, State.port_modPort]
  refine ⟨hlast, rfl, ?_, ?_, ?_⟩
  · unfold Port.ctxOf at hctx ⊢
    dsimp only
    rw [Port.ctx_of_sans hsans, hctx]
    rfl
  · exact (Port.tc_of_sans hsans).trans (by rw [hc])
  · exact (Port.stage_of_sans hsans).trans (by rw [hc])

theorem goodCrc_unpowered {g : Tgt} (id : BitVec 3) {cp : Bool} (hg : g ≠ .sop) (h : ((s.port p).ctxOf g).vconnOk = false ∨ cp = false) :
    exec (.goodcrcReceived p g ⟨id, cp⟩) s = .next s := by
  refine congrArg Host.Outcome.next (if_neg ?_)
  rw [Bool.not_eq_true, Bool.or_eq_false_iff, Bool.and_eq_false_iff]
  exact ⟨beq_false_of_ne hg, h⟩

theorem goodCrc_other {g : Tgt} {id : BitVec 3} (cp : Bool) (hid : id ≠ ((s.port p).ctxOf g).txId) :
    exec (.goodcrcReceived p g ⟨id, cp⟩) s = .next s := by
  have hgot : s.gotGoodCrc p g id = s := by
    unfold State.gotGoodCrc
    split
    · exact if_neg (by rw [Bool.not_eq_true, Bool.and_eq_false_iff]; exact .inr (beq_false_of_ne hid))
    · rfl
  show Host.Outcome.next (if _ then s.gotGoodCrc p g id else s) = _
  rw [hgot, ite_self]

/-! ### An attempt without its GoodCRC (R164, R166) -/

theorem State.attemptFailed_again (hf : (s.port p).pd.flight = some f) (hwire : f.onWire = true)
    (hleft : f.attempts ≤ ((s.port p).ctxOf f.tgt).nRetry.toNat) :
    s.attemptFailed p = s.modPort p fun x => { x with pd := { x.pd with flight := some { f with onWire := false } } } := by
  unfold State.attemptFailed
  rw [hf]
  dsimp only
  rw [if_neg (by rw [hwire]; exact Bool.false_ne_true), if_pos hleft]

theorem State.attemptFailed_last (hf : (s.port p).pd.flight = some f) (hwire : f.onWire = true)
    (hnone : ((s.port p).ctxOf f.tgt).nRetry.toNat < f.attempts) :
    s.attemptFailed p = (s.txEnd p .fail).txDone p f.tgt f.why .fail := by
  unfold State.attemptFailed
  rw [hf]
  dsimp only
  rw [if_neg (by rw [hwire]; exact Bool.false_ne_true), if_neg (Nat.not_le.mpr hnone)]

theorem receiveTimeout_over (hf : (s.port p).pd.flight = some f) (hover : f.receiveOver s.now = true) :
    exec (.receiveTimeout p) s = .next (s.attemptFailed p) := by
  show execReceiveTimeout p s = _
  unfold execReceiveTimeout
  rw [hf]
  exact congrArg Host.Outcome.next (if_pos hover)

theorem receiveTimeout_early (hf : (s.port p).pd.flight = some f) (hover : f.receiveOver s.now = false) : exec (.receiveTimeout p) s = .next s := by
  show execReceiveTimeout p s = _
  unfold execReceiveTimeout
  rw [hf]
  exact congrArg Host.Outcome.next (if_neg (by rw [hover]; exact Bool.false_ne_true))

/-- A message for a plug without a retry left ends TX_FAIL. -/
theorem State.attemptFailed_plug (hf : (s.port p).pd.flight = some f) (hwire : f.onWire = true) (htgt : f.tgt ≠ .sop) (hwhy : f.why = .plain)
    (hnone : ((s.port p).ctxOf f.tgt).nRetry.toNat < f.attempts) :
    (((s.attemptFailed p).port p).ctxOf f.tgt).txFails = satIncr ((s.port p).ctxOf f.tgt).txFails
      ∧ (((s.attemptFailed p).port p).ctxOf f.tgt).txId = ((s.port p).ctxOf f.tgt).txId + 1
      ∧ ((s.attemptFailed p).port p).pd.lastTx = some .fail
      ∧ ((s.attemptFailed p).port p).timers = (s.port p).timers
      ∧ ((s.attemptFailed p).port p).tc = (s.port p).tc
      ∧ ((s.attemptFailed p).port p).stage = (s.port p).stage := by
  obtain ⟨l, hl⟩ := State.txDone_plug (s := s.txEnd p .fail) (p := p) htgt .fail
  have hsans := State.txEnd_sans hf .fail
  have hlast := State.txEnd_lastTx hf .fail
  have hctx := Port.txEnded_ctx (x := s.port p) (r := .fail) (Nat.zero_lt_of_lt hnone)
  obtain ⟨c, hc⟩ := (s.port p).txEnded_eq f .fail
  rw [State.attemptFailed_last hf hwire hnone, hwhy, hl]
  unfold Port.ctxOf at hctx ⊢
  dsimp only
  rw [Port.ctx_of_sans hsans, hctx]
  refine ⟨rfl, rfl, hlast, ?_, ?_, ?_⟩
  · exact (Port.timers_of_sans hsans).trans (by rw [hc])
  · exact (Port.tc_of_sans hsans).trans (by rw [hc])
  · exact (Port.stage_of_sans hsans).trans (by rw [hc])

/-- A message of no sequence on SOP without a retry left ends in Soft_Reset (R168). -/
theorem State.attemptFailed_sop (hf : (s.port p).pd.flight = some f) (hwire : f.onWire = true) (htgt : f.tgt = .sop) (hwhy : f.why = .plain)
    (hnone : ((s.port p).ctxOf f.tgt).nRetry.toNat < f.attempts) (hpower : (s.port p).inPower = false) (hfw : s.fw p = true) :
    s.attemptFailed p = (s.txEnd p .fail).sendSoft p .sop := by
  have hfw' : (s.txEnd p .fail).fw p = true := (congrArg (fun v : Vector CoreSt 9 => !(v[coreOf p]).stopped) (State.txEnd_cores hf .fail)).trans hfw
  have hpower' : ((s.txEnd p .fail).port p).inPower = false := by
    have hsans := State.txEnd_sans hf .fail
    obtain ⟨c, hc⟩ := (s.port p).txEnded_eq f .fail
    rw [hc] at hsans
    exact (congrArg Port.inPower hsans).trans hpower
  rw [State.attemptFailed_last hf hwire hnone, hwhy, htgt]
  unfold State.txDone
  rw [if_pos hfw']
  unfold State.afterTx State.afterMsg State.txError
  dsimp only
  rw [if_neg (by decide), if_neg (by decide), if_neg (by decide), if_pos (by decide), if_neg (by rw [hpower']; exact Bool.false_ne_true)]
  exact if_pos rfl

theorem receiveTimeout_sop (hf : (s.port p).pd.flight = some f) (hwire : f.onWire = true) (hover : f.receiveOver s.now = true) (htgt : f.tgt = .sop)
    (hwhy : f.why = .plain) (hnone : ((s.port p).ctxOf f.tgt).nRetry.toNat < f.attempts) (hpower : (s.port p).inPower = false) (hfw : s.fw p = true) :
    gives (.receiveTimeout p) s fun t => ((t.port p).ctxOf .sop).txFails = satIncr ((s.port p).ctxOf .sop).txFails
      ∧ t.txWaits p .sop (ctlMsg 13) = true
      ∧ ((t.port p).ctxOf .sop).txId = 0
      ∧ (t.port p).tc.st = (s.port p).tc.st
      ∧ (t.port p).pd.contract = (s.port p).pd.contract
      ∧ (t.port p).stage = (s.port p).stage := by
  refine gives_of_exec ((receiveTimeout_over hf hover).trans
    (congrArg Host.Outcome.next (State.attemptFailed_sop hf hwire htgt hwhy hnone hpower hfw))) ?_
  obtain ⟨hlull, hid, hwaits⟩ := State.sendSoft_sop (s.txEnd p .fail) p
  have hctx := Port.txEnded_ctx (x := s.port p) (r := .fail) (Nat.zero_lt_of_lt hnone)
  rw [htgt] at hctx
  have hends := hlull.trans (Port.lull_of_sans (State.txEnd_sans hf .fail))
  obtain ⟨c, hc⟩ := (s.port p).txEnded_eq f .fail
  unfold Port.lull at hends
  rw [hctx, hc] at hends
  simp only [Prod.mk.injEq] at hends
  obtain ⟨hst, hstage, hcontract, hfails⟩ := hends
  exact ⟨hfails, hwaits, hid, hst, hcontract, hstage⟩

/-! ### Attempts that are cut off (R137, R166, R167) -/

theorem State.cutOff_port (s : State) (p : PortId) :
    ∃ y, (s.cutOff p).port p = { s.port p with phy := y, pd := { (s.port p).pd with onLine := none } } := by
  unfold State.cutOff
  rw [State.port_modPort]
  obtain ⟨y, hy⟩ := s.discardWindow_port p
  rw [hy]
  exact ⟨y, rfl⟩

theorem State.cutOff_pool (s : State) (p : PortId) : (s.cutOff p).pool = s.pool := by
  unfold State.cutOff State.discardWindow
  rw [State.modPort_pool]
  dsimp only
  (repeat' split) <;> rfl

theorem collision_aborts (hf : (s.port p).pd.flight = some f) (hwire : f.onWire = true) (hpre : f.inPreamble s.now = true) :
    exec (.txCollisionAbort p) s = .next ((s.cutOff p).attemptFailed p) := by
  show execTxCollisionAbort p s = _
  unfold execTxCollisionAbort
  rw [hf]
  exact congrArg Host.Outcome.next (if_pos (by rw [hwire, hpre]; rfl))

theorem collision_late (hf : (s.port p).pd.flight = some f) (hpre : f.inPreamble s.now = false) : exec (.txCollisionAbort p) s = .next s := by
  show execTxCollisionAbort p s = _
  unfold execTxCollisionAbort
  rw [hf]
  exact congrArg Host.Outcome.next (if_neg (by rw [hpre, Bool.and_false]; exact Bool.false_ne_true))

theorem collision_again (hf : (s.port p).pd.flight = some f) (hwire : f.onWire = true) (hpre : f.inPreamble s.now = true)
    (hleft : f.attempts ≤ ((s.port p).ctxOf f.tgt).nRetry.toNat) :
    gives (.txCollisionAbort p) s fun t => (t.port p).pd = { (s.port p).pd with flight := some { f with onWire := false }, onLine := none }
      ∧ (t.port p).ctx = (s.port p).ctx
      ∧ (t.port p).timers = (s.port p).timers
      ∧ t.pool = s.pool
      ∧ (t.port p).tc = (s.port p).tc := by
  obtain ⟨y, hy⟩ := s.cutOff_port p
  refine gives_of_exec ((collision_aborts hf hwire hpre).trans (congrArg Host.Outcome.next
    (State.attemptFailed_again (by rw [hy]; exact hf) hwire (by rw [hy]; exact hleft)))) ?_
  rw [State.port_modPort, State.modPort_pool, State.cutOff_pool, hy]
  exact ⟨rfl, rfl, rfl, rfl, rfl⟩

theorem collision_fails (hf : (s.port p).pd.flight = some f) (hwire : f.onWire = true) (hpre : f.inPreamble s.now = true) (htgt : f.tgt ≠ .sop)
    (hwhy : f.why = .plain) (hnone : ((s.port p).ctxOf f.tgt).nRetry.toNat < f.attempts) :
    gives (.txCollisionAbort p) s fun t => ((t.port p).ctxOf f.tgt).txFails = satIncr ((s.port p).ctxOf f.tgt).txFails
      ∧ (t.port p).pd.lastTx = some .fail
      ∧ (t.port p).tc = (s.port p).tc := by
  obtain ⟨y, hy⟩ := s.cutOff_port p
  obtain ⟨hfails, -, hlast, -, htc, -⟩ := State.attemptFailed_plug (s := s.cutOff p) (by rw [hy]; exact hf) hwire htgt hwhy (by rw [hy]; exact hnone)
  rw [hy] at hfails htc
  exact gives_of_exec (collision_aborts hf hwire hpre) ⟨hfails, hlast, htc⟩

/-- What a reader finds in a cell raises or quarantines: the Policy Engines see none of it, and what is RAISED stays so. -/
theorem State.found_spec (s : State) (q : QueueId) (o : CellObs) (m : Nat) :
    ((s.found q o).port p).pd = (s.port p).pd ∧ (s.raisedAt m = true → (s.found q o).raisedAt m = true) := by
  cases o with
  | sound => exact ⟨rfl, id⟩
  | crc => exact ⟨rfl, id⟩
  | parity => exact ⟨State.raise_pd .., s.raise_raised_mono _ rfl m⟩
  | link =>
    unfold State.found State.quarantine
    dsimp only
    rw [State.raise_pd, State.modPool_port]
    exact ⟨rfl, fun h => State.raise_raised_mono _ (devRaise 211 0 q.val) rfl m (by rw [State.modPool_faults]; exact h)⟩

theorem integrity_ends {o : CellObs} (hf : (s.port p).pd.flight = some f) (hwire : f.onWire = true) (htgt : f.tgt ≠ .sop) (hwhy : f.why = .plain)
    (ho : o ≠ .sound) :
    gives (.txIntegrity ⟨p, o⟩) s fun t => t.raisedAt 210 = true ∧ (t.port p).pd.lastTx = some .integrity := by
  have he : exec (.txIntegrity ⟨p, o⟩) s = .next (((((s.cutOff p).txEnd p .integrity).raise
      (devRaise 210 0 (3 * p.val + (tgtIdx f.tgt).val))).found (qTx (clusterOf p)) o).txDone p f.tgt .plain .integrity) := by
    show execTxIntegrity ⟨p, o⟩ s = _
    unfold execTxIntegrity
    dsimp only
    rw [hf]
    dsimp only
    rw [if_pos (by rw [hwire, bne_iff_ne.mpr ho]; rfl), hwhy]
  refine gives_of_exec he ?_
  obtain ⟨y, hy⟩ := s.cutOff_port p
  have hlast := State.txEnd_lastTx (s := s.cutOff p) (p := p) (f := f) (by rw [hy]; exact hf) .integrity
  generalize (s.cutOff p).txEnd p .integrity = u at hlast
  have hraised := u.raise_raised (devRaise 210 0 (3 * p.val + (tgtIdx f.tgt).val)) rfl
  have hpd := u.raise_pd (devRaise 210 0 (3 * p.val + (tgtIdx f.tgt).val)) p
  generalize u.raise (devRaise 210 0 (3 * p.val + (tgtIdx f.tgt).val)) = v at hraised hpd
  obtain ⟨hfound, hkept⟩ := v.found_spec (p := p) (qTx (clusterOf p)) o 210
  obtain ⟨l, hl⟩ := State.txDone_plug (s := v.found (qTx (clusterOf p)) o) (p := p) htgt .integrity
  refine ⟨?_, ?_⟩
  · have hfaults : ((v.found (qTx (clusterOf p)) o).txDone p f.tgt .plain .integrity).faults = (v.found (qTx (clusterOf p)) o).faults := by
      unfold State.txDone
      split
      · rw [State.afterTx_plug htgt]
      · rfl
    exact (congrArg (fun g : Faults => g.raised.getLsbD 210) hfaults).trans (hkept hraised)
  · rw [hl]
    dsimp only
    rw [hfound, hpd, hlast]

end Sys2Proof.Machine
end

section
/-! O28, settled. -/

namespace Sys2Proof
open Machine

/-- Settles O28: an attempt starts, ends with its GoodCRC, or fails to its retries and then to `State.txEnd` and its sequel. -/
theorem phyTransmit : Obligations.PhyTransmit := by
  unfold Obligations.PhyTransmit
  refine ⟨fun p idle f s => attempt_starts idle, fun p f cp s => goodCrc_ends cp, fun p f s => goodCrc_plug, fun p g id cp s => goodCrc_unpowered id,
    fun p g id cp s => goodCrc_other cp, fun p f s hf hwire hover hleft => ?_, fun p f s => receiveTimeout_early, fun _ _ => rfl, fun _ _ => rfl,
    fun p f s => collision_again, fun p f s => collision_late, fun p f s => collision_fails, fun p f s => receiveTimeout_sop,
    fun p f s hf hwire hover htgt hwhy hnone => gives_of_exec (receiveTimeout_over hf hover) (State.attemptFailed_plug hf hwire htgt hwhy hnone),
    fun p f o s => integrity_ends⟩
  exact (receiveTimeout_over hf hover).trans (congrArg Host.Outcome.next (State.attemptFailed_again hf hwire hleft))

end Sys2Proof
end


section
/-! O27, refuted: a message whose cells read unsound. -/

namespace Sys2Proof.Machine

/-- P0 attached as Source, its firmware running, with the CC line long quiet and cells for messages. -/
def listening : State :=
  ({ State.reset with
    board := { Board.reset with svcOn := true, mainOn := true, afeLink := Vector.replicate 4 true }
    dev := { Dev.reset with ready0 := 0x00FFFFFF#32 }
    pool := { Pool.reset with capacity := 15856, pdReserve := 512 } } : State).modPort 0 fun x => { x with tc := { x.tc with st := .attachedSrc } }

/-- A Request whose cells, once written, fail their CRC when they are read (R437). -/
def unsoundRequest : WirePacket := ⟨.sop .sop, 0x1082#16, [1, 2, 3, 4], true, true, .crc⟩

/-- The queue with that Request closed in it. -/
def poolWithRequest : Pool :=
  (listening.pool.pushPd (qRx 0) 0 { mkPacket listening.pool (.rx 0 .sop 0 listening.now) (u16 0x1082 ++ [1, 2, 3, 4]) with flaw := .crc }).getD listening.pool

/-- The Request as a reader finds it. -/
def requestRead : RxMsg := ⟨.sop, 0, listening.now, 0x1082#16, 0, [1, 2, 3, 4]⟩

/-- Messages that wait for P0 after the command. -/
def waitsForP0 (o : Host.Outcome State Fault Refusal) : Nat :=
  match o with
  | .next t => t.rxCount 0
  | _ => 1

theorem exec_packetReceive_unsound : waitsForP0 (exec (.packetReceive 0 unsoundRequest) listening) = 0 := by decide +kernel

end Sys2Proof.Machine
end

section
/-! O27, settled. -/

namespace Sys2Proof
open Machine

/-- Refutes O27: a message whose cells read unsound is queued and acknowledged, but the port's firmware drops it as soon as it stands in the
queue (R25, R437), so that it does not wait there. -/
theorem not_phyReceive : ¬ Obligations.PhyReceive := by
  unfold Obligations.PhyReceive
  rintro ⟨hqueued, -⟩
  obtain ⟨t, he, -, -, -, hcount, -⟩ := hqueued 0 unsoundRequest .sop requestRead poolWithRequest listening rfl (by decide +kernel) (by decide +kernel)
    (by decide +kernel) (by decide +kernel) (by decide +kernel) (by decide +kernel) (by decide +kernel) (by decide +kernel) (by decide +kernel)
    (by decide +kernel)
  have hnone := exec_packetReceive_unsound
  rw [he] at hnone
  exact absurd (hcount.symm.trans hnone) Nat.one_ne_zero

end Sys2Proof
end


section
/-! O33, refuted: a chunk response timer that carries tChunkSenderRequest while chunks come in. -/

namespace Sys2Proof.Machine

/-- A chunked message that comes in from the plug, its first chunk received. -/
def plugAssembly : Assembly := ⟨false, 0x8007, 40, List.replicate 26 0, 1, .plain⟩

/-- P0 assembles it, and its response timer for the plug has run out as tChunkSenderRequest. -/
def assembling : State :=
  State.reset.modPort 0 fun x =>
    (x.modCtx .sop1 fun c => { c with asm := some plugAssembly }).setTimer tResponse1 ⟨0, false, false, true, .chunkRequest⟩

/-- TX_FAILS of P0's SOP′ context after the command. -/
def plugFails (o : Host.Outcome State Fault Refusal) : Nat :=
  match o with
  | .next t => ((t.port 0).ctxOf .sop1).txFails.toNat
  | _ => 1

theorem exec_chunkTimeout_assembling : plugFails (exec (.chunkSenderRequestTimeout 0 .sop1) assembling) = 0 := by decide +kernel

end Sys2Proof.Machine
end

section
/-! O33, settled. -/

namespace Sys2Proof
open Machine

/-- Refutes O33: tChunkSenderRequest counts a failure only for a message that goes out (R157, R174); with an assembly that comes in TX_FAILS
stays. -/
theorem not_amsAndTimers : ¬ Obligations.AmsAndTimers := by
  unfold Obligations.AmsAndTimers
  rintro ⟨-, -, -, -, -, -, -, -, -, -, -, -, hchunk, -⟩
  obtain ⟨t, he, -, -, hfails, -⟩ := hchunk 0 .sop1 plugAssembly assembling (by decide +kernel) (by decide +kernel) (by decide) rfl
  have hexec := exec_chunkTimeout_assembling
  rw [he] at hexec
  rw [plugFails, hfails] at hexec
  exact absurd hexec (by decide +kernel)

end Sys2Proof
end


section
/-! What the messages of a port leave of its dealings with the partner (R163–R171, R181, R240–R246). -/

namespace Sys2Proof.Machine

/-- The port's dealings beside its messages: contract, roles, the running swap, an ordered Hard Reset, and whether the host awaits a swap. -/
def Port.pact (x : Port) := (x.pd.contract, x.pd.powerSource, x.pd.dfp, x.pd.swap, x.pd.vbusWait, x.pd.hrOrder, x.pd.swapReq.isNone)

@[simp] theorem Port.arm_pact (x : Port) (i : Fin 12) (u : Use) (n : Nat) : (x.arm i u n).pact = x.pact := rfl
@[simp] theorem Port.disarm_pact (x : Port) (i : Fin 12) : (x.disarm i).pact = x.pact := rfl
@[simp] theorem Port.modCtx_pact (x : Port) (t : Tgt) (f : Ctx → Ctx) : (x.modCtx t f).pact = x.pact := rfl
@[simp] theorem Port.refreshRp_pact (x : Port) : x.refreshRp.pact = x.pact := rfl
@[simp] theorem Port.endOwn_pact (x : Port) : x.endOwn.pact = x.pact := rfl
@[simp] theorem Port.armSinkTx_pact (b : Beat) (x : Port) : (x.armSinkTx b).pact = x.pact := by
  unfold Port.armSinkTx; dsimp only; split <;> rfl
@[simp] theorem Port.endSinkTx_pact (b : Beat) (x : Port) : (x.endSinkTx b).pact = x.pact := by
  unfold Port.endSinkTx Port.freeCaps; (repeat' split) <;> rfl
@[simp] theorem Port.discoverAgain_pact (x : Port) : x.discoverAgain.pact = x.pact := by
  unfold Port.discoverAgain; split <;> rfl
@[simp] theorem Port.endVdmAms_pact (b : Beat) (r : VdmReq) (x : Port) : (x.endVdmAms b r).pact = x.pact := by
  unfold Port.endVdmAms
  split
  · rw [Port.endSinkTx_pact]; rfl
  · split <;> rfl

section
variable (s : State) (p q : PortId)

theorem State.modPort_pact {f : Port → Port} (h : ∀ x, (f x).pact = x.pact) : ((s.modPort p f).port q).pact = (s.port q).pact := by
  by_cases e : q = p
  · subst e; rw [State.port_modPort, h]
  · rw [State.port_modPort_ne s e]

theorem State.endSoft_pact (st tx a : Nat) : ((s.endSoft p st tx a).port q).pact = (s.port q).pact := by
  unfold State.endSoft; split
  · rfl
  · rw [State.modPort_pact _ _ _ (by intro x; rfl), State.complete_port]
theorem State.endVdm_pact (st r : Nat) (d : List Byte) : ((s.endVdm p st r d).port q).pact = (s.port q).pact := by
  unfold State.endVdm; split
  · rfl
  · dsimp only
    refine (State.modPort_pact _ _ _ fun x => ?_).trans ?_
    · split <;> rfl
    · split <;> simp
theorem State.loadFlight_pact : ((s.loadFlight p).port q).pact = (s.port q).pact := by
  unfold State.loadFlight
  split
  · rfl
  · split
    · split
      · exact State.modPort_pact _ _ _ fun _ => rfl
      · rfl
    · rfl
theorem State.queueTx_pact (t : Tgt) (why : Purpose) (bytes : List Byte) : ((s.queueTx p t why bytes).port q).pact = (s.port q).pact := by
  unfold State.queueTx
  split
  · exact State.modPort_pact _ _ _ fun _ => rfl
  · dsimp only
    split
    · exact State.loadFlight_pact _ _ _
    · exact State.modPort_pact _ _ _ fun _ => rfl
theorem State.reply_pact (why : Purpose) (bytes : List Byte) : ((s.reply p why bytes).port q).pact = (s.port q).pact := by
  unfold State.reply
  exact (State.queueTx_pact _ _ _ _ _ _).trans (State.modPort_pact _ _ _ fun _ => rfl)
theorem State.sendExt_pact (t : Tgt) (why : Purpose) (n : Nat) (d : List Byte) : ((s.sendExt p t why n d).port q).pact = (s.port q).pact := by
  unfold State.sendExt
  exact (State.queueTx_pact _ _ _ _ _ _).trans (State.modPort_pact _ _ _ fun _ => rfl)
theorem State.sendCaps_pact : ((s.sendCaps p).port q).pact = (s.port q).pact := by
  unfold State.sendCaps
  dsimp only
  split
  · exact (State.sendExt_pact _ _ _ _ _ _ _).trans (State.modPort_pact _ _ _ fun _ => rfl)
  · exact (State.queueTx_pact _ _ _ _ _ _).trans (State.modPort_pact _ _ _ fun _ => rfl)
theorem State.launch_pact : ((s.launch p).port q).pact = (s.port q).pact := by
  have hstart : ((s.modPort p fun x => { x with pd := { x.pd with start := none, ownAms := true, first := true } }).port q).pact = (s.port q).pact :=
    State.modPort_pact _ _ _ fun _ => rfl
  unfold State.launch
  split
  · rfl
  · dsimp only
    split
    · exact (State.sendCaps_pact _ _ _).trans hstart
    · refine (State.queueTx_pact _ _ _ _ _ _).trans ((State.modPort_pact _ _ _ fun x => ?_).trans hstart)
      unfold Port.pact
      rw [Option.isNone_map]
    · exact (State.sendExt_pact _ _ _ _ _ _ _).trans hstart
    · exact (State.queueTx_pact _ _ _ _ _ _).trans hstart
theorem State.beginAms_pact (t : Tgt) (why : Purpose) (bytes : List Byte) : ((s.beginAms p t why bytes).port q).pact = (s.port q).pact := by
  have hstart : ((s.modPort p fun x => { x with pd := { x.pd with start := some (t, why, bytes) } }).port q).pact = (s.port q).pact :=
    State.modPort_pact _ _ _ fun _ => rfl
  unfold State.beginAms
  dsimp only
  split
  · split
    · refine (State.modPort_pact _ _ _ fun x => ?_).trans hstart
      rw [Port.armSinkTx_pact, Port.refreshRp_pact]
      rfl
    · split
      · exact (State.launch_pact _ _ _).trans hstart
      · exact hstart
  · exact (State.launch_pact _ _ _).trans hstart
theorem State.killTx_pact (only : Tgt → Bool) (r : TxResult) : ((s.killTx p only r).port q).pact = (s.port q).pact := by
  unfold State.killTx
  dsimp only
  rw [State.loadFlight_pact, State.modPort_pact _ _ _ (by intro x; rfl), State.modPool_port]
  split
  · split
    · exact State.modPort_pact _ _ _ fun x => by split <;> rfl
    · rfl
  · rfl
theorem State.endVdmOn_pact (only : Tgt → Bool) : ((s.endVdmOn p only).port q).pact = (s.port q).pact := by
  unfold State.endVdmOn
  split
  · split
    · rfl
    · refine (State.modPort_pact _ _ _ fun x => ?_).trans (State.endVdm_pact ..)
      dsimp only
      rw [Port.endVdmAms_pact]
      split
      · exact Port.discoverAgain_pact _
      · rfl
  · rfl
theorem State.dropPlug_pact : ((s.dropPlug p).port q).pact = (s.port q).pact := by
  unfold State.dropPlug
  dsimp only
  rw [State.endVdmOn_pact]
  split
  · split
    · exact (State.endSoft_pact ..).trans (State.killTx_pact ..)
    · exact State.killTx_pact ..
  · exact State.killTx_pact ..
theorem State.kick_pact : ((s.kick p).port q).pact = (s.port q).pact := by
  unfold State.kick
  dsimp only
  split
  · split
    · exact State.dropPlug_pact ..
    · split
      · split
        · exact (State.queueTx_pact ..).trans (State.modPort_pact _ _ _ fun _ => rfl)
        · split
          · exact (State.beginAms_pact ..).trans (State.modPort_pact _ _ _ fun _ => rfl)
          · rfl
      · rfl
  · rfl
theorem State.eprGo_pact : ((s.eprGo p).port q).pact = (s.port q).pact := by
  have hfail (n : Nat) : ((s.eprFail p n).port q).pact = (s.port q).pact := by
    unfold State.eprFail
    exact (State.reply_pact ..).trans (State.modPort_pact _ _ _ fun _ => rfl)
  unfold State.eprGo State.eprCheck
  dsimp only
  split
  · split
    · exact hfail 2
    · split
      · exact hfail 1
      · exact State.reply_pact ..
  · rfl
theorem State.endSwapReq_none (st r : Nat) : ((s.endSwapReq p st r).port p).pd.swapReq = none := by
  unfold State.endSwapReq
  split
  · assumption
  · rw [State.port_modPort]
end

end Sys2Proof.Machine
end


section
/-! AMS that a port opens without waiting (R169, R170), and the requests and back-offs of swaps (R223–R227). -/

namespace Sys2Proof.Machine

variable {s : State} {p : PortId}

/-! ### An AMS below Revision 3 -/

/-- Below Revision 3 an AMS of the port's own begins at once (R169). -/
theorem State.beginAms_launches (hrev : (s.port p).rev ≠ 2) (t : Tgt) (why : Purpose) (bytes : List Byte) :
    s.beginAms p t why bytes = (s.modPort p fun x => { x with pd := { x.pd with start := some (t, why, bytes) } }).launch p := by
  unfold State.beginAms
  exact if_neg hrev

/-- The port as the first message of its own AMS is queued. -/
def Port.opens (x : Port) : Port := { x with pd := { x.pd with start := none, ownAms := true, first := true } }

theorem State.launch_swap {t : Tgt} {bytes : List Byte} (h : (s.port p).pd.start = some (t, .swapRequest, bytes)) :
    s.launch p = ((s.modPort p Port.opens).modPort p fun x => { x with pd := { x.pd with
      swapReq := x.pd.swapReq.map fun r => { r with sent := true, attempts := r.attempts + 1 } } }).queueTx p t .swapRequest bytes := by
  unfold State.launch
  rw [h]
  rfl

theorem State.launch_caps {t : Tgt} {bytes : List Byte} (h : (s.port p).pd.start = some (t, .sourceCaps, bytes)) :
    s.launch p = (s.modPort p Port.opens).sendCaps p := by
  unfold State.launch
  rw [h]
  rfl

/-- Capabilities of SPR mode go out in a message of their own (R198). -/
theorem State.sendCaps_spr (hepr : (s.port p).pd.contract.eprMode = false) :
    (s.sendCaps p).txWaits p .sop (datMsg 1 (buildCaps (s.classOf (s.port p)) (s.port p) false)) = true
      ∧ ((s.sendCaps p).port p).sans = (({ s.port p with pd := { (s.port p).pd with
          unsent := some ((s.port p).pd.unsent.getD (s.port p).pd.sentCaps)
          sentCaps := buildCaps (s.classOf (s.port p)) (s.port p) false, built := buildCaps (s.classOf (s.port p)) (s.port p) false
          capsDue := false, capsRaise := false, capsForce := false, capsBeat := s.now } } : Port)).sans := by
  unfold State.sendCaps
  dsimp only
  rw [hepr, if_neg Bool.false_ne_true]
  refine ⟨State.queueTx_waits .., ?_⟩
  rw [State.queueTx_sans, State.port_modPort]

/-! ### SWAP_REQUEST (R223–R227) -/

theorem swapMessage_sends {r : SwapReq} (hreq : (s.port p).pd.swapReq = some r) (hsent : r.sent = false) (hfree : s.free p = true)
    (huse : (s.port p).use tCaps ≠ .swapBackoff) (hback : (s.port p).pd.backUntil = none) (hrev : (s.port p).rev ≠ 2) :
    gives (.swapMessageSend p) s fun t => t.txWaits p .sop (ctlMsg (match r.kind with | .pr => 10 | .dr => 9 | .vconn => 11)) = true
      ∧ (t.port p).pd.swapReq = some { r with sent := true, attempts := r.attempts + 1 }
      ∧ (t.port p).pd.ownAms = true
      ∧ (t.port p).stage = (s.port p).stage := by
  have he : exec (.swapMessageSend p) s
      = .next (s.beginAms p .sop .swapRequest (ctlMsg (match r.kind with | .pr => 10 | .dr => 9 | .vconn => 11))) := by
    show execSwapMessageSend p s = _
    unfold execSwapMessageSend
    rw [hreq]
    exact congrArg Host.Outcome.next (if_pos (by rw [hsent, hfree, hback, bne_iff_ne.mpr huse]; rfl))
  generalize (ctlMsg (match r.kind with | .pr => 10 | .dr => 9 | .vconn => 11)) = bytes at he ⊢
  rw [State.beginAms_launches hrev, State.launch_swap (by rw [State.port_modPort])] at he
  refine gives_of_exec he ⟨State.queueTx_waits .., ?_⟩
  generalize hu : State.modPort (State.modPort (s.modPort p _) p Port.opens) p _ = u
  have hport : u.port p = { (({ s.port p with pd := { (s.port p).pd with start := some (.sop, .swapRequest, bytes) } } : Port)).opens with
      pd := { (({ s.port p with pd := { (s.port p).pd with start := some (.sop, .swapRequest, bytes) } } : Port)).opens.pd with
        swapReq := some { r with sent := true, attempts := r.attempts + 1 } } } := by
    rw [← hu, State.port_modPort, State.port_modPort, State.port_modPort]
    unfold Port.opens
    dsimp only
    rw [hreq]
    rfl
  have hs := State.queueTx_sans u p p .sop .swapRequest bytes
  have ht := Port.terms_of_sans hs
  refine ⟨?_, ?_, ?_⟩
  · rw [Pd.swapReq_of_terms ht, hport]
  · rw [Pd.ownAms_of_terms ht, hport]
    rfl
  · rw [Port.stage_of_sans hs, hport]
    rfl

/-- The end of a SWAP_REQUEST is one of the Policy Engine alone (R224). -/
theorem State.endSwapReq_port (hreq : (s.port p).pd.swapReq.isSome = true) (st res : Nat) :
    (s.endSwapReq p st res).port p = { s.port p with pd := { (s.port p).pd with swapReq := none, backUntil := none } } := by
  obtain ⟨r, hr⟩ := Option.isSome_iff_exists.mp hreq
  unfold State.endSwapReq
  rw [hr]
  dsimp only
  rw [State.port_modPort, State.complete_port]

theorem swapRequest_expires {r : SwapReq} (hfw : s.fw p = true) (hreq : (s.port p).pd.swapReq = some r) (hsent : r.sent = false)
    (hatt : r.attempts = 0) (huse : (s.port p).use tCaps ≠ .swapBackoff) (hlate : 25000 ≤ Beat.since s.now r.from_)
    (hstart : (s.port p).pd.start = none) :
    gives (.swapRequestTimeout p) s fun t => (t.port p).pd = { (s.port p).pd with swapReq := none, backUntil := none }
      ∧ (t.port p).timers = (s.port p).timers := by
  have he : exec (.swapRequestTimeout p) s = .next (s.endSwapReq p 0 9) := by
    show execSwapRequestTimeout p s = _
    unfold execSwapRequestTimeout
    rw [hreq]
    refine congrArg Host.Outcome.next ((if_pos (by rw [hfw, hsent, hatt, bne_iff_ne.mpr huse, decide_eq_true hlate]; rfl)).trans ?_)
    rw [hstart]
    rfl
  refine gives_of_exec he ?_
  rw [State.endSwapReq_port (by rw [hreq]; rfl)]
  exact ⟨rfl, rfl⟩

theorem swapRequest_expires_waiting {r : SwapReq} {g : Tgt} {xs : List Byte} (hfw : s.fw p = true) (hreq : (s.port p).pd.swapReq = some r)
    (hsent : r.sent = false) (hatt : r.attempts = 0) (huse : (s.port p).use tCaps ≠ .swapBackoff) (hlate : 25000 ≤ Beat.since s.now r.from_)
    (hstart : (s.port p).pd.start = some (g, .swapRequest, xs)) :
    gives (.swapRequestTimeout p) s fun t => (t.port p).pd.swapReq = none
      ∧ (t.port p).pd.contract = (s.port p).pd.contract
      ∧ (t.port p).stage = (s.port p).stage
      ∧ (t.port p).guard = (s.port p).guard := by
  have he : exec (.swapRequestTimeout p) s
      = .next (((s.endSwapReq p 0 9).modPort p fun x => (Port.endOwn { x with pd := { x.pd with start := none } }).endSinkTx s.now).kick p) := by
    show execSwapRequestTimeout p s = _
    unfold execSwapRequestTimeout
    rw [hreq]
    refine congrArg Host.Outcome.next ((if_pos (by rw [hfw, hsent, hatt, bne_iff_ne.mpr huse, decide_eq_true hlate]; rfl)).trans ?_)
    rw [hstart]
    rfl
  refine gives_of_exec he ?_
  have hend := State.endSwapReq_port (s := s) (p := p) (by rw [hreq]; rfl) 0 9
  generalize s.endSwapReq p 0 9 = u at hend
  have hpact := State.kick_pact (u.modPort p fun x => (Port.endOwn { x with pd := { x.pd with start := none } }).endSinkTx s.now) p p
  have hbody := State.kick_body (u.modPort p fun x => (Port.endOwn { x with pd := { x.pd with start := none } }).endSinkTx s.now) p p
  rw [State.port_modPort, Port.endSinkTx_pact, Port.endOwn_pact, hend] at hpact
  rw [State.port_modPort, Port.endSinkTx_body, Port.endOwn_body, hend] at hbody
  generalize State.kick _ p = t at hpact hbody
  simp only [Port.pact, Prod.mk.injEq, Option.isNone_none, Option.isNone_iff_eq_none] at hpact
  obtain ⟨hcontract, -, -, -, -, -, hnone⟩ := hpact
  exact ⟨hnone, hcontract, (Port.stage_of_body hbody).trans rfl, (Port.guard_of_body hbody).trans rfl⟩

theorem swapBackoff_retries {r : SwapReq} (hdue : s.due p tCaps .swapBackoff = true) (hreq : (s.port p).pd.swapReq = some r) (hleft : 0 < r.retries) :
    gives (.swapBackoffExpiry p) s fun t => (t.port p).pd = { (s.port p).pd with swapReq := some { r with retries := r.retries - 1, sent := false, crossed := false }, backUntil := none }
      ∧ (t.port p).timers[tCaps] = Timer.idle
      ∧ t.pool = s.pool := by
  have he : exec (.swapBackoffExpiry p) s = .next ((s.modPort p fun x => { x.disarm tCaps with pd := { x.pd with backUntil := none } }).modPort p
      fun x => { x with pd := { x.pd with swapReq := some { r with retries := r.retries - 1, sent := false, crossed := false } } }) := by
    refine congrArg Host.Outcome.next ((if_pos hdue).trans ?_)
    rw [hreq]
    exact if_pos hleft
  refine gives_of_exec he ?_
  rw [State.port_modPort, State.port_modPort]
  exact ⟨rfl, Port.disarm_timer .., rfl⟩

theorem swapBackoff_ends {r : SwapReq} (hdue : s.due p tCaps .swapBackoff = true) (hreq : (s.port p).pd.swapReq = some r) (hleft : r.retries = 0) :
    gives (.swapBackoffExpiry p) s fun t => (t.port p).pd = { (s.port p).pd with swapReq := none, backUntil := none }
      ∧ (t.port p).timers[tCaps] = Timer.idle := by
  have he : exec (.swapBackoffExpiry p) s = .next ((s.modPort p fun x => { x.disarm tCaps with pd := { x.pd with backUntil := none } }).endSwapReq p 0
      (if r.crossed then 5 else 2)) := by
    refine congrArg Host.Outcome.next ((if_pos hdue).trans ?_)
    rw [hreq]
    exact if_neg (by omega)
  refine gives_of_exec he ?_
  rw [State.endSwapReq_port (by rw [State.port_modPort]; dsimp only; rw [hreq]; rfl), State.port_modPort]
  exact ⟨rfl, Port.disarm_timer ..⟩

end Sys2Proof.Machine
end


section
/-! The steps of the swaps (R229–R235, R238). -/

namespace Sys2Proof.Machine

variable {s : State} {p : PortId}

theorem State.prNext_of {n : Nat} {source : Bool} (hrun : s.pdRuns p = true) (hstep : (s.port p).prStep source n = true) : s.prNext p source n = true := by
  unfold State.prNext
  rw [hrun, hstep]
  rfl

/-- A port fault and the Hard Reset that follows it (R210, R230, R235). -/
theorem State.raise_orders (code detail : Nat) (hpd : (s.port p).tc.st.pd = true) (hhr : (s.port p).pd.hrOrder = none) :
    ((s.raisePort p code detail).orderHr p).raisedAt (64 + p.val) = true
      ∧ (((s.raisePort p code detail).orderHr p).port p).pd.hrOrder = some s.now
      ∧ (((s.raisePort p code detail).orderHr p).port p).tc = ((s.raisePort p code detail).port p).tc := by
  have hnow : (s.raisePort p code detail).now = s.now := State.now_of_rest (State.raisePort_rest ..)
  obtain ⟨f, fl, on, hport⟩ := State.orderHr_port (s := s.raisePort p code detail) (p := p) (by rw [State.raisePort_st, hpd])
    (by rw [State.raisePort_pd, hhr])
  refine ⟨?_, ?_, ?_⟩
  · unfold State.raisedAt
    rw [State.orderHr_faults]
    exact State.raisePort_raised ..
  · rw [hport, hnow]
  · rw [hport]

theorem Pd.powerSource_of_terms {d e : Pd} (h : d.terms = e.terms) : d.powerSource = e.powerSource := (congrArg Pd.powerSource h :)
theorem Pd.capsDue_of_terms {d e : Pd} (h : d.terms = e.terms) : d.capsDue = e.capsDue := (congrArg Pd.capsDue h :)

/-- The message first in line is the same where the port's contexts are. -/
theorem State.rxHead_modPort {f : Port → Port} (hf : (f (s.port p)).ctx = (s.port p).ctx) : (s.modPort p f).rxHead p = s.rxHead p := by
  have hfresh (k : Packet) : (s.modPort p f).rxFresh p k = s.rxFresh p k := by
    unfold State.rxFresh Port.ctxOf
    rw [State.port_modPort, hf]
    rfl
  unfold State.rxHead
  simp only [hfresh]
  rfl

/-! ### PR_Swap, from Source to Sink (R230) -/

theorem prSwap_vbusOff {w : Swap} (hrun : s.pdRuns p = true) (hswap : (s.port p).pd.swap = some w) (hstep : (s.port p).prStep true 2 = true)
    (href : (s.port p).stage.vRef = 0) (hsafe : (s.port p).vSafe0 = true) :
    gives (.prSwapVbusOff p) s fun t => (t.port p).pd.swap = some { w with step := 3 }
      ∧ (t.port p).stage.mode = .idle
      ∧ (t.port p).guard.gateOn = false
      ∧ (t.port p).stage.disS = false
      ∧ (t.port p).stage.runs.idle = 0 := by
  refine gives_of_exec (congrArg Host.Outcome.next (if_pos (by rw [State.prNext_of hrun hstep, href, hsafe]; rfl))) ?_
  rw [State.updPort_port_pd, State.updPort_port_stage, State.updPort_port_guard]
  have hset : (((s.port p).stageHalt.gateOff s.now).setStep 3).pd.swap = (s.port p).pd.swap.map fun w => { w with step := 3 } := rfl
  refine ⟨?_, rfl, rfl, rfl, rfl⟩
  dsimp only
  rw [hset, hswap]
  rfl

theorem prSwap_idleHeld {w : Swap} (hrun : s.pdRuns p = true) (hswap : (s.port p).pd.swap = some w) (hstep : (s.port p).prStep true 3 = true)
    (hidle : (s.port p).definedIdle = true) (hheld : 4 ≤ (s.port p).stage.runs.idle) :
    gives (.prSwapIdleHeld p) s fun t => (t.port p).pd.swap = some { w with step := 4 }
      ∧ (t.port p).pd.powerSource = false
      ∧ (t.port p).tc.pres1 = (if (s.port p).tc.orient then .none else .rd)
      ∧ (t.port p).tc.pres2 = (if (s.port p).tc.orient then .rd else .none)
      ∧ t.txWaits p .sop (ctlMsg 6) = true
      ∧ (t.port p).stage = (s.port p).stage
      ∧ (t.port p).guard = (s.port p).guard := by
  refine gives_of_exec (congrArg Host.Outcome.next (if_pos (by rw [State.prNext_of hrun hstep, hidle, decide_eq_true hheld]; rfl))) ?_
  generalize hu : s.modPort p _ = u
  have hport : u.port p = { s.port p with
      pd := { (s.port p).pd with swap := some { w with step := 4 }, powerSource := false, sinkNg := false }
      tc := { (s.port p).tc with pres1 := if (s.port p).tc.orient then .none else .rd, pres2 := if (s.port p).tc.orient then .rd else .none } } := by
    rw [← hu, State.port_modPort]
    unfold Port.setStep
    dsimp only
    rw [hswap]
    rfl
  have hs := State.queueTx_sans u p p .sop .psRdy (ctlMsg 6)
  have ht := Port.terms_of_sans hs
  refine ⟨?_, ?_, ?_, ?_, State.queueTx_waits .., ?_, ?_⟩
  · rw [Pd.swap_of_terms ht, hport]
  · rw [Pd.powerSource_of_terms ht, hport]
  · rw [Port.tc_of_sans hs, hport]
  · rw [Port.tc_of_sans hs, hport]
  · rw [Port.stage_of_sans hs, hport]
  · rw [Port.guard_of_sans hs, hport]

theorem swap_fails {w : Swap} (hrun : s.pdRuns p = true) (hswap : (s.port p).pd.swap = some w) (hstep : (s.port p).prStep true 2 = true)
    (hlate : 150000 ≤ Beat.since s.now w.mark) (hpd : (s.port p).tc.st.pd = true) :
    gives (.swapFail p) s fun t => t.raisedAt (64 + p.val) = true ∧ (t.port p).pd.hrOrder = some s.now := by
  obtain ⟨-, hhr, -⟩ := pdRuns_of hrun
  have he : exec (.swapFail p) s = .next ((s.raisePort p 15 0).orderHr p) := by
    show execSwapFail p s = _
    unfold execSwapFail
    rw [hswap]
    exact congrArg Host.Outcome.next (if_pos (by rw [State.prNext_of hrun hstep, decide_eq_true hlate]; rfl))
  obtain ⟨hraised, horder, -⟩ := State.raise_orders 15 0 hpd hhr
  exact gives_of_exec he ⟨hraised, horder⟩

theorem prSwap_sinkGate (hrun : s.pdRuns p = true) (hwait : (s.port p).pd.vbusWait = true) (hvbus : (s.port p).vbusPresent = true) :
    gives (.prSwapSinkGateOn p) s fun t => (t.port p).pd = { (s.port p).pd with vbusWait := false }
      ∧ (t.port p).stage.iTgt = rpSeenAmps (s.port p).tc.rpSeen
      ∧ ((s.port p).guard.gst ≠ .tripped → (s.port p).guard.gst ≠ .locked → (t.port p).guard.gateWant = true)
      ∧ t.pool = s.pool
      ∧ (t.port p).tc = (s.port p).tc := by
  refine gives_of_exec (congrArg Host.Outcome.next (if_pos (by rw [hrun, hwait, hvbus]; rfl))) ?_
  rw [State.port_modPort]
  generalize hx : ({ s.port p with pd := { (s.port p).pd with vbusWait := false }
                                   stage := { (s.port p).stage with iTgt := rpSeenAmps (s.port p).tc.rpSeen } } : Port) = x
  have hguard : x.guard = (s.port p).guard := by rw [← hx]
  obtain ⟨g, hg⟩ := Port.gateOnCmd_eq (x := x) s.now
  refine ⟨?_, ?_, fun ht hl => Port.gateOnCmd_wants _ (by rw [hguard]; exact ht) (by rw [hguard]; exact hl), rfl, ?_⟩
  · rw [hg, ← hx]
  · rw [hg, ← hx]
  · rw [hg, ← hx]

/-- What ERROR_RECOVERY leaves of a running swap. -/
theorem State.errorRecovery_swap (s : State) (p : PortId) (r : Nat) : ((s.errorRecovery p r).port p).pd.swap = none := by
  have hdown (b : Beat) (feed : Bool) (x : Port) : (x.powerDown b feed).pd.swap = none := rfl
  unfold State.errorRecovery State.dropPort
  rw [State.updPort_port_pd]
  unfold Port.toErrorRecovery
  dsimp only
  rw [Port.abandonCal_eq]
  split <;> simpa using hdown ..

theorem psSourceOn_recovers (hdue : s.due p tPower .psSourceOn = true) (hrun : s.pdRuns p = true) :
    gives (.psSourceOnTimeout p) s fun t => (t.port p).tc.st = .errorRecovery
      ∧ (t.port p).pd.swap = none
      ∧ (t.port p).guard.gateOn = false
      ∧ (t.port p).stage.mode = .idle := by
  obtain ⟨hst, -, hgate, hmode, -⟩ := s.errorRecovery_spec p 8
  exact gives_of_exec (congrArg Host.Outcome.next (if_pos (by rw [hdue, hrun]; rfl))) ⟨hst, s.errorRecovery_swap p 8, hgate, hmode⟩

theorem swapWindow_recovers {w : Swap} {b0 : Beat} (hrun : s.pdRuns p = true) (hswap : (s.port p).pd.swap = some w) (hfrom : w.windowFrom = some b0)
    (hlate : 120000 + 250 * fld (s.port p).cfg.swapMargin 0 8 < Beat.since s.now b0) :
    gives (.swapWindowExceeded p) s fun t => (t.port p).tc.st = .errorRecovery
      ∧ (t.port p).pd.swap = none
      ∧ (t.port p).guard.gateOn = false
      ∧ (t.port p).stage.mode = .idle := by
  have he : exec (.swapWindowExceeded p) s = .next (s.errorRecovery p 8) := by
    show execSwapWindowExceeded p s = _
    unfold execSwapWindowExceeded
    rw [hswap]
    dsimp only
    rw [hfrom]
    exact congrArg Host.Outcome.next (if_pos ⟨hrun, hlate⟩)
  obtain ⟨hst, -, hgate, hmode, -⟩ := s.errorRecovery_spec p 8
  exact gives_of_exec he ⟨hst, s.errorRecovery_swap p 8, hgate, hmode⟩

/-! ### PR_Swap, from Sink to Source (R231) -/

theorem prSwap_ramps {w : Swap} (hrun : s.pdRuns p = true) (hswap : (s.port p).pd.swap = some w) (hstep : (s.port p).prStep false 2 = true)
    (hidle : (s.port p).definedIdle = true) (hheld : 4 ≤ (s.port p).stage.runs.idle) (hsafe : (s.port p).vSafe0 = true) :
    gives (.prSwapSourceRamp p) s fun t => (t.port p).pd.swap = some { w with step := 3 }
      ∧ (t.port p).stage.vTgt = 250
      ∧ (t.port p).stage.want = .forward := by
  refine gives_of_exec (congrArg Host.Outcome.next (if_pos (by rw [State.prNext_of hrun hstep, hidle, decide_eq_true hheld, hsafe]; rfl))) ?_
  obtain ⟨g, hg⟩ := Port.driveFive_eq (x := s.port p) s.now
  rw [State.port_modPort]
  unfold Port.setStep
  rw [hg]
  dsimp only
  rw [hswap]
  exact ⟨rfl, rfl, rfl⟩

theorem prSwap_ready {w : Swap} (hrun : s.pdRuns p = true) (hswap : (s.port p).pd.swap = some w) (hstep : (s.port p).prStep false 3 = true)
    (hat : (s.port p).atTarget = true) (hgood : (s.port p).powerGood = true) (hwin : 16 ≤ (s.port p).stage.runs.window) :
    gives (.prSwapSourceReady p) s fun t => (t.port p).pd.swap = some { w with step := 4 }
      ∧ t.txWaits p .sop (ctlMsg 6) = true
      ∧ (t.port p).stage = (s.port p).stage
      ∧ (t.port p).guard = (s.port p).guard := by
  refine gives_of_exec (congrArg Host.Outcome.next (if_pos (by rw [State.prNext_of hrun hstep, hat, hgood, decide_eq_true hwin]; rfl))) ?_
  generalize hu : s.modPort p _ = u
  have hport : u.port p = { s.port p with pd := { (s.port p).pd with swap := some { w with step := 4 } } } := by
    rw [← hu, State.port_modPort]
    unfold Port.setStep
    rw [hswap]
    rfl
  have hs := State.queueTx_sans u p p .sop .psRdy (ctlMsg 6)
  refine ⟨?_, State.queueTx_waits .., ?_, ?_⟩
  · rw [Pd.swap_of_terms (Port.terms_of_sans hs), hport]
  · rw [Port.stage_of_sans hs, hport]
  · rw [Port.guard_of_sans hs, hport]

/-- The port as capabilities become due after a PR_Swap. -/
def Port.capsAfterSwap (x : Port) : Port := { x.disarm tPower with pd := { (x.disarm tPower).pd with capsDue := true, capsRaise := false, capsForce := true } }

theorem swapSource_waits (hdue : s.due p tPower .swapSourceStart = true) (hdisc : (s.port p).pd.discovered = false) :
    gives (.swapSourceStartExpiry p) s fun t => (t.port p).pd = { (s.port p).pd with capsDue := true, capsRaise := false, capsForce := true }
      ∧ (t.port p).timers[tPower] = Timer.idle
      ∧ t.pool = s.pool := by
  have he : exec (.swapSourceStartExpiry p) s = .next (s.modPort p Port.capsAfterSwap) := by
    refine congrArg Host.Outcome.next ((if_pos hdue).trans (if_neg ?_))
    rw [State.port_modPort, Bool.and_eq_true]
    exact fun h => Bool.false_ne_true (hdisc.symm.trans h.2)
  refine gives_of_exec he ?_
  rw [State.port_modPort]
  exact ⟨rfl, Port.disarm_timer .., rfl⟩

theorem swapSource_starts (hdue : s.due p tPower .swapSourceStart = true) (hfree : s.free p = true) (hdisc : (s.port p).pd.discovered = true)
    (hepr : (s.port p).pd.contract.eprMode = false) (hrev : (s.port p).rev ≠ 2) :
    gives (.swapSourceStartExpiry p) s fun t => t.txWaits p .sop (datMsg 1 (buildCaps (s.classOf (s.port p)) (s.port p) false)) = true
      ∧ (t.port p).pd.capsDue = false := by
  have hport : (s.modPort p Port.capsAfterSwap).port p = (s.port p).capsAfterSwap := State.port_modPort ..
  have hfree' : (s.modPort p Port.capsAfterSwap).free p = true := by
    unfold State.free State.amsOpen State.deciding at hfree ⊢
    rw [State.rxHead_modPort (by rfl), hport]
    exact hfree
  have he : exec (.swapSourceStartExpiry p) s = .next ((s.modPort p Port.capsAfterSwap).beginAms p .sop .sourceCaps []) := by
    refine congrArg Host.Outcome.next ((if_pos hdue).trans (if_pos ?_))
    rw [State.port_modPort, Bool.and_eq_true]
    exact ⟨hfree', hdisc⟩
  rw [State.beginAms_launches (by rw [hport]; exact hrev), State.launch_caps (by rw [State.port_modPort])] at he
  refine gives_of_exec he ?_
  generalize hu : State.modPort (State.modPort (s.modPort p Port.capsAfterSwap) p _) p Port.opens = u
  have hu' : u.port p = Port.opens { (s.port p).capsAfterSwap with pd := { (s.port p).capsAfterSwap.pd with start := some (.sop, .sourceCaps, []) } } := by
    rw [← hu, State.port_modPort, State.port_modPort, hport]
  have hclass : u.classOf (u.port p) = s.classOf (s.port p) := by
    rw [hu', ← hu]
    rfl
  obtain ⟨hwaits, hsans⟩ := State.sendCaps_spr (s := u) (p := p) (by rw [hu']; exact hepr)
  have hbuilt : buildCaps (u.classOf (u.port p)) (u.port p) false = buildCaps (s.classOf (s.port p)) (s.port p) false := by
    rw [hclass, hu']
    rfl
  rw [hbuilt] at hwaits
  exact ⟨hwaits, Pd.capsDue_of_terms (Port.terms_of_sans hsans)⟩

/-! ### VCONN_Swap (R235) -/

/-- The port as VCONN is fully on in a swap: the plugs' contexts start afresh (R235). -/
def Port.vconnTaken (x : Port) : Port :=
  let y := ((((x.modCtx .sop1 Ctx.cable).modCtx .sop2 Ctx.cable).disarm tResponse1).disarm tResponse2).disarm tDiscover
  ({ y.syncVconn with tc := { y.tc with vconnGiven := false } } : Port).setStep 2

theorem Port.vconnTaken_sop1 (x : Port) :
    (x.vconnTaken.ctxOf .sop1).txId = 0 ∧ (x.vconnTaken.ctxOf .sop1).rev = 0 ∧ (x.vconnTaken.ctxOf .sop1).vconnOk = x.tc.vconnOn := by
  simp [Port.vconnTaken, Port.setStep, Port.syncVconn, Port.disarm, Port.setTimer, Port.modCtx, Port.ctxOf, tgtIdx, Ctx.cable, Ctx.restart]

theorem vconnSwap_confirms {w : Swap} (hrun : s.pdRuns p = true) (hswap : (s.port p).pd.swap = some w) (hturn : (s.port p).vconnTurning = true)
    (hon : (s.port p).tc.vconnOn = true) (hlong : 64 ≤ (s.port p).stage.runs.vconnOn) :
    gives (.vconnSwapOnConfirm p) s fun t => (t.port p).pd.swap = some { w with step := 2 }
      ∧ t.txWaits p .sop (ctlMsg 6) = true
      ∧ ((t.port p).ctxOf .sop1).txId = 0
      ∧ ((t.port p).ctxOf .sop1).rev = 0
      ∧ ((t.port p).ctxOf .sop1).vconnOk = true
      ∧ (t.port p).tc.vconnOn = true := by
  refine gives_of_exec (congrArg Host.Outcome.next (if_pos (by rw [hrun, hturn, hon, decide_eq_true hlong]; rfl))) ?_
  have hport : (s.modPort p Port.vconnTaken).port p = (s.port p).vconnTaken := State.port_modPort ..
  obtain ⟨hid, hrev, hok⟩ := (s.port p).vconnTaken_sop1
  refine ⟨?_, State.queueTx_waits (s.modPort p Port.vconnTaken) p .psRdy (ctlMsg 6), ?_⟩
  all_goals
    have hs := State.queueTx_sans (s.modPort p Port.vconnTaken) p p .sop .psRdy (ctlMsg 6)
    rw [hport] at hs
  · refine (Pd.swap_of_terms (Port.terms_of_sans hs)).trans ?_
    show (s.port p).pd.swap.map _ = _
    rw [hswap]
    rfl
  · have hctx := Port.ctx_of_sans hs
    unfold Port.ctxOf at hid hrev hok ⊢
    refine ⟨?_, ?_, ?_, ?_⟩
    · exact (congrArg (fun v : Vector Ctx 3 => (v[tgtIdx .sop1]).txId) hctx).trans hid
    · exact (congrArg (fun v : Vector Ctx 3 => (v[tgtIdx .sop1]).rev) hctx).trans hrev
    · exact (congrArg (fun v : Vector Ctx 3 => (v[tgtIdx .sop1]).vconnOk) hctx).trans (hok.trans hon)
    · exact (congrArg TypeC.vconnOn (Port.tc_of_sans hs)).trans hon

theorem Port.hrOrder_of_pact {x y : Port} (h : x.pact = y.pact) : x.pd.hrOrder = y.pd.hrOrder := congrArg (fun r => r.2.2.2.2.2.1) h

/-- A change of the capabilities touches none of the dealings. -/
theorem Port.capChange_pact (c : Class) (x : Port) : (x.capChange c).pact = x.pact := by
  unfold Port.capChange Port.refreshCable Port.assumeCable
  dsimp only
  (repeat' split) <;> rfl

theorem Port.withoutVconn_pact (imax : Byte) (oc : Bool) (c : Class) (x : Port) : (x.withoutVconn imax oc c).pact = x.pact := by
  have hlose : (x.loseVconn imax).pact = x.pact := by
    unfold Port.loseVconn Port.syncVconn Port.vconnOff Port.modCtx Port.pact
    rfl
  unfold Port.withoutVconn
  dsimp only
  rw [Port.capChange_pact, ← hlose]
  generalize x.loseVconn imax = y
  rfl

theorem State.vconnLost_pact (s : State) (p : PortId) (oc : Bool) : ((s.vconnLost p oc).port p).pact = (s.port p).pact := by
  unfold State.vconnLost
  dsimp only
  rw [State.eprGo_pact]
  generalize s.classOf (s.port p) = c
  have hplug := s.dropPlug_pact p p
  generalize s.dropPlug p = u at hplug
  have hpd : (((u.updPort p (Port.withoutVconn c.header.cableImax oc c)).port p).pd) = ((u.port p).withoutVconn c.header.cableImax oc c).pd :=
    State.updPort_port_pd ..
  have hupd : (((u.updPort p (Port.withoutVconn c.header.cableImax oc c)).port p).pact) = ((u.port p).withoutVconn c.header.cableImax oc c).pact := by
    unfold Port.pact
    rw [hpd]
  refine hupd.trans ?_
  rw [Port.withoutVconn_pact, hplug]

theorem vconnSwap_fails {w : Swap} (hrun : s.pdRuns p = true) (hswap : (s.port p).pd.swap = some w) (hturn : (s.port p).vconnTurning = true)
    (hoff : (s.port p).stage.runs.vconnOn = 0) (hlate : 2500 ≤ Beat.since s.now w.beatA) (hpd : (s.port p).tc.st.pd = true) :
    gives (.vconnSwapOnTimeout p) s fun t => t.raisedAt (64 + p.val) = true
      ∧ (t.port p).tc.vconnOn = false
      ∧ (t.port p).pd.hrOrder = some s.now
      ∧ (t.port p).tc.vconnOc = true := by
  obtain ⟨-, hhr, -⟩ := pdRuns_of hrun
  have he : exec (.vconnSwapOnTimeout p) s = .next (((s.vconnLost p true).raisePort p 13 0).orderHr p) := by
    show execVconnSwapOnTimeout p s = _
    unfold execVconnSwapOnTimeout
    rw [hswap]
    exact congrArg Host.Outcome.next (if_pos (by rw [hrun, hturn, hoff, decide_eq_true hlate]; rfl))
  obtain ⟨hon, hoc, hst, -⟩ := s.vconnLost_spec p true
  have hnow : (s.vconnLost p true).now = s.now := State.now_of_rest (State.vconnLost_rest ..)
  have hhr' : ((s.vconnLost p true).port p).pd.hrOrder = none := (Port.hrOrder_of_pact (s.vconnLost_pact p true)).trans hhr
  generalize s.vconnLost p true = u at *
  obtain ⟨hraised, horder, htc⟩ := State.raise_orders (s := u) (p := p) 13 0 (by rw [hst, hpd]) hhr'
  refine gives_of_exec he ⟨hraised, ?_, ?_, ?_⟩
  · rw [htc]
    exact portKept_vconnOff.raisePort _ _ _ _ _ hon
  · rw [horder, hnow]
  · rw [htc]
    exact portKept_vconnOc.raisePort _ _ _ _ _ (by simpa using hoc)

end Sys2Proof.Machine
end

section
/-! O35, settled. -/

namespace Sys2Proof
open Machine

/-- Settles O35: the requests and back-offs of swaps, and each step of a PR_Swap and of a VCONN_Swap. -/
theorem swaps : Obligations.Swaps := by
  unfold Obligations.Swaps
  exact ⟨fun p r s => swapMessage_sends, fun p r s => swapRequest_expires, fun p r g xs s => swapRequest_expires_waiting,
    fun p r s => swapBackoff_retries, fun p r s => swapBackoff_ends, fun p w s => prSwap_vbusOff, fun p w s => prSwap_idleHeld,
    fun p w s => swap_fails, fun p s => prSwap_sinkGate, fun p w s => prSwap_ramps, fun p w s => prSwap_ready,
    fun p s hdue _ hdisc => swapSource_waits hdue hdisc, fun p s => swapSource_starts, fun p w b0 s => swapWindow_recovers,
    fun p s => psSourceOn_recovers, fun p w s => vconnSwap_confirms, fun p w s => vconnSwap_fails⟩

end Sys2Proof
end


section
/-! The received messages of the ports: what leaves their queues alone (R160, R424). -/

namespace Sys2Proof.Machine

/-! ### The RX message queues in the pool -/

/-- The packets closed in the RX message queue of cluster `c`. -/
def Pool.inlet (m : Pool) (c : ClusterId) : List Packet := (m.queues[qRx c]).closed

/-- The RX message queues are Q16, Q24 to Q72 (R424). -/
theorem qRx_val (c : ClusterId) : (qRx c).val = 16 + 8 * c.val := rfl

theorem ne_qRx_of_mod {q : QueueId} (h : q.val % 8 ≠ 0 ∨ q.val < 16 ∨ 72 < q.val) (c : ClusterId) : q ≠ qRx c := by
  rintro rfl
  rw [qRx_val] at h
  omega

@[simp] theorem qEvent_ne_qRx (c : ClusterId) : qEvent ≠ qRx c := ne_qRx_of_mod (by decide) c
@[simp] theorem qSvcOut_ne_qRx (c : ClusterId) : qSvcOut ≠ qRx c := ne_qRx_of_mod (by decide) c
@[simp] theorem qTx_ne_qRx (d c : ClusterId) : qTx d ≠ qRx c := ne_qRx_of_mod (.inl (by unfold qTx; dsimp only; omega)) c
@[simp] theorem qEvt_ne_qRx (d c : ClusterId) : qEvt d ≠ qRx c := ne_qRx_of_mod (.inl (by unfold qEvt; dsimp only; omega)) c
@[simp] theorem qLog_ne_qRx (d c : ClusterId) : qLog d ≠ qRx c := ne_qRx_of_mod (.inl (by unfold qLog; dsimp only; omega)) c
@[simp] theorem answerQ_ne_qRx (n : Nat) (c : ClusterId) : answerQ n ≠ qRx c :=
  ne_qRx_of_mod (.inr (.inr (by unfold answerQ qAnswer; dsimp only; omega))) c

@[simp] theorem Pool.watch_inlet (n : Nat) (m : Pool) (c : ClusterId) : (m.watch n).inlet c = m.inlet c := by
  unfold Pool.watch
  split <;> rfl

theorem Pool.count_inlet (m : Pool) (svc : Bool) (b : Beat) (port code : Nat) (c : ClusterId) : (m.count svc b port code).inlet c = m.inlet c := rfl

section
variable {q : QueueId} {c : ClusterId} (h : q ≠ qRx c) (m : Pool)
include h
theorem Pool.modQ_inlet (f : Queue → Queue) : (m.modQ q f).inlet c = m.inlet c := by
  unfold Pool.inlet Pool.modQ
  dsimp only
  simp only [Fin.getElem_fin]
  rw [Vector.getElem_set_ne _ _ (fun e => h (Fin.ext e))]
theorem Pool.append_inlet (k : Packet) : (m.append q k).inlet c = m.inlet c := Pool.modQ_inlet h m _
theorem Pool.refuseFor_inlet (n : Nat) : (m.refuseFor q n).inlet c = m.inlet c := Pool.modQ_inlet h m fun x => { x with refused := true }
theorem Pool.push_inlet (k : Packet) : (m.push q k).inlet c = m.inlet c := by
  unfold Pool.push
  split
  · rfl
  · split
    · rw [Pool.watch_inlet, Pool.append_inlet h]
    · exact Pool.refuseFor_inlet h m _
theorem Pool.pushHeld_inlet (n : Nat) (k : Packet) : (m.pushHeld q n k).inlet c = m.inlet c := by
  unfold Pool.pushHeld
  split
  · rw [Pool.watch_inlet, Pool.append_inlet h]
    rfl
  · rw [Pool.push_inlet h]
    rfl
theorem Pool.pushPd_inlet {m' : Pool} {p : PortId} {k : Packet} (hm : m.pushPd q p k = some m') : m'.inlet c = m.inlet c := by
  unfold Pool.pushPd at hm
  dsimp only at hm
  split at hm
  · exact absurd hm (by simp)
  · split at hm
    · obtain rfl := Option.some.inj hm
      rw [Pool.watch_inlet, Pool.append_inlet h]
    · split at hm
      · obtain rfl := Option.some.inj hm
        exact (Pool.watch_inlet ..).trans (Pool.append_inlet h m _)
      · exact absurd hm (by simp)
end

@[simp] theorem Pool.event_inlet (m : Pool) (svc : Bool) (mask : Word) (b : Beat) (code port : Nat) (d : List Byte) (c : ClusterId) :
    (m.event svc mask b code port d).inlet c = m.inlet c := by
  have hq : (if svc = true then qSvcOut else qEvent) ≠ qRx c := by split <;> simp
  unfold Pool.event
  dsimp only
  generalize (if svc = true then qSvcOut else qEvent) = q at hq
  split
  · rfl
  · split
    · split
      · rfl
      · rw [Pool.count_inlet, Pool.refuseFor_inlet hq]
    · exact Pool.push_inlet hq m _

/-! ### Events, completions and the messages sent -/

section
variable (s : State) (c : ClusterId)

@[simp] theorem State.post_inlet (code port : Nat) (d : List Byte) : (s.post code port d).pool.inlet c = s.pool.inlet c := by
  unfold State.post State.await State.send State.countLost
  split
  · dsimp only
    split
    · exact Pool.push_inlet (by simp) _ _
    · rw [apply_ite (fun m => Pool.inlet m c), Pool.count_inlet, ite_self, apply_ite (fun m => Pool.inlet m c), Pool.count_inlet, ite_self,
        Pool.refuseFor_inlet (by simp)]
  · dsimp only
    split
    · rw [Pool.event_inlet, Pool.event_inlet]
    · exact Pool.event_inlet ..

theorem State.completeNow_inlet (st : Stream) (opc : Nat) (e : List Byte) : (s.completeNow st opc e).pool.inlet c = s.pool.inlet c := by
  unfold State.completeNow
  dsimp only
  split
  · exact Pool.pushHeld_inlet (by simp) _ _ _
  · split
    · exact Pool.pushHeld_inlet (by simp) _ _ _
    · rfl
  · rfl
  · rfl

@[simp] theorem State.complete_inlet (st : Stream) (opc tag status tgt port : Nat) (r : List Byte) :
    (s.complete st opc tag status tgt port r).pool.inlet c = s.pool.inlet c := by
  unfold State.complete State.answerLater
  dsimp only
  split
  · split
    · exact Pool.push_inlet (by simp) _ _
    · rw [State.completeNow_inlet]
      exact Pool.refuseFor_inlet (by simp) _ _
  · exact State.completeNow_inlet ..

variable (p : PortId)

@[simp] theorem State.withdraw_inlet : (s.withdraw p).pool.inlet c = s.pool.inlet c := by
  unfold State.withdraw
  dsimp only
  generalize s.policy.decisions.filter (fun d => d.port == p) = ds
  have hpost (l : List Decision) (u : State) (b : Beat) : (l.foldl (fun (t : State) d => t.post 0xC3 p.val (closedPayload d.id d.point 3 0xFF b)) u).pool.inlet c
      = u.pool.inlet c := by
    induction l generalizing u with
    | nil => rfl
    | cons d l ih => rw [List.foldl_cons, ih, State.post_inlet]
  exact hpost ds s s.board.beat

@[simp] theorem State.endSwapReq_inlet (st r : Nat) : (s.endSwapReq p st r).pool.inlet c = s.pool.inlet c := by
  unfold State.endSwapReq; split <;> simp
@[simp] theorem State.endSoft_inlet (st tx a : Nat) : (s.endSoft p st tx a).pool.inlet c = s.pool.inlet c := by
  unfold State.endSoft; split <;> simp
@[simp] theorem State.endVdm_inlet (st r : Nat) (d : List Byte) : (s.endVdm p st r d).pool.inlet c = s.pool.inlet c := by
  unfold State.endVdm
  split
  · rfl
  · dsimp only
    rw [State.modPort_pool]
    split <;> simp
@[simp] theorem State.queueTx_inlet (t : Tgt) (why : Purpose) (bytes : List Byte) : (s.queueTx p t why bytes).pool.inlet c = s.pool.inlet c := by
  unfold State.queueTx
  split
  · rfl
  · dsimp only
    split
    · next m hm =>
      rw [State.loadFlight_pool]
      exact Pool.pushPd_inlet (by simp) _ hm
    · rw [State.modPort_pool]
      show Pool.inlet (if _ then _ else _) c = _
      split
      · rfl
      · exact Pool.refuseFor_inlet (by simp) _ _
@[simp] theorem State.reply_inlet (why : Purpose) (bytes : List Byte) : (s.reply p why bytes).pool.inlet c = s.pool.inlet c :=
  State.queueTx_inlet ..
@[simp] theorem State.sendExt_inlet (t : Tgt) (why : Purpose) (n : Nat) (d : List Byte) : (s.sendExt p t why n d).pool.inlet c = s.pool.inlet c :=
  State.queueTx_inlet ..
@[simp] theorem State.sendCaps_inlet : (s.sendCaps p).pool.inlet c = s.pool.inlet c := by
  unfold State.sendCaps
  dsimp only
  split <;> simp
@[simp] theorem State.launch_inlet : (s.launch p).pool.inlet c = s.pool.inlet c := by
  unfold State.launch
  split
  · rfl
  · dsimp only
    split <;> simp
@[simp] theorem State.beginAms_inlet (t : Tgt) (why : Purpose) (bytes : List Byte) : (s.beginAms p t why bytes).pool.inlet c = s.pool.inlet c := by
  unfold State.beginAms
  dsimp only
  (repeat' split) <;> simp
@[simp] theorem State.killTx_inlet (only : Tgt → Bool) (r : TxResult) : (s.killTx p only r).pool.inlet c = s.pool.inlet c := by
  unfold State.killTx
  dsimp only
  rw [State.loadFlight_pool, State.modPort_pool]
  refine (Pool.modQ_inlet (by simp) _ _).trans ?_
  split
  · split <;> rfl
  · rfl
@[simp] theorem State.endVdmOn_inlet (only : Tgt → Bool) : (s.endVdmOn p only).pool.inlet c = s.pool.inlet c := by
  unfold State.endVdmOn
  split
  · split <;> simp
  · rfl
@[simp] theorem State.dropPlug_inlet : (s.dropPlug p).pool.inlet c = s.pool.inlet c := by
  unfold State.dropPlug
  dsimp only
  rw [State.endVdmOn_inlet]
  (repeat' split) <;> simp
@[simp] theorem State.kick_inlet : (s.kick p).pool.inlet c = s.pool.inlet c := by
  unfold State.kick
  dsimp only
  (repeat' split) <;> simp
@[simp] theorem State.partnerDone_inlet : (s.partnerDone p).pool.inlet c = s.pool.inlet c := by
  unfold State.partnerDone
  dsimp only
  split <;> simp
@[simp] theorem State.amsDone_inlet : (s.amsDone p).pool.inlet c = s.pool.inlet c := by
  unfold State.amsDone
  simp

theorem logStage_inlet (q : PortId) (low : Bool) (b : Beat) (x : Port) (kind : Nat) (m : Pool) : (logStage q low b x kind m).inlet c = m.inlet c := by
  unfold logStage Pool.inlet
  dsimp only
  split
  · exact Pool.push_inlet (by simp) m _
  · dsimp only
    exact Pool.refuseFor_inlet (q := qLog (clusterOf q)) (by simp) m _

theorem portEvents_inlet (old new : Port) : (portEvents p s old new).inlet c = s.pool.inlet c := by
  have hlog (low : Bool) (b : Beat) (x : Port) (l : List Nat) (m : Pool) : (l.foldl (fun m k => logStage p low b x k m) m).inlet c = m.inlet c := by
    induction l generalizing m with
    | nil => rfl
    | cons k l ih => rw [List.foldl_cons, ih, logStage_inlet]
  have hpost (m : Pool) (code : Nat) (d : List Byte) : (({ s with pool := m } : State).post code p.val d).pool.inlet c = m.inlet c := State.post_inlet ..
  unfold portEvents
  dsimp only
  rw [hlog, apply_ite (fun m => Pool.inlet m c), hpost, ite_self, apply_ite (fun m => Pool.inlet m c), State.post_inlet, ite_self]

@[simp] theorem State.updPort_inlet (f : Port → Port) : (s.updPort p f).pool.inlet c = s.pool.inlet c := portEvents_inlet ..
end

end Sys2Proof.Machine
end


section
/-! A message taken by the port's firmware (R161, R169, R174, R186, R206). -/

namespace Sys2Proof.Machine

variable {s : State} {p : PortId} {m : RxMsg}

/-! ### The one message of a port -/

/-- Taking the first of the packets wanted takes one of those counted. -/
theorem dropFirst_filter_length {f g : Packet → Bool} (hfg : ∀ k, f k = true → g k = true) {l : List Packet} (h : (l.find? f).isSome = true) :
    ((dropFirst f l).filter g).length + 1 = (l.filter g).length := by
  induction l with
  | nil => exact absurd h Bool.false_ne_true
  | cons k ks ih =>
    unfold dropFirst
    cases hk : f k with
    | true => rw [if_pos rfl, List.filter_cons_of_pos (hfg k hk), List.length_cons]
    | false =>
      rw [List.find?_cons_of_neg (by rw [hk]; exact Bool.false_ne_true)] at h
      rw [if_neg Bool.false_ne_true]
      cases hg : g k with
      | true => rw [List.filter_cons_of_pos hg, List.filter_cons_of_pos hg, List.length_cons, List.length_cons, ih h]
      | false =>
        have hneg : ¬ g k = true := by rw [hg]; exact Bool.false_ne_true
        rw [List.filter_cons_of_neg hneg, List.filter_cons_of_neg hneg, ih h]

/-- The port's messages are none. -/
def State.rxEmpty (s : State) (p : PortId) : Prop := (s.pool.inlet (clusterOf p)).filter (carriesRx p) = []

theorem State.rxEmpty_of_inlet {t : State} (h : t.pool.inlet (clusterOf p) = s.pool.inlet (clusterOf p)) (he : s.rxEmpty p) : t.rxEmpty p := by
  unfold State.rxEmpty
  rw [h]
  exact he

theorem State.rxCount_of_empty (h : s.rxEmpty p) : s.rxCount p = 0 := by
  unfold State.rxCount
  exact List.length_eq_zero_iff.mpr h

theorem State.rxTake_inlet (s : State) (p : PortId) (m : RxMsg) :
    (s.rxTake p m).pool.inlet (clusterOf p) = dropFirst (fun k => carriesRx p k && s.rxFresh p k) (s.pool.inlet (clusterOf p)) := by
  unfold State.rxTake Pool.inlet
  rw [State.modPort_pool]
  unfold State.modPool Pool.modQ Queue.keep
  simp only [Fin.getElem_fin, Vector.getElem_set_self]
  split <;> rfl

theorem State.rxTake_empty (h : s.onlyMsg p m) : (s.rxTake p m).rxEmpty p := by
  obtain ⟨hhead, hone⟩ := h
  have hfind : ((s.pool.inlet (clusterOf p)).find? fun k => carriesRx p k && s.rxFresh p k).isSome = true := by
    unfold State.rxHead at hhead
    split at hhead
    · exact absurd hhead (by simp)
    · obtain ⟨k, hk, -⟩ := Option.bind_eq_some_iff.mp hhead
      exact Option.isSome_iff_exists.mpr ⟨k, hk⟩
  have hlen := dropFirst_filter_length (g := carriesRx p) (fun k hk => (Bool.and_eq_true_iff.mp hk).1) hfind
  have hone' : ((s.pool.inlet (clusterOf p)).filter (carriesRx p)).length = 1 := hone
  unfold State.rxEmpty
  rw [State.rxTake_inlet]
  exact List.length_eq_zero_iff.mp (by omega)

/-- With no message of the port its firmware has nothing to drop and nothing to serve. -/
theorem State.served_of_empty (h : s.rxEmpty p) : s.served p = s := by
  have hnone : ∀ k ∈ (s.pool.queues[qRx (clusterOf p)]).closed, ¬ carriesRx p k = true := by
    intro k hk
    exact List.filter_eq_nil_iff.mp h k hk
  have hstale : ∀ k ∈ (s.pool.queues[qRx (clusterOf p)]).closed, s.rxStale p k = false := by
    intro k hk
    unfold State.rxStale
    rw [Bool.eq_false_iff.mpr (hnone k hk)]
    rfl
  have hdrop : s.dropStale p = s := by
    unfold State.dropStale
    dsimp only
    split
    · rfl
    · rw [List.filter_eq_nil_iff.mpr (fun k hk => by rw [hstale k hk]; exact Bool.false_ne_true)]
      have hkeep : (s.pool.queues[qRx (clusterOf p)]).keep ((s.pool.queues[qRx (clusterOf p)]).closed.filter fun k => !s.rxStale p k)
          = s.pool.queues[qRx (clusterOf p)] := by
        rw [List.filter_eq_self.mpr (fun k hk => by rw [hstale k hk]; rfl)]
        unfold Queue.keep
        exact if_pos (beq_self_eq_true _)
      have hpool : s.pool.modQ (qRx (clusterOf p)) (fun y => y.keep (y.closed.filter fun k => !s.rxStale p k)) = s.pool := by
        unfold Pool.modQ
        dsimp only
        rw [hkeep]
        simp
      rw [List.foldl_nil]
      unfold State.modPool
      dsimp only
      rw [hpool]
  unfold State.served
  rw [hdrop, State.rxCount_of_empty h]
  rfl

/-! ### Taking it -/

/-- Only extended messages are served as chunks, or not at all for their extension. -/
theorem not_ext_of_kind {x : Port} (h : kindOf x m ≠ .unsupported) (hc : kindOf x m ≠ .chunkRequest) (hk : kindOf x m ≠ .chunk) : m.isExt = false := by
  cases he : m.isExt with
  | false => rfl
  | true =>
    exfalso
    have hkind : kindOf x m = .unsupported ∨ kindOf x m = .chunkRequest ∨ kindOf x m = .chunk := by
      unfold kindOf
      dsimp only
      rw [if_pos he]
      split
      · exact .inl rfl
      · split
        · exact .inr (.inl rfl)
        · split
          · exact .inl rfl
          · exact .inr (.inr rfl)
    rcases hkind with h' | h' | h'
    · exact h h'
    · exact hc h'
    · exact hk h'

theorem State.takeMsg_eq (hext : m.isExt = false) (htgt : m.tgt = .sop) (hasm : ((s.port p).ctxOf m.tgt).asm = none) :
    s.takeMsg p m = (if (s.port p).pd.powerSource then (s.rxTake p m).modPort p (Port.endSinkTx s.now) else s.rxTake p m).newAms p := by
  have hport : (s.rxTake p m).port p = (s.port p).modCtx m.tgt fun c => { c with last := some ⟨m.epoch, m.header, m.ext, m.body⟩ } := by
    unfold State.rxTake
    rw [State.port_modPort, if_neg (by rw [hext]; exact Bool.false_ne_true)]
    rfl
  have hnote : (s.rxTake p m).noteUnserved p m = s.rxTake p m := by
    unfold State.noteUnserved
    exact if_neg (by rw [hext]; exact Bool.false_ne_true)
  have hcut : (s.rxTake p m).interrupt p m = s.rxTake p m := by
    unfold State.interrupt
    rw [hport, Port.ctxOf_modCtx_same, hasm]
  have hsrc : ((s.rxTake p m).port p).pd.powerSource = (s.port p).pd.powerSource := by
    rw [hport]
    rfl
  unfold State.takeMsg
  dsimp only
  rw [hnote, hcut, hsrc, htgt]
  rfl

end Sys2Proof.Machine
end


section
/-! What a message taken, and the AMS that may begin behind it, leave of the port (R169, R206). -/

namespace Sys2Proof.Machine

variable {s : State} {p : PortId} {m : RxMsg}

theorem Port.endSinkTx_eq (b : Beat) (x : Port) : ∃ ts w, x.endSinkTx b = { x with timers := ts, pd := { x.pd with capsWait := w } }
    ∧ (x.use tCaps ≠ .sinkTx → ts = x.timers) := by
  unfold Port.endSinkTx
  split
  · next h =>
    have hno : ∀ {ts : Vector Timer 12}, x.use tCaps ≠ .sinkTx → ts = x.timers := fun hne => absurd (eq_of_beq h) hne
    unfold Port.freeCaps
    (repeat' split) <;> exact ⟨_, _, rfl, hno⟩
  · exact ⟨_, _, rfl, fun _ => rfl⟩

theorem State.newAms_port (s : State) (p : PortId) : ∃ tr e k a,
    (s.newAms p).port p = { s.port p with pd := { (s.port p).pd with trans := tr, eprStep := e, swapMsg := k, partnerAms := a } }
      ∧ (tr = (s.port p).pd.trans ∨ tr = none) ∧ (s.deciding p = false → tr = (s.port p).pd.trans) := by
  unfold State.newAms
  split
  · next h =>
    rw [State.port_modPort, State.withdraw_port]
    exact ⟨_, _, _, _, rfl, .inr rfl, fun h' => absurd (h'.symm.trans h) Bool.false_ne_true⟩
  · exact ⟨_, _, _, _, rfl, .inl rfl, fun _ => rfl⟩

/-- A message on SOP, as it is taken: it touches the contexts, the wait of a Source's own AMS, and what waited on a decision. -/
theorem State.takeMsg_port (hext : m.isExt = false) (htgt : m.tgt = .sop) (hasm : ((s.port p).ctxOf m.tgt).asm = none) : ∃ c ts w tr e k a,
    (s.takeMsg p m).port p = { s.port p with ctx := c, timers := ts, pd := { (s.port p).pd with
        capsWait := w, trans := tr, eprStep := e, swapMsg := k, partnerAms := a } }
      ∧ ((s.port p).pd.powerSource = false ∨ (s.port p).use tCaps ≠ .sinkTx → ts = (s.port p).timers)
      ∧ (tr = (s.port p).pd.trans ∨ tr = none) ∧ (s.deciding p = false → tr = (s.port p).pd.trans) := by
  have htake : ∃ c, (s.rxTake p m).port p = { s.port p with ctx := c } := by
    unfold State.rxTake
    rw [State.port_modPort, if_neg (by rw [hext]; exact Bool.false_ne_true)]
    exact ⟨_, rfl⟩
  obtain ⟨c, hc⟩ := htake
  rw [State.takeMsg_eq hext htgt hasm]
  cases hsrc : (s.port p).pd.powerSource with
  | false =>
    rw [if_neg Bool.false_ne_true]
    obtain ⟨tr, e, k, a, hport, htr, hdec⟩ := (s.rxTake p m).newAms_port p
    rw [hc] at hport htr hdec
    exact ⟨c, _, _, tr, e, k, a, hport, fun _ => rfl, htr, hdec⟩
  | true =>
    rw [if_pos rfl]
    obtain ⟨tr, e, k, a, hport, htr, hdec⟩ := ((s.rxTake p m).modPort p (Port.endSinkTx s.now)).newAms_port p
    obtain ⟨ts, w, hend, hts⟩ := Port.endSinkTx_eq s.now ((s.rxTake p m).port p)
    rw [State.port_modPort, hend, hc] at hport htr hdec
    rw [hc] at hts
    exact ⟨c, ts, w, tr, e, k, a, hport, fun h => h.elim (fun h' => absurd h' (by decide)) hts, htr, hdec⟩

theorem Port.inPower_of_taken {x : Port} (h : x.inPower = false) {c : Vector Ctx 3} {ts : Vector Timer 12} {w : Option (Use × Beat)}
    {tr : Option Transition} {e : Nat} {k : Option SwapKind} {a : Bool} (htr : tr = x.pd.trans ∨ tr = none) :
    ({ x with ctx := c, timers := ts, pd := { x.pd with capsWait := w, trans := tr, eprStep := e, swapMsg := k, partnerAms := a } } : Port).inPower = false := by
  unfold Port.inPower at h ⊢
  rcases htr with rfl | rfl
  · exact h
  · rw [Bool.or_eq_false_iff] at h
    dsimp only
    rw [h.1]
    rfl

theorem State.takeMsg_inlet (hext : m.isExt = false) (htgt : m.tgt = .sop) (hasm : ((s.port p).ctxOf m.tgt).asm = none) (c : ClusterId) :
    (s.takeMsg p m).pool.inlet c = (s.rxTake p m).pool.inlet c := by
  have hnew (u : State) : (u.newAms p).pool.inlet c = u.pool.inlet c := by
    unfold State.newAms
    split
    · rw [State.modPort_pool, State.withdraw_inlet]
    · rfl
  rw [State.takeMsg_eq hext htgt hasm, hnew]
  split <;> rfl

/-- No decision of the port is outstanding once its next message is taken (R206). -/
theorem State.takeMsg_decisions (hext : m.isExt = false) (htgt : m.tgt = .sop) (hasm : ((s.port p).ctxOf m.tgt).asm = none) :
    (s.takeMsg p m).policy.decisions.filter (fun d => d.port == p) = [] := by
  rw [State.takeMsg_eq hext htgt hasm]
  generalize (if (s.port p).pd.powerSource = true then (s.rxTake p m).modPort p (Port.endSinkTx s.now) else s.rxTake p m) = u
  unfold State.newAms
  split
  · unfold State.withdraw
    rw [State.modPort_policy]
    dsimp only
    rw [List.filter_filter, List.filter_eq_nil_iff]
    intro d _
    simp
  · next h =>
    unfold State.deciding at h
    rw [List.filter_eq_nil_iff]
    intro d hd hp
    exact h (List.any_eq_true.mpr ⟨d, hd, hp⟩)

theorem State.takeMsg_now (s : State) (p : PortId) (m : RxMsg) : (s.takeMsg p m).now = s.now := State.now_of_rest (State.takeMsg_rest ..)
theorem State.takeMsg_classes (s : State) (p : PortId) (m : RxMsg) : (s.takeMsg p m).policy.classes = s.policy.classes :=
  (congrArg (fun r => r.2.2.2.2.2.2.2.2) (State.takeMsg_rest s p m) :)

/-! ### The AMS behind it -/

theorem State.resumeAms_cases (s : State) (p : PortId) : s.resumeAms p = s ∨ s.resumeAms p = s.launch p := by
  unfold State.resumeAms
  dsimp only
  split
  · exact .inr rfl
  · exact .inl rfl

/-- Nothing begins where no AMS of a Source waits, or another is open (R169). -/
theorem State.resumeAms_stays (h : (s.port p).pd.start = none ∨ (s.port p).pd.powerSource = false ∨ (s.port p).pd.partnerAms = true
    ∨ (s.port p).pd.ownAms = true ∨ (s.port p).inPower = true) : s.resumeAms p = s := by
  unfold State.resumeAms
  dsimp only
  refine if_neg fun hc => ?_
  simp only [Bool.and_eq_true, Bool.not_eq_true'] at hc
  rcases h with h | h | h | h | h <;> simp [h] at hc

/-- A command for the one message of the port: it acts on it, and an AMS may begin behind it. -/
theorem State.onMsg_alone {k : MsgKind} {act : State → RxMsg → State} (honly : s.onlyMsg p m) (hk : kindOf (s.port p) m = k)
    (hext : m.isExt = false) (htgt : m.tgt = .sop) (hasm : ((s.port p).ctxOf m.tgt).asm = none)
    (hin : (act (s.takeMsg p m) m).pool.inlet (clusterOf p) = (s.takeMsg p m).pool.inlet (clusterOf p)) :
    s.onMsg p k act = (act (s.takeMsg p m) m).resumeAms p ∧ (act (s.takeMsg p m) m).rxEmpty p := by
  have hempty : (act (s.takeMsg p m) m).rxEmpty p :=
    State.rxEmpty_of_inlet (hin.trans (State.takeMsg_inlet hext htgt hasm _)) (State.rxTake_empty honly)
  refine ⟨?_, hempty⟩
  unfold State.onMsg
  rw [honly.1]
  dsimp only
  rw [if_pos (by rw [hk]; exact beq_self_eq_true _), State.served_of_empty hempty]

/-- What runs out on a port: its timers, and the answer it awaits. -/
structure Vigil where
  timers : Vector Timer 12
  await : Await

/-- The timers of the port and the answer it awaits. -/
def Port.vigil (x : Port) : Vigil := ⟨x.timers, x.pd.await⟩

theorem Port.timers_of_vigil {x y : Port} (h : x.vigil = y.vigil) : x.timers = y.timers := congrArg Vigil.timers h

theorem State.launch_vigil (s : State) (p : PortId) : ((s.launch p).port p).vigil = (s.port p).vigil := by
  have hqueue (u : State) (t : Tgt) (why : Purpose) (bytes : List Byte) : ((u.queueTx p t why bytes).port p).vigil = (u.port p).vigil := by
    have hs := State.queueTx_sans u p p t why bytes
    exact congrArg₂ Vigil.mk (Port.timers_of_sans hs) (Pd.await_of_terms (Port.terms_of_sans hs))
  have hmod (u : State) {f : Port → Port} (h : ∀ x, (f x).vigil = x.vigil) : ((u.modPort p f).port p).vigil = (u.port p).vigil := by
    rw [State.port_modPort, h]
  have hext (u : State) (t : Tgt) (why : Purpose) (n : Nat) (d : List Byte) : ((u.sendExt p t why n d).port p).vigil = (u.port p).vigil := by
    unfold State.sendExt
    exact (hqueue ..).trans (hmod _ fun _ => rfl)
  have hcaps (u : State) : ((u.sendCaps p).port p).vigil = (u.port p).vigil := by
    unfold State.sendCaps
    dsimp only
    split
    · exact (hext ..).trans (hmod _ fun _ => rfl)
    · exact (hqueue ..).trans (hmod _ fun _ => rfl)
  have hstart : ((s.modPort p fun x => { x with pd := { x.pd with start := none, ownAms := true, first := true } }).port p).vigil = (s.port p).vigil :=
    hmod _ fun _ => rfl
  unfold State.launch
  split
  · rfl
  · dsimp only
    split
    · exact (hcaps _).trans hstart
    · refine (hqueue ..).trans (Eq.trans (hmod _ ?_) hstart)
      intro x
      rfl
    · exact (hext ..).trans hstart
    · exact (hqueue ..).trans hstart

theorem State.resumeAms_vigil (s : State) (p : PortId) : ((s.resumeAms p).port p).vigil = (s.port p).vigil := by
  rcases s.resumeAms_cases p with h | h <;> rw [h]
  exact State.launch_vigil ..
theorem State.resumeAms_pact (s : State) (p : PortId) : ((s.resumeAms p).port p).pact = (s.port p).pact := by
  rcases s.resumeAms_cases p with h | h <;> rw [h]
  exact State.launch_pact ..
theorem State.resumeAms_body (s : State) (p : PortId) : ((s.resumeAms p).port p).body = (s.port p).body := by
  rcases s.resumeAms_cases p with h | h <;> rw [h]
  exact State.launch_body ..

end Sys2Proof.Machine
end


section
/-! The answers to a Request and to Source_Capabilities: the clauses of O30 on negotiation (R202–R206, R219). -/

namespace Sys2Proof.Machine

variable {s : State} {p : PortId} {m : RxMsg}

/-! ### A command for the one message -/

/-- A command for the one message of the port does what it does on the port that has taken it; an AMS may begin behind it. -/
theorem gives_onMsg {c : Instr} {k : MsgKind} {act : State → RxMsg → State} {t : State} {Q : State → Prop}
    (he : exec c s = .next (s.onMsg p k act)) (honly : s.onlyMsg p m) (hk : kindOf (s.port p) m = k)
    (hext : m.isExt = false) (htgt : m.tgt = .sop) (hasm : ((s.port p).ctxOf m.tgt).asm = none) (hact : act (s.takeMsg p m) m = t)
    (hin : t.pool.inlet (clusterOf p) = (s.takeMsg p m).pool.inlet (clusterOf p)) (hQ : t.rxEmpty p → Q (t.resumeAms p)) : gives c s Q := by
  subst hact
  obtain ⟨hmsg, hempty⟩ := State.onMsg_alone honly hk hext htgt hasm hin
  exact ⟨_, he.trans (congrArg Host.Outcome.next hmsg), hQ hempty⟩

/-- A message queued opens no AMS of the partner's and ends none. -/
theorem State.queueTx_partnerAms (s : State) (p : PortId) (t : Tgt) (why : Purpose) (bytes : List Byte) :
    ((s.queueTx p t why bytes).port p).pd.partnerAms = (s.port p).pd.partnerAms := by
  have hload (u : State) : ((u.loadFlight p).port p).pd.partnerAms = (u.port p).pd.partnerAms := by
    unfold State.loadFlight
    split
    · rfl
    · split
      · split
        · rw [State.port_modPort]
        · rfl
      · rfl
  unfold State.queueTx
  split
  · rw [State.port_modPort]
  · dsimp only
    split
    · exact hload _
    · rw [State.port_modPort, State.modPool_port]

/-- An answer that goes out leaves an AMS open. -/
theorem State.reply_busy (s : State) (p : PortId) (why : Purpose) (bytes : List Byte) :
    ((s.reply p why bytes).port p).pd.partnerAms = true ∨ ((s.reply p why bytes).port p).pd.ownAms = true := by
  have hown : ((s.reply p why bytes).port p).pd.ownAms = (s.port p).pd.ownAms := Pd.ownAms_of_terms (Port.terms_of_sans (State.reply_sans ..))
  have hpartner : ((s.reply p why bytes).port p).pd.partnerAms = ((s.port p).pd.partnerAms || !(s.port p).pd.ownAms) := by
    unfold State.reply
    rw [State.queueTx_partnerAms, State.port_modPort]
  rw [hown, hpartner]
  cases (s.port p).pd.ownAms with
  | true => exact .inr rfl
  | false => exact .inl (Bool.or_true _)

theorem State.reply_resumes (s : State) (p : PortId) (why : Purpose) (bytes : List Byte) : (s.reply p why bytes).resumeAms p = s.reply p why bytes := by
  refine State.resumeAms_stays ?_
  rcases s.reply_busy p why bytes with h | h
  · exact .inr (.inr (.inl h))
  · exact .inr (.inr (.inr (.inl h)))

theorem Pd.rejectHard_of_terms {d e : Pd} (h : d.terms = e.terms) : d.rejectHard = e.rejectHard := (congrArg Pd.rejectHard h :)
theorem Pd.request_of_terms {d e : Pd} (h : d.terms = e.terms) : d.request = e.request := (congrArg Pd.request h :)
theorem Pd.rxCaps_of_terms {d e : Pd} (h : d.terms = e.terms) : d.rxCaps = e.rxCaps := (congrArg Pd.rxCaps h :)
theorem Pd.lastReqBeat_of_terms {d e : Pd} (h : d.terms = e.terms) : d.lastReqBeat = e.lastReqBeat := (congrArg Pd.lastReqBeat h :)

/-! ### REQUEST (R202) -/

/-- A revision settles in the contexts, and with it the Rp presented (R172). -/
theorem Port.settleSop_eq (r : BitVec 2) (x : Port) : ∃ c p1 p2, x.settleSop r = { x with ctx := c, tc := { x.tc with pres1 := p1, pres2 := p2 } } := by
  unfold Port.settleSop Port.refreshRp Port.modCtx
  exact ⟨_, _, _, rfl⟩

/-- The port as its firmware acts on a Request: the wait for it is over and its revision settles. -/
def Port.requestTaken (m : RxMsg) (x : Port) : Port :=
  let y := (if x.use tResponse == .senderResponse then x.disarm tResponse else x).settleSop (revOf m.header)
  { y with pd := { y.pd with await := .none, partnerAms := y.pd.partnerAms || !y.pd.ownAms } }

theorem Port.requestTaken_eq (m : RxMsg) (x : Port) : ∃ c ts p1 p2 a, x.requestTaken m
    = { x with ctx := c, timers := ts, tc := { x.tc with pres1 := p1, pres2 := p2 }, pd := { x.pd with await := .none, partnerAms := a } } := by
  unfold Port.requestTaken
  dsimp only
  split
  · obtain ⟨c, p1, p2, h⟩ := (x.disarm tResponse).settleSop_eq (revOf m.header)
    rw [h]
    exact ⟨c, _, p1, p2, _, rfl⟩
  · obtain ⟨c, p1, p2, h⟩ := x.settleSop_eq (revOf m.header)
    rw [h]
    exact ⟨c, _, p1, p2, _, rfl⟩

/-- The port as it rejects a Request (R202). -/
def Port.rejects (x : Port) : Port := { x with pd := { x.pd with trans := none, rejectHard := !x.contractValid } }

/-- A Request that awaits its answer is expected. -/
theorem request_expected {x : Port} (htgt : m.tgt = .sop) (hsrc : x.pd.powerSource = true) (hpower : x.inPower = false)
    (hawait : x.pd.await = .requestAfterCaps) :
    ¬ (!(m.tgt == .sop && x.pd.powerSource && !x.inPower && (x.pd.await == .requestAfterCaps || (x.pd.await == .none && !x.pd.ownAms)))) = true := by
  rw [htgt, hsrc, hpower, hawait]
  exact Bool.false_ne_true

theorem request_rejected (honly : s.onlyMsg p m) (htgt : m.tgt = .sop) (hk : kindOf (s.port p) m = .request)
    (hsrc : (s.port p).pd.powerSource = true) (hpower : (s.port p).inPower = false) (hawait : (s.port p).pd.await = .requestAfterCaps)
    (hbad : (readRequest (s.port p).lastCaps (s.port p).pd.contract.eprMode (m.word 0) (if m.type = 9 then some (m.word 1) else none)).valid = false)
    (hasm : ((s.port p).ctxOf m.tgt).asm = none) :
    gives (.request p) s fun t => t.txWaits p .sop (ctlMsg 4) = true
      ∧ (t.port p).pd.trans = none
      ∧ (t.port p).pd.contract = (s.port p).pd.contract
      ∧ (t.port p).pd.rejectHard = !(s.port p).contractValid
      ∧ (t.port p).pd.await = .none
      ∧ t.rxCount p = 0
      ∧ (t.port p).stage = (s.port p).stage
      ∧ (t.port p).guard = (s.port p).guard
      ∧ (t.port p).tc.st = (s.port p).tc.st := by
  have hext := not_ext_of_kind (x := s.port p) (m := m) (by rw [hk]; decide) (by rw [hk]; decide) (by rw [hk]; decide)
  obtain ⟨c, ts, w, tr, e, k, a, hu, -, htr, -⟩ := State.takeMsg_port hext htgt hasm
  have hquiet := Port.inPower_of_taken hpower (c := c) (ts := ts) (w := w) (e := e) (k := k) (a := a) htr
  rw [← hu] at hquiet
  obtain ⟨c', ts', p1, p2, a', htaken⟩ := ((s.takeMsg p m).port p).requestTaken_eq m
  have hv : ((s.takeMsg p m).modPort p (Port.requestTaken m)).port p = _ := (State.port_modPort ..).trans htaken
  rw [hu] at hv
  have hread := congrArg (fun x : Port => (readRequest x.lastCaps x.pd.contract.eprMode (m.word 0) (if m.type = 9 then some (m.word 1) else none)).valid) hv
  refine gives_onMsg (k := .request) rfl honly hk hext htgt hasm
    (t := (((s.takeMsg p m).modPort p (Port.requestTaken m)).modPort p Port.rejects).reply p .reject (ctlMsg 4))
    ((if_neg (request_expected htgt (by rw [hu]; exact hsrc) hquiet (by rw [hu]; exact hawait))).trans
      (if_pos ((congrArg Bool.not (hread.trans hbad)).trans rfl))) (by simp) fun hempty => ?_
  rw [State.reply_resumes]
  have hs := State.reply_sans (((s.takeMsg p m).modPort p (Port.requestTaken m)).modPort p Port.rejects) p p .reject (ctlMsg 4)
  have hw : (((s.takeMsg p m).modPort p (Port.requestTaken m)).modPort p Port.rejects).port p = _ :=
    (State.port_modPort ..).trans (congrArg Port.rejects hv)
  generalize ((s.takeMsg p m).modPort p (Port.requestTaken m)).modPort p Port.rejects = w at hs hw hempty
  have ht := Port.terms_of_sans hs
  refine ⟨State.reply_waits .., ?_, ?_, ?_, ?_, State.rxCount_of_empty hempty, ?_, ?_, ?_⟩
  · rw [Pd.trans_of_terms ht, hw]
    rfl
  · rw [Pd.contract_of_terms ht, hw]
    rfl
  · rw [Pd.rejectHard_of_terms ht, hw]
    rfl
  · rw [Pd.await_of_terms ht, hw]
    rfl
  · rw [Port.stage_of_sans hs, hw]
    rfl
  · rw [Port.guard_of_sans hs, hw]
    rfl
  · rw [Port.tc_of_sans hs, hw]
    rfl

end Sys2Proof.Machine
end


section
/-! The answers that an accepted Request, a deadline and received capabilities bring: the clauses of O30 (R202–R206, R219). -/

namespace Sys2Proof.Machine

variable {s : State} {p : PortId} {m : RxMsg}

@[simp] theorem State.queueTx_policy (s : State) (p : PortId) (t : Tgt) (why : Purpose) (bytes : List Byte) : (s.queueTx p t why bytes).policy = s.policy := by
  have hload (u : State) : (u.loadFlight p).policy = u.policy := by
    unfold State.loadFlight
    (repeat' split) <;> rfl
  unfold State.queueTx
  split
  · rfl
  · dsimp only
    split
    · exact hload _
    · rfl
@[simp] theorem State.reply_policy (s : State) (p : PortId) (why : Purpose) (bytes : List Byte) : (s.reply p why bytes).policy = s.policy :=
  State.queueTx_policy ..

/-- A decision point whose lookup does not ask is acted on at once (R195). -/
theorem State.atPoint_decided {point : Nat} {mt : Rule → Bool} (h : ((s.classOf (s.port p)).lookup point mt).outcome ≠ ocAsk) (eop : Beat) (obj pdo : Word) :
    s.atPoint p point mt eop obj pdo = s.act p (s.port p).classIdx point ((s.classOf (s.port p)).lookup point mt).outcome
      (((s.classOf (s.port p)).lookup point mt).rule.map fun i => (s.classOf (s.port p)).rules[i]) 0 := by
  have hres : s.resolve p point ((s.classOf (s.port p)).lookup point mt) eop obj pdo = (s, some ((s.classOf (s.port p)).lookup point mt).outcome) := by
    unfold State.resolve
    exact if_neg h
  unfold State.atPoint
  dsimp only
  rw [hres]

theorem State.atPoint_accepts {mt : Rule → Bool} (h : ((s.classOf (s.port p)).lookup ptSrcRequest mt).outcome = ocAccept) (eop : Beat) (obj pdo : Word) :
    s.atPoint p ptSrcRequest mt eop obj pdo = s.reply p .accept (ctlMsg 3) := by
  rw [State.atPoint_decided (by rw [h]; decide), h]
  exact (if_pos rfl).trans (if_pos rfl)

theorem State.classOf_of {t : State} {x y : Port} (hc : t.policy.classes = s.policy.classes) (hcfg : x.cfg = y.cfg) : t.classOf x = s.classOf y := by
  have hidx : x.classIdx = y.classIdx := by
    unfold Port.classIdx
    rw [hcfg]
  exact congrArg₂ (fun (v : Vector Class 16) (i : Fin 16) => v[i]) hc hidx

/-! ### A Request accepted -/

/-- The port as it puts a valid Request to its rules (R202, R214). -/
def Port.weighs (b : Beat) (q : Req) (req obj : Word) (x : Port) : Port :=
  let old := x.oldVI
  let tr : Transition := { source := true, pos := BitVec.ofNat 4 q.pos, type := BitVec.ofNat 3 q.type, v := q.v, i := q.i
                           oldV := old.1, oldI := old.2, mismatch := q.mismatch, epr := q.epr, obj := obj
                           moving := none, accepted := false, sent := false }
  let y : Port := { x with pd := { x.pd with trans := some tr, lastReqBeat := b, request := req } }
  if !y.pd.contract.eprMode && y.pd.contract.type == 2 then y.arm tKeep .ppsTimeout (ms 13500) else y

theorem Port.weighs_eq (b : Beat) (q : Req) (req obj : Word) (x : Port) : ∃ ts tr, x.weighs b q req obj
    = { x with timers := ts, pd := { x.pd with trans := some tr, lastReqBeat := b, request := req } }
      ∧ (tr.source, tr.v, tr.i, tr.accepted, tr.obj) = (true, q.v, q.i, false, obj) := by
  unfold Port.weighs
  dsimp only
  split <;> exact ⟨_, _, rfl, rfl⟩

/-- The Request of message `m` as the port reads it (R202). -/
def Port.reads (m : RxMsg) (x : Port) : Req :=
  readRequest x.lastCaps x.pd.contract.eprMode (m.word 0) (if m.type = 9 then some (m.word 1) else none)

/-- The port's state as a Request on it is put to the rules. -/
def State.weighed (s : State) (p : PortId) (m : RxMsg) : State :=
  (s.takeMsg p m).modPort p (Port.requestTaken m) |>.modPort p
    (Port.weighs (s.takeMsg p m).now ((s.port p).reads m) (m.word 0) ((s.port p).lastCaps.getD (((s.port p).reads m).pos - 1) 0))

theorem request_accepted {q : Req} (honly : s.onlyMsg p m) (htgt : m.tgt = .sop) (hk : kindOf (s.port p) m = .request)
    (hsrc : (s.port p).pd.powerSource = true) (hpower : (s.port p).inPower = false) (hawait : (s.port p).pd.await = .requestAfterCaps)
    (hq : q = readRequest (s.port p).lastCaps (s.port p).pd.contract.eprMode (m.word 0) (if m.type = 9 then some (m.word 1) else none))
    (hvalid : q.valid = true) (hout : ((s.classOf (s.port p)).lookup ptSrcRequest (srcRuleMatches (s.port p) q)).outcome = ocAccept)
    (hasm : ((s.port p).ctxOf m.tgt).asm = none) :
    gives (.request p) s fun t => t.txWaits p .sop (ctlMsg 3) = true
      ∧ ((t.port p).pd.trans.map fun e => (e.source, e.v, e.i, e.accepted, e.obj)) = some (true, q.v, q.i, false, (s.port p).lastCaps.getD (q.pos - 1) 0)
      ∧ (t.port p).pd.request = m.word 0
      ∧ (t.port p).pd.lastReqBeat = s.now
      ∧ (t.port p).pd.contract = (s.port p).pd.contract
      ∧ t.rxCount p = 0
      ∧ t.policy.decisions.filter (fun d => d.port == p) = []
      ∧ (t.port p).stage = (s.port p).stage
      ∧ (t.port p).guard = (s.port p).guard := by
  have hext := not_ext_of_kind (x := s.port p) (m := m) (by rw [hk]; decide) (by rw [hk]; decide) (by rw [hk]; decide)
  obtain ⟨c, ts, w, tr, e, k, a, hu, -, htr, -⟩ := State.takeMsg_port hext htgt hasm
  have hquiet := Port.inPower_of_taken hpower (c := c) (ts := ts) (w := w) (e := e) (k := k) (a := a) htr
  rw [← hu] at hquiet
  have hq' : (s.port p).reads m = q := hq.symm
  obtain ⟨c', ts', p1, p2, a', htaken⟩ := ((s.takeMsg p m).port p).requestTaken_eq m
  have hv : ((s.takeMsg p m).modPort p (Port.requestTaken m)).port p = _ := (State.port_modPort ..).trans htaken
  rw [hu] at hv
  have hread : (((s.takeMsg p m).modPort p (Port.requestTaken m)).port p).reads m = (s.port p).reads m := by rw [hv]; rfl
  have hcaps : (((s.takeMsg p m).modPort p (Port.requestTaken m)).port p).lastCaps = (s.port p).lastCaps := by rw [hv]; rfl
  have hmatch : srcRuleMatches (((s.takeMsg p m).modPort p (Port.requestTaken m)).port p) = srcRuleMatches (s.port p) := by rw [hv]; rfl
  obtain ⟨tsw, trw, hweighs, htrw⟩ := Port.weighs_eq (s.takeMsg p m).now ((s.port p).reads m) (m.word 0)
    ((s.port p).lastCaps.getD (((s.port p).reads m).pos - 1) 0) (((s.takeMsg p m).modPort p (Port.requestTaken m)).port p)
  have hw : (s.weighed p m).port p = _ := (State.port_modPort ..).trans hweighs
  rw [hv, s.takeMsg_now p m] at hw
  have hclass : (s.weighed p m).classOf ((s.weighed p m).port p) = s.classOf (s.port p) := State.classOf_of (s.takeMsg_classes p m) (by rw [hw])
  refine gives_onMsg (k := .request) rfl honly hk hext htgt hasm (t := (s.weighed p m).reply p .accept (ctlMsg 3))
    ((if_neg (request_expected htgt (by rw [hu]; exact hsrc) hquiet (by rw [hu]; exact hawait))).trans ((if_neg ?_).trans ?_))
    ((State.reply_inlet ..).trans rfl) fun hempty => ?_
  · show ¬ (!((((s.takeMsg p m).modPort p (Port.requestTaken m)).port p).reads m).valid) = true
    rw [hread, hq', hvalid]
    exact Bool.false_ne_true
  · rw [← State.atPoint_accepts (mt := srcRuleMatches (s.port p) ((s.port p).reads m)) (by rw [hclass, hq']; exact hout) m.eop (m.word 0)
      ((s.port p).lastCaps.getD (((s.port p).reads m).pos - 1) 0)]
    unfold State.weighed
    rw [← hread, ← hcaps, ← hmatch]
    rfl
  · rw [State.reply_resumes]
    have hs := State.reply_sans (s.weighed p m) p p .accept (ctlMsg 3)
    have hdec : (s.weighed p m).policy.decisions.filter (fun d => d.port == p) = [] := State.takeMsg_decisions hext htgt hasm
    generalize s.weighed p m = v at hs hw hempty hdec
    have ht := Port.terms_of_sans hs
    refine ⟨State.reply_waits .., ?_, ?_, ?_, ?_, State.rxCount_of_empty hempty, ?_, ?_, ?_⟩
    · rw [Pd.trans_of_terms ht, hw, ← hq']
      exact congrArg some htrw
    · rw [Pd.request_of_terms ht, hw]
    · rw [Pd.lastReqBeat_of_terms ht, hw]
    · rw [Pd.contract_of_terms ht, hw]
    · rw [State.reply_policy, hdec]
    · rw [Port.stage_of_sans hs, hw]
    · rw [Port.guard_of_sans hs, hw]

end Sys2Proof.Machine
end


section
/-! A decision at its deadline, and received capabilities: the clauses of O30 (R204, R205, R219). -/

namespace Sys2Proof.Machine

variable {s : State} {p : PortId} {m : RxMsg}

/-! ### DECISION_DEADLINE (R204, R205) -/

@[simp] theorem State.post_policy (s : State) (code port : Nat) (d : List Byte) : (s.post code port d).policy = s.policy := by
  unfold State.post
  split <;> rfl

/-- The answer to a Request by its outcome (R203). -/
theorem State.requestOutcome_spec (s : State) (p : PortId) (oc : Nat) :
    (s.requestOutcome p oc).txWaits p .sop (ctlMsg (if oc = ocAccept then 3 else if oc = ocWait then 12 else 4)) = true
      ∧ (s.requestOutcome p oc).policy = s.policy
      ∧ (oc ≠ ocAccept → ((s.requestOutcome p oc).port p).pd.trans = none)
      ∧ ((s.requestOutcome p oc).port p).pd.contract = (s.port p).pd.contract
      ∧ ((s.requestOutcome p oc).port p).stage = (s.port p).stage := by
  have hsaid (u : State) (why : Purpose) (bytes : List Byte) : ((u.reply p why bytes).port p).pd.trans = (u.port p).pd.trans
      ∧ ((u.reply p why bytes).port p).pd.contract = (u.port p).pd.contract ∧ ((u.reply p why bytes).port p).stage = (u.port p).stage :=
    have hs := State.reply_sans u p p why bytes
    ⟨Pd.trans_of_terms (Port.terms_of_sans hs), Pd.contract_of_terms (Port.terms_of_sans hs), Port.stage_of_sans hs⟩
  unfold State.requestOutcome
  by_cases ha : oc = ocAccept
  · rw [if_pos ha, if_pos ha]
    obtain ⟨-, hc, hst⟩ := hsaid s .accept (ctlMsg 3)
    exact ⟨State.reply_waits .., State.reply_policy .., fun h => absurd ha h, hc, hst⟩
  · rw [if_neg ha, if_neg ha]
    dsimp only
    generalize hu : s.modPort p _ = u
    have hport : u.port p = { s.port p with pd := { (s.port p).pd with trans := none, rejectHard := false } } := by
      rw [← hu, State.port_modPort]
    have hpol : u.policy = s.policy := by
      rw [← hu, State.modPort_policy]
    by_cases hw : oc = ocWait
    · rw [if_pos hw, if_pos hw]
      obtain ⟨ht, hc, hst⟩ := hsaid u .wait (ctlMsg 12)
      exact ⟨State.reply_waits .., (State.reply_policy ..).trans hpol, fun _ => ht.trans (by rw [hport]), hc.trans (by rw [hport]),
        hst.trans (by rw [hport])⟩
    · rw [if_neg hw, if_neg hw]
      obtain ⟨ht, hc, hst⟩ := hsaid u .reject (ctlMsg 4)
      exact ⟨State.reply_waits .., (State.reply_policy ..).trans hpol, fun _ => ht.trans (by rw [hport]), hc.trans (by rw [hport]),
        hst.trans (by rw [hport])⟩

theorem decision_defaults {id : Nat} {d : Decision}
    (hd : s.policy.decisions.find? (fun d => d.id == id && !(d.deadline.later s.now) && s.fw d.port) = some d) (hpoint : d.point = ptSrcRequest) :
    gives (.decisionDeadline id) s fun t => t.txWaits d.port .sop (ctlMsg (if d.dflt = ocAccept then 3 else if d.dflt = ocWait then 12 else 4)) = true
      ∧ t.policy.decisions = s.policy.decisions.filter (fun e => e.id != id)
      ∧ (d.dflt ≠ ocAccept → (t.port d.port).pd.trans = none)
      ∧ (t.port d.port).pd.contract = (s.port d.port).pd.contract
      ∧ (t.port d.port).stage = (s.port d.port).stage := by
  obtain rfl : d.id = id := by
    have hfound := List.find?_some hd
    rw [Bool.and_eq_true, Bool.and_eq_true] at hfound
    exact eq_of_beq hfound.1.1
  have he : exec (.decisionDeadline d.id) s = .next (((s.modPolicy fun q => { q with decisions := q.decisions.filter fun e => e.id != d.id }).post 0xC3 d.port.val
      (closedPayload d.id d.point 1 d.dflt s.now)).requestOutcome d.port d.dflt) := by
    show execDecisionDeadline d.id s = _
    unfold execDecisionDeadline
    rw [hd]
    dsimp only
    exact congrArg Host.Outcome.next (if_pos hpoint)
  refine gives_of_exec he ?_
  generalize hu : State.post _ 0xC3 d.port.val _ = u
  have hport : u.port d.port = s.port d.port := by
    rw [← hu, State.post_port]
    rfl
  have hpol : u.policy.decisions = s.policy.decisions.filter (fun e => e.id != d.id) := by
    rw [← hu, State.post_policy]
    rfl
  obtain ⟨hwaits, hsame, htrans, hcontract, hstage⟩ := u.requestOutcome_spec d.port d.dflt
  rw [hport] at hcontract hstage
  exact ⟨hwaits, (congrArg Policy.decisions hsame).trans hpol, htrans, hcontract, hstage⟩

/-! ### SOURCE_CAPABILITIES (R219) -/

theorem State.serviceDomain_of_rest {t : State} (h : t.rest = s.rest) : t.serviceDomain = s.serviceDomain := by
  have hb : t.board.still = s.board.still := congrArg (fun r => r.2.2.2.2.2.2.1) h
  unfold State.serviceDomain
  rw [← Board.still_svcOn, ← Board.still_mainOn, hb, Board.still_svcOn, Board.still_mainOn]

/-- A Request is made from the current that the Rp seen allows (R219). -/
theorem requestFive_of_rpSeen {x y : Port} (h : x.tc.rpSeen = y.tc.rpSeen) (objs : List Word) (svc mis : Bool) :
    requestFive objs x svc mis = requestFive objs y svc mis := by
  unfold requestFive
  rw [h]
theorem requestMatch_of_rpSeen {x y : Port} (h : x.tc.rpSeen = y.tc.rpSeen) (c : Class) (r : Option Rule) (objs : List Word) (svc : Bool) :
    requestMatch c r objs x svc = requestMatch c r objs y svc := by
  unfold requestMatch
  rw [requestFive_of_rpSeen h]

/-- The port as its firmware keeps received capabilities. -/
def Port.capsTaken (m : RxMsg) (b : Beat) (x : Port) : Port :=
  let y := (if x.use tCaps == .sinkWaitCap || x.use tCaps == .sinkRequest then x.freeCaps b else x).settleSop (revOf m.header)
  { y with pd := { y.pd with rxCaps := m.words, partnerAms := true } }

theorem Port.capsTaken_eq (m : RxMsg) (b : Beat) (x : Port) : ∃ c ts p1 p2 w, x.capsTaken m b
    = { x with ctx := c, timers := ts, tc := { x.tc with pres1 := p1, pres2 := p2 }, pd := { x.pd with capsWait := w, rxCaps := m.words, partnerAms := true } } := by
  have hfree : ∃ ts w, x.freeCaps b = { x with timers := ts, pd := { x.pd with capsWait := w } } := by
    unfold Port.freeCaps
    (repeat' split) <;> exact ⟨_, _, rfl⟩
  unfold Port.capsTaken
  dsimp only
  split
  · obtain ⟨ts, w, hf⟩ := hfree
    obtain ⟨c, p1, p2, h⟩ := (x.freeCaps b).settleSop_eq (revOf m.header)
    rw [h, hf]
    exact ⟨c, ts, p1, p2, w, rfl⟩
  · obtain ⟨c, p1, p2, h⟩ := x.settleSop_eq (revOf m.header)
    rw [h]
    exact ⟨c, _, p1, p2, _, rfl⟩

/-- The Request that SNK_SELECT names goes out as an answer (R219). -/
theorem State.atPoint_selects {mt : Rule → Bool} {oc dflt : Nat} {i : Option (Fin 32)}
    (h : (s.classOf (s.port p)).lookup ptSnkSelect mt = ⟨oc, i, dflt⟩) (hask : oc ≠ ocAsk) (eop : Beat) (obj pdo : Word) :
    s.atPoint p ptSnkSelect mt eop obj pdo
      = s.selectOutcome p (s.port p).classIdx oc (i.map fun j => (s.classOf (s.port p)).rules[j]) 0 := by
  rw [State.atPoint_decided (by rw [h]; exact hask), h]
  rfl

theorem State.selectOutcome_names {cls : Fin 16} {oc : Nat} {r : Option Rule} {w : Word}
    (h : (if oc = ocMatch then requestMatch s.policy.classes[cls] r (s.port p).pd.rxCaps (s.port p) s.serviceDomain
      else requestFive (s.port p).pd.rxCaps (s.port p) s.serviceDomain false) = w) :
    s.selectOutcome p cls oc r 0 = (s.modPort p fun x => { x with pd := { x.pd with request := w } }).reply p .request (datMsg 2 [w]) := by
  subst h
  unfold State.selectOutcome
  dsimp only
  rw [if_neg (by decide)]

/-- The port as it answers capabilities with the Request `w`. -/
theorem State.select_answers {v : State} {w : Word} :
    ((v.modPort p fun x => { x with pd := { x.pd with request := w } }).reply p .request (datMsg 2 [w])).txWaits p .sop (datMsg 2 [w]) = true
      ∧ (((v.modPort p fun x => { x with pd := { x.pd with request := w } }).reply p .request (datMsg 2 [w])).port p).sans
        = ({ v.port p with pd := { (v.port p).pd with request := w } } : Port).sans := by
  refine ⟨State.reply_waits .., ?_⟩
  rw [State.reply_sans, State.port_modPort]

/-- Received capabilities are kept and answered with the Request of the outcome (R219). -/
theorem capabilities_answered {oc dflt : Nat} {i : Option (Fin 32)} {w : Word} (honly : s.onlyMsg p m) (htgt : m.tgt = .sop)
    (hk : kindOf (s.port p) m = .sourceCaps) (hsrc : (s.port p).pd.powerSource = false) (hpower : (s.port p).inPower = false)
    (hawait : (s.port p).pd.await = .none)
    (hlook : (s.classOf (s.port p)).lookup ptSnkSelect (snkRuleMatches (s.classOf (s.port p)) m.words) = ⟨oc, i, dflt⟩) (hask : oc ≠ ocAsk)
    (hw : w = if oc = ocMatch then requestMatch (s.classOf (s.port p)) (i.map fun j => (s.classOf (s.port p)).rules[j]) m.words (s.port p) s.serviceDomain
      else requestFive m.words (s.port p) s.serviceDomain false)
    (hasm : ((s.port p).ctxOf m.tgt).asm = none) :
    gives (.sourceCapabilities p) s fun t => (t.port p).pd.rxCaps = m.words
      ∧ (t.port p).pd.request = w
      ∧ t.txWaits p .sop (datMsg 2 [w]) = true
      ∧ (t.port p).pd.contract = (s.port p).pd.contract
      ∧ (t.port p).guard = (s.port p).guard
      ∧ (t.port p).stage = (s.port p).stage := by
  have hext := not_ext_of_kind (x := s.port p) (m := m) (by rw [hk]; decide) (by rw [hk]; decide) (by rw [hk]; decide)
  obtain ⟨c, ts, w', tr, e, k, a, hu, -, htr, -⟩ := State.takeMsg_port hext htgt hasm
  have hquiet := Port.inPower_of_taken hpower (c := c) (ts := ts) (w := w') (e := e) (k := k) (a := a) htr
  rw [← hu] at hquiet
  obtain ⟨c', ts', p1, p2, w'', htaken⟩ := ((s.takeMsg p m).port p).capsTaken_eq m (s.takeMsg p m).now
  have hv : ((s.takeMsg p m).modPort p (Port.capsTaken m (s.takeMsg p m).now)).port p = _ := (State.port_modPort ..).trans htaken
  rw [hu] at hv
  have hclass : ((s.takeMsg p m).modPort p (Port.capsTaken m (s.takeMsg p m).now)).classOf
      (((s.takeMsg p m).modPort p (Port.capsTaken m (s.takeMsg p m).now)).port p) = s.classOf (s.port p) :=
    State.classOf_of (s.takeMsg_classes p m) (by rw [hv])
  have hsvc : ((s.takeMsg p m).modPort p (Port.capsTaken m (s.takeMsg p m).now)).serviceDomain = s.serviceDomain :=
    State.serviceDomain_of_rest (t := s.takeMsg p m) (State.takeMsg_rest ..)
  have hans : ((s.takeMsg p m).port p).answersSend m = false := by
    unfold Port.answersSend
    rw [hu]
    dsimp only
    rw [hawait]
    rfl
  refine gives_onMsg (k := .sourceCaps) rfl honly hk hext htgt hasm
    (t := (((s.takeMsg p m).modPort p (Port.capsTaken m (s.takeMsg p m).now)).modPort p fun x => { x with pd := { x.pd with request := w } }).reply p
      .request (datMsg 2 [w])) ?_ ((State.reply_inlet ..).trans rfl) fun _ => ?_
  · refine (if_neg (by rw [htgt]; decide)).trans ((if_neg ?_).trans ((if_neg ?_).trans ?_))
    · rw [hans, Bool.and_false]
      exact Bool.false_ne_true
    · rw [hquiet, hu]
      dsimp only
      rw [hsrc, hawait]
      exact Bool.false_ne_true
    · dsimp only
      rw [if_neg (by rw [hans]; exact Bool.false_ne_true)]
      show ((s.takeMsg p m).modPort p (Port.capsTaken m (s.takeMsg p m).now)).atPoint p ptSnkSelect
        (snkRuleMatches (((s.takeMsg p m).modPort p (Port.capsTaken m (s.takeMsg p m).now)).classOf
          (((s.takeMsg p m).modPort p (Port.capsTaken m (s.takeMsg p m).now)).port p)) m.words) m.eop 0 0 = _
      rw [hclass, State.atPoint_selects (by rw [hclass]; exact hlook) hask, hclass]
      refine State.selectOutcome_names ?_
      have hclass' := hclass
      unfold State.classOf at hclass'
      rw [hclass', hsvc, requestMatch_of_rpSeen (y := s.port p) (by rw [hv]), requestFive_of_rpSeen (y := s.port p) (by rw [hv]), hv]
      exact hw.symm
  · rw [State.reply_resumes]
    obtain ⟨hwaits, hs⟩ := State.select_answers (p := p) (v := (s.takeMsg p m).modPort p (Port.capsTaken m (s.takeMsg p m).now)) (w := w)
    rw [hv] at hs
    have ht := Port.terms_of_sans hs
    exact ⟨(Pd.rxCaps_of_terms ht).trans rfl, (Pd.request_of_terms ht).trans rfl, hwaits, (Pd.contract_of_terms ht).trans rfl,
      (Port.guard_of_sans hs).trans rfl, (Port.stage_of_sans hs).trans rfl⟩

end Sys2Proof.Machine
end


section
/-! Accept, Reject and Wait: the clauses of O30 on their effects (R208, R211, R224, R226, R234). -/

namespace Sys2Proof.Machine

variable {s : State} {p : PortId} {m : RxMsg}

/-! ### ACCEPT (R208, R211, R234) -/

theorem Port.arm_armed (x : Port) (i : Fin 12) (u : Use) (n : Nat) : (x.arm i u n).timers[i] = Timer.armed' u n := by
  unfold Port.arm Port.setTimer
  simp

theorem accept_starts {e : Transition} (hack : (s.port p).pd.accAck = true) (hswap : (s.port p).pd.swapMsg = none) (htr : (s.port p).pd.trans = some e)
    (hpos : (s.port p).pd.contract.pos ≠ e.pos) (hrun : s.pdRuns p = true) :
    gives (.accept p) s fun t => (t.port p).pd.trans = some { e with accepted := true, moving := none }
      ∧ (t.port p).pd.accAck = false
      ∧ (t.port p).pd.contract.inTransition = true
      ∧ (t.port p).timers[tPower] = Timer.armed' .srcTransition (s.port p).tSrcTrans
      ∧ (t.port p).stage = (s.port p).stage
      ∧ t.pool = s.pool
      ∧ (t.port p).guard = (s.port p).guard
      ∧ (t.port p).tc = (s.port p).tc := by
  have he : exec (.accept p) s = .next ((s.modPort p fun x => { x with pd := { x.pd with accAck := false, swapMsg := none } }).modPort p
      fun x => x.beginTransition s.now) := by
    refine congrArg Host.Outcome.next ((if_pos hack).trans ((if_neg (by rw [hrun]; decide)).trans ?_))
    rw [hswap]
  refine gives_of_exec he ?_
  rw [State.port_modPort, State.port_modPort]
  unfold Port.beginTransition
  dsimp only
  rw [htr]
  dsimp only
  have hsame : ((s.port p).pd.contract.pos == e.pos) = false := beq_false_of_ne hpos
  rw [hsame]
  exact ⟨rfl, rfl, rfl, Port.arm_armed .., rfl, rfl, rfl, rfl⟩

theorem accept_sink (honly : s.onlyMsg p m) (htgt : m.tgt = .sop) (hk : kindOf (s.port p) m = .accept) (hack : (s.port p).pd.accAck = false)
    (howed : (s.port p).pd.owed = none) (hawait : (s.port p).pd.await = .answerToRequest) (hasm : ((s.port p).ctxOf m.tgt).asm = none) :
    gives (.accept p) s fun t => ((t.port p).pd.trans.map fun e => (e.source, e.accepted, e.v, e.i)) = some (false, true, (readRequest (s.port p).pd.rxCaps false (s.port p).pd.request none).v, (readRequest (s.port p).pd.rxCaps false (s.port p).pd.request none).i)
      ∧ (t.port p).pd.await = .none
      ∧ (t.port p).pd.contract.inTransition = true
      ∧ (t.port p).timers[tPower] = Timer.armed' .psTransition (s.port p).tPsTrans
      ∧ (t.port p).guard = (s.port p).guard
      ∧ (t.port p).tc = (s.port p).tc := by
  have hext := not_ext_of_kind (x := s.port p) (m := m) (by rw [hk]; decide) (by rw [hk]; decide) (by rw [hk]; decide)
  obtain ⟨c, ts, w, tr, e, k, a, hu, -⟩ := State.takeMsg_port hext htgt hasm
  have hv : ((s.takeMsg p m).modPort p fun x => (x.disarm tResponse).sinkAccept).port p = _ := State.port_modPort ..
  rw [hu] at hv
  refine gives_onMsg (k := .accept) (congrArg Host.Outcome.next ((if_neg (by rw [hack]; exact Bool.false_ne_true)).trans
    (if_neg (by rw [howed]; exact Bool.false_ne_true)))) honly hk hext htgt hasm
    (t := (s.takeMsg p m).modPort p fun x => (x.disarm tResponse).sinkAccept) ?_ rfl fun _ => ?_
  · refine (if_neg (by rw [htgt]; decide)).trans ?_
    rw [hu]
    dsimp only
    rw [hawait]
  · rw [State.resumeAms_stays (.inr (.inr (.inr (.inr (by rw [hv]; unfold Port.inPower; exact Bool.or_true _))))), hv]
    exact ⟨rfl, rfl, rfl, Port.arm_armed .., rfl, rfl⟩

end Sys2Proof.Machine
end


section
/-! Accept of a DR_Swap, Reject and Wait: the clauses of O30 on the answers of the partner (R211, R224, R226, R234). -/

namespace Sys2Proof.Machine

variable {s : State} {p : PortId} {m : RxMsg}

/-- Nothing begins where no VDM waits. -/
theorem State.kick_quiet (hvdm : (s.port p).pd.vdm = none) : s.kick p = s := by
  unfold State.kick
  rw [hvdm]

/-- The partner's AMS ends and nothing begins behind it. -/
theorem State.partnerDone_quiet (hstart : (s.port p).pd.start = none ∨ (s.port p).pd.powerSource = false) (hvdm : (s.port p).pd.vdm = none) :
    s.partnerDone p = s.modPort p fun x => { x with pd := { x.pd with partnerAms := false } } := by
  unfold State.partnerDone
  dsimp only
  rw [if_neg (by rcases hstart with h | h <;> simp [h]), State.kick_quiet (by rw [State.port_modPort]; exact hvdm)]

theorem accept_dr {r : SwapReq} (honly : s.onlyMsg p m) (htgt : m.tgt = .sop) (hk : kindOf (s.port p) m = .accept) (hack : (s.port p).pd.accAck = false)
    (howed : (s.port p).pd.owed = none) (hawait : (s.port p).pd.await = .swapAnswer) (hreq : (s.port p).pd.swapReq = some r) (hr : r.kind = .dr)
    (hstart : (s.port p).pd.start = none) (hvdm : (s.port p).pd.vdm = none) (hasm : ((s.port p).ctxOf m.tgt).asm = none) :
    gives (.accept p) s fun t => (t.port p).pd.dfp = !(s.port p).pd.dfp
      ∧ (t.port p).pd.powerSource = (s.port p).pd.powerSource
      ∧ (t.port p).pd.swapReq = none
      ∧ (t.port p).pd.ownAms = false
      ∧ (t.port p).pd.await = .none
      ∧ (t.port p).stage = (s.port p).stage
      ∧ (t.port p).guard = (s.port p).guard := by
  have hext := not_ext_of_kind (x := s.port p) (m := m) (by rw [hk]; decide) (by rw [hk]; decide) (by rw [hk]; decide)
  obtain ⟨c, ts, w, tr, e, k, a, hu, -⟩ := State.takeMsg_port hext htgt hasm
  refine gives_onMsg (k := .accept) (t := ((s.takeMsg p m).modPort p fun x => x.disarm tResponse).beginSwap p .dr true)
    (congrArg Host.Outcome.next ((if_neg (by rw [hack]; exact Bool.false_ne_true)).trans
    (if_neg (by rw [howed]; exact Bool.false_ne_true)))) honly hk hext htgt hasm ?_ ?_ fun _ => ?_
  · refine (if_neg (by rw [htgt]; decide)).trans ?_
    rw [hu]
    dsimp only
    rw [hawait, hreq]
    dsimp only
    rw [hr]
  · simp [State.beginSwap, State.swapDone]
  · generalize s.takeMsg p m = u at hu ⊢
    have hv : ((u.modPort p fun x => x.disarm tResponse).modPort p fun x => { x with pd := { x.pd with dfp := !x.pd.dfp } }).port p = _ :=
      (State.port_modPort ..).trans (congrArg (fun x : Port => { x with pd := { x.pd with dfp := !x.pd.dfp } }) (State.port_modPort u p fun x => x.disarm tResponse))
    rw [hu] at hv
    have hd : (u.modPort p fun x => x.disarm tResponse).beginSwap p .dr true
        = (((u.modPort p fun x => x.disarm tResponse).modPort p fun x => { x with pd := { x.pd with dfp := !x.pd.dfp } }).endSwapReq p 0 0).amsDone p := rfl
    rw [hd]
    generalize ((u.modPort p fun x => x.disarm tResponse).modPort p fun x => { x with pd := { x.pd with dfp := !x.pd.dfp } }) = v at hv ⊢
    have hend := State.endSwapReq_port (s := v) (p := p) (by rw [hv]; exact congrArg Option.isSome hreq) 0 0
    rw [hv] at hend
    generalize v.endSwapReq p 0 0 = z at hend ⊢
    have hown : (z.modPort p Port.endOwn).port p = _ := (State.port_modPort ..).trans (congrArg Port.endOwn hend)
    unfold State.amsDone
    rw [State.partnerDone_quiet (.inl (by rw [hown]; exact hstart)) (by rw [hown]; exact hvdm),
      State.resumeAms_stays (.inl (by rw [State.port_modPort, hown]; exact hstart)), State.port_modPort, hown]
    exact ⟨rfl, rfl, rfl, rfl, rfl, rfl, rfl⟩

theorem reject_swap {r : SwapReq} (honly : s.onlyMsg p m) (htgt : m.tgt = .sop) (hk : kindOf (s.port p) m = .reject)
    (hawait : (s.port p).pd.await = .swapAnswer) (hreq : (s.port p).pd.swapReq = some r) (hvdm : (s.port p).pd.vdm = none)
    (hasm : ((s.port p).ctxOf m.tgt).asm = none) :
    gives (.reject p) s fun t => (t.port p).pd.swapReq = none
      ∧ ((s.port p).pd.start = none → (t.port p).pd.ownAms = false)
      ∧ (t.port p).pd.await = .none
      ∧ (t.port p).pd.powerSource = (s.port p).pd.powerSource
      ∧ (t.port p).pd.dfp = (s.port p).pd.dfp
      ∧ (t.port p).pd.contract = (s.port p).pd.contract
      ∧ (t.port p).stage = (s.port p).stage
      ∧ (t.port p).guard = (s.port p).guard := by
  have hext := not_ext_of_kind (x := s.port p) (m := m) (by rw [hk]; decide) (by rw [hk]; decide) (by rw [hk]; decide)
  obtain ⟨c, ts, w, tr, e, k, a, hu, -⟩ := State.takeMsg_port hext htgt hasm
  have hv : ((s.takeMsg p m).modPort p fun x => x.disarm tResponse).port p = _ := State.port_modPort ..
  rw [hu] at hv
  have hend := State.endSwapReq_port (s := (s.takeMsg p m).modPort p fun x => x.disarm tResponse) (p := p)
    (by rw [hv]; exact congrArg Option.isSome hreq) 0 1
  rw [hv] at hend
  have hown : ((((s.takeMsg p m).modPort p fun x => x.disarm tResponse).endSwapReq p 0 1).modPort p Port.endOwn).port p = _ :=
    (State.port_modPort ..).trans (congrArg Port.endOwn hend)
  refine gives_onMsg (k := .reject) (t := (((s.takeMsg p m).modPort p fun x => x.disarm tResponse).endSwapReq p 0 1).modPort p Port.endOwn)
    rfl honly hk hext htgt hasm ?_ (by simp) fun _ => ?_
  · refine (if_neg (by rw [htgt]; decide)).trans ((if_neg ?_).trans ?_)
    · rw [hu]
      unfold Port.answersSend
      dsimp only
      rw [hawait]
      exact Bool.false_ne_true
    · rw [hu]
      dsimp only
      rw [hawait]
      exact State.kick_quiet (by rw [hown]; exact hvdm)
  · generalize (((s.takeMsg p m).modPort p fun x => x.disarm tResponse).endSwapReq p 0 1).modPort p Port.endOwn = z at hown ⊢
    have hstays (hstart : (s.port p).pd.start = none) : z.resumeAms p = z := State.resumeAms_stays (.inl (by rw [hown]; exact hstart))
    have hvigil := State.resumeAms_vigil z p
    have hpact := State.resumeAms_pact z p
    have hbody := State.resumeAms_body z p
    rw [hown] at hvigil hpact hbody
    simp only [Port.pact, Prod.mk.injEq] at hpact
    obtain ⟨hcontract, hrole, hdfp, -, -, -, hnone⟩ := hpact
    refine ⟨?_, fun hstart => by rw [hstays hstart, hown]; rfl, (congrArg Vigil.await hvigil).trans rfl, ?_⟩
    · exact Option.isNone_iff_eq_none.mp hnone
    · exact ⟨hrole, hdfp, hcontract, (Port.stage_of_body hbody).trans rfl, (Port.guard_of_body hbody).trans rfl⟩

end Sys2Proof.Machine
end


section
/-! Wait: the clauses of O30 on a Request and on a swap put off (R211, R226). -/

namespace Sys2Proof.Machine

variable {s : State} {p : PortId} {m : RxMsg}

theorem wait_request (honly : s.onlyMsg p m) (htgt : m.tgt = .sop) (hk : kindOf (s.port p) m = .wait)
    (hawait : (s.port p).pd.await = .answerToRequest) (hsnk : (s.port p).pd.powerSource = false) (hvdm : (s.port p).pd.vdm = none)
    (hasm : ((s.port p).ctxOf m.tgt).asm = none) :
    gives (.wait p) s fun t => (t.port p).timers[tCaps] = Timer.armed' .sinkRequest 25000
      ∧ (t.port p).pd.ownAms = false
      ∧ (t.port p).pd.await = .none
      ∧ (t.port p).pd.contract = (s.port p).pd.contract
      ∧ (t.port p).stage = (s.port p).stage
      ∧ (t.port p).guard = (s.port p).guard := by
  have hext := not_ext_of_kind (x := s.port p) (m := m) (by rw [hk]; decide) (by rw [hk]; decide) (by rw [hk]; decide)
  obtain ⟨c, ts, w, tr, e, k, a, hu, -⟩ := State.takeMsg_port hext htgt hasm
  have hv : ((s.takeMsg p m).modPort p fun x => (x.disarm tResponse).arm tCaps .sinkRequest (ms 100)).port p = _ := State.port_modPort ..
  rw [hu] at hv
  refine gives_onMsg (k := .wait) (t := ((s.takeMsg p m).modPort p fun x => (x.disarm tResponse).arm tCaps .sinkRequest (ms 100)).amsDone p)
    rfl honly hk hext htgt hasm ?_ (by simp) fun _ => ?_
  · refine (if_neg (by rw [htgt]; decide)).trans ?_
    rw [hu]
    dsimp only
    rw [hawait]
  · generalize (s.takeMsg p m).modPort p (fun x => (x.disarm tResponse).arm tCaps .sinkRequest (ms 100)) = v at hv ⊢
    have hown : (v.modPort p Port.endOwn).port p = _ := (State.port_modPort ..).trans (congrArg Port.endOwn hv)
    unfold State.amsDone
    rw [State.partnerDone_quiet (.inr (by rw [hown]; exact hsnk)) (by rw [hown]; exact hvdm),
      State.resumeAms_stays (.inr (.inl (by rw [State.port_modPort, hown]; exact hsnk))), State.port_modPort, hown]
    exact ⟨Port.arm_armed .., rfl, rfl, rfl, rfl, rfl⟩

theorem Port.use_disarm_ne {x : Port} {i j : Fin 12} (h : i.val ≠ j.val) : (x.disarm j).use i = x.use i := by
  unfold Port.use Port.disarm Port.setTimer
  simp only [Fin.getElem_fin]
  rw [Vector.getElem_set_ne _ _ (Ne.symm h)]

/-- A Source's back-off takes CAPS where no other interval runs there (R226). -/
theorem State.armBackoff_source (hsrc : (s.port p).pd.powerSource = true) (hcaps : (s.port p).use tCaps = .idle ∨ (s.port p).use tCaps = .swapBackoff) :
    (s.armBackoff p).port p = ({ s.port p with pd := { (s.port p).pd with
      backUntil := some (s.now + BitVec.ofNat 48 (1000 * fld (s.port p).cfg.swapRetrySrc 0 8)) } } : Port).arm tCaps .swapBackoff
        (1000 * fld (s.port p).cfg.swapRetrySrc 0 8) := by
  have hdrawn (u : State) : u.drawn.port p = u.port p := rfl
  unfold State.armBackoff
  dsimp only
  rw [hdrawn, State.port_modPort, if_pos hsrc]
  exact if_pos (by rcases hcaps with h | h <;> rw [h] <;> rfl)

theorem State.armBackoff_inlet (s : State) (p : PortId) (c : ClusterId) : (s.armBackoff p).pool.inlet c = s.pool.inlet c := rfl

/-- The port as a Source puts its swap off (R226). -/
def Port.putOff (x : Port) : Port :=
  { x with pd := { x.pd with swapReq := x.pd.swapReq.map fun r => { r with crossed := false } } }

theorem Port.putOff_timers (x : Port) : x.putOff.endOwn.timers = x.timers := rfl

theorem Port.putOff_powerSource (x : Port) : x.putOff.endOwn.pd.powerSource = x.pd.powerSource := rfl

theorem State.putOff_port (s : State) (p : PortId) : ((s.modPort p Port.putOff).modPort p Port.endOwn).port p = (s.port p).putOff.endOwn := by
  rw [State.port_modPort, State.port_modPort]

/-- What the back-off of a swap leaves: the role, the swap, and the messages that wait. -/
def Port.swapRest (x : Port) := (x.pd.powerSource, x.pd.swapReq, x.pd.vdm, x.pd.start)

theorem State.putOff_done (hvdm : (s.port p).pd.vdm = none) :
    (s.modPort p fun x => { x with pd := { x.pd with swapReq := x.pd.swapReq.map fun r => { r with crossed := false } } }).ownDone p
      = (s.modPort p Port.putOff).modPort p Port.endOwn := by
  have hquiet : (((s.modPort p Port.putOff).modPort p Port.endOwn).port p).pd.vdm = none := by
    rw [State.port_modPort, State.port_modPort]
    exact hvdm
  exact State.kick_quiet hquiet

theorem wait_swap {r : SwapReq} (honly : s.onlyMsg p m) (htgt : m.tgt = .sop) (hk : kindOf (s.port p) m = .wait)
    (hawait : (s.port p).pd.await = .swapAnswer) (hsrc : (s.port p).pd.powerSource = true) (hreq : (s.port p).pd.swapReq = some r)
    (hvdm : (s.port p).pd.vdm = none) (hcaps : (s.port p).use tCaps = .idle ∨ (s.port p).use tCaps = .swapBackoff)
    (hasm : ((s.port p).ctxOf m.tgt).asm = none) :
    gives (.wait p) s fun t => (t.port p).timers[tCaps] = Timer.armed' .swapBackoff (1000 * fld (s.port p).cfg.swapRetrySrc 0 8)
      ∧ ((s.port p).pd.start = none → (t.port p).pd.swapReq = some { r with crossed := false })
      ∧ ((s.port p).pd.start = none → (t.port p).pd.ownAms = false)
      ∧ (t.port p).pd.powerSource = true := by
  have hext := not_ext_of_kind (x := s.port p) (m := m) (by rw [hk]; decide) (by rw [hk]; decide) (by rw [hk]; decide)
  obtain ⟨c, ts, w, tr, e, k, a, hu, hts, -⟩ := State.takeMsg_port hext htgt hasm
  obtain rfl := hts (.inr (by rcases hcaps with h | h <;> rw [h] <;> decide))
  have hv : ((s.takeMsg p m).modPort p fun x => x.disarm tResponse).port p = _ := State.port_modPort ..
  rw [hu] at hv
  have huse : (((s.takeMsg p m).modPort p fun x => x.disarm tResponse).port p).use tCaps = (s.port p).use tCaps := by
    rw [hv]
    exact Port.use_disarm_ne (by decide)
  have hback := State.armBackoff_source (s := (s.takeMsg p m).modPort p fun x => x.disarm tResponse) (p := p)
    (by rw [hv]; exact hsrc) (by rw [huse]; exact hcaps)
  rw [hv] at hback
  have harmed : (((((s.takeMsg p m).modPort p fun x => x.disarm tResponse).armBackoff p).port p)).timers[tCaps]
      = Timer.armed' .swapBackoff (1000 * fld (s.port p).cfg.swapRetrySrc 0 8) := by
    rw [hback]
    exact Port.arm_armed ..
  have hrest : (((((s.takeMsg p m).modPort p fun x => x.disarm tResponse).armBackoff p).port p)).swapRest = (s.port p).swapRest := by
    rw [hback]
    rfl
  simp only [Port.swapRest, Prod.mk.injEq] at hrest
  obtain ⟨hsrc', hreq', hvdm', hstart'⟩ := hrest
  refine gives_onMsg (k := .wait) (t := ((((s.takeMsg p m).modPort p fun x => x.disarm tResponse).armBackoff p).modPort p Port.putOff).modPort p Port.endOwn)
    rfl honly hk hext htgt hasm ?_ rfl fun _ => ?_
  · refine (if_neg (by rw [htgt]; decide)).trans ?_
    rw [hu]
    dsimp only
    rw [hawait]
    exact State.putOff_done (hvdm'.trans hvdm)
  · have hz := State.putOff_port (((s.takeMsg p m).modPort p fun x => x.disarm tResponse).armBackoff p) p
    generalize ((((s.takeMsg p m).modPort p fun x => x.disarm tResponse).armBackoff p).modPort p Port.putOff).modPort p Port.endOwn = z at hz ⊢
    generalize (((s.takeMsg p m).modPort p fun x => x.disarm tResponse).armBackoff p).port p = y at harmed hsrc' hreq' hstart' hz
    have hstays (hstart : (s.port p).pd.start = none) : z.resumeAms p = z := State.resumeAms_stays (.inl (by rw [hz]; exact hstart'.trans hstart))
    have hvigil := State.resumeAms_vigil z p
    have hpact := State.resumeAms_pact z p
    rw [hz] at hvigil hpact
    simp only [Port.pact, Prod.mk.injEq] at hpact
    obtain ⟨-, hrole, -⟩ := hpact
    refine ⟨?_, fun hstart => ?_, fun hstart => by rw [hstays hstart, hz]; rfl, ?_⟩
    · rw [Port.timers_of_vigil hvigil, Port.putOff_timers, harmed]
    · rw [hstays hstart, hz]
      exact congrArg (Option.map fun r : SwapReq => { r with crossed := false }) (hreq'.trans hreq)
    · rw [hrole, Port.putOff_powerSource, hsrc', hsrc]

end Sys2Proof.Machine
end


section
/-! PS_RDY: the clauses of O30 on a Sink's contract and on a PR_Swap from source to sink (R209, R231). -/

namespace Sys2Proof.Machine

variable {s : State} {p : PortId} {m : RxMsg}

/-! ### A Sink's contract (R209) -/

theorem Port.keepSink_eq (x : Port) : ∃ ts, x.keepSink = { x with timers := ts } ∧ ts[tPower] = x.timers[tPower] := by
  have harm (u : Use) (n : Nat) : (x.arm tKeep u n).timers[tPower] = x.timers[tPower] := by
    unfold Port.arm Port.setTimer
    simp only [Fin.getElem_fin]
    exact Vector.getElem_set_ne _ _ (by decide)
  have hdisarm : (x.disarm tKeep).timers[tPower] = x.timers[tPower] := by
    unfold Port.disarm Port.setTimer
    simp only [Fin.getElem_fin]
    exact Vector.getElem_set_ne _ _ (by decide)
  unfold Port.keepSink
  split
  · exact ⟨_, rfl, harm ..⟩
  · split
    · exact ⟨_, rfl, harm ..⟩
    · exact ⟨_, rfl, hdisarm⟩

/-- The port as PS_RDY establishes the contract of its transition as Sink (R209, R220). -/
def Port.contracted (b : Beat) (e : Transition) (x : Port) : Port :=
  Port.keepSink { (x.modCtx .sop fun c => { c with hrCnt := 0 }).disarm tPower with
    pd := { x.pd with contract := e.contract b x.pd.contract, trans := none }
    stage := { x.stage with clMode := x.stage.clMode && e.type == 2, iTgt := e.i } }

theorem State.contractMade_sink {e : Transition} (h : e.source = false) : ∃ bytes, s.contractMade p e
    = ((s.updPort p (Port.contracted s.now e)).post 0xC9 p.val bytes).amsDone p := by
  unfold State.contractMade
  simp only [h, Bool.false_eq_true, if_false]
  exact ⟨_, rfl⟩

theorem Port.contracted_claim (b : Beat) (e : Transition) (x : Port) : (x.contracted b e).claim = x.claim := by
  unfold Port.contracted
  obtain ⟨ts, h, -⟩ := Port.keepSink_eq { (x.modCtx .sop fun c => { c with hrCnt := 0 }).disarm tPower with
    pd := { x.pd with contract := e.contract b x.pd.contract, trans := none }
    stage := { x.stage with clMode := x.stage.clMode && e.type == 2, iTgt := e.i } }
  rw [h]
  rfl

/-- What the port holds once its contract as Sink stands. -/
theorem Port.contracted_holds (b : Beat) (e : Transition) (x : Port) :
    (x.contracted b e).pd = { x.pd with contract := e.contract b x.pd.contract, trans := none }
      ∧ ((x.contracted b e).ctxOf .sop).hrCnt = 0 ∧ (x.contracted b e).timers[tPower] = Timer.idle
      ∧ (x.contracted b e).guard = x.guard ∧ (x.contracted b e).tc = x.tc := by
  unfold Port.contracted
  obtain ⟨ts, h, hts⟩ := Port.keepSink_eq { (x.modCtx .sop fun c => { c with hrCnt := 0 }).disarm tPower with
    pd := { x.pd with contract := e.contract b x.pd.contract, trans := none }
    stage := { x.stage with clMode := x.stage.clMode && e.type == 2, iTgt := e.i } }
  rw [h]
  refine ⟨rfl, ?_, hts.trans (Port.disarm_timer ..), rfl, rfl⟩
  exact congrArg Ctx.hrCnt (Port.ctxOf_modCtx_same (x := x) .sop fun c => { c with hrCnt := 0 })

theorem psRdy_sink {e : Transition} (honly : s.onlyMsg p m) (htgt : m.tgt = .sop) (hk : kindOf (s.port p) m = .psRdy)
    (howed : (s.port p).pd.owed = none) (hswap : (s.port p).pd.swap = none) (htrans : (s.port p).pd.trans = some e) (hacc : e.accepted = true)
    (hsink : e.source = false) (hdec : s.deciding p = false) (hsnk : (s.port p).pd.powerSource = false) (hvdm : (s.port p).pd.vdm = none)
    (hrun : s.pdRuns p = true) (hasm : ((s.port p).ctxOf m.tgt).asm = none) :
    gives (.psRdy p) s fun t => (t.port p).pd.contract.pos = e.pos
      ∧ (t.port p).pd.contract.type = e.type
      ∧ (t.port p).pd.contract.vSet = e.v
      ∧ (t.port p).pd.contract.iOp = e.i
      ∧ (t.port p).pd.contract.obj = e.obj
      ∧ (t.port p).pd.contract.inTransition = false
      ∧ (t.port p).pd.trans = none
      ∧ ((t.port p).ctxOf .sop).hrCnt = 0
      ∧ (t.port p).timers[tPower] = Timer.idle
      ∧ (t.port p).guard = (s.port p).guard
      ∧ (t.port p).tc.st = (s.port p).tc.st := by
  have hext := not_ext_of_kind (x := s.port p) (m := m) (by rw [hk]; decide) (by rw [hk]; decide) (by rw [hk]; decide)
  obtain ⟨c, ts, w, tr, ep, k, a, hu, -, -, htr⟩ := State.takeMsg_port hext htgt hasm
  obtain rfl := htr hdec
  have hheld := Port.contracted_holds (s.takeMsg p m).now e ((s.takeMsg p m).port p)
  have hport : ((s.takeMsg p m).updPort p (Port.contracted (s.takeMsg p m).now e)).port p = ((s.takeMsg p m).port p).contracted (s.takeMsg p m).now e :=
    State.updPort_of_claim (Port.contracted_claim ..)
  refine gives_onMsg (k := .psRdy) (t := (s.takeMsg p m).contractMade p e)
    (congrArg Host.Outcome.next (if_neg (by rw [howed, hrun]; exact Bool.false_ne_true))) honly hk hext htgt hasm ?_ ?_ fun _ => ?_
  · refine (if_neg ?_).trans ?_
    · rw [hu, htgt]
      unfold Port.expectsPsRdy
      dsimp only
      rw [hswap, htrans]
      dsimp only
      rw [hacc, hsink]
      exact Bool.false_ne_true
    · rw [hu]
      dsimp only
      rw [hswap, htrans]
  · obtain ⟨bytes, h⟩ := State.contractMade_sink (s := s.takeMsg p m) (p := p) hsink
    rw [h, State.amsDone_inlet, State.post_inlet, State.updPort_inlet]
  · obtain ⟨bytes, h⟩ := State.contractMade_sink (s := s.takeMsg p m) (p := p) hsink
    rw [h]
    generalize ((s.takeMsg p m).port p).contracted (s.takeMsg p m).now e = y at hheld hport
    generalize (s.takeMsg p m).updPort p (Port.contracted (s.takeMsg p m).now e) = v at hport ⊢
    rw [hu] at hheld
    obtain ⟨hpd, hcnt, htimer, hguard, htc⟩ := hheld
    have hown : ((v.post 0xC9 p.val bytes).modPort p Port.endOwn).port p = y.endOwn := by rw [State.port_modPort, State.post_port, hport]
    unfold State.amsDone
    have hrole : y.endOwn.pd.powerSource = false := (congrArg Pd.powerSource hpd).trans hsnk
    rw [State.partnerDone_quiet (.inr (by rw [hown]; exact hrole)) (by rw [hown]; exact (congrArg Pd.vdm hpd).trans hvdm),
      State.resumeAms_stays (.inr (.inl (by rw [State.port_modPort, hown]; exact hrole))), State.port_modPort, hown]
    have hcontract : y.pd.contract = e.contract (s.takeMsg p m).now (s.port p).pd.contract := congrArg Pd.contract hpd
    exact ⟨congrArg Contract.pos hcontract, congrArg Contract.type hcontract, congrArg Contract.vSet hcontract, congrArg Contract.iOp hcontract,
      congrArg Contract.obj hcontract, congrArg Contract.inTransition hcontract, congrArg Pd.trans hpd, hcnt, htimer, hguard,
      (congrArg TypeC.st htc :)⟩

end Sys2Proof.Machine
end


section
/-! PS_RDY in a PR_Swap from source to sink (R231), and O30. -/

namespace Sys2Proof.Machine

variable {s : State} {p : PortId} {m : RxMsg}

/-- The port as it has become the Sink of a PR_Swap (R231). -/
def Port.swappedToSink (svc : Bool) (x : Port) : Port :=
  Port.arm (Port.present svc { x.disarm tPower with
    pd := { x.pd with swap := none, vbusWait := true }, tc := { x.tc with st := .attachedSnk }
    stage := { x.stage with runs := { x.stage.runs with sinkLow := 0 } } }) tCaps .sinkWaitCap (ms 465)

/-- The end of a SWAP_REQUEST touches the request alone (R224). -/
theorem State.swapDone_port (s : State) (p : PortId) (own : Bool) : ∃ q b, (s.swapDone p own).port p
    = { s.port p with pd := { (s.port p).pd with swapReq := q, backUntil := b } } := by
  cases own with
  | false => exact ⟨_, _, rfl⟩
  | true =>
    show ∃ q b, (s.endSwapReq p 0 0).port p = _
    cases hreq : (s.port p).pd.swapReq with
    | none =>
      have hsame : s.endSwapReq p 0 0 = s := by
        unfold State.endSwapReq
        rw [hreq]
      rw [hsame]
      exact ⟨_, _, rfl⟩
    | some r => exact ⟨_, _, State.endSwapReq_port (by rw [hreq]; rfl) 0 0⟩

theorem State.swapDone_inlet (s : State) (p : PortId) (own : Bool) (c : ClusterId) : (s.swapDone p own).pool.inlet c = s.pool.inlet c := by
  cases own with
  | false => rfl
  | true => exact State.endSwapReq_inlet ..

theorem State.partnerDone_pact (s : State) (p : PortId) : ((s.partnerDone p).port p).pact = (s.port p).pact := by
  unfold State.partnerDone
  dsimp only
  split
  · rw [State.launch_pact, State.port_modPort, Port.endSinkTx_pact, State.port_modPort]
    rfl
  · rw [State.kick_pact, State.port_modPort]
    rfl

theorem State.partnerDone_body (s : State) (p : PortId) : ((s.partnerDone p).port p).body = (s.port p).body := by
  unfold State.partnerDone
  dsimp only
  split
  · rw [State.launch_body, State.port_modPort, Port.endSinkTx_body, State.port_modPort]
    rfl
  · rw [State.kick_body, State.port_modPort]
    rfl

theorem State.amsDone_pact (s : State) (p : PortId) : ((s.amsDone p).port p).pact = (s.port p).pact := by
  unfold State.amsDone
  rw [State.partnerDone_pact, State.port_modPort, Port.endOwn_pact]

theorem State.amsDone_body (s : State) (p : PortId) : ((s.amsDone p).port p).body = (s.port p).body := by
  unfold State.amsDone
  rw [State.partnerDone_body, State.port_modPort, Port.endOwn_body]

theorem psRdy_swapped {w : Swap} (honly : s.onlyMsg p m) (htgt : m.tgt = .sop) (hk : kindOf (s.port p) m = .psRdy)
    (howed : (s.port p).pd.owed = none) (hswap : (s.port p).pd.swap = some w) (hkind : w.kind = .pr) (hsrc : w.wasSource = true)
    (hstep : w.step = 5) (hrun : s.pdRuns p = true) (hasm : ((s.port p).ctxOf m.tgt).asm = none) :
    gives (.psRdy p) s fun t => (t.port p).tc.st = .attachedSnk
      ∧ (t.port p).pd.swap = none
      ∧ (t.port p).pd.vbusWait = true
      ∧ (t.port p).guard = (s.port p).guard
      ∧ (t.port p).harn = (s.port p).harn := by
  have hext := not_ext_of_kind (x := s.port p) (m := m) (by rw [hk]; decide) (by rw [hk]; decide) (by rw [hk]; decide)
  obtain ⟨c, ts, cw, tr, ep, k, a, hu, -⟩ := State.takeMsg_port hext htgt hasm
  refine gives_onMsg (k := .psRdy) (t := (((s.takeMsg p m).updPort p (Port.swappedToSink (isService p))).swapDone p w.own).amsDone p)
    (congrArg Host.Outcome.next (if_neg (by rw [howed, hrun]; exact Bool.false_ne_true))) honly hk hext htgt hasm ?_ ?_ fun _ => ?_
  · refine (if_neg ?_).trans ?_
    · rw [hu, htgt]
      unfold Port.expectsPsRdy
      dsimp only
      rw [hswap]
      dsimp only
      rw [hkind, hsrc, hstep]
      exact Bool.false_ne_true
    · rw [hu]
      dsimp only
      rw [hswap]
      dsimp only
      rw [hkind]
      exact if_pos hsrc
  · rw [State.amsDone_inlet, State.swapDone_inlet, State.updPort_inlet]
  · have hst : (((s.takeMsg p m).updPort p (Port.swappedToSink (isService p))).port p).tc.st = .attachedSnk := State.updPort_port_tc_st ..
    have hpd : (((s.takeMsg p m).updPort p (Port.swappedToSink (isService p))).port p).pd = _ := State.updPort_port_pd ..
    have hguard : (((s.takeMsg p m).updPort p (Port.swappedToSink (isService p))).port p).guard = _ := State.updPort_port_guard ..
    have hharn : (((s.takeMsg p m).updPort p (Port.swappedToSink (isService p))).port p).harn = _ := State.updPort_port_harn ..
    rw [hu] at hpd hguard hharn
    generalize (s.takeMsg p m).updPort p (Port.swappedToSink (isService p)) = v at hst hpd hguard hharn ⊢
    obtain ⟨q, b, hdone⟩ := v.swapDone_port p w.own
    have hpact := (State.resumeAms_pact ((v.swapDone p w.own).amsDone p) p).trans (State.amsDone_pact ..)
    have hbody := (State.resumeAms_body ((v.swapDone p w.own).amsDone p) p).trans (State.amsDone_body ..)
    rw [hdone] at hpact hbody
    simp only [Port.pact, Prod.mk.injEq] at hpact
    obtain ⟨-, -, -, hnone, hwait, -⟩ := hpact
    exact ⟨(Port.st_of_body hbody).trans hst, hnone.trans (congrArg Pd.swap hpd), hwait.trans (congrArg Pd.vbusWait hpd),
      (Port.guard_of_body hbody).trans hguard, (congrArg (fun r => r.2.2.1) hbody).trans hharn⟩

/-- Settles O30: each message of a negotiation is taken, acted on and, where an AMS of the Source's own waits, followed by it; what the
action queues, arms and ends is the clause's conclusion. -/
theorem negotiation : Obligations.Negotiation := by
  refine ⟨?_, ?_, ?_, ?_, ?_, ?_, ?_, ?_, ?_, ?_, ?_, ?_, ?_⟩
  · exact fun p m s honly htgt hk hsrc hpower hawait hbad hasm => request_rejected honly htgt hk hsrc hpower hawait hbad hasm
  · exact fun p m q s honly htgt hk hsrc hpower hawait hq hvalid hout hasm => request_accepted honly htgt hk hsrc hpower hawait hq hvalid hout hasm
  · exact fun id d s hd hpoint _ => decision_defaults hd hpoint
  · exact fun p m s honly htgt hk hsrc hpower hawait hlook hasm =>
      capabilities_answered honly htgt hk hsrc hpower hawait hlook (by decide) (if_neg (by decide)).symm hasm
  · intro p m i d s honly htgt hk hsrc hpower hawait hlook hasm
    obtain ⟨t, he, hcaps, hreq, hwaits, -⟩ :=
      capabilities_answered honly htgt hk hsrc hpower hawait hlook (by decide) (if_pos rfl).symm hasm
    exact ⟨t, he, hcaps, hreq, by rw [hreq]; exact hwaits⟩
  · exact fun p e s hack hswap htr hpos hrun => accept_starts hack hswap htr hpos hrun
  · exact fun p m s honly htgt hk hack howed hawait hasm => accept_sink honly htgt hk hack howed hawait hasm
  · exact fun p m r s honly htgt hk hack howed hawait hreq hr hstart hvdm hasm => accept_dr honly htgt hk hack howed hawait hreq hr hstart hvdm hasm
  · exact fun p m r s honly htgt hk hawait hreq hvdm hasm => reject_swap honly htgt hk hawait hreq hvdm hasm
  · exact fun p m s honly htgt hk hawait hsnk hvdm hasm => wait_request honly htgt hk hawait hsnk hvdm hasm
  · exact fun p m r s honly htgt hk hawait hsrc hreq hvdm hcaps hasm => wait_swap honly htgt hk hawait hsrc hreq hvdm hcaps hasm
  · exact fun p m e s honly htgt hk howed hswap htrans hacc hsink hdec hsnk hvdm hrun hasm =>
      psRdy_sink honly htgt hk howed hswap htrans hacc hsink hdec hsnk hvdm hrun hasm
  · exact fun p m w s honly htgt hk howed hswap hkind hsrc hstep hrun hasm =>
      psRdy_swapped honly htgt hk howed hswap hkind hsrc hstep hrun hasm

end Sys2Proof.Machine
end
